-- ==== Sys2Proof/Word.lean ====
section
/-!
DEFINITION. The word and byte types of the block's registers and data, and the digest width.
-/

namespace Sys2Proof

/-- A 64-bit register value (R638). -/
abbrev Word := BitVec 64

/-- One byte. -/
abbrev Byte := BitVec 8

/-- A SHA-384 digest (R63, R542). -/
abbrev Digest := BitVec 384

end Sys2Proof
end

