-- ==== Sys2Proof/Types.lean ====
section
/-!
DEFINITION. The names and small records that commands carry and State holds: modes, states, classes, codes, parsed
image records, events and record formats of the LNL-7460.
-/

namespace Sys2Proof

/-- Named values with their byte width: event details (R645) and mailbox payloads (R130). -/
abbrev Fields := List (Nat × Nat)

/-- Device modes, codes 0 to 6 of `SPN_MODE` (R38). -/
inductive Mode where
  | boot | restore | service | dump | parked | recovery | test
  deriving DecidableEq, Repr

/-- Unit state of a role-table entry (R27). -/
inductive UnitState where
  | off | active | failed
  deriving DecidableEq, Repr

/-- One role-table entry (R27). -/
structure RoleEntry where
  func : Nat
  cover : Nat
  gen : Nat
  state : UnitState
  deriving DecidableEq, Repr

/-- The header of a crossbar message (R18), with the bad symbols its beat arrives with (R19). -/
structure XMsg where
  source : Nat
  target : Nat
  role : Nat
  gen : Nat
  cls : Nat
  opcode : Nat
  tag : Nat
  /-- The originator serves a dump, or a host access (R31). -/
  forDump : Bool
  forHost : Bool
  deriving DecidableEq, Repr

/-- The access paths of R440, with the array window of a Causeway head. -/
inductive Path where
  | firmware | bar0 | smbus | array
  deriving DecidableEq, Repr

/-- The CCI a mailbox command came by (R129): the primary mailbox or the MCTP CCI. -/
inductive Via where
  | primary | mctp
  deriving DecidableEq, Repr

/-- Mailbox return codes the spec names (R124 to R130, R400). -/
inductive Ret where
  | success | backgroundStarted | invalidInput | unsupported | internalError | retryRequired | busy | aborted
  deriving DecidableEq, Repr

/-- Ack classes (R64, R134). -/
inductive AckClass where
  | loc | mirrored | vaulted
  deriving DecidableEq, Repr

/-- Key modes of a region (R64). -/
inductive KeyMode where
  | native | derived | plain
  deriving DecidableEq, Repr

/-- The eight granule states, codes 0 to 7 (R169). -/
inductive GState where
  | free | dirty | inflight | redirty | shadowed | pending | poison | lost
  deriving DecidableEq, Repr

/-- The 4-bit state word of a granule (R169). -/
structure GWord where
  st : GState
  stale : Bool
  deriving DecidableEq, Repr

/-- Region lifecycle states (R165). -/
inductive Lifecycle where
  | offline | starting | online | stopping
  deriving DecidableEq, Repr

/-- One REGIONS entry (R64). -/
structure RegionEntry where
  base : Nat
  size : Nat
  sequential : Bool
  ack : AckClass
  key : KeyMode
  sideB : Bool
  qos : Nat
  dumpPrio : Nat
  restPrio : Nat
  share : Nat
  settleUs : Nat
  deriving DecidableEq, Repr

/-- STRUCTURE (R57). -/
structure StructureRec where
  quadEn : Nat
  route : List Nat
  vchMap : List Nat
  deriving DecidableEq, Repr

/-- MEMORY (R59). -/
structure MemoryRec where
  density : Nat
  ranks : Nat
  dataRate : Nat
  refresh : Nat
  timing : List Nat
  deriving DecidableEq, Repr

/-- One FEATURE entry of VAULT (R61). -/
structure Feature where
  addr : Nat
  perLun : Bool
  value : Nat
  deriving DecidableEq, Repr

/-- VAULT (R61). -/
structure VaultRec where
  diesPerCh : Nat
  planes : Nat
  pageData : Nat
  pageSpare : Nat
  pagesPerBlock : Nat
  blocksPerPlane : Nat
  featureCount : Nat
  onfiTiming : Nat
  endurance : Nat
  features : List Feature
  deriving DecidableEq, Repr

/-- A bounded parameter of ENERGY or LIFE (R66) with its value in force. -/
structure Param where
  id : Nat
  lo : Nat
  val : Nat
  hi : Nat
  deriving DecidableEq, Repr

/-- ENERGY (R68). -/
structure EnergyRec where
  cells : Nat
  params : List Param
  deriving DecidableEq, Repr

/-- PAIR (R72). -/
structure PairRec where
  sideB : Bool
  tiebreakB : Bool
  txSpare : Nat
  rxSpare : Nat
  txPol : Nat
  rxPol : Nat
  txMap : List Nat
  rxMap : List Nat
  deriving DecidableEq, Repr

/-- ARRAY (R74). -/
structure ArrayRec where
  idFromImage : Bool
  headFromImage : Bool
  headCapable : Bool
  ringEn : Bool
  id : Nat
  deriving DecidableEq, Repr

/-- One POOLS entry (R75). -/
structure PoolEntry where
  count : Nat
  spillUp : Bool
  deriving DecidableEq, Repr

/-- One EVENTS entry (R77). -/
structure EventsEntry where
  id : Nat
  mask : Nat
  alert : Nat
  snaps : List Nat
  deriving DecidableEq, Repr

/-- CLOCKS (R80). -/
structure ClocksRec where
  coreSsc : Nat
  hostRef : Nat
  vaultRate : Nat
  deriving DecidableEq, Repr

/-- PINS (R80). -/
structure PinsRec where
  smbAddr : Nat
  smbSpeed : Nat
  pinFlags : Nat
  drive : Nat
  deriving DecidableEq, Repr

/-- SECURITY (R80). -/
structure SecurityRec where
  keyModes : Nat
  alarmEn : Nat
  secFlags : Nat
  dummyMax : Nat
  deriving DecidableEq, Repr

/-- One PRESETS entry (R82). -/
structure Preset where
  offset : Nat
  value : Nat
  deriving DecidableEq, Repr

/-- A record of an image as framed: its type, flags and payload bytes (R54). -/
structure RawRecord where
  type : Nat
  flags : Nat
  payload : List Nat
  deriving DecidableEq, Repr

/-- An event on its way to the EVR: identifier (R515), reporting unit (R645) and the parameters of its DETAIL. -/
structure Event where
  id : Nat
  source : Nat
  detail : Fields
  deriving DecidableEq, Repr

/-- A built Sedge record (R516). `MAGIC`, `FORMAT`, `CRC` and `VALID` are constants or computed of these fields. -/
structure SedgeRec where
  id : Nat
  seq : Nat
  fromAos : Bool
  fold : Bool
  snapSkipped : Bool
  final : Bool
  memOnly : Bool
  opSec : Nat
  lastSec : Nat
  powerCycles : Nat
  rep : Nat
  overflow : Nat
  timestamp : Nat
  mode : Nat
  source : Nat
  detail : Fields
  snaps : List (Nat × Nat)
  deriving DecidableEq, Repr

/-- A gauge record (R232). -/
structure GaugeRec where
  cells : Nat
  relearn : Bool
  capSuspect : Bool
  esrHigh : Bool
  calValid : Bool
  learnOpen : Bool
  swapDerate : Bool
  seq : Nat
  cLearned : Nat
  kSlope : Int
  cycles : Nat
  storeId : Nat
  esr : List Nat
  esrBase : Nat
  eGibMeas : Nat
  learnSec : Nat
  calSec : Nat
  deriving DecidableEq, Repr

/-- An input set the energy controller sends to the WRP (R187, R222). -/
structure InputSet where
  eUsable : Nat
  reserve : Nat
  eFixed : Nat
  eGib : Nat
  cap : Nat
  storeAbsent : Bool
  swapDerate : Bool
  learning : Bool
  deriving DecidableEq, Repr

/-- Input watch states (R212). -/
inductive InputState where
  | good | qualify | settle | ride | committed
  deriving DecidableEq, Repr

/-- Anchors of the charge count (R219). -/
inductive Anchor where
  | unanchored | full | empty
  deriving DecidableEq, Repr

/-- Learning-cycle states (`LSTATE`). -/
inductive LState where
  | idle | waitFull | waitBudget | running | accepted | disqualified
  deriving DecidableEq, Repr

/-- Reasons HOLDUP_EN is held (`HOLDUP_REASON`). -/
inductive HoldReason where
  | none | input | learning | calibration
  deriving DecidableEq, Repr

/-- One HDM decoder (R114). -/
structure Decoder where
  base : Nat
  size : Nat
  ways : Nat
  skip : Nat
  committed : Bool
  errNotCommitted : Bool
  deriving DecidableEq, Repr

/-- A host event record: General Media or Memory Module, in one of four logs (R124, R532). -/
structure HostEvent where
  memoryModule : Bool
  id : Nat
  seq : Nat
  deriving DecidableEq, Repr

/-- Why a write is held (R9, R117). -/
inductive Hold where
  | none | budget | share | decision | keyReserve | restore | domain
  deriving DecidableEq, Repr

/-- The mirror leg of a write (R134, R147): not wanted, waiting for the acknowledgement of a sequence number, met, or dropped at the
pair's entry into SOLO (R137). -/
inductive MirrorLeg where
  | none | waiting (mseq : Nat) | acked | dropped
  deriving DecidableEq, Repr

/-- An accepted write whose completion has not been sent (R117, R134, R137). -/
structure WriteRec where
  tag : Nat
  line : Nat
  data : BitVec 512
  /-- Byte enables: bit b covers byte b of the line. -/
  mask : Nat
  region : Nat
  eff : AckClass
  hold : Hold
  inDram : Bool
  mirror : MirrorLeg
  twinPassed : Bool
  /-- The granule was released after the write was admitted (R183, R184). -/
  released : Bool
  /-- A link event discards its completion (R109). -/
  orphan : Bool
  /-- The write carries poison from the host or a crossbar beat. -/
  poisoned : Bool
  /-- It has been held, so that the longest-completion fields leave it out; and it waits for a partner that reports pressure
  (R198). -/
  everHeld : Bool
  pressed : Bool
  /-- Its data has left the ingress buffer and its credit has gone back (R116); a VAULTED write keeps its credit until it completes
  (R142, R192). -/
  admitted : Bool
  deriving DecidableEq, Repr

/-- Bad bits seen on a read: symbol `sym` of word `word` of the line is off by `err` (R593). -/
structure SymErr where
  word : Nat
  sym : Nat
  err : Nat
  deriving DecidableEq, Repr

/-- A read received and not yet answered (R151, R157), with the errors its DRAM burst will show. -/
structure ReadRec where
  tag : Nat
  line : Nat
  errs : List SymErr
  /-- The errors that a second read of the line shows (R597). -/
  again : List SymErr
  deriving DecidableEq, Repr

/-- The content of one 16 KiB granule: bytes that differ from 0 by offset, and the 64-bit words, by index in the granule,
that carry the poison mark. -/
structure GranuleData where
  cells : List (Nat × BitVec 8)
  poison : List Nat
  deriving DecidableEq, Repr

/-- Regimes of the Peat stream (R254). -/
inductive Regime where
  | idle | deferrable | normal | top
  deriving DecidableEq, Repr

/-- Garbage-collection states (R265). -/
inductive GcState where
  | idle | background | critical
  deriving DecidableEq, Repr

/-- Results of a flash operation (R495). -/
inductive FlashResult where
  | ok | progFail | eraseFail | aborted | notErased | quag | locked | busy | unjournalled
  deriving DecidableEq, Repr

/-- Issuers of flash operations, codes 0 to 4 (R495). -/
inductive FlashAgent where
  | firmware | sedge | energy | cip | kor
  deriving DecidableEq, Repr

/-- The modes of a flash bank (R493). -/
inductive BankMode where
  | read | status | counter | row
  deriving DecidableEq, Repr

/-- A journal entry (R502): type 1 START, 2 DONE, 3 COPY. -/
structure JEntry where
  type : Nat
  bank : Nat
  sector : Nat
  seq : Nat
  aux : Nat
  deriving DecidableEq, Repr

/-- A reservation entry (R457): type 1 MARK, 2 BIND, 3 ARM. -/
structure NonceRec where
  type : Nat
  slot : Nat
  root : Nat
  seq : Nat
  mark : Nat
  kcv : Nat
  deriving DecidableEq, Repr

/-- A reservation snapshot (R457): marks, bound check values and root selectors by slot; unlisted slots 0. -/
structure NonceSnap where
  seq : Nat
  marks : List (Nat × Nat)
  kcvs : List (Nat × Nat)
  roots : List (Nat × Nat)
  deriving DecidableEq, Repr

/-- A pair record (R400): the adopted regions, ascending, and the partner's MEPOCH. -/
structure PairRecord where
  seq : Nat
  adopted : List Nat
  partnerMepoch : Nat
  deriving DecidableEq, Repr

/-- A current step at the store: terminal voltage (mV) and store current (mA) before and after (R226, R230). -/
structure CurrentStep where
  vBefore : Nat
  vAfter : Nat
  iBefore : Int
  iAfter : Int
  deriving DecidableEq, Repr

/-- What the measurement channels give at one instant (R205): voltages mV, currents mA, temperatures 0.1 °C, NTCs that
read open or short, and the charge (µC) that flowed into the store since the last sample (R218). -/
structure Sample where
  vStore : Nat
  iStore : Int
  vInput : Nat
  iInput : Nat
  tDiode : Int
  tNtc0 : Int
  tNtc1 : Int
  bad0 : Bool
  bad1 : Bool
  dQ : Int
  deriving DecidableEq, Repr

/-- The pages a quadrant writes in a dump (R281, R361 to R364): structure pages by their index, data pages by granule. -/
inductive DumpPage where
  | tail (i : Nat)
  | header
  | list (i : Nat)
  | data (g : Nat)
  | delta (i : Nat)
  | body
  | mark
  deriving DecidableEq, Repr

/-! ## Korric link -/

/-- Pair states, codes 0 to 5 of `PAIR_STATE` (R389). -/
inductive PairState where
  | unpaired | training | mirrored | deciding | solo | resync
  deriving DecidableEq, Repr

/-- What a received flit's header carries (R374): sequence, acknowledgements and flags. -/
structure FlitHdr where
  fseq : Nat
  fack : Nat
  mackLo : Nat
  nak : Bool
  pressure : Bool
  swapReq : Bool
  dumping : Bool
  deriving DecidableEq, Repr

/-- A line slot of a MIRROR or REPAIR flit (R376); in a REPAIR flit `mseq` holds the request tag. -/
structure LineSlot where
  mseq : Nat
  line : Nat
  mask : Nat
  data : BitVec 512
  deriving DecidableEq, Repr

/-- The control messages of R377. -/
inductive KMsg where
  | state (sideB tiebreakB : Bool) (cwyId mepoch mseqNext pairState : Nat)
  | digest (part value : Nat)
  | openQuery (region : Nat)
  | openReply (region answer : Nat)
  | shadowNotice (granule mseq : Nat)
  | shadowMap (first bits : Nat)
  | releaseNotice (first count : Nat)
  | releaseDone (first count : Nat)
  | pressure (on : Bool) (d b : Nat)
  | dumpNotice (kind seq : Nat)
  | poisonLine (line mseq : Nat)
  | repairReq (granule tag : Nat)
  | repairReply (granule answer tag : Nat)
  | resyncEnd (resent : Nat)
  | adopted (region : Nat)
  | adoptReply (region answer : Nat)
  | giveBack (region : Nat)
  | ownCopyDone (region : Nat)
  | laneSwap (cause lane codeword : Nat)
  | laneSwapAck (lane codeword : Nat)
  deriving DecidableEq, Repr

/-- A flit's kind and payload (R375). -/
inductive FlitBody where
  | heartbeat
  | mirror (slots : List LineSlot)
  | control (msgs : List KMsg)
  | repair (slots : List LineSlot)
  deriving DecidableEq, Repr

/-! ## Causeway -/

/-- A frame's type and payload (R413). -/
inductive FrameBody where
  | rollCall (live dumping headcap : Nat)
  | claim
  | join (serial : Nat)
  | witnessQ (target : Nat)
  | witnessA (target result : Nat)
  | winRd (off : Nat)
  | winRdA (status data : Nat)
  | winWr (off be data : Nat)
  | mctp (packet : List Nat)
  | cmd (sub : Nat) (payload : List Nat)
  | cmdA (sub status : Nat) (result : Fields)
  | fwData (off : Nat) (data : List Nat)
  deriving DecidableEq, Repr

/-- A Causeway frame (R412); destination 0xFF is broadcast. -/
structure Frame where
  dst : Nat
  src : Nat
  hops : Nat
  tag : Nat
  body : FrameBody
  deriving DecidableEq, Repr

/-! ## Cipher engine -/

/-- States of a key slot (R438) and of a slice or unit that starts and stops. -/
inductive RunState where
  | off | starting | on | stopping
  deriving DecidableEq, Repr

/-- Kinds and classes of cipher operations (R428, R429). -/
inductive CipKind where
  | encrypt | decrypt | rekey | derive
  deriving DecidableEq, Repr

inductive CipClass where
  | save | twin | service
  deriving DecidableEq, Repr

/-- A cipher operation: kind, class, slot, quadrant of the requesting SDE and the granule, where there is one. -/
structure CipOp where
  kind : CipKind
  cls : CipClass
  slot : Nat
  quad : Nat
  granule : Nat
  deriving DecidableEq, Repr

/-- Results of an operation (R436). -/
inductive CipResult where
  | done | atGuard | atMark | tagFail | keyAbsent
  deriving DecidableEq, Repr

/-! ## Tussock -/

/-- Classes of an ALLOC, in rank order but for the two last codes (R474, R476). -/
inductive AllocClass where
  | dump | restore | mirrorIn | shadow | cipher | firmware
  deriving DecidableEq, Repr

/-- One ALLOC request (R469, R470). -/
structure AllocReq where
  requester : Nat
  cls : AllocClass
  size : Nat
  deriving DecidableEq, Repr

/-! ## Attestation -/

/-- Transports of the SPDM responder (R550). -/
inductive Transport where
  | doe | smbus | vdm
  deriving DecidableEq, Repr

/-- Kinds of code and image components (R537, R556). -/
inductive CompKind where
  | loader | firmware | image
  deriving DecidableEq, Repr

/-- A component of a firmware package: its 64-bit words. -/
structure Component where
  kind : CompKind
  words : List Nat
  deriving DecidableEq, Repr

/-! ## Power -/

/-- An entry of the AOS wake area (R577): kind, domains, repeats and the AON time of the first event. -/
structure WakeEntry where
  kind : Nat
  domains : Nat
  repeats : Nat
  time : Nat
  deriving DecidableEq, Repr

/-- The four filtered inputs (R586). -/
inductive FilterPin where
  | pfailWarn | tamper | storePres | pfailOd
  deriving DecidableEq, Repr

/-- Filter states, codes 0 to 3 (R586). -/
inductive FilterState where
  | idle | qualify | asserted | stuck
  deriving DecidableEq, Repr

/-- The supply rails (R616). -/
inductive Rail where
  | core | io | mem | vlt | sds09 | sds12 | aon
  deriving DecidableEq, Repr

/-- The on-chip SRAM arrays in the order of R601. -/
inductive Sram where
  | gst | descriptor | staging | regions | mapCache | replay | management | aos | cipher | manifest
  deriving DecidableEq, Repr

/-- A word that a scrub finds bad: array, quadrant, address, and whether it is uncorrectable (R601). -/
structure SramWord where
  array : Sram
  quad : Nat
  addr : Nat
  bad : Bool
  deriving DecidableEq, Repr

/-- What a word of the reserved DRAM holds (R22, R604): an entry of the candidate ring, a touch-array word or a vault-map entry of a
granule, or something without an owner's rule. -/
inductive ReservedWord where
  | none | ring
  | touch (g : Nat)
  | mapEntry (g : Nat)
  deriving DecidableEq, Repr

/-- What the device sends: one entry of State's output list. -/
inductive Output where
  /-- S2M NDR completion of a write with its DevLoad (R117, R119). -/
  | ndr (tag devload : Nat)
  /-- S2M DRS data of a read, poisoned or not (R119, R157). -/
  | drs (tag : Nat) (data : BitVec 512) (poison : Bool) (devload : Nat)
  /-- The value a register or window read returns on its path (R641). -/
  | readData (path : Path) (value : Nat)
  /-- Completer Abort, or the management complex's bus fault (R498, R643). -/
  | abort (path : Path)
  /-- A mailbox or CCI response (R124 to R130). -/
  | mbox (via : Via) (opcode : Nat) (ret : Ret) (ext : Nat) (payload : Fields)
  /-- An MSI-X vector signalled (R131). -/
  | msix (vector : Nat)
  /-- A GPF phase answered (R121). -/
  | gpf (phase : Nat)
  /-- An AER error reported (R132). -/
  | aer (correctable : Bool)
  /-- A crossbar message accepted, a STALE_ROLE completion, a resend or a ROLE_UNRESOLVED failure (R29 to R31). -/
  | xbarAccept (msg : XMsg) (poisoned : Bool)
  | xbarStale (source tag : Nat)
  | xbarResend (msg : XMsg)
  | xbarUnresolved (source tag : Nat)
  /-- A CMB request: bytes of the frame (R207). -/
  | cmb (frame : List Nat)
  /-- A Korric flit: its sequence, `NAK`, `PRESSURE`, `SWAP_REQ`, `DUMPING`, `FACK`, `MACK_LO` and payload (R374). -/
  | flit (hdr : FlitHdr) (body : FlitBody)
  /-- A Causeway frame sent or passed on, intact or ended with K30.7 (R412, R414). -/
  | frame (f : Frame) (good : Bool)
  /-- The allocator's answers: a buffer pointer, POOL_EMPTY, REJECTED (R470, R475, R479). -/
  | granted (requester pointer : Nat)
  | poolEmpty (requester : Nat)
  | rejected (requester : Nat)
  /-- An SPDM response: request code answered and its fields; or an ERROR with its code (R551). -/
  | spdm (t : Transport) (code : Nat) (payload : Fields)
  | spdmError (t : Transport) (code : Nat)
  /-- A DOE Discovery or CDAT response (R133). -/
  | doe (payload : Fields)
  /-- An MCTP packet handed to a local endpoint or sent outward by the bridge (R422). -/
  | mctpOut (packet : List Nat)
  deriving DecidableEq, Repr

end Sys2Proof
end

