-- ==== Sys2Proof/Syntax.lean ====
section
/-!
DEFINITION. The commands: one constructor for each row of spec/opcode_table.json, with the operands the row's rule needs.
The table gives the rows no operands; an operand is what the sender chooses (an address, a value, a path) or what the
outside world decides (a measured voltage, the result of a check) (log 1). The rows with operands stand first, since compiled Lean builds
only the first 244 constructors of a type that carry fields.
-/

namespace Sys2Proof

/-- A command of the block. -/
inductive Instr where
  /-- 100 µs after CORE_PG rises the device samples CWY_ID, CWY_HEADCAP and TEST_STRAP. (R614) -/
  | strapSample (id : Nat) (headcap test : Bool)
  /-- After the signature check the loader selects an image, checks it and applies its records in step order. (R85) -/
  | imageApply (certOk : Bool)
  /-- DRAM training of step 5 ends, either trained or failed under R87. (R85) -/
  | dramTrainingDone (okMask : Nat)
  /-- Vault initialization of step 6 ends and the manifest hash is compared, which formats, refuses or continues. (R88) -/
  | vaultInitDone (badDies : List (Nat × Nat)) (badCh factory : List Nat) (readable fresh : Bool)
  /-- The vault map load and merge ends; granule states are built, BOOT ends and RESTORE begins. (R305) -/
  | mapLoaded (ckptOk scanOk : Bool) (noMark noHeader : List (Nat × Nat)) (unread : List Nat)
  /-- A crossbar message header reaches its target port and is checked against the role table entry. (R29) -/
  | messageArrival (m : XMsg) (bad : Nat)
  /-- A STALE_ROLE completion returns to the sender, which re-resolves and resends, or fails with ROLE_UNRESOLVED after three bounces. (R30) -/
  | staleRole (m : XMsg)
  /-- A TEST-mode write to SPN_ROLE_DATA changes the selected unit's role. (R45) -/
  | roleDataWrite (func cover : Nat)
  /-- A write to a register field with no behaviour of its own stores, clamps or is rejected in DUMP. (R11) -/
  | registerWrite (path : Path) (addr width value : Nat) (fact : Bool)
  /-- A read of a register with RC fields returns and clears them, latching the upper half for a following 32-bit read. (R642) -/
  | rcRead (path : Path) (addr width : Nat)
  /-- Host link training completes and the link enters L0. (R107) -/
  | linkUp (speed width : Nat)
  /-- The host sets a decoder's Commit bit and the device commits it or reports Error Not Committed. (R114) -/
  | hdmDecoderCommit (n base size ways skip : Nat)
  /-- The host clears a decoder's Commit bit, which uncommits it unless a higher decoder is committed. (R114) -/
  | hdmDecoderUncommit (n : Nat)
  /-- A CXL.mem write is received, finds its region and is admitted at the GST, held or discarded. (R144) -/
  | memWrite (tag line mask : Nat) (data : BitVec 512) (bad : Bool)
  /-- A CXL.mem read is received and answered according to its granule's state, or waits. (R157) -/
  | memRead (tag line : Nat) (errs again : List SymErr)
  /-- A write's DRAM burst ends; a write that has reached its ack class sends its completion and waiting reads proceed. (R134) -/
  | lineWritten (tag : Nat)
  /-- A TLP with an ECRC error is received and discarded, and an AER error is reported. (R132) -/
  | ecrcError (correctable : Bool)
  /-- The command returns the device's capacity and limits. (R124) -/
  | identifyMemoryDevice (via : Via)
  /-- The command returns health status, media status, life used and counts. (R125) -/
  | getHealthInfo (via : Via) (temp : Nat)
  /-- The command returns the programmable warning thresholds. (R124) -/
  | getAlertConfiguration (via : Via)
  /-- The command sets the programmable warning thresholds. (R124) -/
  | setAlertConfiguration (via : Via) (life hot cold corrected : Nat)
  /-- The command returns the shutdown state stored in AOS. (R124) -/
  | getShutdownState (via : Via)
  /-- The command stores the host's shutdown state in AOS. (R124) -/
  | setShutdownState (via : Via) (v : Nat)
  /-- The command reports POISON and LOST granules of a DPA range. (R126) -/
  | getPoisonList (via : Via) (dpa len : Nat)
  /-- In TEST the command injects poison; in other modes it returns Unsupported. (R124) -/
  | injectPoison (via : Via) (dpa : Nat)
  /-- In TEST the command clears poison; in other modes it returns Unsupported. (R124) -/
  | clearPoison (via : Via) (dpa : Nat) (data : BitVec 512)
  /-- The command lists the Command Effects Log and the vendor log. (R124) -/
  | getSupportedLogs (via : Via)
  /-- The command returns the named log, or the Sedge ring from the oldest record. (R124) -/
  | getLog (via : Via) (uuid off len : Nat)
  /-- The command returns General Media and Memory Module event records. (R124) -/
  | getEventRecords (via : Via) (log : Nat)
  /-- The command clears event records. (R124) -/
  | clearEventRecords (via : Via) (log count : Nat) (all : Bool)
  /-- The command returns the event interrupt policy. (R124) -/
  | getEventInterruptPolicy (via : Via)
  /-- The command sets the event interrupt policy and its MSI-X vectors. (R124) -/
  | setEventInterruptPolicy (via : Via) (info warn fail fatal : Bool)
  /-- The command reports the two firmware slots. (R124) -/
  | getFwInfo (via : Via)
  /-- The command writes a signed package into the inactive bank, holding each first word in AOS. (R556) -/
  | transferFw (via : Via) (slot : Nat) (l : List Component)
  /-- The command programs the held first words so that the components are candidates at the next boot. (R557) -/
  | activateFw (via : Via) (online : Bool)
  /-- The command returns the always-on timestamp. (R124) -/
  | getTimestamp (via : Via)
  /-- The command sets the always-on timestamp. (R124) -/
  | setTimestamp (via : Via) (v : Nat)
  /-- A mailbox or CCI opcode not listed returns Unsupported. (R124) -/
  | unsupportedOpcode (via : Via) (op : Nat)
  /-- The command returns a region's lifecycle, attributes and state counts. (R130) -/
  | regionStateQuery (via : Via) (r : Nat)
  /-- The command frees every granule of a range and forwards a release notice to the partner. (R183) -/
  | releaseRange (via : Via) (dpa len : Nat)
  /-- The command captures every dirty granule of a range and completes once their programs have passed. (R269) -/
  | shadowRange (via : Via) (dpa len : Nat)
  /-- The command captures every dirty granule of the device or of one region and completes once they are shadowed. (R269) -/
  | barrier (via : Via) (scope : Option Nat)
  /-- The command commits a dump with trigger 4, after which the device enters PARKED and P3. (R571) -/
  | park (via : Via)
  /-- The command powers DRAM up, reloads the map and restarts the regions. (R302) -/
  | unpark (via : Via)
  /-- The command queries the witness and adopts the partner's regions when the partner is dead and the copies are current. (R397) -/
  | takeover (via : Via)
  /-- With the correct CONFIRM word, the command adopts the partner's regions in SOLO whatever the witness says. (R398) -/
  | forceTakeover (via : Via) (confirm : Nat)
  /-- SET_POWER_STATE with STATE 0 wakes every domain and leaves P2. (R569) -/
  | setPowerStateP0 (via : Via)
  /-- SET_POWER_STATE with STATE 2 starts the stepped P2 entry. (R567) -/
  | setPowerStateP2 (via : Via)
  /-- SET_POWER_STATE with STATE 3 runs a barrier and then commits a park. (R572) -/
  | setPowerStateP3 (via : Via)
  /-- The command starts a learning cycle at once, under the start conditions. (R224) -/
  | startLearning (via : Via)
  /-- The command commits a calibration dump whose energy measures e_GiB. (R240) -/
  | calibrationDump (via : Via)
  /-- The command reports the vault's geometry, capacity, wear and debt. (R368) -/
  | vaultInfo (via : Via)
  /-- The command rebuilds a POISON granule from parity, its twin or the partner. (R325) -/
  | retryGranule (via : Via) (dpa : Nat) (rebuilt : Bool)
  /-- ARRAY_COMMAND STATUS collects 32-byte status from each addressed live member. (R423) -/
  | arrayStatus (via : Via) (mask : Nat)
  /-- ARRAY_COMMAND BARRIER runs a device barrier on each addressed member. (R424) -/
  | arrayBarrier (via : Via) (mask : Nat)
  /-- ARRAY_COMMAND ROLL_UPDATE updates members' firmware in ascending ID order. (R425) -/
  | rollUpdate (via : Via) (mask : Nat)
  /-- An ARRAY_COMMAND sub-opcode that is not listed returns Invalid Input. (R423) -/
  | arrayUnknownSubopcode (via : Via)
  /-- A member is not back in SERVICE 5 s after its restart and the update stops with status 4. (R425) -/
  | rollUpdateTimeout (m : Nat)
  /-- A DOE Discovery request lists the supported protocols. (R133) -/
  | doeDiscovery (index : Nat)
  /-- A CDAT request returns the DSMAS and DSLBIS entries. (R133) -/
  | cdatRead (entry : Nat)
  /-- The SPDM request resets the transport's connection and returns the versions. (R551) -/
  | getVersion (t : Transport)
  /-- The SPDM request returns the responder's capabilities. (R551) -/
  | getCapabilities (t : Transport)
  /-- The SPDM request selects P-384 and SHA-384, or returns InvalidRequest. (R551) -/
  | negotiateAlgorithms (t : Transport) (offersP384 offersSha384 : Bool)
  /-- The SPDM request returns the digest of certificate slot 0. (R551) -/
  | getDigests (t : Transport)
  /-- The SPDM request returns the certificate chain of slot 0. (R549) -/
  | getCertificate (t : Transport) (slot off len : Nat)
  /-- The SPDM request returns a CHALLENGE_AUTH signed with the identity key. (R552) -/
  | challenge (t : Transport) (slot nonce : Nat)
  /-- The SPDM request returns the measurement blocks in force, signed on request. (R553) -/
  | getMeasurements (t : Transport) (index nonce : Nat) (signed_ : Bool)
  /-- The SPDM request is answered by the responder. (R551) -/
  | respondIfReady (t : Transport)
  /-- An SPDM request outside the supported set receives ERROR UnsupportedRequest. (R551) -/
  | spdmUnsupported (t : Transport)
  /-- A region's start checks end, and it enters ONLINE or falls to OFFLINE with START_FAIL. (R167) -/
  | startChecksComplete (r : Nat)
  /-- The partner has not confirmed within 50 µs and the start fails with code 2. (R167) -/
  | startCheckTimeout (r : Nat)
  /-- A STOPPING region has no DIRTY, INFLIGHT or REDIRTY granule left and moves to OFFLINE or STARTING. (R165) -/
  | regionDrained (r : Nat)
  /-- IMG_LIVE_CTRL OP CHECK runs every check on a slot and updates the slot register only. (R102) -/
  | liveCheck (slot : Nat)
  /-- IMG_LIVE_CTRL OP APPLY checks an image and re-applies REGIONS, POOLS and EVENTS. (R92) -/
  | liveApply (slot : Nat)
  /-- Writing FORCE_ZERO sets or clears the forced zero budget. (R199) -/
  | forceZeroWrite (v : Bool)
  /-- A write held longer than 1 ms logs event 0x030B. (R197) -/
  | writeHoldTimeout (tag : Nat)
  /-- A quadrant's dirty list is built in DRAM and its programs start. (R279) -/
  | dirtyListReady (q : Nat)
  /-- A dump program ends, and the SDE starts its next page or part under the energy gates. (R281) -/
  | dumpProgramComplete (vpa : Nat) (ok : Bool)
  /-- Every 10 µs in DUMP the energy controller gives the sequencer a new E_now. (R284) -/
  | dumpEnergySample (m : Sample)
  /-- The periodic cell-monitor transaction runs, updating cell voltages, balancing and misses. (R207) -/
  | cmbPoll (resp : List Nat)
  /-- Every 1 ms the energy controller computes V_ocv, E_V and E_Q and sends an input set. (R220) -/
  | energyEstimate (m : Sample) (step : Option CurrentStep)
  /-- D ≤ B at the learning input and HOLDUP_EN asserts with reason LEARNING. (R226) -/
  | learnHoldupStart (c : CurrentStep)
  /-- A write to NRG_PARAM_VAL is clamped, refused or accepted, and then causes a new input set. (R242) -/
  | paramWrite (value : Nat)
  /-- The GST epoch counter advances every 50 µs. (R245) -/
  | epochTick (bad : List Nat)
  /-- An SDE examines the head of its candidate ring and drops, recycles or captures the entry. (R247) -/
  | ringExamine (q : Nat) (err : Bool) (bad : List Nat)
  /-- The shadow governor walks a SEQUENTIAL region from SHADOW_PTR and hands over settled granules. (R248) -/
  | sequentialWalk (r : Nat)
  /-- ROW_CLOSE_MS elapses, and the row closes with pad pages. (R253) -/
  | rowCloseTimeout (die : Nat)
  /-- A service vault program ends, and the granule becomes SHADOWED or returns to DIRTY. (R172) -/
  | programComplete (vpa : Nat) (ok : Bool)
  /-- A die misses tPROG_max or tBERS_max plus 40 µs, and the device counts toward or marks it FAILED. (R344) -/
  | dieTimeout (c d : Nat)
  /-- Garbage collection chooses a victim segment and relocates its live pages. (R266) -/
  | gcRelocate (failed : List Nat)
  /-- At most hourly, static wear levelling relocates the least-erased segment. (R267) -/
  | wearLevelMove (failed : List Nat)
  /-- Scrub reads each live segment every 30 days and queues relocation. (R348) -/
  | vaultScrub (n : Nat)
  /-- After a die or channel fails, segments with pages on the lost column are relocated. (R345) -/
  | redundancyRebuild (failed : List Nat)
  /-- A full TWIN segment is compacted into PEAT rows and erased. (R370) -/
  | twinCompaction (n : Nat) (failed : List Nat)
  /-- Every 10 minutes, or after a 20 °C change, a vault channel repeats its training. (R330) -/
  | vaultTraining (c : Nat) (ok : Bool)
  /-- FORCE_FAIL in TEST marks a vault channel FAILED. (R344) -/
  | vaultForceFail (c : Nat)
  /-- An on-demand or bulk fetch ends its tag check, and the granule becomes SHADOWED or POISON. (R318) -/
  | fetchComplete (g : Nat) (tagOk rebuilt : Bool) (us : Nat)
  /-- An SDE issues the next bulk restore read in restore-priority order. (R320) -/
  | bulkRestoreIssue (q : Nat)
  /-- A received flit's header FACK, NAK, MACK and flags are applied, and waiting mirror writes complete. (R380) -/
  | heartbeat (h : FlitHdr)
  /-- A flit with a bad CRC or uncorrectable codeword is discarded, and NAK is set. (R375) -/
  | corruptFlit (uncorrectable : Bool)
  /-- A MIRROR flit's line slots are written to DRAM in MSEQ order and acknowledged. (R382) -/
  | mirror (h : FlitHdr) (slots : List LineSlot)
  /-- REPAIR flit lines arrive, and the requester applies them if the granule is still POISON. (R407) -/
  | repair (h : FlitHdr) (slots : List LineSlot)
  /-- A STATE message gives the partner's side, tiebreak, MEPOCH and sequence, and the mismatches are decided. (R395) -/
  | state (h : FlitHdr) (idx : Nat) (sideB tiebreakB : Bool) (cwyId mepoch mseqNext : Nat)
  /-- A DIGEST message part is compared with this side's region digest. (R101) -/
  | digest (h : FlitHdr) (idx part value : Nat)
  /-- The partner's start check asks whether this side keeps the region's mirror copy open. (R385) -/
  | openQuery (h : FlitHdr) (idx r : Nat)
  /-- The partner's answer passes or fails the third start check. (R385) -/
  | openReply (h : FlitHdr) (idx r answer : Nat)
  /-- A mirror copy covered by the notice becomes SHADOWED and releases its reservation. (R178) -/
  | shadowNotice (h : FlitHdr) (idx g mseq : Nat)
  /-- At rejoin, DIRTY mirror copies named in the map become SHADOWED. (R401) -/
  | shadowMap (h : FlitHdr) (idx first bits : Nat)
  /-- The mirror side frees the granules of the range and answers RELEASE_DONE. (R178) -/
  | releaseNotice (h : FlitHdr) (idx first count : Nat)
  /-- The partner confirms a release, letting RELEASE_RANGE complete. (R185) -/
  | releaseDone (h : FlitHdr) (idx first : Nat)
  /-- The partner's pressure turns on or off, and the owner's shadow regime follows. (R384) -/
  | pressure (h : FlitHdr) (idx : Nat) (on : Bool)
  /-- The partner reports DUMPING, or the end of its dump, and the pair enters SOLO or copies become SHADOWED. (R394) -/
  | dumpNotice (h : FlitHdr) (idx kind seq : Nat)
  /-- The receiver writes the poison mark into the line named, in MSEQ order. (R386) -/
  | poisonLine (h : FlitHdr) (idx line mseq : Nat)
  /-- The mirror side answers a repair request and sends its copy's lines when it is current. (R407) -/
  | repairReq (h : FlitHdr) (idx g tag : Nat)
  /-- The partner's repair answer arrives, and the repair proceeds or counts as refused. (R407) -/
  | repairReply (h : FlitHdr) (idx g answer tag : Nat)
  /-- The partner has finished resending, and the pair may enter MIRRORED. (R389) -/
  | resyncEnd (h : FlitHdr) (idx : Nat)
  /-- The owner learns that the partner holds one of its regions adopted, and releases or declares CONFLICT. (R403) -/
  | adopted (h : FlitHdr) (idx r : Nat)
  /-- The owner's answer to ADOPTED confirms the release or a CONFLICT. (R403) -/
  | adoptReply (h : FlitHdr) (idx r answer : Nat)
  /-- The adopter returns a region, and the owner takes ownership from its copies. (R404) -/
  | return (h : FlitHdr) (idx r : Nat)
  /-- The owner holds every granule in its vault, and the adopter appends a RELEASE for the span. (R404) -/
  | ownCopyDone (h : FlitHdr) (idx r : Nat)
  /-- The far transmitter moves the faulted lane onto the spare at the switch codeword. (R387) -/
  | laneSwap (h : FlitHdr) (idx cause lane codeword sent : Nat)
  /-- The receiver realigns to the codeword at which the transmitter switched. (R387) -/
  | laneSwapAck (h : FlitHdr) (idx lane codeword : Nat)
  /-- A receive lane loses lock or exceeds SWAP_THRESH, and a swap is requested. (R387) -/
  | laneFault (lane : Nat) (lockLost : Bool) (symbols received : Nat)
  /-- The switch codeword is reached, and the end moves onto the spare. (R387) -/
  | laneSwitch (tx : Bool)
  /-- Initial training or a fast retrain ends, and the STATE and DIGEST exchange begins. (R373) -/
  | korricTrainingDone (ok : Bool) (width : Nat)
  /-- The decision's fast retrain ends, resuming the pair or querying the witness. (R391) -/
  | fastRetrainDone (ok : Bool)
  /-- A passing roll call is stamped and copied, or stripped and copied on the head. (R416) -/
  | rollCall (src hops tag live dumping headcap : Nat) (good : Bool)
  /-- A claim from a lower ID stops this member claiming; its own returning claim makes it head. (R417) -/
  | claim (src hops tag : Nat) (good : Bool)
  /-- A JOIN frame reveals a duplicate ID, and DUP_ID is set. (R415) -/
  | join (src hops tag serial : Nat) (good : Bool)
  /-- The head answers a witness query from its two latest roll calls. (R418) -/
  | witnessQ (src dst hops tag target : Nat) (good : Bool)
  /-- A witness answer reaches the requester. (R418) -/
  | witnessA (src dst hops tag target result : Nat) (good : Bool)
  /-- A member performs or refuses a window read for the head. (R421) -/
  | winRd (src dst hops tag off : Nat) (good : Bool)
  /-- A window read answer completes the head's pending read. (R420) -/
  | winRdA (src dst hops tag status data : Nat) (good : Bool)
  /-- A member performs or refuses a window write from the head. (R421) -/
  | winWr (src dst hops tag off be data : Nat) (fact good : Bool)
  /-- A bridged MCTP packet is delivered to or from a member. (R422) -/
  | mctpFrame (outside : Bool) (src dst hops tag : Nat) (packet : List Nat) (good : Bool)
  /-- A member runs an array sub-command. (R423) -/
  | cmd (src dst hops tag sub : Nat) (payload : List Nat) (good : Bool)
  /-- A member's array command result reaches the head. (R423) -/
  | cmdA (src dst hops tag sub status : Nat) (result : Fields) (good : Bool)
  /-- A member writes a received chunk of firmware image into its inactive slot. (R425) -/
  | fwData (src dst hops tag off : Nat) (data : List Nat) (good : Bool)
  /-- A read of the head's array window is sent as WIN_RD. (R420) -/
  | windowRead (path : Path) (addr width : Nat)
  /-- A write to the head's array window is sent as WIN_WR. (R420) -/
  | windowWrite (path : Path) (addr width value : Nat) (fact : Bool)
  /-- No WIN_RD_A arrives in 20 µs and the read completes with Completer Abort. (R421) -/
  | windowReadTimeout (tag : Nat)
  /-- A write to OWNER acquires or releases the Clasp, or is refused. (R441) -/
  | claspWrite (path : Path) (v : Nat)
  /-- A 64-bit write by the Clasp owner stores a staging word. (R444) -/
  | keyDataWrite (path : Path) (k width value : Nat)
  /-- OP LOAD loads a region or tenant root slot from the staging words, or refuses. (R444) -/
  | load (path : Path)
  /-- OP DERIVE derives a region slot from a named root, or refuses. (R448) -/
  | derive (path : Path) (root : Nat)
  /-- OP UNLOAD stops and zeroizes a slot, or refuses. (R446) -/
  | unload (path : Path)
  /-- OP 4 clears the staging words. (R444) -/
  | clearStaging (path : Path)
  /-- REKEY ends and the slot turns ON, binds a new check value, or fails with result 6. (R445) -/
  | rekeyDone (slot : Nat)
  /-- A granule cipher operation ends with its result. (R436) -/
  | cipherOpComplete (core : Nat) (tagOk : Bool) (vpa : Nat)
  /-- A cipher core fails parity or self-check, and its operation is reissued. (R431) -/
  | coreFault (core : Nat)
  /-- An alarm source fires and key slots are zeroized in hardware. (R462) -/
  | alarm (src : Nat)
  /-- ALARM_ACK clears the latch when every source has cleared, and root 0 keys reload. (R464) -/
  | alarmAck (cool : Bool)
  /-- A requester's ALLOC is granted from a pool, spilled up or answered POOL_EMPTY. (R470) -/
  | alloc (reqs : List AllocReq)
  /-- A holder shares a buffer reference with another requester, or is rejected. (R477) -/
  | share (by_ dest pointer : Nat)
  /-- A holder releases its reference and the buffer becomes FREE at count zero. (R478) -/
  | release (requester pointer : Nat)
  /-- A stopping slice holds no buffer and takes its new carving. (R482) -/
  | sliceDrained (q : Nat)
  /-- Flash command 0x3E programs one word, including Bog-oak words in row mode, or refuses. (R494) -/
  | programWord (path : Path) (off data : Nat)
  /-- Flash command 0x5D erases a journalled sector, or refuses. (R494) -/
  | eraseSector (path : Path) (off : Nat)
  /-- Flash command 0x71 enters counter mode. (R493) -/
  | readEraseCounter (path : Path) (bank : Nat)
  /-- Flash command 0x27 enters status mode. (R493) -/
  | statusAndIdentity (path : Path) (bank : Nat)
  /-- Flash command 0x4B enters row mode on bank 0. (R493) -/
  | enterBogOakRow (path : Path) (bank : Nat)
  /-- Flash command 0x0F returns the bank to read mode and clears SEQ_ERR. (R491) -/
  | returnToRead (path : Path) (bank : Nat)
  /-- More than 10 µs pass between sequence cycles and the sequence breaks. (R492) -/
  | sequenceTimeout (bank : Nat)
  /-- A flash window read returns data per mode, streams, or faults on a busy or uncorrectable word. (R498) -/
  | flashWindowRead (path : Path) (off width bad : Nat)
  /-- A flash program or erase ends, and the next waiting agent operation starts. (R496) -/
  | flashOpComplete (bank : Nat) (ok readBack : Bool) (pulses : Nat)
  /-- APPEND in IFC_JOURNAL appends a journal entry for firmware. (R503) -/
  | journalAppend (path : Path) (type bank sector aux : Nat) (ok : Bool)
  /-- A fold entry's FOLD_MS expires and a folded record is queued. (R522) -/
  | foldExpiry (id : Nat)
  /-- A write to EVR_CURSOR loads the record of that sequence into the path's window. (R533) -/
  | cursorLoad (path : Path) (seq : Nat)
  /-- NEXT loads the next higher record. (R533) -/
  | cursorNext (path : Path)
  /-- The record load ends and READY is set. (R533) -/
  | cursorLoadDone (path : Path)
  /-- GO extends the selected Signet register, or the write is refused. (R542) -/
  | extend (path : Path) (reg : Nat)
  /-- ADVANCE moves STAGE from ROM to LOADER or from LOADER to FIRMWARE. (R544) -/
  | advance (path : Path) (certOk : Bool)
  /-- COMMIT asks firmware to advance the anti-rollback thermometers. (R546) -/
  | commit (path : Path)
  /-- KICK restarts the watchdog. (R585) -/
  | kick (path : Path)
  /-- A domain without work for IDLE_US is gated, or returns to its P2 state. (R565) -/
  | idleTimer (d : Nat)
  /-- A request needing a gated or stopped domain wakes it and stalls, or is latched during a sequence. (R569) -/
  | domainWake (kind d : Nat)
  /-- A waking domain reports ready and stalled requests proceed. (R578) -/
  | domainReady (d us : Nat)
  /-- The stall timer expires before the domain is ready, and the domain becomes FAILED. (R579) -/
  | stallTimeout (d : Nat)
  /-- Every block of a P2 entry step has stopped, or one refuses and the entry rolls back. (R567) -/
  | p2StepDone (refusals : List (Nat × Nat))
  /-- A block has neither stopped nor refused within 2 ms and counts as refusing with cause 4. (R567) -/
  | p2StopTimeout (unit : Nat)
  /-- A filtered input changes level and its filter starts or stops a timer or counts a pulse. (R586) -/
  | filterInputEdge (p : FilterPin) (level short : Bool)
  /-- T_ASSERT, T_RELEASE, T_STUCK or T_UNSTICK expires and the filter reports a new state. (R586) -/
  | filterTimer (p : FilterPin)
  /-- A rail stays outside its range for 10 µs and event 0x1013 is logged. (R619) -/
  | railFault (rail : Rail) (mv : Nat)
  /-- After power-down the input rises through V_RECOVER and a COLD sequence runs. (R618) -/
  | inputReturn (headerOk : Bool) (badAreas : List Nat)
  /-- A junction sensor leaves or re-enters the variant's operating range. (R627) -/
  | tempRange (k : Nat) (out : Bool) (temp : Int)
  /-- Once per second every SRAM array is scrubbed and uncorrectable words go to their owners. (R601) -/
  | sramScrub (found : List SramWord)
  /-- The QDC patrol reads the next line, corrects and rewrites it, and counts toward chip marks. (R596) -/
  | patrolRead (q : Nat) (errs again : List SymErr) (r : ReservedWord)
  /-- An SDE makes no progress for 20 µs and is replaced by re-roling. (R607) -/
  | sdeStallTimeout (q : Nat)
  /-- SET in QDC_MARK_SET marks a component in BOOT or TEST. (R600) -/
  | markSet (q : Nat)
  /-- ARM in QDC_INJ plants the selected fault in TEST. (R609) -/
  | injectArm (q : Nat)
  /-- A vault block erase ends; a failure retires the block and re-erases the segment, and a slow erase marks the block WORN. (R347) -/
  | vaultEraseComplete (n : Nat) (failed slow : List Nat)
  /-- A scrub or relocation page read ends with its correction load, which may queue relocation, count toward WORN or call for a parity rebuild. (R348) -/
  | vaultReadComplete (v : Nat) (words : List Nat) (ones : Nat) (hard decoded rebuilt last : Bool)
  /-- The checks of a live CHECK or APPLY request end: LIVE_STATE leaves CHECKING for DONE, REFUSED or APPLYING, GO clears, and in-place region changes are made. (R95) -/
  | imageChecksDone
  /-- An SDE detects an internal parity error; it is marked FAILED and re-roled, and its operations are reissued by the covering SDE. (R607) -/
  | sdeParityError (q : Nat)
  /-- VDD_AON rises from absent and the device runs the COLD reset: it checks AOS, clears the Signets and starts BOOT. (R583) -/
  | powerOn
  /-- CORE_PG rises, the device lifts pin isolation and the core domain starts. (R617) -/
  | corePgRise
  /-- CORE_PG has not risen within 10 ms of CORE_EN; the device drops CORE_EN, and after the third attempt asserts FAULT_N. (R580) -/
  | corePgTimeout
  /-- The 20 ms off time ends and the always-on domain drives CORE_EN again. (R580) -/
  | coreEnRetry
  /-- The 25 MHz crystal is not ready 5 ms after cold start; the core PLL runs from the internal RC and CLOCK_DEGRADED is set. (R37) -/
  | clockDegraded
  /-- The 32.768 kHz crystal gives no clock within 2 s; timekeeping moves to the 4 MHz RC. (R581) -/
  | rtcDegraded
  /-- The boot ARM reservation entry passes, releasing step 13. (R456) -/
  | armEntryPassed
  /-- The host link goes down without a reset; uncompleted writes are carried and unanswered reads discarded. (R109) -/
  | linkDown
  /-- PERST_N asserts: decoders uncommit, completions are discarded and a warm reset acts per mode. (R109) -/
  | perstNAssert
  /-- PERST_N deasserts and link training may start. (R107) -/
  | perstNDeassert
  /-- A CXL.io function reset discards completions and responses and releases the host's Clasp. (R109) -/
  | functionReset
  /-- A GPF Phase 1 request is answered at once. (R121) -/
  | gpfPhase1
  /-- A GPF Phase 2 request is answered within 1 µs with no other effect. (R121) -/
  | gpfPhase2
  /-- 1 ms passes and STATUS completes with zeros for the members that have not answered. (R423) -/
  | arrayStatusTimeout
  /-- A DOE Abort resets the DOE SPDM connection state. (R550) -/
  | doeAbort
  /-- A write of START begins a region's start checks or sets RE_ARM. (R165) -/
  | regionStart
  /-- A write of STOP stops admitting accesses, and the region drains in STOPPING. (R165) -/
  | regionStop
  /-- A new energy input set reaches the WRP, which recomputes the budget and its conditions. (R188) -/
  | inputSet
  /-- RECOMPUTE requests an input set and a budget computation. (R188) -/
  | recompute
  /-- The comparator sees the input below V_PFAIL; HOLDUP_EN asserts and qualification runs. (R212) -/
  | inputBelowPfail
  /-- In QUALIFY the input rises to V_PFAIL or above and the watch enters SETTLE. (R212) -/
  | inputAbovePfail
  /-- Time below V_PFAIL reaches T_PFAIL and the ride-through timer starts. (R213) -/
  | pfailQualified
  /-- The input stays 200 mV above V_PFAIL for 10 µs in SETTLE and hold-up is released. (R212) -/
  | settleRecovered
  /-- The 1 ms settle limit expires and the watch enters RIDE. (R212) -/
  | settleLimitExpiry
  /-- The input stays at V_RECOVER for 10 µs in RIDE and hold-up is released. (R212) -/
  | rideThroughSurvived
  /-- The ride-through timer reaches T_RIDE and a power-fail commit is signalled. (R212) -/
  | rideThroughExpiry
  /-- In RIDE, E_usable_min falls to E_need or below and the commit is signalled at once. (R212) -/
  | earlyCommit
  /-- TEST_DUMP in TEST mode commits a test dump under R275. (R272) -/
  | testDump
  /-- Every write received before t_x is in DRAM, and the SDEs begin their dirty lists. (R160) -/
  | coastEnd
  /-- 10 ms after the warning leaves the asserted state, PREFLUSH clears. (R274) -/
  | preflushClear
  /-- Every 10 s the store-current offset is zeroed over 1 ms. (R206) -/
  | offsetZero
  /-- The terminal voltage and current stay at full for 10 s and the count takes a FULL anchor. (R219) -/
  | fullAnchor
  /-- Every 100 ms HOLDUP_RESERVE, CHARGE_CALC and CHARGE_PCT are updated. (R236) -/
  | reportUpdate
  /-- The store current stays below 5 mA for 60 s and the gauge hibernates. (R237) -/
  | hibernateEnter
  /-- The current comparator, an NRG access or HOLDUP_EN wakes the gauge. (R237) -/
  | hibernateWake
  /-- QUAG_OK becomes 1 and the persistent values pending in AOS are written. (R217) -/
  | pendingWriteback
  /-- A due learning cycle starts once the conditions of R225 hold. (R224) -/
  | learningAutoStart
  /-- START in NRG_LEARN_CTRL starts a learning cycle. (R224) -/
  | learnCtrlStart
  /-- ABORT disqualifies a running cycle with cause 0x06. (R227) -/
  | learnCtrlAbort
  /-- D is still above B after 10 s and the cycle is disqualified. (R227) -/
  | learnBudgetTimeout
  /-- The cycle runs over 60 s and is disqualified. (R227) -/
  | learnDurationExpiry
  /-- No FULL anchor arrives within 120 s of the start request and the cycle is disqualified. (R227) -/
  | learnAnchorTimeout
  /-- Every 1 ms the wear-governor balance gains r × 1 ms and is clamped. (R257) -/
  | tokenTick
  /-- Every 1 s the governor recomputes r and the life conditions. (R257) -/
  | rateRecompute
  /-- Pending log entries are written as LOG pages when 1 ms has passed or a trigger occurs. (R357) -/
  | logFlush
  /-- A transmitter that has sent nothing for 1 µs sends a HEARTBEAT. (R380) -/
  | heartbeatTimer
  /-- FACK has not advanced for 2 µs, and the transmitter replays from the oldest flit. (R378) -/
  | replayTimeout
  /-- No mirror write has been held for 100 µs, and this side sends PRESSURE off. (R384) -/
  | pressureOffTimer
  /-- After any SOLO entry, initial training restarts every 1 ms. (R389) -/
  | trainingRetry
  /-- 10 ms after step 9 with no link, a witness answering DEAD moves TRAINING to SOLO. (R389) -/
  | trainingTimeout
  /-- In TRAINING, a witness query is repeated every 100 ms. (R389) -/
  | witnessRequery
  /-- SOLO_START moves a TRAINING pair to SOLO with cause 7. (R389) -/
  | soloStart
  /-- No good flit arrives for 8 µs; the pair enters DECIDING and holds MIRRORED writes. (R391) -/
  | silenceTimeout
  /-- No WITNESS_A arrives within 10 µs and the query reports no answer. (R393) -/
  | witnessTimeout
  /-- Every 2 µs the head sends a ROLL_CALL. (R416) -/
  | rollCallTimer
  /-- No roll call for 40 µs, and head-capable members send CLAIM. (R417) -/
  | electionTimeout
  /-- 100 µs after step 10 the ring-start election runs. (R417) -/
  | ringStartElection
  /-- No roll call and no claim for 100 µs, and RING_UP falls. (R411) -/
  | ringDownTimeout
  /-- A member powers up or down and the ring downstream relocks. (R411) -/
  | ringRelock
  /-- 10 ms without an owner write releases the Clasp and clears the staging. (R442) -/
  | claspTimeout
  /-- TOPUP writes a MARK entry raising the slot's M by 2^22, or waits in AOS. (R455) -/
  | topup
  /-- COMPACT erases the other half and writes a snapshot of the reservation values. (R459) -/
  | compact
  /-- An event reaches the EVR and is snapshotted, folded, queued or dropped. (R521) -/
  | eventReport
  /-- One operating second passes and the counter advances and is mirrored in AOS. (R524) -/
  | opSecTick
  /-- Every 3,600 operating seconds event 0x0E01 is queued. (R525) -/
  | counterCheckpoint
  /-- REBOOT in PARKED performs a STRUCTURAL reset; elsewhere it is ignored. (R560) -/
  | reboot
  /-- STRUCT_RESET in RECOVERY performs a STRUCTURAL reset. (R583) -/
  | structReset
  /-- FW_RESTART performs a FIRMWARE reset of the management complex. (R585) -/
  | fwRestart
  /-- KICK is not written for WDT_MS, and the firmware restarts or halts after repeated restarts. (R585) -/
  | watchdogExpiry
  /-- The lockstep cores disagree and a FIRMWARE reset follows. (R607) -/
  | lockstepMismatch
  /-- VAULT_OFF powers the vault off in PARKED with an empty vault, or is ignored. (R590) -/
  | vaultOff
  /-- VDD_CORE stays below 0.69 V for 1 µs and an armed detector aborts the flash operation. (R501) -/
  | brownOut
  /-- The input crosses below V_QUAG while still above V_PFAIL, and QUAG_OK falls within 100 ns. (R215) -/
  | inputBelowQuag
  /-- The input returns while a dump runs; BOUNCE is set and event 0x0608 is logged, and the dump runs on. (R291) -/
  | dumpBounce
  /-- After a power-down the store falls below the regulator's 6 V limit, VDD_AON is lost and AOS and the timestamp are lost. (R633) -/
  | vddAonLost
  /-- QUAG_OK has stayed 0 for 1 s during a TAKEOVER or FORCE_TAKEOVER, which then returns Retry Required 0x000F with nothing adopted. (R400) -/
  | pairRecordQuagTimeout
  deriving DecidableEq, Repr

end Sys2Proof
end

