-- ==== Sys2Proof/Decode.lean ====
section
/-!
DEFINITION. The commands come from outside through pins, links and registers, and spec/opcode_table.json gives none of its rows bits: no word
spells a command (log 48).
-/

namespace Sys2Proof

/-- The command that a word of `nbits` bits spells by the table: none, since no row has bits. -/
def decodeTableWord (_nbits _w : Nat) : Option Instr := none

end Sys2Proof
end

