-- ==== Sys2Proof/Config.lean ====
section
/-!
DEFINITION. What an implementation fixes and the spec leaves open. Every constant here has no body: nothing can
evaluate it, and a statement that mentions it holds for every value.
-/

namespace Sys2Proof.Config

/-- A duration the device measures and a register records. The model has no clock (log 6). -/
opaque elapsed : Nat → Nat

/-- The content of an internal-flash word that an interruption left undefined (R501): another value at each read. -/
opaque undefinedWord : Nat → Nat

/-- A value the device draws from its random number generator (R401). -/
opaque random : Nat → Nat

/-- The JESD79-5 minimum of a MEMORY timing, by its index 0 to 11, for a density and a data rate (R60), and the maximum of tREFI. The
spec names the standard and gives no numbers (log 117). -/
opaque jedecMin : Nat → Nat → Nat → Nat
opaque jedecMaxRefi : Nat → Nat → Nat

/-- The LUNs of a vault die, to each of which SET FEATURES with the per-LUN flag goes (R62); the spec gives no count (log 118). -/
opaque lunsPerDie : Nat

/-- The rank and subchannel, as slot 2 × rank + subchannel, in which a line of a channel lies (R598); the spec gives no
address map below the channel (log 10). -/
opaque dramSlot : Nat → Nat

/-- The fused JEDEC manufacturer code of IDCODE (R615), which the spec does not give. -/
opaque jedecCode : Nat

/-- A count the device observes inside one step and reports (a list's oldest age, a rate of a past interval). -/
opaque observed : Nat → Nat

/-- The SHA-384 digest of the boot ROM of a stepping (R541), which the spec does not give. -/
opaque romDigest : Nat → Nat

end Sys2Proof.Config
end

