-- ==== Sys2Proof/Machine/Bits.lean ====
section
/-!
DEFINITION. Plain arithmetic shared by every unit: saturating counters, wrapping counters, bit fields of a natural
number, lists seen as fixed arrays, and sparse tables kept in one canonical form.
-/

namespace Sys2Proof.Machine

/-- A counter of `w` bits that saturates at its largest value (the RC counters of the register tables). -/
def satAdd (w n k : Nat) : Nat := min (n + k) (2 ^ w - 1)

/-- A counter of `w` bits that wraps. -/
def wrapAdd (w n k : Nat) : Nat := (n + k) % 2 ^ w

/-- Bits `lo` to `lo + w - 1` of `n`. -/
def bitsOf (n lo w : Nat) : Nat := (n >>> lo) % 2 ^ w

/-- Bit `i` of `n`. -/
def bitAt (n i : Nat) : Bool := n.testBit i

/-- A flag as a register bit. -/
def flag (b : Bool) : Nat := if b then 1 else 0

/-- `v` held between two bounds: a value outside takes the nearest bound (R43). -/
def clamp (lo hi v : Nat) : Nat := max lo (min hi v)

/-- `n` with bit `i` set. -/
def setBit (n i : Nat) : Nat := n ||| 2 ^ i

/-- `n` with bit `i` cleared. -/
def clearBit (n i : Nat) : Nat := if n.testBit i then n - 2 ^ i else n

/-- `n` with bit `i` made `b`. -/
def putBit (n i : Nat) (b : Bool) : Nat := if b then setBit n i else clearBit n i

/-- How many of the bits 0 to `w - 1` of `n` are set. -/
def popCount (w n : Nat) : Nat := ((List.range w).filter (fun i => n.testBit i)).length

/-- The positions, ascending, of the set bits of `n` among bits 0 to `w - 1`. -/
def setBits (w n : Nat) : List Nat := (List.range w).filter (fun i => n.testBit i)

/-- The mask whose set bits are the members of `l`. -/
def maskOf (l : List Nat) : Nat := l.foldl setBit 0

/-- Two's complement of `i` in `w` bits, for signed register fields. -/
def twos (w : Nat) (i : Int) : Nat := (i % (2 ^ w : Int)).toNat

/-- The value of a `w`-bit two's complement field. -/
def untwos (w n : Nat) : Int := if n.testBit (w - 1) then (n : Int) - 2 ^ w else n

/-- Bits of `a` that are not in `b`. -/
def without (a b : Nat) : Nat := maskOf ((setBits 16 a).filter (fun i => !(b.testBit i)))

/-- A list with its element `i` changed by `f`; unchanged where there is no element `i`. -/
def modNth {α : Type} (l : List α) (i : Nat) (f : α → α) : List α := l.modify i f

/-- Little-endian value of a list of bytes. -/
def leValue : List Nat → Nat
  | [] => 0
  | b :: bs => b + 256 * leValue bs

/-- Big-endian value of a list of bytes. -/
def beValue (l : List Nat) : Nat := l.foldl (fun a b => a * 256 + b) 0

/-- The `n` low bytes of `v`, little-endian. -/
def leBytes : Nat → Nat → List Nat
  | 0, _ => []
  | n + 1, v => (v % 256) :: leBytes n (v / 256)

/-- Bytes `off` to `off + n - 1` of a list, as a little-endian number. -/
def leAt (l : List Nat) (off n : Nat) : Nat := leValue ((l.drop off).take n)

/-- A list cut into pieces of `n` elements, at most `k` pieces. -/
def pieces {α : Type} (n : Nat) : Nat → List α → List (List α)
  | 0, _ => []
  | k + 1, l => l.take n :: pieces n k (l.drop n)

/-! Sparse tables: pairs of a key and a value, keys strictly rising, no entry equal to the default. -/

/-- The value at key `k`; `d` where no entry has the key. -/
def tget {α : Type} (d : α) (t : List (Nat × α)) (k : Nat) : α :=
  match t with
  | [] => d
  | (j, v) :: r => if j = k then v else tget d r k

/-- The table without key `k`. -/
def tdel {α : Type} (t : List (Nat × α)) (k : Nat) : List (Nat × α) := t.filter (fun e => e.1 ≠ k)

/-- The table with `v` at key `k`, kept in rising order. -/
def tins {α : Type} (k : Nat) (v : α) : List (Nat × α) → List (Nat × α)
  | [] => [(k, v)]
  | (j, w) :: r => if k < j then (k, v) :: (j, w) :: r
                   else if k = j then (k, v) :: r
                   else (j, w) :: tins k v r

/-- Writing `v` at key `k`: writing the default removes the entry. -/
def tput {α : Type} [DecidableEq α] (d : α) (t : List (Nat × α)) (k : Nat) (v : α) : List (Nat × α) :=
  if v = d then tdel t k else tins k v t

/-- The canonical form of a sparse table: keys strictly rising and no entry equal to the default. -/
def tableWf {α : Type} [DecidableEq α] (d : α) (t : List (Nat × α)) : Bool :=
  decide ((t.map Prod.fst).Pairwise (· < ·)) && t.all (fun e => decide (e.2 ≠ d))

/-- A set of numbers in rising order with `k` put in. -/
def sins (k : Nat) : List Nat → List Nat
  | [] => [k]
  | j :: r => if k < j then k :: j :: r else if k = j then j :: r else j :: sins k r

/-- A set of numbers without `k`. -/
def sdel (t : List Nat) (k : Nat) : List Nat := t.filter (· ≠ k)

/-- The canonical form of a set of numbers: strictly rising. -/
def setWf (t : List Nat) : Bool := decide (t.Pairwise (· < ·))

end Sys2Proof.Machine
end

