-- ==== Sys2Proof/Machine/State.lean ====
section
/-!
DEFINITION. The state of the LNL-7460 as plain data, unit by unit; its value after reset; and the reasons a step can
stop. A field's default is its reset value: the value the register tables give, or for state that is no register the
value the assumption log names.
-/

namespace Sys2Proof.Machine

/-- A step never ends in a fault: the spec stops the block nowhere. The one constructor keeps the type inhabited; no
meaning raises it. Safe: a model that raised it would only stop where the hardware goes on. -/
inductive Fault where
  | outsideSpec
  deriving DecidableEq, Repr

/-- Why a command is refused by the model. -/
inductive Refusal where
  /-- Raised by an arm of `exec` whose command has no meaning yet, under the command's mnemonic. Safe: the model stops
  where the hardware goes on. -/
  | notModelled (mnemonic : String)
  deriving DecidableEq, Repr

/-! ## Spine control -/

/-- The function code of unit `u`: a spine unit's own unit ID, and 0x10 plus the number inside its quadrant for a
quadrant unit, so that the four SDEs share one function. DESIGN CHOICE (log 3): R27 gives the codes no values. -/
def funcOf (u : Nat) : Nat := if u < 16 then u else 16 + u % 8

/-- The role table of R27 for an enable mask of quadrants: spine units cover all enabled quadrants, quadrant units their
own; every generation is 1. -/
def roleTable (quadEn : Nat) : List RoleEntry :=
  (List.range 48).map (fun u =>
    if u < 16 then ⟨funcOf u, quadEn, 1, .active⟩
    else
      let q := (u - 16) / 8
      if quadEn.testBit q then ⟨funcOf u, 2 ^ q, 1, .active⟩ else ⟨funcOf u, 2 ^ q, 1, .off⟩)

/-- Spine control (01): identity, configuration, mode, roles and crossbar messages. -/
structure Spn where
  /-- `STEPPING` and `VARIANT` of `SPN_ID`; the variant is fused (log 2). -/
  stepping : Nat := 0x10
  variant : Nat := 0
  clockDegraded : Bool := false
  /-- `SPN_CONFIG` reads 0 until the structural records are applied. -/
  dramGib : Nat := 0
  diesPerCh : Nat := 0
  quadEn : Nat := 0
  mode : Mode := .boot
  modeSeq : Nat := 0
  cause : Nat := 0
  prevMode : Mode := .boot
  roleIdx : Nat := 0
  roles : List RoleEntry := roleTable 15
  roleChanges : Nat := 0
  unresolved : Nat := 0
  staleBounces : Nat := 0
  /-- Bounces in a row of messages still on their way: source and tag, count (R31). -/
  bounces : List ((Nat × Nat) × Nat) := []
  /-- The upper halves that 32-bit reads have latched: path, register address, value (R642). -/
  halves : List ((Path × Nat) × Nat) := []
  deriving DecidableEq, Repr

/-! ## Image loader -/

/-- `IMG_SLOT_A` and `IMG_SLOT_B`: state 0 NOT_CHECKED, 1 VALID, 2 REFUSED, 3 EMPTY. -/
structure SlotReg where
  state : Nat := 0
  cause : Nat := 0
  arb : Nat := 0
  version : Nat := 0
  deriving DecidableEq, Repr

/-- The image whose records are applied, or the defaults while none is (R49, R56). -/
structure ActiveImage where
  version : Nat := 0
  /-- Records other than REGIONS, POOLS and EVENTS as framed, for the comparison of R93. -/
  records : List RawRecord := []
  regions : List RegionEntry := []
  pools : List PoolEntry := []
  events : List EventsEntry := []
  presets : List Preset := []
  pair : Option PairRec := none
  array : Option ArrayRec := none
  structureRec : Option StructureRec := none
  memory : Option MemoryRec := none
  vault : Option VaultRec := none
  energy : Option EnergyRec := none
  life : List Param := []
  clocks : ClocksRec := ⟨0, 0, 2400⟩
  pins : PinsRec := ⟨0x5C, 2, 5, 1⟩
  security : SecurityRec := ⟨0, 0xC, 0, 7⟩
  deriving DecidableEq, Repr

/-- The image loader (02). -/
structure Img where
  cause : Nat := 0
  causeSlot : Nat := 0
  faultRecord : Nat := 0xFFFF
  locked : Bool := false
  structApplied : Bool := false
  vaultReformat : Bool := false
  activeSlot : Nat := 0
  imageValid : Bool := false
  slotA : SlotReg := {}
  slotB : SlotReg := {}
  /-- `FORCE_SLOT`, held in the always-on domain. -/
  forceSlot : Nat := 0
  liveSlot : Nat := 0
  liveOp : Nat := 0
  liveGo : Bool := false
  liveCause : Nat := 0
  regionsTotal : Nat := 0
  regionsDone : Nat := 0
  currentRegion : Nat := 0
  /-- 0 IDLE, 1 CHECKING, 2 APPLYING, 3 DONE, 4 REFUSED, 5 ABORTED. -/
  liveState : Nat := 0
  /-- Changed regions still to handle, ascending, while APPLYING (R96). -/
  liveLeft : List Nat := []
  /-- The image being re-applied (R93). -/
  liveImage : Option ActiveImage := none
  /-- The POOLS carving of a re-application has been handed to the allocator and is not yet reported ON (R100). -/
  livePools : Bool := false
  /-- The class of the region being handled: 0 none yet, 1 in place, 2 Stop, 3 Empty (R94); and the digest of the image named. -/
  liveClass : Nat := 0
  liveDigest : List Nat := []
  vlh : Digest := 0
  mvlh : Digest := 0
  active : ActiveImage := {}
  /-- The step of R85 the loader stands at: 0 before the image is selected, 5 DRAM training, 6 vault initialization,
  13 waiting for the ARM entry, 15 map load, 16 boot ended. -/
  bootStep : Nat := 0
  deriving DecidableEq, Repr

/-! ## Sedge log -/

/-- One entry of the fold table (R522); `first` is the first occurrence folded in. -/
structure FoldEntry where
  id : Nat
  count : Nat
  lastSec : Nat
  first : Option SedgeRec
  deriving DecidableEq, Repr

/-- One access path's cursor and window (R533). -/
structure Cursor where
  seq : Nat := 0
  missing : Bool := false
  ready : Bool := false
  next : Bool := false
  /-- A load under way: the sequence asked for. -/
  loading : Option Nat := none
  window : Option SedgeRec := none
  deriving DecidableEq, Repr

/-- The Sedge log (16). -/
structure Evr where
  queue : List SedgeRec := []
  folds : List FoldEntry := []
  /-- Valid records by slot of the ring (1,024 slots, R529). -/
  ring : List (Nat × SedgeRec) := []
  /-- The slot the next record goes to. -/
  wslot : Nat := 0
  /-- A ring sector whose journalled erase has been requested and has not ended. -/
  erasing : Option Nat := none
  /-- The record whose write runs. -/
  writing : Option SedgeRec := none
  /-- Read-back failures of the record being written in this sector (R530). -/
  failsHere : Nat := 0
  newest : Nat := 0
  nextSeq : Nat := 0
  retired : Nat := 0
  goodSectors : Nat := 0
  memOnly : Bool := false
  memRing : List SedgeRec := []
  alert : Bool := false
  opSec : Nat := 0
  powerCycles : Nat := 0
  dropped : Nat := 0
  writeFails : Nat := 0
  foldEvict : Nat := 0
  snapSkipped : Nat := 0
  /-- The alert bits that the EVENTS entry of the record being written gave it when its write started (R100, R532). -/
  writeAlert : Nat := 0
  /-- Events dropped since the previous record (`OVERFLOW`). -/
  overflow : Nat := 0
  foldMs : Nat := 0x3E8
  curFirmware : Cursor := {}
  curBar0 : Cursor := {}
  curSmbus : Cursor := {}
  curArray : Cursor := {}
  deriving DecidableEq, Repr

/-! ## Internal flash -/

/-- What an agent asks the IFC to do as one operation: a record with its valid mark last, or a journalled erase
(R488, R503). -/
inductive AgentWork where
  | sedge (r : SedgeRec)
  | finalSedge (r : SedgeRec)
  | gauge (r : GaugeRec)
  | nonce (r : NonceRec)
  | snapshot (half : Nat) (r : NonceSnap)
  | thermJump
  | pair (r : PairRecord)
  /-- The components of a Transfer FW package for the inactive bank (R556), whose areas are erased. -/
  | package (slot : Nat) (l : List Component)
  | eraseSector (sector : Nat)
  deriving DecidableEq, Repr

/-- A waiting or running agent operation. -/
structure AgentOp where
  agent : FlashAgent
  bank : Nat
  work : AgentWork
  /-- Words of the record programmed so far: each is a program of its own (R216, R488). -/
  done : Nat
  deriving DecidableEq, Repr

/-- A running flash operation of a bank. -/
inductive FlashOp where
  | program (off : Nat) (data : Nat)
  | erase (sector : Nat)
  | bogWord (word : Nat) (data : Nat)
  | bogLock (high : Bool) (data : Nat)
  | agent (op : AgentOp)
  deriving DecidableEq, Repr

/-- One bank's status word and sequence (R491 to R495). -/
structure Bank where
  busy : Bool := false
  /-- `OP`: 0 none, 1 program, 2 erase, 3 row program. -/
  op : Nat := 0
  agent : FlashAgent := .firmware
  result : FlashResult := .ok
  pulses : Nat := 0
  addr : Nat := 0
  slowErase : Bool := false
  mode : BankMode := .read
  seqErr : Bool := false
  /-- Cycles of an open sequence: 0 none, 1 first unlock, 2 both unlocks, 3 command code taken (R491). -/
  seqStep : Nat := 0
  seqCode : Nat := 0
  running : Option FlashOp := none
  /-- The device mode in which the running operation started (R501). -/
  startMode : Mode := .boot
  /-- The address a continuous read would go on at (R499). -/
  stream : Option Nat := none
  deriving DecidableEq, Repr

/-- The internal flash controller (15). -/
structure Ifc where
  bank0 : Bank := {}
  bank1 : Bank := {}
  waiting : List AgentOp := []
  /-- Programmed words by word index of the window; an unlisted word reads erased. -/
  words : List (Nat × Nat) := []
  /-- Words and sectors left undefined by an interruption (R501). -/
  undefWords : List Nat := []
  undefSectors : List Nat := []
  /-- Sectors whose DONE entry waits for `QUAG_OK` (R503), in order. -/
  doneDue : List Nat := []
  /-- Erase counts, pulses of the last erase and operating seconds at it, by sector 0 to 2,047 (R496). -/
  eraseCount : List (Nat × Nat) := []
  lastPulses : List (Nat × Nat) := []
  eraseSec : List (Nat × Nat) := []
  /-- Valid journal entries by slot of the ring (512 slots of 32 bytes), the next slot and the next sequence (R502). -/
  journal : List (Nat × JEntry) := []
  jPos : Nat := 0
  jSeq : Nat := 0
  jAux : Nat := 0
  jType : Nat := 0
  jBank : Nat := 0
  jSector : Nat := 0
  jFailed : Bool := false
  ecntBank : Nat := 0
  ecntSector : Nat := 0
  uncorr : Nat := 0
  corrected : Nat := 0
  refused : Nat := 0
  seqErrs : Nat := 0
  slowErases : Nat := 0
  /-- The 128 Bog-oak words as stored, THERM words in their three copies (R508), unlisted words 0. -/
  bog : List (Nat × Nat) := []
  /-- Lock bits of the 128 words (R509). -/
  bogLocks : Nat := 0
  /-- Valid gauge records in flash by slot, and the slot the next goes to (R232, R233). -/
  gauge : List (Nat × GaugeRec) := []
  gaugeSlot : Nat := 0
  /-- The sector of the gauge slot has been erased under the journal for the record to come (R233). -/
  gaugeFresh : Bool := false
  /-- The two halves of the nonce area (R457): the valid snapshot, the valid entries by slot, oldest first, and how many of
  the 448 entry slots are used. -/
  snap0 : Option NonceSnap := none
  snap1 : Option NonceSnap := none
  nonce0 : List (Nat × NonceRec) := []
  nonce1 : List (Nat × NonceRec) := []
  used0 : Nat := 0
  used1 : Nat := 0
  /-- The valid pair records by slot, 32 in each of the two pair sectors (R400). -/
  pairs : List (Nat × PairRecord) := []
  deriving DecidableEq, Repr

/-! ## Host link -/

/-- A background mailbox command that runs (R127). -/
structure BgCmd where
  via : Via
  opcode : Nat
  deriving DecidableEq, Repr

/-- The last background command's end, as background status reports it (R127). -/
structure BgStatus where
  opcode : Nat := 0
  ret : Ret := .success
  ext : Nat := 0
  deriving DecidableEq, Repr

/-- The PCI Express and CXL configuration of the function (R104, R106, R121, R132): what configuration space reports, the power and link
states, and the AER registers. No row of the command table writes configuration space, so the host's own writes to it are out of scope
and D0, L0 and the severities stay as they are at reset (log 124). -/
structure Pci where
  deviceId : Nat := 0x7460
  classCode : Nat := 0x050210
  bar0Bytes : Nat := 0x1000000
  /-- The Register Locator DVSEC: its BAR, that BAR's size, and the offsets of the component and of the device registers. -/
  locatorBar : Nat := 2
  bar2Bytes : Nat := 0x20000
  componentOff : Nat := 0
  deviceOff : Nat := 0x10000
  /-- The GPF DVSEC: the Phase 2 duration in µs and power in mW (R121). -/
  gpfUs : Nat := 1
  gpfMw : Nat := 0
  d3hot : Bool := false
  l1 : Bool := false
  /-- AER: errors reported as correctable and as uncorrectable, and bit 19 of the severity register, the ECRC error's. -/
  aerCorrectable : Nat := 0
  aerUncorrectable : Nat := 0
  ecrcSeverity : Bool := true
  deriving DecidableEq, Repr

/-- The host link unit (03). -/
structure Hlk where
  /-- Configuration space. -/
  pci : Pci := {}
  /-- The device presents its terminations (R107). -/
  presented : Bool := false
  /-- PERST_N is asserted. -/
  perst : Bool := false
  retrains : Nat := 0
  sris : Bool := false
  degraded : Bool := false
  width : Nat := 0
  speed : Nat := 0
  linkUp : Bool := false
  ingressClosed : Bool := false
  rwdFree : Nat := 64
  reqFree : Nat := 64
  holdCause : Nat := 0
  holdUs : Nat := 0
  offlIdx : Nat := 0
  /-- Poisoned reads and discarded writes by index 0 to 256 (R122). -/
  readsPoisoned : List (Nat × Nat) := []
  writesDiscarded : List (Nat × Nat) := []
  /-- Indices whose episode is open and whose first 0x0203 record has been raised (R122). -/
  warned : List Nat := []
  decoderRefused : Nat := 0
  poisonSent : Nat := 0
  ecrc : Nat := 0
  lcrc : Nat := 0
  mctpVendorEn : Bool := true
  aspmL1En : Bool := true
  devloadEn : Bool := true
  /-- PCI Vendor ID, fused (log 2). -/
  vendorId : Nat := 0
  dec0 : Decoder := ⟨0, 0, 1, 0, false, false⟩
  dec1 : Decoder := ⟨0, 0, 1, 0, false, false⟩
  dec2 : Decoder := ⟨0, 0, 1, 0, false, false⟩
  dec3 : Decoder := ⟨0, 0, 1, 0, false, false⟩
  /-- Accepted writes without a completion, in order of receipt. -/
  writes : List WriteRec := []
  /-- Reads received and not answered, in order of receipt. -/
  reads : List ReadRec := []
  /-- Event logs 0 Informational, 1 Warning, 2 Failure, 3 Fatal (R124, R131). -/
  logInfo : List HostEvent := []
  logWarn : List HostEvent := []
  logFail : List HostEvent := []
  logFatal : List HostEvent := []
  /-- Warning thresholds: life used, over-temperature, under-temperature, corrected errors (R124). -/
  alertCfg : List Nat := [0, 0, 0, 0]
  /-- MSI-X enables of the four event logs (R124, R131). -/
  intPolicy : List Bool := [false, false, false, false]
  bg : Option BgCmd := none
  bgStatus : BgStatus := {}
  cdatLatency : Nat := 350
  cdatSeq : Nat := 0
  /-- Granules with injected poison (R124). -/
  injected : List Nat := []
  correctedHost : Nat := 0
  timestamp : Nat := 0
  deriving DecidableEq, Repr

/-! ## Write path, regions and budget -/

/-- One of the 256 regions: its REGIONS entry and its state (R64, R165, R180). -/
structure Region where
  entry : RegionEntry := ⟨0, 0, false, .loc, .native, false, 0, 0, 0, 0, 0⟩
  life : Lifecycle := .offline
  reArm : Bool := false
  startFail : Nat := 0
  /-- Effective class last reported: 0 LOCAL, 1 MIRRORED, 2 VAULTED, 3 held (R136). -/
  eff : Nat := 0
  adopted : Bool := false
  wrCount : Nat := 0
  writePtr : Nat := 0
  shadowPtr : Nat := 0
  /-- A stop requested by a live re-application of this region runs (R94). -/
  liveStop : Bool := false
  /-- The key slot was erased by an alarm during DUMP (R646). -/
  keyErased : Bool := false
  deriving DecidableEq, Repr

/-- The write-path and region unit (04, 05). -/
structure Wrp where
  regionIdx : Nat := 0
  regions : List Region := List.replicate 256 {}
  vaultedUs : Nat := 0
  mirroredNs : Nat := 0
  localNs : Nat := 0
  peatShare : Nat := 0x19
  ageNs : Nat := 0x80
  coasted : Nat := 0
  truncated : Nat := 0
  coastNs : Nat := 0
  closeNs : Nat := 0
  zeroCause : Nat := 0
  bRaw : Nat := 0
  /-- Operating seconds when B last fell to 0 or SERVICE was last entered, for the 60 s of R125. -/
  zeroSec : Nat := 0
  b : Nat := 0
  /-- Raw values of the last 10 ms, newest first (R186). -/
  rawHist : List Nat := []
  inEGib : Nat := 0
  inEFixed : Nat := 0
  inReserve : Nat := 0
  inEUsable : Nat := 0
  swapDerate : Bool := false
  learning : Bool := false
  recompute : Bool := false
  forceZero : Bool := false
  valid : Bool := false
  overB : Bool := false
  full : Bool := false
  high : Bool := false
  /-- Leased granules of the four GSTs, and whether the leases are recalled (R193). -/
  leases : List Nat := [0, 0, 0, 0]
  leasesRecalled : Bool := false
  shareRegion : Nat := 0
  gswWindow : Nat := 0
  shareHolds : Nat := 0
  budgetHolds : Nat := 0
  /-- An input set on its way from the energy controller. -/
  inbox : Option InputSet := none
  /-- An unprotected interval is open (R294). -/
  unprotected : Bool := false
  /-- The granules its list and APPEND entries name so far, and the sequence of its UNPROTECTED entry. -/
  unprotNoted : List Nat := []
  unprotSeq : Nat := 0
  deriving DecidableEq, Repr

/-- The granule state tables of the four GSTs and the host-visible DRAM, by HDM granule index and byte address. -/
structure Gst where
  /-- State words that are not FREE with MIRROR_STALE clear (R169). -/
  states : List (Nat × GWord) := []
  /-- Granules that hold a reservation (R189), a twin-table entry (R192), or a mirror copy accepted without
  reservation (R178). -/
  rsv : List Nat := []
  twin : List Nat := []
  unreserved : List Nat := []
  /-- Granules rebuilt under R177 and not yet shadowed. -/
  rebuilt : List Nat := []
  /-- The epoch counter and the epoch of the latest write by granule (R245). -/
  epoch : Nat := 0
  touch : List (Nat × Nat) := []
  /-- Bytes of the host-visible DRAM in canonical form; an unlisted byte reads 0 (log 4). -/
  dram : List Host.Cell := []
  /-- The 64-bit words that carry the poison mark, by byte address over 8, ascending (R173, R176, R603). -/
  poison : List Nat := []
  /-- Lines whose mark was written by a poison-fill or sent by the host, which line repair leaves alone (R605). -/
  deliberate : List Nat := []
  deriving DecidableEq, Repr

/-! ## Energy controller -/

/-- A running learning cycle's sums (R226). -/
structure LearnRun where
  /-- Charge drawn and at the split, µC. -/
  q : Nat := 0
  qUpper : Option Nat := none
  vStart : Nat := 0
  split : Nat := 0
  esr : Nat := 0
  /-- Samples taken, and the sums of current (mA) and temperature (0.1 °C) over them. -/
  samples : Nat := 0
  sumI : Int := 0
  sumT : Int := 0
  deriving DecidableEq, Repr

/-- Reference defaults of the ENERGY parameters (R68): without an entry `MIN` = `MAX` = the default (R67). -/
def energyDefaults : List Param :=
  [(1, 2500), (2, 26000), (3, 24000), (4, 38000), (5, 10000), (6, 80), (7, 25), (8, 14000), (9, 3200), (10, 2097152),
   (11, 10800), (12, 2000), (13, 11400), (14, 11200), (15, 500), (16, 30000), (17, 4000)].map
    (fun p => ⟨p.1, p.2, p.2, p.2⟩)

/-- The energy controller with gauge (06). Voltages mV, currents mA, energies mJ, charges µC, temperatures 0.1 °C. -/
structure Nrg where
  esrHigh : Bool := false
  chargeDerate : Bool := false
  cmbFail : Bool := false
  swapDerate : Bool := false
  countDrift : Bool := false
  capSuspect : Bool := false
  relearn : Bool := false
  anchor : Anchor := .unanchored
  hibernate : Bool := false
  logOk : Bool := false
  quagOk : Bool := false
  storePresent : Bool := false
  chgEn : Bool := false
  holdupEn : Bool := false
  reason : HoldReason := .none
  input : InputState := .good
  /-- RIDE was entered by an accepted PFAIL_WARN_N (R273). -/
  rideWarn : Bool := false
  vInput : Nat := 0
  vTarget : Nat := 0
  vOcv : Nat := 0
  vStore : Nat := 0
  iInput : Nat := 0
  iStore : Int := 0
  tDiode : Int := 0
  tNtc0 : Int := 0
  tNtc1 : Int := 0
  ntc0Out : Bool := false
  ntc1Out : Bool := false
  q : Nat := 0
  qFull : Nat := 0
  eV : Nat := 0
  eQ : Nat := 0
  chargeCalc : Nat := 0
  chargePct : Nat := 0
  holdupReserve : Nat := 0
  cUse : Nat := 0
  cLearned : Nat := 0
  kSlope : Int := 0
  /-- ESR by bin in 0.1 mΩ; 0 unmeasured (R230, R232). -/
  esr : List Nat := [0, 0, 0, 0, 0, 0, 0, 0]
  esrBase : Nat := 0
  cycles : Nat := 0
  bin : Nat := 0
  intervalD : Nat := 0x5A
  lastC : Nat := 0
  lastEsr : Nat := 0
  learnCause : Nat := 0
  /-- `START` of `NRG_LEARN_CTRL`, set until the cycle leaves WAIT_FULL. -/
  learnGo : Bool := false
  lstate : LState := .idle
  /-- E_learn of R226 while a cycle waits or runs. -/
  eLearn : Nat := 0
  run : LearnRun := {}
  /-- The 1 ms offset zeroing runs, during which the count uses the last good sample (R206). -/
  zeroing : Bool := false
  /-- `CHARGE_PCT` has taken its first value since power-on (R236). -/
  pctValid : Bool := false
  iNow : Nat := 0
  iSet : Nat := 0xFA0
  paramIdx : Nat := 0
  params : List Param := energyDefaults
  /-- `CELLS` once known: from the first good CMB response or from ENERGY; 0 not known (R70, R648). -/
  cells : Nat := 0
  energyApplied : Bool := false
  cellMax : Nat := 0
  cellMin : Nat := 0
  maxIdx : Nat := 0
  minIdx : Nat := 0
  misses : Nat := 0
  missRun : Nat := 0
  cellsSeen : Nat := 0
  /-- The cells that read more than 30 mV above the lowest, as a mask (R209). -/
  balance : Nat := 0
  cellOver : Bool := false
  /-- The cells over their limit, until each reads `V_CELL_FULL` or less (R209). -/
  overCells : List Nat := []
  moduleId : Nat := 0
  storeId : Nat := 0
  /-- A store has been inserted whose `MODULE_ID` the CMB has not given yet (R239). -/
  idPending : Bool := false
  /-- The CMB has answered since power-on, for the swap check of R239. -/
  cmbChecked : Bool := false
  /-- Highest and lowest Q since the previous FULL anchor (R231). -/
  qHigh : Nat := 0
  qLow : Nat := 0
  /-- Whether the discharge under way may end in an EMPTY anchor (R219). -/
  emptyTaken : Bool := false
  firstSinceInsert : Bool := false
  learnSec : Nat := 0
  calSec : Nat := 0
  calValid : Bool := false
  eGibLast : Nat := 0
  eGibMeas : Nat := 0
  calState : Nat := 0
  calDataMib : Nat := 0
  /-- Energy drawn in the dump's data window, nJ (R240). -/
  windowNj : Nat := 0
  /-- Energy drawn since the last data page of the dump ended, which counts once another starts, nJ. -/
  gapNj : Nat := 0
  gaugeSeq : Nat := 0
  /-- The ESR table and CYCLES of the record in force (R235). -/
  recEsr : List Nat := [0, 0, 0, 0, 0, 0, 0, 0]
  recCycles : Nat := 0
  /-- Operating seconds at the last record that a change of `CYCLES` or of an ESR bin wrote (R235). -/
  recSec : Option Nat := none
  /-- Operating seconds at the last start of a learning cycle that failed (R224). -/
  failSec : Option Nat := none
  /-- Milliseconds of the setpoint's ramp since charging started, up to 100 (R211). -/
  ramp : Nat := 0
  deriving DecidableEq, Repr

/-! ## Always-on memory -/

/-- A component written into the inactive bank whose first word is held in the AOS firmware scratch (R556, R557): its area's
window offset, its kind, the held word, its version. -/
structure HeldComp where
  kind : CompKind
  base : Nat
  word : Nat
  version : Nat
  deriving DecidableEq, Repr

/-- A member's own part of a rolling update (R425): the head's tag and ID, the code of the pair state before it, and whether the restart of
step 4 has happened. -/
structure UpdateRun where
  tag : Nat
  head : Nat
  before : Nat
  restarted : Bool
  deriving DecidableEq, Repr

/-- The firmware scratch of AOS, 2,048 bytes (R25): the held first words of R557 and the update of R425, the only uses the spec gives it. -/
structure Scratch where
  held : List HeldComp := []
  /-- An update that this member runs for the head; it stands across the restart of its step 4. -/
  update : Option UpdateRun := none
  deriving DecidableEq, Repr

/-- The AOS (R25), area by area. The dump trigger and progress record is what `Dmp` keeps across a loss of the core domains. -/
structure Aos where
  /-- The header: the magic stands, the format version, the power-cycle count (`powerCycles`), and the AOS sequence, which goes on at
  every power-on (log 120). -/
  valid : Bool := false
  format : Nat := 1
  seq : Nat := 0
  powerCycles : Nat := 0
  /-- The header's count, or the counters of the pending area, were lost since the log last started (R26, R526). -/
  cyclesLost : Bool := false
  countersLost : Bool := false
  /-- Wake-event latches and replay queue (R576): the domains asked for, in order. -/
  wake : List WakeEntry := []
  /-- Events latched in DUMP, to act on in the next mode (R40): 3 an accepted PFAIL_WARN_N. -/
  latched : List Nat := []
  /-- Pending persistent values (R217). -/
  gauge : Option GaugeRec := none
  /-- Slots whose reservation mark waits (R455), and a waiting ARM entry (R454). -/
  marks : List Nat := []
  armPending : Bool := false
  pair : Option PairRecord := none
  opSec : Nat := 0
  overflow : Nat := 0
  retired : Nat := 0
  /-- The four Sedge fallback records (R527), oldest first. -/
  records : List SedgeRec := []
  shutdownState : Nat := 0
  scratch : Scratch := {}
  deriving DecidableEq, Repr

/-! ## Measured boot -/

/-- One Signet register (R541). -/
structure Signet where
  value : Digest := 0
  count : Nat := 0
  deriving DecidableEq, Repr

/-- One SPDM connection: the steps of the negotiation it has taken (R550, R551). -/
structure SpdmConn where
  versioned : Bool := false
  capable : Bool := false
  negotiated : Bool := false
  deriving DecidableEq, Repr

/-- What the identity certificate carries (R548): the identity public key, the serial, loader digest and `ARB_LOADER`, and the public key
of the DeviceID key that signed it. Its DER bytes are open (log 9). -/
structure IdentCert where
  key : Nat × Nat
  serial : Nat
  loader : Digest
  arbLoader : Nat
  signer : Nat × Nat
  deriving DecidableEq, Repr

/-- The Signet attestation block (17). -/
structure Sig where
  extRefused : Nat := 0
  commitRefused : Bool := false
  recoverySvc : Bool := false
  certValid : Bool := false
  devidSealed : Bool := false
  fwSlot : Nat := 0
  loaderSlot : Nat := 0
  stage : Nat := 0
  sel : Nat := 0
  /-- The DeviceID private key, held from the start of the ROM stage until it is sealed; the identity private key; and what the identity
  certificate says (R547, R548). -/
  devidKey : Option Nat := none
  identKey : Option Nat := none
  identCert : Option IdentCert := none
  signets : List Signet := List.replicate 8 {}
  extData : List Nat := [0, 0, 0, 0, 0, 0]
  extReg : Nat := 0
  imgArb : Nat := 0
  fwArb : Nat := 0
  ldrArb : Nat := 0
  fwVersion : Nat := 0
  ldrVersion : Nat := 0
  errors : Nat := 0
  signed : Nat := 0
  mctpReq : Nat := 0
  doeReq : Nat := 0
  /-- The digests measurement blocks 1 to 5 and 8 report (R553). -/
  digests : List Digest := [0, 0, 0, 0, 0, 0]
  /-- The mode at the end of BOOT, for the boot configuration record (R555). -/
  bootMode : Nat := 0
  /-- The `SEC_FLAGS`, `KEY_MODES`, image slot and `CLOCK_DEGRADED` of that record. -/
  bootSec : Nat := 0
  bootKeyModes : Nat := 0
  bootImage : Nat := 0xFF
  connDoe : SpdmConn := {}
  connSmbus : SpdmConn := {}
  connVdm : SpdmConn := {}
  deriving DecidableEq, Repr

/-! ## Power manager -/

/-- One input filter (R586, R587): its state, the raw pin level (true: high), and the count of pulses. -/
structure Filter where
  st : FilterState := .idle
  level : Bool := false
  pulses : Nat := 0
  /-- The pin has shown the asserted level since the filter started; for STORE_PRES_N, that a module's absence was seen. -/
  seen : Bool := false
  deriving DecidableEq, Repr

/-- The power, clock and reset manager (18). Domain bitmaps use the numbers of R563. -/
structure Pwr where
  refuser : Nat := 0xFF
  refuseCause : Nat := 0
  vaultEmpty : Bool := false
  faultN : Bool := false
  rtcDegraded : Bool := false
  /-- The crystal's absence was found before the core ran, and its event is still due (R581). -/
  rtcDue : Bool := false
  /-- `ENTRY`: 0 IDLE, 1 ENTERING, 2 ROLLBACK, 3 EXITING. -/
  entry : Nat := 0
  target : Nat := 0
  pstate : Nat := 0
  stallUs : Nat := 200
  idleUs : Nat := 1000
  p1En : Bool := true
  failed : Nat := 0
  waking : Nat := 0
  down : Nat := 0
  on : Nat := 0
  replayed : Nat := 0
  stallMaxUs : Nat := 0
  wakes : Nat := 0
  structCnt : Nat := 0
  warmCnt : Nat := 0
  fwCnt : Nat := 0
  railTries : Nat := 0
  lastKind : Nat := 0
  /-- The TAP is held in reset (R615). -/
  tapHeld : Bool := true
  warnFilter : Filter := {}
  tamperFilter : Filter := {}
  /-- STORE_PRES_N starts in ASSERTED (R587). -/
  storeFilter : Filter := { st := .asserted }
  odFilter : Filter := {}
  wdtMs : Nat := 1000
  /-- `KICK` as written; the tables give nothing that clears it (R11, log 123). -/
  kick : Bool := false
  /-- The step of a P2 entry under way, 1 to 6; 0 none (R567), and the path of its command. -/
  entryStep : Nat := 0
  entryVia : Via := .primary
  /-- Rail enables and power-goods (R611, R617, R618), and the isolation of the IO and SDS pins. -/
  aonUp : Bool := false
  coreEn : Bool := false
  memEn : Bool := false
  vltEn : Bool := false
  corePg : Bool := false
  isolated : Bool := true
  /-- Between two core-rail attempts (R580). -/
  retryWait : Bool := false
  /-- CORE_PG fell or rose after a rail fault: the next rise is a STRUCTURAL reset (R617). -/
  railReset : Bool := false
  /-- The device powered down after a dump and watches the input (R618). -/
  poweredDown : Bool := false
  /-- A power-down waits for a running flash operation to end (R216). -/
  downPending : Bool := false
  /-- VCCQ_VLT stays off until the next structural or cold reset (R590). -/
  vaultOff : Bool := false
  testStrap : Bool := false
  /-- The straps have been sampled since VDD_AON rose (R614). -/
  strapped : Bool := false
  /-- Operating seconds of the recent firmware restarts, newest first, and the halt of R585. -/
  restarts : List Nat := []
  halted : Bool := false
  /-- A FIRMWARE reset has begun and the firmware has not kicked the watchdog since (R585). -/
  fwBusy : Bool := false
  /-- Junction sensors outside the variant's range (R627). -/
  tempOut : Nat := 0
  deriving DecidableEq, Repr

/-! ## Vault media and vault manager -/

/-- A page of granule data on the media: a DATA page of a row, or the first copy of a TWIN page (R339 to R341). -/
structure Page where
  granule : Nat
  region : Nat
  seq : Nat
  epoch : Nat
  twin : Bool
  dump : Bool
  stale : Bool
  /-- `ENC`, the lines of `POISON_MAP`, and `COUNTER` of an encrypted page (R340). -/
  enc : Bool
  poison : List Nat
  counter : Nat
  /-- The bytes on the media, scrambled (R332): the data area, ciphertext where the page is encrypted, the header and the header parity
  field. The fields above are what that header says. -/
  media : List Nat
  deriving DecidableEq, Repr

/-- The fields of a page header (R340). -/
structure PageHead where
  kind : Nat
  enc : Bool
  stale : Bool
  dump : Bool
  poison : List Nat
  region : Nat
  quad : Nat
  col : Nat
  width : Nat
  index : Nat
  epoch : Nat
  seq : Nat
  counter : Nat
  draw : Nat
  used : Nat
  deriving DecidableEq, Repr

/-- A granule captured for a page (R250, R433 to R436): the counter taken, the staleness and poisoned lines of the moment, the data area as
it is programmed, and for an encrypted page H and AES_K3(J0), from which the tag is made once the header stands. -/
structure Sealed where
  counter : Nat
  stale : Bool
  poison : List Nat
  area : List Nat
  tagKey : Option (List Nat × List Nat)
  deriving DecidableEq, Repr

/-- A vault map entry (R355): the copy's VPA and layout, and what is recorded with it. -/
structure MapEntry where
  /-- `REF`: 0 no copy, 1 row page, 2 twin page. -/
  ref : Nat
  vpa : Nat
  stale : Bool
  poisonLines : Bool
  lost : Bool
  deriving DecidableEq, Repr

/-- A log entry (R356) with its sequence. -/
inductive LogWhat where
  | program (granule vpa : Nat) (stale twin poisonLines : Bool)
  | release (first count : Nat)
  | lost (granule : Nat)
  | boot (powerCycles : Nat)
  /-- UNPROTECTED with the granules of its list (R310). -/
  | unprotectStart (granules : List Nat)
  | protectEnd (seq : Nat)
  | segment (seg kind erases : Nat)
  | retire (vpa replacement : Nat)
  | fail (channel dieMask : Nat)
  | checkpoint (seq : Nat)
  | append (granule : Nat)
  deriving DecidableEq, Repr

structure LogEntry where
  seq : Nat
  what : LogWhat
  deriving DecidableEq, Repr

/-- Segment kinds (R337). -/
inductive SegKind where
  | manifest | metaRing | peat | dump | twin | free | retired
  deriving DecidableEq, Repr

/-- One segment: kind, erase count, rows programmed, columns absent in it, and the order in which it was taken. -/
structure Seg where
  kind : SegKind
  erases : Nat
  rows : Nat
  absent : Nat
  order : Nat
  deriving DecidableEq, Repr

/-- The manifest in force (R352). -/
structure Manifest where
  epoch : Nat
  failedCh : Nat
  mseq : Nat
  vlh : Digest
  failedDie : List Nat
  /-- `BASE`, `SIZE` and the bound part of `CLASS` by region; unlisted regions undefined. -/
  regions : List (Nat × Nat × Nat × Nat)
  deriving DecidableEq, Repr

/-- The newest complete checkpoint (R360). -/
structure Ckpt where
  seq : Nat
  map : List (Nat × MapEntry)
  segs : List (Nat × Seg)
  dsc : Nat
  dscSeq : Nat
  writtenMib : Nat
  shadowedMib : Nat
  balance : Int
  debt : Nat
  /-- Page data the save path has programmed, which `WA_LIFE` leaves out; the spec gives it no place in the record (log 135). -/
  savedMib : Nat
  deriving DecidableEq, Repr

/-- An entry of a dirty list (R361). -/
structure ListEntry where
  granule : Nat
  state : GState
  stale : Bool
  adopted : Bool
  merge : Bool
  region : Nat
  prio : Nat
  deriving DecidableEq, Repr

/-- A commit record body (R363), less its quadrant and dump sequence. -/
structure BodyRec where
  trigger : Nat
  /-- `OUTCOME`. -/
  outcome : Nat
  listed : Nat
  written : Nat
  lost : Nat
  listDraw : Nat
  deltaDraw : Nat
  deltaPages : Nat
  dsc : Nat
  elapsedUs : Nat
  dscSeq : Nat
  tailSeq : Nat
  tailCount : Nat
  vCommit : Nat
  vBody : Nat
  eDrawn : Nat
  deriving DecidableEq, Repr

/-- One quadrant's part of a dump as the media holds it (R361 to R364). -/
structure QuadDump where
  quad : Nat
  /-- The LIST_HDR page is readable, and its count of entries by region. -/
  header : Bool
  counts : List (Nat × Nat)
  /-- The entries of the LIST pages that passed, each with its place in the list. -/
  list : List (Nat × ListEntry)
  /-- The map delta: of each listed entry the granule, the VPA of its data page (none: the entry is LOST) and MIRROR_STALE; none
  until every DELTA page passed. -/
  delta : Option (List (Nat × Option Nat × Bool))
  /-- The commit record body, where it passed. -/
  body : Option BodyRec
  /-- A mark with the `BODY_CRC` of that body passed (R364). -/
  mark : Bool
  deriving DecidableEq, Repr

/-- A dump as the media holds it. -/
structure DumpRec where
  seq : Nat
  /-- The governor's balance and debt, MiB (`WEAR_BAL`, `WEAR_DEBT` of the DELTA pages). -/
  balance : Int
  debt : Nat
  quads : List QuadDump
  deriving DecidableEq, Repr

/-- The vault manager's durable and volatile state (10). -/
structure Vlt where
  /-- On the media. -/
  blank : Bool := true
  manifest : Option Manifest := none
  ckpt : Option Ckpt := none
  log : List LogEntry := []
  dumps : List DumpRec := []
  pages : List (Nat × Page) := []
  /-- The other pages on the media, scrambled, by VPA: PARITY and PAD pages and data of released granules (R342), and structure pages, of
  which the first copy stands for all (R338, R341). -/
  other : List (Nat × List Nat) := []
  /-- The META ring, as the manifest names it, and the place in it of the segment that takes pages now (R337, R352); the MANIFEST segment
  that takes manifest pages, 0 or 1 (R351). -/
  metaRing : List Nat := []
  metaAt : Nat := 0
  manifestAt : Nat := 0
  /-- The start of the second-newest complete checkpoint (R359). -/
  ckptOlder : Nat := 0
  segs : List (Nat × Seg) := []
  /-- Retired and factory-bad blocks by VPA of their page 0, with the replacement block (0xFFFF_FFFF none), and the blocks
  marked WORN. -/
  retired : List (Nat × Nat) := []
  worn : List Nat := []
  /-- In the device. -/
  epoch : Nat := 0
  seq : Nat := 0
  map : List (Nat × MapEntry) := []
  pendLog : List LogEntry := []
  ckptRunning : Option Nat := none
  mapValid : Bool := false
  /-- The BOOT entry of this power-on has been appended (R304). -/
  bootEntry : Bool := false
  /-- Granules made LOST at restore whose LOST entries wait for the BOOT entry (R312). -/
  lostWait : List Nat := []
  /-- Granules whose vault copies are released with the BOOT entry: of regions that this side neither owns nor adopts (R400). -/
  relWait : List Nat := []
  /-- The highest vault sequence read during the restore (R350). -/
  highSeq : Nat := 0
  /-- The dump reserve in draw order, as segment numbers, and the row next drawn. -/
  reserve : List Nat := []
  segOrder : Nat := 0
  /-- Segments whose collection is called for before the victim order, oldest first (R345, R347, R348). -/
  relocate : List Nat := []
  /-- Blocks, by VPA of page 0, whose program failed and that are retired at their next erase (R347); segments whose erase
  runs (R266, R370). -/
  failedBlocks : List Nat := []
  erasing : List Nat := []
  /-- Blocks of the replacement pools and of the segments found bad at format, by VPA of page 0 (R346). -/
  factoryBad : List Nat := []
  /-- The redundancy rebuild under way (R345): its column and the segments still to relocate. -/
  rebuildCol : Nat := 0
  rebuildSegs : List Nat := []
  /-- TWIN segments under compaction with the live pages relocated so far (R370), and segments a scrub reads (R348). -/
  compact : List (Nat × Nat) := []
  scrubbing : List Nat := []
  /-- The reads of a block so far: page 0 of the block, the sum of their correction loads in 0.01 %, and their number (R263). -/
  readLoads : List (Nat × (Nat × Nat)) := []
  deriving DecidableEq, Repr

/-- One SET FEATURES a channel has issued (R62): the die, the LUN where the entry is per LUN, the feature's address and value. -/
structure FeatureSet where
  die : Nat
  lun : Option Nat
  address : Nat
  value : Nat
  deriving DecidableEq, Repr

/-- One vault channel interface (10). -/
structure Vch where
  /-- 0 OFF, 1 INIT, 2 ACTIVE, 3 FAILED. -/
  state : Nat := 0
  dieFailed : Nat := 0
  diePresent : Nat := 0
  partner : Nat := 0
  column : Nat := 0
  timing : Nat := 0
  rate : Nat := 0
  dieSel : Nat := 0
  factoryBad : List Nat := [0, 0, 0, 0, 0, 0, 0, 0]
  maxLoad : Nat := 0
  hardFails : Nat := 0
  corrected : Nat := 0
  progFail : Nat := 0
  eraseFail : Nat := 0
  timeouts : Nat := 0
  rebuilds : Nat := 0
  progPages : Nat := 0
  readPages : Nat := 0
  retryLevels : Nat := 8
  /-- Failed trainings, and timeouts in succession by die (R344). -/
  trainFails : Nat := 0
  missRun : List Nat := [0, 0, 0, 0, 0, 0, 0, 0]
  /-- `FORCE_FAIL` of `VCH_CTRL`, as written in TEST. -/
  forceFail : Bool := false
  /-- The SET FEATURES of the last initialization, in order of issue (R62). -/
  features : List FeatureSet := []
  deriving DecidableEq, Repr

/-! ## Shadow governor -/

/-- What a column of an open row holds. -/
inductive ColWhat where
  /-- A granule captured from DRAM: the mirror sequence at capture, and what is programmed. -/
  | granule (g region mseq : Nat) (page : Sealed)
  /-- A live page relocated under a new address, with a new counter (R266). -/
  | moved (g region fromVpa : Nat) (page : Sealed)
  /-- A page of a granule released while its program ran: its result is discarded (R183). -/
  | dropped (g region : Nat) (page : Sealed)
  | pad
  deriving DecidableEq, Repr

structure Col where
  col : Nat
  what : ColWhat
  passed : Option Bool
  /-- The staging buffer the page is programmed from: its requester and pointer (R250, R255). -/
  buf : Option (Nat × Nat)
  deriving DecidableEq, Repr

/-- An open or running Peat row (R252). -/
structure Row where
  die : Nat
  seg : Nat
  row : Nat
  /-- Its parity column (R336). -/
  parity : Nat
  cols : List Col
  parityPassed : Option Bool
  closed : Bool
  deriving DecidableEq, Repr

/-- A twin program of a granule (R148, R149): where it goes, what it holds, and the writes it covers. -/
structure TwinProg where
  granule : Nat
  region : Nat
  vpa : Nat
  vpa2 : Nat
  mseq : Nat
  page : Sealed
  covers : List Nat
  /-- Copies whose program has not ended, whether one failed, and whether the granule was released meanwhile (R183). -/
  left : List Nat
  failed : Bool
  discard : Bool
  /-- Its staging buffer (R250, R469). -/
  buf : Option (Nat × Nat)
  deriving DecidableEq, Repr

/-- A running SHADOW_RANGE or BARRIER (R269), by the opcode it runs for: 0xC002, 0xC003, 0xC008 the barrier of
SET_POWER_STATE 3, 0xC00D the barrier a member runs for the head of its array. -/
structure ShadowCmd where
  opcode : Nat
  /-- Granules that do not meet their conditions yet, and those of them whose running program began before the doorbell and does
  not count. -/
  left : List Nat
  old : List Nat
  /-- Granules shadowed so far, and those of them re-dirtied since. -/
  met : List Nat
  again : List Nat
  deriving DecidableEq, Repr

/-- Reference defaults of LIFE (R71). -/
def lifeDefaults : List Param :=
  [(0x41, 40), (0x42, 10), (0x43, 64), (0x44, 50)].map (fun p => ⟨p.1, p.2, p.2, p.2⟩)

/-- The shadow governor (07). -/
structure Shd where
  balFloor : Bool := false
  life100 : Bool := false
  life90 : Bool := false
  wearAhead : Bool := false
  gc : GcState := .idle
  spacePause : Bool := false
  regime : Regime := .idle
  /-- r in bytes per second; balance and debt in bytes (R257). -/
  rate : Nat := 0
  balance : Int := 0
  debt : Nat := 0
  /-- Page data programmed and granule data shadowed over life, bytes. -/
  written : Nat := 0
  shadowed : Nat := 0
  /-- Page data the save path has programmed over life, bytes, which write amplification leaves out (R268). -/
  saved : Nat := 0
  /-- Operating seconds at the last move of static wear levelling (R267). -/
  wlSec : Option Nat := none
  recentProgrammed : Nat := 0
  recentShadowed : Nat := 0
  waRecent : Nat := 0
  padPages : Nat := 0
  gcShare : Nat := 0x14
  gcLow : Nat := 6
  rowCloseMs : Nat := 100
  /-- Candidate rings of the four SDEs, head first (R244). -/
  ring0 : List Nat := []
  ring1 : List Nat := []
  ring2 : List Nat := []
  ring3 : List Nat := []
  rows : List Row := []
  twins : List TwinProg := []
  cmds : List ShadowCmd := []
  cmdTarget : Nat := 0
  cmdDone : Nat := 0
  wlMoves : Nat := 0
  wornBlocks : Nat := 0
  life : List Param := lifeDefaults
  elapsedLife : Nat := 0
  lifeUsed : Nat := 0
  /-- A capture was deferred for tokens and the event 0x0502 has been logged. -/
  starved : Bool := false
  /-- The die position the next capture goes to: rows fill in rotation (R252). -/
  nextDie : Nat := 0
  deriving DecidableEq, Repr

/-! ## Dump and restore sequencer -/

/-- One quadrant's progress in a dump (R281): its phase coded as `PHASE`, its dirty list, the entries whose data pages have not
started, the structure pages not started, the programs that run and the pages that passed, each with its VPA, and the granules
the dump lost. -/
structure DumpQuad where
  phase : Nat := 0
  list : List ListEntry := []
  left : List ListEntry := []
  queue : List DumpPage := []
  running : List (DumpPage × Nat) := []
  placed : List (DumpPage × Nat) := []
  lost : List Nat := []
  marked : Bool := false
  /-- The commit record body programmed last, and the `DRAW` of the rows of the list header and of the first DELTA page (R363). -/
  record : Option BodyRec := none
  listDraw : Nat := 0
  deltaDraw : Nat := 0
  /-- The quadrant's DRAM channel failed during the dump. -/
  channelLost : Bool := false
  deriving DecidableEq, Repr

/-- The open dump row (R282): its segment, row, parity column and the columns whose programs have started. -/
structure DumpRow where
  seg : Nat
  row : Nat
  parity : Nat
  used : List Nat
  /-- The quadrants whose pages it holds. -/
  quads : List Nat
  /-- The exclusive or of the data areas and headers of the pages begun (R342). -/
  sum : List Nat
  deriving DecidableEq, Repr

/-- The dump/restore sequencer (08, 09). Energies mJ except where named µJ. -/
structure Dmp where
  seq : Nat := 0
  dieLoss : Bool := false
  bounce : Bool := false
  media : Bool := false
  alarm : Bool := false
  floored : Bool := false
  truncated : Bool := false
  complete : Bool := false
  done : Bool := false
  holdupAct : Bool := false
  preflush : Bool := false
  trigger : Nat := 0
  /-- 0 IDLE, 1 COAST, 2 LIST, 3 DATA, 4 MAP, 5 COMMIT, 6 LOG, 7 ENDED. -/
  phase : Nat := 0
  priorLost : Nat := 0
  totalUs : Nat := 0
  listUs : Nat := 0
  vEnd : Nat := 0
  vCommit : Nat := 0
  eCommit : Nat := 0
  eDrawn : Nat := 0
  eTail : Nat := 0
  eWave : Nat := 0
  eNow : Nat := 0
  q0 : DumpQuad := {}
  q1 : DumpQuad := {}
  q2 : DumpQuad := {}
  q3 : DumpQuad := {}
  dsc : Nat := 0
  dscSeq : Nat := 0
  testFloor : Nat := 0
  /-- The input has been at V_RECOVER or above for 10 µs (R40). -/
  inputGood : Bool := false
  /-- Regions whose key slot was erased during this dump. -/
  keyLost : List Nat := []
  /-- Slots that have answered AT_MARK in this dump (R453). -/
  markLost : List Nat := []
  /-- Granules whose restore merge the dump has still to do (R279). -/
  merges : List Nat := []
  /-- The open dump row, rows drawn so far, parity programs that run with the quadrants whose pages
  they cover, and dies lost for the rest of the dump, as
  8 × channel + die (R282, R289, R366). -/
  row : Option DumpRow := none
  drawn : Nat := 0
  parity : List (Nat × List Nat) := []
  /-- The log tail: the entries pending at the commit (R357). -/
  tail : List LogEntry := []
  lostDies : List Nat := []
  /-- The tail gate has refused a data page (R285). -/
  tailStop : Bool := false
  srcDumpSeq : Nat := 0
  scanRebuilt : Bool := false
  markMissing : Bool := false
  /-- Lines whose repair from the vault is asked for (R605). -/
  lineFix : List Nat := []
  unprotLoss : Bool := false
  kind : Nat := 0
  rphase : Nat := 0
  restored : Nat := 0
  lostAtRestore : Nat := 0
  bulkMs : Nat := 0
  openUs : Nat := 0
  fetches : Nat := 0
  fetchMaxUs : Nat := 0
  cpktSeq : Nat := 0
  replayed : Nat := 0
  parityRepairs : Nat := 0
  partnerRepairs : Nat := 0
  retryFailed : Nat := 0
  tagFails : Nat := 0
  /-- Fetches queued or running, on demand (first) or bulk (R315, R320). -/
  fetching : List Nat := []
  bulk : List Nat := []
  /-- A RETRY_GRANULE under way: its granule. -/
  retry : Option Nat := none
  deriving DecidableEq, Repr

/-! ## Korric link -/

/-- A repair exchange this side has asked for (R407): its tag, the granule, the lines still to come and those that
arrived; a line repair (R605) applies to the one line named. -/
structure RepairAsk where
  tag : Nat
  granule : Nat
  line : Option Nat
  got : List (Nat × BitVec 512)
  poisoned : List Nat
  /-- Lines of the granule written since the request (R605). -/
  written : List Nat
  deriving DecidableEq, Repr

/-- A RELEASE_RANGE that waits for the partner (R185): its region and range, the granules that were not FREE, its CCI, and whether the
notice has been sent. -/
structure RelWait where
  region : Nat
  first : Nat
  count : Nat
  used : Nat
  via : Via
  sent : Bool
  deriving DecidableEq, Repr

/-- A takeover command that waits for the witness, for the decision to end, or for its pair record (R397 to R400). -/
structure TakeoverCmd where
  via : Via
  force : Bool
  /-- 0 waits for the decision, 1 for the witness, 2 for the pair record. -/
  wait : Nat
  answer : Nat
  deriving DecidableEq, Repr

/-- The Korric link unit (11). -/
structure Kor where
  state : PairState := .unpaired
  soloCause : Nat := 0
  width : Nat := 0
  spareTx : Bool := false
  spareRx : Bool := false
  witness : Nat := 0
  fullResync : Bool := false
  pressureOut : Bool := false
  pressureIn : Bool := false
  tbAgreed : Bool := false
  copiesCurrent : Bool := false
  side : Bool := false
  rxFailed : Nat := 0
  txFailed : Nat := 0
  swaps : Nat := 0
  mack : Nat := 0
  mseqNext : Nat := 0
  pMepoch : Nat := 0
  pCwyId : Nat := 0
  pTiebreak : Bool := false
  pSide : Bool := false
  decisions : Nat := 0
  retrain : Nat := 0
  lastNs : Nat := 0
  resent : Nat := 0
  replays : Nat := 0
  fecUncorr : Nat := 0
  crc : Nat := 0
  fecSym : Nat := 0
  /-- Corrected FEC symbols short of the next unit of 1,024. -/
  fecRem : Nat := 0
  swapThresh : Nat := 0x100
  forceWaitS : Nat := 10
  rttMax : Nat := 0
  rtt : Nat := 0
  /-- The unit is powered. -/
  unitOn : Bool := false
  /-- Lanes carry flits; the STATE and the DIGEST exchange of this link-up are complete; the link counts as up
  (R373). -/
  trained : Bool := false
  stateSeen : Bool := false
  digestSeen : List (Nat × Nat) := []
  up : Bool := false
  /-- The findings of R395 at this link-up. -/
  sameSide : Bool := false
  digestBad : Bool := false
  /-- A partner Causeway ID other than own ID XOR 1 was ever shown (R393). -/
  wrongId : Bool := false
  /-- MEPOCH of this side, drawn at each DRAM initialization (R401). -/
  mepoch : Nat := 0
  /-- The state before DECIDING, and whether TRAINING was entered from SOLO (R389). -/
  before : PairState := .unpaired
  fromSolo : Bool := false
  /-- The fast retrain of the decision has failed and the witness is asked. -/
  asking : Bool := false
  /-- Operating seconds at the SOLO entry, for `FORCE_WAIT_S` (R398). -/
  soloSec : Nat := 0
  /-- Sequences: next `FSEQ` to send, last accepted in order; the replay buffer, oldest first (R378). -/
  txSeq : Nat := 0
  rxSeq : Nat := 0
  replay : List (Nat × FlitBody) := []
  /-- Flits that wait for one of its 8,320 slots (R379). -/
  txQueue : List FlitBody := []
  nakOut : Bool := false
  swapReqOut : Bool := false
  /-- A lane swap under way, in the receive and in the transmit direction (R387): lane, cause and switch codeword. -/
  rxSwap : Option (Nat × Nat × Nat) := none
  txSwap : Option (Nat × Nat × Nat) := none
  /-- Initial training runs (R373). -/
  trainingOn : Bool := false
  /-- The slot of the last message taken of the flit `rxSeq`. -/
  rxIdx : Nat := 15
  /-- The latest `MSEQ` received, and the latest of each mirror copy (R178). -/
  rxLast : Nat := 0
  lastMseq : List (Nat × Nat) := []
  /-- The granule being resent and its next line; resync lines not yet acknowledged, by `MSEQ` (R383, R401). -/
  resendAt : Option (Nat × Nat) := none
  resyncOut : List Nat := []
  /-- The slot of the pair sectors that the next record takes (R400). -/
  pairSlot : Nat := 0
  /-- Mirror side: the highest `MSEQ` whose line and all below are in DRAM, and the lines held for a reservation in
  order (R198, R382). -/
  rxMseq : Nat := 0
  held : List LineSlot := []
  heldPoison : List Nat := []
  /-- Granules with a mirror write since link-up (R401 step 4), and those resent whose mark waits for an `MSEQ`
  (R405). -/
  arrived : List Nat := []
  marks : List (Nat × Nat) := []
  /-- Granules whose MIRROR_STALE waits for a resend, ascending (R401 step 5); the end messages sent and received. -/
  resend : List Nat := []
  endSent : Bool := false
  endSeen : Bool := false
  conflicts : List Nat := []
  /-- Pending releases (R396). -/
  pendRel : List (Nat × Nat) := []
  /-- The pair record in force and the record being written (R400). -/
  record : PairRecord := ⟨0, [], 0⟩
  /-- Regions asked about at the partner for their start check (R385). -/
  opening : List Nat := []
  /-- RELEASE_RANGE commands waiting for the partner's RELEASE_DONE (R185). -/
  relWait : List RelWait := []
  takeover : Option TakeoverCmd := none
  repairs : List RepairAsk := []
  /-- Repairs this side serves: granule, tag and the next line to send (R383, R407). -/
  repairOut : List (Nat × Nat × Nat) := []
  nextTag : Nat := 0
  /-- Ownership copies queued (R399), and the regions whose return they complete (R404). -/
  ownCopies : List Nat := []
  returning : List Nat := []
  /-- Regions returned by this side whose own copies are released at OWN_COPY_DONE. -/
  gaveBack : List Nat := []
  deriving DecidableEq, Repr

/-! ## Causeway -/

/-- Why a witness query was sent. -/
inductive WitnessFor where
  | decision | training | takeover
  deriving DecidableEq, Repr

/-- A member's progress in a rolling update (R425). -/
structure ArrayCmd where
  via : Via
  sub : Nat
  /-- Members addressed that have not answered, and the answers so far: member, status, result. -/
  waiting : List Nat
  answers : List (Nat × Nat × Fields)
  /-- ROLL_UPDATE: members not yet started. -/
  left : List Nat
  /-- The member mask of the command. -/
  mask : Nat
  deriving DecidableEq, Repr

/-- A window read on its way (R420); `latch` while the path it came by has made no other access, so that the upper half of a 32-bit
read at +0 is kept for it (R642). -/
structure WinAsk where
  path : Path
  member : Nat
  off : Nat
  addr : Nat
  width : Nat
  tag : Nat
  latch : Bool
  deriving DecidableEq, Repr

/-- The Causeway unit (12). -/
structure Cwy where
  headId : Nat := 0
  unit : RunState := .off
  pfailOut : Bool := false
  idFromImage : Bool := false
  headCapable : Bool := false
  dupId : Bool := false
  electing : Bool := false
  isHead : Bool := false
  ringUp : Bool := false
  myId : Nat := 0
  live : Nat := 0
  dumping : Nat := 0
  headcaps : Nat := 0
  eidBase : Nat := 0
  updParallel : Nat := 1
  rollEn : Bool := false
  remoteWrEn : Bool := true
  winBase : Nat := 0
  noAnswer : Nat := 0
  alive : Nat := 0
  dead : Nat := 0
  queries : Nat := 0
  relocks : Nat := 0
  winAbort : Nat := 0
  hopsExpired : Nat := 0
  crcErr : Nat := 0
  updState : Nat := 0
  failId : Nat := 0
  updated : Nat := 0
  /-- Straps as sampled (R614). -/
  strapId : Nat := 0
  strapHeadcap : Bool := false
  ringEn : Bool := true
  /-- The head's two most recent returned roll calls (R418), newest first. -/
  history : List Nat := []
  /-- A claim of this member travels, and a lower claim has been seen (R417). -/
  claiming : Bool := false
  lowerSeen : Bool := false
  nextTag : Nat := 0
  asking : Option (WitnessFor × Nat) := none
  winAsks : List WinAsk := []
  array : Option ArrayCmd := none
  /-- A BARRIER that this member runs for the head: its tag and the head's ID. -/
  barrierFor : Option (Nat × Nat) := none
  deriving DecidableEq, Repr

/-! ## Cipher engine -/

/-- What a slot's REKEY works from: the key bytes loaded, or a root selector. -/
inductive KeyStage where
  | native (bytes : List Nat)
  | derived (root : Nat)
  deriving DecidableEq, Repr

/-- One Locket slot (R437, R438), with the reservation of a region slot (R451). -/
structure KSlot where
  st : RunState := .off
  reArm : Bool := false
  result : Nat := 0
  kcv : Nat := 0
  root : Nat := 0
  counter : Nat := 0
  mark : Nat := 0
  key : List Nat := []
  /-- H of the key, computed at REKEY (R434). -/
  hash : List Nat := []
  stage : Option KeyStage := none
  /-- The check value a REKEY computed that waits for its BIND entry (R445). -/
  binding : Option Nat := none
  /-- Below the low and the guard level (R452). -/
  low : Bool := false
  guard : Bool := false
  deriving DecidableEq, Repr

/-- The cipher engine, Locket and Clasp (13). -/
structure Cip where
  alarmSrc : Nat := 0
  alarmLatch : Bool := false
  /-- Sources whose condition still holds (R461). -/
  alarmNow : Nat := 0
  rsvRecovered : Bool := false
  compactBusy : Bool := false
  /-- `COMPACT` of `CIP_RSV`, set until the compaction it started is done. -/
  compactGo : Bool := false
  /-- The half being compacted has been erased up to a sector; the snapshot is asked for. -/
  compactSector : Nat := 0
  activeHalf : Nat := 0
  coresOk : Nat := 0xFF
  refused : Nat := 0
  owner : Nat := 0
  slotSel : Nat := 0
  cmdRoot : Nat := 0
  slots : List KSlot := List.replicate 264 {}
  /-- Staging words written, by word (R444). -/
  staging : List (Nat × Nat) := []
  jumps : Nat := 0
  entrySeq : Nat := 0
  dummy : Nat := 7
  tagFails : Nat := 0
  keyRefused : Nat := 0
  guardWaits : Nat := 0
  coreFaults : Nat := 0
  cores : List (Option CipOp) := [none, none, none, none, none, none, none, none]
  queue : List CipOp := []
  /-- `OPS` of the four pairs. -/
  ops : List Nat := [0, 0, 0, 0]
  /-- No snapshot was valid and the jumps are used up (R460). -/
  exhausted : Bool := false
  /-- The boot ARM entry has passed (R456). -/
  armed : Bool := false
  deriving DecidableEq, Repr

/-! ## Tussock -/

/-- A carving of one slice: buffers per slice and `SPILL_UP` of pools 0 to 3 (R467). -/
structure Carving where
  count : List Nat := [0, 0, 0, 0]
  spill : List Bool := [false, false, false, false]
  deriving DecidableEq, Repr

/-- A buffer descriptor (R476); `dstate` 0 FREE, 1 HELD, 2 QUARANTINED. -/
structure Desc where
  dstate : Nat
  refcnt : Nat
  cls : Nat
  holders : Nat
  deriving DecidableEq, Repr

/-- The Tussock allocator (14). -/
structure Tsk where
  quarantined : Nat := 0
  slices : List RunState := [.off, .off, .off, .off]
  recarved : Nat := 0
  unit : RunState := .off
  emptyCnt : List Nat := [0, 0, 0, 0]
  spills : List Nat := [0, 0, 0, 0]
  saveRsv : Nat := 8
  cause : Nat := 0
  requester : Nat := 0
  pointer : Nat := 0
  badPointer : Nat := 0
  countZero : Nat := 0
  nonHolder : Nat := 0
  badShare : Nat := 0
  descSel : Nat := 0
  carvings : List Carving := [{}, {}, {}, {}]
  /-- The carving handed over by a live re-application. -/
  next : Option Carving := none
  /-- Descriptors that are not FREE and fresh, by pointer. -/
  descs : List (Nat × Desc) := []
  deriving DecidableEq, Repr

/-! ## DDR5 channel controllers -/

/-- One QDC (19). Chip counts go by 16 × slot + component. -/
structure Qdc where
  degraded : Nat := 0
  /-- Chip marks by slot (R598). -/
  marks : List (Nat × Nat) := []
  /-- 0 OFF, 1 INIT, 2 ACTIVE, 3 FAILED. -/
  state : Nat := 0
  passes : Nat := 0
  /-- The line patrol reads next, of the channel's lines (R596). -/
  patrolLine : Nat := 0
  patrolH : Nat := 24
  markCe : Nat := 0x100
  markPersist : Nat := 4
  setSlot : Nat := 0
  setChip : Nat := 0
  corrected : List (Nat × Nat) := []
  persist : List (Nat × Nat) := []
  chipSlot : Nat := 0
  chipSel : Nat := 0
  ueLines : Nat := 0
  lastLine : Nat := 0
  ceHost : Nat := 0
  cePatrol : Nat := 0
  sramUe : Nat := 0
  sramCe : Nat := 0
  fromPartner : Nat := 0
  fromVault : Nat := 0
  unrepaired : Nat := 0
  symB : Nat := 0
  symA : Nat := 0
  symbols : Nat := 0
  target : Nat := 0
  armed : Bool := false
  /-- Uncorrectable lines of the current millisecond (R607). -/
  ueRecent : Nat := 0
  /-- Lines whose repair has been requested (R605), and errors planted in stored words (R609). -/
  asked : List Nat := []
  planted : List (Nat × List SymErr) := []
  /-- Faults planted in SRAM words (R609): the array in the order of R601, the address, and whether two symbols are bad. -/
  sramPlanted : List (Nat × Nat × Bool) := []
  deriving DecidableEq, Repr

/-! ## The whole state -/

/-- The state of the block: every unit, what the device has sent, the events on their way to the EVR, the counter that
feeds the free values, and the queue of commands that wait. -/
structure State where
  spn : Spn := {}
  img : Img := {}
  evr : Evr := {}
  ifc : Ifc := {}
  hlk : Hlk := {}
  wrp : Wrp := {}
  gst : Gst := {}
  nrg : Nrg := {}
  aos : Aos := {}
  sig : Sig := {}
  pwr : Pwr := {}
  vlt : Vlt := {}
  vch : List Vch := List.replicate 16 {}
  shd : Shd := {}
  dmp : Dmp := {}
  kor : Kor := {}
  cwy : Cwy := {}
  cip : Cip := {}
  tsk : Tsk := {}
  qdc : List Qdc := List.replicate 4 {}
  /-- Events reported and not yet taken by the EVR, oldest first. -/
  raised : List Event := []
  /-- What the device has sent to each party, oldest first. -/
  out : List Output := []
  /-- The model's own counter: each use of a free value advances it (log 5). -/
  free : Nat := 0
  /-- Commands that wait, first in, first out. -/
  pending : List Instr := []
  deriving DecidableEq, Repr

/-- The machine right after reset: before the first power-on, with nothing waiting. -/
def State.reset : State := {}

end Sys2Proof.Machine
end

