-- ==== Sys2Proof/Machine/Ops.lean ====
section
/-!
DEFINITION. The named operations every family shares: reporting an event, sending to a party, taking a free value, the
device mode, and the unit IDs.
-/

namespace Sys2Proof.Machine

/-- The outcome of every meaning: a next state. -/
abbrev Result := Host.Outcome State Fault Refusal

/-- Unit ID of unit `u` of quadrant `q` (R14). -/
def quadUnit (q u : Nat) : Nat := 0x10 + 8 * q + u

/-- A unit reports an event to the EVR (R515, R645). -/
def raise (id source : Nat) (detail : Fields) (s : State) : State :=
  { s with raised := s.raised ++ [⟨id, source, detail⟩] }

/-- The device sends something to a party. -/
def send (o : Output) (s : State) : State := { s with out := s.out ++ [o] }

/-- An MSI-X vector is signalled (R131). -/
def msix (v : Nat) (s : State) : State := send (.msix v) s

/-- The next free value has been used (log 5). -/
def useFree (s : State) : State := { s with free := s.free + 1 }

/-- The duration the device measures now, saturated to `w` bits (log 6). -/
def elapsedNow (w : Nat) (s : State) : Nat := min (Config.elapsed s.free) (2 ^ w - 1)

/-- A BAR0 access of a path: a half latched for a read of that path is dropped, and one that a window read would bring is not kept
(R642). -/
def dropHalf (p : Path) (s : State) : State :=
  if s.spn.halves.any (fun h => h.1.1 = p) || s.cwy.winAsks.any (fun a => a.path = p && a.latch) then
    { s with spn := { s.spn with halves := s.spn.halves.filter (fun h => h.1.1 ≠ p) },
             cwy := { s.cwy with winAsks := s.cwy.winAsks.map (fun a => if a.path = p then { a with latch := false } else a) } }
  else s

/-- The device timestamp of Get/Set Timestamp now: 0 while it was never set, else the value set and the time since (R124, R516). The
model has no clock, so that time is a free value (log 6). -/
def deviceTime (s : State) : Nat :=
  if s.hlk.timestamp = 0 then 0 else (s.hlk.timestamp + Config.elapsed s.free) % 2 ^ 64

/-- The code of a device mode in `SPN_MODE`. -/
def modeCode : Mode → Nat
  | .boot => 0 | .restore => 1 | .service => 2 | .dump => 3 | .parked => 4 | .recovery => 5 | .test => 6

/-- The device enters a mode: `SPN_MODE` keeps the mode before, the count of transitions and the cause (R38, R39), and
MSI-X vector 7 is signalled (R131); DUMP_DONE falls on entry into SERVICE (R297). -/
def setMode (m : Mode) (cause : Nat) (s : State) : State :=
  msix 7 { s with
    spn := { s.spn with mode := m, prevMode := s.spn.mode, modeSeq := wrapAdd 16 s.spn.modeSeq 1, cause := cause }
    dmp := { s.dmp with done := s.dmp.done && decide (m ≠ .service) }
    wrp := { s.wrp with zeroSec := if m = .service then s.evr.opSec else s.wrp.zeroSec } }

/-- An energy parameter's value in force (R68). -/
def param (s : State) (id : Nat) : Nat := ((s.nrg.params.find? (fun p => p.id = id)).map Param.val).getD 0

/-- A LIFE or other bounded list's value by identifier. -/
def paramOf (l : List Param) (id d : Nat) : Nat := ((l.find? (fun p => p.id = id)).map Param.val).getD d

/-- A unit clamps a firmware write to its bounds: the value stored, and event 0x1005 from the unit when the value lay
outside (R43, R645). -/
def clampWrite (unit lo hi v : Nat) (s : State) : Nat × State :=
  if v < lo ∨ hi < v then (clamp lo hi v, raise 0x1005 unit [] s) else (v, s)

/-- D: the granules that hold a reservation (R189). -/
def dCount (s : State) : Nat := s.gst.rsv.length

/-- The device is in one of the modes of a list. -/
def modeIn (l : List Mode) (s : State) : Bool := l.contains s.spn.mode

/-! ### Roles (R27, R28) -/

/-- Codes of unit states (`STATE` of `SPN_ROLE_DATA`). -/
def unitCode : UnitState → Nat
  | .off => 0 | .active => 1 | .failed => 2

/-- Unit `u`'s entry of the role table. -/
def roleOf (s : State) (u : Nat) : RoleEntry := s.spn.roles.getD u ⟨0, 0, 0, .off⟩

/-- The fields of a role entry in an event. -/
def roleFields (e : RoleEntry) : Fields := [(1, e.func), (1, e.cover), (2, e.gen), (1, unitCode e.state)]

/-- A role change: function, coverage and state are written and the generation goes on, from 0xFFFF to 0x0001; it is counted
and event 0x1203 logged with both entries (R28, R32). A change to the same entry is none (R45). -/
def changeRole (u func cover : Nat) (st : UnitState) (s : State) : State :=
  let old := roleOf s u
  if old.func = func ∧ old.cover = cover ∧ old.state = st then s
  else
    let new : RoleEntry := ⟨func, cover, if old.gen = 0xFFFF then 1 else old.gen + 1, st⟩
    raise 0x1203 0x00 ([(1, u)] ++ roleFields old ++ roleFields new)
      { s with spn := { s.spn with roles := s.spn.roles.set u new, roleChanges := satAdd 16 s.spn.roleChanges 1 } }

/-- A unit's state changes, its function and coverage kept. -/
def setUnitState (u : Nat) (st : UnitState) (s : State) : State := changeRole u (roleOf s u).func (roleOf s u).cover st s

end Sys2Proof.Machine
end

