-- ==== Sys2Proof/Machine/MailOps.lean ====
section
/-!
DEFINITION. Mailbox responses, background commands and what every command's doorbell passes first (03, R124 to R130).
-/

namespace Sys2Proof.Machine

/-- A response is returned on its CCI. -/
def reply (via : Via) (op : Nat) (ret : Ret) (ext : Nat) (payload : Fields) (s : State) : State :=
  send (.mbox via op ret ext payload) s

/-- A vendor command is refused: event 0x0207 with opcode and extended status (R130). -/
def vendorRefuse (via : Via) (op : Nat) (ret : Ret) (ext : Nat) (s : State) : State :=
  reply via op ret ext [] (raise 0x0207 0x01 [(2, op), (2, ext)] s)

/-- A background command starts (R127). -/
def bgStart (via : Via) (op : Nat) (s : State) : State :=
  reply via op .backgroundStarted 0 [] { s with hlk := { s.hlk with bg := some ⟨via, op⟩ } }

/-- The background command `op` ends with its result, reported by background status and MSI-X vector 0 (R127, R131); a vendor
failure logs 0x0207 (R130), one that a host-link reset ends with extended status 0 too. DESIGN CHOICE (log 126). -/
def bgEnd (op : Nat) (ret : Ret) (ext : Nat) (payload : Fields) (s : State) : State :=
  match s.hlk.bg with
  | none => s
  | some c =>
    if c.opcode ≠ op then s
    else
      let s1 := { s with hlk := { s.hlk with bg := none, bgStatus := ⟨op, ret, ext⟩ } }
      let s2 := if ret = .success ∨ op < 0xC000 then s1 else raise 0x0207 0x01 [(2, op), (2, ext)] s1
      msix 0 (reply c.via op ret ext payload s2)

/-- The background command that runs is `op`. -/
def bgRuns (s : State) (op : Nat) : Bool := s.hlk.bg.any (fun c => c.opcode = op)

/-- The commands the recovery service answers (R540): Identify, Get Health Info, Get FW Info, Transfer FW, Activate FW. -/
def recoveryOps : List Nat := [0x4000, 0x4200, 0x0200, 0x0201, 0x0202]

/-- The doorbell of a standard command: no core, no answer; Busy while the firmware restarts (R585) and in DUMP, but for the
commands that execute there (R128); the recovery service answers its own commands only (R540). -/
def standard (via : Via) (op : Nat) (inDump : Bool) (k : State → State) (s : State) : State :=
  if !s.pwr.corePg then s
  else if s.sig.recoverySvc ∧ !recoveryOps.contains op then reply via op .unsupported 0 [] s
  else if s.pwr.fwBusy || s.pwr.halted then reply via op .busy 0 [] s
  else if s.spn.mode = .dump ∧ !inDump then reply via op .busy 0 [] s
  else k s

/-- The doorbell of a vendor command (R127 to R129): no core, no answer; under the recovery service Unsupported (R540); Busy while the firmware restarts and in DUMP; Unsupported 0x0001 in a mode
or by a CCI its row does not list, or over MCTP with `MCTP_VENDOR_EN` = 0; Busy for a background command while another runs. -/
def vendor (via : Via) (op : Nat) (modes : List Mode) (overMctp bg : Bool) (k : State → State) (s : State) : State :=
  if !s.pwr.corePg then s
  else if s.sig.recoverySvc then reply via op .unsupported 0 [] s
  else if s.pwr.fwBusy || s.pwr.halted || s.spn.mode = .dump then reply via op .busy 0 [] s
  else if !modes.contains s.spn.mode then vendorRefuse via op .unsupported 0x0001 s
  else if via = .mctp ∧ (!overMctp ∨ !s.hlk.mctpVendorEn) then vendorRefuse via op .unsupported 0x0001 s
  else if bg ∧ s.hlk.bg.isSome then reply via op .busy 0 [] s
  else k s

/-- All modes but BOOT and DUMP (R129). -/
def runningModes : List Mode := [.restore, .service, .parked, .recovery, .test]

end Sys2Proof.Machine
end

