-- ==== Sys2Proof/Machine/PowerOps.lean ====
section
/-!
DEFINITION. Power domains, wakes and their latches, and a P2 entry that is refused (18).
-/

namespace Sys2Proof.Machine

/-- Domain numbers (R563). -/
def dQcore (q : Nat) : Nat := 2 + q
def dQmem (q : Nat) : Nat := 6 + q
def dQeng (q : Nat) : Nat := 10 + q

/-- A domain is gated, off or waking: a request that needs it waits (R569, R578). -/
def domainStopped (s : State) (d : Nat) : Bool := s.pwr.down.testBit d || s.pwr.waking.testBit d

/-- The DRAM of quadrant `q` can be reached. -/
def memReady (s : State) (q : Nat) : Bool := !domainStopped s (dQmem q) && !domainStopped s (dQcore q)

/-- A sequence that stops domains is on its way in or back (R576). -/
def entering (s : State) : Bool := s.pwr.entry = 1 || s.pwr.entry = 2

/-- The state reported in `PSTATE` changes, event 0x1007 (R591). -/
def setPstate (p cause : Nat) (s : State) : State :=
  if s.pwr.pstate = p then s
  else raise 0x1007 0x04 [(1, s.pwr.pstate), (1, p), (1, cause)] { s with pwr := { s.pwr with pstate := p } }

/-- A stopped domain begins to wake (R566, R569, R578). -/
def wakeDomain (d : Nat) (s : State) : State :=
  if s.pwr.down.testBit d then
    { s with pwr := { s.pwr with down := clearBit s.pwr.down d, waking := setBit s.pwr.waking d,
                                 wakes := satAdd 16 s.pwr.wakes 1 } }
  else s

/-- The domains that a mask coded as `DOMAINS` of R577 names. -/
def maskDomains (mask : Nat) : List Nat := (setBits 4 mask).map dQmem ++ (setBits 4 (mask / 16)).map dQeng

/-- The sequence is over: the latched events are replayed in latch order, each waking what it needs (R576), event 0x1009 with their kinds
as a mask. -/
def replayWake (s : State) : State :=
  let l := s.aos.wake
  if l = [] then s
  else
    let s1 := (l.flatMap (fun e => maskDomains e.domains)).foldl (fun t d => wakeDomain d t) s
    raise 0x1009 0x04 [(2, maskOf (l.map WakeEntry.kind))]
      { s1 with aos := { s1.aos with wake := [] }, pwr := { s1.pwr with replayed := satAdd 16 s1.pwr.replayed l.length } }

/-- The blocks that a P2 entry has stopped restart, and the device is back in P0. -/
def p2Back (s : State) : State :=
  let back := maskOf (maskDomains 0xFF) &&& s.pwr.down
  setPstate 0 6 { s with pwr := { s.pwr with entry := 0, entryStep := 0, target := 0
                                             down := without s.pwr.down back, on := s.pwr.on ||| back } }

/-- A P2 entry is refused by a unit with a cause: the blocks already stopped restart, SET_POWER_STATE ends with the refusing unit, and the
device is back in P0 (R568). -/
def p2Refuse (unit cause : Nat) (s : State) : State :=
  if s.pwr.entry ≠ 1 then s
  else
    let s1 := p2Back { s with pwr := { s.pwr with refuser := unit, refuseCause := cause } }
    replayWake (bgEnd 0xC008 .internalError 0x0008 [(1, 0), (1, unit), (6, 0)] (raise 0x1008 0x04 [(1, unit), (1, cause)] s1))

/-- A P2 entry whose command a host-link reset ends goes back, and the latched events are replayed (R109, R576). -/
def p2Withdraw (s : State) : State := if s.pwr.entry = 1 then replayWake (p2Back s) else s

/-- A wake event is latched in the AOS wake area; events of one kind and domain set fold, and a full area ends the sequence as a
refusal with cause 4 (R576, R577). -/
def latchWake (kind domains : Nat) (s : State) : State :=
  if s.aos.wake.any (fun e => e.kind = kind && e.domains = domains) then
    { s with aos := { s.aos with wake := s.aos.wake.map (fun e =>
        if e.kind = kind ∧ e.domains = domains then { e with repeats := satAdd 16 e.repeats 1 } else e) } }
  else if s.aos.wake.length < 23 then
    useFree { s with aos := { s.aos with wake := s.aos.wake ++ [⟨kind, domains, 0, elapsedNow 32 s⟩] } }
  else p2Refuse 0x04 4 s

/-- A request of a kind needs domains: they wake at once, or the event is latched while a sequence runs (R569, R576). `mask` is
coded as `DOMAINS` of R577. A device that wakes an engine leaves P1 (R566). -/
def needDomains (kind mask : Nat) (s : State) : State :=
  let ds := maskDomains mask
  if entering s && ds.any (fun d => domainStopped s d) then latchWake kind mask s
  else
    let s1 := ds.foldl (fun t d => wakeDomain d t) s
    if s1.pwr.pstate = 1 ∧ (setBits 4 (mask / 16)).any (fun q => s.pwr.down.testBit (dQeng q)) then setPstate 0 kind s1 else s1

/-- Units of every enabled quadrant, by their number in it, that have not FAILED take a state: a power state takes them OFF, or
brings them back (R32, R564). -/
def quadRoles (us : List Nat) (st : UnitState) (s : State) : State :=
  ((setBits 4 s.spn.quadEn).flatMap (fun q => us.map (quadUnit q))).foldl (fun t u =>
    if (roleOf t u).state = .failed then t else setUnitState u st t) s

/-- The units of one engine domain take a state: SDE, CCP and the four VCH. -/
def engRoles (q : Nat) (st : UnitState) (s : State) : State :=
  ([2, 3, 4, 5, 6, 7].map (quadUnit q)).foldl (fun t u =>
    if (roleOf t u).state = .failed then t else setUnitState u st t) s

/-- An ACTIVE SDE covers the vault channels of quadrant `q` (R32). -/
def sdeCovered (s : State) (q : Nat) : Bool :=
  (setBits 4 s.spn.quadEn).any (fun p => (roleOf s (quadUnit p 2)).state = .active && (roleOf s (quadUnit p 2)).cover.testBit q)

/-- The engines of quadrant `q` are ready, and an SDE serves it. -/
def engReady (s : State) (q : Nat) : Bool := !domainStopped s (dQeng q) && sdeCovered s q

end Sys2Proof.Machine
end

