-- ==== Sys2Proof/Machine/Aes.lean ====
section
/-!
DEFINITION. AES-256 of FIPS 197, CMAC of SP 800-38B and the key derivation of R447, on which the check value of a region key (R443)
and derived keys rest; XTS-AES-256 of IEEE 1619 (R433) and GMAC of SP 800-38D (R434), which protect vault pages. The spec names the
standards (log 8).
-/

namespace Sys2Proof.Machine

/-- Multiplication by x in the field of AES. -/
def aesXtime (a : Nat) : Nat := if a < 128 then 2 * a else (2 * a) ^^^ 0x11B

/-- Multiplication in the field of AES. -/
def aesMul (a b : Nat) : Nat :=
  ((List.range 8).foldl (fun (t : Nat × Nat) i => (if b.testBit i then t.1 ^^^ t.2 else t.1, aesXtime t.2)) (0, a)).1

/-- The inverse in the field, a^254; 0 for 0. -/
def aesInv (a : Nat) : Nat :=
  let a2 := aesMul a a
  let a4 := aesMul a2 a2
  let a8 := aesMul a4 a4
  let a16 := aesMul a8 a8
  let a32 := aesMul a16 a16
  let a64 := aesMul a32 a32
  let a128 := aesMul a64 a64
  aesMul a128 (aesMul a64 (aesMul a32 (aesMul a16 (aesMul a8 (aesMul a4 a2)))))

/-- A byte rotated left by `k`. -/
def rotl8 (b k : Nat) : Nat := (b * 2 ^ k % 256) ||| (b / 2 ^ (8 - k))

/-- The S-box. -/
def aesSub (a : Nat) : Nat :=
  let b := aesInv a
  b ^^^ rotl8 b 1 ^^^ rotl8 b 2 ^^^ rotl8 b 3 ^^^ rotl8 b 4 ^^^ 0x63

/-- Bytewise exclusive or. -/
def xorBytes (a b : List Nat) : List Nat := List.zipWith (fun x y => x ^^^ y) a b

/-- Key expansion: `n` more four-byte words, from word index `i`; words held newest first. -/
def aesExpand : Nat → Nat → Nat → List (List Nat) → List (List Nat)
  | 0, _, _, w => w
  | n + 1, i, rcon, w =>
    let last := w.getD 0 []
    let t := if i % 8 = 0 then
        xorBytes ((last.drop 1 ++ last.take 1).map aesSub) [rcon, 0, 0, 0]
      else if i % 8 = 4 then last.map aesSub else last
    aesExpand n (i + 1) (if i % 8 = 0 then aesXtime rcon else rcon) (xorBytes (w.getD 7 []) t :: w)

/-- The fifteen round keys of a 32-byte key. -/
def aesKeys (key : List Nat) : List (List Nat) :=
  let ws := (aesExpand 52 8 1 (pieces 4 8 key).reverse).reverse
  (pieces 4 15 ws).map List.flatten

/-- SubBytes and ShiftRows. -/
def aesShift (b : List Nat) : List Nat :=
  (List.range 16).map (fun i => aesSub (b.getD ((i + 4 * (i % 4)) % 16) 0))

/-- MixColumns. -/
def aesMix (b : List Nat) : List Nat :=
  (pieces 4 4 b).flatMap (fun c =>
    (List.range 4).map (fun i =>
      aesXtime (c.getD i 0) ^^^ (aesXtime (c.getD ((i + 1) % 4) 0) ^^^ c.getD ((i + 1) % 4) 0)
        ^^^ c.getD ((i + 2) % 4) 0 ^^^ c.getD ((i + 3) % 4) 0))

/-- AES-256 encryption of one 16-byte block under expanded round keys. -/
def aesRun (ks : List (List Nat)) (block : List Nat) : List Nat :=
  let s0 := xorBytes block (ks.getD 0 [])
  let s13 := (List.range 13).foldl (fun b i => xorBytes (aesMix (aesShift b)) (ks.getD (i + 1) [])) s0
  xorBytes (aesShift s13) (ks.getD 14 [])

/-- AES-256 encryption of one 16-byte block. -/
def aesEncrypt (key block : List Nat) : List Nat := aesRun (aesKeys key) block

/-- The inverse S-box. -/
def aesUnsub (a : Nat) : Nat := aesInv (rotl8 a 1 ^^^ rotl8 a 3 ^^^ rotl8 a 6 ^^^ 0x05)

/-- InvShiftRows and InvSubBytes. -/
def aesUnshift (b : List Nat) : List Nat :=
  (List.range 16).map (fun i => aesUnsub (b.getD ((i + 12 * (i % 4)) % 16) 0))

/-- InvMixColumns. -/
def aesUnmix (b : List Nat) : List Nat :=
  (pieces 4 4 b).flatMap (fun c =>
    (List.range 4).map (fun i =>
      aesMul (c.getD i 0) 14 ^^^ aesMul (c.getD ((i + 1) % 4) 0) 11
        ^^^ aesMul (c.getD ((i + 2) % 4) 0) 13 ^^^ aesMul (c.getD ((i + 3) % 4) 0) 9))

/-- AES-256 decryption of one 16-byte block under expanded round keys. -/
def aesUnrun (ks : List (List Nat)) (block : List Nat) : List Nat :=
  let s0 := xorBytes block (ks.getD 14 [])
  let s13 := (List.range 13).foldl (fun b i => aesUnmix (xorBytes (aesUnshift b) (ks.getD (13 - i) []))) s0
  xorBytes (aesUnshift s13) (ks.getD 0 [])

/-- A 16-byte block shifted left by one bit with the CMAC constant on overflow. -/
def cmacDouble (b : List Nat) : List Nat :=
  let n := beValue b
  let d := (2 * n) % 2 ^ 128 ^^^ (if 2 ^ 127 ≤ n then 0x87 else 0)
  (leBytes 16 d).reverse

/-- AES-256-CMAC of a message that is not empty. -/
def aesCmac (key m : List Nat) : List Nat :=
  let k1 := cmacDouble (aesEncrypt key (List.replicate 16 0))
  let blocks := pieces 16 ((m.length + 15) / 16) m
  let last := blocks.getLastD []
  let tail := if last.length = 16 then xorBytes last k1
    else xorBytes (last ++ [0x80] ++ List.replicate (15 - last.length) 0) (cmacDouble k1)
  let x := blocks.dropLast.foldl (fun c b => aesEncrypt key (xorBytes c b)) (List.replicate 16 0)
  aesEncrypt key (xorBytes x tail)

/-- Input `i` of the key derivation for a region and a 32-byte context label (R447). -/
def kdfInput (i region : Nat) (label : List Nat) : List Nat :=
  (leBytes 4 i).reverse ++ [0x4C, 0x4B, 0x45, 0x59] ++ (leBytes 2 region).reverse ++ [0] ++ label ++ [0, 0, 3, 0]

/-- The 96 key bytes derived from a root for a region (R447). -/
def kdfDerive (root label : List Nat) (region : Nat) : List Nat :=
  (List.range 6).flatMap (fun i => aesCmac root (kdfInput (i + 1) region label))

/-! ### XTS-AES-256 (R433) -/

/-- A tweak multiplied by α, its 16 bytes read little-endian (IEEE 1619). -/
def xtsDouble (t : List Nat) : List Nat :=
  let n := leValue t
  leBytes 16 ((2 * n) % 2 ^ 128 ^^^ (if 2 ^ 127 ≤ n then 0x87 else 0))

/-- The blocks of a data unit from a tweak on, each run through the block cipher `f` between two additions of its tweak. -/
def xtsBlocks (f : List Nat → List Nat) : List Nat → List (List Nat) → List Nat
  | _, [] => []
  | t, b :: l => xorBytes (f (xorBytes b t)) t ++ xtsBlocks f (xtsDouble t) l

/-- T0: the tweak value, little-endian in 16 bytes, encrypted under Key2. -/
def xtsTweak (k2 : List Nat) (v : Nat) : List Nat := aesEncrypt k2 (leBytes 16 v)

/-- A data unit of 1,024 blocks encrypted under Key1 and Key2 with a tweak value. -/
def xtsEncrypt (k1 k2 : List Nat) (v : Nat) (l : List Nat) : List Nat :=
  let ks := aesKeys k1
  xtsBlocks (aesRun ks) (xtsTweak k2 v) (pieces 16 1024 l)

/-- A data unit decrypted. -/
def xtsDecrypt (k1 k2 : List Nat) (v : Nat) (l : List Nat) : List Nat :=
  let ks := aesKeys k1
  xtsBlocks (aesUnrun ks) (xtsTweak k2 v) (pieces 16 1024 l)

/-! ### GMAC (R434) -/

/-- Multiplication in the field of GCM, where the leftmost bit of a block is the coefficient of 1. -/
def ghashMul (x h : Nat) : Nat :=
  ((List.range 128).foldl (fun (t : Nat × Nat) i =>
    (if x.testBit (127 - i) then t.1 ^^^ t.2 else t.1,
      if t.2 % 2 = 1 then (t.2 / 2) ^^^ (0xE1 * 2 ^ 120) else t.2 / 2)) (0, h)).1

/-- GHASH of additional authenticated data with no ciphertext: its blocks, the last one filled with zeros, and the lengths. -/
def ghash (h : Nat) (a : List Nat) : Nat :=
  let blocks := (pieces 16 ((a.length + 15) / 16) a).map (fun b => beValue (b ++ List.replicate (16 - b.length) 0))
  (blocks ++ [8 * a.length * 2 ^ 64]).foldl (fun y b => ghashMul (y ^^^ b) h) 0

/-- The tag of additional authenticated data, from H and AES_K3(J0). -/
def gmacTag (h mask a : List Nat) : List Nat := xorBytes (leBytes 16 (ghash (beValue h) a)).reverse mask

/-- J0 of an invocation (R434, R435): slot and counter big-endian, then the count 1. -/
def gmacJ0 (slot counter : Nat) : List Nat :=
  (leBytes 2 slot).reverse ++ [0, 0] ++ (leBytes 8 counter).reverse ++ [0, 0, 0, 1]

/-! ### What REKEY computes -/

/-- The check value of a key: bytes 0 to 3 of AES_K1(0^128) (R443). -/
def keyCheck (key : List Nat) : Nat := leValue ((aesEncrypt (key.take 32) (List.replicate 16 0)).take 4)

/-- H of a key: AES_K3(0^128) (R434). -/
def keyHash (key : List Nat) : List Nat := aesEncrypt (key.drop 64) (List.replicate 16 0)

end Sys2Proof.Machine
end

