-- ==== Sys2Proof/Machine/Records.lean ====
section
/-!
DEFINITION. The byte formats of the records kept in internal flash, as their chapters give them, with CRC-32 of
IEEE 802.3, CRC-32C and the CRC-8 of the cell monitor bus.
-/

namespace Sys2Proof.Machine

/-- One bit of the reflected CRC-32. -/
def crcBit (c : Nat) : Nat := if c % 2 = 1 then (c / 2) ^^^ 0xEDB88320 else c / 2

/-- One byte of the reflected CRC-32. -/
def crcByte (c b : Nat) : Nat := (List.range 8).foldl (fun x _ => crcBit x) (c ^^^ (b % 256))

/-- CRC-32 of IEEE 802.3 over a list of bytes. -/
def crc32 (l : List Nat) : Nat := (l.foldl crcByte 0xFFFFFFFF) ^^^ 0xFFFFFFFF

/-- One bit of the reflected CRC-32C. -/
def crc32cBit (c : Nat) : Nat := if c % 2 = 1 then (c / 2) ^^^ 0x82F63B78 else c / 2

/-- CRC-32C over a list of bytes, for the pages of the vault (R340). -/
def crc32c (l : List Nat) : Nat :=
  (l.foldl (fun c b => (List.range 8).foldl (fun x _ => crc32cBit x) (c ^^^ (b % 256))) 0xFFFFFFFF) ^^^ 0xFFFFFFFF

/-- One bit of CRC-8, polynomial 0x07. -/
def crc8Bit (c : Nat) : Nat := if c ≥ 128 then ((c * 2) ^^^ 0x07) % 256 else c * 2

/-- CRC-8 of the cell monitor bus, initial value 0 (R207). -/
def crc8 (l : List Nat) : Nat :=
  l.foldl (fun c b => (List.range 8).foldl (fun x _ => crc8Bit x) (c ^^^ (b % 256))) 0

/-- Fields laid out little-endian, each in its width. -/
def fieldBytes (f : Fields) : List Nat := f.flatMap (fun p => leBytes p.1 p.2)

/-- A list of bytes made exactly `n` long: cut, or filled with zeros. -/
def padTo (n : Nat) (l : List Nat) : List Nat := l.take n ++ List.replicate (n - l.length) 0

/-- Bytes 0x00 to 0xEF of a Sedge record (R516). -/
def sedgeBody (r : SedgeRec) : List Nat :=
  let rflags := flag r.fromAos + 2 * flag r.fold + 4 * flag r.snapSkipped + 8 * flag r.final + 16 * flag r.memOnly
  fieldBytes [(4, 0x47444553), (1, 1), (1, rflags), (2, r.id), (8, r.seq), (4, r.opSec), (4, r.lastSec),
      (4, r.powerCycles), (2, r.rep), (2, r.overflow), (8, r.timestamp), (1, r.mode), (1, r.snaps.length),
      (1, r.source), (5, 0)]
    ++ padTo 16 (fieldBytes r.detail)
    ++ padTo 48 (r.snaps.flatMap (fun p => leBytes 4 p.1))
    ++ padTo 96 (r.snaps.flatMap (fun p => leBytes 8 p.2))
    ++ List.replicate 32 0

/-- The 256 bytes of a Sedge record (R516). -/
def sedgeBytes (r : SedgeRec) : List Nat :=
  let b := sedgeBody r
  b ++ fieldBytes [(4, crc32 b), (4, 0), (8, 0x6A953CC3956AC33C)]

/-- The 128 bytes of a gauge record (R232). -/
def gaugeBytes (r : GaugeRec) : List Nat :=
  let fl := flag r.relearn + 2 * flag r.capSuspect + 4 * flag r.esrHigh + 8 * flag r.calValid + 16 * flag r.learnOpen
    + 32 * flag r.swapDerate
  let b := fieldBytes [(4, 0x47554147), (1, 1), (1, r.cells), (2, fl), (8, r.seq), (4, r.cLearned),
      (4, twos 32 r.kSlope), (4, r.cycles), (4, r.storeId)]
    ++ padTo 16 (r.esr.flatMap (leBytes 2))
    ++ fieldBytes [(2, r.esrBase), (2, r.eGibMeas), (4, r.learnSec), (4, r.calSec), (56, 0)]
  b ++ fieldBytes [(4, crc32 b), (8, 0x5A5AC3C30F0FA5A5)]

/-- The 32 bytes of a journal entry (R502). -/
def journalBytes (e : JEntry) : List Nat :=
  let b := fieldBytes [(4, 0x4C4E524A), (1, e.type), (1, e.bank), (2, e.sector), (8, e.seq), (2, e.aux), (2, 0)]
  b ++ fieldBytes [(4, crc32 b), (8, 0xC3A55AC33C5AA53C)]

/-- The 64 bytes of a reservation entry (R457). -/
def nonceBytes (e : NonceRec) : List Nat :=
  let b := fieldBytes [(2, 0x4E52), (1, e.type), (1, 0), (2, e.slot), (1, e.root), (1, 0), (8, e.seq), (8, e.mark),
    (4, e.kcv), (24, 0)]
  b ++ fieldBytes [(4, crc32 b), (8, 0x3C3CA5A55A5AC3C3)]

/-- The 4 KiB of a reservation snapshot (R457). -/
def snapBytes (r : NonceSnap) : List Nat :=
  let all := List.range 256
  let b := fieldBytes [(4, 0x434E4F4E), (1, 1), (3, 0), (8, r.seq), (48, 0)]
    ++ all.flatMap (fun i => leBytes 8 (tget 0 r.marks i))
    ++ all.flatMap (fun i => leBytes 4 (tget 0 r.kcvs i))
    ++ all.flatMap (fun i => leBytes 1 (tget 0 r.roots i))
    ++ List.replicate 692 0
  b ++ fieldBytes [(4, crc32 b), (8, 0x3C3CA5A55A5AC3C3)]

/-- The 128 bytes of a pair record (R400). -/
def pairBytes (r : PairRecord) : List Nat :=
  let b := fieldBytes [(4, 0x52494150), (1, 1), (3, 0), (8, r.seq), (32, maskOf r.adopted), (4, r.partnerMepoch),
    (64, 0)]
  b ++ fieldBytes [(4, crc32 b), (8, 0xA5A50F0FC3C35A5A)]

end Sys2Proof.Machine
end

