-- ==== Sys2Proof/Machine/FlashOps.lean ====
section
/-!
DEFINITION. Shared operations of the internal flash (15): reading words and record areas, the agent queue, the erase
journal, and the rules that refuse a firmware operation.
-/

namespace Sys2Proof.Machine

/-- An erased word (R494). -/
def erasedWord : Nat := 2 ^ 64 - 1

/-- A bank's record. -/
def bankOf (s : State) (b : Nat) : Bank := if b = 0 then s.ifc.bank0 else s.ifc.bank1

/-- A bank's record changed. -/
def modBank (b : Nat) (f : Bank → Bank) (s : State) : State :=
  if b = 0 then { s with ifc := { s.ifc with bank0 := f s.ifc.bank0 } }
  else { s with ifc := { s.ifc with bank1 := f s.ifc.bank1 } }

/-- The global sector (0 to 2,047) of a window offset; bank 1 starts at sector 1,024. -/
def sectorOf (off : Nat) : Nat := off / 0x1000

/-- The record areas of R486 by global sector: their bytes are those of the records they hold. -/
def recordArea (sector : Nat) : Bool :=
  (640 ≤ sector && sector < 740) || (1664 ≤ sector && sector < 1666)

/-- Eight bytes at byte `o` of a list, as a word. -/
def word8 (l : List Nat) (o : Nat) : Nat := leAt l o 8

/-- The word at window offset `off` of a record area: that of a valid record (R232, R457, R400, R502, R516), else what a record
without its valid mark has left there. -/
def recordWord (off : Nat) (s : State) : Nat :=
  let sec := sectorOf off
  let raw := tget erasedWord s.ifc.words (off / 8)
  if sec < 704 then
    match s.evr.ring.find? (fun e => e.1 = (off - 0x280000) / 256) with
    | some e => word8 (sedgeBytes e.2) (off % 256)
    | none => raw
  else if sec < 720 then
    match s.ifc.gauge.find? (fun e => e.1 = (off - 0x2C0000) / 128) with
    | some e => word8 (gaugeBytes e.2) (off % 128)
    | none => raw
  else if sec < 736 then
    let half := (sec - 720) / 8
    let snap := if half = 0 then s.ifc.snap0 else s.ifc.snap1
    let ents := if half = 0 then s.ifc.nonce0 else s.ifc.nonce1
    let o := off - 0x2D0000 - half * 0x8000
    if o < 0x1000 then
      match snap with
      | some r => word8 (snapBytes r) o
      | none => raw
    else
      match ents.find? (fun e => e.1 = (o - 0x1000) / 64) with
      | some e => word8 (nonceBytes e.2) (o % 64)
      | none => raw
  else if sec < 740 then
    match s.ifc.journal.find? (fun e => e.1 = (off - 0x2E0000) / 32) with
    | some e => word8 (journalBytes e.2) (off % 32)
    | none => raw
  else
    match s.ifc.pairs.find? (fun e => e.1 = (off - 0x680000) / 128) with
    | some e => word8 (pairBytes e.2) (off % 128)
    | none => raw

/-- An interruption left the word undefined (R501). -/
def wordUndef (off : Nat) (s : State) : Bool :=
  s.ifc.undefWords.contains (off / 8) || s.ifc.undefSectors.contains (sectorOf off)

/-- The array word at a window offset: an undefined word reads a free value (R501). -/
def arrayWord (off : Nat) (s : State) : Nat :=
  if wordUndef off s then Config.undefinedWord s.free % 2 ^ 64
  else if recordArea (sectorOf off) then recordWord off s
  else tget erasedWord s.ifc.words (off / 8)

/-- A sector reads fully erased (R505). -/
def sectorErased (sector : Nat) (s : State) : Bool :=
  !(s.ifc.undefSectors.contains sector) && !(s.ifc.undefWords.any (fun w => w / 512 = sector))
    && !(s.ifc.words.any (fun e => e.1 / 512 = sector))
    && !(640 ≤ sector && sector < 704 && s.evr.ring.any (fun e => e.1 / 16 = sector - 640))
    && !(704 ≤ sector && sector < 720 && s.ifc.gauge.any (fun e => e.1 / 32 = sector - 704))
    && !(s.ifc.pairs.any (fun e => e.1 / 32 + 1664 = sector))

/-- The sector erased: its words, records and undefined marks are gone. -/
def clearSector (sector : Nat) (s : State) : State :=
  { s with
    ifc := { s.ifc with
      words := s.ifc.words.filter (fun e => e.1 / 512 ≠ sector)
      undefWords := s.ifc.undefWords.filter (fun w => w / 512 ≠ sector)
      undefSectors := sdel s.ifc.undefSectors sector
      gauge := s.ifc.gauge.filter (fun e => e.1 / 32 + 704 ≠ sector)
      journal := s.ifc.journal.filter (fun e => e.1 / 128 + 736 ≠ sector)
      snap0 := if sector = 720 then none else s.ifc.snap0
      nonce0 := if 720 < sector ∧ sector < 728 then [] else s.ifc.nonce0
      used0 := if 720 ≤ sector ∧ sector < 728 then 0 else s.ifc.used0
      snap1 := if sector = 728 then none else s.ifc.snap1
      nonce1 := if 728 < sector ∧ sector < 736 then [] else s.ifc.nonce1
      used1 := if 728 ≤ sector ∧ sector < 736 then 0 else s.ifc.used1
      pairs := s.ifc.pairs.filter (fun e => e.1 / 32 + 1664 ≠ sector) }
    evr := { s.evr with ring := s.evr.ring.filter (fun e => e.1 / 16 + 640 ≠ sector) } }

/-- A sector whose erase was interrupted or failed is undefined (R501); its records no longer verify (log 134). -/
def loseSector (sector : Nat) (s : State) : State :=
  let t := clearSector sector s
  { t with ifc := { t.ifc with undefSectors := sins sector t.ifc.undefSectors } }

/-- The erase counter row after an erase that ends OK (R496). -/
def countErase (sector pulses : Nat) (s : State) : State :=
  { s with ifc := { s.ifc with
      eraseCount := tput 0 s.ifc.eraseCount sector (satAdd 24 (tget 0 s.ifc.eraseCount sector) 1)
      lastPulses := tput 0 s.ifc.lastPulses sector (min pulses 255)
      eraseSec := tput 0 s.ifc.eraseSec sector s.evr.opSec } }

/-! ### The erase journal -/

/-- One entry put into the journal ring. -/
def journalPut (type bank sector aux : Nat) (s : State) : State :=
  { s with ifc := { s.ifc with
      journal := tins s.ifc.jPos ⟨type, bank, sector, s.ifc.jSeq, aux⟩ s.ifc.journal
      jPos := (s.ifc.jPos + 1) % 512
      jSeq := s.ifc.jSeq + 1 } }

/-- An entry appended (R503). Before the first entry of journal sector j, sector (j + 1) mod 4 is erased, and that
erase's own START and DONE go into sector j (R504). -/
def journalAppend (type bank sector aux : Nat) (s : State) : State :=
  if s.ifc.jPos % 128 = 0 then
    let j := s.ifc.jPos / 128
    let next := 736 + (j + 1) % 4
    let s := journalPut 1 0 next 0 s
    let s := countErase next 1 (clearSector next s)
    let s := journalPut 2 0 next 0 s
    journalPut type bank sector aux s
  else journalPut type bank sector aux s

/-- The valid journal entries of a bank and sector. -/
def journalOf (bank sector : Nat) (s : State) : List JEntry :=
  (s.ifc.journal.map Prod.snd).filter (fun e => e.bank = bank && e.sector = sector)

/-- A START entry is open: no DONE of the same bank and sector carries a higher sequence (R502). -/
def openStart (s : State) (e : JEntry) : Bool :=
  e.type = 1 && !((journalOf e.bank e.sector s).any (fun d => d.type = 2 && e.seq < d.seq))

/-- An open START of a bank and sector. -/
def hasOpenStart (bank sector : Nat) (s : State) : Bool := (journalOf bank sector s).any (openStart s)

/-- Every open START of the journal, ascending in sequence. -/
def openStarts (s : State) : List JEntry :=
  ((s.ifc.journal.map Prod.snd).filter (openStart s)).mergeSort (fun a b => a.seq ≤ b.seq)

/-- The staging sector that the newest COPY of a bank and sector with a sequence below `below` names (R505). -/
def copyStaging (bank sector below : Nat) (s : State) : Option Nat :=
  (((journalOf bank sector s).filter (fun e => e.type = 3 && e.seq < below)).mergeSort
    (fun a b => b.seq ≤ a.seq)).head?.map JEntry.aux

/-- The words of sector `src` copied into sector `dst`. -/
def copySector (src dst : Nat) (s : State) : State :=
  { s with ifc := { s.ifc with
      words := (s.ifc.words.filter (fun e => e.1 / 512 = src)).foldl
        (fun t e => tput erasedWord t (dst * 512 + e.1 % 512) e.2) s.ifc.words } }

/-- The loader's journal replay for one open START (R505). -/
def replayEntry (s : State) (e : JEntry) : State :=
  let g := e.bank * 1024 + e.sector
  let copy := copyStaging e.bank e.sector e.seq s
  let s := if sectorErased g s then s else countErase g 1 (clearSector g s)
  let s := match copy with
    | some st => copySector (1024 + st) g s
    | none => s
  raise 0x0D06 0x0A [(1, e.bank), (2, e.sector), (1, flag copy.isSome)] (journalAppend 2 e.bank e.sector 0 s)

/-- The loader's journal replay (R505). -/
def journalReplay (s : State) : State := (openStarts s).foldl replayEntry s

/-! ### Agent operations -/

/-- The bytes of the record that an operation writes; none for an erase, a fuse or a package, whose content the operation's end puts in
place. -/
def workBytes : AgentWork → List Nat
  | .sedge r => sedgeBytes r
  | .finalSedge r => sedgeBytes r
  | .gauge r => gaugeBytes r
  | .nonce r => nonceBytes r
  | .snapshot _ r => snapBytes r
  | .pair r => pairBytes r
  | _ => []

/-- How many word programs an operation takes (R216, R488). -/
def workWords : AgentWork → Nat
  | .sedge _ => 32
  | .finalSedge _ => 32
  | .gauge _ => 16
  | .nonce _ => 8
  | .snapshot _ _ => 512
  | .pair _ => 16
  | .package _ l => max 1 ((l.map (fun c => c.words.length)).foldl (· + ·) 0)
  | _ => 1

/-- The window offset an operation's content starts at (R486). -/
def workBase (s : State) : AgentWork → Nat
  | .sedge _ => 0x280000 + s.evr.wslot * 256
  | .finalSedge _ => 0x280000 + s.evr.wslot * 256
  | .gauge _ => 704 * 0x1000 + s.ifc.gaugeSlot * 128
  | .nonce _ => (720 + 8 * s.cip.activeHalf + 1) * 0x1000
      + (if s.cip.activeHalf = 0 then s.ifc.used0 else s.ifc.used1) * 64
  | .snapshot h _ => (720 + 8 * h) * 0x1000
  | .thermJump => 0xA8
  | .pair _ => 1664 * 0x1000 + s.kor.pairSlot * 128
  | .package slot _ => slot * 0x400000
  | .eraseSector g => g * 0x1000

/-- The window offset of the word an agent programs now, or of the sector it erases. -/
def workOff (s : State) (o : AgentOp) : Nat := workBase s o.work + 8 * o.done

/-- The word of its record that an operation programs now is in the array. -/
def putWord (o : AgentOp) (s : State) : State :=
  if workBytes o.work = [] then s
  else { s with ifc := { s.ifc with
    words := tput erasedWord s.ifc.words (workOff s o / 8) (word8 (workBytes o.work) (8 * o.done)) } }

/-- The words of a record whose valid mark has passed are held as the record from now on. -/
def dropWords (o : AgentOp) (s : State) : State :=
  if workBytes o.work = [] then s
  else
    let lo := workBase s o.work / 8
    { s with ifc := { s.ifc with words := s.ifc.words.filter (fun e => e.1 < lo || lo + workWords o.work ≤ e.1) } }

/-- The word an operation programs is undefined (R501); the fuse of the Bog-oak row and a package hold no record. -/
def spoilWord (o : AgentOp) (s : State) : State :=
  if workBytes o.work = [] then s
  else { s with ifc := { s.ifc with undefWords := sins (workOff s o / 8) s.ifc.undefWords } }

/-- The word an operation is to program does not read erased (R494). -/
def wordTaken (o : AgentOp) (s : State) : Bool :=
  workBytes o.work ≠ [] && (wordUndef (workOff s o) s || arrayWord (workOff s o) s ≠ erasedWord)

/-- The words of a record's slot are all correctable: none is left undefined (R234, R458, R500). -/
def slotSound (off words : Nat) (s : State) : Bool := (List.range words).all (fun i => !(wordUndef (off + 8 * i) s))

/-- Rank of an agent operation (R488). -/
def agentRank (o : AgentOp) : Nat :=
  match o.work with
  | .finalSedge _ => 0
  | _ => match o.agent with
    | .cip => 1 | .kor => 2 | .energy => 3 | .sedge => 4 | .firmware => 5

/-- The condition of R216 under which an agent operation starts. -/
def agentMayStart (o : AgentOp) (s : State) : Bool :=
  match o.work with
  | .finalSedge _ => s.nrg.logOk
  | _ => s.nrg.quagOk

/-- The agent has an operation waiting or running (R488). -/
def agentBusy (a : FlashAgent) (s : State) : Bool :=
  s.ifc.waiting.any (fun o => o.agent = a) ||
  [s.ifc.bank0, s.ifc.bank1].any (fun b => match b.running with
    | some (.agent o) => o.agent = a
    | _ => false)

/-- The waiting operation of highest rank for a bank, among those whose condition holds. -/
def nextAgentOp (b : Nat) (s : State) : Option AgentOp :=
  ((s.ifc.waiting.filter (fun o => o.bank = b && agentMayStart o s)).mergeSort
    (fun x y => agentRank x ≤ agentRank y)).head?

/-- A free bank starts the waiting agent operation of highest rank (R488). -/
def ifcKick (b : Nat) (s : State) : State :=
  if (bankOf s b).busy then s
  else match nextAgentOp b s with
    | none => s
    | some o =>
      let isErase := match o.work with
        | .eraseSector _ => true
        | _ => false
      let s := { s with ifc := { s.ifc with waiting := s.ifc.waiting.erase o } }
      let s := match o.work with
        | .eraseSector sec => journalAppend 1 b (sec % 1024) 0 s
        | _ => s
      modBank b (fun k => { k with busy := true, op := if isErase then 2 else 1, agent := o.agent,
                                   running := some (.agent o), addr := workOff s o, startMode := s.spn.mode, stream := none }) s

/-- An agent asks for an operation; it starts at once on a free bank (R488). -/
def ifcAsk (o : AgentOp) (s : State) : State :=
  ifcKick o.bank { s with ifc := { s.ifc with waiting := s.ifc.waiting ++ [o] } }

/-- An operation of an agent that has not programmed a word yet is taken back, as a newer value of its kind replaces it (R217). -/
def dropUnstarted (a : FlashAgent) (s : State) : State :=
  let keep (o : AgentOp) : Bool := !(o.agent = a && o.done = 0 && workBytes o.work ≠ [])
  { s with ifc := { s.ifc with waiting := s.ifc.waiting.filter keep } }

/-- A reservation entry that cannot be written goes to the pending area of AOS (R217, R455). -/
def deferNonce (s : State) (o : AgentOp) : State :=
  let out (s : State) : State := { s with ifc := { s.ifc with waiting := s.ifc.waiting.erase o } }
  match o.work with
  | .nonce e =>
    if e.type = 1 then
      raise 0x0B07 0x07 [(1, 1), (1, e.slot)] (out { s with aos := { s.aos with marks := sins e.slot s.aos.marks } })
    else if e.type = 3 then raise 0x0B07 0x07 [(1, 3), (1, 0)] (out { s with aos := { s.aos with armPending := true } })
    else s
  | _ => s

/-- A gauge record is under way and has more than the running word to go. -/
def gaugeOpen (s : State) : Bool :=
  s.aos.gauge.isSome && !(match s.ifc.bank0.running with
    | some (.agent o) => o.agent = .energy && o.done + 1 = workWords o.work
    | _ => false)

/-- `QUAG_OK` falls (R215): the reservation entries not begun wait in AOS, as does the gauge record, with event 0x040E (R217, R235). -/
def quagFalls (s : State) : State :=
  if !s.nrg.quagOk then s
  else
    let s1 := { s with nrg := { s.nrg with quagOk := false } }
    let s2 := (s1.ifc.waiting.filter (fun o => o.done = 0)).foldl deferNonce s1
    if gaugeOpen s2 then raise 0x040E 0x03 [] s2 else s2

/-- Both banks look at their waiting operations, as when `QUAG_OK` rises. -/
def ifcKickAll (s : State) : State := ifcKick 1 (ifcKick 0 s)

/-! ### The Bog-oak row -/

/-- A stored word of the row. -/
def bogRaw (s : State) (w : Nat) : Nat := tget 0 s.ifc.bog w

/-- Bitwise majority of three words (R508). -/
def majority (a b c : Nat) : Nat := (a &&& b) ||| (a &&& c) ||| (b &&& c)

/-- The first word of the THERM group that holds word `w`, if it is a THERM word (R508). -/
def thermGroup (w : Nat) : Option Nat := if 12 ≤ w ∧ w < 27 then some (12 + (w - 12) / 3 * 3) else none

/-- The THERM word of a group, by majority of its three copies (R508). -/
def thermWord (s : State) (g : Nat) : Nat := majority (bogRaw s g) (bogRaw s (g + 1)) (bogRaw s (g + 2))

/-- How many consecutive bits from bit 0 are set (R511). -/
def thermCount (n : Nat) : Nat := ((List.range 64).takeWhile (fun i => n.testBit i)).length

/-- The thermometer counts (R511). -/
def arbLoader (s : State) : Nat := thermCount (thermWord s 12)
def arbFirmware (s : State) : Nat := thermCount (thermWord s 15)
def arbImage (s : State) : Nat := thermCount (thermWord s 18)
def nonceJump (s : State) : Nat := min 8 (thermCount (thermWord s 21))
def fuseBits (s : State) : Nat := thermWord s 24 % 4

/-- What a row-mode read of a word returns: `ROOT_SECRET` reads 0 on every path (R513), a THERM word its majority. -/
def bogRead (s : State) (w : Nat) : Nat :=
  if 2 ≤ w ∧ w < 6 then 0
  else match thermGroup w with
    | some g => thermWord s g
    | none => bogRaw s w

/-- Several Bog-oak words as one number, the first word lowest. -/
def bogValue (s : State) (w n : Nat) : Nat :=
  ((List.range n).map (fun i => bogRaw s (w + i) * 2 ^ (64 * i))).foldl (· + ·) 0

/-! ### The rules that refuse -/

/-- A sector of the active slot's loader, firmware or image (R486, R487), by global sector. -/
def activeSector (g : Nat) (s : State) : Bool :=
  let inArea (slot lo hi : Nat) : Bool := decide (slot * 1024 + lo ≤ g ∧ g < slot * 1024 + hi)
  inArea s.sig.loaderSlot 0 64 || inArea s.sig.fwSlot 64 576 || (s.img.imageValid && inArea s.img.activeSlot 576 640)

/-- A sector written by a hardware unit, reserved, or the certificate sector (R486, R487). -/
def hardwareSector (g : Nat) : Bool :=
  (640 ≤ g && g < 1024) || (1664 ≤ g && g < 1666) || g = 1668

/-- The identical rewrite of R487 is open for a sector: an open START follows a COPY, whose staging sector is given. -/
def rewriteStaging (g : Nat) (s : State) : Option Nat :=
  match ((journalOf (g / 1024) (g % 1024) s).filter (openStart s)).head? with
  | some e => copyStaging (g / 1024) (g % 1024) e.seq s
  | none => none

/-- A firmware erase of a sector is refused as locked (R487). -/
def eraseLocked (g : Nat) (s : State) : Bool :=
  hardwareSector g || (activeSector g s && s.spn.mode ≠ .recovery && (rewriteStaging g s).isNone)

/-- A firmware program of a word is refused as locked (R487). -/
def programLocked (off data : Nat) (s : State) : Bool :=
  let g := sectorOf off
  hardwareSector g || (activeSector g s && s.spn.mode ≠ .recovery &&
    match rewriteStaging g s with
    | some st => arrayWord ((1024 + st) * 0x1000 + off % 0x1000) s ≠ data
    | none => true)

end Sys2Proof.Machine
end

