-- ==== Sys2Proof/Machine/VaultGeom.lean ====
section
/-!
DEFINITION. The vault's geometry (10): channels and columns, segments and rows, page addresses; with the token bucket and the
closing of Peat rows (07), which the budget conditions need.
-/

namespace Sys2Proof.Machine

/-- The enabled quadrants, ascending. -/
def quadList (s : State) : List Nat := setBits 4 s.spn.quadEn

/-- N, the number of enabled quadrants. -/
def nQuads (s : State) : Nat := (quadList s).length

/-- The VAULT record in force (R61). -/
def vaultRec (s : State) : VaultRec := s.img.active.vault.getD ⟨0, 0, 16384, 0, 0, 0, 0, 0, 60000, []⟩

/-- W, the stripe width (R58). -/
def stripe (s : State) : Nat := 4 * nQuads s

/-- A vault channel. -/
def vchOf (s : State) (c : Nat) : Vch := s.vch.getD c {}

/-- A vault channel changed. -/
def modVch (c : Nat) (f : Vch → Vch) (s : State) : State := { s with vch := s.vch.modify c f }

/-- Channel `c` is populated: its quadrant is enabled (R58). -/
def populated (s : State) (c : Nat) : Bool := c < 16 && s.spn.quadEn.testBit (c / 4)

/-- Die `d` of channel `c` is in service. -/
def dieOk (s : State) (c d : Nat) : Bool :=
  populated s c && (vchOf s c).state ≠ 3 && !(vchOf s c).dieFailed.testBit d

/-- The channel of stripe column `j` (R336). -/
def colChannel (s : State) (j : Nat) : Nat :=
  ((List.range 16).find? (fun c => populated s c && (vchOf s c).column = j)).getD 0

/-! ### Addresses (R334, R335) -/

/-- A vault page address. -/
def vpaOf (ch die plane block page : Nat) : Nat :=
  ch * 2 ^ 30 + die * 2 ^ 27 + plane * 2 ^ 25 + block * 2 ^ 11 + page

/-- The fields of a vault page address. -/
def vpaCh (v : Nat) : Nat := bitsOf v 30 4
def vpaDie (v : Nat) : Nat := bitsOf v 27 3
def vpaPlane (v : Nat) : Nat := bitsOf v 25 2
def vpaBlock (v : Nat) : Nat := bitsOf v 11 14
def vpaPage (v : Nat) : Nat := bitsOf v 0 11

/-- Page 0 of the block a page lies in. -/
def blockVpa (v : Nat) : Nat := v - vpaPage v

/-- A segment number of die position `d` and block group `k`, and back. -/
def segNo (d k : Nat) : Nat := d * 2 ^ 14 + k
def segDie (n : Nat) : Nat := n / 2 ^ 14
def segGroup (n : Nat) : Nat := n % 2 ^ 14

/-- The segment a page lies in. -/
def vpaSeg (v : Nat) : Nat := segNo (vpaDie v) (vpaBlock v)

/-- The row of its segment a page lies in. -/
def vpaRow (s : State) (v : Nat) : Nat := vpaPage v * (vaultRec s).planes + vpaPlane v

/-- A FREE segment never written. -/
def freshSeg : Seg := ⟨.free, 0, 0, 0, 0⟩

/-- A segment of the segment table (R337). -/
def segOf (s : State) (n : Nat) : Seg := tget freshSeg s.vlt.segs n

/-- A segment written. -/
def setSeg (n : Nat) (g : Seg) (s : State) : State :=
  { s with vlt := { s.vlt with segs := tput freshSeg s.vlt.segs n g } }

/-- Rows of a segment (R335). -/
def segRows (s : State) : Nat := (vaultRec s).planes * (vaultRec s).pagesPerBlock

/-- Blocks of a plane's replacement pool (R346) and the block groups that segments use. -/
def poolSize (s : State) : Nat := (2 * (vaultRec s).blocksPerPlane + 99) / 100
def segGroups (s : State) : Nat := (vaultRec s).blocksPerPlane - poolSize s

/-- Column `j` is present in segment `n` (R336). -/
def colPresent (s : State) (n j : Nat) : Bool :=
  dieOk s (colChannel s j) (segDie n) && !(segOf s n).absent.testBit j

/-- The present columns of a segment, ascending. -/
def presentCols (s : State) (n : Nat) : List Nat := (List.range (stripe s)).filter (colPresent s n)

/-- The parity column of row `i` of segment `n` (R336). -/
def parityCol (s : State) (n i : Nat) : Nat :=
  let w := stripe s
  (((List.range w).map (fun o => (segGroup n + i + o) % w)).find? (colPresent s n)).getD 0

/-- The data columns of a row whose parity column is `p`. -/
def dataCols (s : State) (n p : Nat) : List Nat := (presentCols s n).filter (· ≠ p)

/-- The page of row `i` of segment `n` on channel `c`. -/
def rowPage (s : State) (n i c : Nat) : Nat :=
  vpaOf c (segDie n) (i % (vaultRec s).planes) (segGroup n) (i / (vaultRec s).planes)

/-- The partner channel c′ of R338 for pages on die position `d`. -/
def partnerCh (s : State) (d c : Nat) : Nat :=
  if nQuads s ≤ 1 then
    if dieOk s (c ^^^ 2) d then c ^^^ 2
    else ((List.range 16).find? (fun x => x ≠ c && dieOk s x d)).getD c
  else
    let q := quadList s
    let at_ := (List.range q.length).find? (fun i => q.getD i 0 = c / 4)
    let q2 := q.getD ((at_.getD 0) ^^^ 1) 0
    (((List.range 4).map (fun o => 4 * q2 + (c % 4 + o) % 4)).find? (fun x => dieOk s x d)).getD c

/-- The pairs of channels twin pages use at die position `d`, lower channel first (R338). -/
def twinPairs (s : State) (d : Nat) : List (Nat × Nat) :=
  (((List.range 16).filter (fun c => dieOk s c d)).foldl (fun (t : List Nat × List (Nat × Nat)) c =>
    let p := partnerCh s d c
    if t.1.contains c || t.1.contains p || p = c then t
    else (p :: c :: t.1, t.2 ++ [(min c p, max c p)])) ([], [])).2

/-! ### Space and wear -/

/-- F: erased rows outside the dump reserve (R265), those of open PEAT segments included. -/
def freeRows (s : State) : Nat :=
  let used := (s.vlt.segs.filter (fun e => e.2.kind ≠ .free)).length
  ((vaultRec s).diesPerCh * segGroups s - used) * segRows s
    + ((s.vlt.segs.filter (fun e => e.2.kind = .peat)).map (fun e => segRows s - e.2.rows)).foldl (· + ·) 0

/-- All rows of the vault. -/
def allRows (s : State) : Nat := (vaultRec s).diesPerCh * segGroups s * segRows s

/-- Populated dies in service (P_dies of R284). -/
def diesInService (s : State) : Nat :=
  ((List.range 16).map (fun c => ((List.range (vaultRec s).diesPerCh).filter (dieOk s c)).length)).foldl (· + ·) 0

/-- In-service blocks (R257): of dies that are not FAILED, less the retired ones. -/
def blocksInService (s : State) : Nat :=
  diesInService s * (vaultRec s).planes * (vaultRec s).blocksPerPlane
    - (s.vlt.retired.filter (fun e => dieOk s (vpaCh e.1) (vpaDie e.1))).length

/-- C_slc in bytes (R257). -/
def slcBytes (s : State) : Nat := blocksInService s * (vaultRec s).pagesPerBlock * 16384

/-- Erases of all in-service blocks: each segment's count on each of its present columns' blocks. -/
def eraseSum (s : State) : Nat :=
  (s.vlt.segs.map (fun e => e.2.erases * (vaultRec s).planes * (presentCols s e.1).length)).foldl (· + ·) 0

/-! ### The token bucket (R257) -/

/-- A vault program of `p` bytes starts outside the save path: tokens are drawn, the rest is debt; the balance falling to 0
logs 0x0502. -/
def drawTokens (p : Nat) (s : State) : State :=
  let excess := p - min p s.shd.balance.toNat
  let b := s.shd.balance - (p : Int)
  let s1 := { s with shd := { s.shd with debt := s.shd.debt + excess, balance := b, written := s.shd.written + p,
                                         recentProgrammed := s.shd.recentProgrammed + p } }
  if 0 < s.shd.balance ∧ b ≤ 0 then raise 0x0502 0x0D [(4, twos 32 (b / 1048576)), (4, s.shd.rate / 1024)] s1 else s1

/-- A page of the save path has been programmed: it counts over the vault's life, outside write amplification (R268). -/
def savePage (s : State) : State :=
  { s with shd := { s.shd with written := s.shd.written + 16384, saved := s.shd.saved + 16384 } }

/-! ### Closing rows (R253) -/

/-- One open row closes: each data column still unassigned receives a pad page, and the parity page's program starts. -/
def closeRow (r : Row) (s : State) : Row × State :=
  if r.closed then (r, s)
  else
    let free := (dataCols s r.seg r.parity).filter (fun j => !(r.cols.any (fun c => c.col = j)))
    let s1 := drawTokens ((free.length + 1) * 16384) s
    let s2 := if free = [] then s1
      else raise 0x0504 0x0D [(1, free.length)]
        { s1 with shd := { s1.shd with padPages := satAdd 32 s1.shd.padPages free.length } }
    ({ r with closed := true, cols := r.cols ++ free.map (fun j => ⟨j, .pad, none, none⟩) }, s2)

/-- Every open Peat row that meets a test closes. -/
def closeRows (p : Row → Bool) (s : State) : State :=
  let (rs, t) := s.shd.rows.foldl (fun (a : List Row × State) r =>
    if p r then let (r2, s2) := closeRow r a.2; (a.1 ++ [r2], s2) else (a.1 ++ [r], a.2)) ([], s)
  { t with shd := { t.shd with rows := rs } }

end Sys2Proof.Machine
end

