-- ==== Sys2Proof/Machine/RegionOps.lean ====
section
/-!
DEFINITION. Granules, regions and the dirty budget (01, 04, 05): where a granule lies, whose it is, its state word,
reservations and twin entries, the candidate rings, the budget conditions, effective classes and lifecycle changes.
-/

namespace Sys2Proof.Machine

/-! ### Where a granule lies -/

/-- Host-visible granules (R22, R113): each channel less its reserved 8,192 granules. -/
def hdmGranules (s : State) : Nat := nQuads s * (s.spn.dramGib * 65536 - 8192)

/-- Whole 256 MiB units of the HDM capacity (R65). -/
def hdmUnits (s : State) : Nat := hdmGranules s / 16384

/-- The quadrant of a granule and its local index there (R20). -/
def quadOf (s : State) (g : Nat) : Nat := (quadList s).getD (g % nQuads s) 0
def localOf (s : State) (g : Nat) : Nat := g / nQuads s

/-- The code of a granule state (R169). -/
def gstateCode : GState → Nat
  | .free => 0 | .dirty => 1 | .inflight => 2 | .redirty => 3 | .shadowed => 4 | .pending => 5 | .poison => 6 | .lost => 7

/-- The granule with local index `l` in quadrant `q` (R20). -/
def granuleAt (s : State) (q l : Nat) : Nat := l * nQuads s + ((quadList s).idxOf q)

/-- The granule of a 64-byte line. -/
def granuleOf (line : Nat) : Nat := line / 256

/-! ### Regions -/

/-- Region `r`. -/
def region (s : State) (r : Nat) : Region := s.wrp.regions.getD r {}

/-- Region `r` changed. -/
def modRegion (r : Nat) (f : Region → Region) (s : State) : State :=
  { s with wrp := { s.wrp with regions := s.wrp.regions.modify r f } }

/-- A region is defined (R64). -/
def defined (s : State) (r : Nat) : Bool := (region s r).entry.size ≠ 0

/-- The granules of a region. -/
def firstGranule (s : State) (r : Nat) : Nat := (region s r).entry.base * 16384
def granuleCount (s : State) (r : Nat) : Nat := (region s r).entry.size * 16384

/-- A granule lies in a region. -/
def inRegion (s : State) (r g : Nat) : Bool :=
  firstGranule s r ≤ g && g < firstGranule s r + granuleCount s r

/-- The defined region a granule lies in (R113). -/
def regionOf (s : State) (g : Nat) : Option Nat := (List.range 256).find? (fun r => inRegion s r g)

/-- The index a DPA counts under: its region, or 256 in no defined region (R122). -/
def offlIndex (s : State) (g : Nat) : Nat :=
  if s.spn.mode = .recovery then 256 else (regionOf s g).getD 256

/-- This side owns region `r` or has adopted it (R170). -/
def serves (s : State) (r : Nat) : Bool := (region s r).entry.sideB = s.kor.side || (region s r).adopted

/-- A granule is of a region this side owns or has adopted. -/
def ownGranule (s : State) (g : Nat) : Bool :=
  match regionOf s g with
  | some r => serves s r
  | none => true

/-- The class of a region's entry is MIRRORED. -/
def isMirrored (s : State) (r : Nat) : Bool := (region s r).entry.ack = .mirrored

/-- A granule of a MIRRORED region. -/
def mirroredGranule (s : State) (g : Nat) : Bool :=
  match regionOf s g with
  | some r => isMirrored s r
  | none => false

/-! ### State words -/

/-- A FREE granule with MIRROR_STALE clear. -/
def freeWord : GWord := ⟨.free, false⟩

/-- A granule's state word. -/
def gword (s : State) (g : Nat) : GWord := tget freeWord s.gst.states g

/-- A granule's state. -/
def gstate (s : State) (g : Nat) : GState := (gword s g).st

/-- An injection of target `t` is armed in quadrant `q` and plants something: targets 1 to 5 with 1 or 2 symbols (R609). -/
def armedFor (s : State) (q t : Nat) : Bool :=
  let d := s.qdc.getD q {}
  d.armed && d.target = t && (d.symbols = 1 || d.symbols = 2)

/-- The armed fault has been planted: `ARM` clears, event 0x110B (R609). -/
def planted (q t : Nat) (s : State) : State :=
  raise 0x110B (quadUnit q 0) [(1, t)] { s with qdc := s.qdc.modify q (fun d => { d with armed := false }) }

/-- A beat passes the crossbar stage of a quadrant unit with bad symbols: the stage's counts go to `QDC_SRAM` (R19, R601). -/
def beatCount (u : Nat) (two : Bool) (s : State) : State :=
  if u < 16 then s
  else { s with qdc := s.qdc.modify ((u - 16) / 8) (fun d =>
    if two then { d with sramUe := satAdd 16 d.sramUe 1 } else { d with sramCe := satAdd 32 d.sramCe 1 }) }

/-- An SRAM word is written; the fault armed for it is planted there (R609, targets 3 and 4), and the scrub finds it. -/
def plantSram (q t array addr : Nat) (s : State) : State :=
  if armedFor s q t then
    planted q t { s with qdc := s.qdc.modify q (fun d => { d with sramPlanted := d.sramPlanted ++ [(array, addr, decide (d.symbols = 2))] }) }
  else s

/-- A staging word of a slice is written: the fault armed for it is planted there (R609, target 4). The spec gives no address for it, so the
address is a free value. -/
def plantStaging (q : Nat) (s : State) : State :=
  if armedFor s q 4 then useFree (plantSram q 4 2 (Config.observed s.free % 0x80000) s) else s

/-- A state word written; entries of reserved granules and beyond the channel ignore updates (R24). -/
def setWord (g : Nat) (w : GWord) (s : State) : State :=
  if g < hdmGranules s then
    plantSram (quadOf s g) 3 0 (localOf s g / 16) { s with gst := { s.gst with states := tput freeWord s.gst.states g w } }
  else s

/-- A granule's state written, MIRROR_STALE kept. -/
def setGState (g : Nat) (st : GState) (s : State) : State := setWord g ⟨st, (gword s g).stale⟩ s

/-- MIRROR_STALE written. -/
def setStale (g : Nat) (b : Bool) (s : State) : State := setWord g ⟨gstate s g, b⟩ s

/-- The states of the dirty set (R169). -/
def dirtyState : GState → Bool
  | .dirty => true
  | .inflight => true
  | .redirty => true
  | _ => false

/-- A granule is in the dirty set. -/
def isDirty (s : State) (g : Nat) : Bool := dirtyState (gstate s g)

/-- The granules of a region whose state meets a test, ascending; only listed granules can, for tests FREE fails. -/
def regionGranules (s : State) (r : Nat) (p : GWord → Bool) : List Nat :=
  (s.gst.states.filter (fun e => inRegion s r e.1 && p e.2)).map Prod.fst

/-- The granules of this side's dirty set, ascending. -/
def dirtyGranules (s : State) : List Nat :=
  (s.gst.states.filter (fun e => dirtyState e.2.st && ownGranule s e.1)).map Prod.fst

/-- A region holds granules that are not FREE. -/
def regionHasData (s : State) (r : Nat) : Bool := !(regionGranules s r (fun w => w.st ≠ .free)).isEmpty

/-! ### Budget -/

/-- The reserved granules of a region. -/
def regionRsv (s : State) (r : Nat) : Nat := (s.gst.rsv.filter (inRegion s r)).length

/-- A region's share limit (R191). -/
def shareLimit (s : State) (r : Nat) : Nat := (region s r).entry.share * s.wrp.b / 1024

/-- The HIGH condition with its hysteresis (R194). -/
def highNext (high : Bool) (d b : Nat) : Bool :=
  if high then !((0 < b ∧ d < 85 * b / 100) ∨ d = 0)
  else (0 < b ∧ (9 * b + 9) / 10 ≤ d) ∨ (b = 0 ∧ 0 < d)

/-- `DEFER_LIMIT` and the other LIFE parameters in force (R71). -/
def designLife (s : State) : Nat := paramOf s.shd.life 0x41 40
def wearMargin (s : State) : Nat := paramOf s.shd.life 0x42 10
def wearBurst (s : State) : Nat := paramOf s.shd.life 0x43 64
def deferLimit (s : State) : Nat := paramOf s.shd.life 0x44 50

/-- The regime of the Peat stream (R254), with the partner's pressure of R384. -/
def regimeOf (s : State) : Regime :=
  let d := dCount s
  if s.wrp.high || s.kor.pressureIn || s.dmp.preflush then .top
  else if d = 0 then .idle
  else if d < deferLimit s * s.wrp.b / 100 then .deferrable
  else .normal

/-- The code of a regime, in table order. -/
def regimeCode : Regime → Nat
  | .idle => 0 | .deferrable => 1 | .normal => 2 | .top => 3

/-- The regime follows D, B and HIGH; a change logs 0x0501, and entry into TOP closes the open rows (R253, R254). -/
def refreshRegime (s : State) : State :=
  let new := regimeOf s
  if new = s.shd.regime then s
  else
    let s1 := raise 0x0501 0x0D [(1, regimeCode s.shd.regime), (1, regimeCode new), (4, dCount s), (3, s.wrp.b)]
      { s with shd := { s.shd with regime := new } }
    if new = .top then closeRows (fun _ => true) s1 else s1

/-- HIGH, FULL and OVER brought up to date (R194); `bFell` says that a decrease of B is the cause. -/
def refreshConditions (bFell : Bool) (s : State) : State :=
  let d := dCount s
  let b := s.wrp.b
  let high := highNext s.wrp.high d b
  let full := decide (b ≤ d)
  let isOver := decide (b < d)
  let w := s.wrp
  let s1 := { s with wrp := { w with high := high, full := full, overB := isOver } }
  let s2 := if high ≠ w.high then msix 5 (raise 0x0305 0x02 [(4, d), (3, b)] s1) else s1
  let s3 := if full && !w.full then msix 5 (raise 0x0306 0x02 [(4, d), (3, b)] s2) else if !full && w.full then msix 5 s2 else s2
  let s4 := if isOver && !w.overB && bFell then raise 0x0307 0x02 [(4, d - b)] s3 else s3
  refreshRegime s4

/-- The granules the WRP has leased, which count as taken from B − D (R193). -/
def leased (s : State) : Nat := s.wrp.leases.foldl (· + ·) 0

/-- The WRP recalls the leases when B − D, the leased granules taken from it, is below 8,192, or when B falls below what it granted, and
grants again above that (R193). -/
def refreshLeases (s : State) : State :=
  let low := decide (s.wrp.b - dCount s - leased s < 8192 ∨ s.wrp.b < leased s)
  { s with wrp := { s.wrp with leasesRecalled := low, leases := if low then [0, 0, 0, 0] else s.wrp.leases } }

/-- A GST takes one granule of budget: from its lease, which the WRP fills with up to 1,024 granules, or from the spine
counter while the leases are recalled (R193). -/
def drawLease (q : Nat) (s : State) : State :=
  if s.wrp.leasesRecalled then s
  else
    let have_ := s.wrp.leases.getD q 0
    { s with wrp := { s.wrp with leases := s.wrp.leases.set q (if have_ = 0 then 1023 else have_ - 1) } }

/-- A granule takes a reservation (R190, R191); its region reaching its share limit logs 0x030D (R195). -/
def takeRsv (g : Nat) (s : State) : State :=
  if s.gst.rsv.contains g then s
  else
    let s1 := drawLease (quadOf s g) { s with gst := { s.gst with rsv := sins g s.gst.rsv, twin := sdel s.gst.twin g } }
    let s2 := match regionOf s g with
      | some r => if regionRsv s r < shareLimit s r ∧ shareLimit s r ≤ regionRsv s1 r then raise 0x030D 0x02 [(1, r)] s1 else s1
      | none => s1
    refreshLeases (refreshConditions false s2)

/-- A granule gives up its reservation or twin entry (R172, R183). -/
def dropRsv (g : Nat) (s : State) : State :=
  refreshLeases (refreshConditions false
    { s with gst := { s.gst with rsv := sdel s.gst.rsv g, twin := sdel s.gst.twin g,
                                 unreserved := sdel s.gst.unreserved g } })

/-- A granule takes a twin-table entry (R192). -/
def takeTwin (g : Nat) (s : State) : State := { s with gst := { s.gst with twin := sins g s.gst.twin } }

/-! ### Candidate rings -/

/-- The ring of a quadrant, head first. -/
def ringOf (s : State) (q : Nat) : List Nat :=
  if q = 0 then s.shd.ring0 else if q = 1 then s.shd.ring1 else if q = 2 then s.shd.ring2 else s.shd.ring3

/-- A quadrant's ring written. -/
def setRing (q : Nat) (l : List Nat) (s : State) : State :=
  if q = 0 then { s with shd := { s.shd with ring0 := l } }
  else if q = 1 then { s with shd := { s.shd with ring1 := l } }
  else if q = 2 then { s with shd := { s.shd with ring2 := l } }
  else { s with shd := { s.shd with ring3 := l } }

/-- A granule of a SEQUENTIAL region at or above `SHADOW_PTR`, which the walk serves and not the ring (R248); one rebuilt under R177 goes
to the ring, whose top priority it has (R244). -/
def walked (s : State) (g : Nat) : Bool :=
  match regionOf s g with
  | some r => (region s r).entry.sequential && (firstGranule s r + (region s r).shadowPtr ≤ g) && !(s.gst.rebuilt.contains g)
  | none => false

/-- A granule enters the tail of its ring, where it is at most once (R244, R248). -/
def joinRing (g : Nat) (s : State) : State :=
  let q := quadOf s g
  if !ownGranule s g || walked s g || (ringOf s q).contains g then s else setRing q (ringOf s q ++ [g]) s

/-- A write touches a granule: its epoch (R245) and, in a SEQUENTIAL region, `WRITE_PTR` (R180). -/
def touchGranule (g : Nat) (s : State) : State :=
  let s1 := { s with gst := { s.gst with touch := tput 0 s.gst.touch g s.gst.epoch } }
  match regionOf s g with
  | some r =>
    if (region s r).entry.sequential then
      modRegion r (fun x => { x with writePtr := max x.writePtr (g - firstGranule s r + 1) }) s1
    else s1
  | none => s1

/-- `SHADOW_PTR` moves past SHADOWED and FREE granules up to `WRITE_PTR` (R180). -/
def advancePtr (s : State) (r : Nat) : Nat → Nat → Nat
  | 0, p => p
  | n + 1, p =>
    let st := gstate s (firstGranule s r + p)
    if p < (region s r).writePtr ∧ (st = .shadowed ∨ st = .free) then advancePtr s r n (p + 1) else p

/-- `SHADOW_PTR` of a region brought up to date. -/
def refreshShadowPtr (r : Nat) (s : State) : State :=
  if (region s r).entry.sequential then
    let p := advancePtr s r ((region s r).writePtr - (region s r).shadowPtr) (region s r).shadowPtr
    modRegion r (fun x => { x with shadowPtr := p }) s
  else s

/-! ### Effective ack class -/

/-- A region is in CONFLICT (R403). -/
def inConflict (s : State) (r : Nat) : Bool := s.kor.conflicts.contains r

/-- `EFF_CLASS` of a region (R136, R390, R403): 0 LOCAL, 1 MIRRORED, 2 VAULTED, 3 held for a decision. -/
def effCode (s : State) (r : Nat) : Nat :=
  match (region s r).entry.ack with
  | .vaulted => 2
  | .loc => if s.wrp.b = 0 then 2 else 0
  | .mirrored =>
    if s.kor.state = .deciding ∧ !inConflict s r then 3
    else if s.wrp.b = 0 then 2
    else if s.kor.state = .mirrored ∧ !inConflict s r then 1
    else 0

/-- One region's effective class reported, with event 0x0303 and vector 6 on a change (R138). -/
def refreshEff1 (r : Nat) (s : State) : State :=
  let new := effCode s r
  let old := (region s r).eff
  if !defined s r || new = old then s
  else msix 6 (raise 0x0303 0x02 [(1, r), (1, old), (1, new)] (modRegion r (fun x => { x with eff := new }) s))

/-- Every region's effective class reported. -/
def refreshEff (s : State) : State := (List.range 256).foldl (fun t r => refreshEff1 r t) s

/-! ### Lifecycle -/

/-- Codes of lifecycle states (`LIFECYCLE`). -/
def lifeCode : Lifecycle → Nat
  | .offline => 0 | .starting => 1 | .online => 2 | .stopping => 3

/-- The write-latency entry of the CDAT (R133): the slowest configured class of the ONLINE regions, else of the defined
ones. -/
def cdatOf (s : State) : Nat :=
  let lat (r : Nat) : Nat := match (region s r).entry.ack with
    | .loc => 350 | .mirrored => 1000 | .vaulted => 60000
  let on := (List.range 256).filter (fun r => defined s r && (region s r).life = .online)
  let l := if on = [] then (List.range 256).filter (defined s) else on
  (l.map lat).foldl max 350

/-- A live re-application or a lifecycle change alters the entry: the CDAT sequence and vector 6 (R133). -/
def refreshCdat (s : State) : State :=
  if cdatOf s = s.hlk.cdatLatency then s
  else msix 6 { s with hlk := { s.hlk with cdatLatency := cdatOf s, cdatSeq := s.hlk.cdatSeq + 1 } }

/-- A region changes its lifecycle state: event 0x0301 and vector 6 (R131); ONLINE clears `START_FAIL` and ends the episode of R122;
leaving ONLINE opens one (R165). -/
def setLife (r : Nat) (l : Lifecycle) (s : State) : State :=
  let old := (region s r).life
  if old = l then s
  else
    let s1 := raise 0x0301 0x02 [(1, r), (1, lifeCode old), (1, lifeCode l)]
      (modRegion r (fun x => { x with life := l, startFail := if l = .online then 0 else x.startFail }) s)
    let s2 := if l = .online ∨ old = .online then
        { s1 with hlk := { s1.hlk with warned := sdel s1.hlk.warned r } } else s1
    refreshCdat (msix 6 s2)

/-- A region's start fails with a code: OFFLINE, `START_FAIL` and event 0x0302 (R165, R167); a KEY_ABSENT failure that
leaves PENDING granules logs 0x0707 (R323). -/
def failStart (r code : Nat) (s : State) : State :=
  let s1 := raise 0x0302 0x02 [(1, r), (1, code)]
    (setLife r .offline (modRegion r (fun x => { x with startFail := code }) s))
  let n := (regionGranules s r (fun w => w.st = .pending)).length
  if code = 1 ∧ 0 < n then raise 0x0707 0x0E [(1, r), (3, n)] s1 else s1

/-- A fall of the budget brings the share limit of a region that holds reservations down to their count: event 0x030D (R195). -/
def shareFell (before : State) (s : State) : State :=
  ((List.range 256).filter (fun r => defined s r && decide (0 < regionRsv s r) && decide (shareLimit s r ≤ regionRsv s r)
    && decide (regionRsv before r < shareLimit before r))).foldl (fun t r => raise 0x030D 0x02 [(1, r)] t) s

/-- A region starts to stop: no further access is admitted (R165). -/
def stopRegion (r : Nat) (s : State) : State := if (region s r).life = .online then setLife r .stopping s else s

/-- A STOPPING region holds no granule in DIRTY, INFLIGHT or REDIRTY (R165). -/
def regionDrained (s : State) (r : Nat) : Bool := (regionGranules s r (fun w => dirtyState w.st)).isEmpty

/-- A quadrant of the device is fenced (R608). -/
def fenced (s : State) : Bool := s.qdc.any (fun q => q.state = 3)

/-- The modes in which the host link serves CXL.mem from the cache (R38). -/
def serving (s : State) : Bool := modeIn [.restore, .service, .test] s

end Sys2Proof.Machine
end

