-- ==== Sys2Proof/Machine/KorricSend.lean ====
section
/-!
DEFINITION. Sending over the Korric link (11): flits, sequences, the replay buffer, notices and changes of the pair state.
-/

namespace Sys2Proof.Machine

/-- Codes of pair states (`PAIR_STATE`). -/
def pairCode : PairState → Nat
  | .unpaired => 0 | .training => 1 | .mirrored => 2 | .deciding => 3 | .solo => 4 | .resync => 5

/-- The header of a flit this side sends now (R374). -/
def txHeader (fseq : Nat) (s : State) : FlitHdr :=
  { fseq := fseq, fack := s.kor.rxSeq, mackLo := s.kor.rxMseq % 2 ^ 24, nak := s.kor.nakOut, pressure := s.kor.pressureOut,
    swapReq := s.kor.swapReqOut, dumping := s.spn.mode = .dump }

/-- Slots of the replay buffer (R379). -/
def replaySlots : Nat := 8320

/-- A sequenced flit takes the next `FSEQ` and a slot of the replay buffer (R374, R378). -/
def sendSequenced (b : FlitBody) (s : State) : State :=
  let q := wrapAdd 16 s.kor.txSeq 1
  send (.flit (txHeader q s) b)
    { s with kor := { s.kor with txSeq := q, replay := s.kor.replay ++ [(q, b)], nakOut := false } }

/-- A flit sent: a sequenced one at once, or after those that wait for a slot; a HEARTBEAT repeats the last `FSEQ` (R374, R378, R379);
`NAK` goes out once. Nothing is sent by a unit that is OFF or has no trained link. -/
def sendFlit (b : FlitBody) (s : State) : State :=
  if !s.kor.unitOn || !s.kor.trained then s
  else match b with
    | .heartbeat => send (.flit (txHeader s.kor.txSeq s) b) { s with kor := { s.kor with nakOut := false } }
    | _ =>
      if s.kor.txQueue = [] ∧ s.kor.replay.length < replaySlots then sendSequenced b s
      else { s with kor := { s.kor with txQueue := s.kor.txQueue ++ [b] } }

/-- Flits that waited go out as far as the replay buffer has slots (R379). -/
def drainQueue (s : State) : State :=
  let n := min s.kor.txQueue.length (replaySlots - s.kor.replay.length)
  (s.kor.txQueue.take n).foldl (fun t b => sendSequenced b t) { s with kor := { s.kor with txQueue := s.kor.txQueue.drop n } }

/-- A control message sent (R377). -/
def sendMsg (m : KMsg) (s : State) : State := sendFlit (.control [m]) s

/-- Notices are sent in TRAINING, RESYNC and MIRRORED once the exchange is complete (R384). -/
def noticesFlow (s : State) : Bool :=
  s.kor.up && (s.kor.state = .training || s.kor.state = .resync || s.kor.state = .mirrored)

/-- A notice for a region's granules, withheld for regions in CONFLICT (R384). -/
def sendNotice (r : Nat) (m : KMsg) (s : State) : State :=
  if noticesFlow s && isMirrored s r && !inConflict s r then sendMsg m s else s

/-- A mirrored line is numbered and sent, a poisoned one as POISON_LINE (R381, R386). The number is that of the state before. -/
def sendLine (line mask : Nat) (data : BitVec 512) (poisoned : Bool) (s : State) : State :=
  let m := s.kor.mseqNext
  let s1 := { s with kor := { s.kor with mseqNext := wrapAdd 32 m 1 } }
  if poisoned then sendMsg (.poisonLine line m) s1 else sendFlit (.mirror [⟨m, line, mask, data⟩]) s1

/-- The pair state changes: event 0x0905 and vector 8 (R389). -/
def setPair (p : PairState) (cause : Nat) (s : State) : State :=
  if s.kor.state = p then s
  else
    refreshEff (msix 8 (raise 0x0905 0x05 [(1, pairCode s.kor.state), (1, pairCode p), (1, cause)]
      { s with kor := { s.kor with state := p } }))

/-- A sequence number `a` is not above `b`, modulo 2^32 (R381). -/
def seqLe (a b : Nat) : Bool := decide ((b + 2 ^ 32 - a) % 2 ^ 32 < 2 ^ 31)

end Sys2Proof.Machine
end

