-- ==== Sys2Proof/Machine/CipherOps.lean ====
section
/-!
DEFINITION. Shared operations of the cipher engine (13): slots, counters and their reservation, the scheduler's cores, key
checks, the Clasp and reservation entries.
-/

namespace Sys2Proof.Machine

/-! ### Slots -/

/-- A Locket slot. -/
def slotOf (s : State) (i : Nat) : KSlot := s.cip.slots.getD i {}

/-- A slot changed. -/
def modSlot (i : Nat) (f : KSlot → KSlot) (s : State) : State :=
  { s with cip := { s.cip with slots := s.cip.slots.modify i f } }

/-- Codes of slot states (`STATE`). -/
def runCode : RunState → Nat
  | .off => 0 | .starting => 1 | .on => 2 | .stopping => 3

/-- A slot changes state, with event 0x0B01 (R438). -/
def setSlot (i : Nat) (st : RunState) (s : State) : State :=
  let old := (slotOf s i).st
  if old = st then s
  else raise 0x0B01 0x07 [(2, i), (1, runCode old), (1, runCode st)] (modSlot i (fun k => { k with st := st }) s)

/-- A slot is zeroized. -/
def zeroize (i : Nat) (s : State) : State :=
  modSlot i (fun k => { k with key := [], hash := [], binding := none }) s

/-- U, the unused reservation of a slot (R452). -/
def unusedRsv (k : KSlot) : Nat := k.mark - k.counter

/-- The low and guard flags of a region slot follow U (R452): events on entry to LOW, and on entry to or exit from the
guard. -/
def refreshSlot (i : Nat) (s : State) : State :=
  let k := slotOf s i
  let u := unusedRsv k
  let low := decide (u < 2 ^ 22)
  let guard := decide (u ≤ 2 ^ 21)
  let s1 := modSlot i (fun k => { k with low := low, guard := guard }) s
  let s2 := if low && !k.low then raise 0x0B05 0x07 [(1, i), (8, u)] s1 else s1
  if guard ≠ k.guard then raise 0x0B06 0x07 [(1, i)] s2 else s2

/-- The region slot encrypts vault pages: the region's key mode is not PLAIN (R341, R428). -/
def encrypted (s : State) (r : Nat) : Bool := (region s r).entry.key ≠ .plain

/-- An ENCRYPT takes the slot's counter, or is refused at the guard or at the mark (R436, R451, R452). -/
def cipEncrypt (i : Nat) (cls : CipClass) (s : State) : CipResult × State :=
  let k := slotOf s i
  let u := unusedRsv k
  if k.st ≠ .on then (.keyAbsent, s)
  else if u = 0 ∨ k.counter = 2 ^ 64 - 1 then (.atMark, s)
  else if u ≤ 2 ^ 21 ∧ cls ≠ .save then
    (.atGuard, { s with cip := { s.cip with guardWaits := satAdd 16 s.cip.guardWaits 1 } })
  else (.done, refreshSlot i (modSlot i (fun k => { k with counter := k.counter + 1 }) s))

/-- A region's encryption of a page of a class: PLAIN regions take no counter. -/
def regionEncrypt (r : Nat) (cls : CipClass) (s : State) : CipResult × State :=
  if encrypted s r then cipEncrypt r cls s else (.done, s)

/-- A page's tag check fails: counted and logged with the VPA (R436). -/
def tagFailed (vpa : Nat) (s : State) : State :=
  raise 0x0B0A 0x07 [(4, vpa)] { s with cip := { s.cip with tagFails := satAdd 16 s.cip.tagFails 1 } }

/-! ### Cores -/

/-- A core is ACTIVE and idle. -/
def coreIdle (s : State) (c : Nat) : Bool := s.cip.coresOk.testBit c && (s.cip.cores.getD c none).isNone

/-- The core an operation takes: an idle core of the requesting quadrant, else the lowest idle core (R429). -/
def coreFor (s : State) (q : Nat) : Option Nat :=
  ([2 * q, 2 * q + 1] ++ List.range 8).find? (fun c => c < 8 && coreIdle s c)

/-- An operation is submitted: it takes a core, or waits in arrival order (R429). -/
def cipSubmit (o : CipOp) (s : State) : State :=
  match coreFor s o.quad with
  | some c => { s with cip := { s.cip with cores := s.cip.cores.set c (some o) } }
  | none => { s with cip := { s.cip with queue := s.cip.queue ++ [o] } }

/-- A core fails (R431): its operation is submitted again on another. -/
def coreFail (core : Nat) (s : State) : State :=
  if 8 ≤ core ∨ !s.cip.coresOk.testBit core then s
  else
    let s1 := raise 0x0B0E (quadUnit (core / 2) 3) [(1, core)]
      { s with cip := { s.cip with coresOk := clearBit s.cip.coresOk core, cores := s.cip.cores.set core none,
                                   coreFaults := satAdd 16 s.cip.coreFaults 1 } }
    match s.cip.cores.getD core none with
    | some o => cipSubmit o s1
    | none => s1

/-- Rank of a class (R429). -/
def cipRank : CipClass → Nat
  | .save => 0 | .twin => 1 | .service => 2

/-- A core that falls idle takes the waiting operation of the highest class, oldest first (R429). -/
def cipNext (c : Nat) (s : State) : State :=
  if !coreIdle s c then s
  else match (s.cip.queue.mergeSort (fun a b => cipRank a.cls ≤ cipRank b.cls)).head? with
    | none => s
    | some o => { s with cip := { s.cip with queue := s.cip.queue.erase o, cores := s.cip.cores.set c (some o) } }

/-- Some operation uses a slot. -/
def slotBusy (s : State) (i : Nat) : Bool :=
  s.cip.cores.any (fun o => match o with | some x => x.slot = i | none => false) || s.cip.queue.any (fun o => o.slot = i)

/-- A key or a root staged for a slot starts it: STARTING, with REKEY on a core (R438), where the key is to be derived after a DERIVE
(R428, R447). -/
def startRekey (i : Nat) (s : State) : State :=
  let kind : CipKind := match (slotOf s i).stage with
    | some (.derived _) => .derive
    | _ => .rekey
  cipSubmit ⟨kind, .service, i, 0, 0⟩ (setSlot i .starting s)

/-- A STOPPING slot that no operation uses is zeroized, and starts again when RE_ARM is set (R438). -/
def slotStopCheck (i : Nat) (s : State) : State :=
  if (slotOf s i).st = .stopping ∧ !slotBusy s i then
    if (slotOf s i).reArm then startRekey i (modSlot i (fun k => { k with reArm := false }) (zeroize i s))
    else setSlot i .off (modSlot i (fun k => { k with stage := none }) (zeroize i s))
  else s

/-- A granule operation (R428, R432). -/
def granuleOp (o : CipOp) : Bool := o.kind = .encrypt || o.kind = .decrypt

/-- The operation of a core ends: the pair's count of granule operations, the next operation, and a slot that waits to stop (R429, R438). -/
def cipFinish (c : Nat) (s : State) : State :=
  match s.cip.cores.getD c none with
  | none => s
  | some o =>
    let s1 := { s with cip := { s.cip with cores := s.cip.cores.set c none,
                                           ops := s.cip.ops.modify (c / 2) (fun n => wrapAdd 32 n (flag (granuleOp o))) } }
    slotStopCheck o.slot (cipNext c s1)

/-- The core that runs the first operation meeting a test. -/
def coreOf (s : State) (p : CipOp → Bool) : Option Nat :=
  (List.range 8).find? (fun c => match s.cip.cores.getD c none with | some o => p o | none => false)

/-- An operation on a granule ends or is dropped, wherever it stands. -/
def cipEndOp (kind : CipKind) (g : Nat) (s : State) : State :=
  match coreOf s (fun o => o.kind = kind && o.granule = g) with
  | some c => cipFinish c s
  | none => { s with cip := { s.cip with queue := s.cip.queue.filter (fun o => !(o.kind = kind && o.granule = g)) } }

/-! ### The Clasp -/

/-- The owner ID of a path (R440); 0 for the array window, which has none. -/
def ownerId : Path → Nat
  | .firmware => 1 | .bar0 => 2 | .smbus => 3 | .array => 0

/-- The path holds the Clasp. -/
def holdsClasp (s : State) (p : Path) : Bool := s.cip.owner ≠ 0 && s.cip.owner = ownerId p

/-- The code of a path in an event: its index among firmware, BAR0, SMBus or MCTP, array window. -/
def pathCode : Path → Nat
  | .firmware => 0 | .bar0 => 1 | .smbus => 2 | .array => 3

/-- The Clasp is released and the staging cleared (R442). -/
def claspRelease (s : State) : State :=
  if s.cip.owner = 0 then { s with cip := { s.cip with staging := [] } }
  else raise 0x0B04 0x07 [(1, s.cip.owner)] { s with cip := { s.cip with owner := 0, staging := [] } }

/-- A write refused for want of the Clasp (R441, R442). -/
def claspRefuse (p : Path) (s : State) : State :=
  raise 0x0B03 0x07 [(1, pathCode p)] { s with cip := { s.cip with refused := satAdd 8 s.cip.refused 1 } }

/-! ### Permissions -/

/-- `SEC_FLAGS` in force: bits 0 and 1 less the fuses of R512. -/
def secFlags (s : State) : Nat :=
  let f := s.img.active.security.secFlags
  let f1 := if (fuseBits s).testBit 1 then clearBit f 0 else f
  if (fuseBits s).testBit 0 then clearBit f1 1 else f1

/-- Tenant roots are permitted (R80). -/
def tenantRoots (s : State) : Bool := (secFlags s).testBit 2

/-- The slot of a root selector (R448). -/
def rootSlot (sel : Nat) : Nat := 256 + sel

/-- The key bytes a REKEY works from (R444, R447). -/
def stageKey (s : State) (i : Nat) : List Nat :=
  match (slotOf s i).stage with
  | none => []
  | some (.native b) => b
  | some (.derived sel) =>
    let k := (slotOf s (rootSlot sel)).key
    let label := if sel = 0 then leBytes 8 (bogRaw s 0) ++ List.replicate 24 0 else k.drop 32
    kdfDerive (k.take 32) label i

/-! ### Reservation entries -/

/-- The CIP asks the IFC for a reservation entry (R455, R457). -/
def nonceAsk (type slot root mark kcv : Nat) (s : State) : State :=
  let seq := s.cip.entrySeq + 1
  ifcAsk ⟨.cip, 0, .nonce ⟨type, slot, root, seq, mark, kcv⟩, 0⟩ { s with cip := { s.cip with entrySeq := seq } }

/-- A pending top-up or ARM entry waits in AOS (R455), or for the rest of its words. -/
def rsvPending (s : State) : Bool :=
  !s.aos.marks.isEmpty || s.aos.armPending || (!s.nrg.quagOk && s.ifc.waiting.any (fun o => match o.work with
    | .nonce _ => true
    | _ => false))

/-- A MARK entry of slot `i` is written now, or waits in AOS while `QUAG_OK` is 0 (R455). -/
def topUp (i : Nat) (s : State) : State :=
  if s.nrg.quagOk then nonceAsk 1 i 0 ((slotOf s i).mark + 2 ^ 22) 0 s
  else raise 0x0B07 0x07 [(1, 1), (1, i)] { s with aos := { s.aos with marks := sins i s.aos.marks } }

/-- An ARM entry is written now, or waits in AOS (R454, R456). -/
def askArm (s : State) : State :=
  if s.nrg.quagOk then nonceAsk 3 0 0 0 0 s
  else raise 0x0B07 0x07 [(1, 3), (1, 0)] { s with aos := { s.aos with armPending := true } }

/-- Every region slot's M raised by one block (R458). -/
def armAll (s : State) : State :=
  (List.range 256).foldl (fun t i => refreshSlot i (modSlot i (fun k => { k with mark := k.mark + 2 ^ 22 }) t)) s

/-- A compaction begins: the other half is erased sector by sector, then its snapshot is written (R459). -/
def compactStart (s : State) : State :=
  if s.cip.compactBusy then s
  else
    let first := 720 + 8 * (1 - s.cip.activeHalf)
    ifcAsk ⟨.cip, 0, .eraseSector first, 0⟩
      { s with cip := { s.cip with compactBusy := true, compactGo := false, compactSector := first } }

/-- The snapshot of the values in force (R457). -/
def snapshotNow (s : State) : NonceSnap :=
  let ids := List.range 256
  let tab (f : KSlot → Nat) : List (Nat × Nat) := (ids.map (fun i => (i, f (slotOf s i)))).filter (fun e => e.2 ≠ 0)
  ⟨s.cip.entrySeq + 1, tab KSlot.mark, tab KSlot.kcv, tab KSlot.root⟩

/-- Entries used in a half. -/
def usedEntries (s : State) : Nat := if s.cip.activeHalf = 0 then s.ifc.used0 else s.ifc.used1

/-- What an entry changes in the Locket once its `VALID` word has passed (R445, R455, R456). -/
def applyEntry (e : NonceRec) (s : State) : State :=
  let s1 :=
    if e.type = 1 then refreshSlot e.slot (modSlot e.slot (fun k => { k with mark := e.mark }) s)
    else if e.type = 2 then
      let s2 := modSlot e.slot (fun k => { k with kcv := e.kcv, root := e.root, binding := none }) s
      if (slotOf s e.slot).binding.isSome then setSlot e.slot .on s2 else s2
    else { armAll s with cip := { (armAll s).cip with armed := true } }
  raise 0x0B07 0x07 [(1, e.type), (1, e.slot)] s1

end Sys2Proof.Machine
end

