-- ==== Sys2Proof/Machine/Code.lean ====
section
/-!
DEFINITION. The 80/64 code and the DRAM as its readers see it (19): decoding a word from the errors on it, chip marks, lines
and granules of host-visible DRAM with their poison marks.
-/

namespace Sys2Proof.Machine

/-! ### The field and the decoder -/

/-- Multiplication by α = 2 in GF(2^8) with polynomial 0x11D (R592). -/
def gfTwice (a : Nat) : Nat := if a < 128 then 2 * a else (2 * a) ^^^ 0x11D

/-- Multiplication in the field. -/
def gfMul (a b : Nat) : Nat :=
  ((List.range 8).foldl (fun (t : Nat × Nat) i => (if b.testBit i then t.1 ^^^ t.2 else t.1, gfTwice t.2)) (0, a)).1

/-- α^k. -/
def gfPow (k : Nat) : Nat := (List.range k).foldl (fun a _ => gfTwice a) 1

/-- What a reader makes of a word (R593): good, corrected at a symbol, the poison mark, or uncorrectable. -/
inductive WordRead where
  | good
  | corrected (sym : Nat)
  | poison
  | uncorrectable
  deriving DecidableEq, Repr

/-- The syndromes of a word: exclusive or of its errors, and weighted by position; the poison mark adds 0x51 to S1
(R592, R594). -/
def syndromes (errs : List SymErr) (poisoned : Bool) : Nat × Nat :=
  (errs.foldl (fun a e => a ^^^ e.err) 0,
    errs.foldl (fun a e => a ^^^ gfMul e.err (gfPow e.sym)) (if poisoned then 0x51 else 0))

/-- Decoding without a mark (R593): the result and the errors that stay on the word handed on. -/
def decodePlain (errs : List SymErr) (poisoned : Bool) : WordRead × List SymErr :=
  let s := syndromes errs poisoned
  if s.1 = 0 ∧ s.2 = 0 then (.good, errs)
  else if s.1 = 0 ∧ s.2 = 0x51 then (.poison, errs)
  else if s.1 = 0 ∨ s.2 = 0 then (.uncorrectable, errs)
  else match (List.range 10).find? (fun j => gfMul s.1 (gfPow j) = s.2) with
    | some j => (.corrected j, errs ++ [⟨0, j, s.1⟩])
    | none => (.uncorrectable, errs)

/-- A check symbol's difference from the one recomputed of the data, for check symbol 8 or 9 (R598): c0 and c1 solve the
two syndrome equations, whose determinant is 0x27. -/
def checkDiff (errs : List SymErr) (poisoned : Bool) (check : Nat) : Nat :=
  let d := errs.filter (fun e => e.sym < 8)
  let x := d.foldl (fun a e => a ^^^ e.err) 0
  let y := d.foldl (fun a e => a ^^^ gfMul e.err (gfPow e.sym)) 0
  let other := if check = 8 then 9 else 8
  let num := y ^^^ gfMul x (gfPow other)
  let c := ((List.range 256).find? (fun v => gfMul v 0x27 = num)).getD 0
  let own := (errs.filter (fun e => e.sym = check)).foldl (fun a e => a ^^^ e.err) 0
  c ^^^ own ^^^ (if poisoned then 0xFF else 0)

/-- Decoding in a slot whose component `m` is marked (R598). -/
def decodeMarked (m : Nat) (errs : List SymErr) (poisoned : Bool) : WordRead × List SymErr :=
  if m < 8 then
    let s := syndromes errs poisoned
    let s1 := s.2 ^^^ gfMul s.1 (gfPow m)
    if s1 = 0 then (if s.1 = 0 then .good else .corrected m, errs ++ [⟨0, m, s.1⟩])
    else if s1 = 0x51 then (.poison, errs)
    else (.uncorrectable, errs)
  else
    let diff := checkDiff errs poisoned (if m = 8 then 9 else 8)
    if diff = 0 then (.good, errs) else if diff = 0xFF then (.poison, errs) else (.uncorrectable, errs)

/-- What the errors that stay on a word do to its 64 data bits. -/
def errBits (errs : List SymErr) : Nat :=
  (errs.filter (fun e => e.sym < 8)).foldl (fun a e => a ^^^ (e.err % 256 * 2 ^ (8 * e.sym))) 0

/-! ### Lines of DRAM -/

/-- A QDC. -/
def qdcOf (s : State) (q : Nat) : Qdc := s.qdc.getD q {}

/-- A QDC changed. -/
def modQdc (q : Nat) (f : Qdc → Qdc) (s : State) : State := { s with qdc := s.qdc.modify q f }

/-- A byte of the host-visible DRAM; an unlisted byte reads 0 (log 4). -/
def dramByte (s : State) (a : Nat) : BitVec 8 := tget 0 s.gst.dram a

/-- A byte stored. -/
def setByte (a : Nat) (b : BitVec 8) (s : State) : State := { s with gst := { s.gst with dram := tput 0 s.gst.dram a b } }

/-- The 64 bytes of a line as one number, byte 0 lowest. -/
def lineData (s : State) (line : Nat) : BitVec 512 :=
  BitVec.ofNat 512 (leValue ((List.range 64).map (fun b => (dramByte s (line * 64 + b)).toNat)))

/-- The bytes of a line that a mask enables are stored; a 64-bit word wholly written loses its poison mark (R603). -/
def storeLine (line : Nat) (data : BitVec 512) (mask : Nat) (s : State) : State :=
  let s1 := ((List.range 64).filter (fun b => mask.testBit b)).foldl
    (fun t b => setByte (line * 64 + b) (BitVec.ofNat 8 (data.toNat >>> (8 * b))) t) s
  let clean := (List.range 8).filter (fun w => (mask >>> (8 * w)) % 256 = 255)
  let poison := s1.gst.poison.filter (fun p => !(p / 8 = line && clean.contains (p % 8)))
  { s1 with gst := { s1.gst with poison := poison,
                                 deliberate := if poison.any (fun p => p / 8 = line) then s1.gst.deliberate
                                   else sdel s1.gst.deliberate line } }

/-- Every word of a line takes the poison mark; `deliberate` marks are left alone by line repair (R173, R605). -/
def poisonLine (line : Nat) (deliberate : Bool) (s : State) : State :=
  { s with gst := { s.gst with
      poison := (List.range 8).foldl (fun t w => sins (line * 8 + w) t) s.gst.poison
      deliberate := if deliberate then sins line s.gst.deliberate else s.gst.deliberate } }

/-- A line carries the poison mark in some word. -/
def linePoisoned (s : State) (line : Nat) : Bool := s.gst.poison.any (fun p => p / 8 = line)

/-- A granule's bytes and marks removed: zeros without a mark (R145, log 11). -/
def zeroGranule (g : Nat) (s : State) : State :=
  { s with gst := { s.gst with
      dram := s.gst.dram.filter (fun e => e.1 / 16384 ≠ g)
      poison := s.gst.poison.filter (fun p => p / 2048 ≠ g)
      deliberate := s.gst.deliberate.filter (fun l => l / 256 ≠ g) } }

/-- A poison-fill: the mark in every line of the granule (R173). -/
def poisonGranule (g : Nat) (s : State) : State :=
  (List.range 256).foldl (fun t l => poisonLine (g * 256 + l) true t) s

/-- The content of a granule (R250, R279). -/
def granuleData (s : State) (g : Nat) : GranuleData :=
  ⟨(s.gst.dram.filter (fun e => e.1 / 16384 = g)).map (fun e => (e.1 % 16384, e.2)),
    (s.gst.poison.filter (fun p => p / 2048 = g)).map (· % 2048)⟩

/-- A granule's content written into DRAM (R317, R318). -/
def loadGranule (g : Nat) (d : GranuleData) (s : State) : State :=
  let z := zeroGranule g s
  { z with gst := { z.gst with
      dram := d.cells.foldl (fun t e => tput 0 t (g * 16384 + e.1) e.2) z.gst.dram
      poison := d.poison.foldl (fun t p => sins (g * 2048 + p) t) z.gst.poison } }

/-- A line's place among the lines of its channel (R20). -/
def chLine (s : State) (line : Nat) : Nat := localOf s (granuleOf line) * 256 + line % 256

/-- The chip mark in force for a line's slot (R598). -/
def markOf (s : State) (q line : Nat) : Option Nat :=
  ((qdcOf s q).marks.find? (fun e => e.1 = Config.dramSlot (chLine s line) % 4)).map Prod.snd

/-- The result of reading a line: its data, whether it is poisoned, whether some word was uncorrectable, and the symbols
corrected. -/
structure LineRead where
  data : BitVec 512
  poisoned : Bool
  uncorrectable : Bool
  fixed : List Nat
  deriving DecidableEq, Repr

/-- A read of a line whose burst shows errors (R593, R598), with those planted in the stored word (R609). -/
def readLine (s : State) (line : Nat) (errs : List SymErr) : LineRead :=
  let q := quadOf s (granuleOf line)
  let mark := markOf s q line
  let all := errs ++ ((qdcOf s q).planted.filter (fun e => e.1 = line)).flatMap Prod.snd
  let word (w : Nat) : WordRead × List SymErr :=
    let e := all.filter (fun e => e.word = w && e.sym < 10 && e.err % 256 ≠ 0)
    let p := s.gst.poison.contains (line * 8 + w)
    match mark with
    | some m => decodeMarked m e p
    | none => decodePlain e p
  let rs := (List.range 8).map word
  let flips := ((List.range 8).map (fun w => errBits (rs.getD w (.good, [])).2 * 2 ^ (64 * w))).foldl (· + ·) 0
  let bad := rs.any (fun r => r.1 = .uncorrectable)
  ⟨lineData s line ^^^ BitVec.ofNat 512 flips, bad || rs.any (fun r => r.1 = .poison), bad,
    rs.filterMap (fun r => match r.1 with | .corrected j => some j | _ => none)⟩

end Sys2Proof.Machine
end

