-- ==== Sys2Proof/Machine/PageFormat.lean ====
section
/-!
DEFINITION. What stands on the media (10, 13): the scrambler, the page header, the encryption and the tag of a granule's page, and the
parity of a row.
-/

namespace Sys2Proof.Machine

/-! ### The scrambler (R332) -/

/-- The 23-bit register of x^23 + x^18 + 1 moves on by one bit. -/
def lfsrStep (x : Nat) : Nat := (2 * x) % 2 ^ 23 + flag (x.testBit 22 != x.testBit 17)

/-- `n` bytes of the sequence from a register value. Each bit is the register's highest, bit 0 of a byte first. DESIGN CHOICE (log 136). -/
def keystream : Nat → Nat → List Nat
  | 0, _ => []
  | n + 1, x =>
    let t := (List.range 8).foldl (fun (a : Nat × Nat) i => (a.1 + flag (a.2.testBit 22) * 2 ^ i, lfsrStep a.2)) (0, x)
    t.1 :: keystream n t.2

/-- The bytes of the page at VPA `v` scrambled, or descrambled: data area first, then the spare. -/
def scramble (v : Nat) (l : List Nat) : List Nat := xorBytes l (keystream l.length ((v % 2 ^ 23) ||| 1))

/-- A page whose raw read has `ones` bits at 1 reads as ERASED: at least 99.9 % of the bits of its data and spare. -/
def readsErased (s : State) (ones : Nat) : Bool := decide (8 * (16384 + (vaultRec s).pageSpare) * 999 ≤ ones * 1000)

/-! ### Data areas -/

/-- `n` bytes from place `i` on of a sparse table of bytes. -/
def denseBytes : Nat → Nat → List (Nat × BitVec 8) → List Nat
  | 0, _, _ => []
  | n + 1, i, [] => 0 :: denseBytes n (i + 1) []
  | n + 1, i, (k, b) :: r => if k = i then b.toNat :: denseBytes n (i + 1) r else 0 :: denseBytes n (i + 1) ((k, b) :: r)

/-- The lines of a granule that carry the poison mark in some word: the `POISON_MAP` of its page (R340, R436). -/
def poisonLines (d : GranuleData) : List Nat := (List.range 256).filter (fun l => d.poison.any (fun p => p / 8 = l))

/-- The plaintext of a page: a line with the poison mark stands as 64 zero bytes (R436; of a PLAIN region log 137). -/
def plainArea (d : GranuleData) : List Nat :=
  let bad := poisonLines d
  denseBytes 16384 0 (d.cells.filter (fun e => !(bad.contains (e.1 / 64))))

/-- The granule that a plaintext and a poison map stand for. -/
def granuleOfArea (l poison : List Nat) : GranuleData :=
  ⟨(l.zipIdx.filter (fun e => e.1 ≠ 0)).map (fun e => (e.2, BitVec.ofNat 8 e.1)),
    poison.flatMap (fun k => (List.range 8).map (fun w => 8 * k + w))⟩

/-! ### Encryption and tag (R433 to R436) -/

/-- K1, K2 and K3 of a region slot's 96 key bytes (R444). -/
def key1 (k : KSlot) : List Nat := k.key.take 32
def key2 (k : KSlot) : List Nat := (k.key.drop 32).take 32
def key3 (k : KSlot) : List Nat := k.key.drop 64

/-- A granule of region `r` made ready for the page at VPA `v`: under the region's keys with the counter taken, the plaintext where the
region is PLAIN (R433, R341). -/
def sealArea (s : State) (r counter v : Nat) (stale : Bool) (d : GranuleData) : Sealed :=
  let k := slotOf s r
  if encrypted s r then
    ⟨counter, stale, poisonLines d, xtsEncrypt (key1 k) (key2 k) v (plainArea d), some (k.hash, aesEncrypt (key3 k) (gmacJ0 r counter))⟩
  else ⟨0, stale, poisonLines d, plainArea d, none⟩

/-! ### Headers (R340) -/

/-- Header bytes 0x00 to 0x47. -/
def headFront (h : PageHead) : List Nat :=
  leBytes 2 0x5056 ++ [h.kind, flag h.enc + 2 * flag h.stale + 4 * flag (h.poison ≠ []) + 8 * flag h.dump, h.region, h.quad, h.col, h.width]
    ++ leBytes 4 h.index ++ leBytes 4 h.epoch ++ leBytes 8 h.seq ++ leBytes 8 h.counter ++ leBytes 4 h.draw ++ leBytes 4 h.used
    ++ leBytes 32 (maskOf h.poison)

/-- `TAG` of a page: GMAC over header and ciphertext where it is encrypted (R434), else CRC-32C over data area and header. -/
def pageTag (tagKey : Option (List Nat × List Nat)) (front area : List Nat) : List Nat :=
  match tagKey with
  | some (h, mask) => gmacTag h mask (front ++ area)
  | none => leBytes 4 (crc32c (area ++ front)) ++ List.replicate 12 0

/-- The 128 bytes of a header, with the governor's balance and debt in MiB where the kind carries them. -/
def headBytes (front tag : List Nat) (balance debt : Nat) : List Nat :=
  let b := front ++ tag ++ leBytes 8 balance ++ leBytes 8 debt ++ List.replicate 20 0
  b ++ leBytes 4 (crc32c b)

/-- The header of a page whose data area is not encrypted. -/
def plainHead (h : PageHead) (area : List Nat) : List Nat := headBytes (headFront h) (pageTag none (headFront h) area) 0 0

/-- The bytes of a page on the media: data area, header and header parity field, scrambled (R332, R339). -/
def mediaBytes (v : Nat) (area header parity : List Nat) : List Nat := scramble v (area ++ header ++ parity)

/-! ### Pages of granules -/

/-- The header of a granule's page at `v` (R340): of a row of `width` data slots, or in twin layout. -/
def granuleHead (s : State) (v g r seq width draw : Nat) (twin dump : Bool) (x : Sealed) : PageHead :=
  { kind := if twin then 2 else 1, enc := x.tagKey.isSome, stale := x.stale, dump := dump, poison := x.poison, region := r
    quad := quadOf s g, col := (vchOf s (vpaCh v)).column, width := if twin then 0 else width, index := localOf s g
    epoch := s.vlt.epoch, seq := seq, counter := x.counter, draw := draw, used := 0x4000 }

/-- The header bytes of a granule's page. -/
def granuleHeader (h : PageHead) (x : Sealed) : List Nat := headBytes (headFront h) (pageTag x.tagKey (headFront h) x.area) 0 0

/-- The page of a granule at VPA `v`. -/
def granulePage (v g : Nat) (twin : Bool) (h : PageHead) (x : Sealed) : Page :=
  ⟨g, h.region, h.seq, h.epoch, twin, h.dump, x.stale, x.tagKey.isSome, x.poison, x.counter,
    mediaBytes v x.area (granuleHeader h x) (List.replicate 128 0)⟩

/-- The data area of the page at `v`, and its header, as a read without errors gives them. -/
def pageArea (v : Nat) (p : Page) : List Nat := (scramble v p.media).take 16384
def pageHeader (v : Nat) (p : Page) : List Nat := ((scramble v p.media).drop 16384).take 128

/-- The granule that a data area read of a page holds, decrypted with the keys in its region's slot (R433). -/
def areaData (s : State) (v : Nat) (p : Page) (area : List Nat) : GranuleData :=
  let k := slotOf s p.region
  granuleOfArea (if p.enc then xtsDecrypt (key1 k) (key2 k) v area else area) p.poison

/-- The granule a page holds as it stands on the media. -/
def pageData (s : State) (v : Nat) (p : Page) : GranuleData := areaData s v p (pageArea v p)

/-- The tag of an encrypted page checks under the keys in its region's slot (R434). Of other pages the read's own result decides, their
CRC-32C standing on the media as it was written. -/
def tagMatches (s : State) (v : Nat) (p : Page) : Bool :=
  !p.enc ||
    (let k := slotOf s p.region
     let h := pageHeader v p
     (h.drop 0x48).take 16 == gmacTag k.hash (aesEncrypt (key3 k) (gmacJ0 p.region (leAt h 0x18 8))) (h.take 0x48 ++ pageArea v p))

/-! ### Parity (R342) -/

/-- A sum of pages gets one more: nothing stands for zeros. -/
def addBytes (acc l : List Nat) : List Nat := if acc = [] then l else xorBytes acc l

/-- A PAD page's data area. -/
def padArea : List Nat := List.replicate 16384 0

/-- The header of a PAD or PARITY page at `v`. Outside a dump its SEQ is 0. DESIGN CHOICE (log 138). -/
def rowHead (s : State) (kind v seq width draw : Nat) (dump : Bool) : PageHead :=
  { kind := kind, enc := false, stale := false, dump := dump, poison := [], region := 0, quad := vpaCh v / 4
    col := (vchOf s (vpaCh v)).column, width := width, index := 0, epoch := s.vlt.epoch, seq := seq, counter := 0, draw := draw
    used := 0x4000 }

/-- The parity page at `v` of a row is on the media: the sum of the row's data areas and of its headers. -/
def putParity (v seq width draw : Nat) (dump : Bool) (sum : List Nat) (s : State) : State :=
  let area := sum.take 16384
  { s with vlt := { s.vlt with
    other := tins v (mediaBytes v area (plainHead (rowHead s 3 v seq width draw dump) area) (sum.drop 16384)) s.vlt.other } }

end Sys2Proof.Machine
end

