-- ==== Sys2Proof/Machine/StructPages.lean ====
section
/-!
DEFINITION. The structure pages of the vault (10): what the manifest, the log, checkpoints and commit records hold byte for byte, the
MANIFEST segments and the META ring that take them; with the rebuild of a row's page.
-/

namespace Sys2Proof.Machine

/-! ### Twin layout (R338) -/

/-- The two pages the next twin page of segment `n` takes. -/
def twinPages (s : State) (n : Nat) : Option (Nat × Nat) :=
  let ps := twinPairs s (segDie n)
  let slot := (segOf s n).rows
  if ps = [] then none
  else
    let p := ps.getD (slot % ps.length) (0, 0)
    let i := slot / ps.length
    some (rowPage s n i p.1, rowPage s n i p.2)

/-- Pairs of pages a segment in twin layout holds. -/
def twinRoom (s : State) (n : Nat) : Nat := segRows s * (twinPairs s (segDie n)).length

/-- The first page of the pair at place `slot` of segment `n`. -/
def twinPlace (s : State) (n slot : Nat) : Nat :=
  let ps := twinPairs s (segDie n)
  rowPage s n (slot / ps.length) (ps.getD (slot % ps.length) (0, 0)).1

/-! ### Structure pages (R340, R341) -/

/-- Codes of segment kinds in table order (R356). -/
def kindCode : SegKind → Nat
  | .manifest => 0 | .metaRing => 1 | .peat => 2 | .dump => 3 | .twin => 4 | .free => 5 | .retired => 6

/-- A structure page: `KIND`, `INDEX`, `SEQ`, `QUAD` and payload, with the governor's accounts in MiB where the kind carries them. -/
structure StructPage where
  kind : Nat
  index : Nat
  seq : Nat
  quad : Nat
  payload : List Nat
  balance : Nat := 0
  debt : Nat := 0
  deriving DecidableEq, Repr

/-- Data area and header of a structure page at `v`, in a row of `width` data slots (0 in twin layout) drawn as `draw`; `dump` says that a
dump writes it. -/
def structArea (s : State) (p : StructPage) (v width draw : Nat) (dump : Bool) : List Nat :=
  let area := padTo 16384 p.payload
  let h := { rowHead s p.kind v p.seq width draw dump with quad := p.quad, index := p.index, used := p.payload.length }
  area ++ headBytes (headFront h) (pageTag none (headFront h) area) p.balance p.debt

/-- A page is on the media at `v`, by its data area and header; its header parity field is zero. -/
def putOther (v : Nat) (bytes : List Nat) (s : State) : State :=
  { s with vlt := { s.vlt with other := tins v (mediaBytes v bytes [] (List.replicate 128 0)) s.vlt.other } }

/-- The quadrant whose SDE writes the vault manager's structures: the lowest enabled one. DESIGN CHOICE (log 141). -/
def managerQuad (s : State) : Nat := ((quadList s).head?).getD 0

/-! ### The META ring (R337, R357, R359) -/

/-- Every page of a META segment is older than the start of the second-newest complete checkpoint (R359). -/
def metaOld (s : State) (n : Nat) : Bool :=
  s.vlt.other.all (fun e => vpaSeg e.1 ≠ n || decide (leAt (((scramble e.1 e.2).drop 16384).take 128) 0x10 8 < s.vlt.ckptOlder))

/-- Pages enter the META ring: what the present segment still takes, then the next segment of the ring, erased where its pages are old
enough. -/
def metaFill : Nat → List StructPage → State → State
  | 0, _, s => s
  | k + 1, ps, s =>
    match ps, s.vlt.metaRing[s.vlt.metaAt]? with
    | [], _ => s
    | _, none => s
    | _, some n =>
      let g := segOf s n
      let now := ps.take (twinRoom s n - g.rows)
      let pages := now.zipIdx.map (fun e =>
        let v := twinPlace s n (g.rows + e.2)
        (v, mediaBytes v (structArea s e.1 v 0 0xFFFFFFFF false) [] (List.replicate 128 0)))
      let t := setSeg n { g with rows := g.rows + now.length }
        { s with vlt := { s.vlt with other := pages.foldl (fun l e => tins e.1 e.2 l) s.vlt.other } }
      let i := (s.vlt.metaAt + 1) % s.vlt.metaRing.length
      match ps.drop now.length, s.vlt.metaRing[i]? with
      | [], _ => t
      | _, none => t
      | rest, some m =>
        if !metaOld t m then t
        else
          let x := segOf t m
          metaFill k rest (setSeg m { x with rows := 0, erases := if x.rows = 0 then x.erases else x.erases + 1 }
            { t with vlt := { t.vlt with metaAt := i, other := t.vlt.other.filter (fun e => vpaSeg e.1 ≠ m) } })

/-- Structure pages are written in the META ring. -/
def putMeta (ps : List StructPage) (s : State) : State := { s with vlt := (metaFill (s.vlt.metaRing.length + 1) ps s).vlt }

/-! ### Log pages (R356, R357) -/

/-- `REGION` of a granule in an entry: its region, or 0 where none is defined there. -/
def regionByte (s : State) (g : Nat) : Nat := (regionOf s g).getD 0

/-- The 16 bytes of a log entry (R356). -/
def logBytes (s : State) : LogWhat → List Nat
  | .program g v stale twin marks =>
    [1, flag stale + 2 * flag twin + 4 * flag marks, regionByte s g, quadOf s g] ++ fieldBytes [(4, localOf s g), (5, v), (3, 0)]
  | .release g n => [2, 0, regionByte s g, 0xFF] ++ fieldBytes [(4, g), (5, n), (3, 0)]
  | .lost g => [3, 0, regionByte s g, quadOf s g] ++ fieldBytes [(4, localOf s g), (5, 1), (3, 0)]
  | .boot n => [4, 0, 0, 0] ++ fieldBytes [(4, 0), (5, n), (3, 0)]
  | .unprotectStart l => [5, 0, 0, 0] ++ fieldBytes [(4, 0), (5, l.length), (3, 0)]
  | .protectEnd q => [6, 0, 0, 0] ++ fieldBytes [(4, 0), (5, q % 2 ^ 40), (3, 0)]
  | .segment n k e => [7, k, 0, 0] ++ fieldBytes [(4, n), (5, e), (3, 0)]
  | .retire v b => [8, 0, 0, 0] ++ fieldBytes [(4, b), (5, v), (3, 0)]
  | .fail c m => [9, 0, 0, 0] ++ fieldBytes [(4, c), (5, m), (3, 0)]
  | .checkpoint q => [0x0A, 0, 0, 0] ++ fieldBytes [(8, q), (4, 0)]
  | .append g => [0x0C, 0, regionByte s g, quadOf s g] ++ fieldBytes [(4, localOf s g), (5, 0), (3, 0)]

/-- Pending entries cut into LOG pages: at most 1,024 entries of consecutive sequences each (R356, R357). -/
def logRuns : List LogEntry → List (List LogEntry)
  | [] => []
  | e :: l =>
    match logRuns l with
    | (x :: r) :: t => if x.seq = e.seq + 1 ∧ r.length < 1023 then (e :: x :: r) :: t else [e] :: (x :: r) :: t
    | t => [e] :: t

/-- The LOG page of a run, the `i`-th of its writing. -/
def logPage (s : State) (i : Nat) (l : List LogEntry) : StructPage :=
  { kind := 0x0A, index := i, seq := ((l.head?).map LogEntry.seq).getD 0, quad := managerQuad s
    payload := l.flatMap (fun e => logBytes s e.what) }

/-! ### Lists (R361) -/

/-- Bytes 0x00 to 0x07 of a list entry, its state code `st` (R361). -/
def entryBytes (s : State) (st : Nat) (e : ListEntry) : List Nat :=
  leBytes 3 (localOf s e.granule) ++ [st + 8 * flag e.stale + 16 * flag e.adopted + 32 * flag e.merge, e.region]

/-- The whole entry of a LIST page. -/
def listBytes (s : State) (e : ListEntry) : List Nat := entryBytes s (gstateCode e.state) e ++ [e.prio, 0, 0]

/-- The payload of a LIST_HDR page: of quadrant `q`, with a trigger and a sequence. -/
def listHeader (q trigger seq lost : Nat) (l : List ListEntry) : List Nat :=
  leBytes 4 0x54534C44 ++ [q, trigger, 0, 0] ++ leBytes 8 seq ++ leBytes 4 l.length ++ leBytes 4 ((l.length + 2047) / 2048)
    ++ leBytes 4 lost ++ leBytes 4 0 ++ (List.range 256).flatMap (fun r => leBytes 4 ((l.filter (fun e => e.region = r)).length))

/-- The LIST_HDR and LIST pages of the unprotected list of a quadrant, with the sequence of its UNPROTECTED entry (R310, R356). -/
def unprotPages (s : State) (seq : Nat) (gs : List Nat) (q : Nat) : List StructPage :=
  let l : List ListEntry := (gs.filter (fun g => quadOf s g = q)).map (fun g =>
    let r := regionByte s g
    ⟨g, gstate s g, (gword s g).stale, (region s r).adopted, false, r, (region s r).entry.dumpPrio⟩)
  { kind := 5, index := 0, seq := seq, quad := q, payload := listHeader q 0 seq 0 l }
    :: (List.range ((l.length + 2047) / 2048)).map (fun i =>
      { kind := 6, index := i, seq := seq, quad := q, payload := ((l.drop (i * 2048)).take 2048).flatMap (listBytes s) })

/-! ### The manifest (R351, R352) -/

/-- The payload of the manifest page (R352). -/
def manifestBytes (ring : List Nat) (m : Manifest) : List Nat :=
  leBytes 4 0x4E414D56 ++ [1, 0, 0, 0] ++ leBytes 4 m.epoch ++ leBytes 2 m.failedCh ++ leBytes 2 ring.length ++ leBytes 8 m.mseq
    ++ digestBytes m.vlh ++ (List.range 16).map (fun c => m.failedDie.getD c 0)
    ++ (List.range 64).flatMap (fun i => leBytes 4 (ring.getD i 0xFFFFFFFF))
    ++ (List.range 256).flatMap (fun r => match m.regions.find? (fun e => e.1 = r) with
      | some (_, b, z, c) => leBytes 2 b ++ leBytes 2 z ++ [c, 0, 0, 0]
      | none => List.replicate 8 0)

/-- The MANIFEST segment that takes the next manifest page: when it is full, the other one, erased (R351). -/
def manifestRoom (s : State) : State :=
  let n := segNo 0 s.vlt.manifestAt
  if (segOf s n).rows < segRows s then s
  else
    let m := segNo 0 (1 - s.vlt.manifestAt)
    let x := segOf s m
    setSeg m { x with rows := 0, erases := if x.rows = 0 then x.erases else x.erases + 1 }
      { s with vlt := { s.vlt with manifestAt := 1 - s.vlt.manifestAt, other := s.vlt.other.filter (fun e => vpaSeg e.1 ≠ m) } }

/-- A manifest page is appended on every present channel (R351). -/
def manifestPut (m : Manifest) (s : State) : State :=
  let t := manifestRoom s
  let n := segNo 0 t.vlt.manifestAt
  let g := segOf t n
  let p : StructPage := { kind := 0x0C, index := 0, seq := m.mseq, quad := managerQuad t, payload := manifestBytes t.vlt.metaRing m }
  let pages := ((List.range 16).filter (fun c => dieOk t c 0)).map (fun c =>
    let v := rowPage t n g.rows c
    (v, mediaBytes v (structArea t p v 0 0xFFFFFFFF false) [] (List.replicate 128 0)))
  setSeg n { g with rows := g.rows + 1 } { t with vlt := { t.vlt with other := pages.foldl (fun l e => tins e.1 e.2 l) t.vlt.other } }

/-! ### Checkpoints (R355, R360) -/

/-- A map entry as a word (R355). -/
def mapWord (e : MapEntry) : Nat := e.vpa + e.ref * 2 ^ 34 + flag e.stale * 2 ^ 36 + flag e.lost * 2 ^ 37 + flag e.poisonLines * 2 ^ 38

/-- Pages of `n` 8-byte entries. -/
def entryPages (n : Nat) : Nat := (n + 2047) / 2048

/-- Local granules of a quadrant. -/
def localCount (s : State) : Nat := hdmGranules s / nQuads s

/-- The preamble of a checkpoint (R360). -/
def ckptPreamble (s : State) (c : Ckpt) : List Nat :=
  leBytes 4 0x54504B43 ++ leBytes 4 s.vlt.epoch ++ leBytes 8 c.seq ++ leBytes 4 (nQuads s * entryPages (localCount s))
    ++ leBytes 4 (entryPages ((vaultRec s).diesPerCh * segGroups s)) ++ leBytes 4 (entryPages s.vlt.retired.length)
    ++ leBytes 4 ((c.map.filter (fun e => e.2.ref ≠ 0)).length) ++ leBytes 4 ((c.map.filter (fun e => e.2.lost)).length)
    ++ leBytes 4 s.vlt.reserve.length ++ leBytes 4 c.dsc ++ leBytes 4 0 ++ leBytes 8 c.dscSeq ++ leBytes 8 c.writtenMib
    ++ leBytes 8 c.shadowedMib ++ (List.range 3980).flatMap (fun i => leBytes 4 (s.vlt.reserve.getD i 0))

/-- The payloads of a checkpoint's pages in order: preamble, map, segment table and replacements (R360). Segments stand in the order of their die position and block group. DESIGN CHOICE (log 141). -/
def ckptPayloads (s : State) (c : Ckpt) : List (List Nat) :=
  let groups := segGroups s
  let map := (quadList s).flatMap (fun q => (List.range (entryPages (localCount s))).map (fun p =>
    ((List.range 2048).map (fun i => p * 2048 + i)).flatMap (fun l =>
      if l < localCount s then leBytes 8 (mapWord (tget ⟨0, 0, false, false, false⟩ c.map (granuleAt s q l))) else [])))
  let segs := (List.range (entryPages ((vaultRec s).diesPerCh * groups))).map (fun p =>
    ((List.range 2048).map (fun i => p * 2048 + i)).flatMap (fun i =>
      if i < (vaultRec s).diesPerCh * groups then
        let n := segNo (i / groups) (i % groups)
        let g := tget freshSeg c.segs n
        leBytes 4 g.erases ++ [kindCode g.kind]
          ++ leBytes 3 ((c.map.filter (fun e => e.2.ref ≠ 0 && vpaSeg e.2.vpa = n)).length)
      else []))
  let repl := (List.range (entryPages s.vlt.retired.length)).map (fun p =>
    ((s.vlt.retired.drop (p * 2048)).take 2048).flatMap (fun e => leBytes 5 e.1 ++ leBytes 3 e.2))
  ckptPreamble s c :: map ++ segs ++ repl

/-- The CKPT pages of a checkpoint. -/
def ckptStruct (s : State) (c : Ckpt) : List StructPage :=
  (ckptPayloads s c).zipIdx.map (fun e =>
    { kind := 0x0B, index := e.2, seq := c.seq, quad := managerQuad s, payload := e.1
      balance := twos 64 (c.balance / 1048576), debt := c.debt / 1048576 })

/-! ### Commit records (R363, R364) -/

/-- The payload of a BODY page of quadrant `q` of dump `seq` (R363). -/
def bodyBytes (q seq : Nat) (b : BodyRec) : List Nat :=
  leBytes 4 0x54494D43 ++ [q, b.trigger, b.outcome, 0] ++ leBytes 8 seq ++ leBytes 4 b.listed ++ leBytes 4 b.written ++ leBytes 4 b.lost
    ++ leBytes 4 b.listDraw ++ leBytes 4 b.deltaDraw ++ leBytes 4 b.deltaPages ++ leBytes 4 b.dsc ++ leBytes 4 b.elapsedUs
    ++ leBytes 8 b.dscSeq ++ leBytes 8 b.tailSeq ++ leBytes 4 b.tailCount ++ leBytes 2 b.vCommit ++ leBytes 2 b.vBody
    ++ leBytes 4 b.eDrawn

/-- The payload of the MARK page of a body (R364). -/
def markBytes (q seq : Nat) (body : List Nat) : List Nat :=
  leBytes 4 0x4B52414D ++ [q, 0, 0, 0] ++ leBytes 8 seq ++ leBytes 4 (crc32c (padTo 16384 body))

/-! ### The rebuild of a page from its row (R343) -/

/-- What the other pages of the row of `v` that stand on the media bring in: data area and header, a parity page its header parity field. -/
def rowOthers (s : State) (v : Nat) : List (List Nat) :=
  let same (x : Nat) : Bool := x ≠ v && vpaSeg x = vpaSeg v && vpaRow s x = vpaRow s v
  ((s.vlt.pages.filter (fun e => same e.1)).map (fun e => pageArea e.1 e.2 ++ pageHeader e.1 e.2))
    ++ (s.vlt.other.filter (fun e => same e.1)).map (fun e =>
      let b := scramble e.1 e.2
      b.take 16384 ++ (if b.getD 16386 0 = 3 then (b.drop 16512).take 128 else (b.drop 16384).take 128))

/-- The data area and header of the page at `v`, rebuilt from its row. -/
def rebuiltPage (s : State) (v : Nat) : List Nat := (rowOthers s v).foldl addBytes []

/-- A data area and header pass their tag (R340, R434): GMAC under the keys in the region's slot, or CRC-32C. -/
def tagSound (s : State) (area h : List Nat) : Bool :=
  if (h.getD 3 0).testBit 0 then
    let r := h.getD 4 0
    let k := slotOf s r
    (h.drop 0x48).take 16 == gmacTag k.hash (aesEncrypt (key3 k) (gmacJ0 r (leAt h 0x18 8))) (h.take 0x48 ++ area)
  else leAt h 0x48 4 == crc32c (area ++ h.take 0x48)

/-- A rebuilt page's header passes `HCRC` and its data `TAG`. A twin page is read from its other copy (R325). -/
def rebuildPasses (s : State) (v : Nat) (p : Page) : Bool :=
  p.twin ||
    (let b := rebuiltPage s v
     let h := b.drop 16384
     leAt h 0x7C 4 == crc32c (h.take 0x7C) && tagSound s (b.take 16384) h)

/-- The data area that the read of a page gives: rebuilt from its row, or as it stands. -/
def readArea (s : State) (v : Nat) (p : Page) (rebuilt : Bool) : List Nat :=
  if rebuilt && !p.twin then (rebuiltPage s v).take 16384 else pageArea v p

/-- What was read passes its tag. -/
def readPasses (s : State) (v : Nat) (p : Page) (rebuilt : Bool) : Bool :=
  if rebuilt then rebuildPasses s v p else tagMatches s v p

/-! ### LDPC (R333) -/

/-- The rated capability of a codeword, in bits under hard decision: a sixteenth of the parity bits of its quarter of the spare. -/
def ldpcRated (s : State) : Nat := ((vaultRec s).pageSpare - 256) / 4 * 8 / 16

/-- The correction load of a read in 0.01 %, from the corrected bits of its codewords. -/
def correctionLoad (s : State) (bits : List Nat) : Nat := bits.foldl max 0 * 10000 / max 1 (ldpcRated s)

end Sys2Proof.Machine
end

