-- ==== Sys2Proof/Machine/TussockOps.lean ====
section
/-!
DEFINITION. Shared operations of the Tussock allocator (14): carving, pointers, the search for a free buffer, releases
and quarantine.
-/

namespace Sys2Proof.Machine

/-- Buffer size of pool `i` (R467). -/
def poolBuf (i : Nat) : Nat := 256 * 4 ^ i

/-- Buffers of pool `i` in a slice's carving. -/
def poolCount (c : Carving) (i : Nat) : Nat := c.count.getD i 0

/-- Slice offset at which pool `i` begins: the pools lie in descending order from 0 (R467). -/
def poolBase (c : Carving) (i : Nat) : Nat :=
  (([1, 2, 3].filter (fun j => i < j)).map (fun j => poolCount c j * poolBuf j)).foldl (· + ·) 0

/-- The carving of a slice. -/
def carvingOf (s : State) (q : Nat) : Carving := s.tsk.carvings.getD q {}

/-- The pool a pointer's buffer belongs to, when the pointer lies on a buffer of its slice (R468). -/
def ptrPool (s : State) (p : Nat) : Option Nat :=
  let c := carvingOf s (p / 2 ^ 22)
  let o := p % 2 ^ 22
  if 2 ^ 24 ≤ p then none
  else [0, 1, 2, 3].find? (fun i =>
    poolBase c i ≤ o && o < poolBase c i + poolCount c i * poolBuf i && (o - poolBase c i) % poolBuf i = 0)

/-- The descriptor of a fresh FREE buffer. -/
def freshDesc : Desc := ⟨0, 0, 0, 0⟩

/-- The descriptor of a buffer (R476). -/
def descOf (s : State) (p : Nat) : Desc := tget freshDesc s.tsk.descs p

/-- A descriptor written. -/
def setDesc (p : Nat) (d : Desc) (s : State) : State :=
  { s with tsk := { s.tsk with descs := tput freshDesc s.tsk.descs p d } }

/-- The buffers of pool `i` in slice `q`, by pointer. -/
def poolPtrs (s : State) (q i : Nat) : List Nat :=
  let c := carvingOf s q
  (List.range (poolCount c i)).map (fun k => q * 2 ^ 22 + poolBase c i + k * poolBuf i)

/-- The FREE buffers of pool `i` in slice `q`. -/
def freePtrs (s : State) (q i : Nat) : List Nat := (poolPtrs s q i).filter (fun p => (descOf s p).dstate = 0)

/-- Free buffers of pool `i` over all slices, reserve included (`FREE`). -/
def poolFree (s : State) (i : Nat) : Nat :=
  ([0, 1, 2, 3].map (fun q => (freePtrs s q i).length)).foldl (· + ·) 0

/-- Buffers of pool `i` that the carvings lay out over all slices. -/
def poolTotal (s : State) (i : Nat) : Nat :=
  ([0, 1, 2, 3].map (fun q => poolCount (carvingOf s q) i)).foldl (· + ·) 0

/-- Buffers of pool `i` in force over all slices (`COUNT`): those quarantined are lost from it (R482). DEDUCED (log 144). -/
def poolInForce (s : State) (i : Nat) : Nat :=
  ([0, 1, 2, 3].map (fun q => ((poolPtrs s q i).filter (fun p => (descOf s p).dstate ≠ 2)).length)).foldl (· + ·) 0

/-- The bound of `SAVE_RSV`: the lesser of 16 and an eighth of pool 3 (R472); 16 while nothing is carved. -/
def saveRsvMax (s : State) : Nat := if s.tsk.unit = .off then 16 else min 16 (poolTotal s 3 / 8)

/-- The buffers of pool `i` in slice `q` that a class may take (R472); a slice that is not ON grants nothing (R482). -/
def takePtrs (s : State) (cls : AllocClass) (q i : Nat) : List Nat :=
  if s.tsk.slices.getD q .off ≠ .on then []
  else
    let f := freePtrs s q i
    if i = 3 ∧ cls ≠ .dump ∧ cls ≠ .restore ∧ f.length ≤ s.tsk.saveRsv then [] else f

/-- A requester's home slice (R469). -/
def homeSlice (r : Nat) : Option Nat := if r < 4 then some r else if r < 8 then some (r - 4) else none

/-- The order in which a requester searches the slices (R470). -/
def sliceOrder (s : State) (r : AllocReq) (i : Nat) : List Nat :=
  match homeSlice r.requester with
  | some q => [q, (q + 1) % 4, (q + 2) % 4, (q + 3) % 4]
  | none => [0, 1, 2, 3].mergeSort (fun a b =>
      (takePtrs s r.cls b i).length ≤ (takePtrs s r.cls a i).length)

/-- A buffer of pool `i` for a request: the slice by R470; which of the slice's free buffers is open in the spec. -/
def findBuffer (s : State) (r : AllocReq) (i : Nat) : Option Nat :=
  match (sliceOrder s r i).find? (fun q => !(takePtrs s r.cls q i).isEmpty) with
  | none => none
  | some q =>
    let f := takePtrs s r.cls q i
    f[Config.observed s.free % f.length]?

/-- The code of a class in a descriptor (R476). -/
def classCode : AllocClass → Nat
  | .dump => 0 | .restore => 1 | .mirrorIn => 2 | .shadow => 3 | .cipher => 4 | .firmware => 5

/-- Rank in a same-cycle contest (R474): the codes are in rank order. -/
def allocRank (r : AllocReq) : Nat := classCode r.cls * 16 + r.requester

/-- The classes a requester may request (R469). -/
def mayRequest (r : AllocReq) : Bool :=
  match r.cls with
  | .dump => r.requester < 4 || r.requester = 9
  | .restore => r.requester < 4 || r.requester = 9
  | .shadow => r.requester < 4 || r.requester = 10
  | .cipher => 4 ≤ r.requester && r.requester < 8
  | .mirrorIn => r.requester = 8
  | .firmware => r.requester = 11

/-- SHADOW buffers a requester holds (R473). -/
def shadowHeld (s : State) (r : Nat) : Nat :=
  (s.tsk.descs.filter (fun e => e.2.cls = 3 && e.2.holders.testBit r)).length

/-- The smallest pool for a size (R470). -/
def poolFor (size : Nat) : Nat := if size ≤ 256 then 0 else if size ≤ 1024 then 1 else if size ≤ 4096 then 2 else 3

/-- A release or share is rejected with a cause (R479). -/
def tskReject (requester pointer cause : Nat) (s : State) : State :=
  let t := s.tsk
  let t1 := { t with cause := cause, requester := requester, pointer := pointer }
  let t2 := if cause = 1 then { t1 with nonHolder := satAdd 16 t.nonHolder 1 }
    else if cause = 2 then { t1 with countZero := satAdd 16 t.countZero 1 }
    else if cause = 3 then { t1 with badPointer := satAdd 16 t.badPointer 1 }
    else { t1 with badShare := satAdd 16 t.badShare 1 }
  raise 0x0C01 0x08 [(1, requester), (3, pointer), (1, cause)] (send (.rejected requester) { s with tsk := t2 })

/-- A POOL_EMPTY for a pool (R475): event 0x0C02, which the EVR folds into the repeat count of the first (R521). -/
def tskEmpty (r : AllocReq) (i : Nat) (s : State) : State :=
  send (.poolEmpty r.requester) (raise 0x0C02 0x08 [(1, i), (1, classCode r.cls)]
    { s with tsk := { s.tsk with emptyCnt := s.tsk.emptyCnt.modify i (fun n => satAdd 16 n 1) } })

/-- A grant: the descriptor shows one holder (R470, R476). -/
def tskGrant (r : AllocReq) (p : Nat) (s : State) : State :=
  send (.granted r.requester p) (useFree (setDesc p ⟨1, 1, classCode r.cls, 2 ^ r.requester⟩ s))

/-- The pools a request moves on to from pool `i` while each has `SPILL_UP` (R471), and the pool where it stops. Under a mixed carving
the bit is that of slice 0, which takes a new carving first (R482). DEDUCED (log 144). -/
def spillSearch (r : AllocReq) (first : Nat) : Nat → Nat → State → State
  | 0, i, s => tskEmpty r i s
  | n + 1, i, s =>
    match findBuffer s r i with
    | some p =>
      tskGrant r p (if i = first then s
        else { s with tsk := { s.tsk with spills := s.tsk.spills.modify first (fun k => satAdd 16 k 1) } })
    | none =>
      if i < 3 ∧ (carvingOf s 0).spill.getD i false then spillSearch r first n (i + 1) s else tskEmpty r i s

/-- A buffer becomes QUARANTINED (R480), with the descriptor given. -/
def quarantine (p : Nat) (d : Desc) (cause : Nat) (s : State) : State :=
  raise 0x0C05 0x08 [(3, p), (1, cause)]
    { setDesc p { d with dstate := 2 } s with
      tsk := { (setDesc p { d with dstate := 2 } s).tsk with quarantined := satAdd 8 s.tsk.quarantined 1 } }

/-- The allocator checks a descriptor it meets: a count that differs from its holders quarantines the buffer (R480). -/
def descCheck (p : Nat) (s : State) : State :=
  let d := descOf s p
  if d.dstate ≠ 2 ∧ d.refcnt ≠ popCount 16 d.holders then quarantine p d 1 s else s

/-- A valid release by a holder (R478): the last one frees the buffer; a quarantined buffer stays so. -/
def tskRelease (r p : Nat) (s : State) : State :=
  let d := descOf s p
  let left := d.refcnt - 1
  let d1 : Desc := { d with refcnt := left, holders := clearBit d.holders r,
                            dstate := if d.dstate = 2 then 2 else if left = 0 then 0 else 1 }
  setDesc p d1 s

/-- Every reference of a requester released, as at a firmware restart (R481). -/
def tskReleaseAll (r : Nat) (s : State) : State :=
  (s.tsk.descs.filter (fun e => e.2.holders.testBit r)).foldl (fun t e => tskRelease r e.1 t) s

/-- The default carving of R75 and R467: a quarter of each pool's count. -/
def carvingFrom (p : List PoolEntry) : Carving := ⟨p.map (fun e => e.count / 4), p.map PoolEntry.spillUp⟩

/-- The carving at step 11 of R85: every slice takes it and the allocator is ON (R481). -/
def tskCarve (c : Carving) (s : State) : State :=
  let s1 := { s with tsk := { s.tsk with unit := .on, slices := [.on, .on, .on, .on], carvings := [c, c, c, c],
                                         recarved := 15, descs := [], next := none } }
  { s1 with tsk := { s1.tsk with saveRsv := min s1.tsk.saveRsv (saveRsvMax s1) } }

end Sys2Proof.Machine
end

