-- ==== Sys2Proof/Machine/VaultOps.lean ====
section
/-!
DEFINITION. The vault manager (10, 07): the map log, the manifest, checkpoints and the dump reserve; where pages are placed;
what the end of a program does to the map; failed dies, channels and blocks.
-/

namespace Sys2Proof.Machine

/-! ### Map -/

/-- No copy and not LOST. -/
def freshMap : MapEntry := ⟨0, 0, false, false, false⟩

/-- A granule's map entry (R355). -/
def mapOf (s : State) (g : Nat) : MapEntry := tget freshMap s.vlt.map g

/-- A map entry written. -/
def setMap (g : Nat) (e : MapEntry) (s : State) : State :=
  { s with vlt := { s.vlt with map := tput freshMap s.vlt.map g e } }

/-- The page at an address. -/
def pageAt (s : State) (v : Nat) : Option Page := (s.vlt.pages.find? (fun e => e.1 = v)).map Prod.snd

/-- A page written at an address. -/
def putPage (v : Nat) (p : Page) (s : State) : State := { s with vlt := { s.vlt with pages := tins v p s.vlt.pages } }

/-- The granules whose referenced copy lies in segment `n`, ascending. -/
def liveIn (s : State) (n : Nat) : List Nat :=
  (s.vlt.map.filter (fun e => e.2.ref ≠ 0 && vpaSeg e.2.vpa = n)).map Prod.fst

/-! ### Map log (R350, R356, R357) -/

/-- The next vault sequence is taken. -/
def takeSeq (s : State) : Nat × State := (s.vlt.seq, { s with vlt := { s.vlt with seq := s.vlt.seq + 1 } })

/-- A checkpoint starts once the log since the newest complete one reaches 8,388,608 entries (R359). -/
def ckptStart (s : State) : State :=
  if s.vlt.ckptRunning.isSome ∨ s.vlt.log.length < 8388608 then s
  else
    let (q, t) := takeSeq s
    { t with vlt := { t.vlt with ckptRunning := some q } }

/-- The pending entries are written as LOG pages in the META ring, two copies each of 16 KiB (R357, R258). -/
def flushLog (s : State) : State :=
  if s.vlt.pendLog = [] then s
  else
    let pages := (logRuns s.vlt.pendLog).zipIdx.map (fun e => logPage s e.2 e.1)
    let t := putMeta pages { s with vlt := { s.vlt with log := s.vlt.log ++ s.vlt.pendLog, pendLog := [] } }
    ckptStart (if s.spn.mode = .dump then t else drawTokens (2 * 16384 * pages.length) t)

/-- Entries that make a LOG page at once (R357). -/
def urgent : LogWhat → Bool
  | .boot _ => true
  | .lost _ => true
  | .unprotectStart _ => true
  | .protectEnd _ => true
  | _ => false

/-- An entry is appended with the next sequence. -/
def appendLog (w : LogWhat) (s : State) : State :=
  let (q, t) := takeSeq s
  let t1 := { t with vlt := { t.vlt with pendLog := t.vlt.pendLog ++ [⟨q, w⟩] } }
  if urgent w ∨ 1024 ≤ t1.vlt.pendLog.length then flushLog t1 else t1

/-- Before the first vault program or erase of a power-on: the BOOT entry, whose sequence lies 1,048,576 above every one read,
then the LOST entries of R312 and the releases of R400; event 0x070C (R304, R350). -/
def beforeVault (s : State) : State :=
  if s.vlt.bootEntry then s
  else
    let n := s.vlt.lostWait.length
    let s1 := appendLog (.boot s.evr.powerCycles)
      { s with vlt := { s.vlt with bootEntry := true, seq := max s.vlt.seq (s.vlt.highSeq + 1048576) } }
    let s2 := s1.vlt.lostWait.foldl (fun t g => appendLog (.lost g) t) s1
    let s3 := s2.vlt.relWait.foldl (fun t g => appendLog (.release g 1) t) s2
    raise 0x070C 0x0E [(4, n)] { s3 with vlt := { s3.vlt with lostWait := [], relWait := [] } }

/-- The manifest is written on every present channel, event 0x080B with a cause: 0 format, 1 die or channel failure, 2 region
change (R351 to R353). -/
def manifestWrite (cause : Nat) (s : State) : State :=
  let s0 := beforeVault s
  let (q, t) := takeSeq s0
  let m : Manifest := {
    epoch := t.vlt.epoch
    failedCh := maskOf ((List.range 16).filter (fun c => (vchOf t c).state = 3))
    mseq := q
    vlh := t.img.vlh
    failedDie := (List.range 16).map (fun c => (vchOf t c).dieFailed)
    regions := ((List.range 256).filter (defined t)).map (fun r =>
      let e := (region t r).entry
      (r, e.base, e.size, flag e.sequential + 8 * (match e.key with | .native => 0 | .derived => 1 | .plain => 2)
        + 32 * flag e.sideB)) }
  let n := ((List.range 16).filter (fun c => populated t c && (vchOf t c).state ≠ 3)).length
  let t1 := manifestPut m { t with vlt := { t.vlt with manifest := some m, blank := false } }
  raise 0x080B 0x0D [(8, q), (1, cause)] (if t1.spn.mode = .dump then t1 else drawTokens (n * 16384) t1)

/-! ### Garbage-collection state (R265) -/

/-- The collection state follows F; captures pause while F is 0. -/
def refreshGc (s : State) : State :=
  let f := freeRows s
  let new : GcState :=
    if f < 2 * segRows s then .critical
    else if f * 100 < s.shd.gcLow * allRows s then .background
    else .idle
  let pause := decide (f = 0)
  let s1 := { s with shd := { s.shd with gc := new, spacePause := pause } }
  let s2 := if (new = .critical) = (s.shd.gc = .critical) then s1 else raise 0x0509 0x0D [(4, f)] s1
  if pause = s.shd.spacePause then s2 else raise 0x050B 0x0D [(1, flag pause)] s2

/-! ### Segments -/

/-- The FREE segment of die position `d` with the lowest erase count (R267). -/
def freeSegAt (s : State) (d : Nat) : Option Nat :=
  match (List.range (segGroups s)).find? (fun k => !(s.vlt.segs.any (fun e => e.1 = segNo d k))) with
  | some k => some (segNo d k)
  | none =>
    (((s.vlt.segs.filter (fun e => e.2.kind = .free && segDie e.1 = d)).mergeSort
      (fun a b => a.2.erases ≤ b.2.erases)).head?).map Prod.fst

/-- The free segment of lowest erase count over the die positions, the next position first among equals (R267). -/
def freeSegLow (s : State) : Option Nat :=
  let dies := (vaultRec s).diesPerCh
  ((((List.range dies).map (fun o => (s.shd.nextDie + o) % dies)).filterMap (freeSegAt s)).mergeSort
    (fun a b => (segOf s a).erases ≤ (segOf s b).erases)).head?

/-- A free segment takes a kind, with its SEGMENT entry. -/
def assignSeg (n : Nat) (k : SegKind) (s : State) : State :=
  let g := segOf s n
  appendLog (.segment n (kindCode k) g.erases)
    (setSeg n { g with kind := k, rows := 0, order := s.vlt.segOrder }
      { s with vlt := { s.vlt with segOrder := s.vlt.segOrder + 1 } })

/-- Rows the dump reserve must hold (R365). -/
def reserveRows (s : State) : Nat :=
  let cap := param s 10
  let n := nQuads s
  let w := stripe s - 2
  let l := (cap * 8 + 16383) / 16384 + n
  let m := (cap * 16 + 16383) / 16384
  let p := l + cap + m
  let pd := diesInService s
  let up (a b : Nat) : Nat := (a + b - 1) / b
  up l w + up cap w + up m w + 3 * n + up (2 * up p pd) w + 64

/-- Erased rows in the reserve's DUMP segments. -/
def reserveHeld (s : State) : Nat :=
  ((s.vlt.reserve.filter (fun n => (segOf s n).kind = .dump)).map (fun n => segRows s - (segOf s n).rows)).foldl (· + ·) 0

/-- The reserve's TWIN segment is there. -/
def reserveTwin (s : State) : Option Nat := s.vlt.reserve.find? (fun n => (segOf s n).kind = .twin)

/-- The reserve is replenished as far as free segments go, die position after die position (R365, R366). -/
def fillReserve : Nat → State → State
  | 0, s => s
  | k + 1, s =>
    let dies := (vaultRec s).diesPerCh
    let at_ := (((List.range dies).map (fun o => (s.vlt.reserve.length + o) % dies)).filterMap (freeSegAt s)).head?
    match at_ with
    | none => s
    | some n =>
      if (reserveTwin s).isNone then
        let t := assignSeg n .twin s
        fillReserve k { t with vlt := { t.vlt with reserve := t.vlt.reserve ++ [n] } }
      else if reserveHeld s < reserveRows s then
        let t := assignSeg n .dump s
        fillReserve k { t with vlt := { t.vlt with reserve := t.vlt.reserve ++ [n] } }
      else s

/-- The reserve brought up to its size (at most 3,980 segments, R360). -/
def refillReserve (s : State) : State := refreshGc (fillReserve (3980 - s.vlt.reserve.length) s)

/-! ### Rows (R252) -/

/-- The open row at die position `d`. -/
def openRow (s : State) (d : Nat) : Option Row := s.shd.rows.find? (fun r => r.die = d && !r.closed)

/-- A PEAT segment of die position `d` with rows left, the newest. -/
def peatSeg (s : State) (d : Nat) : Option Nat :=
  (((s.vlt.segs.filter (fun e => e.2.kind = .peat && segDie e.1 = d && e.2.rows < segRows s
      && !(s.vlt.relocate.contains e.1) && !(s.vlt.erasing.contains e.1))).mergeSort
    (fun a b => b.2.order ≤ a.2.order)).head?).map Prod.fst

/-- A row is open at die position `d` where space allows: the next row of the PEAT segment, or of a free segment taken. -/
def ensureRow (d : Nat) (s : State) : State :=
  if (openRow s d).isSome then s
  else
    let s1 := match peatSeg s d with
      | some _ => s
      | none => match freeSegAt s d with
        | some n => assignSeg n .peat s
        | none => s
    match peatSeg s1 d with
    | none => s1
    | some n =>
      let g := segOf s1 n
      let t := setSeg n { g with rows := g.rows + 1 } s1
      { t with shd := { t.shd with rows := t.shd.rows ++ [⟨d, n, g.rows, parityCol s1 n g.rows, [], none, false⟩] } }

/-- The data columns of a row still free. -/
def freeCols (s : State) (r : Row) : List Nat :=
  (dataCols s r.seg r.parity).filter (fun j => !(r.cols.any (fun c => c.col = j)))

/-- The column a page of quadrant `q` takes: on a channel of its own quadrant where one is free; among several, the device
chooses freely (R252). -/
def pickCol (s : State) (r : Row) (q : Nat) : Nat :=
  let f := freeCols s r
  let own := f.filter (fun j => colChannel s j / 4 = q)
  let l := if own = [] then f else own
  l.getD (Config.observed s.free % l.length) 0

/-- Open rows whose last free columns have become absent close (R252, R347). -/
def closeFull (s : State) : State := closeRows (fun r => !r.closed && (freeCols s r).isEmpty) s

/-! ### Staging buffers (R250, R255, R469, R470, R473) -/

/-- An SDE asks the allocator for a 16 KiB buffer of the SHADOW class; none where it holds 64 or no pool has one, with POOL_EMPTY. -/
def stageTake (q : Nat) (s : State) : Option (Nat × Nat) × State :=
  let r : AllocReq := ⟨q, .shadow, 16384⟩
  if s.tsk.unit = .off then (none, s)
  else if 64 ≤ shadowHeld s q then (none, tskEmpty r 3 s)
  else match findBuffer s r 3 with
    | some p => (some (q, p), tskGrant r p s)
    | none => (none, tskEmpty r 3 s)

/-- A staging buffer is given back, once its page's programs have ended. DESIGN CHOICE (log 131). -/
def stageGive (buf : Option (Nat × Nat)) (s : State) : State :=
  match buf with
  | some (q, p) => if (descOf s p).holders.testBit q then tskRelease q p s else s
  | none => s

/-- A page is placed in a data column of the open row of the next die position; the row closes when it is full. The page's
program starts and draws tokens; `w` gives what is programmed at the VPA the page gets. -/
def placePage (q : Nat) (w : Nat → ColWhat) (buf : Option (Nat × Nat)) (s : State) : State :=
  let s0 := closeFull (beforeVault s)
  let dies := (vaultRec s0).diesPerCh
  let order := (List.range dies).map (fun o => (s0.shd.nextDie + o) % dies)
  match order.find? (fun d => (openRow (ensureRow d s0) d).isSome) with
  | none => s0
  | some d =>
    let s1 := ensureRow d s0
    match openRow s1 d with
    | none => s1
    | some r =>
      let j := pickCol s1 r q
      let r2 := { r with cols := r.cols ++ [⟨j, w (rowPage s1 r.seg r.row (colChannel s1 j)), none, buf⟩] }
      let s2 := drawTokens 16384 (useFree
        { s1 with shd := { s1.shd with nextDie := (d + 1) % dies,
                                       rows := s1.shd.rows.map (fun x => if x = r then r2 else x) } })
      refreshGc (if freeCols s2 r2 = [] then closeRows (fun x => x = r2) s2 else s2)

/-- Space for a page: rows are left outside the reserve, or an open row has a free column. -/
def hasSpace (s : State) : Bool :=
  0 < freeRows s || s.shd.rows.any (fun r => !r.closed && !(freeCols s r).isEmpty)

/-- Captures are not paused: erased rows are left outside the reserve (R265). -/
def captureSpace (s : State) : Bool := decide (0 < freeRows s)

/-! ### Running programs (R175) -/

/-- The granule a column's program is of. -/
def colGranule : ColWhat → Option Nat
  | .granule g _ _ _ => some g
  | .moved g _ _ _ => some g
  | .dropped g _ _ => some g
  | .pad => none

/-- A column whose program's result is discarded (R172, R183). -/
def discarded : ColWhat → ColWhat
  | .granule g r _ x => .dropped g r x
  | .moved g r _ x => .dropped g r x
  | w => w

/-- A row is done: every column and the parity page have ended. -/
def rowDone (r : Row) : Bool := r.closed && r.cols.all (fun c => c.passed.isSome) && r.parityPassed.isSome

/-- A column's program runs: its own page has not ended, or it has passed and its row's parity page has not ended (R251). -/
def colRuns (r : Row) (c : Col) : Bool := c.passed.isNone || (c.passed = some true && r.parityPassed.isNone)

/-- A program of granule `g` runs. -/
def programRuns (s : State) (g : Nat) : Bool :=
  s.shd.twins.any (fun t => t.granule = g) || s.shd.rows.any (fun r => r.cols.any (fun c => colGranule c.what = some g && colRuns r c))

/-! ### What the end of a program does -/

/-- The data slots of a row of segment `n` whose parity column is `p`: `WIDTH` (R340). -/
def rowWidth (s : State) (n p : Nat) : Nat := (dataCols s n p).length

/-- A copy of granule `g` at `vpa` becomes the referenced one, with its PROGRAM entry; the page bears that entry's sequence
(R350, R355), which the model knows once the page has passed. DESIGN CHOICE (log 138). -/
def recordCopy (g r vpa width : Nat) (twin : Bool) (x : Sealed) (s : State) : State :=
  let marks := !x.poison.isEmpty
  let h := granuleHead s vpa g r s.vlt.seq width 0xFFFFFFFF twin false x
  setMap g ⟨if twin then 2 else 1, vpa, x.stale, marks, false⟩
    (putPage vpa (granulePage vpa g twin h x) (appendLog (.program g vpa x.stale twin marks) s))

/-- What the page of a column brings into its row's parity: its data area, then its header. A page that no map names bears no sequence. -/
def colBytes (s : State) (r : Row) (c : Col) : List Nat :=
  let v := rowPage s r.seg r.row (colChannel s c.col)
  let width := rowWidth s r.seg r.parity
  let seal_ (g n : Nat) (x : Sealed) : List Nat :=
    x.area ++ (match s.vlt.pages.find? (fun e => e.1 = v) with
      | some e => pageHeader v e.2
      | none => granuleHeader (granuleHead s v g n 0 width 0xFFFFFFFF false false x) x)
  match c.what with
  | .granule g n _ x => seal_ g n x
  | .moved g n _ x => seal_ g n x
  | .dropped g n x => seal_ g n x
  | .pad => padArea ++ plainHead (rowHead s 4 v 0 width 0xFFFFFFFF false) padArea

/-- What a row whose programs have all ended leaves on the media beside the copies that the map has named: pad pages, pages whose copy was
discarded, and the parity page, as far as they passed (R342, R343). -/
def rowParity (r : Row) (s0 : State) : State :=
  let s := (r.cols.filter (fun c => c.passed = some true)).foldl (fun (t : State) c =>
    let v := rowPage t r.seg r.row (colChannel t c.col)
    if t.vlt.pages.any (fun e => e.1 = v) then t else putOther v (colBytes s0 r c) t) s0
  if r.parityPassed = some true then
    putParity (rowPage s r.seg r.row (colChannel s r.parity)) 0 (rowWidth s r.seg r.parity) 0xFFFFFFFF false
      (r.cols.foldl (fun a c => addBytes a (colBytes s r c)) []) s
  else s

/-- A write admitted to granule `g` has not reached DRAM yet: it belongs to the granule's next program (R175). -/
def lineComing (s : State) (g : Nat) : Bool :=
  s.hlk.writes.any (fun w => granuleOf w.line = g && w.hold = .none && !w.inDram && !w.released)

/-- A program of a granule passed (R172, R251): INFLIGHT becomes SHADOWED and gives up its reservation, REDIRTY stays and joins
the ring again; a MIRRORED granule's notice goes to the partner. A granule with a line still on its way to DRAM, which the copy lacks,
is REDIRTY (R135, R175). -/
def granulePassed (g r mseq : Nat) (s : State) : State :=
  let s1 := { s with shd := { s.shd with shadowed := s.shd.shadowed + 16384,
                                         recentShadowed := s.shd.recentShadowed + 16384 },
                     gst := { s.gst with rebuilt := sdel s.gst.rebuilt g } }
  if gstate s1 g = .inflight && lineComing s1 g then joinRing g (setGState g .redirty s1)
  else if gstate s1 g = .inflight then
    sendNotice r (.shadowNotice g mseq) (refreshShadowPtr r (dropRsv g (setGState g .shadowed s1)))
  else if gstate s1 g = .redirty then joinRing g s1
  else s1

/-- A program of a granule failed (R172): INFLIGHT becomes DIRTY; the granule joins the ring again. -/
def granuleFailed (g : Nat) (s : State) : State :=
  if gstate s g = .inflight then joinRing g (setGState g .dirty s)
  else if gstate s g = .redirty then joinRing g s
  else s

/-! ### Blocks, dies and channels that fail (R344, R345, R347) -/

/-- The next block of a plane's replacement pool (R346). -/
def nextPool (s : State) (v : Nat) : Option Nat :=
  let same (x : Nat) : Bool := vpaCh x = vpaCh v && vpaDie x = vpaDie v && vpaPlane x = vpaPlane v
  ((List.range (poolSize s)).map (fun o => segGroups s + o)).find? (fun b =>
    !(s.vlt.factoryBad.any (fun x => same x && vpaBlock x = b))
      && !(s.vlt.retired.any (fun e => same e.1 && (e.2 = b || vpaBlock e.1 = b))))

/-- Segments with a live page on die `d` of channel `c`, or on any of its dies, oldest first (R345). -/
def lostSegs (s : State) (c : Nat) (d : Option Nat) : List Nat :=
  let touches (n : Nat) : Bool := (d.isNone || d = some (segDie n)) && (liveIn s n).any (fun g =>
    let e := mapOf s g
    vpaCh e.vpa = c || (e.ref = 2 && partnerCh s (vpaDie e.vpa) (vpaCh e.vpa) = c))
  ((s.vlt.segs.filter (fun e => (e.2.kind = .peat || e.2.kind = .dump || e.2.kind = .twin) && touches e.1)).mergeSort
    (fun a b => a.2.order ≤ b.2.order)).map Prod.fst

/-- The redundancy rebuild begins: the segments are called for collection at CRITICAL priority, event 0x0809 (R345). -/
def startRebuild (c : Nat) (d : Option Nat) (s : State) : State :=
  let l := (lostSegs s c d).filter (fun n => !(s.vlt.relocate.contains n))
  if l = [] then s
  else raise 0x0809 0x0D [(1, (vchOf s c).column), (4, l.length)]
    { s with vlt := { s.vlt with relocate := s.vlt.relocate ++ l, rebuildCol := (vchOf s c).column,
                                 rebuildSegs := s.vlt.rebuildSegs ++ l } }

/-- A channel becomes FAILED: event 0x0803, its role, FAIL entry and manifest (R344, R32). -/
def channelFailed (c : Nat) (s : State) : State :=
  if (vchOf s c).state = 3 then s
  else
    let lost := lostSegs s c none
    let s1 := setUnitState (quadUnit (c / 4) (4 + c % 4)) .failed
      (raise 0x0803 (quadUnit (c / 4) (4 + c % 4)) [(1, c)] (modVch c (fun v => { v with state := 3 }) s))
    if !s.vlt.mapValid then s1
    else
      let s2 := manifestWrite 1 (appendLog (.fail c 0xFF) (beforeVault s1))
      if lost = [] then s2
      else
        let l := lost.filter (fun n => !(s2.vlt.relocate.contains n))
        raise 0x0809 0x0D [(1, (vchOf s c).column), (4, lost.length)]
          { s2 with vlt := { s2.vlt with relocate := s2.vlt.relocate ++ l, rebuildCol := (vchOf s c).column,
                                         rebuildSegs := s2.vlt.rebuildSegs ++ l } }

/-- A die becomes FAILED, cause 1 initialization, 2 timeouts, 3 no replacement blocks; with its last die the channel fails
(R344). -/
def dieFailed (c d cause : Nat) (s : State) : State :=
  if (vchOf s c).dieFailed.testBit d then s
  else
    let s1 := raise 0x0802 (quadUnit (c / 4) (4 + c % 4)) [(1, c), (1, d), (1, cause)]
      (modVch c (fun v => { v with dieFailed := setBit v.dieFailed d }) s)
    if (List.range (vaultRec s).diesPerCh).all (fun x => (vchOf s1 c).dieFailed.testBit x) then channelFailed c s1
    else if !s.vlt.mapValid then s1
    else startRebuild c (some d) (manifestWrite 1 (appendLog (.fail c (2 ^ d)) (beforeVault s1)))

/-- The block that serves in place of the block at `v`, by VPA of page 0: retired blocks are followed to their replacements (R347). -/
def servingBlock (s : State) : Nat → Nat → Nat
  | 0, v => v
  | k + 1, v =>
    match s.vlt.retired.find? (fun e => e.1 = v) with
    | some (_, b) => if b = 0xFFFFFFFF then v else servingBlock s k (vpaOf (vpaCh v) (vpaDie v) (vpaPlane v) b 0)
    | none => v

/-- A block of segment `n` on the channel of `v` has no replacement left (R336). -/
def blockMissing (s : State) (v : Nat) : Bool :=
  (List.range (vaultRec s).planes).any (fun p =>
    let b := servingBlock s s.vlt.retired.length (vpaOf (vpaCh v) (vpaDie v) p (vpaBlock v) 0)
    s.vlt.retired.any (fun e => e.1 = b && e.2 = 0xFFFFFFFF))

/-- The block that serves at `v` is retired and replaced from its plane's pool; without one its column stays absent (event 0x080D), and a
die with every pool empty fails (R344, R347). -/
def retireBlock (v : Nat) (s : State) : State :=
  let repl := nextPool s v
  let n := vpaSeg v
  let j := (vchOf s (vpaCh v)).column
  let b := servingBlock s s.vlt.retired.length v
  let s1 := appendLog (.retire b (repl.getD 0xFFFFFFFF))
    { s with vlt := { s.vlt with retired := tins b (repl.getD 0xFFFFFFFF) s.vlt.retired
                                 failedBlocks := sdel s.vlt.failedBlocks v, worn := sdel s.vlt.worn v } }
  let s2 := if repl.isSome then
      (if blockMissing s1 v then s1 else setSeg n { segOf s1 n with absent := clearBit (segOf s1 n).absent j } s1)
    else raise 0x080D (quadUnit (vpaCh v / 4) (4 + vpaCh v % 4)) [(1, vpaCh v), (1, vpaDie v), (1, vpaPlane v)]
      (setSeg n { segOf s1 n with absent := setBit (segOf s1 n).absent j } s1)
  if (List.range (vaultRec s).planes).all (fun p => (nextPool s2 (vpaOf (vpaCh v) (vpaDie v) p 0 0)).isNone)
  then dieFailed (vpaCh v) (vpaDie v) 3 s2 else s2

/-- A program failure at a page (R347): the column is absent in the segment's remaining rows, the segment is collected first, and
the block is retired at its erase. -/
def programFailure (v : Nat) (s : State) : State :=
  let n := vpaSeg v
  let s1 := modVch (vpaCh v) (fun c => { c with progFail := satAdd 16 c.progFail 1, missRun := c.missRun.set (vpaDie v) 0 }) s
  let s2 := setSeg n { segOf s1 n with absent := setBit (segOf s1 n).absent (vchOf s1 (vpaCh v)).column } s1
  raise 0x0804 (quadUnit (vpaCh v / 4) (4 + vpaCh v % 4)) [(5, v)]
    { s2 with vlt := { s2.vlt with failedBlocks := sins (blockVpa v) s2.vlt.failedBlocks
                                   relocate := if s2.vlt.relocate.contains n then s2.vlt.relocate
                                     else s2.vlt.relocate ++ [n] } }

/-- A page has been programmed on a channel. -/
def countProgram (v : Nat) (s : State) : State :=
  modVch (vpaCh v) (fun c => { c with progPages := wrapAdd 64 c.progPages 1, missRun := c.missRun.set (vpaDie v) 0 }) s

/-! ### Twin programs (R148, R149, R192) -/

/-- The TWIN segment that takes twin pages now: not the reserve's, with a pair of pages left. -/
def twinSeg (s : State) : Option Nat :=
  (((s.vlt.segs.filter (fun e => e.2.kind = .twin && !(s.vlt.reserve.contains e.1) && !(s.vlt.erasing.contains e.1)
      && !(s.vlt.relocate.contains e.1) && e.2.rows < segRows s * (twinPairs s (segDie e.1)).length)).mergeSort
    (fun a b => b.2.order ≤ a.2.order)).head?).map Prod.fst

/-- A TWIN segment is there, taken from the free ones, or from the reserve's margin of 64 rows (R264). -/
def ensureTwin (s : State) : State :=
  if (twinSeg s).isSome then s
  else
    match freeSegLow s with
    | some n => assignSeg n .twin s
    | none =>
      match s.vlt.reserve.reverse.find? (fun n => (segOf s n).kind = .dump) with
      | some n =>
        if reserveRows s ≤ reserveHeld s - segRows s + 64 then
          assignSeg n .twin { s with vlt := { s.vlt with reserve := s.vlt.reserve.filter (· ≠ n) } }
        else s
      | none => s

/-- The mirror sequence that is current: the last one given (R251, R381). -/
def mseqNow (s : State) : Nat := (s.kor.mseqNext + 2 ^ 32 - 1) % 2 ^ 32

/-- The writes a twin program of `g` covers: VAULTED writes whose line is in DRAM (R149). -/
def twinCovers (s : State) (g : Nat) : List Nat :=
  (s.hlk.writes.filter (fun w => w.eff = .vaulted && w.inDram && !w.twinPassed && granuleOf w.line = g)).map WriteRec.tag

/-- A twin program of a granule starts when none runs and it covers a write (R148): the granule becomes INFLIGHT, its counter is
taken, and both copies draw tokens. A refused encryption leaves the granule as it is, to be tried again; stopped
engines or DRAM are woken first (R569). -/
def startTwin (g r : Nat) (s : State) : State :=
  let cov := twinCovers s g
  if cov = [] ∨ programRuns s g ∨ !(gstate s g = .dirty ∨ gstate s g = .redirty) ∨ s.spn.mode = .dump then s
  else if !memReady s (quadOf s g) ∨ !engReady s (quadOf s g) then needDomains 8 (2 ^ quadOf s g + 2 ^ (4 + quadOf s g)) s
  else
    let s0 := ensureTwin (beforeVault s)
    match (twinSeg s0).bind (fun n => (twinPages s0 n).map (fun p => (n, p))) with
    | none => s0
    | some (n, a, b) => match stageTake (quadOf s0 g) s0 with
      | (none, t) => t
      | (buf, t) =>
        let (res, s2) := regionEncrypt r .twin t
        if res ≠ .done then stageGive buf s2
        else
          let s3 := setSeg n { segOf s2 n with rows := (segOf s2 n).rows + 1 } (drawTokens 32768 (setGState g .inflight s2))
          let s4 := if encrypted s3 r then cipSubmit ⟨.encrypt, .twin, r, quadOf s3 g, g⟩ s3 else s3
          refreshGc { s4 with shd := { s4.shd with
            twins := s4.shd.twins ++ [⟨g, r, a, b, mseqNow s, sealArea s r (slotOf s r).counter a (gword s g).stale (granuleData s g), cov,
              [a, b], false, false, buf⟩] } }

/-- Every granule with an uncovered VAULTED write starts its twin program where it can. -/
def twinKick (s : State) : State :=
  let gs := ((s.hlk.writes.filter (fun w => w.eff = .vaulted && w.inDram && !w.twinPassed)).map
    (fun w => granuleOf w.line)).eraseDups
  gs.foldl (fun t g => match regionOf t g with
    | some r => startTwin g r t
    | none => t) s

/-! ### Checkpoints (R359, R360) -/

/-- The pages a checkpoint takes. -/
def ckptPages (s : State) : Nat :=
  1 + nQuads s * entryPages (localCount s) + entryPages ((vaultRec s).diesPerCh * segGroups s) + entryPages s.vlt.retired.length

/-- The running checkpoint is complete: it is recorded, the log before it is no longer needed, event 0x080C. -/
def ckptDone (s : State) : State :=
  match s.vlt.ckptRunning with
  | none => s
  | some q =>
    let c : Ckpt := ⟨q, s.vlt.map, s.vlt.segs, s.dmp.dsc, s.dmp.dscSeq, s.shd.written / 1048576,
      s.shd.shadowed / 1048576, s.shd.balance, s.shd.debt, s.shd.saved / 1048576⟩
    let s1 := drawTokens (2 * 16384 * ckptPages s) (putMeta (ckptStruct s c)
      { s with vlt := { s.vlt with ckpt := some c, ckptRunning := none, ckptOlder := (s.vlt.ckpt.map Ckpt.seq).getD 0
                                   log := s.vlt.log.filter (fun e => q < e.seq) } })
    raise 0x080C 0x0D [(8, q), (4, ckptPages s)] (appendLog (.checkpoint q) s1)

end Sys2Proof.Machine
end

