-- ==== Sys2Proof/Machine/Cipher.lean ====
section
/-!
DEFINITION. The commands of the cipher engine that act on the Clasp, the staging and the slots (13).
-/

namespace Sys2Proof.Machine

/-- Every CIP register write but `ALARM_ACK` and `OP` is ignored in DUMP. -/
def cipFrozen (s : State) : Bool := s.spn.mode = .dump

/-- `CLASP_WRITE` (R441): a write of `v` to `OWNER`. -/
def execClaspWrite (path : Path) (v : Nat) (s : State) : Result :=
  let p := ownerId path
  .next <| dropHalf path (
    if cipFrozen s then s
    else if p ≠ 0 ∧ s.cip.owner = 0 ∧ v = p then
      raise 0x0B04 0x07 [(1, p)] { s with cip := { s.cip with owner := p } }
    else if p ≠ 0 ∧ s.cip.owner = p ∧ v = 0 then claspRelease s
    else claspRefuse path s)

/-- `CLASP_TIMEOUT` (R442). -/
def execClaspTimeout (s : State) : Result := .next (if s.cip.owner = 0 then s else claspRelease s)

/-- `KEY_DATA_WRITE` (R442, R444): a write of staging word `k`. Without the Clasp it returns result 1; a 32-bit write is ignored and logged. -/
def execKeyDataWrite (path : Path) (k width value : Nat) (s : State) : Result :=
  .next <| dropHalf path (
    if cipFrozen s ∨ 12 ≤ k then s
    else if !holdsClasp s path then claspRefuse path (modSlot s.cip.slotSel (fun k => { k with result := 1 }) s)
    else if width ≠ 8 then claspRefuse path s
    else { s with cip := { s.cip with staging := tins k (value % 2 ^ 64) s.cip.staging } })

/-- A key command is refused with a result (R647): `RESULT` of the selected slot, the count and event 0x0B02. -/
def keyRefuse (i result : Nat) (s : State) : State :=
  raise 0x0B02 0x07 [(2, i), (1, result)]
    { modSlot i (fun k => { k with result := result }) s with
      cip := { (modSlot i (fun k => { k with result := result }) s).cip with
        keyRefused := satAdd 16 s.cip.keyRefused 1 } }

/-- The refusals every key command shares, in the order of R647: no Clasp, DUMP, an alarm where the command is LOAD or
DERIVE, no such slot, slot 256. -/
def commonRefusal (s : State) (path : Path) (i : Nat) (loads : Bool) : Option Nat :=
  if !holdsClasp s path then some 1
  else if s.spn.mode = .dump then some 10
  else if loads && s.cip.alarmLatch then some 8
  else if 260 < i then some 11
  else if i = 256 then some 9
  else none

/-- A command refused: want of the Clasp also counts and logs as R442 states. -/
def refuseWith (path : Path) (i c : Nat) (s : State) : State :=
  keyRefuse i c (if c = 1 then claspRefuse path s else s)

/-- The region of a slot is OFFLINE or undefined (R446). -/
def slotRegionOff (s : State) (i : Nat) : Bool := !defined s i || (region s i).life = .offline

/-- A LOAD or DERIVE is accepted: the slot starts, or keeps the staged data while it stops (R438). -/
def acceptKey (i : Nat) (st : KeyStage) (s : State) : State :=
  let s1 := modSlot i (fun k => { k with stage := some st, result := 0 }) s
  if (slotOf s i).st = .stopping then modSlot i (fun k => { k with reArm := true }) s1 else startRekey i s1

/-- The staging words of a LOAD: 12 for a region slot, 8 for a tenant root (R444). -/
def wordsNeeded (i : Nat) : Nat := if i < 256 then 12 else 8

/-- The refusals of a LOAD after the shared ones (R444, R647). -/
def loadRefusal (s : State) (i : Nat) : Option Nat :=
  let bytes := (List.range 12).flatMap (fun k => leBytes 8 (tget 0 s.cip.staging k))
  if 256 ≤ i ∧ !tenantRoots s then some 9
  else if i < 256 ∧ (!defined s i ∨ (region s i).entry.key ≠ .native) then some 4
  else if (slotOf s i).st = .on ∨ (slotOf s i).st = .starting then some 7
  else if (List.range (wordsNeeded i)).any (fun k => !(s.cip.staging.any (fun e => e.1 = k))) then some 2
  else if i < 256 ∧ bytes.take 32 = (bytes.drop 32).take 32 then some 3
  else none

/-- `LOAD` (R444). -/
def execLoad (path : Path) (s : State) : Result :=
  let i := s.cip.slotSel
  .next <| dropHalf path (match commonRefusal s path i true with
    | some c => refuseWith path i c s
    | none => match loadRefusal s i with
      | some c => refuseWith path i c s
      | none =>
        let bytes := (List.range (wordsNeeded i)).flatMap (fun k => leBytes 8 (tget 0 s.cip.staging k))
        acceptKey i (.native bytes) { s with cip := { s.cip with staging := [] } })

/-- The refusals of a DERIVE after the shared ones (R437, R448, R647). -/
def deriveRefusal (s : State) (i root : Nat) : Option Nat :=
  if 256 ≤ i ∨ 4 < root ∨ (slotOf s (rootSlot root)).st ≠ .on then some 9
  else if !defined s i ∨ (region s i).entry.key ≠ .derived then some 4
  else if !slotRegionOff s i then some 5
  else if (slotOf s i).st = .on ∨ (slotOf s i).st = .starting then some 7
  else none

/-- `DERIVE` (R448) from the root that `ROOT` names, which the write of a Clasp holder stores. -/
def execDerive (path : Path) (root : Nat) (s0 : State) : Result :=
  let s := if holdsClasp s0 path && !cipFrozen s0 then { s0 with cip := { s0.cip with cmdRoot := root % 8 } } else s0
  let i := s.cip.slotSel
  .next <| dropHalf path (match commonRefusal s path i true with
    | some c => refuseWith path i c s
    | none => match deriveRefusal s i (root % 8) with
      | some c => refuseWith path i c s
      | none => acceptKey i (.derived (root % 8)) s)

/-- `UNLOAD` (R446): a slot stops, and ends as soon as no operation uses it (R438). -/
def execUnload (path : Path) (s : State) : Result :=
  let i := s.cip.slotSel
  .next <| dropHalf path (match commonRefusal s path i false with
    | some c => refuseWith path i c s
    | none =>
      if i < 256 ∧ !slotRegionOff s i then refuseWith path i 5 s
      else
        let s1 := modSlot i (fun k => { k with result := 0 }) s
        match (slotOf s i).st with
        | .on => slotStopCheck i (setSlot i .stopping s1)
        | .starting =>
          setSlot i .off (modSlot i (fun k => { k with stage := none }) (zeroize i
            { s1 with cip := { s1.cip with queue := s1.cip.queue.filter (fun o => o.slot ≠ i) } }))
        | _ => s1)

/-- `CLEAR_STAGING` (R444): `OP` = 4. -/
def execClearStaging (path : Path) (s : State) : Result :=
  let i := s.cip.slotSel
  .next <| dropHalf path (
    if !holdsClasp s path then refuseWith path i 1 s
    else if s.spn.mode = .dump then refuseWith path i 10 s
    else modSlot i (fun k => { k with result := 0 }) { s with cip := { s.cip with staging := [] } })

/-- The DERIVED regions bound to a root that are derived when it turns ON or at step 13, ascending (R449, R450). -/
def derivedRegions (s : State) (root : Nat) : List Nat :=
  (List.range 256).filter (fun i => defined s i && (region s i).entry.key = .derived && (slotOf s i).root = root
    && (slotOf s i).st = .off && (root = 0 || tenantRoots s))

/-- The CIP derives every DERIVED region bound to a root (R449). -/
def deriveBound (root : Nat) (s : State) : State :=
  if (slotOf s (rootSlot root)).st ≠ .on then s
  else (derivedRegions s root).foldl (fun t i => startRekey i (modSlot i (fun k => { k with stage := some (.derived root) }) t)) s

/-- The OTP root copied into slot 256, which turns ON (R449). -/
def loadOtpRoot (s : State) : State :=
  setSlot 256 .on (modSlot 256 (fun k => { k with key := leBytes 32 (bogValue s 2 4) }) s)

/-- What a REKEY that ended does to its slot: ON, a BIND entry, or result 6 (R443, R445, R448). -/
def rekeyEnd (i : Nat) (s : State) : State :=
  let k := slotOf s i
  let key := stageKey s i
  if 256 < i then deriveBound (i - 256) (setSlot i .on (modSlot i (fun k => { k with key := key, stage := none }) s))
  else
    let v := keyCheck key
    let root := match k.stage with
      | some (.derived r) => r
      | _ => k.root
    if k.kcv ≠ 0 ∧ k.kcv ≠ v ∧ regionHasData s i then
      raise 0x0B0B 0x07 [(1, i)]
        (setSlot i .off (modSlot i (fun k => { k with result := 6, stage := none }) (zeroize i s)))
    else
      let s1 := modSlot i (fun k => { k with key := key, hash := keyHash key, stage := none }) s
      if k.kcv ≠ v ∨ root ≠ k.root then
        nonceAsk 2 i root 0 v (modSlot i (fun k => { k with binding := some v }) s1)
      else setSlot i .on s1

/-- `REKEY_DONE` (R445): the REKEY of a slot ends on its core. -/
def execRekeyDone (slot : Nat) (s : State) : Result :=
  .next (match coreOf s (fun o => o.kind = .rekey && o.slot = slot) with
    | none => s
    | some c =>
      let s1 := cipFinish c s
      if (slotOf s1 slot).st = .starting ∧ (slotOf s1 slot).binding.isNone ∧ (slotOf s1 slot).stage.isSome then rekeyEnd slot s1
      else s1)

/-- `CIPHER_OP_COMPLETE` (R436): the operation of a core ends; `tagOk` says that what a DECRYPT of the page at `vpa` read passes its
tag, the keys being those of its program (R434). A DERIVE that has ended is followed by its slot's REKEY.
A REKEY ends with `REKEY_DONE`. -/
def execCipherOpComplete (core : Nat) (tagOk : Bool) (vpa : Nat) (s : State) : Result :=
  .next (match s.cip.cores.getD core none with
    | none => s
    | some o =>
      match o.kind with
      | .decrypt =>
        let good := tagOk && ((pageAt s vpa).map (tagMatches s vpa)).getD true
        cipFinish core (if good then s else tagFailed vpa s)
      | .encrypt => cipFinish core s
      | .derive =>
        let t := cipFinish core s
        if (slotOf t o.slot).st = .starting ∧ (slotOf t o.slot).stage.isSome then cipSubmit ⟨.rekey, .service, o.slot, 0, 0⟩ t else t
      | .rekey => s)

/-- `CORE_FAULT` (R431): the core is FAILED and its operation reissued on another core, its counter unchanged. -/
def execCoreFault (core : Nat) (s : State) : Result := .next (coreFail core s)

/-- `TOPUP` (R455): ignored when U ≥ 2^23, for a slot that is no region slot, once the nonce jumps are used up (R460), and
in DUMP. -/
def execTopup (s : State) : Result :=
  let i := s.cip.slotSel
  .next (if cipFrozen s ∨ 256 ≤ i ∨ s.cip.exhausted ∨ 2 ^ 23 ≤ unusedRsv (slotOf s i) then s else topUp i s)

/-- `COMPACT` (R459): the bit reads 1 until the compaction is done (R11). -/
def execCompact (s : State) : Result :=
  .next (if cipFrozen s then s
    else
      let t := compactStart s
      { t with cip := { t.cip with compactGo := t.cip.compactBusy } })

end Sys2Proof.Machine
end

