-- ==== Sys2Proof/Machine/Causeway.lean ====
section
/-!
DEFINITION. The Causeway ring (12): roll calls, elections, joins, relocks and the head's witness answers.
-/

namespace Sys2Proof.Machine

/-- A frame whose CRC this member finds bad is passed on ended with K30.7, and discarded (R412). -/
def frameBad (f : Frame) (s : State) : State :=
  send (.frame f false) { s with cwy := { s.cwy with crcErr := satAdd 16 s.cwy.crcErr 1 } }

/-- A frame passed on with one hop less; at 0 it is stripped and counted (R414). -/
def frameOn (f : Frame) (s : State) : State :=
  if f.hops ≤ 1 then { s with cwy := { s.cwy with hopsExpired := satAdd 16 s.cwy.hopsExpired 1 } }
  else send (.frame { f with hops := f.hops - 1 } true) s

/-- A frame of this member's own (R412). -/
def frameSend (dst tag : Nat) (b : FrameBody) (s : State) : State :=
  send (.frame ⟨dst, s.cwy.myId, 64, tag, b⟩ true) s

/-- A frame that arrives at the member: while the unit is OFF the bypass forwards it as it came (R613); a bad frame is passed on;
a member with a duplicate ID only forwards; a unicast frame for another member passes; otherwise `k` acts (R412 to R415). -/
def frameArrive (f : Frame) (good : Bool) (k : State → State) (s : State) : State :=
  if s.cwy.unit ≠ .on then send (.frame f good) s
  else if !good then frameBad f s
  else if s.cwy.dupId ∨ (f.dst ≠ 0xFF ∧ f.dst ≠ s.cwy.myId) then frameOn f s
  else k s

/-- The device serial (R508). -/
def serialOf (s : State) : Nat := bogRaw s 0

/-- Each member whose LIVE bit changed has joined or left: event 0x0A02 (R411). -/
def memberChanges (old new : Nat) (s : State) : State :=
  ((List.range 64).filter (fun m => old.testBit m ≠ new.testBit m)).foldl (fun t m => raise 0x0A02 0x06 [(1, m)] t) s

/-- The bitmaps of a roll call copied (R416). -/
def copyRoll (live dumping headcap : Nat) (s : State) : State :=
  memberChanges s.cwy.live live
    { s with cwy := { s.cwy with live := live, dumping := dumping, headcaps := headcap } }

/-- This member's stamps added to a roll call (R416). -/
def stampBits (s : State) (live dumping headcap : Nat) : Nat × Nat × Nat :=
  let m := s.cwy.myId
  (setBit live m, if s.spn.mode = .dump then setBit dumping m else dumping,
    if s.cwy.headCapable then setBit headcap m else headcap)

/-- `RING_UP` rises with the first roll call (R411). -/
def ringRise (s : State) : State :=
  if s.cwy.ringUp then s else raise 0x0A01 0x06 [(1, 1)] { s with cwy := { s.cwy with ringUp := true } }

/-- A member learns of the head (R417): event 0x0A03 when the head is new or an election ran. -/
def learnHead (h : Nat) (s : State) : State :=
  let new := decide (s.cwy.headId ≠ h) || s.cwy.electing || !s.cwy.ringUp
  let s1 := { s with cwy := { s.cwy with headId := h, electing := false, claiming := false } }
  if new then raise 0x0A03 0x06 [(1, h)] s1 else s1

/-- `ROLL_CALL` (R416): a roll call of head `src` reaches the member. On the head it is stripped and copied, and a change of
a bitmap signals vector 11; elsewhere it is stamped, copied and passed on. -/
def execRollCall (src hops tag live dumping headcap : Nat) (good : Bool) (s : State) : Result :=
  let f : Frame := ⟨0xFF, src, hops, tag, .rollCall live dumping headcap⟩
  .next (frameArrive f good (fun s =>
    if src = s.cwy.myId then
      let moved := decide (live ≠ s.cwy.live ∨ dumping ≠ s.cwy.dumping)
      let s1 := ringRise (copyRoll live dumping headcap s)
      let s2 := { s1 with cwy := { s1.cwy with history := live :: s1.cwy.history.take 1 } }
      if moved then msix 11 s2 else s2
    else
      let b := stampBits s live dumping headcap
      let s1 := copyRoll b.1 b.2.1 b.2.2 (ringRise (learnHead src s))
      frameOn { f with body := .rollCall b.1 b.2.1 b.2.2 } s1) s)

/-- The head sends a roll call (R416). -/
def sendRoll (s : State) : State :=
  let b := stampBits s 0 0 0
  frameSend 0xFF 0 (.rollCall b.1 b.2.1 b.2.2) s

/-- `ROLL_CALL_TIMER` (R416). -/
def execRollCallTimer (s : State) : Result :=
  .next (if s.cwy.unit = .on ∧ s.cwy.isHead ∧ !s.cwy.dupId then sendRoll s else s)

/-- `CLAIM` (R417): a claim of `src` reaches the member. -/
def execClaim (src hops tag : Nat) (good : Bool) (s : State) : Result :=
  let f : Frame := ⟨0xFF, src, hops, tag, .claim⟩
  .next (frameArrive f good (fun s =>
    if src = s.cwy.myId then
      if s.cwy.claiming ∧ !s.cwy.lowerSeen then
        sendRoll (raise 0x0A03 0x06 [(1, src)]
          { s with cwy := { s.cwy with isHead := true, electing := false, claiming := false, headId := src, history := [] } })
      else s
    else if src < s.cwy.myId then frameOn f { s with cwy := { s.cwy with claiming := false, lowerSeen := true } }
    else frameOn f s) s)

/-- The member claims the head's place (R417). -/
def claimHead (s : State) : State :=
  if s.cwy.unit = .on ∧ s.cwy.headCapable ∧ !s.cwy.dupId ∧ !s.cwy.isHead then
    frameSend 0xFF 0 .claim { s with cwy := { s.cwy with electing := true, claiming := true, lowerSeen := false } }
  else s

/-- `ELECTION_TIMEOUT` (R417). -/
def execElectionTimeout (s : State) : Result := .next (claimHead s)

/-- `RING_START_ELECTION` (R417): unless roll calls of a head already arrive. -/
def execRingStartElection (s : State) : Result := .next (if s.cwy.ringUp then s else claimHead s)

/-- `RING_DOWN_TIMEOUT` (R411). -/
def execRingDownTimeout (s : State) : Result :=
  .next (if s.cwy.unit = .on ∧ s.cwy.ringUp then
    raise 0x0A01 0x06 [(1, 0)] { s with cwy := { s.cwy with ringUp := false } } else s)

/-- `RING_RELOCK` (R411). -/
def execRingRelock (s : State) : Result :=
  .next (if s.cwy.unit = .on then { s with cwy := { s.cwy with relocks := satAdd 16 s.cwy.relocks 1 } } else s)

/-- `JOIN` (R415): a JOIN frame of member `src` with its serial. -/
def execJoin (src hops tag serial : Nat) (good : Bool) (s : State) : Result :=
  let f : Frame := ⟨src, src, hops, tag, .join serial⟩
  .next (frameArrive f good (fun s =>
    if serial ≠ serialOf s then
      raise 0x0A04 0x06 [(1, src), (8, serial)]
        { s with cwy := { s.cwy with dupId := true, isHead := false, electing := false, claiming := false } }
    else s) s)

/-- The head's answer about a member (R418): 1 DEAD when its LIVE bit is clear in the two most recent returned roll calls,
2 ALIVE otherwise; none before two have returned. -/
def witnessAnswer (s : State) (target : Nat) : Option Nat :=
  match s.cwy.history with
  | a :: b :: _ => some (if !a.testBit target && !b.testBit target then 1 else 2)
  | _ => none

/-- `WITNESS_Q` (R418): a query of `src` about `target` reaches this member, the head it is addressed to. -/
def execWitnessQ (src dst hops tag target : Nat) (good : Bool) (s : State) : Result :=
  let f : Frame := ⟨dst, src, hops, tag, .witnessQ target⟩
  .next (frameArrive f good (fun s =>
    if s.cwy.isHead ∧ !s.cwy.electing ∧ target = src ^^^ 1 then
      match witnessAnswer s target with
      | some a => frameSend src tag (.witnessA target a) s
      | none => s
    else s) s)

/-- A member that runs an update for the head and has restarted is back in SERVICE, with its pair as it was before: it reports its new
firmware version (R425). -/
def updateFollow (s : State) : State :=
  match s.aos.scratch.update with
  | none => s
  | some u =>
    if u.restarted ∧ s.spn.mode = .service ∧ pairCode s.kor.state = u.before ∧ s.cwy.unit = .on then
      frameSend u.head u.tag (.cmdA 3 0 [(1, 0), (4, s.sig.fwVersion), (3, 0)])
        (raise 0x0A09 0x06 [(1, s.cwy.myId), (1, 0)] { s with aos := { s.aos with scratch := { s.aos.scratch with update := none } } })
    else s

/-- The Causeway unit starts at step 10 of R85 (R409, R415): the bypass opens and the member joins. -/
def cwyStart (s : State) : State :=
  frameSend s.cwy.myId 0 (.join (serialOf s)) { s with cwy := { s.cwy with unit := .on } }

end Sys2Proof.Machine
end

