-- ==== Sys2Proof/Machine/IntegrityOps.lean ====
section
/-!
DEFINITION. Single faults (19): what a DRAM read counts and reports, chip marks, line repair and the quadrant fence.
-/

namespace Sys2Proof.Machine

/-- A host event record is added to log 0 Informational, 1 Warning, 2 Failure or 3 Fatal, which holds 64 records; its MSI-X
vector follows the event interrupt policy (R124, R131). A record that meets a full log is dropped. DESIGN CHOICE (log 127). -/
def hostEvent (log : Nat) (memoryModule : Bool) (id arg : Nat) (s : State) : State :=
  let e : HostEvent := ⟨memoryModule, id, arg⟩
  let add (l : List HostEvent) : List HostEvent := if l.length < 64 then l ++ [e] else l
  let h := s.hlk
  let full := decide (64 ≤ (if log = 0 then h.logInfo else if log = 1 then h.logWarn else if log = 2 then h.logFail else h.logFatal).length)
  let s1 := { s with hlk :=
    if log = 0 then { h with logInfo := add h.logInfo }
    else if log = 1 then { h with logWarn := add h.logWarn }
    else if log = 2 then { h with logFail := add h.logFail }
    else { h with logFatal := add h.logFatal } }
  if h.intPolicy.getD log false && !full then msix (1 + log) s1 else s1

/-- The Korric link unit goes OFF: no lane carries flits (R608, R571). -/
def korOff (s : State) : State :=
  { s with kor := { s.kor with unitOn := false, trained := false, up := false, stateSeen := false, digestSeen := [],
                               width := 0 } }

/-- One quadrant's progress in a dump. -/
def dumpQuad (s : State) (q : Nat) : DumpQuad :=
  if q = 0 then s.dmp.q0 else if q = 1 then s.dmp.q1 else if q = 2 then s.dmp.q2 else s.dmp.q3

/-- One quadrant's progress changed. -/
def modDumpQuad (q : Nat) (f : DumpQuad → DumpQuad) (s : State) : State :=
  if q = 0 then { s with dmp := { s.dmp with q0 := f s.dmp.q0 } }
  else if q = 1 then { s with dmp := { s.dmp with q1 := f s.dmp.q1 } }
  else if q = 2 then { s with dmp := { s.dmp with q2 := f s.dmp.q2 } }
  else { s with dmp := { s.dmp with q3 := f s.dmp.q3 } }

/-- An incomplete dump is counted, once for its sequence (R293, R295). -/
def countShutdown (seq : Nat) (s : State) : State :=
  if s.dmp.dscSeq = seq then s
  else raise 0x060A 0x0E [(8, seq)]
    { s with dmp := { s.dmp with dsc := satAdd 32 s.dmp.dsc 1, dscSeq := seq } }

/-- The granules whose data pages a quadrant has still to start: entries left, and pages to be programmed again. -/
def dataWaiting (d : DumpQuad) : List Nat :=
  d.left.map ListEntry.granule ++ d.queue.filterMap (fun p => match p with | .data g => some g | _ => none)

/-- A quadrant starts no further data page: what waits is lost. -/
def dropWaiting (d : DumpQuad) : DumpQuad :=
  { d with left := [], lost := d.lost ++ dataWaiting d
           queue := d.queue.filter (fun p => match p with | .data _ => false | _ => true) }

/-- A DRAM channel fails during a dump: its entries not yet read are lost, `MEDIA`, counted at once, and event 0x060D (R291, R295). -/
def dumpChannelLost (q : Nat) (s : State) : State :=
  countShutdown s.dmp.seq (raise 0x060D 0x0E [(1, q), (3, (dataWaiting (dumpQuad s q)).length)]
    (modDumpQuad q (fun d => { dropWaiting d with channelLost := true }) { s with dmp := { s.dmp with media := true } }))

/-- A granule becomes LOST with its LOST log entry; the poison list changes (R608, R601). -/
def granuleLost (g : Nat) (s : State) : State :=
  msix 10 (appendLog (.lost g) (setMap g ⟨0, 0, false, false, true⟩ (dropRsv g (setGState g .lost (beforeVault s)))))

/-- The quadrant fence (R608): the QDC is FAILED, FAULT_N is asserted, the Korric link unit is OFF, every region stops, the
quadrant's dirty granules become LOST and its writes without a completion are dropped. In a dump R291 governs the granules. -/
def fenceQuad (q cause : Nat) (s : State) : State :=
  if (qdcOf s q).state = 3 then s
  else
    let s1 := setUnitState 0x05 .off (korOff (setUnitState (quadUnit q 0) .failed (raise 0x1109 (quadUnit q 0) [(1, q), (1, cause)]
      (modQdc q (fun d => { d with state := 3 }) { s with pwr := { s.pwr with faultN := true } }))))
    if s.spn.mode = .dump then dumpChannelLost q s1
    else
      let s2 := (List.range 256).foldl (fun t r =>
        if (region t r).life = .starting then failStart r 5 t else stopRegion r t) s1
      let s3 := ((dirtyGranules s2).filter (fun g => quadOf s2 g = q)).foldl (fun t g => granuleLost g t) s2
      { s3 with hlk := { s3.hlk with writes := s3.hlk.writes.filter (fun w => quadOf s3 (granuleOf w.line) ≠ q) } }

/-! ### Reads of DRAM (R597 to R599, R602, R605) -/

/-- The slot of a line of a channel: 2 × rank + subchannel (R598). -/
def slotOfLine (cl : Nat) : Nat := Config.dramSlot cl % 4

/-- Component `m` of a slot has reached the thresholds: marked, or the slot degraded (R598, R599). -/
def chipMark (q slot m : Nat) (s : State) : State :=
  match (qdcOf s q).marks.find? (fun e => e.1 = slot) with
  | none =>
    raise 0x1104 (quadUnit q 0) [(1, q), (1, slot), (1, m)]
      (modQdc q (fun d => { d with marks := tins slot m d.marks }) s)
  | some e =>
    if e.2 = m ∨ (qdcOf s q).degraded.testBit slot then s
    else hostEvent 2 false 0x1105 q (raise 0x1105 (quadUnit q 0) [(1, q), (1, slot), (1, m)]
      (modQdc q (fun d => { d with degraded := setBit d.degraded slot }) s))

/-- A symbol of a channel's line `cl` was corrected on a host or patrol read; `persistent` when the second read shows it again. `visible`:
the line lies in the host-visible granules, whose corrections Get Health Info counts (R125). -/
def symbolFixed (q cl m : Nat) (host visible persistent : Bool) (s : State) : State :=
  let k := 16 * slotOfLine cl + m
  let s1 := modQdc q (fun d => { d with
    corrected := tput 0 d.corrected k (tget 0 d.corrected k + 1)
    persist := if persistent then tput 0 d.persist k (tget 0 d.persist k + 1) else d.persist
    ceHost := if host then satAdd 32 d.ceHost 1 else d.ceHost
    cePatrol := if host then d.cePatrol else satAdd 32 d.cePatrol 1 }) s
  let s2 := raise 0x1102 (quadUnit q 0) [(5, cl * 64), (1, m)]
    { s1 with hlk := { s1.hlk with correctedHost := if visible then satAdd 32 s1.hlk.correctedHost 1 else s1.hlk.correctedHost } }
  let d := qdcOf s2 q
  if d.markCe ≤ tget 0 d.corrected k ∨ d.markPersist ≤ tget 0 d.persist k then chipMark q (slotOfLine cl) m s2 else s2

/-- The outcome of a line repair: event 0x1108 with the DPA, the source (0 none, 1 partner, 2 vault) and the outcome (0 repaired,
1 not), and its count (R605). -/
def repairOutcome (line source : Nat) (ok : Bool) (s : State) : State :=
  let q := quadOf s (granuleOf line)
  raise 0x1108 (quadUnit q 0) [(5, line * 64), (1, source), (1, flag !ok)]
    (modQdc q (fun d =>
      if !ok then { d with unrepaired := satAdd 16 d.unrepaired 1 }
      else if source = 1 then { d with fromPartner := satAdd 16 d.fromPartner 1 }
      else { d with fromVault := satAdd 16 d.fromVault 1 }) s)

/-- The partner's copy of a granule may be asked for (R326, R605). -/
def partnerRepairOk (s : State) (g : Nat) : Bool :=
  mirroredGranule s g && s.kor.state = .mirrored && !(gword s g).stale

/-- A REPAIR_REQ for a granule goes to the partner (R407). -/
def askPartner (g : Nat) (line : Option Nat) (s : State) : State :=
  let t := s.kor.nextTag
  sendMsg (.repairReq g t)
    { s with kor := { s.kor with nextTag := (t + 1) % 256, repairs := s.kor.repairs ++ [⟨t, g, line, [], [], []⟩] } }

/-- A repair is requested once for a poisoned line (R605), with a Warning General Media event record (R602). -/
def lineRepair (line : Nat) (s : State) : State :=
  let g := granuleOf line
  let q := quadOf s g
  if (qdcOf s q).asked.contains line then s
  else
    let s1 := hostEvent 1 false 0x1103 (line * 64) (modQdc q (fun d => { d with asked := sins line d.asked }) s)
    if partnerRepairOk s1 g then askPartner g (some line) s1
    else if gstate s1 g = .shadowed then { s1 with dmp := { s1.dmp with lineFix := sins line s1.dmp.lineFix } }
    else repairOutcome line 0 false s1

/-- What a read of a line of DRAM counts and starts: corrections, whose write-back removes what was planted in the line, an uncorrectable line and its poison mark, a repair, and the
fence after more than 64 uncorrectable lines in 1 ms (R597, R602, R605, R607). -/
def readEffects (line : Nat) (host : Bool) (again : List SymErr) (r : LineRead) (s : State) : State :=
  let q := quadOf s (granuleOf line)
  let s1 := r.fixed.foldl (fun t m => symbolFixed q (chLine s line) m host true (again.any (fun e => e.sym = m)) t)
    (if r.fixed = [] then s else modQdc q (fun d => { d with planted := d.planted.filter (fun e => e.1 ≠ line) }) s)
  if !r.poisoned ∨ s1.gst.deliberate.contains line then s1
  else
    let s2 := modQdc q (fun d => { d with ueLines := satAdd 32 d.ueLines 1, lastLine := chLine s line }) s1
    let s3 := if r.uncorrectable then
        raise 0x1103 (quadUnit q 0) [(5, line * 64)] (poisonLine line false
          (modQdc q (fun d => { d with ueRecent := d.ueRecent + 1, planted := d.planted.filter (fun e => e.1 ≠ line) }) s2))
      else s2
    let s4 := lineRepair line s3
    if 64 < (qdcOf s4 q).ueRecent then fenceQuad q 2 s4 else s4

end Sys2Proof.Machine
end

