-- ==== Sys2Proof/Machine/MirrorOps.lean ====
section
/-!
DEFINITION. The mirror side of the Korric link (11): mirror writes, their holds and the cumulative acknowledgement; and what
the lines of a repair do at the side that asked for them.
-/

namespace Sys2Proof.Machine

/-! ### Mirror writes (R178, R198, R382) -/

/-- A granule of a partner-owned region that this side has not adopted: its copy here is a mirror copy (R178). -/
def mirrorCopy (s : State) (g : Nat) : Bool :=
  match regionOf s g with
  | some r => !serves s r
  | none => false

/-- A granule can take a reservation now (R191). -/
def canReserve (s : State) (g : Nat) : Bool :=
  s.gst.rsv.contains g || (dCount s < s.wrp.b && (match regionOf s g with
    | some r => decide (regionRsv s r < shareLimit s r)
    | none => true))

/-- A mirror write to this granule needs a reservation: FREE or SHADOWED, while B is not 0 (R178). -/
def mirrorNeeds (s : State) (g : Nat) : Bool :=
  (gstate s g = .free || gstate s g = .shadowed) && s.wrp.b ≠ 0

/-- Why a mirror write cannot reach DRAM now: 0 it can, 1 for want of a reservation (R198), 2 its DRAM is not ready (R569). -/
def mirrorBlock (s : State) (g : Nat) : Nat :=
  if !memReady s (quadOf s g) then 2
  else if mirrorCopy s g && mirrorNeeds s g && !canReserve s g then 1
  else 0

/-- A mirror write reaches DRAM (R178). -/
def mirrorApply (sl : LineSlot) (poison : Bool) (s : State) : State :=
  let g := granuleOf sl.line
  if !mirrorCopy s g then s
  else
    let st := gstate s g
    let s1 := if st = .free then zeroGranule g s else s
    let s2 :=
      if st = .free ∨ st = .shadowed then
        setGState g .dirty (if s.wrp.b = 0 then { s1 with gst := { s1.gst with unreserved := sins g s1.gst.unreserved } }
          else takeRsv g s1)
      else s1
    let s3 := if poison then poisonLine sl.line true s2 else storeLine sl.line sl.data sl.mask s2
    { s3 with kor := { s3.kor with lastMseq := tins g sl.mseq s3.kor.lastMseq, arrived := sins g s3.kor.arrived } }

/-- This side reports pressure, or ends it (R384). -/
def setPressure (on : Bool) (s : State) : State :=
  if s.kor.pressureOut = on then s
  else sendMsg (.pressure on (dCount s) s.wrp.b) { s with kor := { s.kor with pressureOut := on } }

/-- The cumulative acknowledgement (R382): the line before the first held one, else the latest received; a HEARTBEAT carries an
advance at once. -/
def ackFollow (s : State) : State :=
  let new := match s.kor.held with
    | sl :: _ => (sl.mseq + 2 ^ 32 - 1) % 2 ^ 32
    | [] => s.kor.rxLast
  if new = s.kor.rxMseq ∨ s.spn.mode = .dump then s
  else sendFlit .heartbeat { s with kor := { s.kor with rxMseq := new } }

/-- A mirror write arrives (R382): it reaches DRAM, or is held behind an earlier line of its address, for a reservation with
pressure, or for its DRAM. In DUMP it is neither applied nor acknowledged (R277). -/
def mirrorIn (sl : LineSlot) (poison : Bool) (s : State) : State :=
  if s.spn.mode = .dump ∨ (sl.mask = 0 ∧ !poison) then s
  else
    let g := granuleOf sl.line
    let s1 := { s with kor := { s.kor with rxLast := sl.mseq } }
    let b := mirrorBlock s1 g
    if b = 0 ∧ !(s1.kor.held.any (fun x => x.line = sl.line)) then mirrorApply sl poison s1
    else
      let s2 := { s1 with kor := { s1.kor with
        held := s1.kor.held ++ [sl]
        heldPoison := if poison then s1.kor.heldPoison ++ [sl.mseq] else s1.kor.heldPoison } }
      if b = 1 then
        setPressure true { s2 with wrp := { s2.wrp with budgetHolds := satAdd 32 s2.wrp.budgetHolds 1 } }
      else if b = 2 then needDomains 4 (2 ^ quadOf s2 g) s2
      else s2

/-- The first held mirror write that can reach DRAM now, no earlier one waiting at its address. -/
def mirrorReady (s : State) : Option LineSlot :=
  s.kor.held.find? (fun sl => mirrorBlock s (granuleOf sl.line) = 0
    && !((s.kor.held.takeWhile (fun x => x.mseq ≠ sl.mseq)).any (fun x => x.line = sl.line)))

/-- Held mirror writes reach DRAM as far as they can. -/
def mirrorLoop : Nat → State → State
  | 0, s => s
  | n + 1, s =>
    match mirrorReady s with
    | none => s
    | some sl =>
      let p := s.kor.heldPoison.contains sl.mseq
      mirrorLoop n (mirrorApply sl p { s with kor := { s.kor with
        held := s.kor.held.filter (fun x => x.mseq ≠ sl.mseq)
        heldPoison := s.kor.heldPoison.filter (· ≠ sl.mseq) } })

/-- Held mirror writes are tried again, and the acknowledgement follows. -/
def mirrorKick (s : State) : State :=
  if s.spn.mode = .dump ∨ s.kor.held = [] then s else ackFollow (mirrorLoop s.kor.held.length s)

/-! ### Repair lines at the requester (R407, R605) -/

/-- The outcome of RETRY_GRANULE (R325): event 0x0709 and the command's end; 0 repaired by parity, 1 from the partner, 2 still
POISON, 3 was not POISON. -/
def retryEnd (g result : Nat) (s : State) : State :=
  if s.dmp.retry ≠ some g then s
  else
    let d := s.dmp
    let s1 := { s with dmp := { d with
      retry := none
      parityRepairs := if result = 0 then satAdd 16 d.parityRepairs 1 else d.parityRepairs
      retryFailed := if result = 2 then satAdd 16 d.retryFailed 1 else d.retryFailed } }
    bgEnd 0xC00C .success 0 [(1, result), (7, 0)] (raise 0x0709 0x0E [(5, g * 16384), (1, result)] s1)

/-- A repair exchange is over. -/
def dropAsk (a : RepairAsk) (s : State) : State :=
  { s with kor := { s.kor with repairs := s.kor.repairs.filter (fun x => x.tag ≠ a.tag) } }

/-- A repair is refused, or its granule is no longer POISON: event 0x0708 (R326), or the line's outcome (R605). -/
def repairRefused (a : RepairAsk) (s : State) : State :=
  let s1 := dropAsk a s
  match a.line with
  | some l => repairOutcome l 1 false s1
  | none =>
    retryEnd a.granule (if gstate s1 a.granule = .poison then 2 else 3)
      (raise 0x0708 0x0E [(5, a.granule * 16384), (1, 1)] s1)

/-- Every line of a repair has arrived. -/
def askFull (a : RepairAsk) : Bool := 256 ≤ a.got.length + a.poisoned.length

/-- The lines of a line repair are applied to lines that carry their mark and were not written since (R605). -/
def applyLines (a : RepairAsk) (l : Nat) (s : State) : State :=
  let s1 := a.got.foldl (fun t e =>
    if linePoisoned t e.1 && !(a.written.contains e.1) then storeLine e.1 e.2 (2 ^ 64 - 1) t else t) (dropAsk a s)
  repairOutcome l 1 (!linePoisoned s1 l) s1

/-- A POISON granule takes the partner's copy with a reservation and becomes REDIRTY (R172, R326). -/
def applyRepair (a : RepairAsk) (s : State) : State :=
  let g := a.granule
  let s1 := a.got.foldl (fun t e => storeLine e.1 e.2 (2 ^ 64 - 1) t) (zeroGranule g (dropAsk a s))
  let s2 := a.poisoned.foldl (fun t l => poisonLine l false t) s1
  let s3 := msix 10 (joinRing g (touchGranule g (setGState g .redirty (takeRsv g s2))))
  retryEnd g 1 (raise 0x0708 0x0E [(5, g * 16384), (1, 0)]
    { s3 with dmp := { s3.dmp with partnerRepairs := satAdd 16 s3.dmp.partnerRepairs 1 },
              hlk := { s3.hlk with injected := sdel s3.hlk.injected g } })

/-- A repair whose lines are all there is applied; one that finds no reservation is held (R326). -/
def repairTry (a : RepairAsk) (s : State) : State :=
  if !askFull a ∨ s.spn.mode = .dump then s
  else match a.line with
    | some l => applyLines a l s
    | none =>
      if gstate s a.granule ≠ .poison then repairRefused a s
      else if canReserve s a.granule then applyRepair a s
      else s

/-- Held repairs are tried again. -/
def repairKick (s : State) : State := s.kor.repairs.foldl (fun t a => repairTry a t) s

end Sys2Proof.Machine
end

