-- ==== Sys2Proof/Machine/DataOps.lean ====
section
/-!
DEFINITION. The datapath (03, 04, 05): admission of a write by the GST, its holds and their release, completions and their
conditions, and the answers to reads.
-/

namespace Sys2Proof.Machine

/-! ### Host link -/

/-- Why a write is held now: by a rule of R9, in a decision for the partner's acknowledgement (R391), or for budget where a partner that
reports pressure has not acknowledged it (R198). -/
def holdNow (s : State) (w : WriteRec) : Hold :=
  if w.hold ≠ .none then w.hold
  else match w.mirror with
    | .waiting _ => if s.kor.state = .deciding then .decision else if w.pressed && s.kor.pressureIn then .budget else .none
    | _ => .none

/-- A write is held now. -/
def anyHeld (s : State) : Bool := s.hlk.writes.any (fun w => holdNow s w ≠ .none)

/-- The DevLoad value of a message sent now (R119): 0 Light, 1 Optimal, 2 Moderate, 3 Severe. -/
def devLoad (s : State) : Nat :=
  let d := dCount s
  let b := s.wrp.b
  if !s.hlk.devloadEn then 0
  else if (0 < d ∧ b ≤ d) ∨ anyHeld s ∨ s.kor.state = .deciding then 3
  else if (0 < b ∧ b * 90 ≤ d * 100) ∨ s.shd.regime = .top then 2
  else if 0 < b ∧ b * 50 ≤ d * 100 then 1
  else 0

/-- A write's record changed. -/
def modWrite (tag : Nat) (f : WriteRec → WriteRec) (s : State) : State :=
  { s with hlk := { s.hlk with writes := s.hlk.writes.map (fun w => if w.tag = tag then f w else w) } }

/-- A poisoned or plain DRS (R119, R157). -/
def sendDrs (tag : Nat) (data : BitVec 512) (poison : Bool) (s : State) : State :=
  let s1 := if poison then { s with hlk := { s.hlk with poisonSent := satAdd 16 s.hlk.poisonSent 1 } } else s
  send (.drs tag (if poison then 0 else data) poison (devLoad s)) s1

/-- The event and the counts of an access that R122 covers; the first record of an episode raises a Warning Memory Module event
record. -/
def offlineAccess (idx : Nat) (isWrite : Bool) (s : State) : State :=
  let h := s.hlk
  let h1 := if isWrite then { h with writesDiscarded := tput 0 h.writesDiscarded idx (satAdd 32 (tget 0 h.writesDiscarded idx) 1) }
    else { h with readsPoisoned := tput 0 h.readsPoisoned idx (satAdd 32 (tget 0 h.readsPoisoned idx) 1) }
  let s1 := raise 0x0203 0x01 [(2, idx)] { s with hlk := h1 }
  if h1.warned.contains idx then s1
  else hostEvent 1 true 0x0203 idx { s1 with hlk := { s1.hlk with warned := sins idx s1.hlk.warned } }

/-- An access to this granule is served from the cache: the mode serves CXL.mem and the region is ONLINE (R122). -/
def accessServed (s : State) (g : Nat) : Bool :=
  serving s && (match regionOf s g with
    | some r => (region s r).life = .online
    | none => false)

/-! ### Effective class of one write (R136, R390, R403) -/

/-- What a write of region `r` to granule `g` gets: its class, whether the mirror leg is a condition, and whether its line is
sent. None while a partner-loss decision holds it. -/
def effFor (s : State) (r g : Nat) : Option (AckClass × Bool × Bool) :=
  let zero := decide (s.wrp.b = 0)
  match (region s r).entry.ack with
  | .vaulted => some (.vaulted, false, false)
  | .loc => some (if zero then .vaulted else .loc, false, false)
  | .mirrored =>
    let alone := some (if zero then AckClass.vaulted else .loc, false, false)
    if inConflict s r then alone
    else match s.kor.state with
      | .deciding => none
      | .mirrored => some (if zero then .vaulted else .mirrored, true, true)
      | .resync =>
        if (gword s g).stale then some (if zero then .vaulted else .loc, false, true)
        else some (if zero then .vaulted else .mirrored, true, true)
      | _ => alone

/-- The counter reservation of R454 holds a write: the dirty granules of the region reach what its slot has left. -/
def keyHeld (s : State) (r g : Nat) : Bool :=
  encrypted s r && !(isDirty s g) &&
    unusedRsv (slotOf s r) ≤ ((s.gst.states.filter (fun e => inRegion s r e.1 && dirtyState e.2.st)).length)

/-- A write of a class to a granule needs a budget reservation (R172, R190). -/
def needsRsv (s : State) (g : Nat) (c : AckClass) : Bool := c ≠ .vaulted && !(s.gst.rsv.contains g)

/-- Why admission holds a write now, `.none` where it does not (R9, R191, R195, R454). -/
def admitHold (s : State) (w : WriteRec) : Hold :=
  let g := granuleOf w.line
  let older := s.hlk.writes.takeWhile (fun x => x.tag ≠ w.tag)
  if older.any (fun x => x.line = w.line && x.hold ≠ .none) then
    ((older.find? (fun x => x.line = w.line && x.hold ≠ .none)).map WriteRec.hold).getD .none
  else if !memReady s (quadOf s g) then .domain
  else match effFor s w.region g with
    | none => .decision
    | some (c, _, _) =>
      if keyHeld s w.region g then .keyReserve
      else if needsRsv s g c then
        if s.wrp.b ≤ dCount s then .budget
        else if shareLimit s w.region ≤ regionRsv s w.region then .share
        else if gstate s g = .pending then .restore else .none
      else if gstate s g = .pending then .restore else .none

/-- The GST's state change for an admitted write (R172, R173), with the reservation or the twin entry. -/
def writeState (g r : Nat) (c : AckClass) (s : State) : State :=
  let st := gstate s g
  let s1 := if needsRsv s g c then takeRsv g s
    else if c = .vaulted ∧ !dirtyState st ∧ !(s.gst.rsv.contains g) then takeTwin g s else s
  let fill (next : GState) : State :=
    msix 10 (raise 0x0309 (quadUnit (quadOf s g) 1) [(5, g * 16384)] (setGState g next (poisonGranule g s1)))
  let s2 := match st with
    | .free => joinRing g (setGState g .dirty (zeroGranule g s1))
    | .inflight => setGState g .redirty s1
    | .shadowed => joinRing g (setGState g .redirty s1)
    | .pending => joinRing g (setGState g .redirty s1)
    | .poison => joinRing g (fill .redirty)
    | .lost => joinRing g (setMap g { mapOf s g with lost := false } (fill .dirty))
    | _ => s1
  let s3 := touchGranule g { s2 with
    hlk := { s2.hlk with injected := if st = .poison ∨ st = .lost then sdel s2.hlk.injected g else s2.hlk.injected },
    kor := { s2.kor with ownCopies := s2.kor.ownCopies.filter (· ≠ g) } }
  if (region s3 r).entry.sequential then refreshShadowPtr r s3 else s3

/-- A held write is no longer held: its hold time counts toward `HLK_HOLD_MAX` with the cause of its hold. -/
def noteHold (h : Hold) (s : State) : State :=
  let cause := match h with
    | .budget => 1 | .decision => 2 | .share => 3 | .keyReserve => 3 | _ => 0
  if cause = 0 then s
  else
    let t := elapsedNow 32 s
    let s1 := useFree s
    if s1.hlk.holdCause = 0 ∨ s1.hlk.holdUs < t then { s1 with hlk := { s1.hlk with holdUs := t, holdCause := cause } } else s1

/-- A request-with-data credit goes back (R116). -/
def creditBack (s : State) : State := { s with hlk := { s.hlk with rwdFree := min 64 (s.hlk.rwdFree + 1) } }

/-- The GST admits a write: state, reservation, the mirror leg's number and line (R144, R147, R381), and the credit back (R116). A VAULTED
write keeps its credit until it completes, so that the credits bound the writes outside the budget and the twin table (R142, R192);
one whose partner reports pressure counts as held for budget (R198). -/
def admitNow (w : WriteRec) (c : AckClass) (leg sent : Bool) (s : State) : State :=
  let g := granuleOf w.line
  let s1 := writeState g w.region c s
  let m := s1.kor.mseqNext
  let s2 := if sent then sendLine w.line w.mask w.data w.poisoned s1 else s1
  let s3 := if sent ∧ s2.kor.marks.any (fun e => e.1 = g) then
      { s2 with kor := { s2.kor with marks := tins g m s2.kor.marks } } else s2
  let s4 := modWrite w.tag (fun x =>
    { x with hold := .none, eff := c, admitted := decide (c ≠ .vaulted), mirror := if leg then .waiting m else .none
             pressed := leg && s.kor.pressureIn }) s3
  let s5 := if leg && s.kor.pressureIn then { s4 with wrp := { s4.wrp with budgetHolds := satAdd 32 s4.wrp.budgetHolds 1 } } else s4
  if c = .vaulted then s5 else creditBack s5

/-- A granule's on-demand fetch is queued, joining one that is there (R315). -/
def queueFetch (g : Nat) (s : State) : State :=
  if s.dmp.fetching.contains g ∨ s.spn.mode = .dump then s
  else needDomains 9 (2 ^ (4 + quadOf s g))
    { s with dmp := { s.dmp with fetching := s.dmp.fetching ++ [g], bulk := s.dmp.bulk.filter (· ≠ g),
                                 fetches := satAdd 32 s.dmp.fetches 1 } }

/-- One attempt to admit a write that waits at the GST. -/
def tryAdmit (w : WriteRec) (s : State) : State :=
  let g := granuleOf w.line
  match admitHold s w, effFor s w.region g with
  | .none, some (c, leg, sent) => admitNow w c leg sent (noteHold w.hold s)
  | .restore, some (c, _, _) =>
    let s1 := noteHold w.hold s
    let s2 := if needsRsv s1 g c then takeRsv g s1 else if !(s1.gst.rsv.contains g) then takeTwin g s1 else s1
    queueFetch g (modWrite w.tag (fun x => { x with hold := .restore, everHeld := true }) s2)
  | h, _ =>
    if w.hold = h then s
    else
      let s1 := modWrite w.tag (fun x => { x with hold := h, everHeld := true }) (noteHold w.hold s)
      match h with
      | .budget => { s1 with wrp := { s1.wrp with budgetHolds := satAdd 32 s1.wrp.budgetHolds 1 } }
      | .share => { s1 with wrp := { s1.wrp with shareHolds := satAdd 32 s1.wrp.shareHolds 1 } }
      | .domain => needDomains 1 (2 ^ quadOf s g) s1
      | _ => s1

/-! ### Release of held writes (R155, R196) -/

/-- Each held write is held for what holds it now: a write first held for budget whose region's share alone still holds it is held for
that share (R195). -/
def relabel (s : State) : State :=
  (s.hlk.writes.filter (fun w => w.hold ≠ .none && w.hold ≠ .restore)).foldl (fun t w =>
    match admitHold t w with
    | .none => t
    | .restore => t
    | _ => tryAdmit w t) s

/-- Held writes whose admission would now succeed, or go on to a restore, in the order of release: first those held for the share of a
region `freed` names, oldest first (R196); then the requests that have waited at the ingress for a stopped domain, longer than
`AGE_NS` and so oldest first (R154, log 25); then by QoS class and age (R155). -/
def releasable (s : State) (freed : List Nat) : List WriteRec :=
  let l := s.hlk.writes.filter (fun w => w.hold ≠ .none && w.hold ≠ .restore
    && (admitHold s w = .none || admitHold s w = .restore))
  let pref := l.filter (fun w => w.hold = .share && freed.contains w.region)
  let aged := l.filter (fun w => w.hold = .domain)
  pref ++ aged ++ l.mergeSort (fun a b => (region s a.region).entry.qos ≤ (region s b.region).entry.qos)

/-- Held writes are released one after the other as long as one can be. A released write whose region is no longer ONLINE is
completed as R122 states. -/
def releaseLoop (freed : List Nat) : Nat → State → State
  | 0, s => s
  | n + 1, s =>
    match (releasable s freed).head? with
    | none => s
    | some w =>
      if s.hlk.ingressClosed || accessServed s (granuleOf w.line) then releaseLoop freed n (tryAdmit w s)
      else
        let s1 := noteHold w.hold s
        let s2 := { s1 with hlk := { s1.hlk with writes := s1.hlk.writes.filter (fun x => x.tag ≠ w.tag),
                                                 rwdFree := min 64 (s1.hlk.rwdFree + 1) } }
        let s3 := offlineAccess (offlIndex s2 (granuleOf w.line)) true s2
        releaseLoop freed n (if w.orphan then s3 else send (.ndr w.tag (devLoad s3)) s3)

/-! ### Completions (R134, R135, R137, R150) -/

/-- The LOCAL conditions of a write (R134): its line is in DRAM, and the state table has shown its granule in the dirty set since; a copy
that passed later holds the line. -/
def localMet (s : State) (w : WriteRec) : Bool :=
  w.inDram && (isDirty s (granuleOf w.line) || gstate s (granuleOf w.line) = .shadowed)

/-- A write has reached its ack class (R134). -/
def reached (s : State) (w : WriteRec) : Bool :=
  w.hold = .none && (w.released ||
    (localMet s w && (match w.mirror with | .waiting _ => false | _ => true) && (w.eff ≠ .vaulted || w.twinPassed)))

/-- The longest-completion field of a class follows a completion; writes that were held are left out. -/
def noteLatency (w : WriteRec) (s : State) : State :=
  if w.everHeld || w.pressed then s
  else
    let x := s.wrp
    let s1 := useFree s
    match w.eff with
    | .vaulted => { s1 with wrp := { x with vaultedUs := max x.vaultedUs (elapsedNow 32 s) } }
    | .mirrored => { s1 with wrp := { x with mirroredNs := max x.mirroredNs (elapsedNow 16 s) } }
    | .loc => { s1 with wrp := { x with localNs := max x.localNs (elapsedNow 16 s) } }

/-- A completion leaves MIRROR_STALE (R171): under the LOCAL conditions in SOLO, TRAINING or RESYNC, under the VAULTED ones without the
mirror condition in SOLO or TRAINING, and where the entry into SOLO dropped the write's leg. -/
def leavesStale (s : State) (w : WriteRec) : Bool :=
  let k := s.kor.state
  !w.released && isMirrored s w.region && (w.mirror = .dropped || (w.mirror = .none &&
    (k = .solo || k = .training || (k = .resync && w.eff = .loc))))

/-- A write's completion marks its granule stale where R171 says so; in RESYNC the granule joins those to resend. -/
def staleAfter (w : WriteRec) (s : State) : State :=
  let g := granuleOf w.line
  if !leavesStale s w then s
  else
    let s1 := setStale g true s
    if s.kor.state = .resync ∧ !(s.kor.resend.contains g) ∧ !(s.kor.marks.any (fun e => e.1 = g)) then
      { s1 with kor := { s1.kor with resend := sins g s1.kor.resend } }
    else s1

/-- The completion of a write is sent and its record ends. -/
def completeWrite (w : WriteRec) (s : State) : State :=
  let s1 := staleAfter w (noteLatency w (if w.pressed then noteHold .budget s else s))
  let s2 := modRegion w.region (fun x => { x with wrCount := wrapAdd 64 x.wrCount 1 })
    { s1 with hlk := { s1.hlk with writes := s1.hlk.writes.filter (fun x => x.tag ≠ w.tag) } }
  let s3 := if w.admitted then s2 else creditBack s2
  if w.orphan then s3 else send (.ndr w.tag (devLoad s3)) s3

/-- The first write, in order of receipt, that has reached its class with every older write to its line completed. -/
def completable (s : State) : Option WriteRec :=
  s.hlk.writes.find? (fun w => reached s w &&
    !((s.hlk.writes.takeWhile (fun x => x.tag ≠ w.tag)).any (fun x => x.line = w.line)))

/-- Completions are sent; none from t_x on (R162). -/
def completeLoop : Nat → State → State
  | 0, s => s
  | n + 1, s =>
    if s.hlk.ingressClosed then s
    else match completable s with
      | none => s
      | some w => completeLoop n (completeWrite w s)

/-! ### Reads (R151, R157) -/

/-- A read waits: for an uncompleted write to its line, for the restore of its granule, or for a stopped domain. -/
def readWaits (s : State) (r : ReadRec) : Bool :=
  let g := granuleOf r.line
  s.hlk.writes.any (fun w => w.line = r.line) || gstate s g = .pending || !memReady s (quadOf s g)

/-- The beats of a read leave quadrant `q` for the host link: those that a fault was armed for arrive with one bad symbol, which is
corrected in flight, or with two, and then poisoned (R19, R609 target 5). -/
def sendBeats (q tag : Nat) (data : BitVec 512) (poison : Bool) (s : State) : State :=
  if armedFor s q 5 then
    let two := (qdcOf s q).symbols = 2
    let s1 := beatCount (quadUnit q 0) two (planted q 5 s)
    sendDrs tag data (poison || two) (if two then raise 0x1101 0x01 [(1, quadUnit q 0), (1, 0x01)] s1 else s1)
  else sendDrs tag data poison s

/-- A read is answered. -/
def answerRead (r : ReadRec) (s : State) : State :=
  let g := granuleOf r.line
  let q := quadOf s g
  let s1 := { s with hlk := { s.hlk with reads := s.hlk.reads.filter (fun x => x.tag ≠ r.tag) } }
  if (qdcOf s1 q).state = 3 then sendBeats q r.tag 0 true s1
  else match gstate s1 g with
    | .free => sendBeats q r.tag 0 false s1
    | .poison => sendBeats q r.tag 0 true s1
    | .lost => sendBeats q r.tag 0 true s1
    | _ =>
      let x := readLine s1 r.line r.errs
      readEffects r.line true r.again x (sendBeats q r.tag x.data x.poisoned s1)

/-- Reads that no longer wait are answered; none from t_x on (R164). -/
def answerLoop : Nat → State → State
  | 0, s => s
  | n + 1, s =>
    if s.hlk.ingressClosed then s
    else match s.hlk.reads.find? (fun r => !readWaits s r) with
      | none => s
      | some r => answerLoop n (answerRead r s)

/-! ### Unprotected intervals (R294, R310) -/

/-- The LIST_HDR and LIST pages of the unprotected list, quadrant by quadrant (R310, R361), each in twin layout (R258). -/
def listPages (s : State) : Nat :=
  ((quadList s).map (fun q => 1 + ((s.gst.rsv.filter (fun g => quadOf s g = q)).length + 2047) / 2048)).foldl (· + ·) 0

/-- An unprotected interval begins or ends with the budget and D, and its list follows the granules that gain a reservation;
nothing begins or ends outside RESTORE, SERVICE and TEST. -/
def refreshUnprotected (s : State) : State :=
  if !serving s then s
  else
    let now := decide (s.wrp.b = 0 ∧ 0 < dCount s)
    if now && !s.wrp.unprotected then
      let s0 := drawTokens (2 * 16384 * listPages s) (beforeVault s)
      let q := s0.vlt.seq
      putMeta ((quadList s).flatMap (unprotPages s q s.gst.rsv)) <| raise 0x060C 0x0D [(1, 0), (4, dCount s)] (appendLog (.unprotectStart s.gst.rsv)
        { s0 with wrp := { s0.wrp with unprotected := true, unprotNoted := s.gst.rsv, unprotSeq := q } })
    else if !now && s.wrp.unprotected then
      raise 0x060C 0x0D [(1, 1), (4, dCount s)] (appendLog (.protectEnd s.wrp.unprotSeq)
        { s with wrp := { s.wrp with unprotected := false, unprotNoted := [] } })
    else if now then
      (s.gst.rsv.filter (fun g => !(s.wrp.unprotNoted.contains g))).foldl (fun t g =>
        appendLog (.append g) { t with wrp := { t.wrp with unprotNoted := sins g t.wrp.unprotNoted } }) s
    else s

/-! ### Everything that follows a change of the data path -/

/-- A granule in a ring wakes its clock-gated SDE (R566); in P2 the engines stay off until a capture is due (R570). -/
def wakeEngines (s : State) : State :=
  if !serving s ∨ s.pwr.pstate = 2 then s
  else (quadList s).foldl (fun t q =>
    if !(ringOf t q).isEmpty && t.pwr.down.testBit (dQeng q) then needDomains 7 (2 ^ (4 + q)) t else t) s

/-- What follows any change of states, budget, pair or pages: held mirror writes and repairs are tried again, twin programs
start, held writes are released, completions sent,
waiting reads answered, and an unprotected interval begins or ends; an update of the firmware may be over. `freed` are the regions at
their share limit that a granule has left. -/
def settleFor (freed : List Nat) (s : State) : State :=
  let n := s.hlk.writes.length
  let s1 := completeLoop n (releaseLoop freed n (relabel (completeLoop n (twinKick (repairKick (mirrorKick s))))))
  updateFollow (refreshUnprotected (wakeEngines (answerLoop s1.hlk.reads.length s1)))

/-- The same with no region preferred. -/
def settle (s : State) : State := settleFor [] s

/-- The regions at their share limit that granules with a reservation have just left (R196). -/
def shareFreed (before s : State) : List Nat :=
  (((before.gst.rsv.filter (fun g => !s.gst.rsv.contains g)).filterMap (regionOf before)).eraseDups).filter (fun r =>
    decide (shareLimit before r ≤ regionRsv before r))

end Sys2Proof.Machine
end

