-- ==== Sys2Proof/Machine/EnergyOps.lean ====
section
/-!
DEFINITION. Shared operations of the energy controller (06): estimates, the charge target, hold-up, quag gating, gauge
records, input sets and the end of a learning cycle. Divisions round down where the spec states no rounding (log 7).
-/

namespace Sys2Proof.Machine

/-! ### Capacitance, temperature, ESR -/

/-- Full store voltage V_full, mV (R204). -/
def vFull (s : State) : Nat := s.nrg.cells * param s 1

/-- Nameplate stack capacitance C_np, mF; 0 until a cell count is known (R204, R648). -/
def cNp (s : State) : Nat := if s.nrg.cells = 0 then 0 else param s 5 / s.nrg.cells

/-- C_use, mF (R221). -/
def cUseOf (s : State) : Nat :=
  let derated := param s 6 * cNp s / 100
  if s.nrg.cells = 0 then 0
  else if s.nrg.cLearned = 0 then derated
  else if s.nrg.swapDerate then min s.nrg.cLearned derated
  else s.nrg.cLearned

/-- The store temperature for limits: the higher NTC that is not excluded, or the diode plus 10 °C (R206). -/
def tempLimit (n : Nrg) : Int :=
  if n.ntc0Out && n.ntc1Out then n.tDiode + 100
  else if n.ntc0Out then n.tNtc1
  else if n.ntc1Out then n.tNtc0
  else max n.tNtc0 n.tNtc1

/-- The store temperature for ESR binning: the mean of the NTCs that are not excluded (R206). -/
def tempMean (n : Nrg) : Int :=
  if n.ntc0Out && n.ntc1Out then n.tDiode + 100
  else if n.ntc0Out then n.tNtc1
  else if n.ntc1Out then n.tNtc0
  else (n.tNtc0 + n.tNtc1) / 2

/-- The centre of an ESR bin, 0.1 °C (R230). -/
def binCentre (b : Nat) : Int := (b : Int) * 100 - 100

/-- The bin nearest to a temperature, clamped to the end bins (R230). -/
def binOf (t : Int) : Nat := min 7 ((t + 150) / 100).toNat

/-- A bin's ESR: its own, else that of the nearest measured bin, else 50 mΩ × CELLS, in 0.1 mΩ (R223). -/
def esrBin (n : Nrg) (b : Nat) : Nat :=
  let own := n.esr.getD b 0
  if own ≠ 0 then own
  else
    let near := ((List.range 8).filter (fun i => n.esr.getD i 0 ≠ 0)).mergeSort
      (fun i j => (max i b - min i b) ≤ (max j b - min j b))
    match near.head? with
    | some i => n.esr.getD i 0
    | none => 500 * n.cells

/-- ESR at a temperature, interpolated linearly between the two nearest bins and held beyond the ends (R220). -/
def esrAt (n : Nrg) (t : Int) : Nat :=
  if t ≤ -100 then esrBin n 0
  else if 600 ≤ t then esrBin n 7
  else
    let lo := ((t + 100) / 100).toNat
    let a : Int := esrBin n lo
    let b : Int := esrBin n (lo + 1)
    (a + (b - a) * (t - binCentre lo) / 100).toNat

/-- An ESR measurement at a current step: the size of the voltage change over that of the current change, 0.1 mΩ;
nothing for a step below 0.5 A (R226, R230). -/
def stepEsr (c : CurrentStep) : Option Nat :=
  let di := (c.iAfter - c.iBefore).natAbs
  let dv := ((c.vAfter : Int) - c.vBefore).natAbs
  if di < 500 then none else some (dv * 10000 / di)

/-- `ESR_HIGH` follows the 20 °C bin; its rise logs 0x0415 (R230). -/
def esrJudge (s : State) : State :=
  let n := s.nrg
  let high := decide (n.esrBase ≠ 0 ∧ 2 * n.esrBase < esrBin n 3)
  let s' := { s with nrg := { n with esrHigh := high } }
  if high && !n.esrHigh then raise 0x0415 0x03 [] s' else s'

/-- A measurement folded into its bin as old + (measured − old) / 8 (R230). -/
def foldEsr (c : CurrentStep) (s : State) : State :=
  match stepEsr c with
  | none => s
  | some m =>
    let b := binOf (tempMean s.nrg)
    let old : Int := esrBin s.nrg b
    let new := (old + ((m : Int) - old) / 8).toNat
    esrJudge { s with nrg := { s.nrg with esr := s.nrg.esr.set b new } }

/-! ### Estimates and input sets -/

/-- E_V, mJ (R220): mF × mV² is nJ. -/
def energyV (cUse vOcv vFloor : Nat) : Nat :=
  if vOcv ≤ vFloor then 0 else cUse * (vOcv ^ 2 - vFloor ^ 2) / 2000000

/-- E_Q, mJ (R220), for a charge in µC. -/
def energyQ (q cUse vFloor : Nat) : Nat :=
  if cUse = 0 then 0 else q * (2 * cUse * vFloor + q) / (2 * cUse * 1000000)

/-- E_usable_min (R222, R648). -/
def eUsable (s : State) : Nat :=
  let n := s.nrg
  if n.cells = 0 then 0
  else
    let e := if n.anchor = .unanchored then n.eV else min n.eV n.eQ
    if n.lstate = .waitBudget ∨ n.lstate = .running then min e n.eLearn else e

/-- e_GiB in use: the calibration result, otherwise ENERGY `E_GIB` (R187). -/
def eGibOf (s : State) : Nat := if s.nrg.eGibMeas ≠ 0 then s.nrg.eGibMeas else param s 9

/-- The energy controller sends the WRP an input set (R187, R222). -/
def sendInput (s : State) : State :=
  { s with wrp := { s.wrp with inbox := some ⟨eUsable s, param s 7, param s 8, eGibOf s, param s 10,
      !s.nrg.storePresent, s.nrg.swapDerate, s.nrg.lstate = .waitBudget ∨ s.nrg.lstate = .running⟩ } }

/-- V_target: V_full less CELLS × 100 mV for heat and for `CMB_FAIL` (R211). -/
def vTargetOf (s : State) : Nat :=
  let n := s.nrg
  vFull s - (if n.chargeDerate then n.cells * 100 else 0) - (if n.cmbFail then n.cells * 100 else 0)

/-- The conditions of CHG_EN (R211, R70). -/
def mayCharge (s : State) : Bool :=
  let n := s.nrg
  n.input = .good && !n.holdupEn && n.storePresent && !n.cellOver && tempLimit n ≤ 650 && n.cells ≠ 0

/-- The setpoint of the ramp from 0 to `I_SET` over the 100 ms after charging starts (R211), in steps of 1 ms (log 132). -/
def rampSet (n : Nrg) : Nat := n.iSet * min 100 n.ramp / 100

/-- `CHARGE_DERATE`, V_target, CHG_EN, C_use and Q_full brought up to date (R211, R218, R221); a rise of the derating logs
0x0414. The setpoint ramps up when charging starts. While the terminal voltage is held at V_target the setpoint driven is a free value
up to that (log 50). -/
def refreshCharge (s : State) : State :=
  let derate := decide (550 < tempLimit s.nrg)
  let s1 := if derate && !s.nrg.chargeDerate then raise 0x0414 0x03 [] s else s
  let s2 := { s1 with nrg := { s1.nrg with chargeDerate := derate } }
  let vt := vTargetOf s2
  let c := cUseOf s2
  let on := mayCharge s2
  let held := on && decide (vt ≤ s2.nrg.vStore + 50)
  let s2 := if held then useFree s2 else s2
  let n : Nrg := { s2.nrg with ramp := if on && s2.nrg.chgEn then s2.nrg.ramp else 0 }
  { s2 with nrg := { n with vTarget := vt, cUse := c, qFull := c * (vt - param s2 2), chgEn := on,
                            iNow := if held then Config.observed s2.free % (rampSet n + 1)
                                    else if on then rampSet n else 0 } }

/-- V_ocv, E_V and E_Q from the readings held (R220). -/
def refreshEstimates (s : State) : State :=
  let n := s.nrg
  let ocv := ((n.vStore : Int) - n.iStore * (esrAt n (tempMean n) : Int) / 10000).toNat
  let s1 := refreshCharge { s with nrg := { n with vOcv := ocv } }
  let n1 := s1.nrg
  { s1 with nrg := { n1 with
      eV := if n1.cells = 0 then 0 else energyV n1.cUse ocv (param s1 2)
      eQ := if n1.cells = 0 then 0 else energyQ n1.q n1.cUse (param s1 2)
      logOk := decide (param s1 16 ≤ ocv) } }

/-! ### Hold-up -/

/-- HOLDUP_ACT follows HOLDUP_EN with reason 1 or 3 (R296). -/
def actFollow (s : State) : State :=
  { s with dmp := { s.dmp with holdupAct := s.nrg.holdupEn && (s.nrg.reason = .input || s.nrg.reason = .calibration) } }

/-- HOLDUP_EN rises with a reason: the interlock drops CHG_EN in the same cycle (R210), `QUAG_OK` falls (R215), and the
gauge wakes (R237). -/
def assertHoldup (r : HoldReason) (s : State) : State :=
  let woke := s.nrg.hibernate
  let reason := if s.nrg.holdupEn && r ≠ .input then s.nrg.reason else r
  let s0 := quagFalls s
  let s1 := actFollow { s0 with nrg := { s0.nrg with
    holdupEn := true, reason := reason, chgEn := false, iNow := 0, ramp := 0, hibernate := false } }
  if woke then raise 0x040F 0x03 [] s1 else s1

/-- HOLDUP_EN falls; charging may resume. `QUAG_OK` stays 0 until 1 ms has passed (R215). -/
def releaseHoldup (s : State) : State :=
  refreshCharge (actFollow { s with nrg := { s.nrg with holdupEn := false, reason := .none, emptyTaken := false } })

/-- A learning cycle lets go of HOLDUP_EN, which falls unless the input watch or a dump holds it (R212, R226, R227). -/
def releaseLearnHoldup (s : State) : State :=
  if s.nrg.input = .good then releaseHoldup s else actFollow { s with nrg := { s.nrg with reason := .input } }

/-- The input hold-up ends: HOLDUP_EN falls unless learning or calibration holds it (R212). -/
def releaseInputHoldup (s : State) : State :=
  if s.nrg.lstate = .running then actFollow { s with nrg := { s.nrg with reason := .learning } }
  else if s.nrg.reason = .calibration then s
  else releaseHoldup s

/-! ### Gauge records -/

/-- A learning cycle is open: it has left WAIT_FULL and has not ended (R225). -/
def learnOpen (n : Nrg) : Bool := n.lstate = .waitBudget || n.lstate = .running

/-- The gauge record of the values in force (R232). -/
def gaugeRecOf (s : State) : GaugeRec :=
  let n := s.nrg
  { cells := n.cells, relearn := n.relearn, capSuspect := n.capSuspect, esrHigh := n.esrHigh, calValid := n.calValid,
    learnOpen := learnOpen n, swapDerate := n.swapDerate, seq := n.gaugeSeq + 1, cLearned := n.cLearned, kSlope := n.kSlope,
    cycles := n.cycles, storeId := n.storeId, esr := n.esr, esrBase := n.esrBase, eGibMeas := n.eGibMeas,
    learnSec := n.learnSec, calSec := n.calSec }

/-- The gauge record waiting in AOS is given to the IFC: the first slot of a sector is preceded by the sector's journalled erase
(R233). The record stays in AOS until it is written (R217). -/
def gaugeIssue (s : State) : State :=
  match s.aos.gauge with
  | none => s
  | some r =>
    if agentBusy .energy s || !s.nrg.quagOk then s
    else
      let sector := 704 + s.ifc.gaugeSlot / 32
      if s.ifc.gaugeSlot % 32 = 0 && !s.ifc.gaugeFresh then ifcAsk ⟨.energy, 0, .eraseSector sector, 0⟩ s
      else ifcAsk ⟨.energy, 0, .gauge r, 0⟩ s

/-- A gauge record is written (R235): at once, or from AOS when `QUAG_OK` is 0, with event 0x040E (R216, R217). It takes the place of one
that waits. -/
def gaugeWrite (s : State) : State :=
  let r := gaugeRecOf s
  let s1 := dropUnstarted .energy { s with nrg := { s.nrg with gaugeSeq := r.seq }, aos := { s.aos with gauge := some r } }
  if s.nrg.quagOk then gaugeIssue s1 else raise 0x040E 0x03 [] s1

/-- The `FLAGS` of a gauge record that a change writes (R235). -/
def gaugeFlags (n : Nrg) : List Bool := [n.relearn, n.capSuspect, n.esrHigh, n.calValid, n.swapDerate]

/-- `CYCLES` or an ESR bin, by more than 10 %, has changed since the record in force, no record waits, and 60 s have passed since the last
record of this cause (R235). -/
def countsDue (s : State) : Bool :=
  let moved := (List.range 8).any (fun i =>
    let a := s.nrg.recEsr.getD i 0
    let b := s.nrg.esr.getD i 0
    decide (a * 10 < (max a b - min a b) * 100))
  (moved || s.nrg.cycles ≠ s.nrg.recCycles) && s.aos.gauge.isNone && (match s.nrg.recSec with
    | some t => decide (t + 60 ≤ s.evr.opSec)
    | none => true)

/-- What follows a change of the gauge's values: a record (R235), and MSI-X vector 9 when `RELEARN_PENDING`,
`CAPACITY_SUSPECT` or `COUNT_DRIFT` changed (R236). -/
def gaugeAfter (old : Nrg) (s : State) : State :=
  let s1 := if old.relearn ≠ s.nrg.relearn ∨ old.capSuspect ≠ s.nrg.capSuspect ∨ old.countDrift ≠ s.nrg.countDrift
    then msix 9 s else s
  if gaugeFlags old ≠ gaugeFlags s.nrg ∨ old.storeId ≠ s.nrg.storeId then gaugeWrite s1
  else if countsDue s1 then gaugeWrite { s1 with nrg := { s1.nrg with recSec := some s1.evr.opSec } }
  else s1

/-! ### Learning -/

/-- What follows a store insertion or a detected swap (R239, R219). -/
def storeInserted (s : State) : State :=
  let old := s.nrg
  let s1 := { s with nrg := { s.nrg with relearn := true, swapDerate := true, firstSinceInsert := true, idPending := true,
                                         anchor := .unanchored, q := 0 } }
  gaugeAfter old (sendInput (refreshEstimates (msix 9 s1)))

/-- The store inserted is known by the `MODULE_ID` of its own cell monitor, which `STORE_ID` and event 0x040C then carry (R232, R239,
log 133). -/
def storeKnown (s : State) : State :=
  if s.nrg.idPending then
    gaugeAfter s.nrg (raise 0x040C 0x03 [(4, s.nrg.moduleId)]
      { s with nrg := { s.nrg with idPending := false, storeId := s.nrg.moduleId } })
  else s

/-- A learning cycle waits or runs. -/
def learning (s : State) : Bool :=
  s.nrg.lstate = .waitFull || s.nrg.lstate = .waitBudget || s.nrg.lstate = .running

/-- The background command START_LEARNING ends (R130). -/
def endLearnCmd (accepted : Bool) (s : State) : State :=
  match s.hlk.bg with
  | some c =>
    if c.opcode = 0xC009 then
      let ret := if accepted then Ret.success else .internalError
      let ext := if accepted then 0 else 0x0009
      let s1 := { s with hlk := { s.hlk with bg := none, bgStatus := ⟨0xC009, ret, ext⟩ } }
      let s2 := if accepted then s1 else raise 0x0207 0x01 [(2, 0xC009), (2, ext)] s1
      msix 0 (send (.mbox c.via 0xC009 ret ext
        [(4, s.nrg.cLearned), (1, if accepted then 0 else 1), (1, s.nrg.learnCause), (10, 0)]) s2)
    else s
  | none => s

/-- A cycle is disqualified with a cause (R227): hold-up is released unless a dump holds it, C_learned stands, a record
with `LEARN_OPEN` = 0 is written and 0x040A logged. Nothing happens when no cycle waits or runs. -/
def learnDisqualify (cause : Nat) (s : State) : State :=
  if learning s then
    let ran := decide (s.nrg.lstate = .running)
    let s1 := { s with nrg := { s.nrg with lstate := .disqualified, learnCause := cause, eLearn := 0
                                           failSec := if ran then s.nrg.failSec else some s.evr.opSec } }
    let s2 := if ran then releaseLearnHoldup s1 else s1
    endLearnCmd false (sendInput (gaugeWrite (raise 0x040A 0x03 [(1, cause)] s2)))
  else s

/-- The store goes absent (R238, R227): a learning cycle ends, CHG_EN falls, an input set makes B 0, and the count is unanchored. -/
def storeRemoved (s : State) : State :=
  let old := s.nrg
  let s1 := learnDisqualify 0x0B s
  gaugeAfter old (sendInput (refreshCharge (msix 9 (raise 0x040B 0x03 []
    { s1 with nrg := { s1.nrg with storePresent := false, anchor := .unanchored } }))))

/-- The store's presence follows the filtered STORE_PRES_N (R238, R587): a module whose absence the pin has shown since the filter started
has been inserted; one that was there from power-on only begins to count. -/
def storeFollow (s : State) : State :=
  let there := decide (s.pwr.storeFilter.st = .idle ∨ s.pwr.storeFilter.st = .qualify)
  if there && !s.nrg.storePresent then
    let s1 := { s with nrg := { s.nrg with storePresent := true } }
    if s.pwr.storeFilter.seen then
      storeInserted { s1 with pwr := { s1.pwr with storeFilter := { s1.pwr.storeFilter with seen := false } } }
    else sendInput (refreshEstimates s1)
  else if !there && s.nrg.storePresent then storeRemoved s
  else s

/-- c_learned and k of a finished cycle (R226): capacitances in µF, k in µF/V. -/
def learnResult (s : State) : Nat × Int :=
  let n := s.nrg
  let vl : Int := param s 4
  let vf : Int := param s 2
  let vs : Int := n.run.vStart
  let sp : Int := n.run.split
  let qu : Int := (n.run.qUpper.getD 0 : Nat)
  let ql : Int := (n.run.q : Int) - qu
  let cu := qu * 1000 / (vs - sp)
  let cl := ql * 1000 / (sp - vl)
  let k := (cu - cl) * 1000 / ((vs - vl) / 2)
  let cFloor := cl - k * ((sp + vl) / 2 - vf) / 1000
  let cFull := cu + k * ((vFull s : Int) - (vs + sp) / 2) / 1000
  ((min cFloor cFull / 1000).toNat, k)

/-- An accepted cycle (R228). -/
def learnAccept (c : Nat) (k : Int) (s : State) : State :=
  let n := s.nrg
  let meanT := if n.run.samples = 0 then tempMean n else n.run.sumT / (n.run.samples : Int)
  let b := binOf meanT
  let esr := n.esr.set b n.run.esr
  let n1 := { n with cLearned := c, kSlope := k, relearn := false, capSuspect := false, swapDerate := false, esr := esr,
                     lstate := .accepted, learnCause := 0, lastC := c, lastEsr := n.run.esr, learnSec := s.evr.opSec,
                     eLearn := 0 }
  let n2 := if n1.firstSinceInsert then { n1 with esrBase := esrBin n1 3, firstSinceInsert := false } else n1
  let s1 := releaseLearnHoldup (esrJudge { s with nrg := n2 })
  let s2 := { s1 with nrg := { s1.nrg with q := s1.nrg.qFull - n.run.q } }
  let s3 := if n.relearn ∨ n.capSuspect then msix 9 s2 else s2
  endLearnCmd true (sendInput (gaugeWrite (raise 0x0409 0x03 [(3, c), (2, n.run.esr)] (refreshEstimates s3))))

/-- V_ocv has reached `V_LEARN`: the result is computed and the cycle accepted or disqualified (R226 to R228). -/
def learnEnd (s : State) : State :=
  let n := s.nrg
  let avg := if n.run.samples = 0 then 0 else (n.run.sumI / (n.run.samples : Int)).natAbs
  let r := learnResult s
  let s1 := { s with nrg := { n with lastC := r.1, lastEsr := n.run.esr } }
  if avg < 500 ∨ 6000 < avg then learnDisqualify 0x02 s1
  else if r.1 * 100 < 50 * cNp s ∨ 120 * cNp s < r.1 * 100 then learnDisqualify 0x0A s1
  else learnAccept r.1 r.2 s

/-- The conditions under which a cycle starts from WAIT_FULL (R225); the anchor's 120 s age is time the model
does not hold (log 6). -/
def learnConditions (s : State) : Bool :=
  s.spn.mode = .service && decide (s.pwr.pstate ≤ 1) && s.nrg.storePresent && decide (100 ≤ tempLimit s.nrg) && decide (tempLimit s.nrg ≤ 400)
    && s.nrg.anchor = .full && s.nrg.quagOk

/-- The cycle leaves WAIT_FULL: E_learn limits the input and the WRP gets the set (R226); the record with `LEARN_OPEN` = 1
is written before HOLDUP_EN is asserted (R225). -/
def learnToBudget (s : State) : State :=
  let el := energyV s.nrg.cUse (param s 4) (param s 2)
  sendInput (gaugeWrite { s with nrg := { s.nrg with lstate := .waitBudget, eLearn := el }, wrp := { s.wrp with learning := false } })

/-- A cycle starts (R224): in WAIT_FULL until the conditions of R225 hold, else at once in WAIT_BUDGET. -/
def learnStart (s : State) : State :=
  let s1 := { s with nrg := { s.nrg with lstate := .waitFull, learnCause := 0, learnGo := false, run := {} } }
  if learnConditions s1 then learnToBudget s1 else s1

end Sys2Proof.Machine
end

