-- ==== Sys2Proof/Machine/Budget.lean ====
section
/-!
DEFINITION. The dirty budget's commands (05, R186 to R200).
-/

namespace Sys2Proof.Machine

/-- The rule of R186 on the latched inputs. -/
def rawBudget (forceZero absent : Bool) (cap eUsable reserve eFixed eGib : Nat) : Nat :=
  let num := (eUsable : Int) * (100 - reserve) / 100 - eFixed
  if forceZero ∨ absent ∨ cap = 0 ∨ num ≤ 0 then 0 else min cap (num.toNat * 65536 / eGib)

/-- The energy above E_fixed covers less than one granule (R199). -/
def energyShort (eUsable reserve eFixed eGib : Nat) : Bool :=
  let num := (eUsable : Int) * (100 - reserve) / 100 - eFixed
  decide (num ≤ 0 ∨ num.toNat * 65536 / eGib = 0)

/-- `ZERO_CAUSE` of R199: each cause that holds sets its bit. -/
def zeroCauseOf (low forceZero absent : Bool) (cap : Nat) : Nat :=
  flag absent + 2 * flag low + 4 * flag forceZero + 8 * flag (decide (cap = 0))

/-- The dirty budget is 0 for lack of store energy (R125). -/
def energyLack (s : State) : Bool := s.wrp.b == 0 && (s.wrp.zeroCause.testBit 0 || s.wrp.zeroCause.testBit 1)

/-- The 60 s of R125 start where the lack of store energy begins. -/
def lackStart (before s : State) : State :=
  if energyLack s && !energyLack before then { s with wrp := { s.wrp with zeroSec := s.evr.opSec } } else s

/-- A budget in force: conditions, leases, effective classes and the data path follow; B reaching or leaving 0 logs 0x0308. -/
def setBudget (b : Nat) (s : State) : State :=
  let old := s.wrp.b
  let s1 := { s with wrp := { s.wrp with b := b } }
  let s2 := if (old = 0) = (b = 0) then s1 else raise 0x0308 0x02 [(1, s1.wrp.zeroCause)] s1
  settle (refreshEff (shareFell s (refreshLeases (refreshConditions (decide (b < old)) s2))))

/-- A raw value has been computed: B is the least raw value of the last 10 ms (R186). -/
def takeRaw (raw cause : Nat) (s : State) : State :=
  let h := match s.wrp.rawHist with
    | [] => [raw]
    | x :: r => min x raw :: r
  lackStart s (setBudget (h.foldl min raw)
    { s with wrp := { s.wrp with bRaw := raw, zeroCause := cause, rawHist := h, valid := true } })

/-- A millisecond passes for the rule of R186: the value in force opens a new slot of the last 10 ms. -/
def budgetTick (s : State) : State :=
  if !s.wrp.valid then s
  else
    let h := (s.wrp.bRaw :: s.wrp.rawHist).take 10
    lackStart s (setBudget (h.foldl min s.wrp.bRaw) { s with wrp := { s.wrp with rawHist := h } })

/-- `INPUT_SET` (R188): the set waiting from the energy controller is latched and the rule computed. -/
def execInputSet (s : State) : Result :=
  .next (match s.wrp.inbox with
    | none => s
    | some i =>
      let raw := rawBudget s.wrp.forceZero i.storeAbsent i.cap i.eUsable i.reserve i.eFixed i.eGib
      takeRaw raw (zeroCauseOf (energyShort i.eUsable i.reserve i.eFixed i.eGib) s.wrp.forceZero i.storeAbsent i.cap)
        { s with wrp := { s.wrp with inbox := none, recompute := false, inEGib := i.eGib % 2 ^ 16,
                                     inEFixed := i.eFixed % 2 ^ 16, inReserve := i.reserve % 2 ^ 8,
                                     inEUsable := min i.eUsable (2 ^ 24 - 1), swapDerate := i.swapDerate,
                                     learning := i.learning } })

/-- A register write that R44 rejects in DUMP: event 0x1006. -/
def rejectInDump (s : State) : State := raise 0x1006 0x00 [] s

/-- `FORCE_ZERO_WRITE` (R199, R200): with the flag set B is 0 at once; cleared, the next input set computes it. -/
def execForceZeroWrite (v : Bool) (s : State) : Result :=
  .next (
    if s.spn.mode = .dump then rejectInDump s
    else
      let s1 := { s with wrp := { s.wrp with forceZero := v } }
      if v then takeRaw 0 (setBit s.wrp.zeroCause 2) s1
      else { s1 with wrp := { s1.wrp with zeroCause := clearBit s.wrp.zeroCause 2 } })

/-- `RECOMPUTE`: an input set is asked of the energy controller; the flag clears when it has been computed. -/
def execRecompute (s : State) : Result :=
  .next (if s.spn.mode = .dump then rejectInDump s else sendInput { s with wrp := { s.wrp with recompute := true } })

end Sys2Proof.Machine
end

