-- ==== Sys2Proof/Machine/LifeOps.lean ====
section
/-!
DEFINITION. The region lifecycle (04): starts, the start checks of R167, stops, and the end of the bulk restore (09).
-/

namespace Sys2Proof.Machine

/-- A region's start waits for the partner's word (R167, R385): MIRRORED, not in CONFLICT, in a mirrored pair. -/
def needsPartner (s : State) (r : Nat) : Bool :=
  isMirrored s r && !inConflict s r
    && (s.kor.state = .mirrored || s.kor.state = .resync || s.kor.state = .deciding)

/-- A region whose start the partner is not there to confirm (R389, R395): in TRAINING, MIRRORED regions and those held
adopted. -/
def partnerAbsent (s : State) (r : Nat) : Bool :=
  s.kor.state = .training && !inConflict s r && (isMirrored s r || (region s r).adopted)

/-- The key of a region is there (R167): PLAIN needs none; without a nonce jump left no slot can be used (R460). -/
def keyThere (s : State) (r : Nat) : Bool := !encrypted s r || ((slotOf s r).st = .on && !s.cip.exhausted)

/-- The start check that fails, by its `START_FAIL` code (R167); none where all pass. -/
def startCode (s : State) (r : Nat) : Option Nat :=
  if !serves s r then some 4
  else if !keyThere s r then some 1
  else if partnerAbsent s r then some 2
  else if fenced s then some 5
  else none

/-- The start checks of a region begin: STARTING, with an OPEN_QUERY where the partner is asked (R165, R385). -/
def beginChecks (r : Nat) (s : State) : State :=
  let s1 := setLife r .starting s
  if needsPartner s1 r then
    sendMsg (.openQuery r) { s1 with kor := { s1.kor with opening := sins r s1.kor.opening } }
  else s1

/-- A START of a region (R165). -/
def startRegion (r : Nat) (s : State) : State :=
  match (region s r).life with
  | .offline => if defined s r then beginChecks r s else modRegion r (fun x => { x with startFail := 3 }) s
  | .stopping => modRegion r (fun x => { x with reArm := true }) s
  | _ => s

/-- A STOP of a region (R165): a start under way is cancelled. -/
def stopReq (r : Nat) (s : State) : State :=
  match (region s r).life with
  | .online => stopRegion r s
  | .starting => setLife r .offline { s with kor := { s.kor with opening := sdel s.kor.opening r } }
  | _ => s

/-- A start fails: it no longer waits for the partner. -/
def endStart (r code : Nat) (s : State) : State :=
  failStart r code { s with kor := { s.kor with opening := sdel s.kor.opening r } }

/-- A region comes ONLINE; a region that had lacked its key resumes the restore of its PENDING granules (R324). -/
def goOnline (r : Nat) (s : State) : State :=
  let waited := decide ((region s r).startFail = 1)
  let n := (regionGranules s r (fun w => w.st = .pending)).length
  let s1 := setLife r .online s
  if waited ∧ 0 < n then raise 0x0707 0x0E [(1, r), (3, n)] s1 else s1

/-- The bulk restore is complete (R321): no region is STARTING and no granule of an ONLINE region is PENDING. -/
def bulkOver (s : State) : Bool :=
  !((List.range 256).any (fun r => (region s r).life = .starting
    || ((region s r).life = .online && !(regionGranules s r (fun w => w.st = .pending)).isEmpty)))

/-- Granules PENDING now. -/
def pendingCount (s : State) : Nat := (s.gst.states.filter (fun e => e.2.st = .pending)).length

/-- `RPHASE` and the mode follow the bulk restore (R321): 3 BULK, 4 DEFERRED, 5 DONE; in RESTORE its end is SERVICE with event
0x0701. -/
def bulkFollow (s : State) : State :=
  if !serving s || s.dmp.rphase < 3 then s
  else
    let left := pendingCount s
    let isOver := bulkOver s
    let s1 := { s with dmp := { s.dmp with rphase := if left = 0 then 5 else if isOver then 4 else 3 } }
    if s.spn.mode = .restore ∧ isOver then
      let t := elapsedNow 32 s1
      setMode .service 0x0701 (raise 0x0701 0x0E [(4, s1.dmp.restored), (4, t)]
        (useFree { s1 with dmp := { s1.dmp with bulkMs := t } }))
    else s1

/-! ### Release (R183, R184) -/

/-- A column of a granule whose result is discarded, its page ended or not: what ends later maps nothing (R183). -/
def dropCol (g : Nat) (c : Col) : Col := if colGranule c.what = some g then { c with what := discarded c.what } else c

/-- One granule of a range is released: FREE with MIRROR_STALE clear, its reservation given up, its running programs and restore
discarded, and the writes admitted to it released with it. -/
def releaseGranule (g : Nat) (s : State) : State :=
  let st := gstate s g
  let s1 := setWord g freeWord (dropRsv g (cipEndOp .decrypt g s))
  let s2 := { s1 with
    gst := { s1.gst with rebuilt := sdel s1.gst.rebuilt g, touch := tdel s1.gst.touch g }
    shd := { s1.shd with
      rows := s1.shd.rows.map (fun r => { r with cols := r.cols.map (dropCol g) })
      twins := s1.shd.twins.map (fun t => if t.granule = g then { t with discard := true } else t) }
    dmp := { s1.dmp with fetching := s1.dmp.fetching.filter (· ≠ g), bulk := s1.dmp.bulk.filter (· ≠ g) }
    kor := { s1.kor with
      ownCopies := s1.kor.ownCopies.filter (· ≠ g), resend := sdel s1.kor.resend g, marks := tdel s1.kor.marks g
      resendAt := match s1.kor.resendAt with | some a => if a.1 = g then none else some a | none => none }
    hlk := { s1.hlk with
      injected := sdel s1.hlk.injected g
      writes := s1.hlk.writes.map (fun w => if granuleOf w.line = g ∧ w.hold = .none then { w with released := true } else w) } }
  if st = .poison ∨ st = .lost then msix 10 s2 else s2

/-- Writes that waited for the restore of a released granule go on against FREE (R183). -/
def resumeWrites (s : State) : State :=
  (s.hlk.writes.filter (fun w => w.hold = .restore && gstate s (granuleOf w.line) ≠ .pending)).foldl
    (fun t w => tryAdmit w t) s

/-- The pointers of a SEQUENTIAL region after a release of granules `x` to `y` of its span (R182). -/
def releasePtrs (r x y : Nat) (s : State) : State :=
  let e := region s r
  if !e.entry.sequential then s
  else if granuleCount s r ≤ y ∧ x ≤ e.writePtr then
    modRegion r (fun z => { z with writePtr := x, shadowPtr := min z.shadowPtr x }) s
  else refreshShadowPtr r s

/-- The granules of a range that are not FREE. -/
def rangeUsed (s : State) (first count : Nat) : List Nat :=
  (s.gst.states.filter (fun e => first ≤ e.1 && e.1 < first + count && e.2.st ≠ .free)).map Prod.fst

/-- Every granule of a range of region `r` is released, in ascending DPA, and every vault copy superseded. -/
def releaseRange (r first count : Nat) (s : State) : State :=
  let s1 := appendLog (.release first count) (beforeVault s)
  let s2 := { s1 with vlt := { s1.vlt with
    map := s1.vlt.map.filter (fun e => !(first ≤ e.1 && e.1 < first + count))
    lostWait := s1.vlt.lostWait.filter (fun g => !(first ≤ g && g < first + count)) } }
  let listed := (s2.gst.states.filter (fun e => first ≤ e.1 && e.1 < first + count)).map Prod.fst
  let s3 := listed.foldl (fun t g => releaseGranule g t) s2
  resumeWrites (releasePtrs r (first - firstGranule s3 r) (first + count - firstGranule s3 r) s3)

/-- The whole span of a region is released. -/
def releaseSpan (r : Nat) (s : State) : State := releaseRange r (firstGranule s r) (granuleCount s r) s

end Sys2Proof.Machine
end

