-- ==== Sys2Proof/Machine/KorricOps.lean ====
section
/-!
DEFINITION. Shared operations of the Korric link unit (11): the exchange at link-up, the headers of received flits, SOLO and
the partner-loss decision, witness queries, the rejoin with its resends, adoption and pair records.
-/

namespace Sys2Proof.Machine

/-! ### Region digest (R101) -/

/-- The REGIONS `CLASS` byte of an entry (R64). -/
def classByte (e : RegionEntry) : Nat :=
  flag e.sequential + 2 * (match e.ack with | .loc => 0 | .mirrored => 1 | .vaulted => 2)
    + 8 * (match e.key with | .native => 0 | .derived => 1 | .plain => 2) + 32 * flag e.sideB + 64 * e.qos

/-- The digest of the Stop-class and Empty-class fields: `BASE`, `SIZE` and `CLASS` less the QoS class, entry after entry.
DESIGN CHOICE (log 13): R101 names the fields and no layout. -/
def regionDigest (s : State) : List Nat :=
  digestBytes (sha384Digest ((List.range 256).flatMap (fun r =>
    let e := (region s r).entry
    leBytes 2 e.base ++ leBytes 2 e.size ++ [classByte e % 64])))

/-- Part `k` of the digest, as the 12 bytes of `ARG0` and `ARG1` (R377). -/
def digestPart (s : State) (k : Nat) : Nat := leAt (regionDigest s) (12 * k) 12

/-! ### Sending -/

/-- The image's PAIR record, where it has one. -/
def tiebreakOf (s : State) : Bool := match s.img.active.pair with
  | some p => p.tiebreakB
  | none => false

/-- The STATE message of this side (R377). -/
def stateMsg (s : State) : KMsg :=
  .state s.kor.side (tiebreakOf s) s.cwy.myId s.kor.mepoch s.kor.mseqNext (pairCode s.kor.state)

/-- STATE and the four DIGEST parts are sent (R373). -/
def sendExchange (s : State) : State :=
  (List.range 4).foldl (fun t k => sendMsg (.digest k (digestPart t k)) t) (sendMsg (stateMsg s) s)

/-- Every flit of the replay buffer is sent again with its `FSEQ`; the replay counts and event 0x090C is logged (R378). -/
def replayAll (s : State) : State :=
  if s.kor.replay = [] then s
  else
    let s1 := raise 0x090C 0x05 [(2, s.kor.replay.length)]
      { s with kor := { s.kor with replays := satAdd 16 s.kor.replays 1 } }
    s1.kor.replay.foldl (fun t e => send (.flit (txHeader e.1 t) e.2) t) s1

/-! ### Pair records (R400) -/

/-- The record waiting in AOS is given to the IFC: the first slot of a sector that holds records follows the sector's journalled
erase. It stays in AOS until it is written (R217). -/
def pairIssue (s : State) : State :=
  match s.aos.pair with
  | none => s
  | some r =>
    if agentBusy .kor s || !s.nrg.quagOk then s
    else
      let sector := 1664 + s.kor.pairSlot / 32
      if s.kor.pairSlot % 32 = 0 && !(sectorErased sector s) then ifcAsk ⟨.kor, 1, .eraseSector sector, 0⟩ s
      else ifcAsk ⟨.kor, 1, .pair r, 0⟩ s

/-- A new record: now, or from AOS once `QUAG_OK` is 1 (R216, R217). -/
def pairWrite (adopted : List Nat) (mepoch : Nat) (s : State) : State :=
  let seq := ((s.aos.pair.map PairRecord.seq).getD s.kor.record.seq) + 1
  pairIssue (dropUnstarted .kor { s with aos := { s.aos with pair := some ⟨seq, adopted, mepoch⟩ } })

/-- The regions held adopted, ascending. -/
def adoptedRegions (s : State) : List Nat := (List.range 256).filter (fun r => (region s r).adopted)

/-! ### Mirror copies of the partner's regions -/

/-- Mirror copies that meet a test, ascending. -/
def mirrorCopies (s : State) (p : GWord → Bool) : List Nat :=
  (s.gst.states.filter (fun e => mirrorCopy s e.1 && p e.2)).map Prod.fst

/-- A DIRTY mirror copy is covered by the partner's vault: SHADOWED, reservation released (R178). -/
def copyShadowed (g : Nat) (s : State) : State :=
  if mirrorCopy s g ∧ gstate s g = .dirty then dropRsv g (setGState g .shadowed s) else s

/-! ### Adoption (R399) -/

/-- Ownership is taken of a region's mirror copies: SHADOWED ones are queued for ownership copies with LOST entries, and those
accepted without a reservation enter D, event 0x030E (R179, R399). -/
def takeOwnership (rs : List Nat) (s : State) : State :=
  let mine (g : Nat) : Bool := rs.any (fun r => inRegion s r g)
  let shad := (s.gst.states.filter (fun e => mine e.1 && e.2.st = .shadowed)).map Prod.fst
  let free := s.gst.unreserved.filter mine
  let s1 := if shad = [] then s else shad.foldl (fun t g =>
    appendLog (.lost g) (setMap g { mapOf t g with ref := 0, vpa := 0, lost := true } t)) (beforeVault s)
  let s2 := { s1 with kor := { s1.kor with ownCopies := s1.kor.ownCopies ++ shad } }
  let s3 := free.foldl (fun t g => takeRsv g { t with gst := { t.gst with unreserved := sdel t.gst.unreserved g } }) s2
  let s4 := if free = [] then s3 else raise 0x030E 0x02 [(3, free.length)] s3
  (s4.gst.states.filter (fun e => mine e.1 && e.2.st = .dirty)).foldl (fun t e => joinRing e.1 t) s4

/-- Regions are adopted: `ADOPTED`, ownership, STARTING, event 0x0907 with the command (0 TAKEOVER, 1 FORCE_TAKEOVER) and the
count (R399, R166). -/
def adoptRegions (rs : List Nat) (forced : Bool) (s : State) : State :=
  let s1 := takeOwnership rs (rs.foldl (fun t r => modRegion r (fun x => { x with adopted := true }) t) s)
  rs.foldl (fun t r => startRegion r t) (raise 0x0907 0x05 [(1, flag forced), (2, rs.length)] s1)

/-- The regions a takeover adopts: every defined region the partner owns and this side has not adopted (R397). -/
def partnerRegions (s : State) : List Nat := (List.range 256).filter (fun r => defined s r && !serves s r)

/-! ### SOLO (R389, R392) -/

/-- What a write that waits for the partner becomes when the pair enters SOLO: a MIRRORED one completes under LOCAL conditions, whatever
the budget, a VAULTED one drops the mirror condition (R137); it has been held. -/
def dropLeg (w : WriteRec) : WriteRec :=
  match w.mirror with
  | .waiting _ => { w with mirror := .dropped, everHeld := true, eff := if w.eff = .mirrored then .loc else w.eff }
  | _ => w

/-- A write waits for the partner's acknowledgement. -/
def legWaits (w : WriteRec) : Bool := match w.mirror with
  | .waiting _ => true
  | _ => false

/-- At the entry into SOLO every waiting write's mirror condition goes, and its granule is stale (R137, R171). -/
def dropLegs (s : State) : State :=
  let s1 := { s with hlk := { s.hlk with writes := s.hlk.writes.map dropLeg } }
  (s.hlk.writes.filter (fun w => legWaits w && !w.released)).foldl (fun t w => setStale (granuleOf w.line) true t) s1

/-- A range goes to the pending-release list, whose overflow sets `FULL_RESYNC` and logs 0x090E (R396). -/
def pendRelease (first count : Nat) (s : State) : State :=
  if s.kor.pendRel.length < 1024 then { s with kor := { s.kor with pendRel := s.kor.pendRel ++ [(first, count)] } }
  else if s.kor.fullResync then s
  else raise 0x090E 0x05 [] { s with kor := { s.kor with fullResync := true } }

/-- RELEASE_RANGE completes: event 0x030A with the region and the granules that were not FREE (R185). -/
def releaseOver (e : RelWait) (s : State) : State :=
  reply e.via 0xC001 .success 0 [(4, e.used), (4, 0)] (raise 0x030A 0x02 [(1, e.region), (4, e.used)] s)

/-- Notices of releases that came in DECIDING are sent once the pair is back (R185, R384). -/
def releaseNotices (s : State) : State :=
  if !noticesFlow s then s
  else
    let l := s.kor.relWait.filter (fun e => !e.sent)
    l.foldl (fun t e => sendNotice e.region (.releaseNotice e.first e.count) t)
      { s with kor := { s.kor with relWait := s.kor.relWait.map (fun e => { e with sent := true }) } }

/-- The commands that wait for RELEASE_DONE end in SOLO, and their ranges wait for the next rejoin (R392, R396). -/
def releaseAlone (s : State) : State :=
  s.kor.relWait.foldl (fun t e => releaseOver e (pendRelease e.first e.count t)) { s with kor := { s.kor with relWait := [] } }

/-- Writes that wait for a partner that reports pressure count as held for budget from now on (R198, log 77). -/
def pressWrites (s : State) : State :=
  let new (w : WriteRec) : Bool := legWaits w && !w.pressed
  { s with
    hlk := { s.hlk with writes := s.hlk.writes.map (fun w => if new w then { w with pressed := true } else w) }
    wrp := { s.wrp with budgetHolds := satAdd 32 s.wrp.budgetHolds (s.hlk.writes.filter new).length } }

/-- The partner's pressure changes: event 0x090A, the writes that wait, and the regime (R384, R198). -/
def takePressure (on : Bool) (s : State) : State :=
  if s.kor.pressureIn = on then s
  else
    let s1 := raise 0x090A 0x05 [(1, flag on)] { s with kor := { s.kor with pressureIn := on } }
    refreshRegime (if on then pressWrites s1 else s1)

/-- SOLO with a cause; 0 leaves the cause as it was. `live` says that the link still carries flits. -/
def enterSolo (cause : Nat) (live : Bool) (s : State) : State :=
  let was := s.kor.state
  let k := s.kor
  let waiting := s.hlk.writes.any legWaits
  let s1 := dropLegs (if was = .deciding && waiting then noteHold .decision s else s)
  let s2 := { s1 with
    kor := { s1.kor with
      soloCause := if cause = 0 then k.soloCause else cause
      copiesCurrent := cause = 1 && was = .deciding && k.before = .mirrored
      soloSec := s.evr.opSec, asking := false, opening := [], resend := [], resendAt := none, resyncOut := [], marks := []
      endSent := false, endSeen := false, repairOut := []
      trained := k.trained && live, up := k.up && live, width := if live then k.width else 0
      rxSwap := none, txSwap := none, swapReqOut := false } }
  let s3 := takePressure false (releaseAlone (setPair .solo (if cause = 0 then k.soloCause else cause) s2))
  let s4 := s3.kor.repairs.foldl (fun t a => repairRefused a t) s3
  settle s4

/-- Event 0x0904 with the outcome (the pair state entered), the witness and the duration (R391, R408). -/
def decisionEnd (p : PairState) (s : State) : State :=
  let t := elapsedNow 32 s
  useFree (raise 0x0904 0x05 [(1, pairCode p), (1, s.kor.witness), (4, t)] { s with kor := { s.kor with lastNs := t } })

/-- Start checks that waited for the partner when the pair went to SOLO are free of that check (R167): they end with
START_CHECKS_COMPLETE. A region failed with code 2 is started again at SOLO cause 7 (R389). -/
def soloSeven (s : State) : State :=
  let rs := (List.range 256).filter (fun r => (region s r).startFail = 2 && (region s r).life = .offline)
  rs.foldl (fun t r => startRegion r t) (enterSolo 7 false s)

/-! ### Witness (R393, R418) -/

/-- The query cannot be made: ring down, unit OFF, no head, a duplicate ID. -/
def noRing (s : State) : Bool :=
  s.cwy.unit ≠ .on || !s.cwy.ringUp || s.cwy.electing || s.cwy.dupId

/-- A witness query is recorded with its outcome: 1 DEAD, 2 ALIVE, 3 no answer; event 0x0A05. -/
def noteWitness (r : Nat) (s : State) : State :=
  let c := s.cwy
  raise 0x0A05 0x06 [(1, c.myId ^^^ 1), (1, r)]
    { s with
      cwy := { c with asking := none
                      dead := if r = 1 then satAdd 16 c.dead 1 else c.dead
                      alive := if r = 2 then satAdd 16 c.alive 1 else c.alive
                      noAnswer := if r = 3 then satAdd 16 c.noAnswer 1 else c.noAnswer }
      kor := { s.kor with witness := r } }

/-- The end of a takeover command: regions adopted and the witness answer, 0 dead, 1 alive, 2 no answer (R129); without a query of its own
the last query's answer, 0 where none was ever made. DESIGN CHOICE (log 128). -/
def takeoverEnd (force : Bool) (ret : Ret) (ext count : Nat) (s : State) : State :=
  bgEnd (if force then 0xC007 else 0xC006) ret ext [(2, count), (1, s.kor.witness - 1), (5, 0)]
    { s with kor := { s.kor with takeover := none } }

/-- A takeover goes on to its pair record (R400). -/
def takeoverAdopt (t : TakeoverCmd) (s : State) : State :=
  pairWrite ((adoptedRegions s ++ partnerRegions s).mergeSort (· ≤ ·)) s.kor.record.partnerMepoch
    { s with kor := { s.kor with takeover := some { t with wait := 2, answer := s.kor.witness } } }

/-- The witness has answered a takeover command (R397, R398). -/
def takeoverAnswer (t : TakeoverCmd) (r : Nat) (s : State) : State :=
  if s.kor.state ≠ .solo then takeoverEnd t.force .invalidInput 0x0005 0 s
  else if t.force then takeoverAdopt t s
  else if r = 1 ∧ s.kor.copiesCurrent then takeoverAdopt t s
  else if r = 1 then takeoverEnd false .invalidInput 0x000E 0 s
  else if r = 2 then takeoverEnd false .invalidInput 0x0005 0 s
  else takeoverEnd false .retryRequired 0x0006 0 s

/-- The pair enters SOLO out of a decision with the witness's answer as the cause (R389). -/
def decideSolo (cause : Nat) (live : Bool) (s : State) : State := enterSolo cause live (decisionEnd .solo s)

/-- The witness's answer, by what it was asked for; `none` is a decision, a training or a takeover that waits no more. -/
def witnessResult (why : WitnessFor) (r : Nat) (s : State) : State :=
  let s1 := noteWitness r s
  match why with
  | .decision => if s1.kor.state = .deciding ∧ s1.kor.asking then decideSolo r false s1 else s1
  | .training => if s1.kor.state = .training ∧ !s1.kor.up ∧ r = 1 then soloSeven s1 else s1
  | .takeover => match s1.kor.takeover with
    | some t => if t.wait = 1 then takeoverAnswer t r s1 else s1
    | none => s1

/-- A witness query about the partner (R393, R418): none leaves where it could not be answered, and a head that is itself the
requester answers at once. -/
def askWitness (why : WitnessFor) (s : State) : State :=
  let s1 := { s with cwy := { s.cwy with queries := satAdd 16 s.cwy.queries 1 } }
  if s.kor.wrongId then witnessResult why 3 (raise 0x0906 0x05 [(1, s.kor.pCwyId)] s1)
  else if noRing s then witnessResult why 3 s1
  else if s.cwy.isHead then
    match witnessAnswer s (s.cwy.myId ^^^ 1) with
    | some r => witnessResult why r s1
    | none => { s1 with cwy := { s1.cwy with asking := some (why, s.cwy.nextTag), nextTag := wrapAdd 16 s.cwy.nextTag 1 } }
  else
    frameSend s.cwy.headId s.cwy.nextTag (.witnessQ (s.cwy.myId ^^^ 1))
      { s1 with cwy := { s1.cwy with asking := some (why, s.cwy.nextTag), nextTag := wrapAdd 16 s.cwy.nextTag 1 } }

/-! ### Takeover commands (R397, R398) -/

/-- FORCE_TAKEOVER is accepted now (`FORCE_OK`, R398). -/
def forceOk (s : State) : Bool :=
  s.kor.state = .solo && s.kor.soloCause ≠ 6 &&
    ((s.kor.tbAgreed && tiebreakOf s = s.kor.side) || s.kor.forceWaitS ≤ s.evr.opSec - s.kor.soloSec)

/-- A takeover command is decided as far as the pair state allows. -/
def takeoverRun (t : TakeoverCmd) (s : State) : State :=
  let k := s.kor
  if k.state = .unpaired ∨ (k.state = .solo ∧ k.soloCause = 6) then takeoverEnd t.force .unsupported 0x000B 0 s
  else if k.state = .deciding then { s with kor := { k with takeover := some { t with wait := 0 } } }
  else if k.state = .mirrored ∨ k.state = .resync ∨ (k.state = .training ∧ k.up) then
    takeoverEnd t.force .invalidInput 0x0005 0 s
  else if k.state = .training then takeoverEnd t.force .retryRequired 0x0011 0 s
  else if t.force ∧ !forceOk s then takeoverEnd true .retryRequired 0x0007 0 s
  else askWitness .takeover { s with kor := { k with takeover := some { t with wait := 1 } } }

/-- A takeover that waited for the decision goes on (R397). -/
def takeoverResume (s : State) : State :=
  match s.kor.takeover with
  | some t => if t.wait = 0 ∧ s.kor.state ≠ .deciding then takeoverRun t s else s
  | none => s

/-- The pair record of a takeover has been written: the regions are adopted and the command completes (R399, R400). -/
def takeoverDone (s : State) : State :=
  match s.kor.takeover with
  | some t =>
    if t.wait ≠ 2 then s
    else
      let rs := partnerRegions s
      settle (takeoverEnd t.force .success 0 rs.length (adoptRegions rs t.force s))
  | none => s

/-! ### Resends (R401 step 5, R405) -/

/-- A line of the cache as it is resent or sent for a repair: its data, or its mark. -/
def cacheLine (s : State) (g line : Nat) : BitVec 512 × Bool :=
  match gstate s g with
  | .free => (0, false)
  | .poison => (0, true)
  | .lost => (0, true)
  | _ => let x := readLine s line []; (x.data, x.poisoned)

/-- One line of the granule being resent goes out; after its last line the next granule follows, with a SHADOW_NOTICE where the
granule is SHADOWED. -/
def resendLine (g k : Nat) (s : State) : State :=
  let m := s.kor.mseqNext
  let line := g * 256 + k
  let x := cacheLine s g line
  let s1 := sendLine line (2 ^ 64 - 1) x.1 x.2 s
  let s2 := { s1 with kor := { s1.kor with marks := tins g m s1.kor.marks, resyncOut := s1.kor.resyncOut ++ [m],
                                           resendAt := if k = 255 then none else some (g, k + 1) } }
  if k ≠ 255 then s2
  else
    let s3 := { s2 with kor := { s2.kor with resent := s2.kor.resent + 1 } }
    if gstate s3 g = .shadowed then sendMsg (.shadowNotice g m) s3 else s3

/-- Resync and repair lines not yet acknowledged (R383). -/
def linesOut (s : State) : Nat :=
  let isRepair (b : FlitBody) : Bool := match b with
    | .repair _ => true
    | _ => false
  s.kor.resyncOut.length + ((s.kor.replay.map Prod.snd ++ s.kor.txQueue).filter isRepair).length

/-- A line of a mirror copy sent for a repair (R407). -/
def sendRepairLine (g tag k : Nat) (s : State) : State :=
  let line := g * 256 + k
  let x := readLine s line []
  if x.poisoned then sendMsg (.poisonLine line tag) s
  else sendFlit (.repair [⟨tag, line, 2 ^ 64 - 1, x.data⟩]) s

/-- Repairs go on while fewer than 192 resync and repair lines are unacknowledged and their copy is there (R383, R407). -/
def repairLoop : Nat → State → State
  | 0, s => s
  | n + 1, s =>
    match s.kor.repairOut with
    | [] => s
    | (g, tag, k) :: rest =>
      if 192 ≤ linesOut s then s
      else if !(gstate s g = .dirty || gstate s g = .shadowed) then repairLoop n { s with kor := { s.kor with repairOut := rest } }
      else repairLoop n (sendRepairLine g tag k
        { s with kor := { s.kor with repairOut := if k = 255 then rest else (g, tag, k + 1) :: rest } })

/-- Lines of repairs go out as far as they may. -/
def repairSend (s : State) : State := repairLoop (256 * s.kor.repairOut.length) s

/-- Resends go on while fewer than 192 of their lines are unacknowledged (R383); a PENDING granule is fetched first, at bulk
class. -/
def resendLoop : Nat → State → State
  | 0, s => s
  | n + 1, s =>
    if 192 ≤ linesOut s then s
    else match s.kor.resendAt with
      | some (g, k) => resendLoop n (resendLine g k s)
      | none => match s.kor.resend with
        | [] => s
        | g :: rest =>
          if gstate s g = .pending then
            if s.dmp.bulk.contains g ∨ s.dmp.fetching.contains g then s
            else { s with dmp := { s.dmp with bulk := s.dmp.bulk ++ [g] } }
          else resendLoop n { s with kor := { s.kor with resend := rest, resendAt := some (g, 0) } }

/-- Nothing is left to resend or to be acknowledged. -/
def resendOver (s : State) : Bool := s.kor.resend = [] && s.kor.resendAt.isNone && s.kor.marks = []

/-- The stale granules of this side's MIRRORED regions, ascending. -/
def staleGranules (s : State) : List Nat :=
  (s.gst.states.filter (fun e => e.2.stale && ownGranule s e.1 && mirroredGranule s e.1
    && !(match regionOf s e.1 with | some r => inConflict s r | none => false))).map Prod.fst

/-- MIRRORED is reached (R389): event 0x0909, and the partner's MEPOCH goes into the pair record when it is new (R400). -/
def reachMirrored (s : State) : State :=
  let s1 := setPair .mirrored 0 (raise 0x0909 0x05 [(1, 1), (4, s.kor.resent)]
    { s with kor := { s.kor with fullResync := false } })
  settle (if s1.kor.record.partnerMepoch = s1.kor.pMepoch then s1 else pairWrite (adoptedRegions s1) s1.kor.pMepoch s1)

/-- Resends go on; RESYNC_END follows the last granule, and MIRRORED both ends and every acknowledgement (R389, R401). -/
def resendKick (s : State) : State :=
  if s.kor.state ≠ .resync ∧ s.kor.state ≠ .mirrored ∨ s.spn.mode = .dump then s
  else
    let s1 := resendLoop 449 s
    if s1.kor.state ≠ .resync then s1
    else
      let s2 := if s1.kor.resend = [] ∧ s1.kor.resendAt.isNone ∧ !s1.kor.endSent then
          sendMsg (.resyncEnd s1.kor.resent) { s1 with kor := { s1.kor with endSent := true } }
        else s1
      if s2.kor.endSent ∧ s2.kor.endSeen ∧ resendOver s2 then reachMirrored s2 else s2

/-! ### Link-up and rejoin (R395, R401, R402) -/

/-- This side's MIRRORED regions that the rejoin covers. -/
def rejoinRegions (s : State) : List Nat :=
  (List.range 256).filter (fun r => defined s r && isMirrored s r && serves s r && !inConflict s r)

/-- The SHADOW_MAPs of a region: a bit for every granule outside the dirty set and not FREE (R377, R401). -/
def shadowMaps (r : Nat) (s : State) : State :=
  let first := firstGranule s r
  let clean := regionGranules s r (fun w => !dirtyState w.st && w.st ≠ .free)
  (List.range (granuleCount s r / 64)).foldl (fun t b =>
    let f := first + 64 * b
    sendMsg (.shadowMap f (maskOf ((clean.filter (fun g => f ≤ g && g < f + 64)).map (· - f)))) t) s

/-- Every granule of a region that is not FREE becomes stale, after a RELEASE_NOTICE for its span (R402). -/
def fullResyncRegion (r : Nat) (s : State) : State :=
  (regionGranules s r (fun w => w.st ≠ .free)).foldl (fun t g => setStale g true t)
    (sendMsg (.releaseNotice (firstGranule s r) (granuleCount s r)) s)

/-- The rejoin steps 2 to 4, then RESYNC with step 5 (R401); a full resync where the partner's MEPOCH is not the recorded one or
`FULL_RESYNC` is set (R402). -/
def rejoin (s : State) : State :=
  let k := s.kor
  let s0 := setPair .training 0
    { s with kor := { k with fromSolo := k.state = .solo, copiesCurrent := if k.state = .solo then false else k.copiesCurrent,
                             arrived := [], resent := 0 } }
  let s1 := (adoptedRegions s0).foldl (fun t r => sendMsg (.adopted r) t) s0
  let s2 := s1.kor.pendRel.foldl (fun t e => sendMsg (.releaseNotice e.1 e.2) t) { s1 with kor := { s1.kor with pendRel := [] } }
  let full := decide (k.pMepoch ≠ k.record.partnerMepoch) || k.fullResync
  let s3 := (rejoinRegions s2).foldl (fun t r => if full then fullResyncRegion r t else shadowMaps r t) s2
  let st := staleGranules s3
  resendKick (setPair .resync 0 (raise 0x0909 0x05 [(1, 0), (4, st.length)]
    { s3 with kor := { s3.kor with resend := st, resendAt := none, resyncOut := [], marks := [], endSent := false } }))

/-- The rejoin can run: the exchange is complete without a finding of R395 that forbids it, and the granule states stand. -/
def mayRejoin (s : State) : Bool :=
  s.kor.up && !s.kor.sameSide && !s.kor.digestBad && serving s && (s.kor.state = .training || s.kor.state = .solo)

/-- The partner's digest, all of whose parts have arrived, differs from this side's. -/
def digestsDiffer (s : State) : Bool :=
  (List.range 4).any (fun k => tget 0 s.kor.digestSeen k ≠ digestPart s k)

/-- The exchange is complete: the link is up, event 0x0901, and the findings of R395 with 0x0906 for each. A side that finds
none runs the rejoin. -/
def linkUpKorric (s : State) : State :=
  let k := s.kor
  let same := decide (k.pSide = k.side)
  let bad := digestsDiffer s
  let wrong := decide (k.pCwyId ≠ s.cwy.myId ^^^ 1)
  let tb := decide (k.pTiebreak = tiebreakOf s)
  let s1 := raise 0x0901 0x05 [(1, k.width), (1, flag k.spareTx + 2 * flag k.spareRx)]
    { s with kor := { k with up := true, sameSide := same, digestBad := bad, wrongId := k.wrongId || wrong, tbAgreed := tb } }
  let finding (b : Bool) (c : Nat) (t : State) : State := if b then raise 0x0906 0x05 [(1, c)] t else t
  let s2 := finding wrong 3 (finding (!tb) 2 (finding bad 1 (finding same 0 s1)))
  if same ∨ bad then
    let s3 := if s2.kor.state = .solo then
        setPair .training 0 { s2 with kor := { s2.kor with copiesCurrent := false, fromSolo := true } } else s2
    enterSolo (if same then 6 else 5) true s3
  else if mayRejoin s2 then rejoin s2
  else s2

/-- The parts of this side's digest go to the partner over a link that is up (R101, R377). -/
def sendDigests (s : State) : State :=
  if s.kor.up then (List.range 4).foldl (fun t k => sendMsg (.digest k (digestPart t k)) t) s else s

/-- Whether the digests differ, where the partner's is here. -/
def noteDigests (s : State) : State :=
  if !s.kor.up ∨ s.kor.digestSeen.length < 4 then s else { s with kor := { s.kor with digestBad := digestsDiffer s } }

/-- A re-application has ended, here or at the partner: the digests are compared again (R101, R395). -/
def compareDigests (s : State) : State :=
  if !s.kor.up ∨ s.kor.digestSeen.length < 4 then s
  else
    let s1 := noteDigests s
    if s.kor.soloCause = 5 ∧ s.kor.state = .solo ∧ mayRejoin s1 then rejoin s1 else s1

/-! ### The decision (R391) -/

/-- Silence: the pair enters DECIDING and holds MIRRORED writes; event 0x0903. -/
def beginDecision (s : State) : State :=
  let k := s.kor
  raise 0x0903 0x05 [] (setPair .deciding 0
    { s with kor := { k with before := k.state, decisions := satAdd 16 k.decisions 1, asking := false }
             hlk := { s.hlk with writes := s.hlk.writes.map (fun w => match w.mirror with
               | .waiting _ => { w with everHeld := true }
               | _ => w) } })

/-- The partner is seen DUMPING (R394): MIRRORED, RESYNC and DECIDING end in SOLO cause 4. -/
def partnerDumping (s : State) : State :=
  match s.kor.state with
  | .deciding => takeoverResume (decideSolo 4 true s)
  | .mirrored => enterSolo 4 true s
  | .resync => enterSolo 4 true s
  | _ => s

/-- This side's own dump commit (R389, R276): a decision is abandoned and the pair is in SOLO cause 8, after the DUMPING notice. -/
def ownDump (s : State) : State :=
  if s.kor.state = .unpaired then s
  else
    let s1 := sendMsg (.dumpNotice 0 s.dmp.seq) s
    if s1.kor.state = .deciding then decideSolo 8 true s1
    else if s1.kor.state = .solo then { s1 with kor := { s1.kor with soloCause := 8 } }
    else enterSolo 8 true s1

/-! ### Received flits -/

/-- The cumulative acknowledgement that `MACK_LO` stands for (R382): the value above the last one, within the lines sent. -/
def fullMack (s : State) (lo : Nat) : Nat :=
  let d := (lo + 2 ^ 24 - s.kor.mack % 2 ^ 24) % 2 ^ 24
  let n := (s.kor.mack + d) % 2 ^ 32
  if d < 2 ^ 15 ∧ seqLe n ((s.kor.mseqNext + 2 ^ 32 - 1) % 2 ^ 32) then n else s.kor.mack

/-- The acknowledgement advances: the writes it covers are released, resync lines and resend marks met (R382, R405). -/
def takeMack (m : Nat) (s : State) : State :=
  if m = s.kor.mack then s
  else
    let t := elapsedNow 32 s
    let cleared := s.kor.marks.filter (fun e => seqLe e.2 m && !(s.kor.resendAt.any (fun a => a.1 = e.1)))
    let s1 := useFree { s with
      hlk := { s.hlk with writes := s.hlk.writes.map (fun w => match w.mirror with
        | .waiting q => if seqLe q m then { w with mirror := .acked } else w
        | _ => w) }
      kor := { s.kor with mack := m, rtt := t, rttMax := max s.kor.rttMax t
                          resyncOut := s.kor.resyncOut.filter (fun q => !seqLe q m)
                          marks := s.kor.marks.filter (fun e => !(cleared.contains e)) } }
    resendKick (settle (cleared.foldl (fun u e => setStale e.1 false u) s1))

/-- Flits still in the replay buffer after an acknowledgement of `f` (R378). -/
def afterFack (f : Nat) (l : List (Nat × FlitBody)) : List (Nat × FlitBody) :=
  match l.dropWhile (fun e => e.1 ≠ f) with
  | [] => l
  | _ :: rest => rest

/-- The header of an accepted flit acts (R374, R378, R382, R384, R394). -/
def takeHeader (h : FlitHdr) (s : State) : State :=
  let s1 := repairSend (drainQueue { s with kor := { s.kor with replay := afterFack h.fack s.kor.replay } })
  let s2 := if h.nak then replayAll s1 else s1
  let s3 := takeMack (fullMack s2 h.mackLo) s2
  let s4 := takePressure h.pressure s3
  if h.dumping then partnerDumping s4 else s4

/-- A flit reaches a unit that is powered and whose lanes are trained. -/
def korHears (s : State) : Bool := s.kor.unitOn && s.kor.trained

/-- A message or the slots of a sequenced flit: taken in order, and once (R378). `idx` is the message's place in the flit. -/
def inOrder (s : State) (h : FlitHdr) (idx : Nat) : Bool :=
  h.fseq = wrapAdd 16 s.kor.rxSeq 1 || (h.fseq = s.kor.rxSeq && s.kor.rxIdx < idx)

/-- A control message of a flit is taken, or the flit is discarded as out of order. The header acts with the flit's first
message. -/
def takeMsg (h : FlitHdr) (idx : Nat) (k : State → State) (s : State) : State :=
  if !korHears s then s
  else if !inOrder s h idx then s
  else
    let fresh := decide (h.fseq ≠ s.kor.rxSeq)
    let s1 := { s with kor := { s.kor with rxSeq := h.fseq, rxIdx := idx } }
    k (if fresh then takeHeader h s1 else s1)

end Sys2Proof.Machine
end

