-- ==== Sys2Proof/Machine/Korric.lean ====
section
/-!
DEFINITION. The commands of the Korric link unit (11): received flits and messages, lanes, training, the decision, witness
answers and takeovers.
-/

namespace Sys2Proof.Machine

/-! ### Flits -/

/-- `HEARTBEAT` (R380, R382): the header of a received flit acts. -/
def execHeartbeat (h : FlitHdr) (s : State) : Result := .next (if korHears s then takeHeader h s else s)

/-- `CORRUPT_FLIT` (R375, R378): a flit is discarded unread, and the next flit sent carries `NAK`. -/
def execCorruptFlit (uncorrectable : Bool) (s : State) : Result :=
  .next (if !korHears s then s
    else { s with kor := { s.kor with
      crc := satAdd 16 s.kor.crc 1
      fecUncorr := if uncorrectable then satAdd 16 s.kor.fecUncorr 1 else s.kor.fecUncorr
      nakOut := true } })

/-- `HEARTBEAT_TIMER` (R380). -/
def execHeartbeatTimer (s : State) : Result := .next (sendFlit .heartbeat s)

/-- `REPLAY_TIMEOUT` (R378). -/
def execReplayTimeout (s : State) : Result := .next (if korHears s then replayAll s else s)

/-- What only a link that is up brings, outside DUMP, where no mirror write is applied (R277). -/
def whenUp (k : State → State) (s : State) : State := if s.kor.up ∧ s.spn.mode ≠ .dump then k s else s

/-- `MIRROR` (R382): the slots of a MIRROR flit. -/
def execMirror (h : FlitHdr) (slots : List LineSlot) (s : State) : Result :=
  .next (takeMsg h 15 (whenUp (fun s =>
    settle (ackFollow ((slots.take 3).foldl (fun t sl => mirrorIn sl false t) s)))) s)

/-- `REPAIR` (R407): lines of a repair arrive; its last one lets it be applied. -/
def execRepair (h : FlitHdr) (slots : List LineSlot) (s : State) : Result :=
  .next (takeMsg h 15 (whenUp (fun s =>
    settle ((slots.take 3).foldl (fun t sl =>
      if sl.mask = 0 then t
      else { t with kor := { t.kor with repairs := t.kor.repairs.map (fun a =>
        if a.tag = sl.mseq % 256 ∧ a.granule = granuleOf sl.line ∧ !(a.got.any (fun e => e.1 = sl.line)) then
          { a with got := a.got ++ [(sl.line, sl.data)] } else a) } }) s))) s)

/-! ### The exchange -/

/-- The exchange is complete once STATE and the four DIGEST parts have arrived (R373). -/
def exchangeCheck (s : State) : State :=
  if !s.kor.up ∧ s.kor.stateSeen ∧ 4 ≤ s.kor.digestSeen.length then linkUpKorric s else s

/-- `STATE` (R377, R395): the partner's side, tiebreak, Causeway ID, MEPOCH and next `MSEQ`. -/
def execState (h : FlitHdr) (idx : Nat) (sideB tiebreakB : Bool) (cwyId mepoch mseqNext : Nat) (s : State) :
    Result :=
  .next (takeMsg h idx (fun s =>
    let k := { s.kor with pSide := sideB, pTiebreak := tiebreakB, pCwyId := cwyId % 64, pMepoch := mepoch % 2 ^ 32 }
    if s.kor.up then { s with kor := k }
    else
      let last := (mseqNext + 2 ^ 32 - 1) % 2 ^ 32
      exchangeCheck { s with kor := { k with stateSeen := true, rxLast := last, rxMseq := last, held := [], heldPoison := [] } }) s)

/-- `DIGEST` (R101): a part of the partner's region digest; after link-up, the last part of a new one is compared. -/
def execDigest (h : FlitHdr) (idx part value : Nat) (s : State) : Result :=
  .next (takeMsg h idx (fun s =>
    if 4 ≤ part then s
    else
      let s1 := { s with kor := { s.kor with digestSeen := tins part (value % 2 ^ 96) s.kor.digestSeen } }
      if s1.kor.up then (if part = 3 then compareDigests s1 else s1) else exchangeCheck s1) s)

/-! ### Start checks -/

/-- `OPEN_QUERY` (R385): answered 1 where the region is adopted here, 2 in CONFLICT, 0 in MIRRORED and RESYNC, else not. -/
def execOpenQuery (h : FlitHdr) (idx r : Nat) (s : State) : Result :=
  .next (takeMsg h idx (whenUp (fun s =>
    if (region s r).adopted then sendMsg (.openReply r 1) s
    else if inConflict s r then sendMsg (.openReply r 2) s
    else if s.kor.state = .mirrored ∨ s.kor.state = .resync then sendMsg (.openReply r 0) s
    else s)) s)

/-- `OPEN_REPLY` (R385): answer 0 passes the third start check, 1 fails the start with code 4, 2 with code 2. -/
def execOpenReply (h : FlitHdr) (idx r answer : Nat) (s : State) : Result :=
  .next (takeMsg h idx (whenUp (fun s =>
    if !(s.kor.opening.contains r) then s
    else if answer = 0 then { s with kor := { s.kor with opening := sdel s.kor.opening r } }
    else bulkFollow (endStart r (if answer = 1 then 4 else 2) s))) s)

/-! ### Notices -/

/-- `SHADOW_NOTICE` (R178): covers a DIRTY copy whose latest mirror write has not a later `MSEQ`. -/
def execShadowNotice (h : FlitHdr) (idx g mseq : Nat) (s : State) : Result :=
  .next (takeMsg h idx (whenUp (fun s =>
    if s.kor.lastMseq.all (fun e => e.1 ≠ g || seqLe e.2 mseq) && !(s.kor.held.any (fun sl => granuleOf sl.line = g)) then
      let s1 := copyShadowed g s
      settleFor (shareFreed s s1) s1
    else s)) s)

/-- `SHADOW_MAP` (R401 step 4): not for a granule with a mirror write since link-up. -/
def execShadowMap (h : FlitHdr) (idx first bits : Nat) (s : State) : Result :=
  .next (takeMsg h idx (whenUp (fun s =>
    settle ((setBits 64 bits).foldl (fun t i =>
      if t.kor.arrived.contains (first + i) then t else copyShadowed (first + i) t) s))) s)

/-- `RELEASE_NOTICE` (R178, R185): mirror copies of the range become FREE, held lines of it go with them, and RELEASE_DONE
answers. -/
def execReleaseNotice (h : FlitHdr) (idx first count : Nat) (s : State) : Result :=
  .next (takeMsg h idx (whenUp (fun s =>
    let inRange (g : Nat) : Bool := first ≤ g && g < first + count && mirrorCopy s g
    let s1 := { s with kor := { s.kor with
      held := s.kor.held.filter (fun sl => !inRange (granuleOf sl.line)) } }
    let s2 := ((s1.gst.states.filter (fun e => inRange e.1)).map Prod.fst).foldl
      (fun t g => setWord g freeWord (dropRsv g t)) s1
    settle (sendMsg (.releaseDone first count) (ackFollow s2)))) s)

/-- `RELEASE_DONE` (R185): the RELEASE_RANGE that waits for the range completes. -/
def execReleaseDone (h : FlitHdr) (idx first : Nat) (s : State) : Result :=
  .next (takeMsg h idx (whenUp (fun s =>
    match s.kor.relWait.find? (fun e => e.first = first && e.sent) with
    | none => s
    | some e => releaseOver e { s with kor := { s.kor with relWait := s.kor.relWait.erase e } })) s)

/-- `PRESSURE` (R384). -/
def execPressure (h : FlitHdr) (idx : Nat) (on : Bool) (s : State) : Result :=
  .next (takeMsg h idx (fun s => if s.kor.up then takePressure on s else s) s)

/-- `PRESSURE_OFF_TIMER` (R384). -/
def execPressureOffTimer (s : State) : Result :=
  .next (if s.kor.held.any (fun sl => mirrorBlock s (granuleOf sl.line) = 1) then s else setPressure false s)

/-- `DUMP_NOTICE` (R394): DUMPING ends MIRRORED, RESYNC and DECIDING; COMPLETE makes every DIRTY copy of the partner's regions
SHADOWED. Event 0x090B. -/
def execDumpNotice (h : FlitHdr) (idx kind seq : Nat) (s : State) : Result :=
  .next (takeMsg h idx (fun s =>
    if !s.kor.up then s
    else
      let s1 := raise 0x090B 0x05 [(1, kind), (4, seq)] s
      if kind = 0 then partnerDumping s1
      else if kind = 1 ∧ s.spn.mode ≠ .dump then
        settle ((mirrorCopies s1 (fun w => w.st = .dirty)).foldl (fun t g => copyShadowed g t) s1)
      else s1) s)

/-- `POISON_LINE` (R386, R407): a line of a repair this side asked for, else a mirror write of the mark. -/
def execPoisonLine (h : FlitHdr) (idx line mseq : Nat) (s : State) : Result :=
  .next (takeMsg h idx (whenUp (fun s =>
    let g := granuleOf line
    if s.kor.repairs.any (fun a => a.granule = g && a.tag = mseq) ∧ !mirrorCopy s g then
      settle { s with kor := { s.kor with repairs := s.kor.repairs.map (fun a =>
        if a.granule = g ∧ a.tag = mseq ∧ !(a.poisoned.contains line) then { a with poisoned := a.poisoned ++ [line] }
        else a) } }
    else settle (ackFollow (mirrorIn ⟨mseq, line, 2 ^ 64 - 1, 0⟩ true s)))) s)

/-! ### Repair (R407) -/

/-- `REPAIR_REQ` (R407): 0 with the 256 lines of a DIRTY or SHADOWED copy, 2 for a FREE one, 1 otherwise; event 0x0910. -/
def execRepairReq (h : FlitHdr) (idx g tag : Nat) (s : State) : Result :=
  .next (takeMsg h idx (whenUp (fun s =>
    let st := gstate s g
    let answer := if mirrorCopy s g ∧ (st = .dirty ∨ st = .shadowed) then 0 else if st = .free then 2 else 1
    let s1 := sendMsg (.repairReply g answer tag) (raise 0x0910 0x05 [(5, g * 16384), (1, answer)] s)
    if answer = 0 then repairSend { s1 with kor := { s1.kor with repairOut := s1.kor.repairOut ++ [(g, tag, 0)] } } else s1)) s)

/-- `REPAIR_REPLY` (R407): 0 lets the lines come, any other answer refuses the repair. -/
def execRepairReply (h : FlitHdr) (idx g answer tag : Nat) (s : State) : Result :=
  .next (takeMsg h idx (whenUp (fun s =>
    match s.kor.repairs.find? (fun a => a.tag = tag && a.granule = g) with
    | none => s
    | some a => if answer = 0 then s else repairRefused a s)) s)

/-! ### Rejoin (R401 to R404) -/

/-- `RESYNC_END` (R389). -/
def execResyncEnd (h : FlitHdr) (idx : Nat) (s : State) : Result :=
  .next (takeMsg h idx (whenUp (fun s =>
    resendKick { s with kor := { s.kor with endSeen := true } })) s)

/-- A CONFLICT begins or ends: event 0x0908 (R403). -/
def setConflict (r : Nat) (on : Bool) (s : State) : State :=
  if inConflict s r = on then s
  else refreshEff (raise 0x0908 0x05 [(1, r), (1, flag on)]
    { s with kor := { s.kor with conflicts := if on then sins r s.kor.conflicts else sdel s.kor.conflicts r } })

/-- `ADOPTED` (R403): the owner releases its own copies of a region that is not ONLINE, answer 0; an ONLINE one is in CONFLICT,
answer 1. -/
def execAdopted (h : FlitHdr) (idx r : Nat) (s : State) : Result :=
  .next (takeMsg h idx (whenUp (fun s =>
    if !defined s r ∨ !serves s r then s
    else if (region s r).life = .online then settle (sendMsg (.adoptReply r 1) (setConflict r true s))
    else settle (sendMsg (.adoptReply r 0) (raise 0x090F 0x05 [(1, r)] (flushLog (releaseSpan r s)))))) s)

/-- A region is resent whole to the partner (R402, R403). -/
def resyncRegion (r : Nat) (s : State) : State :=
  let s1 := fullResyncRegion r s
  resendKick { s1 with kor := { s1.kor with resend := (regionGranules s1 r (fun w => w.stale)).foldl (fun t g => sins g t) s1.kor.resend } }

/-- `ADOPT_REPLY` (R403): 1 declares the CONFLICT; 0, where one is declared, ends it: the partner is now the mirror side. -/
def execAdoptReply (h : FlitHdr) (idx r answer : Nat) (s : State) : Result :=
  .next (takeMsg h idx (whenUp (fun s =>
    if !(region s r).adopted then s
    else if answer = 1 then settle (setConflict r true s)
    else if inConflict s r then settle (resyncRegion r (setConflict r false s))
    else s)) s)

/-- `RETURN` (R404): the adopter's adoption has ended; the owner takes ownership of its copies. In a CONFLICT the owner is the side
that goes on serving, and resends the region (R403). -/
def execReturn (h : FlitHdr) (idx r : Nat) (s : State) : Result :=
  .next (takeMsg h idx (whenUp (fun s =>
    if !defined s r ∨ (region s r).entry.sideB ≠ s.kor.side then s
    else if inConflict s r then settle (resyncRegion r (setConflict r false s))
    else
      let s1 := takeOwnership [r] s
      let s2 := { s1 with kor := { s1.kor with returning := sins r s1.kor.returning } }
      if s2.kor.ownCopies.any (inRegion s2 r) then s2
      else sendMsg (.ownCopyDone r) { s2 with kor := { s2.kor with returning := sdel s2.kor.returning r } })) s)

/-- `OWN_COPY_DONE` (R404): the adopter appends a RELEASE for the region's span; its vault copies are superseded. -/
def execOwnCopyDone (h : FlitHdr) (idx r : Nat) (s : State) : Result :=
  .next (takeMsg h idx (whenUp (fun s =>
    if !(s.kor.gaveBack.contains r) then s
    else
      let a := firstGranule s r
      let n := granuleCount s r
      let s1 := appendLog (.release a n) (beforeVault s)
      raise 0x090F 0x05 [(1, r)]
        { s1 with kor := { s1.kor with gaveBack := sdel s1.kor.gaveBack r },
                  vlt := { s1.vlt with map := s1.vlt.map.filter (fun e => !(a ≤ e.1 && e.1 < a + n)) } })) s)

/-! ### Lanes (R387, R388) -/

/-- Corrected FEC symbols are counted in units of 1,024 (`FEC_SYM`). -/
def countSymbols (n : Nat) (s : State) : State :=
  let k := s.kor.fecRem + n
  { s with kor := { s.kor with fecRem := k % 1024, fecSym := satAdd 16 s.kor.fecSym (k / 1024) } }

/-- `LANE_FAULT` (R387): a receive lane has lost lock, or its `symbols` corrected in 1 ms exceed `SWAP_THRESH`; `received` is the last
codeword received. With the spare in use the link is lost (R388). -/
def execLaneFault (lane : Nat) (lockLost : Bool) (symbols received : Nat) (s0 : State) : Result :=
  .next (
    let s := if korHears s0 then countSymbols symbols s0 else s0
    if !korHears s ∨ s.kor.rxFailed.testBit lane ∨ !lockLost ∧ symbols ≤ s.kor.swapThresh then s
    else
      let cause := flag (!lockLost)
      let s1 := { s with kor := { s.kor with rxFailed := setBit s.kor.rxFailed lane } }
      if s.kor.spareRx ∨ s.kor.rxSwap.isSome then { s1 with kor := { s1.kor with trained := false } }
      else
        let cw := (received + 128) % 2 ^ 32
        sendMsg (.laneSwap cause lane cw)
          { s1 with kor := { s1.kor with rxSwap := some (lane, cause, cw), swapReqOut := true } })

/-- `LANE_SWAP` (R387): the far receiver asks for a swap; `sent` is the last codeword sent. A codeword already sent gives way to
the next multiple of 128. -/
def execLaneSwap (h : FlitHdr) (idx cause lane codeword sent : Nat) (s : State) : Result :=
  .next (takeMsg h idx (fun s =>
    if !s.kor.up ∨ s.kor.spareTx then s
    else
      let cw := if seqLe codeword sent then (sent / 128 + 1) * 128 % 2 ^ 32 else codeword
      { s with kor := { s.kor with txFailed := setBit s.kor.txFailed (lane % 16), txSwap := some (lane % 16, cause, cw) } }) s)

/-- `LANE_SWITCH` (R387): the switch codeword is reached; the end moves the lane onto the spare, event 0x0902 with direction (0
transmit, 1 receive), lane and cause. The transmitter acknowledges in its first flit after it. -/
def execLaneSwitch (tx : Bool) (s : State) : Result :=
  .next (
    let count (t : State) : State := { t with kor := { t.kor with swaps := satAdd 16 t.kor.swaps 1 } }
    if tx then
      match s.kor.txSwap with
      | none => s
      | some (lane, cause, cw) =>
        sendMsg (.laneSwapAck lane cw) (raise 0x0902 0x05 [(1, 0), (1, lane), (1, cause)]
          (count { s with kor := { s.kor with spareTx := true, txSwap := none } }))
    else
      match s.kor.rxSwap with
      | none => s
      | some (lane, cause, _) =>
        if s.kor.spareRx then s
        else raise 0x0902 0x05 [(1, 1), (1, lane), (1, cause)]
          (count { s with kor := { s.kor with spareRx := true, swapReqOut := false } }))

/-- `LANE_SWAP_ACK` (R387): the receiver realigns to the codeword named; the swap is over. -/
def execLaneSwapAck (h : FlitHdr) (idx lane codeword : Nat) (s : State) : Result :=
  .next (takeMsg h idx (fun s =>
    match s.kor.rxSwap with
    | none => s
    | some (l, _, cw) =>
      if l ≠ lane then s
      else { s with kor := { s.kor with rxSwap := none, nakOut := s.kor.nakOut || codeword ≠ cw } }) s)

/-! ### Training and SOLO -/

/-- Good physical lanes of a direction, the spare among them, by the mask of the faulted ones. -/
def goodLanes (failed : Nat) : Nat := ((List.range 9).filter (fun p => !failed.testBit p)).length

/-- The width that a fast retrain reaches: x8 with eight good lanes in each direction, otherwise x4 (R388). -/
def retrainWidth (s : State) : Nat := if 8 ≤ goodLanes s.kor.rxFailed ∧ 8 ≤ goodLanes s.kor.txFailed then 8 else 4

/-- `KORRIC_TRAINING_DONE` (R373): initial training ends, and a trained link starts afresh with the exchange; in DECIDING the fast retrain
has the lanes back, and its exchange begins. -/
def execKorricTrainingDone (ok : Bool) (width : Nat) (s : State) : Result :=
  .next (
    if s.kor.unitOn ∧ s.kor.state = .deciding ∧ ok ∧ !s.kor.asking then
      sendExchange { s with kor := { s.kor with trained := true, width := retrainWidth s } }
    else if !s.kor.unitOn ∨ !s.kor.trainingOn ∨ (s.kor.state ≠ .training ∧ s.kor.state ≠ .solo) then s
    else if !ok then { s with kor := { s.kor with trainingOn := s.kor.state = .training } }
    else
      let last := (s.kor.mseqNext + 2 ^ 32 - 1) % 2 ^ 32
      sendExchange { s with kor := { s.kor with
        trainingOn := false, trained := true, up := false, stateSeen := false, digestSeen := [], width := if width = 4 then 4 else 8
        txSeq := 0, rxSeq := 0, rxIdx := 15, replay := [], txQueue := [], nakOut := false, swapReqOut := false, rxSwap := none, txSwap := none
        mack := last, held := [], heldPoison := [], sameSide := false, digestBad := false } })

/-- `TRAINING_RETRY` (R389): after any SOLO entry, initial training restarts. -/
def execTrainingRetry (s : State) : Result :=
  .next (if s.kor.unitOn ∧ s.kor.state = .solo then { s with kor := { s.kor with trainingOn := true } } else s)

/-- `TRAINING_TIMEOUT` (R389): 10 ms after step 9 with no link, the witness is asked. -/
def execTrainingTimeout (s : State) : Result :=
  .next (if s.kor.unitOn ∧ s.kor.state = .training ∧ !s.kor.up ∧ s.cwy.asking.isNone then askWitness .training s else s)

/-- `WITNESS_REQUERY` (R389): in TRAINING the query is repeated. -/
def execWitnessRequery (s : State) : Result :=
  .next (if s.kor.unitOn ∧ s.kor.state = .training ∧ !s.kor.up ∧ s.cwy.asking.isNone then askWitness .training s else s)

/-- `SOLO_START` (R389): in TRAINING the pair goes to SOLO cause 7, and regions failed with code 2 start. Outside TRAINING it has
no effect; in DUMP the write is rejected (R44). -/
def execSoloStart (s : State) : Result :=
  .next (
    if s.spn.mode = .dump then raise 0x1006 0x00 [] s
    else if s.kor.state = .training then soloSeven s
    else s)

/-- `SILENCE_TIMEOUT` (R389, R391). -/
def execSilenceTimeout (s : State) : Result :=
  .next (match s.kor.state with
    | .mirrored => beginDecision s
    | .resync => beginDecision s
    | .training =>
      if s.kor.fromSolo ∧ s.kor.up then enterSolo 0 false s
      else { s with kor := { s.kor with trained := false, up := false, width := 0, trainingOn := true } }
    | .solo => { s with kor := { s.kor with trained := false, up := false, width := 0 } }
    | _ => s)

/-- `FAST_RETRAIN_DONE` (R391): with the link back and the partner's STATE unchanged, the pair returns to its state before and the
buffer is replayed, event 0x0901; otherwise the witness is asked. -/
def execFastRetrainDone (ok : Bool) (s : State) : Result :=
  .next (
    if s.kor.state ≠ .deciding ∨ s.kor.asking then s
    else if ok then
      let s1 := { s with kor := { s.kor with retrain := 1, trained := true, up := true, width := retrainWidth s, nakOut := false } }
      let s2 := replayAll (setPair s.kor.before 0 (decisionEnd s.kor.before
        (raise 0x0901 0x05 [(1, s1.kor.width), (1, flag s1.kor.spareTx + 2 * flag s1.kor.spareRx)] s1)))
      takeoverResume (resendKick (settle (releaseNotices s2)))
    else
      let s1 := { s with kor := { s.kor with retrain := 2, asking := true, trained := false, up := false, width := 0 } }
      takeoverResume (askWitness .decision s1))

/-- The outstanding witness query ends. -/
def endQuery (r : Nat) (s : State) : State :=
  match s.cwy.asking with
  | none => s
  | some (why, _) => takeoverResume (witnessResult why r s)

/-- `WITNESS_TIMEOUT` (R393, R418): no answer. -/
def execWitnessTimeout (s : State) : Result := .next (endQuery 3 s)

/-- `WITNESS_A` (R418): an answer of the head reaches this member. -/
def execWitnessA (src dst hops tag target result : Nat) (good : Bool) (s : State) : Result :=
  let f : Frame := ⟨dst, src, hops, tag, .witnessA target result⟩
  .next (frameArrive f good (fun s =>
    match s.cwy.asking with
    | none => s
    | some (_, t) => if t = tag ∧ target = s.cwy.myId ^^^ 1 ∧ (result = 1 ∨ result = 2) then endQuery result s else s) s)

/-! ### Takeover (R397, R398, R400) -/

/-- `TAKEOVER` (R397). -/
def execTakeover (via : Via) (s : State) : Result :=
  .next (vendor via 0xC006 [.restore, .service] true true (fun s =>
    takeoverRun ⟨via, false, 0, 0⟩ (bgStart via 0xC006 s)) s)

/-- `FORCE_TAKEOVER` (R398): event 0x0208 when received; a wrong `CONFIRM` is refused. -/
def execForceTakeover (via : Via) (confirm : Nat) (s : State) : Result :=
  .next (vendor via 0xC007 [.restore, .service] false true (fun s =>
    if confirm ≠ 0x4F4B5446 then vendorRefuse via 0xC007 .invalidInput 0x000C s
    else takeoverRun ⟨via, true, 0, 0⟩ (bgStart via 0xC007 s)) (if s.pwr.corePg then raise 0x0208 0x01 [] s else s))

/-- `PAIR_RECORD_QUAG_TIMEOUT` (R400): nothing is adopted, Retry Required 0x000F. -/
def execPairRecordQuagTimeout (s : State) : Result :=
  .next (match s.kor.takeover with
    | some t =>
      if t.wait = 2 ∧ !s.nrg.quagOk ∧ s.aos.pair.isSome then
        takeoverEnd t.force .retryRequired 0x000F 0 { s with aos := { s.aos with pair := none }, ifc := { s.ifc with waiting := s.ifc.waiting.filter (fun o => o.agent ≠ .kor) } }
      else s
    | none => s)

end Sys2Proof.Machine
end

