-- ==== Sys2Proof/Machine/Energy.lean ====
section
/-!
DEFINITION. The commands of the energy controller that no other unit takes part in (06): cell monitor, estimates,
anchors, reports, hibernation, learning cycles and parameter writes.
-/

namespace Sys2Proof.Machine

/-! ### Cell monitor -/

/-- A request frame of the cell monitor bus (R207). -/
def cmbRequest (bal : Nat) : List Nat :=
  let b := 0xC5 :: leBytes 3 bal
  b ++ [crc8 b]

/-- The `BAL` bits of a request (R209): the cells that stand out, while the store is at 90 % of V_full and HOLDUP_EN is low. -/
def balanceNow (s : State) : Nat :=
  if decide (vFull s * 90 ≤ s.nrg.vStore * 100) && !s.nrg.holdupEn then s.nrg.balance else 0

/-- A response is good: 46 bytes, a matching CRC-8, and the right `COUNT` (R70, R208). -/
def cmbGood (s : State) (r : List Nat) : Bool :=
  r.length = 46 && r.getD 45 0 = crc8 (r.take 45) &&
    (if s.nrg.cells = 0 then decide (8 ≤ r.getD 0 0 ∧ r.getD 0 0 ≤ 20) else r.getD 0 0 = s.nrg.cells)

/-- A miss of the cell monitor (R208). -/
def cmbMiss (s : State) : State :=
  let n := { s.nrg with misses := satAdd 8 s.nrg.misses 1, missRun := s.nrg.missRun + 1 }
  if 3 ≤ n.missRun ∧ n.cmbFail = false then
    refreshCharge (raise 0x0412 0x03 [] { s with nrg := { n with cmbFail := true } })
  else { s with nrg := n }

/-- The cell voltages of a good response: extremes, balancing and the over-voltage stop, which logs each cell that goes over (R209). -/
def cmbCells (cells : List Nat) (s : State) : State :=
  let hi := cells.foldl max 0
  let lo := cells.foldl min 0xFFFF
  let hiIdx := cells.findIdx (· = hi)
  let loIdx := cells.findIdx (· = lo)
  let mask := maskOf ((List.range cells.length).filter (fun i => lo + 30 < cells.getD i 0))
  let lim := param s 1
  let isOver := if s.nrg.cellOver then decide (lim < hi) else decide (lim + 100 < hi)
  let overs := (List.range cells.length).filter (fun i => if s.nrg.overCells.contains i then lim < cells.getD i 0
    else lim + 100 < cells.getD i 0)
  let s1 := { s with nrg := { s.nrg with cellMax := hi, cellMin := lo, maxIdx := hiIdx, minIdx := loIdx, balance := mask,
                                         cellOver := isOver, overCells := overs } }
  let s2 := (overs.filter (fun i => !(s.nrg.overCells.contains i))).foldl (fun t i => raise 0x0411 0x03 [(1, i)] t) s1
  let wide := decide (200 < hi - lo)
  let was := decide (200 < s.nrg.cellMax - s.nrg.cellMin)
  if wide && !was then raise 0x0411 0x03 [(1, hiIdx)] s2 else s2

/-- `CMB_POLL` (R207 to R209, R70, R239): a request is sent and the response bytes `resp` clocked in; an empty list is no
response. -/
def execCmbPoll (resp : List Nat) (s : State) : Result :=
  let s0 := send (.cmb (cmbRequest (balanceNow s))) s
  .next (
    if cmbGood s resp then
      let count := resp.getD 0 0
      let cells := ((pieces 2 20 (resp.drop 5)).map leValue).take count
      let s1 := { s0 with nrg := { s0.nrg with
        missRun := 0, cmbFail := false, cellsSeen := count, moduleId := leAt resp 1 4,
        cells := if s0.nrg.cells = 0 then count else s0.nrg.cells } }
      let s2 := if s0.nrg.cmbFail then raise 0x0412 0x03 [] s1 else s1
      let s3 := refreshEstimates (cmbCells cells s2)
      let m := s3.nrg.moduleId
      let swapped := !s.nrg.cmbChecked && (if m = 0 then !s.aos.valid else decide (m ≠ s.nrg.storeId))
      let s4 := { s3 with nrg := { s3.nrg with cmbChecked := true } }
      storeKnown (if swapped then storeInserted s4 else s4)
    else cmbMiss s0)

/-! ### Estimates and anchors -/

/-- The readings of a sample taken over; in hibernation the current channels stop (R237). -/
def takeSample (m : Sample) (s : State) : State :=
  let n := s.nrg
  let frozen := n.hibernate || n.zeroing
  let n1 := { n with
    vStore := m.vStore, vInput := m.vInput, tDiode := m.tDiode, tNtc0 := m.tNtc0, tNtc1 := m.tNtc1,
    ntc0Out := m.bad0, ntc1Out := m.bad1,
    iStore := if frozen then n.iStore else m.iStore,
    iInput := if n.hibernate then n.iInput else m.iInput }
  let s1 := { s with nrg := n1 }
  let s2 := if m.bad0 && !n.ntc0Out then raise 0x0414 0x03 [] s1 else s1
  if m.bad1 && !n.ntc1Out then raise 0x0414 0x03 [] s2 else s2

/-- The charge (µC) the count takes for the last millisecond (R206, R218). -/
def chargeStep (m : Sample) (n : Nrg) : Int :=
  if n.hibernate then 0 else if n.zeroing then n.iStore else m.dQ

/-- The charge count integrates, between 0 and Q_full (R218); a count that reaches 0 high above the floor has drifted
(R219). -/
def countCharge (dq : Int) (s : State) : State :=
  let n := s.nrg
  if n.anchor = .unanchored then s
  else
    let q := min n.qFull ((n.q : Int) + dq).toNat
    let n1 := { n with q := q, qHigh := max n.qHigh q, qLow := min n.qLow q }
    if 0 < n.q ∧ q = 0 ∧ param s 2 + 200 < n.vOcv ∧ n.countDrift = false then
      learnDisqualify 0x0C (raise 0x0407 0x03 [(2, n.vOcv)] { s with nrg := { n1 with countDrift := true } })
    else { s with nrg := n1 }

/-- An EMPTY anchor during a hold-up discharge for input failure, a dump or a calibration dump (R219); the estimates follow at once
(R220). -/
def emptyAnchor (s : State) : State :=
  let n := s.nrg
  if n.holdupEn && (n.reason = .input || n.reason = .calibration) && !n.emptyTaken && !n.countDrift
      && decide (n.vOcv ≤ param s 2) && n.cells ≠ 0 then
    let suspect := decide (2 * n.qFull ≤ 100 * n.q) && n.anchor ≠ .unanchored
    let s1 := if suspect then
        raise 0x0408 0x03 [] { s with nrg := { n with capSuspect := true, relearn := true } } else s
    refreshEstimates (raise 0x0406 0x03 [(4, n.q / 1000)]
      { s1 with nrg := { s1.nrg with q := 0, anchor := .empty, emptyTaken := true, qLow := 0 } })
  else s

/-- One sample of a running learning cycle: charge drawn, the split, the disqualifiers and the end (R226, R227). -/
def learnSample (dq : Int) (s : State) : State :=
  let n := s.nrg
  let hot := decide (tempLimit n < 100 ∨ 400 < tempLimit n)
  if n.lstate = .running then
    let r := n.run
    let q := ((r.q : Int) - dq).toNat
    let r1 := { r with q := q, qUpper := if r.qUpper.isNone ∧ n.vOcv ≤ r.split then some q else r.qUpper,
                       samples := r.samples + 1, sumI := r.sumI + n.iStore, sumT := r.sumT + tempMean n }
    let s1 := { s with nrg := { n with run := r1 } }
    if hot then learnDisqualify 0x01 s1
    else if n.chgEn then learnDisqualify 0x03 s1
    else if n.vOcv ≤ param s 4 then learnEnd s1
    else s1
  else if n.lstate = .waitBudget ∧ hot then learnDisqualify 0x01 s
  else if n.lstate = .waitFull ∧ learnConditions s then learnToBudget s
  else s

/-- `ENERGY_ESTIMATE` (R220, R222): the channels' sample, and the current step of a charging start when one was measured
(R230). -/
def execEnergyEstimate (m : Sample) (step : Option CurrentStep) (s : State) : Result :=
  let dq := chargeStep m s.nrg
  let s1 := takeSample m { s with nrg := { s.nrg with ramp := min 100 (s.nrg.ramp + 1) } }
  let s2 := match step with
    | some c => foldEsr c s1
    | none => s1
  let s3 := refreshEstimates s2
  let s4 := countCharge dq s3
  let s5 := emptyAnchor (refreshEstimates { s4 with nrg := { s4.nrg with zeroing := false } })
  let s6 := learnSample dq s5
  .next (gaugeAfter s.nrg (sendInput (refreshEstimates s6)))

/-- `OFFSET_ZERO` (R206): the channel input is shorted for 1 ms, during which the count uses the last good sample; a
hibernating gauge has its current channel stopped. -/
def execOffsetZero (s : State) : Result :=
  .next (if s.nrg.hibernate then s else { s with nrg := { s.nrg with zeroing := true } })

/-- `FULL_ANCHOR` (R219, R231). -/
def execFullAnchor (s : State) : Result :=
  let s1 := refreshEstimates s
  let n := s1.nrg
  .next (
    if !n.storePresent || n.cells = 0 then s
    else
      let deep := decide (n.qFull < 10 * (n.qHigh - n.qLow))
      let n1 := { n with q := n.qFull, anchor := .full, countDrift := false, qHigh := n.qFull, qLow := n.qFull,
                         cycles := if deep then n.cycles + 1 else n.cycles }
      let s2 := raise 0x0405 0x03 [] (refreshEstimates { s1 with nrg := n1 })
      let s3 := if s2.nrg.lstate = .waitFull ∧ learnConditions s2 then learnToBudget s2 else s2
      gaugeAfter s.nrg (sendInput s3))

/-! ### Reports and hibernation -/

/-- `HOLDUP_RESERVE` (R236), 0.1 %. -/
def holdupReserveOf (s : State) : Nat :=
  min 1000 (1000 * eUsable s / energyV s.nrg.cUse s.nrg.vTarget (param s 2))

/-- `CHARGE_CALC` (R236), 0.1 %. -/
def chargeCalcOf (s : State) : Nat :=
  let n := s.nrg
  min 1000 (if n.anchor = .unanchored then 1000 * (n.cUse * (n.vOcv - param s 2)) / n.qFull else 1000 * n.q / n.qFull)

/-- `CHARGE_PCT` moved toward `CHARGE_CALC` by at most 1 (R236). -/
def chargePctOf (n : Nrg) (cc : Nat) : Nat :=
  if !n.pctValid then cc
  else if n.chargePct < cc then n.chargePct + 1
  else if cc < n.chargePct then n.chargePct - 1
  else cc

/-- `REPORT_UPDATE` (R236). -/
def execReportUpdate (s : State) : Result :=
  let cc := chargeCalcOf s
  let res := holdupReserveOf s
  let s1 := { s with nrg := { s.nrg with chargeCalc := cc, chargePct := chargePctOf s.nrg cc, pctValid := true,
                                         holdupReserve := res } }
  .next (if res / 100 ≠ s.nrg.holdupReserve / 100 then msix 9 s1 else s1)

/-- `HIBERNATE_ENTER` (R237); HOLDUP_EN keeps the gauge awake. -/
def execHibernateEnter (s : State) : Result :=
  .next (if s.nrg.hibernate || s.nrg.holdupEn then s
    else raise 0x040F 0x03 [] { s with nrg := { s.nrg with hibernate := true } })

/-- The gauge leaves hibernation (R237). -/
def gaugeWake (s : State) : State :=
  if s.nrg.hibernate then raise 0x040F 0x03 [] { s with nrg := { s.nrg with hibernate := false } } else s

/-- `HIBERNATE_WAKE` (R237). -/
def execHibernateWake (s : State) : Result := .next (gaugeWake s)

/-! ### Learning -/

/-- A learning cycle is due (R224). -/
def learnDue (s : State) : Bool :=
  s.nrg.relearn || (s.nrg.intervalD ≠ 0 && decide (s.nrg.intervalD * 86400 ≤ s.evr.opSec - s.nrg.learnSec))

/-- The hour after a failed start is over (R224, log 62). -/
def retryDue (s : State) : Bool := match s.nrg.failSec with
  | some t => decide (t + 3600 ≤ s.evr.opSec)
  | none => true

/-- `LEARNING_AUTO_START` (R224): a due cycle starts once the conditions of R225 hold, after a failed start an hour later. -/
def execLearningAutoStart (s : State) : Result :=
  .next (if learnDue s && retryDue s && !learning s && learnConditions s then learnStart s else s)

/-- `LEARN_CTRL_START` (R224): a write of `START`, which wakes the gauge (R237), as START_LEARNING; a cycle that waits or runs is left
alone. The bit reads 1 while the cycle is in WAIT_FULL (R11). -/
def execLearnCtrlStart (s : State) : Result :=
  .next (
    let s := gaugeWake s
    let t := if learning s || s.spn.mode ≠ .service then s else learnStart s
    { t with nrg := { t.nrg with learnGo := decide (t.nrg.lstate = .waitFull) } })

/-- `LEARN_CTRL_ABORT` (R227, cause 0x06), a write that wakes the gauge (R237). -/
def execLearnCtrlAbort (s : State) : Result := .next (learnDisqualify 0x06 (gaugeWake s))

/-- `LEARN_HOLDUP_START` (R226): D ≤ B at the learning input, which the WRP has in force, and the opening record written, HOLDUP_EN rises with reason
LEARNING and the cycle runs; `c` is the current step at hold-up. -/
def execLearnHoldupStart (c : CurrentStep) (s : State) : Result :=
  .next (
    if s.nrg.lstate = .waitBudget ∧ s.wrp.learning ∧ dCount s ≤ s.wrp.b ∧ s.aos.gauge = none ∧ agentBusy .energy s = false then
      let vs := s.nrg.vOcv
      let esr := (((c.vAfter : Int) - c.vBefore).natAbs * 10000) / (c.iAfter - c.iBefore).natAbs
      let s1 := foldEsr c (assertHoldup .learning s)
      gaugeAfter s.nrg
        { s1 with nrg := { s1.nrg with lstate := .running,
                                       run := { vStart := vs, split := (vs + param s 4) / 2, esr := esr } } }
    else s)

/-- `LEARN_BUDGET_TIMEOUT` (R227, cause 0x09). -/
def execLearnBudgetTimeout (s : State) : Result :=
  .next (if s.nrg.lstate = .waitBudget ∧ s.wrp.b < dCount s then learnDisqualify 0x09 s else s)

/-- `LEARN_DURATION_EXPIRY` (R227, cause 0x07). -/
def execLearnDurationExpiry (s : State) : Result :=
  .next (if s.nrg.lstate = .running then learnDisqualify 0x07 s else s)

/-- `LEARN_ANCHOR_TIMEOUT` (R227, cause 0x08). -/
def execLearnAnchorTimeout (s : State) : Result :=
  .next (if s.nrg.lstate = .waitFull then learnDisqualify 0x08 s else s)

/-! ### Parameters -/

/-- A parameter's value replaced. -/
def setParam (id v : Nat) (s : State) : State :=
  { s with nrg := { s.nrg with params := s.nrg.params.map (fun p => if p.id = id then { p with val := v } else p) } }

/-- `PARAM_WRITE` (R242, R43): a write of `value` to `NRG_PARAM_VAL` for the parameter `NRG_PARAM_IDX` selects. -/
def execParamWrite (value : Nat) (s : State) : Result :=
  .next (
    let s := gaugeWake s
    match s.nrg.params.find? (fun p => p.id = s.nrg.paramIdx) with
    | none => s
    | some p =>
      if s.nrg.input ≠ .good ∨ s.nrg.holdupEn ∨ s.spn.mode = .dump then raise 0x0413 0x03 [] s
      else
        let r := clampWrite 0x03 p.lo p.hi (value % 2 ^ 32) s
        let s1 := setParam p.id r.1 r.2
        let s2 := { s1 with nrg := { s1.nrg with iSet := min s1.nrg.iSet (max 100 (param s1 17)) } }
        sendInput (refreshEstimates s2))

end Sys2Proof.Machine
end

