-- ==== Sys2Proof/Machine/Flash.lean ====
section
/-!
DEFINITION. The internal-flash commands (15): command sequences, window reads and the journal register.
-/

namespace Sys2Proof.Machine

/-- A window write or a journal request from a path other than the management complex is ignored and counted (R490). -/
def flashIgnored (s : State) : State :=
  raise 0x0D07 0x0A [] { s with ifc := { s.ifc with refused := satAdd 16 s.ifc.refused 1 } }

/-- A sequence breaks: read mode, `SEQ_ERR`, event 0x0D07 (R492). -/
def seqBreak (b : Nat) (s : State) : State :=
  raise 0x0D07 0x0A []
    (modBank b (fun k => { k with mode := .read, seqErr := true, seqStep := 0, stream := none })
      { s with ifc := { s.ifc with seqErrs := satAdd 16 s.ifc.seqErrs 1 } })

/-- An operation is refused with a result: the array is unchanged and `REFUSED` counts (R494). The status word of a busy bank keeps
showing the running operation beside that result (R495). -/
def flashRefuse (b : Nat) (r : FlashResult) (off : Nat) (s : State) : State :=
  modBank b (fun k =>
      { k with result := r, agent := if k.busy then k.agent else .firmware, addr := if k.busy then k.addr else off
               mode := .read, seqStep := 0, stream := none })
    { s with ifc := { s.ifc with refused := satAdd 16 s.ifc.refused 1 } }

/-- The bank is busy, or an agent operation waits for it (R489). -/
def firmwareBlocked (b : Nat) (s : State) : Bool := (bankOf s b).busy || s.ifc.waiting.any (fun o => o.bank = b)

/-- A firmware operation starts: the bank is busy until it ends; its status word shows it (R495). -/
def startFirmwareOp (b op off : Nat) (o : FlashOp) (s : State) : State :=
  modBank b (fun k => { k with busy := true, op := op, agent := .firmware, addr := off, running := some o, mode := .read,
                               seqStep := 0, startMode := s.spn.mode, stream := none }) s

/-- The bits of a THERM word that may be set (R508): 8 of `NONCE_JUMP`, 2 of `FUSE`, else 64. -/
def thermBits (g : Nat) : Nat := if g = 21 then 8 else if g = 24 then 2 else 64

/-- A row-mode program of a Bog-oak word or lock word (R509, R510). -/
def programBog (off data : Nat) (s : State) : State :=
  if off = 0x400 ∨ off = 0x408 then
    if !s.nrg.quagOk then flashRefuse 0 .quag off s
    else startFirmwareOp 0 3 off (.bogLock (off = 0x408) data) s
  else if off < 0x400 then
    let w := off / 8
    if s.ifc.bogLocks.testBit w then flashRefuse 0 .locked off s
    else if !s.nrg.quagOk then flashRefuse 0 .quag off s
    else match thermGroup w with
      | some g =>
        let all := thermWord s g ||| data
        if all = 2 ^ thermCount all - 1 ∧ data < 2 ^ thermBits g then startFirmwareOp 0 3 off (.bogWord g data) s
        else flashRefuse 0 .locked off s
      | none => if bogRaw s w = 0 then startFirmwareOp 0 3 off (.bogWord w data) s else flashRefuse 0 .notErased off s
  else flashRefuse 0 .locked off s

/-- The data cycle of a program-word sequence (R491, R494, R487). -/
def programWord (off data : Nat) (s : State) : State :=
  let b := off / 0x400000
  if firmwareBlocked b s then flashRefuse b .busy off s
  else if b = 0 ∧ (bankOf s 0).mode = .row then programBog off data s
  else if programLocked off data s then flashRefuse b .locked off s
  else if !s.nrg.quagOk then flashRefuse b .quag off s
  else if arrayWord off s ≠ erasedWord then flashRefuse b .notErased off s
  else startFirmwareOp b 1 off (.program off data) s

/-- The sector cycle of an erase sequence (R491, R494, R487). -/
def eraseSector (off : Nat) (s : State) : State :=
  let b := off / 0x400000
  let g := sectorOf off
  if firmwareBlocked b s then flashRefuse b .busy off s
  else if eraseLocked g s then flashRefuse b .locked off s
  else if !s.nrg.quagOk then flashRefuse b .quag off s
  else if !(hasOpenStart b (g % 1024) s) then flashRefuse b .unjournalled off s
  else startFirmwareOp b 2 off (.erase g) s

/-- A mode command completes (R491, R493); one that meets a busy bank is not started (R489). -/
def enterMode (b : Nat) (m : BankMode) (s : State) : State :=
  if firmwareBlocked b s then flashRefuse b .busy (b * 0x400000) s
  else modBank b (fun k => { k with mode := m, seqStep := 0, stream := none }) s

/-- `PROGRAM_WORD` (R494). -/
def execProgramWord (path : Path) (off data : Nat) (s : State) : Result :=
  .next <| dropHalf path (if path ≠ .firmware then flashIgnored s
    else if off % 8 ≠ 0 ∨ 0x800000 ≤ off then seqBreak (off / 0x400000 % 2) s
    else programWord off (data % 2 ^ 64) s)

/-- `ERASE_SECTOR` (R494). -/
def execEraseSector (path : Path) (off : Nat) (s : State) : Result :=
  .next <| dropHalf path (if path ≠ .firmware then flashIgnored s
    else if off % 8 ≠ 0 ∨ 0x800000 ≤ off then seqBreak (off / 0x400000 % 2) s
    else eraseSector off s)

/-- `READ_ERASE_COUNTER` (R493). -/
def execReadEraseCounter (path : Path) (bank : Nat) (s : State) : Result :=
  .next <| dropHalf path (if path ≠ .firmware then flashIgnored s else enterMode (bank % 2) .counter s)

/-- `STATUS_AND_IDENTITY` (R493). -/
def execStatusAndIdentity (path : Path) (bank : Nat) (s : State) : Result :=
  .next <| dropHalf path (if path ≠ .firmware then flashIgnored s else enterMode (bank % 2) .status s)

/-- `ENTER_BOG_OAK_ROW` (R493); on bank 1 the sequence breaks (R492). -/
def execEnterBogOakRow (path : Path) (bank : Nat) (s : State) : Result :=
  .next <| dropHalf path (if path ≠ .firmware then flashIgnored s
    else if bank % 2 = 1 then seqBreak 1 s
    else enterMode 0 .row s)

/-- `RETURN_TO_READ` (R491): read mode, `SEQ_ERR` cleared, an open sequence abandoned. -/
def execReturnToRead (path : Path) (bank : Nat) (s : State) : Result :=
  .next <| dropHalf path (if path ≠ .firmware then flashIgnored s
    else modBank (bank % 2) (fun k => { k with mode := .read, seqErr := false, seqStep := 0, stream := none }) s)

/-- `SEQUENCE_TIMEOUT` (R492): an open sequence breaks. -/
def execSequenceTimeout (bank : Nat) (s : State) : Result :=
  .next (if (bankOf s (bank % 2)).seqStep = 0 then s else seqBreak (bank % 2) s)

/-- One command cycle written to the window (R491): the sequence goes on, completes or breaks (R492). `width` is 4 or 8
bytes. -/
def flashCycle (path : Path) (off width value : Nat) (s : State) : State :=
  let b := off / 0x400000 % 2
  let rel := off % 0x400000
  let k := bankOf s b
  let v := value % 256
  let step (n c : Nat) (s : State) : State := modBank b (fun k => { k with seqStep := n, seqCode := c, stream := none }) s
  if path ≠ .firmware then flashIgnored s
  else if off % 8 ≠ 0 then seqBreak b s
  else if k.seqStep = 3 then
    if k.seqCode = 0x3E then (if width = 8 then programWord off (value % 2 ^ 64) s else seqBreak b s)
    else if v = 0x5D then eraseSector off s
    else if v = 0x0F then
      modBank b (fun k => { k with mode := .read, seqErr := false, seqStep := 0, stream := none }) s
    else seqBreak b s
  else if v = 0x0F then
    modBank b (fun k => { k with mode := .read, seqErr := false, seqStep := 0, stream := none }) s
  else if k.seqStep = 0 then (if rel = 0x5558 ∧ v = 0x6C then step 1 0 s else seqBreak b s)
  else if k.seqStep = 1 then (if rel = 0x2AA8 ∧ v = 0x93 then step 2 0 s else seqBreak b s)
  else if rel ≠ 0x5558 then seqBreak b s
  else if v = 0x3E ∨ v = 0x5D then step 3 v s
  else if v = 0x71 then enterMode b .counter s
  else if v = 0x27 then enterMode b .status s
  else if v = 0x4B ∧ b = 0 then enterMode 0 .row s
  else seqBreak b s

/-! ### Window reads -/

/-- The status word of a bank (R495). -/
def statusWord (k : Bank) : Nat :=
  let agent := match k.agent with
    | .firmware => 0 | .sedge => 1 | .energy => 2 | .cip => 3 | .kor => 4
  let result := match k.result with
    | .ok => 0 | .progFail => 1 | .eraseFail => 2 | .aborted => 3 | .notErased => 4 | .quag => 5 | .locked => 6
    | .busy => 7 | .unjournalled => 8
  let mode := match k.mode with
    | .read => 0 | .status => 1 | .counter => 2 | .row => 3
  k.addr % 2 ^ 24 * 2 ^ 40 + min k.pulses 255 * 2 ^ 32 + agent * 2 ^ 20 + result * 2 ^ 12 + mode * 2 ^ 10
    + flag k.seqErr * 2 ^ 9 + flag k.slowErase * 2 ^ 8 + k.op % 8 * 2 + flag k.busy

/-- The identity word of a bank (R493). -/
def identityWord (b : Nat) : Nat := 0x7460 + b * 2 ^ 16 + 0x01 * 2 ^ 24 + 1024 * 2 ^ 32 + 4 * 2 ^ 48

/-- The erase-counter word of a sector (R493). -/
def counterWord (g : Nat) (s : State) : Nat :=
  tget 0 s.ifc.eraseCount g + tget 0 s.ifc.lastPulses g * 2 ^ 24 + tget 0 s.ifc.eraseSec g * 2 ^ 32

/-- The word a window read finds at an aligned offset in the bank's mode (R493, R508, R509). -/
def windowWord (off : Nat) (s : State) : Nat :=
  let b := off / 0x400000
  let rel := off % 0x400000
  match (bankOf s b).mode with
  | .read => arrayWord off s
  | .status => if rel = 0 then identityWord b else statusWord (bankOf s b)
  | .counter => counterWord (sectorOf off) s
  | .row =>
    if rel < 0x400 then bogRead s (rel / 8)
    else if rel = 0x400 then s.ifc.bogLocks % 2 ^ 64
    else if rel = 0x408 then s.ifc.bogLocks / 2 ^ 64 % 2 ^ 64
    else 0

/-- The half of a 64-bit value that a read of `width` bytes at `off` returns (R641). -/
def halfOf (off width v : Nat) : Nat := if width = 8 then v else if off % 8 = 4 then v / 2 ^ 32 else v % 2 ^ 32

/-- `PIN_FLAGS` bit 3 in force (R498). -/
def busyStatus (s : State) : Bool := s.img.active.pins.pinFlags.testBit 3

/-- A read of the flash window (R498 to R500). `off` is the window offset, `width` 4 or 8 bytes, and `bad` the bad symbols the
80/64 check finds in the word. -/
def flashRead (path : Path) (off width bad : Nat) (s : State) : State :=
  let b := off / 0x400000 % 2
  let aligned := (width = 4 ∨ width = 8) ∧ off % width = 0 ∧ off < 0x800000
  let word := off / 8 * 8
  let noStream := modBank b (fun k => { k with stream := none })
  if ¬ aligned then (if path = .bar0 then send (.abort path) s else send (.readData path 0) s)
  else if (bankOf s b).busy then
    if busyStatus s then send (.readData path (halfOf off width (statusWord (bankOf s b)))) (noStream s)
    else raise 0x0D0A 0x0A [] (send (.abort path) (noStream s))
  else if (bankOf s b).mode = .read ∧ 2 ≤ bad then
    raise 0x0D04 0x0A [(3, word)]
      (send (.abort path) (noStream { s with ifc := { s.ifc with uncorr := satAdd 16 s.ifc.uncorr 1 } }))
  else
    let v := windowWord word s
    let s := if (bankOf s b).mode = .read ∧ bad = 1 then
        { s with ifc := { s.ifc with corrected := satAdd 16 s.ifc.corrected 1 } } else s
    let s := if wordUndef word s then useFree s else s
    send (.readData path (halfOf off width v))
      (modBank b (fun k => { k with stream := if word + 8 < (b + 1) * 0x400000 then some (word + 8) else none }) s)

/-- `FLASH_WINDOW_READ` (R498 to R500). -/
def execFlashWindowRead (path : Path) (off width bad : Nat) (s : State) : Result :=
  .next (dropHalf path (flashRead path off width bad s))

/-! ### The journal register -/

/-- `JOURNAL_APPEND` (R503): firmware writes `TYPE`, `BANK`, `SECTOR` and `AUX` with `APPEND`; `ok` says whether the four
words pass their read-back. A DONE that ends a refresh logs 0x0D09 (R506), whose cause code the spec does not give. -/
def execJournalAppend (path : Path) (type bank sector aux : Nat) (ok : Bool) (s : State) : Result :=
  let s1 := { s with ifc := { s.ifc with jType := type % 4, jBank := bank % 2, jSector := sector % 1024,
                                         jAux := aux % 1024 } }
  .next <| dropHalf path (
    if path ≠ .firmware then flashIgnored s
    else if type % 4 = 0 then s1
    else if !s.nrg.quagOk ∨ !ok then { s1 with ifc := { s1.ifc with jFailed := true } }
    else
      let refreshed := type % 4 = 2 ∧ (rewriteStaging (bank % 2 * 1024 + sector % 1024) s1).isSome
      let s1 := if refreshed then
          useFree (raise 0x0D09 0x0A [(1, bank % 2), (2, sector % 1024), (1, Config.observed s1.free % 2)] s1) else s1
      let s2 := journalAppend (type % 4) (bank % 2) (sector % 1024) (if type % 4 = 3 then aux % 1024 else 0) s1
      { s2 with ifc := { s2.ifc with jFailed := false } })

end Sys2Proof.Machine
end

