-- ==== Sys2Proof/Machine/PeatOps.lean ====
section
/-!
DEFINITION. The Peat stream's captures and what the end of a service program does (07, 10): settling, deferral, placement,
ownership copies, collection of segments and the erase of a block group.
-/

namespace Sys2Proof.Machine

/-! ### Settling and capture (R246, R247, R250, R254, R257) -/

/-- Epochs since the latest write to a granule, modulo 65,536. -/
def epochAge (s : State) (g : Nat) : Nat := (s.gst.epoch + 65536 - tget 0 s.gst.touch g) % 65536

/-- Region `r` holds a write for its share limit (R195). -/
def shareHeld (s : State) (r : Nat) : Bool := s.hlk.writes.any (fun w => w.region = r && w.hold = .share)

/-- The class of a granule in the order of R249. -/
def captureClass (s : State) (g : Nat) : Nat :=
  if s.gst.rebuilt.contains g then 1
  else match regionOf s g with
    | some r => if shareHeld s r then 2 else if (region s r).entry.sequential then 3 else 4
    | none => 4

/-- A granule of top priority: rebuilt under R177, or of a region that holds a write for its share (R195). -/
def topGranule (s : State) (g : Nat) : Bool := decide (captureClass s g ≤ 2)

/-- The settle age a granule of region `r` needs, µs (R254); work of top priority takes that of TOP. -/
def settleAge (s : State) (r : Nat) (top : Bool) : Nat :=
  let u := (region s r).entry.settleUs
  if top || s.shd.regime = .top then min u 100 else u

/-- A granule is settled (R246). -/
def settled (s : State) (g : Nat) : Bool :=
  (gstate s g = .dirty || gstate s g = .redirty) && !programRuns s g &&
    (match regionOf s g with
    | none => false
    | some r => decide (settleAge s r (topGranule s g) ≤ epochAge s g * 50)
        || ((region s r).entry.sequential && (g - firstGranule s r) + 4 ≤ (region s r).writePtr))

/-- The governor defers a capture: in DEFERRABLE the balance is below a page with its parity share (R257). -/
def deferred (s : State) : Bool :=
  s.shd.regime = .deferrable && s.shd.balance * ((stripe s - 1 : Nat) : Int) < ((16384 * stripe s : Nat) : Int)

/-- The stream makes captures now: in RESTORE, SERVICE and TEST (R256); in P2 only in TOP or for PREFLUSH (R570); not while the
device has no row left (R265), nor once a P2 entry has stopped it (R567). -/
def streamRuns (s : State) : Bool :=
  serving s && captureSpace s && decide (s.pwr.entryStep < 2) && (s.pwr.pstate ≠ 2 || s.shd.regime = .top || s.dmp.preflush)

/-- The lines of a granule that its capture finds uncorrectable take the poison mark and call for repair (R602, R603): those
planted in stored words, and those named. -/
def captureRead (g : Nat) (bad : List Nat) (s : State) : State :=
  let planted := ((qdcOf s (quadOf s g)).planted.map Prod.fst).filter (fun l => granuleOf l = g)
  let s1 := planted.foldl (fun t l =>
    let x := readLine t l []
    if x.uncorrectable then readEffects l false [] x t else t) s
  bad.foldl (fun t k => readEffects (g * 256 + k % 256) false [] ⟨0, true, true, []⟩ t) s1

/-- A page of granule `g` of region `r` is staged, encrypted and placed in a row, with what the column holds by the counter taken and the
VPA (R250, R399, R266, R433); `mark` is the state change that goes with it. Without a staging buffer, or with a refused encryption (R452),
nothing is placed. -/
def stagePage (g r : Nat) (mark : State → State) (w : Nat → Nat → State → ColWhat) (s : State) : State :=
  let q := quadOf s g
  match stageTake q s with
  | (none, t) => t
  | (buf, t) =>
    let ctr := (slotOf t r).counter
    let (res, s1) := regionEncrypt r .service t
    if res ≠ .done then stageGive buf s1
    else
      let s2 := mark (if encrypted s1 r then cipSubmit ⟨.encrypt, .service, r, q, g⟩ s1 else s1)
      plantStaging q (placePage q (fun v => w ctr v s2) buf s2)

/-- What a column holds of a granule captured from DRAM. -/
def captured (g r ctr v : Nat) (s : State) : ColWhat :=
  .granule g r (mseqNow s) (sealArea s r ctr v (gword s g).stale (granuleData s g))

/-- A granule is captured (R250): staged, encrypted, INFLIGHT and placed in a row. -/
def capture (g : Nat) (s : State) : State :=
  match regionOf s g with
  | none => s
  | some r => stagePage g r (setGState g .inflight) (captured g r) s

/-- A capture can be made: space, a dirty granule whose last program has ended, its DRAM within reach. -/
def canCapture (s : State) (g : Nat) : Bool :=
  serving s && captureSpace s && (gstate s g = .dirty || gstate s g = .redirty) && !programRuns s g && memReady s (quadOf s g)
    && engReady s (quadOf s g)
    && (qdcOf s (quadOf s g)).state ≠ 3

/-- One ownership copy of a quadrant starts, after every other class (R399): no INFLIGHT, no reservation, no deferral. -/
def ownershipCopy (q : Nat) (s : State) : State :=
  match s.kor.ownCopies.find? (fun g => quadOf s g = q && gstate s g = .shadowed && !programRuns s g) with
  | none => s
  | some g => match regionOf s g with
    | none => s
    | some r => stagePage g r id (captured g r) s

/-- Ownership copies that have all passed end a return (R404): OWN_COPY_DONE goes to the partner. -/
def ownCopiesFollow (s : State) : State :=
  (s.kor.returning.filter (fun r => !(s.kor.ownCopies.any (inRegion s r)))).foldl (fun t r =>
    sendMsg (.ownCopyDone r) { t with kor := { t.kor with returning := sdel t.kor.returning r } }) s

/-! ### The order of captures (R181, R249) -/

/-- Ready captures in the order of R249: by class, SEQUENTIAL ones in offset order, the rest as they stand. -/
def captureOrder (s : State) (l : List Nat) : List Nat :=
  l.mergeSort (fun a b =>
    let x := captureClass s a
    let y := captureClass s b
    decide (x < y) || (decide (x = y) && (decide (x ≠ 3) || decide (a ≤ b))))

/-- A granule is ready for its capture: settled, and not deferred; the governor defers no work of top priority. -/
def readyNow (s : State) (g : Nat) : Bool := settled s g && (topGranule s g || !deferred s)

/-- The granule of a ring that comes before its head: the first ready capture of a class before the last. -/
def ringFirst (s : State) (q : Nat) : Option Nat :=
  (captureOrder s ((ringOf s q).filter (fun g => captureClass s g < 4 && readyNow s g))).head?

/-! ### Collection of segments (R265 to R267, R345, R370) -/

/-- A program whose page lies in segment `n` runs. -/
def segBusy (s : State) (n : Nat) : Bool :=
  s.shd.rows.any (fun r => r.seg = n) || s.shd.twins.any (fun t => vpaSeg t.vpa = n)

/-- The granules of a segment's live pages that can be relocated now: no program of them runs (R175). -/
def movable (s : State) (n : Nat) : List Nat := (liveIn s n).filter (fun g => !programRuns s g)

/-- One live page is relocated: from DRAM where its granule is SHADOWED, otherwise from the vault; re-encrypted with a new
counter (R266). A refused encryption leaves it. -/
def relocatePage (g : Nat) (s : State) : State :=
  let e := mapOf s g
  match pageAt s e.vpa with
  | none => s
  | some p =>
    let shadowed := decide (gstate s g = .shadowed)
    let d := if shadowed then granuleData s g else pageData s e.vpa p
    if programRuns s g ∨ !hasSpace s then s
    else stagePage g p.region id (fun ctr v t => .moved g p.region e.vpa
        (sealArea t p.region ctr v (if shadowed then (gword t g).stale else p.stale) d)) s

/-- A segment that no map reference names and no program writes is erased, before its first write of the power-on the BOOT entry
(R266, R304). -/
def eraseStart (n : Nat) (s : State) : State :=
  if !(liveIn s n).isEmpty ∨ segBusy s n ∨ s.vlt.erasing.contains n ∨ s.spn.mode = .dump then s
  else
    let s1 := beforeVault s
    let s2 := match s1.vlt.compact.find? (fun e => e.1 = n) with
      | some e => raise 0x080E 0x0D [(4, e.2)] { s1 with vlt := { s1.vlt with compact := s1.vlt.compact.filter (fun x => x.1 ≠ n) } }
      | none => s1
    { s2 with vlt := { s2.vlt with erasing := s2.vlt.erasing ++ [n] } }

/-- A segment's live pages are relocated, those named excepted, and the segment is erased once it is empty. -/
def collect (n : Nat) (skip : List Nat) (s : State) : State :=
  let l := (movable s n).filter (fun g => !(skip.contains g))
  let s1 := { s with vlt := { s.vlt with compact := s.vlt.compact.map (fun e => if e.1 = n then (n, e.2 + l.length) else e) } }
  eraseStart n (l.foldl (fun t g => relocatePage g t) s1)

/-- Segments called for collection that have become empty are erased. -/
def eraseReady (s : State) : State := s.vlt.relocate.foldl (fun t n => eraseStart n t) s

/-- A segment collection may choose: PEAT or DUMP rows written, outside the reserve, not taking rows, not erasing (R266). -/
def victimOk (s : State) (n : Nat) (g : Seg) : Bool :=
  (g.kind = .peat || g.kind = .dump) && !(s.vlt.reserve.contains n) && !(s.vlt.erasing.contains n)
    && peatSeg s (segDie n) ≠ some n && !segBusy s n

/-- The victim of R266: the fewest live pages, and among equals the segment written earliest. -/
def victim (s : State) : Option Nat :=
  (((s.vlt.segs.filter (fun e => victimOk s e.1 e.2)).mergeSort (fun a b =>
    let x := (liveIn s a.1).length
    let y := (liveIn s b.1).length
    decide (x < y) || (decide (x = y) && decide (a.2.order ≤ b.2.order)))).head?).map Prod.fst

/-- A segment is put on the list of those to collect. -/
def callSegment (n : Nat) (s : State) : State :=
  if s.vlt.relocate.contains n ∨ s.vlt.erasing.contains n then s
  else { s with vlt := { s.vlt with relocate := s.vlt.relocate ++ [n] } }

/-- A block is marked WORN with its cause, 0 read load, 1 erase time: event 0x0508 (R263). -/
def markWorn (v cause : Nat) (s : State) : State :=
  let b := blockVpa v
  if s.vlt.worn.contains b then s
  else raise 0x0508 (quadUnit (vpaCh v / 4) (4 + vpaCh v % 4)) [(1, vpaCh v), (1, vpaDie v), (2, vpaBlock v), (1, cause)]
    { s with vlt := { s.vlt with worn := sins b s.vlt.worn } }

/-- Blocks of a set that lie in segment `n`. -/
def blocksIn (n : Nat) (l : List Nat) : List Nat := l.filter (fun v => vpaSeg v = n)

/-- A WORN block is retired at its erase: event 0x0806 with its replacement, and `WORN_BLOCKS` (R347). -/
def retireWorn (v : Nat) (s : State) : State :=
  let repl := (nextPool s v).getD 0xFFFFFFFF
  raise 0x0806 (quadUnit (vpaCh v / 4) (4 + vpaCh v % 4)) [(4, repl)]
    (retireBlock v { s with shd := { s.shd with wornBlocks := s.shd.wornBlocks + 1 } })

/-- A segment's erase has passed on every block: its pages are gone, the blocks due are retired, and it is FREE, or RETIRED where
no column is left (R337, R347); the redundancy rebuild and the reserve follow. -/
def eraseDone (n : Nat) (s : State) : State :=
  let g := segOf s n
  let s1 := { s with vlt := { s.vlt with
    pages := s.vlt.pages.filter (fun e => vpaSeg e.1 ≠ n)
    other := s.vlt.other.filter (fun e => vpaSeg e.1 ≠ n)
    erasing := s.vlt.erasing.filter (· ≠ n)
    relocate := s.vlt.relocate.filter (· ≠ n)
    scrubbing := s.vlt.scrubbing.filter (· ≠ n) }
                     vch := s.vch.map (fun v => { v with missRun := v.missRun.set (segDie n) 0 }) }
  let s2 := (blocksIn n s1.vlt.worn).foldl (fun t v => retireWorn v t) s1
  let s3 := (blocksIn n s2.vlt.failedBlocks).foldl (fun t v => retireBlock v t) s2
  let kind : SegKind := if presentCols s3 n = [] then .retired else .free
  let s4 := setSeg n { segOf s3 n with kind := kind, erases := g.erases + 1, rows := 0, order := 0 } s3
  let s5 := appendLog (.segment n (kindCode kind) (g.erases + 1)) s4
  let s6 := if s5.vlt.rebuildSegs.contains n then
      let l := s5.vlt.rebuildSegs.filter (· ≠ n)
      let t := { s5 with vlt := { s5.vlt with rebuildSegs := l } }
      if l = [] then raise 0x0809 0x0D [(1, t.vlt.rebuildCol), (4, 0)] t else t
    else s5
  refillReserve s6

/-! ### The end of a service program (R172, R251) -/

/-- A column's copy is complete: its own page and its row's parity page have passed (R251). -/
def colPassed (w : ColWhat) (vpa width : Nat) (s : State) : State :=
  match w with
  | .granule g r m x =>
    let own := s.kor.ownCopies.contains g
    let s1 := recordCopy g r vpa width false x (cipEndOp .encrypt g s)
    granulePassed g r m (if own then { s1 with kor := { s1.kor with ownCopies := s1.kor.ownCopies.filter (· ≠ g) } } else s1)
  | .moved g r from_ x =>
    let s1 := cipEndOp .encrypt g s
    if (mapOf s1 g).ref ≠ 0 ∧ (mapOf s1 g).vpa = from_ then recordCopy g r vpa width false x s1 else s1
  | .dropped g _ _ => cipEndOp .encrypt g s
  | .pad => s

/-- A column's program failed, or its row has no parity page. -/
def colFailed (w : ColWhat) (s : State) : State :=
  match w with
  | .granule g _ _ _ => granuleFailed g (cipEndOp .encrypt g s)
  | .moved g _ _ _ => cipEndOp .encrypt g s
  | .dropped g _ _ => cipEndOp .encrypt g s
  | .pad => s

/-- A running row changed. -/
def putRow (old new : Row) (s : State) : State :=
  { s with shd := { s.shd with rows := s.shd.rows.map (fun r => if r = old then new else r) } }

/-- Rows whose programs have all ended are over; their parity pages stand on the media. -/
def endRows (s : State) : State :=
  let t := (s.shd.rows.filter rowDone).foldl (fun t r => rowParity r t) s
  { t with shd := { t.shd with rows := t.shd.rows.filter (fun r => !rowDone r) } }

/-- The program of a row's page ended. -/
def rowProgramEnd (r : Row) (vpa : Nat) (ok : Bool) (s : State) : State :=
  let j := (vchOf s (vpaCh vpa)).column
  let width := rowWidth s r.seg r.parity
  if r.closed ∧ j = r.parity ∧ r.parityPassed.isNone then
    let done := r.cols.filter (fun c => c.passed = some true)
    let s1 := putRow r { r with parityPassed := some ok } s
    endRows (done.foldl (fun t c =>
      if ok then colPassed c.what (rowPage t r.seg r.row (colChannel t c.col)) width t else colFailed c.what t) s1)
  else match r.cols.find? (fun c => c.col = j && c.passed.isNone) with
    | none => s
    | some c =>
      let s1 := stageGive c.buf
        (putRow r { r with cols := r.cols.map (fun x => if x = c then { c with passed := some ok } else x) } s)
      endRows (if !ok ∨ r.parityPassed = some false then colFailed c.what s1
        else if r.parityPassed = some true then colPassed c.what vpa width s1
        else s1)

/-- One copy of a twin program ended; with the last one the granule's program is over (R148, R149, R172). -/
def twinProgramEnd (p : TwinProg) (vpa : Nat) (ok : Bool) (s : State) : State :=
  let left := p.left.filter (· ≠ vpa)
  let failed := p.failed || !ok
  if left ≠ [] then
    { s with shd := { s.shd with twins := s.shd.twins.map (fun t => if t = p then { t with left := left, failed := failed } else t) } }
  else
    let s1 := stageGive p.buf (cipEndOp .encrypt p.granule { s with shd := { s.shd with twins := s.shd.twins.filter (fun t => t ≠ p) } })
    if p.discard then s1
    else if failed then granuleFailed p.granule s1
    else
      let s2 := p.covers.foldl (fun t w => modWrite w (fun x => { x with twinPassed := true }) t)
        (recordCopy p.granule p.region p.vpa 0 true p.page s1)
      granulePassed p.granule p.region p.mseq s2

/-- A service program ended at a page; `mark` says that a failure is one of the block (R347). A program that no row or twin names
changes nothing. -/
def programEnd (vpa : Nat) (ok mark : Bool) (s : State) : State :=
  let s0 (t : State) : State := if ok then countProgram vpa t else if mark then programFailure vpa t else t
  match s.shd.twins.find? (fun t => t.left.contains vpa) with
  | some p => twinProgramEnd p vpa ok (s0 s)
  | none =>
    match s.shd.rows.find? (fun r => r.seg = vpaSeg vpa && r.row = vpaRow s vpa) with
    | some r => rowProgramEnd r vpa ok (s0 s)
    | none =>
      if s.vlt.ckptRunning.isSome && (segOf s (vpaSeg vpa)).kind = .metaRing then
        if ok then ckptDone (s0 s) else s0 s
      else s

/-- The pages whose service programs run on die `d` of channel `c`. -/
def runningOn (s : State) (c d : Nat) : List Nat :=
  let rows := s.shd.rows.flatMap (fun r =>
    let data := (r.cols.filter (fun x => x.passed.isNone)).map (fun x => rowPage s r.seg r.row (colChannel s x.col))
    if r.closed && r.parityPassed.isNone then data ++ [rowPage s r.seg r.row (colChannel s (r.parity))] else data)
  (rows ++ s.shd.twins.flatMap TwinProg.left).filter (fun v => vpaCh v = c && vpaDie v = d)

/-- A failed die's running programs have failed, with no block marked (R344, R172). -/
def dieProgramsFail (pages : List Nat) (s : State) : State := pages.foldl (fun t v => programEnd v false false t) s

end Sys2Proof.Machine
end

