-- ==== Sys2Proof/Machine/Ecdsa.lean ====
section
/-!
DEFINITION. ECDSA on the curve P-384 of FIPS 186, as far as the part verifies signatures (R53) and derives keys (R547), with HMAC of
FIPS 198. The spec names the algorithms (log 8).
-/

namespace Sys2Proof.Machine

/-- The field of P-384, its order n, the coefficient b and the base point. -/
def ecP : Nat := 0xFFFFFFFFFFFFFFFFFFFFFFFFFFFFFFFFFFFFFFFFFFFFFFFFFFFFFFFFFFFFFFFEFFFFFFFF0000000000000000FFFFFFFF
def ecN : Nat := 0xFFFFFFFFFFFFFFFFFFFFFFFFFFFFFFFFFFFFFFFFFFFFFFFFC7634D81F4372DDF581A0DB248B0A77AECEC196ACCC52973
def ecB : Nat := 0xB3312FA7E23EE7E4988E056BE3F82D19181D9C6EFE8141120314088F5013875AC656398D8A2ED19D2A85C8EDD3EC2AEF
def ecGx : Nat := 0xAA87CA22BE8B05378EB1C71EF320AD746E1D3B628BA79B9859F741E082542A385502F25DBF55296C3A545E3872760AB7
def ecGy : Nat := 0x3617DE4A96262C6F5D9E98BF9292DC29F8F41DBD289A147CE9DA3113B5F0B8C00A60B1CE1D7E819D7A431D7C90EA0E5F

/-- Subtraction in the field. -/
def ecSub (a b : Nat) : Nat := (a + ecP - b) % ecP

/-- Multiplication in the field. -/
def ecMul (a b : Nat) : Nat := a * b % ecP

/-- `a` to the power `e` modulo `m`, `e` below 2^384. -/
def powMod (a e m : Nat) : Nat :=
  (List.range 384).foldl (fun r i => let q := r * r % m; if e.testBit (383 - i) then q * a % m else q) 1

/-- A point in Jacobian coordinates; z = 0 is the point at infinity. -/
structure EcPoint where
  x : Nat
  y : Nat
  z : Nat
  deriving DecidableEq, Repr

/-- A point twice. -/
def ecDouble (p : EcPoint) : EcPoint :=
  let d := ecMul p.z p.z
  let g := ecMul p.y p.y
  let b := ecMul p.x g
  let a := 3 * ecMul (ecSub p.x d) (p.x + d) % ecP
  let x := ecSub (ecMul a a) (8 * b % ecP)
  ⟨x, ecSub (ecMul a (ecSub (4 * b % ecP) x)) (8 * ecMul g g % ecP), ecSub (ecSub (ecMul (p.y + p.z) (p.y + p.z)) g) d⟩

/-- The sum of two points. -/
def ecAdd (p q : EcPoint) : EcPoint :=
  if p.z = 0 then q
  else if q.z = 0 then p
  else
    let pz := ecMul p.z p.z
    let qz := ecMul q.z q.z
    let u := ecMul p.x qz
    let v := ecMul p.y (ecMul qz q.z)
    let h := ecSub (ecMul q.x pz) u
    let r := ecSub (ecMul q.y (ecMul pz p.z)) v
    if h = 0 then (if r = 0 then ecDouble p else ⟨1, 1, 0⟩)
    else
      let hh := ecMul h h
      let hhh := ecMul hh h
      let uh := ecMul u hh
      let x := ecSub (ecSub (ecMul r r) hhh) (2 * uh % ecP)
      ⟨x, ecSub (ecMul r (ecSub uh x)) (ecMul v hhh), ecMul h (ecMul p.z q.z)⟩

/-- a·P + b·Q. -/
def ecSum2 (a b : Nat) (p q : EcPoint) : EcPoint :=
  let pq := ecAdd p q
  (List.range 384).foldl (fun t i =>
    let d := ecDouble t
    match a.testBit (383 - i), b.testBit (383 - i) with
    | true, true => ecAdd d pq
    | true, false => ecAdd d p
    | false, true => ecAdd d q
    | false, false => d) ⟨1, 1, 0⟩

/-- The base point. -/
def ecBase : EcPoint := ⟨ecGx, ecGy, 1⟩

/-- The affine coordinates of a point that is not at infinity. -/
def ecAffine (p : EcPoint) : Nat × Nat :=
  let i := powMod p.z (ecP - 2) ecP
  let ii := ecMul i i
  (ecMul p.x ii, ecMul p.y (ecMul ii i))

/-- Affine coordinates name a point of the curve. -/
def ecOnCurve (x y : Nat) : Bool :=
  decide (x < ecP) && decide (y < ecP) && ecMul y y == (ecSub (ecMul (ecMul x x) x) (3 * x % ecP) + ecB) % ecP

/-- A signature (r, s) over a digest, as a number, verifies under a public key. -/
def ecdsaVerify (x y e r s : Nat) : Bool :=
  ecOnCurve x y && decide (0 < r) && decide (r < ecN) && decide (0 < s) && decide (s < ecN) &&
    (let w := powMod s (ecN - 2) ecN
     let t := ecSum2 (e * w % ecN) (r * w % ecN) ecBase ⟨x, y, 1⟩
     t.z != 0 && (ecAffine t).1 % ecN == r)

/-- The public key of a private key. -/
def ecPublic (d : Nat) : Nat × Nat := ecAffine (ecSum2 d 0 ecBase ecBase)

/-- HMAC-SHA-384 under a key of at most 128 bytes. -/
def hmac384 (key m : List Nat) : List Nat :=
  let k := key ++ List.replicate (128 - key.length) 0
  sha384 (k.map (fun b => b ^^^ 0x5C) ++ sha384 (k.map (fun b => b ^^^ 0x36) ++ m))

/-- The private key of a label and a context under `ROOT_SECRET` (R547); B is read with its first byte highest. DESIGN CHOICE (log 139). -/
def ecDerive (uds label context : List Nat) : Nat :=
  let h (i : Nat) : List Nat := hmac384 uds ([i] ++ label ++ [0] ++ context)
  beValue ((h 1 ++ h 2).take 56) % (ecN - 1) + 1

/-- The labels of R547: "LNL-DEVID" and "LNL-IDENT". -/
def devidLabel : List Nat := [0x4C, 0x4E, 0x4C, 0x2D, 0x44, 0x45, 0x56, 0x49, 0x44]
def identLabel : List Nat := [0x4C, 0x4E, 0x4C, 0x2D, 0x49, 0x44, 0x45, 0x4E, 0x54]

end Sys2Proof.Machine
end

