-- ==== Sys2Proof/Machine/Trust.lean ====
section
/-!
DEFINITION. Measured boot and attestation (17): extending Signets, stages, the anti-rollback commit and the SPDM responder.
-/

namespace Sys2Proof.Machine

/-- A Signet register. -/
def signetOf (s : State) (i : Nat) : Signet := s.sig.signets.getD i {}

/-- S = SHA-384(S ‖ v), count + 1 (R542). -/
def extendSignet (i : Nat) (v : List Nat) (s : State) : State :=
  { s with sig := { s.sig with signets := s.sig.signets.modify i (fun r =>
      ⟨sha384Digest (digestBytes r.value ++ v), wrapAdd 32 r.count 1⟩) } }

/-- The registers a stage writes (R541): the boot ROM S0 to S2, the loader S3 to S5, firmware S7. -/
def stageWrites (stage i : Nat) : Bool :=
  (stage = 0 && i < 3) || (stage = 1 && 3 ≤ i && i < 6) || (stage = 2 && i = 7)

/-- The value staged in `SIG_EXT_DATA0` to `SIG_EXT_DATA5`. -/
def extValue (s : State) : List Nat := s.sig.extData.flatMap (leBytes 8)

/-- What a measured digest is reported as (R553): S2 the loader, S3 the firmware, S4 the image, S0 and S1 as extended. The image of a
boot stands for that of the last live re-application until there is one. -/
def noteDigest (i : Nat) (v : List Nat) (s : State) : State :=
  let d : Digest := BitVec.ofNat 384 (leValue v)
  if i < 4 then { s with sig := { s.sig with digests := s.sig.digests.set i d } }
  else if i = 4 then { s with sig := { s.sig with digests := (s.sig.digests.set 4 d).set 5 d } }
  else s

/-- `EXTEND` (R542): `GO` for register `reg`. A boot stage's extend logs 0x0F02, firmware's 0x0F07. -/
def execExtend (path : Path) (reg : Nat) (s0 : State) : Result :=
  let i := reg % 8
  let s := { s0 with sig := { s0.sig with extReg := i } }
  .next <| dropHalf path (
    if path ≠ .firmware ∨ !stageWrites s.sig.stage i then
      { s with sig := { s.sig with extRefused := satAdd 8 s.sig.extRefused 1 } }
    else
      let v := extValue s
      let s1 := noteDigest i v (extendSignet i v s)
      if i = 7 then raise 0x0F07 0x0B [(4, (signetOf s1 7).count)] s1
      else raise 0x0F02 0x0B [(1, i), (8, leValue (v.take 8))] s1)

/-- `ROOT_SECRET` and `SERIAL` as the SIG takes them in, bytes in offset order (R508, R547). -/
def rootSecret (s : State) : List Nat := leBytes 32 (bogValue s 2 4)
def serialBytes (s : State) : List Nat := leBytes 8 (bogRaw s 0)

/-- The DeviceID and the identity private key (R547). -/
def deviceKey (s : State) : Nat := ecDerive (rootSecret s) devidLabel (serialBytes s)
def identityKey (s : State) : Nat := ecDerive (rootSecret s) identLabel (digestBytes (s.sig.digests.getD 2 0))

/-- The ROM stage begins: the SIG derives the DeviceID key, which stays until it is sealed (R547, R548). -/
def romBegins (s : State) : State := { s with sig := { s.sig with devidKey := some (deviceKey s), devidSealed := false } }

/-- The end of the ROM stage (R547 to R549): the identity key is derived from the loader's digest and its certificate signed with the
DeviceID key, which is then erased; and the certificate sector checked: `certOk` is what that check finds. -/
def sealDevId (certOk : Bool) (s : State) : State :=
  let id := identityKey s
  let cert : IdentCert := ⟨ecPublic id, bogRaw s 0, s.sig.digests.getD 2 0, arbLoader s, ecPublic (deviceKey s)⟩
  let s1 := { s with sig := { s.sig with devidSealed := true, certValid := certOk, devidKey := none, identKey := some id
                                         identCert := some cert } }
  if certOk then s1 else raise 0x0F09 0x0B [] s1

/-- `ADVANCE` (R544): from the management complex only. -/
def execAdvance (path : Path) (certOk : Bool) (s : State) : Result :=
  .next <| dropHalf path (
    if path ≠ .firmware then s
    else if s.sig.stage = 0 then
      let s1 := sealDevId certOk s
      { s1 with sig := { s1.sig with stage := 1 } }
    else if s.sig.stage = 1 then { s with sig := { s.sig with stage := 2 } }
    else s)

/-- A thermometer programmed up to a count: its three copies gain the missing bits (R510, R511, R546). -/
def raiseThermo (group count : Nat) (s : State) : State :=
  let bits := 2 ^ count - 1
  [group, group + 1, group + 2].foldl (fun t w =>
    { t with ifc := { t.ifc with bog := tput 0 t.ifc.bog w (bogRaw t w ||| bits) } }) s

/-- A thermometer programmed up to a version (R546), with the event of a Bog-oak program; one already there is left as it is. -/
def commitThermo (group count : Nat) (s : State) : State :=
  if count ≤ thermCount (thermWord s group) then s else raise 0x0D08 0x0A [(1, group)] (raiseThermo group count s)

/-- `COMMIT` (R546): host software or the management controller asks firmware to advance the thermometers. -/
def execCommit (path : Path) (s : State) : Result :=
  .next <| dropHalf path (
    if path = .firmware ∨ path = .array then s
    else
      let s0 := { s with sig := { s.sig with commitRefused := false } }
      if s.spn.mode = .service ∧ s.nrg.quagOk then
        let s1 := commitThermo 18 s.sig.imgArb (commitThermo 15 s.sig.fwArb (commitThermo 12 s.sig.ldrArb s0))
        raise 0x0F04 0x0B [(1, arbLoader s1), (1, arbFirmware s1), (1, arbImage s1)] s1
      else
        raise 0x0F04 0x0B [(1, arbLoader s0), (1, arbFirmware s0), (1, arbImage s0)]
          { s0 with sig := { s0.sig with commitRefused := true } })

/-! ### SPDM responder -/

/-- A transport's connection. -/
def connOf (t : Transport) (s : State) : SpdmConn :=
  match t with
  | .doe => s.sig.connDoe | .smbus => s.sig.connSmbus | .vdm => s.sig.connVdm

/-- A transport's connection written. -/
def setConn (t : Transport) (c : SpdmConn) (s : State) : State :=
  match t with
  | .doe => { s with sig := { s.sig with connDoe := c } }
  | .smbus => { s with sig := { s.sig with connSmbus := c } }
  | .vdm => { s with sig := { s.sig with connVdm := c } }

/-- A request counts by its transport. -/
def countSpdm (t : Transport) (s : State) : State :=
  match t with
  | .doe => { s with sig := { s.sig with doeReq := satAdd 16 s.sig.doeReq 1 } }
  | _ => { s with sig := { s.sig with mctpReq := satAdd 16 s.sig.mctpReq 1 } }

/-- The index of a transport in R550. -/
def transportCode : Transport → Nat
  | .doe => 0 | .smbus => 1 | .vdm => 2

/-- An ERROR response (R551): counted and logged with the transport and the code of DSP0274. -/
def spdmRefuse (t : Transport) (code : Nat) (s : State) : State :=
  raise 0x0F08 0x0B [(1, transportCode t), (1, code)]
    (send (.spdmError t code) { s with sig := { s.sig with errors := satAdd 16 s.sig.errors 1 } })

/-- A request reaches the responder (R550, R540), while the core domains run: counted; under the boot ROM's recovery service every request receives
ERROR Unspecified, code 0x05 of DSP0274 (log 9). -/
def spdmServe (t : Transport) (k : State → State) (s : State) : State :=
  if !s.pwr.corePg then s else
  let s1 := countSpdm t s
  if s.sig.recoverySvc && s.sig.stage = 0 then spdmRefuse t 0x05 s1 else k s1

/-- A signature made with the identity key (R552). -/
def signOnce (s : State) : State := { s with sig := { s.sig with signed := satAdd 16 s.sig.signed 1 } }

/-- `GET_VERSION` (R550, R551): the connection starts again; versions 1.2 and 1.1. -/
def execGetVersion (t : Transport) (s : State) : Result :=
  .next (spdmServe t (fun s =>
    send (.spdm t 0x04 [(1, 2), (2, 0x1100), (2, 0x1200)]) (setConn t { versioned := true } s)) s)

/-- `GET_CAPABILITIES` (R551): CERT_CAP, CHAL_CAP, MEAS_CAP with signature; CTExponent 13. -/
def execGetCapabilities (t : Transport) (s : State) : Result :=
  .next (spdmServe t (fun s =>
    send (.spdm t 0x61 [(1, 13), (4, 0x16)]) (setConn t { connOf t s with capable := true } s)) s)

/-- `NEGOTIATE_ALGORITHMS` (R551): whether the request offers P-384 and SHA-384; InvalidRequest otherwise. -/
def execNegotiateAlgorithms (t : Transport) (offersP384 offersSha384 : Bool) (s : State) : Result :=
  .next (spdmServe t (fun s =>
    if offersP384 && offersSha384 then
      send (.spdm t 0x63 [(4, 0x80), (4, 0x02)]) (setConn t { connOf t s with negotiated := true } s)
    else spdmRefuse t 0x01 s) s)

/-- The bytes of the certificate sector behind its 4-byte length (R549), as far as the sector goes. -/
def certChain (s : State) : List Nat :=
  let all := (List.range 512).flatMap (fun i => leBytes 8 (arrayWord (0x684000 + 8 * i) s))
  (all.drop 4).take (min (leAt all 0 4) 4092)

/-- `GET_DIGESTS` (R551): the digest of slot 0. A chain the SIG built itself has an open content. -/
def execGetDigests (t : Transport) (s : State) : Result :=
  .next (spdmServe t (fun s =>
    let d := if s.sig.certValid then leValue (sha384 (certChain s)) else Config.observed s.free
    send (.spdm t 0x01 [(1, 1), (48, d)]) (useFree s)) s)

/-- `GET_CERTIFICATE` (R549, R551): a portion of the chain of slot 0; another slot is no supported request. -/
def execGetCertificate (t : Transport) (slot off len : Nat) (s : State) : Result :=
  .next (spdmServe t (fun s =>
    if slot ≠ 0 then spdmRefuse t 0x07 s
    else
      let part := ((certChain s).drop off).take len
      let v := if s.sig.certValid then leValue part else Config.observed s.free
      send (.spdm t 0x02 [(2, part.length), (part.length, v)]) (useFree s)) s)

/-- `CHALLENGE` (R552): CHALLENGE_AUTH, signed with the identity key; the signature's bytes are open. -/
def execChallenge (t : Transport) (slot nonce : Nat) (s : State) : Result :=
  .next (spdmServe t (fun s =>
    if slot ≠ 0 then spdmRefuse t 0x07 s
    else send (.spdm t 0x03 [(32, nonce), (96, Config.observed s.free)]) (useFree (signOnce s))) s)

/-- The boot configuration record (R555). -/
def bootConfig (s : State) : Fields :=
  [(1, s.sig.loaderSlot), (1, s.sig.fwSlot), (1, s.sig.bootImage), (1, s.sig.bootMode), (1, s.sig.bootSec),
   (1, s.sig.bootKeyModes), (1, flag s.pwr.testStrap + 2 * flag s.spn.clockDegraded + 4 * flag s.sig.certValid), (1, 0),
   (4, s.evr.powerCycles), (4, 0)]

/-- A measurement block (R553). -/
def measBlock (s : State) (i : Nat) : Fields :=
  let dig (k : Nat) : Fields := [(48, (s.sig.digests.getD k 0).toNat)]
  if i = 1 then dig 0
  else if i = 2 then dig 1
  else if i = 3 then dig 2
  else if i = 4 then dig 3
  else if i = 5 then dig 4
  else if i = 6 then bootConfig s
  else if i = 7 then
    [(1, s.sig.ldrArb), (1, s.sig.fwArb), (1, s.sig.imgArb), (1, arbLoader s), (1, arbFirmware s), (1, arbImage s),
     (1, nonceJump s), (1, fuseBits s)]
  else if i = 8 then dig 5
  else [(48, (signetOf s (i - 9)).value.toNat), (4, (signetOf s (i - 9)).count)]

/-- `GET_MEASUREMENTS` (R553): one block 1 to 16, or all of them for 0xFF; signed on request. -/
def execGetMeasurements (t : Transport) (index nonce : Nat) (signed_ : Bool) (s : State) : Result :=
  .next (spdmServe t (fun s =>
    let blocks := if index = 0xFF then (List.range 16).map (· + 1) else [index]
    if index = 0 then send (.spdm t 0x60 [(1, 16)]) s
    else if index ≠ 0xFF ∧ 16 < index then spdmRefuse t 0x01 s
    else
      let body := blocks.flatMap (fun i => (1, i) :: measBlock s i)
      if signed_ then send (.spdm t 0x60 (body ++ [(32, nonce), (96, Config.observed s.free)])) (useFree (signOnce s))
      else send (.spdm t 0x60 body) s) s)

/-- `RESPOND_IF_READY` (R551, R552): the responder never answers with ResponseNotReady, so no request waits; the answer's
content is open. -/
def execRespondIfReady (t : Transport) (s : State) : Result :=
  .next (spdmServe t (fun s => send (.spdm t 0x7F [(1, Config.observed s.free % 256)]) (useFree s)) s)

/-- `SPDM_UNSUPPORTED` (R551): ERROR UnsupportedRequest. -/
def execSpdmUnsupported (t : Transport) (s : State) : Result :=
  .next (spdmServe t (spdmRefuse t 0x07) s)

/-- `DOE_ABORT` (R550). -/
def execDoeAbort (s : State) : Result := .next (setConn .doe {} s)

end Sys2Proof.Machine
end

