-- ==== Sys2Proof/Machine/RegView.lean ====
section
/-!
DEFINITION. What every register reads as (21 and the register blocks of each chapter): one function per block from an offset to
the fields of the register there, each as its lowest bit, its width and its value.
-/

namespace Sys2Proof.Machine

/-- The fields of a register: lowest bit, width, value. -/
abbrev RegFields := List (Nat × Nat × Nat)

/-- The 64-bit value of a register's fields. -/
def packFields (l : RegFields) : Nat := l.foldl (fun a f => a ||| ((f.2.2 % 2 ^ f.2.1) <<< f.1)) 0

/-- A value that a field of `w` bits shows saturated. -/
def sat (w n : Nat) : Nat := min n (2 ^ w - 1)

/-- Word `k` of a digest (`IMG_VLH`, `SIG_VALUE`). -/
def digestWord (d : Digest) (k : Nat) : Nat := bitsOf d.toNat (64 * k) 64

/-- The eight-byte index `k` of an offset in a run of `n` registers from `base`. -/
def inRun (off base n : Nat) : Option Nat :=
  if base ≤ off ∧ off < base + 8 * n ∧ (off - base) % 8 = 0 then some ((off - base) / 8) else none

/-- `SPN` (R44 ff.). `SPN_CONFIG` reads 0 until the structural records are applied. -/
def spnReg (off : Nat) (s : State) : RegFields :=
  match off with
  | 0x00 => [(32, 8, s.spn.stepping), (24, 4, s.spn.variant), (16, 8, 0x4C), (0, 16, 0x7460)]
  | 0x08 =>
    if !s.img.structApplied then []
    else [(32, 1, flag s.spn.clockDegraded), (24, 8, s.spn.dramGib), (20, 4, s.spn.diesPerCh),
      (16, 4, (s.vch.filter (fun v => v.state = 3)).length),
      (8, 4, maskOf ((List.range 4).filter (fun q => (List.range 8).any (fun u => (roleOf s (quadUnit q u)).state = .failed)))),
      (4, 4, s.spn.quadEn), (0, 4, nQuads s)]
  | 0x10 => [(48, 16, s.spn.modeSeq), (16, 8, s.spn.cause), (8, 8, s.spn.cause / 256), (4, 3, modeCode s.spn.prevMode),
      (0, 3, modeCode s.spn.mode)]
  | 0x18 => [(0, 6, s.spn.roleIdx)]
  | 0x20 =>
    if 0x2F < s.spn.roleIdx then []
    else
      let e := roleOf s s.spn.roleIdx
      [(48, 16, e.gen), (40, 2, unitCode e.state), (16, 4, e.cover), (8, 6, e.func), (0, 6, s.spn.roleIdx)]
  | 0x28 => [(32, 16, s.spn.roleChanges), (16, 16, s.spn.unresolved), (0, 16, s.spn.staleBounces)]
  | _ => []

/-- `IMG` (02). -/
def imgReg (off : Nat) (s : State) : RegFields :=
  let i := s.img
  let slot (r : SlotReg) : RegFields := [(48, 2, r.state), (40, 8, r.cause), (32, 6, r.arb), (0, 32, r.version)]
  match off with
  | 0x00 => [(48, 8, i.cause), (40, 2, i.causeSlot), (16, 16, i.faultRecord), (7, 1, flag i.locked),
      (6, 1, flag (i.liveState = 1 || i.liveState = 2)), (5, 1, flag i.structApplied), (4, 1, flag i.vaultReformat),
      (1, 1, i.activeSlot), (0, 1, flag i.imageValid)]
  | 0x08 => slot i.slotA
  | 0x10 => slot i.slotB
  | 0x18 => [(0, 2, i.forceSlot)]
  | 0x20 => [(16, 1, i.liveSlot), (8, 3, i.liveOp), (0, 1, flag i.liveGo)]
  | 0x28 => [(56, 8, i.liveCause), (32, 9, i.regionsTotal), (16, 9, i.regionsDone), (8, 8, i.currentRegion),
      (0, 3, i.liveState)]
  | _ => match inRun off 0x40 6, inRun off 0x80 6 with
    | some k, _ => [(0, 64, if i.imageValid then digestWord i.vlh k else 0)]
    | _, some k => [(0, 64, digestWord i.mvlh k)]
    | _, _ => []

/-- Memory_Active (R108). -/
def memActive (s : State) : Bool := serving s && s.hlk.presented

/-- Writes held now (`HELD_WRITES`, R9, R198). -/
def heldNow (s : State) : Nat := (s.hlk.writes.filter (fun w => holdNow s w ≠ .none)).length

/-- `HLK` (03). -/
def hlkReg (off : Nat) (s : State) : RegFields :=
  let h := s.hlk
  match off with
  | 0x00 => [(48, 16, h.retrains), (16, 1, flag h.sris), (9, 1, flag (memActive s)), (8, 1, flag h.degraded), (4, 4, h.width),
      (1, 3, h.speed), (0, 1, flag h.linkUp)]
  | 0x08 => [(40, 2, devLoad s), (32, 1, flag h.ingressClosed), (24, 8, heldNow s), (8, 8, h.rwdFree), (0, 8, h.reqFree)]
  | 0x10 => [(32, 2, h.holdCause), (0, 32, h.holdUs)]
  | 0x18 => [(0, 9, h.offlIdx)]
  | 0x20 => [(32, 32, tget 0 h.readsPoisoned h.offlIdx), (0, 32, tget 0 h.writesDiscarded h.offlIdx)]
  | 0x28 => [(48, 16, h.decoderRefused), (32, 16, h.poisonSent), (16, 16, h.ecrc), (0, 16, h.lcrc)]
  | 0x30 => [(2, 1, flag h.mctpVendorEn), (1, 1, flag h.aspmL1En), (0, 1, flag h.devloadEn)]
  | 0x38 => [(16, 16, 0x7460), (0, 16, h.vendorId)]
  | _ => []

/-- The `CLASS` and `PRIO` bytes of a REGIONS entry (R64). -/
def classOf (e : RegionEntry) : Nat :=
  flag e.sequential + 2 * (match e.ack with | .loc => 0 | .mirrored => 1 | .vaulted => 2)
    + 8 * (match e.key with | .native => 0 | .derived => 1 | .plain => 2) + 32 * flag e.sideB + 64 * e.qos

def prioOf (e : RegionEntry) : Nat := e.dumpPrio + 16 * e.restPrio

/-- `WRP` (04, 05). -/
def wrpReg (off : Nat) (s : State) : RegFields :=
  let w := s.wrp
  let r := region s w.regionIdx
  let held (h : Hold) : Nat := (s.hlk.writes.filter (fun x => x.hold = h)).length
  match off with
  | 0x00 => [(0, 8, w.regionIdx)]
  | 0x08 => [(48, 16, r.entry.share), (40, 8, prioOf r.entry), (32, 8, classOf r.entry), (16, 16, r.entry.size),
      (0, 16, r.entry.base)]
  | 0x10 => [(20, 4, r.startFail), (16, 2, r.eff), (8, 1, flag r.adopted), (2, 1, flag r.reArm), (0, 2, lifeCode r.life)]
  | 0x20 => [(0, 64, r.wrCount)]
  | 0x28 => [(32, 32, w.vaultedUs), (16, 16, w.mirroredNs), (0, 16, w.localNs)]
  | 0x30 => [(16, 8, w.peatShare), (0, 16, w.ageNs)]
  | 0x38 => [(48, 8, w.coasted), (40, 8, w.truncated), (16, 16, w.coastNs), (0, 16, w.closeNs)]
  | 0x40 => [(56, 8, w.zeroCause), (32, 22, w.bRaw), (0, 22, w.b)]
  | 0x48 => [(32, 25, (s.gst.rsv.filter (mirrorCopy s)).length), (0, 25, dCount s)]
  | 0x50 => [(48, 16, w.inEGib), (32, 16, w.inEFixed), (24, 8, w.inReserve), (0, 24, sat 24 w.inEUsable)]
  | 0x58 => [(1, 1, flag w.recompute), (0, 1, flag w.forceZero)]
  | 0x60 => [(55, 9, s.gst.twin.length), (40, 8, held .budget), (32, 8, held .share + held .keyReserve),
      (24, 8, sat 8 s.kor.held.length), (7, 1, flag w.leasesRecalled), (6, 1, flag w.swapDerate), (5, 1, flag w.learning),
      (4, 1, flag w.overB), (3, 1, flag w.full), (2, 1, flag w.high), (1, 1, flag (w.b = 0)), (0, 1, flag w.valid)]
  | 0x68 => [(40, 24, shareLimit s w.shareRegion), (16, 24, regionRsv s w.shareRegion),
      (8, 1, flag (shareLimit s w.shareRegion ≤ regionRsv s w.shareRegion)), (0, 8, w.shareRegion)]
  | 0x70 => [(0, 3, w.gswWindow)]
  | 0x78 => [(32, 32, w.shareHolds), (0, 32, w.budgetHolds)]
  | _ => []

/-- Codes of the gauge's enumerations. -/
def anchorCode : Anchor → Nat
  | .unanchored => 0 | .full => 1 | .empty => 2

def reasonCode : HoldReason → Nat
  | .none => 0 | .input => 1 | .learning => 2 | .calibration => 3

def inputCode : InputState → Nat
  | .good => 0 | .qualify => 1 | .settle => 2 | .ride => 3 | .committed => 4

def lstateCode : LState → Nat
  | .idle => 0 | .waitFull => 1 | .waitBudget => 2 | .running => 3 | .accepted => 4 | .disqualified => 5

/-- `NRG` (06). -/
def nrgReg (off : Nat) (s : State) : RegFields :=
  let n := s.nrg
  let p := n.params.find? (fun x => x.id = n.paramIdx)
  match off with
  | 0x00 => [(20, 1, flag n.esrHigh), (19, 1, flag n.chargeDerate), (18, 1, flag n.cmbFail), (17, 1, flag n.swapDerate),
      (16, 1, flag n.countDrift), (15, 1, flag n.capSuspect), (14, 1, flag n.relearn), (12, 2, anchorCode n.anchor),
      (11, 1, flag n.hibernate), (10, 1, flag n.logOk), (9, 1, flag n.quagOk), (8, 1, flag n.storePresent),
      (7, 1, flag n.chgEn), (6, 1, flag n.holdupEn), (4, 2, reasonCode n.reason), (0, 3, inputCode n.input)]
  | 0x08 => [(48, 16, n.vInput), (32, 16, n.vTarget), (16, 16, n.vOcv), (0, 16, n.vStore)]
  | 0x10 => [(16, 16, n.iInput), (0, 16, twos 16 n.iStore)]
  | 0x18 => [(32, 16, twos 16 n.tDiode), (16, 16, if n.ntc1Out then 0x8000 else twos 16 n.tNtc1),
      (0, 16, if n.ntc0Out then 0x8000 else twos 16 n.tNtc0)]
  | 0x20 => [(32, 32, sat 32 (n.qFull / 1000)), (0, 32, sat 32 (n.q / 1000))]
  | 0x28 => [(32, 32, if n.cells = 0 then 0 else if n.anchor = .unanchored then 0xFFFFFFFF else sat 32 n.eQ), (0, 32, sat 32 n.eV)]
  | 0x30 => [(32, 16, n.chargeCalc), (16, 16, n.chargePct), (0, 16, n.holdupReserve)]
  | 0x38 => [(40, 24, n.cUse), (16, 24, n.cLearned)]
  | 0x40 => [(40, 24, n.cycles), (32, 3, n.bin), (16, 16, n.esrBase), (0, 16, esrBin n n.bin)]
  | 0x48 => [(4, 12, n.intervalD), (0, 1, flag (n.learnGo && decide (n.lstate = .waitFull)))]
  | 0x50 => [(40, 24, n.lastC), (24, 16, n.lastEsr), (16, 8, n.learnCause), (0, 3, lstateCode n.lstate)]
  | 0x58 => [(16, 16, n.iNow), (0, 16, n.iSet)]
  | 0x60 => [(0, 8, n.paramIdx)]
  | 0x68 => [(0, 32, (p.map Param.val).getD 0)]
  | 0x70 => [(32, 32, (p.map Param.hi).getD 0), (0, 32, (p.map Param.lo).getD 0)]
  | 0x78 => [(48, 16, n.cellMax), (32, 16, n.cellMin), (24, 5, n.maxIdx), (16, 5, n.minIdx), (8, 8, n.misses),
      (0, 5, n.cellsSeen)]
  | 0x80 => [(48, 16, sat 16 n.eGibLast), (32, 16, n.eGibMeas), (30, 2, n.calState), (0, 30, sat 30 n.calDataMib)]
  | _ => []

/-- Codes of the collection states. -/
def gcCode : GcState → Nat
  | .idle => 0 | .background => 1 | .critical => 2

/-- Settled granules of a quadrant's ring that wait for capture. -/
def settledIn (s : State) (q : Nat) : List Nat := (ringOf s q).filter (settled s)

/-- `SHD` (07). -/
def shdReg (off : Nat) (s : State) : RegFields :=
  let d := s.shd
  let ratio (a b : Nat) : Nat := if b = 0 then 0 else sat 16 (a * 100 / b)
  match off with
  | 0x00 => [(12, 1, flag (d.cmds ≠ [])), (11, 1, flag d.balFloor), (10, 1, flag d.life100), (9, 1, flag d.life90),
      (8, 1, flag d.wearAhead), (4, 2, gcCode d.gc), (3, 1, flag d.spacePause), (0, 3, regimeCode d.regime)]
  | 0x08 => [(32, 32, sat 32 (d.rate / 1024)), (0, 32, twos 32 (d.balance / 1048576))]
  | 0x10 => [(0, 32, sat 32 (d.debt / 2 ^ 30))]
  | 0x18 => [(0, 64, d.written / 1048576)]
  | 0x20 => [(0, 64, d.shadowed / 1048576)]
  | 0x28 => [(32, 24, (s.vlt.segs.map (fun e => e.2.erases)).foldl max 0), (16, 16, d.elapsedLife), (0, 16, d.lifeUsed)]
  | 0x30 => [(32, 32, reserveRows s), (0, 32, freeRows s)]
  | 0x38 => [(32, 32, d.padPages), (16, 16, ratio (d.written - d.saved) d.shadowed),
      (0, 16, if d.waRecent = 0 then ratio d.recentProgrammed d.recentShadowed else d.waRecent)]
  | 0x40 => [(24, 8, d.gcShare), (16, 8, d.gcLow), (0, 10, d.rowCloseMs)]
  | 0x68 => [(32, 32, d.cmdDone), (0, 32, d.cmdTarget)]
  | 0x70 => [(32, 32, d.wlMoves), (0, 32, d.wornBlocks)]
  | _ => match inRun off 0x48 4 with
    | some q =>
      let l := settledIn s q
      [(48, 16, sat 16 ((l.map (epochAge s)).foldl max 0 * 50 / 1000)), (24, 24, l.length), (0, 24, (ringOf s q).length)]
    | none => []

/-- Data pages of a quadrant that passed in the dump. -/
def dataPassed (d : DumpQuad) : List (Nat × Nat) :=
  d.placed.filterMap (fun e => match e.1 with | .data g => some (g, e.2) | _ => none)

/-- Granules of a quadrant listed as LOST. -/
def priorLost (d : DumpQuad) : Nat := (d.list.filter (fun e => e.state = .lost)).length

/-- A sum over the four quadrants of a dump. -/
def dumpSum (s : State) (f : DumpQuad → Nat) : Nat := f s.dmp.q0 + f s.dmp.q1 + f s.dmp.q2 + f s.dmp.q3

/-- Regions not ONLINE that hold PENDING granules. -/
def keyWaiting (s : State) : List (Nat × Nat) :=
  ((List.range 256).map (fun r => (r, (regionGranules s r (fun w => w.st = .pending)).length))).filter
    (fun e => 0 < e.2 && (region s e.1).life ≠ .online)

/-- `DMP` (08, 09). -/
def dmpReg (off : Nat) (s : State) : RegFields :=
  let d := s.dmp
  match off with
  | 0x00 => [(32, 32, d.seq), (22, 1, flag d.dieLoss), (21, 1, flag d.bounce), (20, 1, flag d.media), (19, 1, flag d.alarm),
      (18, 1, flag d.floored), (17, 1, flag d.truncated), (16, 1, flag d.complete), (15, 1, flag d.done),
      (14, 1, flag d.holdupAct), (13, 1, flag d.preflush), (8, 4, d.trigger), (0, 3, d.phase)]
  | 0x08 => [(32, 32, dumpSum s (fun q => (dataPassed q).length)), (0, 32, dumpSum s (fun q => q.list.length))]
  | 0x10 => [(32, 32, dumpSum s priorLost), (0, 32, dumpSum s (fun q => q.lost.length))]
  | 0x18 => [(32, 32, d.totalUs), (0, 32, d.listUs)]
  | 0x20 => [(48, 16, d.vEnd), (32, 16, d.vCommit), (0, 32, d.eDrawn)]
  | 0x28 => [(32, 32, sat 32 d.eTail), (0, 32, sat 32 d.eWave)]
  | 0x50 => [(32, 32, d.dscSeq), (0, 32, d.dsc)]
  | 0x58 => [(16, 16, d.testFloor)]
  | 0x100 => [(32, 32, d.srcDumpSeq), (10, 1, flag d.scanRebuilt), (9, 1, flag d.markMissing), (8, 1, flag d.unprotLoss),
      (4, 2, d.kind), (0, 3, d.rphase)]
  | 0x108 => [(32, 32, d.restored), (0, 32, pendingCount s)]
  | 0x110 => [(32, 32, (s.gst.states.filter (fun e => e.2.st = .poison)).length), (0, 32, d.lostAtRestore)]
  | 0x118 => [(32, 32, d.bulkMs), (0, 32, d.openUs)]
  | 0x120 => [(32, 32, d.fetches), (0, 32, d.fetchMaxUs)]
  | 0x128 => [(32, 32, d.cpktSeq), (0, 32, d.replayed)]
  | 0x130 => [(32, 9, (keyWaiting s).length), (0, 32, ((keyWaiting s).map Prod.snd).foldl (· + ·) 0)]
  | 0x138 => [(48, 16, d.parityRepairs), (32, 16, d.partnerRepairs), (16, 16, d.retryFailed), (0, 16, d.tagFails)]
  | _ => match inRun off 0x30 4 with
    | some q =>
      let x := dumpQuad s q
      [(40, 24, (dataPassed x).length), (16, 24, x.list.length), (4, 4, x.phase), (3, 1, flag x.marked)]
    | none => []

/-- `KOR` (11). -/
def korReg (off : Nat) (s : State) : RegFields :=
  let k := s.kor
  match off with
  | 0x00 => [(23, 1, flag k.fullResync), (22, 1, flag (k.conflicts ≠ [])), (21, 1, flag k.pressureOut), (20, 1, flag k.pressureIn),
      (19, 1, flag (forceOk s)), (18, 1, flag k.tbAgreed), (17, 1, flag k.copiesCurrent), (16, 1, flag k.side), (12, 4, k.width),
      (10, 2, flag k.spareTx + 2 * flag k.spareRx), (8, 2, k.witness), (4, 4, k.soloCause), (0, 3, pairCode k.state)]
  | 0x08 => [(32, 9, k.rxFailed), (16, 9, k.txFailed), (0, 16, k.swaps)]
  | 0x10 => [(32, 32, k.mack), (0, 32, k.mseqNext)]
  | 0x18 => [(32, 32, k.pMepoch), (8, 6, k.pCwyId), (1, 1, flag k.pTiebreak), (0, 1, flag k.pSide)]
  | 0x20 => [(48, 16, k.decisions), (32, 2, k.retrain), (0, 32, k.lastNs)]
  | 0x28 => [(32, 32, k.resent), (0, 32, (s.gst.states.filter (fun e => e.2.stale)).length)]
  | 0x30 => [(48, 16, k.replays), (32, 16, k.fecUncorr), (16, 16, k.crc), (0, 16, k.fecSym)]
  | 0x38 => [(16, 16, k.swapThresh), (0, 10, k.forceWaitS)]
  | 0x40 => [(32, 32, k.rttMax), (0, 32, k.rtt)]
  | _ => []

/-- The filtered PFAIL_OD line is asserted. -/
def odAsserted (s : State) : Bool := s.pwr.odFilter.st = .asserted || s.pwr.odFilter.st = .stuck

/-- `CWY` (12). -/
def cwyReg (off : Nat) (s : State) : RegFields :=
  let c := s.cwy
  match off with
  | 0x00 => [(18, 6, c.headId), (16, 2, runCode c.unit), (15, 1, flag (odAsserted s)), (14, 1, flag c.pfailOut),
      (13, 1, flag c.idFromImage), (12, 1, flag c.headCapable), (11, 1, flag c.dupId), (10, 1, flag c.electing),
      (9, 1, flag c.isHead), (8, 1, flag c.ringUp), (0, 6, c.myId)]
  | 0x08 => [(0, 64, c.live)]
  | 0x10 => [(0, 64, c.dumping)]
  | 0x18 => [(16, 8, c.eidBase), (8, 5, c.updParallel), (1, 1, flag c.rollEn), (0, 1, flag c.remoteWrEn)]
  | 0x20 => [(14, 10, c.winBase)]
  | 0x28 => [(48, 16, c.noAnswer), (32, 16, c.alive), (16, 16, c.dead), (0, 16, c.queries)]
  | 0x30 => [(48, 16, c.relocks), (32, 16, c.winAbort), (16, 16, c.hopsExpired), (0, 16, c.crcErr)]
  | 0x38 => [(14, 2, c.updState), (8, 6, c.failId), (0, 7, c.updated)]
  | _ => []

/-- `CIP` (13). Selecting a slot above 263 selects none; the key words read 0. -/
def cipReg (off : Nat) (s : State) : RegFields :=
  let c := s.cip
  let k := slotOf s c.slotSel
  match off with
  | 0x00 => [(16, 5, c.alarmSrc), (15, 1, flag c.alarmLatch), (14, 1, flag c.rsvRecovered), (13, 1, flag (c.slots.any KSlot.low)),
      (12, 1, flag (c.slots.any KSlot.guard)), (11, 1, flag (rsvPending s)), (10, 1, flag c.compactBusy), (8, 1, c.activeHalf),
      (0, 8, c.coresOk)]
  | 0x08 => [(16, 8, c.refused), (0, 2, c.owner)]
  | 0x10 => [(0, 9, c.slotSel)]
  | 0x18 => [(32, 32, k.kcv), (16, 3, k.root), (8, 8, k.result), (2, 1, flag k.reArm), (0, 2, runCode k.st)]
  | 0x20 => [(8, 3, c.cmdRoot)]
  | 0x28 => [(0, 64, k.counter)]
  | 0x30 => [(0, 64, k.mark)]
  | 0x38 => [(32, 4, c.jumps), (16, 16, usedEntries s), (1, 1, flag (c.compactGo && c.compactBusy))]
  | 0x40 => [(0, 3, c.dummy)]
  | 0x48 => [(48, 16, c.tagFails), (32, 16, c.keyRefused), (16, 16, c.guardWaits), (0, 16, c.coreFaults)]
  | _ => []

/-- `TSK` (14). -/
def tskReg (off : Nat) (s : State) : RegFields :=
  let t := s.tsk
  match off with
  | 0x00 => [(32, 8, t.quarantined), (16, 8, ((List.range 4).map (fun q => runCode (t.slices.getD q .off) * 4 ^ q)).foldl (· + ·) 0),
      (12, 4, t.recarved), (0, 2, runCode t.unit)]
  | 0x28 => [(0, 5, t.saveRsv)]
  | 0x30 => [(36, 4, t.cause), (32, 4, t.requester), (0, 24, t.pointer)]
  | 0x38 => [(48, 16, t.badPointer), (32, 16, t.countZero), (16, 16, t.nonHolder), (0, 16, t.badShare)]
  | 0x40 => [(0, 24, t.descSel)]
  | 0x48 =>
    if (ptrPool s t.descSel).isNone then []
    else
      let d := descOf s t.descSel
      [(48, 16, d.holders), (40, 8, d.cls), (32, 8, d.refcnt), (24, 8, d.dstate), (0, 24, t.descSel)]
  | _ => match inRun off 0x08 4 with
    | some i => [(48, 16, t.emptyCnt.getD i 0), (32, 16, t.spills.getD i 0), (16, 16, poolFree s i), (0, 16, poolInForce s i)]
    | none => []

/-- The sector with the highest erase count, and the count (`IFC_WEAR`). -/
def worstSector (s : State) : Nat × Nat := s.ifc.eraseCount.foldl (fun a e => if a.2 < e.2 then e else a) (0, 0)

/-- `IFC` (15). -/
def ifcReg (off : Nat) (s : State) : RegFields :=
  let f := s.ifc
  let g := f.ecntBank * 1024 + f.ecntSector
  match off with
  | 0x00 => [(15, 1, flag (busyStatus s)), (14, 1, flag (s.spn.mode = .boot || s.spn.mode = .test || s.spn.mode = .recovery)), (13, 1, flag (openStarts s ≠ [])), (8, 5, f.waiting.length),
      (1, 1, flag f.bank1.busy), (0, 1, flag f.bank0.busy)]
  | 0x08 => [(0, 64, statusWord f.bank0)]
  | 0x10 => [(0, 64, statusWord f.bank1)]
  | 0x18 => [(10, 1, f.ecntBank), (0, 10, f.ecntSector)]
  | 0x20 => [(32, 32, tget 0 f.eraseSec g), (24, 8, tget 0 f.lastPulses g), (0, 24, tget 0 f.eraseCount g)]
  | 0x28 =>
    let m := worstSector s
    [(40, 24, m.2), (39, 1, m.1 / 1024), (29, 10, m.1), (0, 16, f.slowErases)]
  | 0x30 => [(48, 16, f.uncorr), (32, 16, f.corrected), (16, 16, f.refused), (0, 16, f.seqErrs)]
  | 0x38 => [(30, 10, f.jAux), (28, 2, f.jType), (26, 1, f.jBank), (16, 10, f.jSector), (1, 1, flag f.jFailed)]
  | 0x40 => [(0, 64, f.bogLocks)]
  | 0x48 => [(0, 64, f.bogLocks / 2 ^ 64)]
  | 0x50 => [(32, 2, fuseBits s), (28, 4, nonceJump s), (20, 7, arbImage s), (12, 7, arbFirmware s), (4, 7, arbLoader s)]
  | 0x58 => [(0, 64, bogRaw s 0)]
  | _ => []

/-- A path's cursor (R533). -/
def cursorOf (p : Path) (s : State) : Cursor :=
  match p with
  | .firmware => s.evr.curFirmware
  | .bar0 => s.evr.curBar0
  | .smbus => s.evr.curSmbus
  | .array => s.evr.curArray

/-- The word `k` of a path's window: 0 while `READY` is 0 or no record is loaded (R533). -/
def windowData (c : Cursor) (k : Nat) : Nat :=
  match c.window with
  | some r => if c.ready then leAt (sedgeBytes r) (8 * k) 8 else 0
  | none => 0

/-- `EVR` (16), as path `p` reads it. -/
def evrReg (p : Path) (off : Nat) (s : State) : RegFields :=
  let e := s.evr
  let c := cursorOf p s
  match off with
  | 0x00 => [(20, 4, min e.folds.length 15), (17, 3, s.aos.records.length), (16, 1, flag e.writing.isSome),
      (10, 6, e.queue.length), (9, 1, flag e.memOnly), (8, 1, flag e.alert), (0, 7, e.goodSectors)]
  | 0x08 => [(0, 64, e.newest)]
  | 0x10 => [(32, 32, e.powerCycles), (0, 32, e.opSec)]
  | 0x18 => [(0, 64, e.retired)]
  | 0x20 => [(48, 16, e.dropped), (32, 16, e.writeFails), (16, 16, e.foldEvict), (0, 16, e.snapSkipped)]
  | 0x28 => [(0, 16, e.foldMs)]
  | 0x30 => [(0, 64, c.seq)]
  | 0x38 => [(2, 1, flag c.missing), (1, 1, flag c.ready), (0, 1, flag c.next)]
  | _ => match inRun off 0x100 32 with
    | some k => [(0, 64, windowData c k)]
    | none => []

/-- `SIG` (17). -/
def sigReg (off : Nat) (s : State) : RegFields :=
  let g := s.sig
  match off with
  | 0x00 => [(8, 8, g.extRefused), (7, 1, flag g.commitRefused), (6, 1, flag g.recoverySvc), (5, 1, flag g.certValid),
      (4, 1, flag g.devidSealed), (3, 1, g.fwSlot), (2, 1, g.loaderSlot), (0, 2, g.stage)]
  | 0x08 => [(0, 3, g.sel)]
  | 0x40 => [(0, 32, (signetOf s g.sel).count)]
  | 0x78 => [(0, 3, g.extReg)]
  | 0x80 => [(16, 6, g.imgArb), (8, 6, g.fwArb), (2, 6, g.ldrArb)]
  | 0x88 => [(32, 32, g.fwVersion), (0, 32, g.ldrVersion)]
  | 0x98 => [(48, 16, g.errors), (32, 16, g.signed), (16, 16, g.mctpReq), (0, 16, g.doeReq)]
  | _ => match inRun off 0x10 6, inRun off 0x48 6 with
    | some k, _ => [(0, 64, digestWord (signetOf s g.sel).value k)]
    | _, some k => [(0, 64, g.extData.getD k 0)]
    | _, _ => []

/-- The code of a filter's state with its raw level (R586). -/
def filterByte (f : Filter) : Nat :=
  (match f.st with | .idle => 0 | .qualify => 1 | .asserted => 2 | .stuck => 3) + 4 * flag f.level

/-- `PWR` (18). -/
def pwrReg (off : Nat) (s : State) : RegFields :=
  let p := s.pwr
  match off with
  | 0x00 => [(48, 8, p.refuser), (40, 8, p.refuseCause), (20, 1, flag p.vaultEmpty), (19, 1, flag p.faultN),
      (18, 1, flag p.rtcDegraded), (16, 2, p.entry), (2, 2, p.target), (0, 2, p.pstate)]
  | 0x08 => [(48, 16, p.stallUs), (32, 16, p.idleUs), (0, 1, flag p.p1En)]
  | 0x10 => [(48, 16, p.failed), (32, 16, p.waking), (16, 16, p.down), (0, 16, p.on)]
  | 0x18 => [(48, 16, p.replayed), (32, 16, maskOf (s.aos.wake.map WakeEntry.kind)), (16, 16, p.stallMaxUs), (0, 16, p.wakes)]
  | 0x20 => [(48, 16, p.structCnt), (32, 16, p.warmCnt), (16, 16, p.fwCnt), (8, 8, p.railTries), (0, 3, p.lastKind)]
  | 0x28 => [(24, 8, filterByte p.odFilter), (16, 8, filterByte p.storeFilter), (8, 8, filterByte p.tamperFilter),
      (0, 8, filterByte p.warnFilter)]
  | 0x30 => [(48, 16, p.odFilter.pulses), (32, 16, p.storeFilter.pulses), (16, 16, p.tamperFilter.pulses),
      (0, 16, p.warnFilter.pulses)]
  | 0x38 => [(16, 16, p.wdtMs), (0, 1, flag p.kick)]
  | _ => []

/-- Lines of one channel. -/
def channelLines (s : State) : Nat := s.spn.dramGib * 2 ^ 24

/-- A chip mark as `MARK0` to `MARK3` show it. -/
def markField (d : Qdc) (slot : Nat) : Nat :=
  match d.marks.find? (fun e => e.1 = slot) with
  | some e => 16 + e.2
  | none => 0

/-- `QDC` of quadrant `q` (19). -/
def qdcReg (q off : Nat) (s : State) : RegFields :=
  let d := qdcOf s q
  match off with
  | 0x00 => [(24, 4, d.degraded), (19, 5, markField d 3), (14, 5, markField d 2), (9, 5, markField d 1), (4, 5, markField d 0),
      (0, 2, d.state)]
  | 0x08 => [(32, 32, d.passes), (16, 16, if channelLines s = 0 then 0 else d.patrolLine * 10000 / channelLines s),
      (0, 8, d.patrolH)]
  | 0x10 => [(16, 16, d.markCe), (0, 8, d.markPersist)]
  | 0x18 => [(6, 2, d.setSlot), (0, 4, d.setChip)]
  | 0x20 => [(40, 24, sat 24 (tget 0 d.corrected (16 * d.chipSlot + d.chipSel))),
      (32, 8, sat 8 (tget 0 d.persist (16 * d.chipSlot + d.chipSel))), (4, 2, d.chipSlot), (0, 4, d.chipSel)]
  | 0x28 => [(32, 32, d.ueLines), (0, 32, d.lastLine)]
  | 0x30 => [(32, 32, d.ceHost), (0, 32, d.cePatrol)]
  | 0x38 => [(48, 16, d.sramUe), (0, 32, d.sramCe)]
  | 0x40 => [(48, 16, d.fromPartner), (32, 16, d.fromVault), (16, 16, d.unrepaired)]
  | 0x48 => [(20, 4, d.symB), (16, 4, d.symA), (12, 2, d.symbols), (8, 4, d.target), (0, 1, flag d.armed)]
  | _ => []

/-- `CCP_STATUS` of quadrant `q` (13). -/
def ccpReg (q off : Nat) (s : State) : RegFields :=
  let core (c : Nat) : Nat := if s.cip.coresOk.testBit c then 1 else 2
  match off with
  | 0x00 => [(32, 32, s.cip.ops.getD q 0), (2, 2, core (2 * q + 1)), (0, 2, core (2 * q))]
  | _ => []

/-- `VCH` of channel `c` (10). -/
def vchReg (c off : Nat) (s : State) : RegFields :=
  let v := vchOf s c
  let onDie (x : Nat) : Bool := vpaCh x = c && vpaDie x = v.dieSel
  match off with
  | 0x00 => [(40, 8, v.dieFailed), (32, 8, v.diePresent), (24, 4, v.partner), (16, 5, v.column), (12, 4, v.timing), (10, 2, v.rate),
      (0, 2, v.state)]
  | 0x08 => [(0, 3, v.dieSel)]
  | 0x10 =>
    let left := ((List.range (vaultRec s).planes).map (fun p =>
      poolSize s - (s.vlt.retired.filter (fun e => onDie e.1 && vpaPlane e.1 = p && e.2 ≠ 0xFFFFFFFF)).length
        - (s.vlt.factoryBad.filter (fun x => onDie x && vpaPlane x = p && segGroups s ≤ vpaBlock x)).length)).foldl (· + ·) 0
    [(48, 16, left), (32, 16, (s.vlt.retired.filter (fun e => onDie e.1)).length), (16, 16, v.factoryBad.getD v.dieSel 0),
      (0, 1, flag (v.dieFailed.testBit v.dieSel))]
  | 0x18 => [(48, 16, v.maxLoad), (32, 16, v.hardFails), (0, 32, v.corrected)]
  | 0x20 => [(48, 16, v.progFail), (32, 16, v.eraseFail), (16, 16, v.timeouts), (0, 16, v.rebuilds)]
  | 0x28 => [(0, 64, v.progPages)]
  | 0x30 => [(0, 64, v.readPages)]
  | 0x38 => [(16, 1, flag v.forceFail), (0, 4, v.retryLevels)]
  | _ => []

/-- The fields of the register at a BAR0 address, as path `p` reads it (R638, R639): the spine's blocks, then the quadrants' units;
a quadrant that is not enabled has none. -/
def regFields (p : Path) (a : Nat) (s : State) : RegFields :=
  let off := a % 0x10000
  if a < 0x100000 then
    match a / 0x10000 with
    | 0x0 => spnReg off s | 0x1 => hlkReg off s | 0x2 => wrpReg off s | 0x3 => nrgReg off s
    | 0x4 => pwrReg off s | 0x5 => korReg off s | 0x6 => cwyReg off s | 0x7 => cipReg off s
    | 0x8 => tskReg off s | 0x9 => evrReg p off s | 0xA => ifcReg off s | 0xB => sigReg off s
    | 0xC => imgReg off s | 0xD => shdReg off s | 0xE => dmpReg off s | _ => []
  else if a < 0x200000 then
    let q := (a - 0x100000) / 0x40000
    let u := (a % 0x40000) / 0x4000
    let o := a % 0x4000
    if !s.spn.quadEn.testBit q then []
    else if u = 0 then qdcReg q o s
    else if u = 3 then ccpReg q o s
    else if 4 ≤ u ∧ u < 8 then vchReg (4 * q + (u - 4)) o s
    else []
  else []

/-- The 64-bit word at offset `o` of the granule-state window (R202): 16 granules, 4 bits each; 0 in BOOT. -/
def gswWord (o : Nat) (s : State) : Nat :=
  if s.spn.mode = .boot then 0
  else
    let first := s.wrp.gswWindow * 2097152 + o / 8 * 16
    ((List.range 16).map (fun k =>
      let w := gword s (first + k)
      (if first + k < hdmGranules s then gstateCode w.st + 8 * flag w.stale else 0) * 16 ^ k)).foldl (· + ·) 0

/-- The 64-bit value at an 8-byte aligned BAR0 address below the flash window (R638). -/
def regValue (p : Path) (a : Nat) (s : State) : Nat :=
  if 0x200000 ≤ a ∧ a < 0x300000 then gswWord (a - 0x200000) s else packFields (regFields p a s)

end Sys2Proof.Machine
end

