-- ==== Sys2Proof/Machine/ArrayOps.lean ====
section
/-!
DEFINITION. What array commands share (R423, R424): a member's STATUS, the answers a head collects, and a member's answer about its
barrier; with them the health bits of R125.
-/

namespace Sys2Proof.Machine

/-- Vault channels marked failed. -/
def failedChannels (s : State) : Nat := ((List.range 16).filter (fun c => populated s c && (vchOf s c).state == 3)).length

/-- The budget has been 0 for lack of store energy for more than 60 s of SERVICE (R125). -/
def zeroLong (s : State) : Bool :=
  decide (s.spn.mode = .service) && s.wrp.b == 0 && (s.wrp.zeroCause.testBit 0 || s.wrp.zeroCause.testBit 1) &&
    decide (60 < s.evr.opSec - s.wrp.zeroSec)

/-- Health Status (R125): bit 0 Maintenance Needed, bit 1 Performance Degraded, bit 2 Hardware Replacement Needed. -/
def healthBits (s : State) : Nat :=
  let maintenance := s.nrg.relearn || decide (9000 ≤ s.shd.lifeUsed) || decide (1 ≤ failedChannels s)
  let degraded := s.spn.clockDegraded || s.hlk.degraded || decide (s.kor.state = .solo) ||
    (List.range 48).any (fun u => decide (16 ≤ u) && decide ((roleOf s u).state = .failed))
  let replace := zeroLong s || decide (10000 ≤ s.shd.lifeUsed) || decide (2 ≤ failedChannels s)
  flag maintenance + 2 * flag degraded + 4 * flag replace

/-- Granules PENDING on this device. -/
def pendingGranules (s : State) : Nat := (s.gst.states.filter (fun e => e.2.st = .pending)).length

/-- The 32 bytes of STATUS (R423). -/
def statusFields (s : State) : Fields :=
  [(1, modeCode s.spn.mode), (1, pairCode s.kor.state), (1, s.kor.soloCause), (1, 0), (2, s.shd.lifeUsed), (2, s.nrg.holdupReserve),
   (4, dCount s), (4, s.wrp.b), (4, s.dmp.dsc), (4, pendingGranules s), (1, healthBits s), (7, 0)]

/-- Bytes of a member's result (R423). -/
def resultWidth (sub : Nat) : Nat := if sub = 1 then 32 else 8

/-- A status result of 8 bytes: BARRIER's and ROLL_UPDATE's. -/
def statusResult (status v : Nat) : Fields := [(1, status), (4, v), (3, 0)]

/-- The output of an array command (R423): the answered mask and one result for each member of its mask in ID order, zeros for
members that did not answer, status 2 for members that are not live where the result has a status. DESIGN CHOICE (log 45). -/
def arrayOutput (a : ArrayCmd) (live : Nat) : Fields :=
  (8, maskOf (a.answers.map Prod.fst)) :: (setBits 64 a.mask).flatMap (fun m =>
    match a.answers.find? (fun x => x.1 = m) with
    | some x => x.2.2
    | none => if a.sub ≠ 1 ∧ !live.testBit m then statusResult 2 0 else [(resultWidth a.sub, 0)])

/-- An array command ends: event 0x0A08 with its sub-opcode and the answered mask; a rolling update that nothing stopped is DONE. -/
def arrayFinish (s : State) : State :=
  match s.cwy.array with
  | none => s
  | some a =>
    bgEnd 0xC00D .success 0 (arrayOutput a s.cwy.live)
      (raise 0x0A08 0x06 [(2, a.sub), (8, maskOf (a.answers.map Prod.fst))] { s with cwy := { s.cwy with
        array := none, updState := if a.sub = 3 ∧ s.cwy.updState = 1 then 2 else s.cwy.updState } })

/-- A member's answer reaches the head; the last one ends the command. In a rolling update status 0 counts in `UPDATED`, and status 4 ends the
command with the member in `FAIL_ID` (R425). -/
def arrayAnswer (m sub status : Nat) (f : Fields) (s : State) : State :=
  match s.cwy.array with
  | none => s
  | some a =>
    if a.sub ≠ sub ∨ !a.waiting.contains m then s
    else
      let stop := decide (sub = 3 ∧ status = 4)
      let b := { a with
        waiting := if stop then [] else a.waiting.filter (· ≠ m)
        left := if stop then [] else a.left
        answers := a.answers ++ [(m, status, f)] }
      let s1 := { s with cwy := { s.cwy with
        array := some b
        updState := if stop then 3 else s.cwy.updState
        failId := if stop then m else s.cwy.failId
        updated := if sub = 3 ∧ status = 0 then min 64 (s.cwy.updated + 1) else s.cwy.updated } }
      if b.waiting.isEmpty ∧ b.left.isEmpty then arrayFinish s1 else s1

/-- A result of this member goes to the head that asked, or into its own command where it is the head. -/
def answerHead (head tag sub status : Nat) (f : Fields) (s : State) : State :=
  if head = s.cwy.myId then arrayAnswer head sub status f s
  else if s.cwy.unit = .on then frameSend head tag (.cmdA sub status f) s
  else s

/-- The barrier that this member runs for the head ends with a status and the granules shadowed (R424). -/
def barrierReply (status n : Nat) (s : State) : State :=
  match s.cwy.barrierFor with
  | none => s
  | some (tag, head) => answerHead head tag 2 status (statusResult status n) { s with cwy := { s.cwy with barrierFor := none } }

end Sys2Proof.Machine
end

