-- ==== Sys2Proof/Machine/EvrOps.lean ====
section
/-!
DEFINITION. The event recorder: records and their snapshots, the fold table, the pending queue, the ring with its retired
sectors, and the final dump record (16).
-/

namespace Sys2Proof.Machine

/-! ### The ring (R526, R529, R530) -/

/-- The good sectors that follow ring sector `k`, in ring order, `k` itself last. -/
def sectorsAfter (s : State) (k : Nat) : List Nat :=
  ((List.range 64).map (fun o => (k + 1 + o) % 64)).filter (fun j => !(s.evr.retired.testBit j))

/-- The next good sector after sector `k`. -/
def nextSector (s : State) (k : Nat) : Nat := ((sectorsAfter s k).head?).getD k

/-- A slot of the ring is erased: no record, no word of one begun, none that an interruption left undefined (R501). -/
def slotErased (s : State) (slot : Nat) : Bool :=
  !(s.evr.ring.any (fun e => e.1 = slot)) && !(s.ifc.undefSectors.contains (640 + slot / 16))
    && !(s.ifc.undefWords.any (fun w => w / 32 = 0x280000 / 256 + slot))
    && !(s.ifc.words.any (fun e => e.1 / 32 = 0x280000 / 256 + slot))

/-- The slot after slot `k`: the next of its sector, else the first of the next good sector. -/
def slotAfter (s : State) (k : Nat) : Nat := if k % 16 = 15 then nextSector s (k / 16) * 16 else k + 1

/-- The first slot from `w` on, within its sector, in which no record was begun; else the first of the next good sector (R517, R529). -/
def freeSlot (s : State) : Nat → Nat → Nat
  | 0, w => w
  | n + 1, w => if slotErased s w || w % 16 = 0 then w else freeSlot s n (slotAfter s w)

/-- The journalled erase of a ring sector is asked for (R529). -/
def eraseRing (k : Nat) (s : State) : State :=
  if s.evr.erasing.isSome then s
  else ifcAsk ⟨.sedge, 0, .eraseSector (640 + k), 0⟩ { s with evr := { s.evr with erasing := some k } }

/-- Memory-only mode is reported (R531): event 0x0E04, a Failure record for the host and SMB_ALERT_N. -/
def memOnlyAlert (s : State) : State :=
  let s1 := hostEvent 2 true 0x0E04 s.evr.goodSectors (raise 0x0E04 0x09 [(1, s.evr.goodSectors)] s)
  { s1 with evr := { s1.evr with alert := true } }

/-- A ring sector is retired, cause 0 erase failure, 1 read-back; with fewer than 4 good sectors the log goes to memory-only mode
(R530, R531). -/
def retireSector (k cause : Nat) (s : State) : State :=
  if s.evr.retired.testBit k then s
  else
    let m := setBit s.evr.retired k
    let good := 64 - popCount 64 m
    let s1 := raise 0x0E03 0x09 [(1, k), (1, cause)]
      { s with evr := { s.evr with retired := m, goodSectors := good, failsHere := 0 }, aos := { s.aos with retired := m } }
    if good < 4 ∧ !s1.evr.memOnly then memOnlyAlert { s1 with evr := { s1.evr with memOnly := true } } else s1

/-! ### Records (R516, R518, R519) -/

/-- The registers of a range that follow `SPN_MODE` in the default set, by BAR0 address (R518). -/
def defaultSnaps (id : Nat) : List Nat :=
  match id / 256 with
  | 0x01 => [0xC0000, 0xC0028]
  | 0x02 => [0x10000, 0x10008]
  | 0x03 => [0x20040, 0x20048, 0x20060]
  | 0x04 => [0x30000, 0x30008, 0x30010, 0x30028]
  | 0x05 => [0xD0000, 0xD0008, 0xD0028]
  | 0x06 => [0xE0000, 0xE0008, 0xE0010, 0xE0020]
  | 0x07 => [0xE0100, 0xE0108]
  | 0x08 => [0x00008, 0xD0030]
  | 0x09 => [0x50000, 0x50010, 0x50020]
  | 0x0A => [0x60000, 0x60008]
  | 0x0B => [0x70000]
  | 0x0C => [0x80000, 0x80030]
  | 0x0D => [0xA0000, 0xA0008, 0xA0010]
  | 0x0E => [0x90000, 0x90010]
  | 0x0F => [0xC0000, 0xA0050]
  | 0x10 => [0x00008]
  | 0x11 => [0x00008]
  | 0x12 => [0x00008]
  | _ => []

/-- The EVENTS entry of an event: the first whose masked ID is its own (R78). -/
def eventEntry (s : State) (id : Nat) : Option EventsEntry :=
  s.img.active.events.find? (fun e => id &&& e.mask = e.id &&& e.mask)

/-- The registers of an event's snapshots. -/
def snapList (s : State) (id : Nat) : List Nat :=
  match eventEntry s id with
  | some e => e.snaps.take 12
  | none => 0x10 :: defaultSnaps id

/-- The domain of the register at a BAR0 address is powered (R519, R563): QMEM holds the QDC, QCORE the GST, QENG the other units. -/
def addrPowered (s : State) (a : Nat) : Bool :=
  if 0x100000 ≤ a ∧ a < 0x200000 then
    let q := (a - 0x100000) / 0x40000
    let u := (a % 0x40000) / 0x4000
    !(s.pwr.down.testBit (if u = 0 then dQmem q else if u = 1 then dQcore q else dQeng q))
  else true

/-- The snapshots of an event and how many of them were skipped. -/
def snapshots (s : State) (id : Nat) : List (Nat × Nat) × Nat :=
  let l := snapList s id
  (l.map (fun a => (a, if addrPowered s a then regValue .firmware a s else 0)), (l.filter (fun a => !addrPowered s a)).length)

/-- The record of an event without its snapshots. -/
def bareRecord (e : Event) (s : State) : SedgeRec :=
  { id := e.id, seq := 0, fromAos := false, fold := false, snapSkipped := false, final := false, memOnly := false,
    opSec := s.evr.opSec, lastSec := s.evr.opSec, powerCycles := s.evr.powerCycles, rep := 1, overflow := 0,
    timestamp := deviceTime s, mode := modeCode s.spn.mode, source := e.source, detail := e.detail, snaps := [] }

/-- A record gets its snapshots and the next `SEQ`. -/
def buildRecord (r : SedgeRec) (s : State) : SedgeRec × State :=
  let (l, n) := snapshots s r.id
  ({ r with seq := s.evr.nextSeq, snaps := l, snapSkipped := decide (0 < n) },
    { s with evr := { s.evr with nextSeq := s.evr.nextSeq + 1, snapSkipped := satAdd 16 s.evr.snapSkipped n } })

/-! ### Folding and overflow (R521, R522) -/

/-- Events are dropped: the overflow count, held in AOS too (R523), and `DROPPED`. -/
def dropEvents (n : Nat) (s : State) : State :=
  let o := satAdd 16 s.evr.overflow n
  { s with evr := { s.evr with overflow := o, dropped := satAdd 16 s.evr.dropped n }, aos := { s.aos with overflow := o } }

/-- A fold entry closes: with a count above 0 it queues its record (R522). -/
def closeFold (f : FoldEntry) (s : State) : State :=
  let s1 := { s with evr := { s.evr with folds := s.evr.folds.filter (fun x => x.id ≠ f.id) } }
  match f.first with
  | none => s1
  | some r =>
    if 32 ≤ s1.evr.queue.length then dropEvents f.count s1
    else
      let (b, s2) := buildRecord { r with fold := true, rep := f.count, lastSec := f.lastSec } s1
      { s2 with evr := { s2.evr with queue := s2.evr.queue ++ [b] } }

/-- A fold entry opens for an ID; a seventeenth closes the oldest (R522). The occurrences of an entry that is still open for the ID
stay in it. DEDUCED (log 145). -/
def openFold (id : Nat) (s : State) : State :=
  let held := ((s.evr.folds.find? (fun x => x.id = id)).getD ⟨id, 0, 0, none⟩ : FoldEntry)
  let s1 := { s with evr := { s.evr with folds := s.evr.folds.filter (fun x => x.id ≠ id) } }
  let s2 := if 16 ≤ s1.evr.folds.length then
      match s1.evr.folds.head? with
      | some f => closeFold f { s1 with evr := { s1.evr with foldEvict := satAdd 16 s1.evr.foldEvict 1 } }
      | none => s1
    else s1
  { s2 with evr := { s2.evr with folds := s2.evr.folds ++ [held] } }

/-! ### Writing (R517, R523, R530 to R532) -/

/-- The alert bits of a record by the EVENTS table in force; none for a folded occurrence (R532). -/
def alertBits (r : SedgeRec) (s : State) : Nat :=
  if r.fold then 0 else ((eventEntry s r.id).map EventsEntry.alert).getD 0

/-- What a written record raises by its alert bits (R532): a host event, and the alert of the management controller. -/
def recordAlert (bits : Nat) (r : SedgeRec) (s : State) : State :=
  let s1 := if bits.testBit 0 then hostEvent 1 true r.id r.seq s else s
  if bits.testBit 1 then { s1 with evr := { s1.evr with alert := true } } else s1

/-- Waiting records go to the memory ring, which keeps the newest 64 (R531). -/
def memWrite : Nat → State → State
  | 0, s => s
  | n + 1, s =>
    match s.evr.queue with
    | [] => s
    | r :: q =>
      let b := { r with memOnly := true, overflow := s.evr.overflow }
      let l := s.evr.memRing ++ [b]
      memWrite n (recordAlert (alertBits b s) b (openFold r.id
        { s with evr := { s.evr with queue := q, memRing := l.drop (l.length - 64), newest := r.seq, overflow := 0 }
                 aos := { s.aos with overflow := 0 } }))

/-- The oldest queued record begins its write into an erased slot, under `QUAG_OK` (R520, R523); the drops since the last record
go with it. A sector whose erase a power-down came before is erased first (R529). DEDUCED (log 145). -/
def evrKick (s : State) : State :=
  if s.evr.memOnly then memWrite 32 s
  else match s.evr.queue with
    | [] => s
    | r :: q =>
      let s := { s with evr := { s.evr with wslot := freeSlot s 16 s.evr.wslot } }
      if s.evr.writing.isSome || !s.nrg.quagOk || agentBusy .sedge s || s.evr.retired.testBit (s.evr.wslot / 16) then s
      else if !slotErased s s.evr.wslot then eraseRing (s.evr.wslot / 16) s
      else
        let b := { r with overflow := s.evr.overflow }
        let s1 := openFold r.id { s with
          evr := { s.evr with queue := q, writing := some b, overflow := 0, writeAlert := alertBits b s }
          aos := { s.aos with overflow := 0 } }
        ifcAsk ⟨.sedge, 0, .sedge b, 0⟩ s1

/-- An occurrence folded into the first queued record of its ID that takes one (R521). -/
def foldQueued (id op : Nat) : List SedgeRec → List SedgeRec
  | [] => []
  | r :: q => if r.id = id ∧ r.rep < 65535 then { r with rep := r.rep + 1, lastSec := op } :: q else r :: foldQueued id op q

/-- An arriving event is folded, queued or dropped (R521). -/
def takeEvent (e : Event) (s : State) : State :=
  let op := s.evr.opSec
  if s.evr.queue.any (fun r => r.id = e.id && r.rep < 65535) then
    { s with evr := { s.evr with queue := foldQueued e.id op s.evr.queue } }
  else match s.evr.folds.find? (fun f => f.id = e.id && f.count < 65535) with
    | some f =>
      let f2 : FoldEntry := { f with count := f.count + 1, lastSec := op,
                                     first := if f.first.isSome then f.first else some (bareRecord e s) }
      if f2.count = 65535 then evrKick (closeFold f2 s)
      else { s with evr := { s.evr with folds := s.evr.folds.map (fun x => if x.id = e.id then f2 else x) } }
    | none =>
      if s.evr.queue.length < 32 then
        let (b, s1) := buildRecord (bareRecord e s) s
        evrKick { s1 with evr := { s1.evr with queue := s1.evr.queue ++ [b] } }
      else dropEvents 1 s

/-- A record that was taken for writing goes back to the head of the queue, its count of drops with it. -/
def requeue (r : SedgeRec) (s : State) : State :=
  let o := satAdd 16 s.evr.overflow r.overflow
  { s with evr := { s.evr with writing := none, queue := r :: s.evr.queue, overflow := o }, aos := { s.aos with overflow := o } }

/-- A slot in which a record was begun is left for the next. -/
def leaveSlot (s : State) : State :=
  if slotErased s s.evr.wslot then s else { s with evr := { s.evr with wslot := slotAfter s s.evr.wslot } }

/-- A record begun and not finished gives way to the final dump record (R488): its slot is left, and it is written again after. -/
def evrYield (s : State) : State :=
  match s.evr.writing with
  | none => s
  | some r => leaveSlot (requeue r { s with ifc := { s.ifc with waiting := s.ifc.waiting.filter (fun o => match o.work with
      | .sedge _ => false
      | _ => true) } })

/-- The write of a record into the ring has ended: it is valid, the slot advances, and the first record of a sector calls for the
next sector's erase (R529); a read-back failure goes to the next slot, a second one in a sector retires it (R530). -/
def sedgeWritten (r : SedgeRec) (ok : Bool) (s : State) : State :=
  let w := s.evr.wslot
  let first := !(s.evr.ring.any (fun e => e.1 / 16 = w / 16))
  if ok then
    let s1 := recordAlert s.evr.writeAlert r { s with evr := { s.evr with
      ring := tins w r s.evr.ring, writing := none, newest := max s.evr.newest r.seq, wslot := slotAfter s w, failsHere := 0 } }
    let s2 := { s1 with aos := { s1.aos with records := if r.fromAos then s1.aos.records.filter (fun x => x.seq ≠ r.seq)
      else s1.aos.records } }
    if first then eraseRing (nextSector s2 (w / 16)) s2 else s2
  else
    let s1 := requeue r { s with evr := { s.evr with writeFails := satAdd 16 s.evr.writeFails 1
                                                     failsHere := s.evr.failsHere + 1 } }
    if 2 ≤ s1.evr.failsHere then
      let n := nextSector s1 (w / 16)
      retireSector (w / 16) 1 { s1 with evr := { s1.evr with wslot := n * 16 } }
    else { s1 with evr := { s1.evr with wslot := slotAfter s1 w, failsHere := if w % 16 = 15 then 0 else s1.evr.failsHere } }

/-- The erase of a ring sector has ended (R529, R530). -/
def ringErased (ok : Bool) (s : State) : State :=
  match s.evr.erasing with
  | none => s
  | some k =>
    let s1 := { s with evr := { s.evr with erasing := none } }
    if ok then s1
    else
      let s2 := retireSector k 0 s1
      let n := nextSector s2 k
      let s3 := if s2.evr.wslot / 16 = k then { s2 with evr := { s2.evr with wslot := n * 16 } } else s2
      eraseRing n s3

/-- A record goes to the AOS fallback area, where it replaces the oldest of its four (R527). -/
def toAos (r : SedgeRec) (s : State) : State :=
  let l := s.aos.records.filter (fun x => x.seq ≠ r.seq) ++ [r]
  { s with aos := { s.aos with records := l.drop (l.length - 4) } }

/-! ### The start of the log (R526, R527) -/

/-- The records of the ring that check (R500, R516), by slot. -/
def soundRing (s : State) : List (Nat × SedgeRec) := s.evr.ring.filter (fun e => slotSound (0x280000 + e.1 * 256) 32 s)

/-- The valid record of highest `SEQ` in the ring, with its slot. -/
def newestRecord (s : State) : Option (Nat × SedgeRec) :=
  (soundRing s).foldl (fun a e => match a with
    | some x => if x.2.seq < e.2.seq then some e else some x
    | none => some e) none

/-- Records of AOS to copy: those above the newest of the ring, in `SEQ` order. -/
def toCopy (s : State) : List SedgeRec :=
  let top := (newestRecord s).map (fun e => e.2.seq)
  (s.aos.records.filter (fun r => match top with | some t => decide (t < r.seq) | none => true)).mergeSort
    (fun a b => a.seq ≤ b.seq)

/-- The log starts at a power-on, after the journal replay: sequence, counters, retired sectors, write slot, and the records of AOS
that the ring lacks; event 0x0E02. A counter that AOS lost is taken from the ring (R526). -/
def evrStart (s : State) : State :=
  let recs := (soundRing s).map Prod.snd
  let copies := toCopy s
  let top := (newestRecord s).map (fun e => e.2.seq)
  let seqs := recs.map SedgeRec.seq ++ s.aos.records.map SedgeRec.seq
  let next := if seqs = [] then 0 else seqs.foldl max 0 + 1
  let marked := (recs.filter (fun r => r.id = 0x0E01 || r.id = 0x0E03)).foldl (fun a r => match a with
    | some x => if x.seq < r.seq then some r else some x
    | none => some r) (none : Option SedgeRec)
  let ringMask := match marked with
    | some r => if r.id = 0x0E01 then ((r.detail.getD 2 (8, 0)).2) else 2 ^ ((r.detail.getD 0 (1, 0)).2)
    | none => 0
  let mask := s.aos.retired ||| ringMask
  let op := if !s.aos.countersLost then s.aos.opSec else (recs.map SedgeRec.lastSec).foldl max 0
  let cycles := if !s.aos.cyclesLost then s.aos.powerCycles else (recs.map SedgeRec.powerCycles).foldl max 0 + 1
  let s1 := { s with
    evr := { s.evr with retired := mask, goodSectors := 64 - popCount 64 mask, opSec := op, powerCycles := cycles, nextSeq := next
                        newest := top.getD 0, overflow := s.aos.overflow, queue := copies.map (fun r => { r with fromAos := true })
                        memOnly := decide (64 - popCount 64 mask < 4) }
    aos := { s.aos with retired := mask, opSec := op, powerCycles := cycles, cyclesLost := false, countersLost := false } }
  let w := match newestRecord s1 with
    | some e => freeSlot s1 16 (slotAfter s1 e.1)
    | none => nextSector s1 63 * 16
  let s2 := { s1 with evr := { s1.evr with wslot := w } }
  let s3 := if s2.evr.memOnly then memOnlyAlert s2 else s2
  raise 0x0E02 0x09 [(4, cycles), (8, top.getD 0), (1, copies.length)] s3

end Sys2Proof.Machine
end

