-- ==== Sys2Proof/Machine/ResetOps.lean ====
section
/-!
DEFINITION. What a loss of the core domains leaves (R583): always-on memory, internal flash, vault media and the always-on
counters; the domains of an enabled device; and a power-down (R298).
-/

namespace Sys2Proof.Machine

/-- The domains of R563 the device has: AON, SPINE, and three for each enabled quadrant. -/
def allDomains (s : State) : Nat :=
  maskOf ([0, 1] ++ (quadList s).flatMap (fun q => [dQcore q, dQmem q, dQeng q]))

/-- The QMEM and QENG domains of the enabled quadrants. -/
def memDomains (s : State) : Nat := maskOf ((quadList s).map dQmem)
def engDomains (s : State) : Nat := maskOf ((quadList s).map dQeng)
def coreDomains (s : State) : Nat := maskOf ((quadList s).map dQcore)

/-- Domains of a mask go down. -/
def domainsDown (mask : Nat) (s : State) : State :=
  { s with pwr := { s.pwr with down := s.pwr.down ||| mask, on := without s.pwr.on mask, waking := without s.pwr.waking mask } }

/-- Domains of a mask are on. -/
def domainsOn (mask : Nat) (s : State) : State :=
  { s with pwr := { s.pwr with down := without s.pwr.down mask, on := s.pwr.on ||| mask, waking := without s.pwr.waking mask } }

/-- Every unit outside the always-on domain as its reset leaves it (R583): AOS with the dump progress it holds and its firmware scratch, internal flash with its records and row, vault media, the fused values, the always-on timestamp, `FORCE_SLOT`, the filters
and the counters of `PWR_RESET` stay. -/
def freshState (s : State) : State :=
  { ({} : State) with
    spn := { stepping := s.spn.stepping, variant := s.spn.variant, clockDegraded := s.spn.clockDegraded }
    img := { forceSlot := s.img.forceSlot }
    evr := { ring := s.evr.ring }
    ifc := { words := s.ifc.words, undefWords := s.ifc.undefWords, undefSectors := s.ifc.undefSectors,
             eraseCount := s.ifc.eraseCount, lastPulses := s.ifc.lastPulses, eraseSec := s.ifc.eraseSec,
             journal := s.ifc.journal, jPos := s.ifc.jPos, jSeq := s.ifc.jSeq, bog := s.ifc.bog, bogLocks := s.ifc.bogLocks,
             gauge := s.ifc.gauge, gaugeSlot := s.ifc.gaugeSlot, snap0 := s.ifc.snap0, snap1 := s.ifc.snap1,
             nonce0 := s.ifc.nonce0, nonce1 := s.ifc.nonce1, used0 := s.ifc.used0, used1 := s.ifc.used1,
             pairs := s.ifc.pairs }
    hlk := { vendorId := s.hlk.vendorId, timestamp := s.hlk.timestamp, perst := s.hlk.perst }
    aos := s.aos
    pwr := { structCnt := s.pwr.structCnt, warmCnt := s.pwr.warmCnt, fwCnt := s.pwr.fwCnt, railTries := s.pwr.railTries,
             lastKind := s.pwr.lastKind, warnFilter := s.pwr.warnFilter, tamperFilter := s.pwr.tamperFilter,
             storeFilter := s.pwr.storeFilter, odFilter := s.pwr.odFilter, rtcDegraded := s.pwr.rtcDegraded, rtcDue := s.pwr.rtcDue,
             aonUp := s.pwr.aonUp, on := 1 }
    vlt := { blank := s.vlt.blank, manifest := s.vlt.manifest, ckpt := s.vlt.ckpt, log := s.vlt.log, dumps := s.vlt.dumps,
             pages := s.vlt.pages, other := s.vlt.other, metaRing := s.vlt.metaRing, metaAt := s.vlt.metaAt,
             manifestAt := s.vlt.manifestAt, ckptOlder := s.vlt.ckptOlder, segs := s.vlt.segs, retired := s.vlt.retired, worn := s.vlt.worn,
             factoryBad := s.vlt.factoryBad }
    vch := s.vch.map (fun v => { factoryBad := v.factoryBad })
    dmp := { seq := s.dmp.seq, dieLoss := s.dmp.dieLoss, bounce := s.dmp.bounce, media := s.dmp.media, alarm := s.dmp.alarm,
             floored := s.dmp.floored, truncated := s.dmp.truncated, complete := s.dmp.complete, trigger := s.dmp.trigger,
             phase := s.dmp.phase, priorLost := s.dmp.priorLost, totalUs := s.dmp.totalUs, listUs := s.dmp.listUs,
             vEnd := s.dmp.vEnd, vCommit := s.dmp.vCommit, eDrawn := s.dmp.eDrawn, eTail := s.dmp.eTail,
             eWave := s.dmp.eWave, q0 := s.dmp.q0, q1 := s.dmp.q1, q2 := s.dmp.q2, q3 := s.dmp.q3, dsc := s.dmp.dsc,
             dscSeq := s.dmp.dscSeq }
    cwy := { strapId := s.cwy.strapId, strapHeadcap := s.cwy.strapHeadcap }
    kor := { pairSlot := s.kor.pairSlot }
    out := s.out, free := s.free, pending := s.pending }

/-- What becomes of a flash operation that power takes (R501): an interrupted program leaves its word undefined, an interrupted erase
its sector; an agent's record is not there. -/
def cutFlash (b : Nat) (s : State) : State :=
  match (bankOf s b).running with
  | some (.program off _) => { s with ifc := { s.ifc with undefWords := sins (off / 8) s.ifc.undefWords } }
  | some (.erase g) => loseSector g s
  | some (.agent o) => (match o.work with
    | .eraseSector g => loseSector g s
    | _ => spoilWord o s)
  | _ => s

/-- The reservation entries begun and not finished wait in AOS (R217): their slots stay without the valid mark. -/
def deferNonces (s : State) : State :=
  let run := [s.ifc.bank0, s.ifc.bank1].filterMap (fun k => match k.running with
    | some (.agent o) => some o
    | _ => none)
  (s.ifc.waiting ++ run).foldl deferNonce s

/-- The core domains lose power or are reset: their state is gone. -/
def coreLost (s : State) : State := freshState (deferNonces (cutFlash 1 (cutFlash 0 s)))

/-- The newest valid gauge record: one that waits in AOS, else the newest of flash whose every word is correctable (R217, R234). -/
def gaugeInForce (s : State) : Option GaugeRec :=
  s.aos.gauge.or (((s.ifc.gauge.filter (fun e => slotSound (704 * 0x1000 + e.1 * 128) 16 s)).map Prod.snd).foldl (fun a r => match a with
    | some x => if x.seq < r.seq then some r else some x
    | none => some r) none)

/-- The energy controller takes the gauge record in force (R234, R229); without one it starts unlearned, with event 0x040D. -/
def gaugeLoad (s : State) : State :=
  match gaugeInForce s with
  | some r =>
    { s with nrg := { s.nrg with
        relearn := r.relearn || r.learnOpen, capSuspect := r.capSuspect, esrHigh := r.esrHigh, calValid := r.calValid
        swapDerate := r.swapDerate || r.learnOpen, gaugeSeq := r.seq, cLearned := r.cLearned, kSlope := r.kSlope
        cycles := r.cycles, storeId := r.storeId, esr := r.esr, esrBase := r.esrBase, eGibMeas := r.eGibMeas
        learnSec := r.learnSec, calSec := r.calSec, recEsr := r.esr, recCycles := r.cycles } }
  | none =>
    raise 0x040D 0x03 [] { s with nrg := { s.nrg with cLearned := 0, cycles := 0, relearn := true, swapDerate := true } }

/-- The event of the absent crystal is logged once the core runs (R581). -/
def noteRtc (s : State) : State :=
  if s.pwr.rtcDue && s.pwr.corePg then raise 0x1010 0x04 [] { s with pwr := { s.pwr with rtcDue := false } } else s

/-- The core domain starts: isolation lifted, the always-on domain and the spine powered (R617). -/
def coreStart (s : State) : State :=
  noteRtc <| romBegins <| gaugeLoad { s with pwr := { s.pwr with coreEn := true, corePg := true, isolated := false, on := 3, retryWait := false
                                                                 railReset := false }
                                             nrg := { s.nrg with storePresent := decide (s.pwr.storeFilter.st ≠ .asserted) } }

/-- A reset of a kind is reported (R583). -/
def noteReset (kind : Nat) (s : State) : State :=
  raise 0x100C 0x04 [(1, kind)] { s with pwr := { s.pwr with lastKind := kind } }

/-- The core domains are reset and start again: a STRUCTURAL reset with no dump under way (R583). -/
def structLost (s : State) : State :=
  let s1 := coreStart (coreLost s)
  noteReset 2 { s1 with pwr := { s1.pwr with structCnt := satAdd 16 s1.pwr.structCnt 1, strapped := false } }

/-- Power-down (R298): only the always-on domain stays, and DUMP_DONE keeps its level. The records that memory-only mode could not write
to the ring go to AOS while `LOG_OK` = 1: the newest four of the memory ring remain there (R527). DEDUCED (log 145). -/
def powerDown (s : State) : State :=
  let s1 := if s.evr.memOnly && s.nrg.logOk then (s.evr.memRing ++ s.evr.queue).foldl (fun t r => toAos r t) s else s
  let t := coreLost s1
  { t with pwr := { t.pwr with poweredDown := true }, dmp := { t.dmp with done := s.dmp.done } }

/-- The device powers down, once a running flash operation has ended (R216, R298). -/
def powerOff (s : State) : State :=
  if s.ifc.bank0.busy || s.ifc.bank1.busy then { s with pwr := { s.pwr with downPending := true } } else powerDown s

end Sys2Proof.Machine
end

