-- ==== Sys2Proof/Machine/DumpOps.lean ====
section
/-!
DEFINITION. The dump: its commit, the dirty lists, the placement of dump pages, the energy gates, die losses, the final record, and
what the end of a dump leaves (08).
-/

namespace Sys2Proof.Machine

/-! ### The array's power-fail line (R426) -/

/-- This member pulls PFAIL_OD low while its input state is not GOOD: event 0x0A07 with 0 driven, 1 released, 2 sensed. -/
def lineFollow (s : State) : State :=
  let low := decide (s.nrg.input ≠ .good)
  if s.cwy.pfailOut = low then s
  else raise 0x0A07 0x06 [(1, flag !low)] { s with cwy := { s.cwy with pfailOut := low } }

/-- The input state changes; the array's line follows it. -/
def setInput (i : InputState) (s : State) : State := lineFollow { s with nrg := { s.nrg with input := i } }

/-- `PREFLUSH` is set (R273, R274): event 0x0602 with 0 RIDE entered, 1 set, 2 cleared; the regime goes to TOP. -/
def setPreflush (s : State) : State :=
  if s.dmp.preflush ∨ s.spn.mode = .dump then s
  else refreshRegime (raise 0x0602 0x0E [(1, 1)] { s with dmp := { s.dmp with preflush := true } })

/-- An accepted PFAIL_WARN_N (R273): below `V_RECOVER` a qualified input failure, which enters RIDE from GOOD, QUALIFY or SETTLE; otherwise
`PREFLUSH`. In DUMP it is latched in AOS for the next mode and has no effect but its event record (R40). -/
def warnAccepted (s : State) : State :=
  if s.spn.mode = .dump then
    raise 0x0602 0x0E [(1, 3)] { s with aos := { s.aos with latched := s.aos.latched ++ [3] } }
  else if s.nrg.vInput < param s 13 then
    if s.nrg.input = .good ∨ s.nrg.input = .qualify ∨ s.nrg.input = .settle then
      let s1 := raise 0x0602 0x0E [(1, 0)] (assertHoldup .input s)
      setInput .ride { s1 with nrg := { s1.nrg with rideWarn := true } }
    else s
  else setPreflush s

/-- What a dump has latched acts in the mode that follows it (R40). -/
def actLatched (s : State) : State :=
  if s.aos.latched = [] then s else warnAccepted { s with aos := { s.aos with latched := [] } }

/-! ### Flags and the Dirty Shutdown Count -/

/-- `TRUNCATED`, counted at once. -/
def setTruncated (s : State) : State := countShutdown s.dmp.seq { s with dmp := { s.dmp with truncated := true } }

/-- `ALARM`, counted at once. -/
def setAlarmLoss (s : State) : State := countShutdown s.dmp.seq { s with dmp := { s.dmp with alarm := true } }

/-- E_now of R284, mJ. -/
def eNowOf (s : State) : Nat := if s.nrg.anchor = .unanchored then s.nrg.eV else min s.nrg.eV s.nrg.eQ

/-! ### The commit (R276) -/

/-- What a commanded dump lacks (R275): 0 nothing, 1 the input state, 2 the store, 3 B is 0, 4 `OVER`. -/
def dumpUnmet (s : State) : Nat :=
  if s.nrg.input ≠ .good then 1
  else if !s.nrg.storePresent then 2
  else if s.wrp.b = 0 then 3
  else if s.wrp.overB then 4 else 0

/-- A commanded dump is refused (R275): Retry Required 0x000D, event 0x060B. -/
def dumpRefuse (via : Via) (op cond : Nat) (s : State) : State :=
  vendorRefuse via op .retryRequired 0x000D (raise 0x060B 0x0E [(1, cond)] s)

/-- A re-application under way ends as ABORTED (R98, R96); the entries it has replaced stay, so the pair's digests are sent and compared
again (R101). -/
def liveAbort (cause : Nat) (s : State) : State :=
  if s.img.liveState = 1 ∨ s.img.liveState = 2 then
    noteDigests <| sendDigests <| msix 12 (raise 0x0109 0x0C [(1, cause), (1, s.img.currentRegion)]
      { s with img := { s.img with liveState := 5, liveCause := cause, liveGo := false, liveLeft := [], liveImage := none,
                                   livePools := false, liveClass := 0 }
               wrp := { s.wrp with regions := s.wrp.regions.map (fun r => { r with liveStop := false }) } })
  else s

/-- A background command ends with Aborted 0x000A (R128), but for the one whose own dump it is. -/
def abortBg (own : Nat) (s : State) : State :=
  match s.hlk.bg with
  | none => s
  | some c =>
    if c.opcode = own then s
    else
      let s1 := bgEnd c.opcode .aborted 0x000A [] s
      { s1 with dmp := { s1.dmp with retry := none }, cwy := { s1.cwy with array := none } }

/-- A write still held at t_x is admitted: its hold for the budget is lifted, and its mirror leg falls away (R160, R163); over a PENDING
granule a merge is left to the dump (R279). -/
def forceAdmit (w : WriteRec) (s : State) : State :=
  let g := granuleOf w.line
  let merge := decide (gstate s g = .pending)
  let s1 := writeState g w.region .loc (takeRsv g s)
  let s2 := modWrite w.tag (fun x => { x with hold := .none, eff := .loc, admitted := true, mirror := .none }) s1
  if merge then { s2 with dmp := { s2.dmp with merges := sins g s2.dmp.merges } } else s2

/-- Every granule that a coasting write of a MIRRORED region dirties without an acknowledgement is stale (R163). -/
def coastStale (s : State) : State :=
  if s.kor.state = .unpaired then s
  else (s.hlk.writes.filter (fun w => isMirrored s w.region && w.mirror ≠ .acked && !w.released)).foldl
    (fun t w => setStale (granuleOf w.line) true t) s

/-- The dump's registers at its commit. -/
def freshDump (trigger seq : Nat) (s : State) : Dmp :=
  { s.dmp with
    seq := seq, dieLoss := false, bounce := false, media := false, alarm := false, floored := false, truncated := false
    complete := false, done := false, preflush := false, trigger := trigger, phase := 1, priorLost := 0, totalUs := 0, listUs := 0
    vEnd := 0, vCommit := s.nrg.vOcv, eCommit := eNowOf s, eDrawn := 0, eTail := 0, eWave := 0, eNow := eNowOf s, q0 := { phase := 1 }
    q1 := { phase := 1 }, q2 := { phase := 1 }, q3 := { phase := 1 }, inputGood := decide (4 ≤ trigger), keyLost := [], markLost := [], merges := []
    row := none, drawn := 0, parity := [], lostDies := [], tailStop := false, bulk := [] }

/-- Service programs that run when a dump commits complete, and nothing references their copies: no state changes but as the dump defines
(R172, R276, R279). -/
def dropRunning (s : State) : State :=
  { s with shd := { s.shd with
      rows := s.shd.rows.map (fun r => { r with cols := r.cols.map (fun c => { c with what := discarded c.what }) })
      twins := s.shd.twins.map (fun t => { t with discard := true }) } }

/-- A dump commits with a trigger; `own` is the opcode of the command whose dump it is, 0 for none (R272, R276). DUMP_DONE falls
(R297), HOLDUP_EN and HOLDUP_ACT are up (R212, R296), and every domain is powered (R278). -/
def commitDump (trigger own : Nat) (s : State) : State :=
  if !serving s then s
  else
    let s1 := raise 0x0601 0x0E [(1, trigger), (4, dCount s), (2, s.nrg.vOcv)] s
    let s2 := learnDisqualify 0x04 (abortBg own s1)
    let s3 := assertHoldup (if trigger = 5 then .calibration else .input) { s2 with
      hlk := { s2.hlk with ingressClosed := true }
      nrg := { s2.nrg with input := .committed, windowNj := 0, gapNj := 0 } }
    let s4 := liveAbort 0x14 { s3 with
      kor := { s3.kor with opening := [], takeover := none }
      wrp := { s3.wrp with unprotected := false, unprotNoted := [], coasted := min 255 s3.hlk.writes.length, truncated := 0 } }
    let s5 := beforeVault s4
    let (q, s6) := takeSeq s5
    let s7 := setMode .dump 0x0601 { s6 with dmp := { freshDump trigger q s6 with tail := s6.vlt.pendLog }
                                             vlt := { s6.vlt with pendLog := [] } }
    let s8 := (s7.hlk.writes.filter (fun w => w.hold ≠ .none)).foldl (fun t w => forceAdmit w t) s7
    let s9 := coastStale (closeRows (fun _ => true) { dropRunning s8 with
      dmp := { s8.dmp with fetching := s8.dmp.merges }
      shd := { (dropRunning s8).shd with cmds := [] } })
    let s10 := replayWake (setPstate 0 0 (domainsOn (allDomains s9) { s9 with pwr := { s9.pwr with entry := 0, entryStep := 0, target := 0 } }))
    ownDump (lineFollow s10)

/-! ### Dirty lists (R279, R280) -/

/-- The order of a dirty list. -/
def listOrder (a b : ListEntry) : Bool :=
  decide (a.prio < b.prio) || (decide (a.prio = b.prio) &&
    (decide (a.region < b.region) || (decide (a.region = b.region) && decide (a.granule ≤ b.granule))))

/-- The entry of a listed granule (R279, R361). -/
def listEntry (s : State) (e : Nat × GWord) : Option ListEntry :=
  match regionOf s e.1 with
  | none => none
  | some r =>
    if serves s r && (dirtyState e.2.st || e.2.st = .lost) then
      some ⟨e.1, e.2.st, e.2.stale, (region s r).adopted, s.dmp.merges.contains e.1, r, (region s r).entry.dumpPrio⟩
    else none

/-- The dirty list of a quadrant. -/
def dirtyList (s : State) (q : Nat) : List ListEntry :=
  ((s.gst.states.filterMap (listEntry s)).filter (fun e => quadOf s e.granule = q)).mergeSort listOrder

/-- Pages of `n` entries, `per` to a page. -/
def pagesFor (n per : Nat) : Nat := (n + per - 1) / per

/-- Map-delta pages of all listed entries (P_map of R284). -/
def deltaPages (s : State) : Nat := ((quadList s).map (fun q => pagesFor (dumpQuad s q).list.length 1024)).foldl (· + ·) 0

/-- E_wave and E_tail, fixed when the lists are ready, µJ (R284). -/
def fixGates (s : State) : State :=
  let pd := diesInService s
  let e := eGibOf s * 1000
  { s with dmp := { s.dmp with eWave := pd * e / 65536, eTail := (deltaPages s + 4 * nQuads s + pd) * e / 65536 } }

/-! ### Rows of the dump (R282, R366) -/

/-- Stripe column `j` at die position `d` lies on a die lost in this dump. -/
def colLost (s : State) (d j : Nat) : Bool := s.dmp.lostDies.contains (8 * colChannel s j + d)

/-- Present columns of a segment whose dies still serve the dump. -/
def dumpCols (s : State) (n : Nat) : List Nat := (presentCols s n).filter (fun j => !colLost s (segDie n) j)

/-- Data columns of a dump row still free. -/
def rowFree (s : State) (r : DumpRow) : List Nat :=
  (dumpCols s r.seg).filter (fun j => j ≠ r.parity && !(r.used.contains j))

/-- Data slots of a dump row (R340). -/
def dumpWidth (s : State) (n p : Nat) : Nat := ((dumpCols s n).filter (· ≠ p)).length

/-- `DRAW` of the open dump row (R340, R366). -/
def dumpDraw (s : State) : Nat := s.dmp.drawn - 1

/-- The page-start floor refuses every program (R286). -/
def atFloor (s : State) : Bool := decide (s.dmp.eNow * 1000 < s.dmp.eWave)

/-- The open dump row closes: its parity page's program starts over the columns written, where the floor allows it (R282, R286, R342). -/
def closeDumpRow (s : State) : State :=
  match s.dmp.row with
  | none => s
  | some r =>
    let v := rowPage s r.seg r.row (colChannel s r.parity)
    if r.used = [] ∨ colLost s (segDie r.seg) r.parity ∨ atFloor s then { s with dmp := { s.dmp with row := none } }
    else
      let t := putParity v s.dmp.seq (dumpWidth s r.seg r.parity) (dumpDraw s) true r.sum s
      { t with dmp := { t.dmp with row := none, parity := t.dmp.parity ++ [(v, r.quads)] } }

/-- The next row of the reserve is drawn: segment by segment in draw order, rows ascending. A segment counts as written from its first
row on (R266). -/
def drawRow (s : State) : State :=
  match s.vlt.reserve.find? (fun n => (segOf s n).kind = .dump && (segOf s n).rows < segRows s && 2 ≤ (dumpCols s n).length) with
  | none => s
  | some n =>
    let i := (segOf s n).rows
    let w := stripe s
    let p := (((List.range w).map (fun o => (segGroup n + i + o) % w)).find? (fun j => (dumpCols s n).contains j)).getD 0
    let g := segOf s n
    let t := if i = 0 then
        setSeg n { g with rows := 1, order := s.vlt.segOrder } { s with vlt := { s.vlt with segOrder := s.vlt.segOrder + 1 } }
      else setSeg n { g with rows := i + 1 } s
    { t with dmp := { t.dmp with row := some ⟨n, i, p, [], [], []⟩, drawn := t.dmp.drawn + 1 } }

/-- A data column for a page of quadrant `q`: of the open row, or of the next one drawn once that row is full. Answers the page's VPA;
what the page holds follows with `startedPage`. -/
def placeDump (q : Nat) (s : State) : Option (Nat × State) :=
  let full := match s.dmp.row with
    | none => true
    | some r => decide (rowFree s r = [])
  let s1 := if full then drawRow (closeDumpRow s) else s
  match s1.dmp.row with
  | none => none
  | some r =>
    let f := rowFree s1 r
    let own := f.filter (fun j => colChannel s1 j / 4 = q)
    match (if own = [] then f else own).head? with
    | none => none
    | some j =>
      let r2 : DumpRow := { r with used := r.used ++ [j], quads := sins q r.quads }
      some (rowPage s1 r.seg r.row (colChannel s1 j), { s1 with dmp := { s1.dmp with row := some r2 } })

/-- A page placed in the open row has begun, with its data area and header: the row's sums take them in, and a full row closes. -/
def startedPage (bytes : List Nat) (s : State) : State :=
  match s.dmp.row with
  | none => s
  | some r =>
    let r2 : DumpRow := { r with sum := addBytes r.sum bytes }
    let t := { s with dmp := { s.dmp with row := some r2 } }
    if rowFree t r2 = [] then closeDumpRow t else t

/-- `WIDTH` of the open row. -/
def openWidth (s : State) : Nat := (s.dmp.row.map (fun r => dumpWidth s r.seg r.parity)).getD 0

/-- The two pages of a body or mark in the reserve's TWIN segment (R283). -/
def placeTwinDump (s : State) : Option ((Nat × Nat) × State) :=
  match reserveTwin s with
  | none => none
  | some n =>
    match twinPages s n with
    | none => none
    | some p => some (p, setSeg n { segOf s n with rows := (segOf s n).rows + 1 } s)

/-! ### Starting pages under the gates (R281, R284 to R286) -/

/-- The tail gate refuses data pages; in TEST also below `TEST_FLOOR_MV`. -/
def atTail (s : State) : Bool :=
  decide (s.dmp.eNow * 1000 < s.dmp.eTail) || (s.dmp.testFloor ≠ 0 && decide (s.nrg.vOcv < s.dmp.testFloor))

/-- `FLOORED` (R286): no further program starts; the phase of each quadrant is logged. -/
def setFloored (s : State) : State :=
  if s.dmp.floored then s
  else raise 0x0605 0x0E [(2, ((List.range 4).map (fun q => (dumpQuad s q).phase * 16 ^ q)).foldl (· + ·) 0)]
    { s with dmp := { s.dmp with floored := true } }

/-- The tail gate's first refusal (R285): data pages stop in every quadrant, what is not written is lost, the rows close. -/
def tailReached (s : State) : State :=
  if s.dmp.tailStop then s
  else
    let n := dumpSum s (fun d => (dataWaiting d).length)
    let s1 := (List.range 4).foldl (fun t q => modDumpQuad q dropWaiting t) s
    closeDumpRow (setTruncated (raise 0x0604 0x0E [(4, n)] { s1 with dmp := { s1.dmp with tailStop := true } }))

/-- A listed granule is lost by this dump. -/
def entryLost (q g : Nat) (s : State) : State :=
  modDumpQuad q (fun d => { d with left := d.left.filter (fun e => e.granule ≠ g), queue := d.queue.filter (· ≠ .data g)
                                   lost := d.lost ++ [g] }) s

/-- Programs a quadrant runs at once: one on each of its dies. -/
def dumpWindow (s : State) : Nat := 4 * (vaultRec s).diesPerCh

/-- The entry whose data page starts next: the first of the lowest priority left that awaits no merge (R280). -/
def nextEntry (s : State) (d : DumpQuad) : Option ListEntry :=
  match d.left with
  | [] => none
  | h :: _ => d.left.find? (fun e => e.prio = h.prio && !(s.dmp.merges.contains e.granule))

/-- A slot answers AT_MARK in this dump for the first time: event 0x0B0D with the slot and the region's entries that are not written
(R453, R466). DESIGN CHOICE (log 143): one event for each slot. -/
def markReached (r : Nat) (s : State) : State :=
  if s.dmp.markLost.contains r then s
  else
    let n := dumpSum s (fun d => (d.left.filter (fun e => e.region = r)).length
      + (d.queue.filter (fun p => match p with | .data g => inRegion s r g | _ => false)).length)
    raise 0x0B0D 0x07 [(1, r), (4, n)] { s with dmp := { s.dmp with markLost := sins r s.dmp.markLost } }

/-- The data page of a granule starts: read from DRAM, encrypted at save class, placed (R279, R282, R291, R453). True where something
happened. -/
def startData (q g r : Nat) (s : State) : Bool × State :=
  if s.dmp.keyLost.contains r then (true, entryLost q g s)
  else
    let ctr := (slotOf s r).counter
    let (res, s1) := regionEncrypt r .save s
    match res with
    | .atMark => (true, setTruncated (entryLost q g (markReached r s1)))
    | .done =>
      let s2 := captureRead g [] s1
      (match placeDump q s2 with
      | none => (true, setFloored s)
      | some (v, s3) =>
        let x := sealArea s3 r ctr v (gword s g).stale (granuleData s2 g)
        let h := granuleHead s3 v g r s.dmp.seq (openWidth s3) (dumpDraw s3) false true x
        let p := granulePage v g false h x
        let s4 := startedPage (x.area ++ granuleHeader h x)
          (if encrypted s3 r then cipSubmit ⟨.encrypt, .save, r, q, g⟩ s3 else s3)
        (true, modDumpQuad q (fun d => { d with left := d.left.filter (fun e => e.granule ≠ g)
                                                queue := d.queue.filter (· ≠ .data g), running := d.running ++ [(.data g, v)] })
          (putPage v p s4)))
    | _ => (true, setAlarmLoss (entryLost q g s1))

/-- The payload of a page of a quadrant that no granule's data fills (R357, R361 to R364). -/
def structPayload (s : State) (q : Nat) (p : DumpPage) : List Nat :=
  let d := dumpQuad s q
  let run (i n : Nat) : List ListEntry := (d.list.drop (i * n)).take n
  match p with
  | .header => listHeader q s.dmp.trigger s.dmp.seq (priorLost d) d.list
  | .list i => (run i 2048).flatMap (listBytes s)
  | .delta i => (run i 1024).flatMap (fun e =>
      match (dataPassed d).find? (fun x => x.1 = e.granule) with
      | some x => entryBytes s (gstateCode e.state) e ++ [0, 0, 0] ++ leBytes 5 x.2 ++ [0, 0, 0]
      | none => entryBytes s 7 e ++ [0, 0, 0] ++ leBytes 5 0 ++ [0, 0, 0])
  | .tail i => ((logRuns s.dmp.tail).getD i []).flatMap (fun e => logBytes s e.what)
  | .body => (d.record.map (bodyBytes q s.dmp.seq)).getD []
  | .mark => markBytes q s.dmp.seq ((d.record.map (bodyBytes q s.dmp.seq)).getD [])
  | .data _ => []

/-- A structure page of a quadrant: kind, index and sequence (R340, R341, R357). -/
def structPage (s : State) (q : Nat) (p : DumpPage) : StructPage :=
  let x (kind index : Nat) : StructPage := { kind := kind, index := index, seq := s.dmp.seq, quad := q, payload := structPayload s q p }
  match p with
  | .header => x 5 0
  | .list i => x 6 i
  | .delta i => { x 7 i with balance := twos 64 (s.shd.balance / 1048576), debt := s.shd.debt / 1048576 }
  | .body => x 8 0
  | .mark => x 9 0
  | .tail i => { x 0x0A i with seq := ((((logRuns s.dmp.tail).getD i []).head?).map LogEntry.seq).getD 0 }
  | .data _ => x 0 0

/-- Data area and header of a structure page at `v` in a dump row, or in twin layout. -/
def structBytes (s : State) (q : Nat) (p : DumpPage) (v : Nat) (twin : Bool) : List Nat :=
  structArea s (structPage s q p) v (if twin then 0 else openWidth s) (if twin then 0xFFFFFFFF else dumpDraw s) true

/-- Every entry of a quadrant that was not LOST has a data page that passed. -/
def quadWritten (d : DumpQuad) : Bool :=
  d.list.all (fun e => e.state = .lost || (dataPassed d).any (fun x => x.1 = e.granule))

/-- The commit record body of a quadrant as its program starts (R283, R363). -/
def bodyOf (s : State) (q : Nat) : BodyRec :=
  let d := dumpQuad s q
  let m := s.dmp
  { trigger := m.trigger
    outcome := flag (quadWritten d) + 2 * flag m.truncated + 4 * flag m.alarm + 8 * flag m.media + 16 * flag m.bounce + 32 * flag m.dieLoss
    listed := d.list.length, written := (dataPassed d).length, lost := d.lost.length, listDraw := d.listDraw
    deltaDraw := d.deltaDraw, deltaPages := pagesFor d.list.length 1024, dsc := m.dsc, elapsedUs := elapsedNow 32 s
    dscSeq := m.dscSeq, tailSeq := ((m.tail.head?).map LogEntry.seq).getD 0, tailCount := m.tail.length, vCommit := m.vCommit
    vBody := s.nrg.vOcv, eDrawn := m.eCommit - m.eNow }

/-- A structure page starts. -/
def startStruct (q : Nat) (p : DumpPage) (s : State) : Bool × State :=
  let begin_ (l : List (DumpPage × Nat)) (t : State) : State :=
    modDumpQuad q (fun d => { d with queue := d.queue.filter (· ≠ p), running := d.running ++ l
                                     listDraw := if p = .header then dumpDraw t else d.listDraw
                                     deltaDraw := if p = .delta 0 then dumpDraw t else d.deltaDraw }) t
  let twin (t : State) : Bool × State := match placeTwinDump t with
    | none => (true, setFloored t)
    | some ((a, b), t) => (true, putOther a (structBytes t q p a true) (begin_ [(p, a), (p, b)] t))
  match p with
  | .tail _ => twin s
  | .body => twin (modDumpQuad q (fun d => { d with record := some (bodyOf s q) }) (useFree s))
  | .mark => twin s
  | _ => (match placeDump q s with
    | none => (true, setFloored s)
    | some (v, t) =>
      let bytes := structBytes t q p v false
      (true, putOther v bytes (startedPage bytes (begin_ [(p, v)] t))))

/-- The region of a listed granule. -/
def listedRegion (d : DumpQuad) (g : Nat) : Nat := ((d.list.find? (fun e => e.granule = g)).map ListEntry.region).getD 0

/-- A quadrant moves on to its next part once every program of the present one has passed, the parity pages over its pages among them
(R281); an open row that holds pages of it closes at the end of a part (R282). True where something happened. -/
def nextPart (q : Nat) (s : State) : Bool × State :=
  let d := dumpQuad s q
  if d.queue ≠ [] ∨ d.running ≠ [] ∨ d.left ≠ [] ∧ d.phase = 3 ∨ d.placed = [] ∨ d.marked then (false, s)
  else if s.dmp.row.any (fun r => r.quads.contains q) then (true, closeDumpRow s)
  else if s.dmp.parity.any (fun e => e.2.contains q) then (false, s)
  else if d.phase = 2 then
    let t := modDumpQuad q (fun d => { d with phase := 3 }) s
    if (quadList t).all (fun x => 3 ≤ (dumpQuad t x).phase) then
      (true, raise 0x0603 0x0E [(4, dumpSum t (fun x => x.list.length)), (4, dumpSum t priorLost)]
        (useFree { t with dmp := { t.dmp with listUs := elapsedNow 32 t } }))
    else (true, t)
  else if d.phase = 3 then
    (true, modDumpQuad q (fun d => { d with phase := 4, queue := (List.range (pagesFor d.list.length 1024)).map .delta }) s)
  else if d.phase = 4 then (true, modDumpQuad q (fun d => { d with phase := 5, queue := [.body] }) s)
  else if d.placed.any (fun e => e.1 = .mark) then (true, modDumpQuad q (fun d => { d with marked := true, phase := 7 }) s)
  else (true, modDumpQuad q (fun d => { d with queue := [.mark] }) s)

/-- The part of R281 a page belongs to. -/
def partOf : DumpPage → Nat
  | .tail _ => 0
  | .header => 0
  | .list _ => 0
  | .data _ => 1
  | .delta _ => 2
  | .body => 3
  | .mark => 4

/-- A page of an earlier part still runs. -/
def partWaits (d : DumpQuad) (p : DumpPage) : Bool := d.running.any (fun e => partOf e.1 < partOf p)

/-- The log tail has not passed whole: no data page starts (R357). -/
def tailOpen (s : State) : Bool :=
  let isTail (p : DumpPage) : Bool := match p with | .tail _ => true | _ => false
  (quadList s).any (fun q => (dumpQuad s q).queue.any isTail || (dumpQuad s q).running.any (fun e => isTail e.1))
    || (s.dmp.tail ≠ [] && (quadList s).head?.any (fun q => (dumpQuad s q).phase < 3))

/-- One thing a quadrant can do now: start its next page or go on to its next part. -/
def quadStep (q : Nat) (s : State) : Bool × State :=
  let d := dumpQuad s q
  if s.dmp.floored || d.phase < 2 || d.placed = [] && d.queue = [] && d.running = [] then (false, s)
  else if dumpWindow s ≤ d.running.length then (false, s)
  else match d.queue with
    | .data g :: _ =>
      if partWaits d (.data g) || tailOpen s then (false, s)
      else if atFloor s then (true, setFloored s)
      else if s.dmp.tailStop then (true, entryLost q g s)
      else if atTail s then (true, tailReached s)
      else startData q g (listedRegion d g) s
    | p :: _ => if partWaits d p then (false, s) else if atFloor s then (true, setFloored s) else startStruct q p s
    | [] =>
      if d.phase = 3 ∧ d.left ≠ [] then
        match nextEntry s d with
        | none => (false, s)
        | some e =>
          if tailOpen s then (false, s)
          else if atFloor s then (true, setFloored s)
          else if atTail s then (true, tailReached s)
          else startData q e.granule e.region s
      else nextPart q s

/-- Quadrants go on as long as one of them can. -/
def dumpLoop : Nat → State → State
  | 0, s => s
  | n + 1, s =>
    let r := (quadList s).foldl (fun (a : Bool × State) q =>
      let b := quadStep q a.2
      (a.1 || b.1, b.2)) (false, s)
    if r.1 then dumpLoop n r.2 else r.2

/-! ### The final record (R290) -/

/-- Every enabled quadrant has its mark, or the floor has stopped the dump and no program of it runs. -/
def dumpOver (s : State) : Bool :=
  (quadList s).all (fun q => (dumpQuad s q).marked)
    || (s.dmp.floored && s.dmp.parity = [] && (quadList s).all (fun q => (dumpQuad s q).running = []))

/-- Every listed entry that was not LOST has a data page that passed. -/
def allWritten (s : State) : Bool :=
  (quadList s).all (fun q => (dumpQuad s q).marked && quadWritten (dumpQuad s q))

/-- The outcome byte: bits 22:16 of `DMP_STATUS`. -/
def outcomeByte (d : Dmp) : Nat :=
  flag d.complete + 2 * flag d.truncated + 4 * flag d.floored + 8 * flag d.alarm + 16 * flag d.media + 32 * flag d.bounce
    + 64 * flag d.dieLoss

/-- The dump's programs are over: outcome, times and energy are fixed and the final record built. What the floor left unwritten is
lost by the dump (R286). -/
def closeDump (s0 : State) : SedgeRec × State :=
  let s := (quadList s0).foldl (fun t q => modDumpQuad q dropWaiting t) s0
  let d := s.dmp
  let ok := allWritten s && !d.truncated && !d.floored && !d.alarm && !d.media
  let s1 := useFree { s with dmp := { d with
    complete := ok, phase := 6, totalUs := elapsedNow 32 s, vEnd := s.nrg.vOcv, eDrawn := d.eCommit - d.eNow } }
  let e := s1.dmp
  let (r, s2) := buildRecord (bareRecord ⟨0x0609, 0x0E, [(1, outcomeByte e), (4, dumpSum s1 (fun q => q.list.length)),
    (4, dumpSum s1 (fun q => (dataPassed q).length)), (4, dumpSum s1 (fun q => q.lost.length)), (4, e.totalUs), (4, e.eDrawn)]⟩
    s1) s1
  ({ r with final := true, overflow := s2.evr.queue.length }, s2)

/-! ### The end of a dump -/

/-- The pages of DELTA that passed. -/
def deltaPassed (d : DumpQuad) (i : Nat) : Bool := d.placed.any (fun e => e.1 = .delta i)

/-- The data page of entry `i` of a quadrant's list that a passed delta page references. -/
def referenced (d : DumpQuad) (i : Nat) (e : ListEntry) : Option Nat :=
  if deltaPassed d (i / 1024) then ((dataPassed d).find? (fun x => x.1 = e.granule)).map Prod.snd else none

/-- The warm state of a listed granule (R314). -/
def warmState (d : DumpQuad) (i : Nat) (e : ListEntry) (s : State) : State :=
  let g := e.granule
  let lost (t : State) : State :=
    msix 10 (setMap g ⟨0, 0, false, false, true⟩ (dropRsv g (setGState g .lost t)))
  if e.state = .lost then s
  else match referenced d i e with
    | some v =>
      let marks := match pageAt s v with
        | some p => !p.poison.isEmpty
        | none => false
      let s1 := setMap g ⟨1, v, e.stale, marks, false⟩ (dropRsv g (setGState g .shadowed s))
      { s1 with gst := { s1.gst with rebuilt := sdel s1.gst.rebuilt g } }
    | none =>
      if s.dmp.keyLost.contains e.region ∨ d.channelLost then lost s
      else joinRing g (setMap g ⟨0, 0, false, false, true⟩ (takeRsv g (setGState g .dirty s)))

/-- The warm states of a quadrant. -/
def warmQuad (s : State) (q : Nat) : State :=
  let d := dumpQuad s q
  ((List.range d.list.length).foldl (fun t i => match d.list[i]? with
    | some e => warmState d i e t
    | none => t) s)

/-- What the media holds of a quadrant's dump (R361 to R364). -/
def quadRecord (s : State) (q : Nat) : QuadDump :=
  let d := dumpQuad s q
  let rs := (d.list.map ListEntry.region).eraseDups
  let pg (p : DumpPage) : Bool := d.placed.any (fun e => e.1 = p)
  let idx := List.range d.list.length
  { quad := q
    header := pg .header
    counts := rs.map (fun r => (r, (d.list.filter (fun e => e.region = r)).length))
    list := idx.filterMap (fun i => if pg (.list (i / 2048)) then (d.list[i]?).map (fun e => (i, e)) else none)
    delta := if (List.range (pagesFor d.list.length 1024)).all (fun i => deltaPassed d i) then
        some (idx.filterMap (fun i => (d.list[i]?).map (fun e => (e.granule, referenced d i e, e.stale))))
      else none
    body := if pg .body then d.record else none
    mark := d.marked }

/-- The dump stands on the media; the segments it drew are DUMP segments with live data, outside the reserve (R366). -/
def recordDump (s : State) : State :=
  let r : DumpRec := ⟨s.dmp.seq, s.shd.balance / 1048576, s.shd.debt / 1048576, (quadList s).map (quadRecord s)⟩
  { s with vlt := { s.vlt with dumps := s.vlt.dumps ++ [r]
                               reserve := s.vlt.reserve.filter (fun n => (segOf s n).rows = 0) } }

/-- e_GiB measured over the data window, mJ per GiB (R240). -/
def measuredEGib (s : State) : Nat × Nat :=
  let pages := dumpSum s (fun q => (dataPassed q).length)
  (if pages = 0 then 0 else s.nrg.windowNj / 1000000 * 65536 / pages, pages / 64)

/-- The measurement of a dump is taken over (R241): a calibration of less than 2 GiB is rejected, an accepted one clamped to the bounds
of `E_GIB`, in use at once and recorded with event 0x0410. -/
def takeCalibration (s : State) : State :=
  let (e, mib) := measuredEGib s
  let s1 := { s with nrg := { s.nrg with eGibLast := if mib = 0 ∧ e = 0 then s.nrg.eGibLast else e } }
  if s.dmp.trigger ≠ 5 then s1
  else if mib < 2048 then raise 0x0410 0x03 [(2, e)] { s1 with nrg := { s1.nrg with calState := 2, calDataMib := mib } }
  else
    let p := s.nrg.params.find? (fun x => x.id = 9)
    let lo := (p.map Param.lo).getD 0
    let hi := (p.map Param.hi).getD 0
    let v := clamp lo hi e
    let s2 := if v ≠ e then raise 0x1005 0x03 [] s1 else s1
    sendInput (gaugeWrite (raise 0x0410 0x03 [(2, e)] { s2 with nrg := { s2.nrg with
      calState := 1, calDataMib := mib, eGibMeas := v, calValid := true, calSec := s.evr.opSec } }))

/-- The dump's own command ends (R129, R572): PARK with granules and time, CALIBRATION_DUMP with the measurement, SET_POWER_STATE 3 in
PARKED. -/
def endDumpCmd (parked : Bool) (s : State) : State :=
  let n := dumpSum s (fun q => (dataPassed q).length)
  match s.hlk.bg with
  | none => s
  | some c =>
    if c.opcode = 0xC004 ∧ parked then bgEnd 0xC004 .success 0 [(4, n), (4, s.dmp.totalUs)] s
    else if c.opcode = 0xC008 ∧ parked then bgEnd 0xC008 .success 0 [(1, 3), (1, 0xFF), (6, 0)] s
    else if c.opcode = 0xC00A then bgEnd 0xC00A .success 0 [(4, (measuredEGib s).1), (4, s.dmp.totalUs)] s
    else s

/-- One region as the device leaves DUMP for RESTORE (R646): an erased key or a quadrant fence of the dump stops it now. -/
def resumeRegion (s : State) (r : Nat) : State :=
  match (region s r).life with
  | .starting =>
    if needsPartner s r then sendMsg (.openQuery r) { s with kor := { s.kor with opening := sins r s.kor.opening } } else s
  | .online => if (region s r).keyErased || fenced s then modRegion r (fun x => { x with keyErased := false }) (stopRegion r s)
    else s
  | _ => modRegion r (fun x => { x with keyErased := false }) s

/-- The input is good and the device stays up: HOLDUP_EN falls, the input is GOOD, the credits are back (R212, R303), and an ARM entry
is to be written (R454). -/
def dumpRelease (s : State) : State :=
  let s1 := lineFollow (releaseHoldup { s with nrg := { s.nrg with input := .good, reason := .none } })
  askArm { s1 with hlk := { s1.hlk with ingressClosed := false, rwdFree := 64, reqFree := 64, writes := [], reads := [] } }

/-- Entries of the log tail that no LOG page holds go back to the manifest builder: a device that stays up keeps them. -/
def tailBack (s : State) : State :=
  let l := s.dmp.tail.filter (fun e => !(s.vlt.log.any (fun x => x.seq = e.seq)))
  { s with vlt := { s.vlt with pendLog := l ++ s.vlt.pendLog }, dmp := { s.dmp with tail := [] } }

/-- Warm restore (R300, R303): RESTORE with the on-chip map, the regions as R646 states, an unprotected interval where B is 0. -/
def warmRestore (s : State) : State :=
  let s1 := setMode .restore 0x0703 (dumpRelease s)
  let s2 := raise 0x0703 0x0E [(1, 2), (4, s1.dmp.seq)] { s1 with dmp := { s1.dmp with
    kind := 2, rphase := 3, srcDumpSeq := s1.dmp.seq, restored := 0, bulkMs := 0, openUs := 0, lostAtRestore := 0
    scanRebuilt := false, markMissing := false, unprotLoss := false, fetching := [], bulk := [] } }
  let s3 := (List.range 256).foldl resumeRegion s2
  let s4 := refillReserve (endDumpCmd false s3)
  let s5 := if s4.kor.state = .training ∧ mayRejoin s4 then rejoin s4 else s4
  settle (bulkFollow (actLatched s5))

/-- The vault holds nothing live and every granule is FREE (R574). -/
def nothingLive (s : State) : Bool :=
  s.vlt.mapValid && s.gst.states.all (fun e => e.2.st = .free) && s.vlt.map.all (fun e => e.2.ref = 0 && !e.2.lost)

/-- A vault without live data is left with a complete checkpoint, and may be exchanged (R574, R590). -/
def emptyVault (s : State) : State :=
  if nothingLive s then
    let (q, t) := takeSeq (flushLog (beforeVault s))
    let u := flushLog (ckptDone { t with vlt := { t.vlt with ckptRunning := some q } })
    { u with pwr := { u.pwr with vaultEmpty := true } }
  else s

/-- PARKED and P3 (R571): the Korric link unit, then the engines, the DRAM and the quadrant cores go off; an empty vault gets its
checkpoint before. Every index begins a new episode of R122. -/
def enterParked (s : State) : State :=
  let s1 := setMode .parked 0x0609 (dumpRelease (emptyVault s))
  let s2 := domainsDown (coreDomains s1) (domainsDown (memDomains s1) (domainsDown (engDomains s1) (korOff s1)))
  let s3 := setUnitState 0x05 .off (quadRoles [0, 1, 2, 3, 4, 5, 6, 7] .off { s2 with
    pwr := { s2.pwr with memEn := false, vltEn := false }
    qdc := s2.qdc.map (fun d => if d.state = 2 then { d with state := 0 } else d)
    vlt := { s2.vlt with mapValid := false } })
  let s4 := actLatched (endDumpCmd true (setPstate 3 0 { s3 with hlk := { s3.hlk with warned := [] } }))
  match s4.aos.scratch.update with
  | none => s4
  | some u =>
    if u.restarted then s4
    else
      let t := raise 0x0A09 0x06 [(1, s4.cwy.myId), (1, 0)] (structLost s4)
      { t with aos := { t.aos with scratch := { t.aos.scratch with update := some { u with restarted := true } } } }

/-- The dump has ended (R292, R297, R298): DUMP_DONE, the warm states, the records on the media, the measurement, the notice to the
partner, a change of the store that the dump had ignored (R291), and the mode or the power-down. -/
def dumpEnd (s : State) : State :=
  let s1 := recordDump (if s.dmp.inputGood then tailBack s else s)
  let s2 := (List.range 256).foldl (fun t r => if defined t r then refreshShadowPtr r t else t) ((quadList s1).foldl warmQuad s1)
  let s3 := takeCalibration { s2 with dmp := { s2.dmp with done := true, phase := 7, merges := [], row := none, parity := []
                                                           lostDies := [], dieLoss := s2.dmp.dieLoss } }
  let s4 := barrierReply (if s3.dmp.complete then 1 else 4) 0
    (sendMsg (.dumpNotice (if s3.dmp.complete then 1 else 2) s3.dmp.seq) s3)
  if !s4.dmp.inputGood then powerOff { s4 with aos := { s4.aos with latched := [] } }
  else if s4.dmp.trigger = 4 then enterParked (storeFollow s4)
  else warmRestore (storeFollow s4)

/-- The final record goes to the next slot of the ring where `LOG_OK` is 1, the slot is erased and the bank is free, else to AOS (R290,
R489); with it the dump ends. -/
def dumpFinal (s : State) : State :=
  let (r, s0) := closeDump s
  if s0.ifc.bank0.busy then dumpEnd (toAos r s0)
  else
    let s1 := evrYield s0
    if s1.nrg.logOk && slotErased s1 s1.evr.wslot && !s1.evr.memOnly then ifcAsk ⟨.sedge, 0, .finalSedge r, 0⟩ s1
    else dumpEnd (toAos r s1)

/-- The dump goes on: pages start, parts follow, and the end is noticed. The phase is the least advanced quadrant's. -/
def dumpKick (s : State) : State :=
  if s.spn.mode ≠ .dump ∨ s.dmp.phase < 2 ∨ 6 ≤ s.dmp.phase then s
  else
    let n := dumpSum s (fun d => d.list.length)
    let s1 := dumpLoop (4 * n + 256) s
    let ph := ((quadList s1).map (fun q => (dumpQuad s1 q).phase)).foldl min 5
    let s2 := { s1 with dmp := { s1.dmp with phase := ph } }
    if dumpOver s2 then dumpFinal s2 else s2

/-! ### Die losses (R289) -/

/-- The pages of a quadrant on a lost die are programmed again, and with a moved data page the delta page that names it; a body written
again takes its mark with it. Answers how many pages. -/
def quadDieLost (c d q : Nat) (s : State) : Nat × State :=
  let x := dumpQuad s q
  let on (e : DumpPage × Nat) : Bool := vpaCh e.2 = c && vpaDie e.2 = d
  let hit := ((x.running ++ x.placed).filter on).map Prod.fst
  let deltas := hit.filterMap (fun p => match p with
    | .data g => if 4 ≤ x.phase then ((List.range x.list.length).find? (fun i => (x.list[i]?).any (fun e => e.granule = g))).map
        (fun i => DumpPage.delta (i / 1024)) else none
    | _ => none)
  let marks := if hit.contains .body && x.placed.any (fun e => e.1 = .mark) then [DumpPage.mark] else []
  let redo := (hit ++ deltas ++ marks).eraseDups
  let keep (e : DumpPage × Nat) : Bool := !(redo.contains e.1)
  let s1 := modDumpQuad q (fun x => { x with
    running := x.running.filter keep, placed := x.placed.filter keep
    queue := (redo.filter (fun p => !(x.queue.contains p)) ++ x.queue).mergeSort (fun a b => partOf a ≤ partOf b), marked := x.marked && marks = [] && !(hit.contains .mark)
    phase := if x.phase = 7 ∧ redo ≠ [] then 5 else x.phase }) s
  let gone := ((x.running ++ x.placed).filter on).map Prod.snd
  (redo.length, { s1 with vlt := { s1.vlt with pages := s1.vlt.pages.filter (fun e => !(gone.contains e.1))
                                               other := s1.vlt.other.filter (fun e => !(gone.contains e.1)) } })

/-- A die is lost for the rest of the dump: `DIE_LOSS`, event 0x0606 with the pages programmed again. -/
def dumpDieLost (c d : Nat) (s : State) : State :=
  if s.dmp.lostDies.contains (8 * c + d) then s
  else
    let s0 := { s with dmp := { s.dmp with lostDies := s.dmp.lostDies ++ [8 * c + d], dieLoss := true
                                           parity := s.dmp.parity.filter (fun e => !(vpaCh e.1 = c && vpaDie e.1 = d)) }
                       vlt := { s.vlt with other := s.vlt.other.filter (fun e => !(s.dmp.parity.any (fun x => x.1 = e.1)
                           && vpaCh e.1 = c && vpaDie e.1 = d)) } }
    let (n, s1) := (quadList s0).foldl (fun (a : Nat × State) q =>
      let b := quadDieLost c d q a.2
      (a.1 + b.1, b.2)) (0, s0)
    raise 0x0606 0x0E [(4, n)] s1

end Sys2Proof.Machine
end

