-- ==== Sys2Proof/Machine/CmdOps.lean ====
section
/-!
DEFINITION. SHADOW_RANGE, BARRIER and the barriers other commands run (R269, R270): what a command waits for, the captures it makes
and its end.
-/

namespace Sys2Proof.Machine

/-- The granules of a scope that need action at the doorbell (R269): this side's dirty ones. -/
def cmdScope (s : State) (p : Nat → Bool) : List Nat := (dirtyGranules s).filter p

/-- A command captures a granule that waits (R269): DIRTY or REDIRTY, with no program of it running. -/
def cmdCapture (g : Nat) (s : State) : State := if canCapture s g then capture g (captureRead g [] s) else s

/-- A row holds a granule that a command waits for. -/
def rowWaited (s : State) (r : Row) : Bool :=
  r.cols.any (fun c => (colGranule c.what).any (fun g => s.shd.cmds.any (fun k => k.left.contains g)))

/-- The captures of the commands that run, and the close of the rows they wait on (R270, R253). -/
def cmdKick (s : State) : State :=
  if s.shd.cmds.isEmpty then s
  else
    let s1 := (s.shd.cmds.flatMap ShadowCmd.left).foldl (fun t g => cmdCapture g t) s
    closeRows (fun r => !r.closed && rowWaited s1 r) s1

/-- What a command makes of the state after a step: programs of its granules that ended, passed or not, and granules that have left
the dirty set. `before` is the state before the step. -/
def cmdUpdate (before s : State) (c : ShadowCmd) : ShadowCmd :=
  c.left.foldl (fun k g =>
    let ended := programRuns before g && !programRuns s g
    let passed := ended && decide ((mapOf before g).vpa ≠ (mapOf s g).vpa ∨ (mapOf before g).ref ≠ (mapOf s g).ref)
    if ended ∧ k.old.contains g then { k with old := k.old.filter (· ≠ g) }
    else if passed then
      { k with
        left := k.left.filter (· ≠ g)
        met := k.met ++ [g]
        again := if gstate s g = .redirty then k.again ++ [g] else k.again }
    else if isDirty s g then k
    else { k with left := k.left.filter (· ≠ g), old := k.old.filter (· ≠ g) }) c

/-- A command is over (R269, R270): event 0x0503 with the granules shadowed, re-dirtied and the time, and what its opcode does then:
the completion, the park of SET_POWER_STATE 3, or the answer to the head. -/
def cmdEnd (c : ShadowCmd) (s : State) : State :=
  let n := c.met.length
  let s1 := useFree (raise 0x0503 0x0D [(4, n), (4, c.again.length), (4, elapsedNow 32 s)]
    { s with shd := { s.shd with cmds := s.shd.cmds.filter (fun k => k.opcode ≠ c.opcode) } })
  if c.opcode = 0xC002 then bgEnd 0xC002 .success 0 [(4, n), (4, c.again.length)] s1
  else if c.opcode = 0xC003 then bgEnd 0xC003 .success 0 [(4, n), (4, 0)] s1
  else if c.opcode = 0xC008 then
    (if dumpUnmet s1 = 0 then commitDump 4 0xC008 s1
     else bgEnd 0xC008 .retryRequired 0x000D [] (raise 0x060B 0x0E [(1, dumpUnmet s1)] s1))
  else barrierReply 0 n s1

/-- The commands follow a step: programs that ended, captures made again, and commands that are over. -/
def cmdFollow (before s : State) : State :=
  if s.shd.cmds.isEmpty then s
  else
    let l := s.shd.cmds.map (cmdUpdate before s)
    let s1 := cmdKick { s with shd := { s.shd with
      cmds := l
      cmdDone := ((l.getLast?).map (fun c => c.met.length)).getD s.shd.cmdDone } }
    (s1.shd.cmds.filter (fun c => c.left.isEmpty)).foldl (fun t c => cmdEnd c t) s1

/-- A command starts for the granules of a scope (R269); its programs that already run for DIRTY or REDIRTY granules do not count. -/
def cmdStart (op : Nat) (p : Nat → Bool) (s : State) : State :=
  let l := cmdScope s p
  let old := l.filter (fun g => gstate s g != .inflight && programRuns s g)
  let c : ShadowCmd := ⟨op, l, old, [], []⟩
  let s1 := { s with shd := { s.shd with cmds := s.shd.cmds ++ [c], cmdTarget := l.length, cmdDone := 0 } }
  cmdFollow s1 s1

/-- What follows a step of the stream: ownership copies, segments to erase, the commands and the data path. -/
def streamFollow (before s : State) : State := settle (cmdFollow before (ownCopiesFollow (eraseReady s)))

end Sys2Proof.Machine
end

