-- ==== Sys2Proof/Machine/ImageOps.lean ====
section
/-!
DEFINITION. The fabric image as bytes: header, trailer, framing, and every check of a record that reads only the image (R46 to R83,
R102, R644). A check answers a cause of R102, 0 where it passes.
-/

namespace Sys2Proof.Machine

/-! ### Which registers a BAR0 address can name (R640) -/

/-- The offsets at which a block of the spine has registers, as ranges of first and last offset. -/
def blockRanges (b : Nat) : List (Nat × Nat) :=
  match b with
  | 0x0 => [(0, 0x28)] | 0x1 => [(0, 0x38)] | 0x2 => [(0, 0x78)] | 0x3 => [(0, 0x80)] | 0x4 => [(0, 0x38)]
  | 0x5 => [(0, 0x40)] | 0x6 => [(0, 0x38)] | 0x7 => [(0, 0x48), (0x80, 0xD8)] | 0x8 => [(0, 0x48)]
  | 0x9 => [(0, 0x38), (0x100, 0x1F8)] | 0xA => [(0, 0x58)] | 0xB => [(0, 0x98)]
  | 0xC => [(0, 0x28), (0x40, 0x68), (0x80, 0xA8)] | 0xD => [(0, 0x70)] | 0xE => [(0, 0x58), (0x100, 0x138)]
  | _ => []

/-- The same for unit `u` of a quadrant. -/
def unitRanges (u : Nat) : List (Nat × Nat) :=
  if u = 0 then [(0, 0x48)] else if u = 3 then [(0, 0)] else if 4 ≤ u ∧ u < 8 then [(0, 0x38)] else []

/-- An 8-byte aligned address names a register, with the quadrants of a mask enabled (R639). -/
def regNamed (quadEn a : Nat) : Bool :=
  let inside (l : List (Nat × Nat)) (o : Nat) : Bool := l.any (fun r => decide (r.1 ≤ o) && decide (o ≤ r.2))
  if a < 0x100000 then inside (blockRanges (a / 0x10000)) (a % 0x10000)
  else if a < 0x200000 then
    quadEn.testBit ((a - 0x100000) / 0x40000) && inside (unitRanges ((a % 0x40000) / 0x4000)) (a % 0x4000)
  else false

/-- Registers of the spine's blocks with an RC or WO field. -/
def spineRc : List Nat :=
  [0x28, 0x10010, 0x10028, 0x20028, 0x20078, 0x30078, 0x40018, 0x40030, 0x50030, 0x50040, 0x60028, 0x60030, 0x70008, 0x70048,
   0x80008, 0x80010, 0x80018, 0x80020, 0x80038, 0x90020, 0xA0028, 0xA0030, 0xB0000, 0xB0098, 0xD0038, 0xE0120]

/-- The register has a WO field (R444). -/
def hasWo (a : Nat) : Bool := decide (0x70080 ≤ a) && decide (a ≤ 0x700D8)

/-- The register has an RC or WO field (R79). -/
def hasRc (a : Nat) : Bool :=
  if a < 0x100000 then spineRc.contains a || hasWo a
  else
    let u := (a % 0x40000) / 0x4000
    if u = 0 then [0x28, 0x30, 0x38, 0x40].contains (a % 0x4000)
    else if 4 ≤ u ∧ u < 8 then [0x18, 0x20].contains (a % 0x4000)
    else false

/-- The register has an RWL field (R82). -/
def hasRwl (a : Nat) : Bool :=
  if a < 0x100000 then
    [0x10030, 0x20030, 0x40008, 0x40038, 0x60018, 0x70040, 0x80028, 0x90028].contains a
  else
    let u := (a % 0x40000) / 0x4000
    if u = 0 then [0x08, 0x10].contains (a % 0x4000) else if 4 ≤ u ∧ u < 8 then a % 0x4000 == 0x38 else false

/-! ### Bytes of a slot -/

/-- `n` bytes of internal flash from a window offset; the offset and `n` are multiples of 8. -/
def flashBytes (off n : Nat) (s : State) : List Nat :=
  (List.range (n / 8)).flatMap (fun i => leBytes 8 (arrayWord (off + 8 * i) s))

/-- The window offset of an image slot, 0 A, 1 B (R46, R486). -/
def imageBase (slot : Nat) : Nat := if slot = 0 then 0x240000 else 0x640000

/-- The first failing check of a list: pairs of whether a check passes and its cause; 0 where all pass. -/
def firstCause (l : List (Bool × Nat)) : Nat := ((l.find? (fun c => !c.1)).map Prod.snd).getD 0

/-- Every byte from `off` on, `n` of them, is 0: reserved bytes. A set one is a field out of its set, cause 0x08. DEDUCED (log 41). -/
def zeros (p : List Nat) (off n : Nat) : Bool := ((p.drop off).take n).all (· == 0)

/-- SHA-384 of the public key of a trailer equals `KEY_HASH` of the Bog-oak row (R53, R508). -/
def keyHashOk (trailer : List Nat) (s : State) : Bool :=
  (sha384Digest ((trailer.drop 8).take 96)).toNat == bogValue s 6 6

/-- The signature of a component whose trailer ends it verifies: ECDSA P-384 over SHA-384 of its bytes up to trailer offset 0x67, with the
embedded key (R52, R53). X, Y, r and s are multi-byte fields, so little-endian (R46, R537). -/
def signatureOk (b : List Nat) : Bool :=
  let t := b.drop (b.length - 200)
  ecdsaVerify (leAt t 0x08 48) (leAt t 0x38 48) (beValue (sha384 (b.take (b.length - 96)))) (leAt t 0x68 48) (leAt t 0x98 48)

/-- The checks of the trailer of a component, the last 200 of its bytes, and of its signature (R52, R53). -/
def trailerCause (b : List Nat) (s : State) : Nat :=
  let t := b.drop (b.length - 200)
  firstCause [(leAt t 0 4 == 0x53495844, 0x01), (leAt t 4 2 == 1, 0x02), (zeros t 6 2, 0x08), (keyHashOk t s, 0x0B), (signatureOk b, 0x0A)]

/-- The header checks of an image (R50). -/
def headerCause (b : List Nat) : Nat :=
  let n := leAt b 8 4
  firstCause [(leAt b 0 4 == 0x31495844, 0x01), (leAt b 4 1 == 1, 0x02), (decide (leAt b 5 1 < 64), 0x08),
    (decide (1 ≤ leAt b 6 2) && decide (leAt b 6 2 ≤ 32), 0x04),
    (n % 8 == 0 && decide (272 ≤ n) && decide (n ≤ 262144), 0x03)]

/-! ### Framing (R54, R55) -/

/-- The walk over the records: the records in order, and the cause and index of the first framing error. `fuel` bounds the
records. -/
def walkRecords : Nat → Nat → List Nat → List RawRecord → List RawRecord × Nat × Nat
  | 0, i, _, acc => (acc.reverse, 0x04, i)
  | fuel + 1, i, b, acc =>
    if b.isEmpty then (acc.reverse, 0, i)
    else
      let len := leAt b 4 4
      let padded := (len + 7) / 8 * 8
      if b.length < 8 + padded then (acc.reverse, 0x03, i)
      else
        let r : RawRecord := ⟨leAt b 0 2, leAt b 2 2, (b.drop 8).take len⟩
        let c := firstCause [(decide (r.flags < 2), 0x08), (zeros b (8 + len) (padded - len), 0x04), (acc.head?.all (fun p => decide (p.type < r.type)), 0x05)]
        if c ≠ 0 then (acc.reverse, c, i) else walkRecords fuel (i + 1) (b.drop (8 + padded)) (r :: acc)

/-- The payload length a known type has (R55); the bounded lists give it by their own count. -/
def payloadLen (r : RawRecord) : Option Nat :=
  match r.type with
  | 0x01 => some 24 | 0x02 => some 32 | 0x03 => some 80 | 0x04 => some 4096
  | 0x05 => some (8 + 16 * leAt r.payload 1 1)
  | 0x06 => some 24 | 0x07 => some 8 | 0x08 => some 32
  | 0x09 => some (8 + 56 * leAt r.payload 0 2)
  | 0x0A => some 8 | 0x0B => some 8 | 0x0C => some 8
  | 0x0D => some (8 + 16 * leAt r.payload 0 1)
  | 0x0E => some (8 + 16 * leAt r.payload 0 2)
  | _ => none

/-- The framing of the records between header and trailer: cause and index of the record. -/
def framingCause (count : Nat) (body : List Nat) : List RawRecord × Nat × Nat :=
  let (rs, c, i) := walkRecords 33 0 body []
  if c ≠ 0 then (rs, c, i)
  else if rs.length ≠ count then (rs, 0x04, 0xFFFF)
  else match (rs.zipIdx.find? (fun r => (payloadLen r.1).isNone && r.1.flags % 2 == 1)) with
    | some r => (rs, 0x07, r.2)
    | none =>
      if [0x01, 0x02, 0x03, 0x04, 0x05, 0x0C, 0x0D].any (fun t => !rs.any (fun r => r.type == t)) then (rs, 0x06, 0xFFFF)
      else match (rs.zipIdx.find? (fun r => (payloadLen r.1).any (fun n => n != r.1.payload.length))) with
        | some r => (rs, 0x04, r.2)
        | none => (rs, 0, 0xFFFF)

/-! ### The records -/

/-- The payload of a record type; no bytes where it is absent. -/
def payloadOf (rs : List RawRecord) (t : Nat) : List Nat := ((rs.find? (fun r => r.type == t)).map RawRecord.payload).getD []

def present (rs : List RawRecord) (t : Nat) : Bool := rs.any (fun r => r.type == t)

def parseStructure (p : List Nat) : StructureRec := ⟨leAt p 0 1, (p.drop 2).take 4, (p.drop 8).take 16⟩

/-- STRUCTURE (R57, R58, R21). -/
def structureCause (p : List Nat) : Nat :=
  let r := parseStructure p
  let n := popCount 4 r.quadEn
  let used := (List.range 16).filter (fun c => r.quadEn.testBit (c / 4))
  let cols := used.map (fun c => r.vchMap.getD c 0)
  firstCause [(decide (r.quadEn < 16) && [1, 2, 4].contains n, 0x08), (zeros p 1 1 && zeros p 6 2, 0x08),
    (r.route.all (fun x => decide (x < 4)), 0x08),
    ((List.range 16).all (fun c => r.quadEn.testBit (c / 4) || r.vchMap.getD c 0 == 0xFF), 0x09),
    ((List.range (4 * n)).all cols.contains, 0x09)]

def parseMemory (p : List Nat) : MemoryRec :=
  ⟨leAt p 0 1, leAt p 1 1, leAt p 2 2, leAt p 4 1, (List.range 12).map (fun i => leAt p (8 + 2 * i) 2)⟩

/-- A MEMORY timing is within the JESD79-5 limits (R60): at least the minimum of the density and data rate, and tREFI, timing 10, at most
its maximum. -/
def timingOk (density rate i v : Nat) : Bool :=
  if i = 10 then decide (v ≤ Config.jedecMaxRefi density rate) else decide (Config.jedecMin density rate i ≤ v)

/-- MEMORY (R59, R60). -/
def memoryCause (p : List Nat) : Nat :=
  let r := parseMemory p
  firstCause [([0x10, 0x20].contains r.density, 0x08), ([1, 2].contains r.ranks, 0x08),
    ([4800, 5600, 6400].contains r.dataRate, 0x08), (decide (r.refresh < 2), 0x08), (zeros p 5 3, 0x08),
    ((List.range 12).all (fun i => timingOk r.density r.dataRate i (r.timing.getD i 0)), 0x08),
    (!(r.density == 0x20 && r.ranks == 2), 0x09)]

/-- Capacity of a channel in GiB (R60). -/
def channelGib (r : MemoryRec) : Nat := r.ranks * 16 * (if r.density = 0x20 then 4 else 2)

def parseVault (p : List Nat) : VaultRec :=
  { diesPerCh := leAt p 0 1, planes := leAt p 1 1, pageData := leAt p 2 2, pageSpare := leAt p 4 2, pagesPerBlock := leAt p 6 2,
    blocksPerPlane := leAt p 8 2, featureCount := leAt p 10 1, onfiTiming := leAt p 11 1, endurance := leAt p 12 4,
    features := (List.range (leAt p 10 1)).map (fun i =>
      ⟨leAt p (16 + 8 * i) 1, leAt p (17 + 8 * i) 1 == 1, leAt p (20 + 8 * i) 4⟩) }

/-- The vault-layout hash of R63. -/
def layoutHash (vault structure_ : List Nat) : Digest :=
  sha384Digest (vault.take 11 ++ (vault.drop 16).take 64 ++ (structure_.drop 8).take 16)

/-- VAULT (R61, R63). -/
def vaultCause (p structure_ : List Nat) (vlh : Digest) : Nat :=
  let r := parseVault p
  let within (lo hi v : Nat) : Bool := decide (lo ≤ v) && decide (v ≤ hi)
  firstCause [(within 2 8 r.diesPerCh, 0x08), ([1, 2, 4].contains r.planes, 0x08), (r.pageData == 16384, 0x08),
    (within 1024 4096 r.pageSpare, 0x08), (within 64 2048 r.pagesPerBlock, 0x08), (within 256 8192 r.blocksPerPlane, 0x08),
    (decide (r.featureCount ≤ 8), 0x08), (within 1000 100000 r.endurance, 0x08),
    ((List.range r.featureCount).all (fun i => decide (leAt p (17 + 8 * i) 1 < 2) && zeros p (18 + 8 * i) 2), 0x08),
    (zeros p (16 + 8 * r.featureCount) (64 - 8 * r.featureCount), 0x08), (decide (layoutHash p structure_ = vlh), 0x0D)]

/-- One REGIONS entry (R64). Code 3 of ack class or key mode, which is refused, reads as the last code. -/
def parseRegion (p : List Nat) (r : Nat) : RegionEntry :=
  let e := (p.drop (16 * r)).take 16
  let c := leAt e 4 1
  { base := leAt e 0 2, size := leAt e 2 2, sequential := c.testBit 0
    ack := match bitsOf c 1 2 with | 0 => .loc | 1 => .mirrored | _ => .vaulted
    key := match bitsOf c 3 2 with | 0 => .native | 1 => .derived | _ => .plain
    sideB := c.testBit 5, qos := bitsOf c 6 2, dumpPrio := bitsOf (leAt e 5 1) 0 3, restPrio := bitsOf (leAt e 5 1) 4 3
    share := leAt e 6 2, settleUs := leAt e 8 4 }

def parseRegions (p : List Nat) : List RegionEntry := (List.range 256).map (parseRegion p)

/-- The key-mode bit of `KEY_MODES`. -/
def keyBit : KeyMode → Nat
  | .native => 0 | .derived => 1 | .plain => 2

/-- The fields of one defined REGIONS entry lie in their ranges; an undefined entry is not checked. DEDUCED (log 41). -/
def regionFieldsOk (p : List Nat) (r : Nat) : Bool :=
  let e := (p.drop (16 * r)).take 16
  let c := leAt e 4 1
  leAt e 2 2 == 0 || (bitsOf c 1 2 != 3 && bitsOf c 3 2 != 3 && !(leAt e 5 1).testBit 3 && !(leAt e 5 1).testBit 7 &&
    decide (1 ≤ leAt e 6 2) && decide (leAt e 6 2 ≤ 1024) && decide (100 ≤ leAt e 8 4) && decide (leAt e 8 4 ≤ 1000000) &&
    zeros e 12 4)

/-- Two defined regions overlap. -/
def overlaps (a b : RegionEntry) : Bool := decide (a.base < b.base + b.size) && decide (b.base < a.base + a.size)

/-- Pairs of a list, each with every later one. -/
def noneOverlap : List RegionEntry → Bool
  | [] => true
  | e :: l => l.all (fun f => !overlaps e f) && noneOverlap l

/-- REGIONS (R64, R65); `units` are the whole 256 MiB units of the HDM capacity. -/
def regionsCause (p : List Nat) (units keyModes : Nat) (paired : Bool) : Nat :=
  let es := (parseRegions p).filter (fun e => e.size != 0)
  firstCause [((List.range 256).all (regionFieldsOk p), 0x08), (es.all (fun e => keyModes.testBit (keyBit e.key)), 0x15),
    (paired || es.all (fun e => decide (e.ack ≠ .mirrored) && !e.sideB), 0x16),
    (es.all (fun e => decide (e.base + e.size ≤ units)) && noneOverlap es, 0x09)]

/-- Hardware bounds of the ENERGY parameters 1 to 17 (R68). -/
def energyBounds : List (Nat × Nat × Nat) :=
  [(1, 2300, 2700), (2, 4000, 40000), (3, 3000, 39000), (4, 8000, 50000), (5, 1000, 3000000), (6, 50, 100), (7, 10, 60),
   (8, 4000, 64000), (9, 1000, 10000), (10, 0, 2097152), (11, 9000, 11400), (12, 500, 10000), (13, 10800, 12000),
   (14, 10900, 12000), (15, 0, 5000), (16, 4000, 54000), (17, 100, 10000)]

/-- Hardware bounds of the LIFE parameters (R71). -/
def lifeBounds : List (Nat × Nat × Nat) := [(0x41, 5, 50), (0x42, 0, 50), (0x43, 16, 256), (0x44, 0, 50)]

/-- The bounded entries of a payload (R66). -/
def parseParams (p : List Nat) (n : Nat) : List Param :=
  (List.range n).map (fun i => ⟨leAt p (8 + 16 * i) 2, leAt p (12 + 16 * i) 4, leAt p (16 + 16 * i) 4, leAt p (20 + 16 * i) 4⟩)

/-- A parameter list with the entries of a record in place of the defaults (R67). -/
def withDefaults (d l : List Param) : List Param := d.map (fun x => (l.find? (fun y => y.id == x.id)).getD x)

/-- The bounds, order and uniqueness of bounded entries (R66, R67). `MIN` or `MAX` outside the hardware bounds is a field outside its
range, cause 0x08; `MIN`, `DEFAULT` and `MAX` out of order, or a parameter named twice, is a relation, cause 0x09. DESIGN CHOICE (log 41):
R67 names no cause. -/
def paramsCause (p : List Nat) (n : Nat) (bounds : List (Nat × Nat × Nat)) : Nat :=
  let l := parseParams p n
  let hw (x : Param) : Option (Nat × Nat × Nat) := bounds.find? (fun b => b.1 == x.id)
  firstCause [(l.all (fun x => (hw x).isSome), 0x08), ((List.range n).all (fun i => zeros p (10 + 16 * i) 2), 0x08),
    (l.all (fun x => (hw x).any (fun b => decide (b.2.1 ≤ x.lo) && decide (x.hi ≤ b.2.2))), 0x08),
    (l.all (fun x => decide (x.lo ≤ x.val) && decide (x.val ≤ x.hi)), 0x09), (decide (l.map Param.id).Nodup, 0x09)]

/-- A parameter's bounds. -/
def loOf (l : List Param) (id : Nat) : Nat := ((l.find? (fun x => x.id == id)).map Param.lo).getD 0
def hiOf (l : List Param) (id : Nat) : Nat := ((l.find? (fun x => x.id == id)).map Param.hi).getD 0

def parseEnergy (p : List Nat) : EnergyRec :=
  ⟨leAt p 0 1, withDefaults energyDefaults (parseParams p (leAt p 1 1))⟩

/-- ENERGY (R68, R69). -/
def energyCause (p : List Nat) : Nat :=
  let e := parseEnergy p
  let l := e.params
  let c := firstCause [(decide (8 ≤ e.cells) && decide (e.cells ≤ 20), 0x08), (decide (leAt p 1 1 ≤ 17), 0x08), (zeros p 2 6, 0x08)]
  if c ≠ 0 then c
  else
    let c2 := paramsCause p (leAt p 1 1) energyBounds
    if c2 ≠ 0 then c2
    else if decide (e.cells * hiOf l 1 ≤ 54000) && decide (hiOf l 3 + 1000 ≤ loOf l 2) && decide (hiOf l 2 + 4000 ≤ loOf l 4) &&
        decide (hiOf l 4 + 4000 ≤ e.cells * loOf l 1) && decide (hiOf l 2 ≤ loOf l 16) && decide (hiOf l 11 < loOf l 14) &&
        decide (hiOf l 14 ≤ loOf l 13) then 0
    else 0x09

def parseLife (p : List Nat) : List Param := withDefaults lifeDefaults (parseParams p (leAt p 0 1))

/-- LIFE (R71). -/
def lifeCause (p : List Nat) : Nat :=
  let c := firstCause [(decide (leAt p 0 1 ≤ 4), 0x08), (zeros p 1 7, 0x08)]
  if c ≠ 0 then c else paramsCause p (leAt p 0 1) lifeBounds

def parsePair (p : List Nat) : PairRec :=
  { sideB := leAt p 0 1 == 1, tiebreakB := leAt p 1 1 == 1, txSpare := leAt p 2 1, rxSpare := leAt p 3 1, txPol := leAt p 4 2,
    rxPol := leAt p 6 2, txMap := (p.drop 8).take 8, rxMap := (p.drop 16).take 8 }

/-- PAIR (R72, R73). -/
def pairCause (p : List Nat) : Nat :=
  let r := parsePair p
  let nine (m : List Nat) (sp : Nat) : Bool := (List.range 9).all (fun x => (sp :: m).contains x)
  firstCause [(decide (leAt p 0 1 < 2) && decide (leAt p 1 1 < 2), 0x08), (decide (r.txSpare < 9) && decide (r.rxSpare < 9), 0x08),
    (decide (r.txPol < 512) && decide (r.rxPol < 512), 0x08),
    (nine r.txMap r.txSpare && nine r.rxMap r.rxSpare, 0x09)]

def parseArray (p : List Nat) : ArrayRec :=
  let f := leAt p 0 1
  ⟨f.testBit 0, f.testBit 1, f.testBit 2, f.testBit 3, leAt p 1 1⟩

/-- ARRAY (R74). -/
def arrayCause (p : List Nat) : Nat :=
  firstCause [(decide (leAt p 0 1 < 16), 0x08), (decide (leAt p 1 1 < 64), 0x08), (zeros p 2 6, 0x08)]

def parsePools (p : List Nat) : List PoolEntry :=
  (List.range 4).map (fun i => ⟨leAt p (8 * i) 4, (leAt p (8 * i + 4) 1).testBit 0⟩)

/-- POOLS (R75, R76, R467). -/
def poolsCause (p : List Nat) : Nat :=
  let l := parsePools p
  let n (i : Nat) : Nat := (l.getD i ⟨0, false⟩).count
  firstCause [((List.range 4).all (fun i => decide (leAt p (8 * i + 4) 1 < 2) && zeros p (8 * i + 5) 3), 0x08),
    (l.all (fun e => e.count % 4 == 0), 0x09), (decide (n 0 * 256 + n 1 * 1024 + n 2 * 4096 + n 3 * 16384 ≤ 16777216), 0x09),
    (decide (64 ≤ n 3) && decide (4 ≤ n 0) && decide (4 ≤ n 1) && decide (4 ≤ n 2), 0x09),
    (!(l.getD 3 ⟨0, false⟩).spillUp, 0x09), (decide (n 0 + n 1 + n 2 + n 3 ≤ 16384), 0x09)]

def parseEvents (p : List Nat) : List EventsEntry :=
  (List.range (leAt p 0 2)).map (fun i =>
    let e := (p.drop (8 + 56 * i)).take 56
    ⟨leAt e 0 2, leAt e 2 2, leAt e 5 1, (List.range (leAt e 4 1)).map (fun k => leAt e (8 + 4 * k) 4)⟩)

/-- EVENTS (R77, R79). -/
def eventsCause (p : List Nat) (quadEn : Nat) : Nat :=
  let l := parseEvents p
  firstCause [(decide (leAt p 0 2 ≤ 256), 0x08), (zeros p 2 6, 0x08),
    ((List.range (leAt p 0 2)).all (fun i =>
      let e := (p.drop (8 + 56 * i)).take 56
      decide (leAt e 4 1 ≤ 12) && decide (leAt e 5 1 < 4) && zeros e 6 2 && zeros e (8 + 4 * leAt e 4 1) (48 - 4 * leAt e 4 1)), 0x08),
    (l.all (fun e => e.snaps.all (fun a => a % 8 == 0 && decide (a < 0x200000) && regNamed quadEn a && !hasRc a)), 0x08)]

def parseClocks (p : List Nat) : ClocksRec := ⟨leAt p 0 1, leAt p 1 1, leAt p 2 2⟩

def clocksCause (p : List Nat) : Nat :=
  firstCause [(decide (leAt p 0 1 < 3) && decide (leAt p 1 1 < 2) && [1600, 2000, 2400].contains (leAt p 2 2) && zeros p 4 4, 0x08)]

def parsePins (p : List Nat) : PinsRec := ⟨leAt p 0 1, leAt p 1 1, leAt p 2 1, leAt p 3 1⟩

def pinsCause (p : List Nat) : Nat :=
  firstCause [(decide (0x08 ≤ leAt p 0 1) && decide (leAt p 0 1 ≤ 0x77) && decide (leAt p 1 1 < 3) && decide (leAt p 2 1 < 16) &&
    decide (leAt p 3 1 < 3) && zeros p 4 4, 0x08)]

def parseSecurity (p : List Nat) : SecurityRec := ⟨leAt p 0 1, leAt p 1 1, leAt p 2 1, leAt p 3 1⟩

/-- SECURITY (R80, R81). -/
def securityCause (p : List Nat) : Nat :=
  firstCause [(decide (leAt p 0 1 < 8) && decide (leAt p 1 1 < 32) && decide (leAt p 2 1 < 8) && decide (leAt p 3 1 < 8) &&
    zeros p 4 4, 0x08), (bitsOf (leAt p 0 1) 0 2 != 0, 0x08)]

def parsePresets (p : List Nat) : List Preset :=
  (List.range (leAt p 0 2)).map (fun i => ⟨leAt p (8 + 16 * i) 4, leAt p (16 + 16 * i) 8⟩)

/-- PRESETS (R82). -/
def presetsCause (p : List Nat) (quadEn : Nat) : Nat :=
  let l := parsePresets p
  firstCause [(decide (leAt p 0 2 ≤ 64), 0x08), (zeros p 2 6, 0x08),
    ((List.range (leAt p 0 2)).all (fun i => zeros p (12 + 16 * i) 4), 0x08),
    (l.all (fun e => e.offset % 8 == 0 && decide (e.offset < 0x200000) && regNamed quadEn e.offset && hasRwl e.offset), 0x08),
    (decide (l.map Preset.offset).Nodup, 0x08)]

/-- The check of one record among all of them, by its type (R644: in ascending `TYPE`). -/
def recordCause (rs : List RawRecord) (vlh : Digest) (r : RawRecord) : Nat :=
  let st := parseStructure (payloadOf rs 1)
  let units := popCount 4 st.quadEn * (channelGib (parseMemory (payloadOf rs 2)) * 65536 - 8192) / 16384
  match r.type with
  | 0x01 => structureCause r.payload
  | 0x02 => memoryCause r.payload
  | 0x03 => vaultCause r.payload (payloadOf rs 1) vlh
  | 0x04 => regionsCause r.payload units (leAt (payloadOf rs 0x0C) 0 1) (present rs 6)
  | 0x05 => energyCause r.payload
  | 0x06 => pairCause r.payload
  | 0x07 => arrayCause r.payload
  | 0x08 => poolsCause r.payload
  | 0x09 => eventsCause r.payload st.quadEn
  | 0x0A => clocksCause r.payload
  | 0x0B => pinsCause r.payload
  | 0x0C => securityCause r.payload
  | 0x0D => lifeCause r.payload
  | 0x0E => presetsCause r.payload st.quadEn
  | _ => 0

/-! ### Whole slots -/

/-- What the header, trailer, signature and anti-rollback checks make of a slot (R47, R50 to R53). -/
structure SlotCheck where
  cause : Nat
  version : Nat
  arb : Nat
  bytes : List Nat
  deriving DecidableEq, Repr

/-- The candidate checks of an image slot; a slot whose header reads erased is empty, cause 0x17. DESIGN CHOICE (log 41). -/
def checkSlot (slot : Nat) (s : State) : SlotCheck :=
  let base := imageBase slot
  let h := flashBytes base 64 s
  let v := leAt h 12 4
  let a := leAt h 5 1
  if h.all (· == 0xFF) then ⟨0x17, 0, 0, []⟩
  else
    let c := headerCause h
    if c ≠ 0 then ⟨c, v, a % 64, []⟩
    else
      let b := flashBytes base (leAt h 8 4) s
      let t := trailerCause b s
      if t ≠ 0 then ⟨t, v, a, b⟩ else if a < arbImage s then ⟨0x0C, v, a, b⟩ else ⟨0, v, a, b⟩

/-- The record checks of an image: cause, index of the failing record, and the records (R54 to R82). -/
def checkRecords (b : List Nat) : Nat × Nat × List RawRecord :=
  let (rs, c, i) := framingCause (leAt b 6 2) ((b.drop 64).take (b.length - 264))
  if c ≠ 0 then (c, i, rs)
  else
    let vlh : Digest := BitVec.ofNat 384 (leAt b 16 48)
    match rs.zipIdx.find? (fun r => recordCause rs vlh r.1 != 0) with
    | some r => (recordCause rs vlh r.1, r.2, rs)
    | none => (0, 0xFFFF, rs)

/-- The image that a checked record list makes. -/
def imageOf (b : List Nat) (rs : List RawRecord) : ActiveImage :=
  { version := leAt b 12 4
    records := rs.filter (fun r => !(([0x04, 0x08, 0x09] : List Nat).contains r.type))
    regions := parseRegions (payloadOf rs 4)
    pools := if present rs 8 then parsePools (payloadOf rs 8) else []
    events := if present rs 9 then parseEvents (payloadOf rs 9) else []
    presets := if present rs 0x0E then parsePresets (payloadOf rs 0x0E) else []
    pair := if present rs 6 then some (parsePair (payloadOf rs 6)) else none
    array := if present rs 7 then some (parseArray (payloadOf rs 7)) else none
    structureRec := some (parseStructure (payloadOf rs 1))
    memory := some (parseMemory (payloadOf rs 2))
    vault := some (parseVault (payloadOf rs 3))
    energy := some (parseEnergy (payloadOf rs 5))
    life := parseLife (payloadOf rs 0x0D)
    clocks := if present rs 0x0A then parseClocks (payloadOf rs 0x0A) else ⟨0, 0, 2400⟩
    pins := if present rs 0x0B then parsePins (payloadOf rs 0x0B) else ⟨0x5C, 2, 5, 1⟩
    security := parseSecurity (payloadOf rs 0x0C) }

/-- The unknown records of an image that are skipped (R55). -/
def skippedTypes (rs : List RawRecord) : List Nat := (rs.filter (fun r => (payloadLen r).isNone)).map RawRecord.type

/-- The default carving of R75. -/
def defaultPools : List PoolEntry := [⟨8192, true⟩, ⟨2048, true⟩, ⟨1024, true⟩, ⟨512, false⟩]

/-! ### Loader and firmware components (R537, R538) -/

/-- The area a component of a kind takes in a slot: window offset and size (R486). -/
def compArea (k : CompKind) (slot : Nat) : Nat × Nat :=
  match k with
  | .loader => (0x400000 * slot, 0x40000)
  | .firmware => (0x40000 + 0x400000 * slot, 0x200000)
  | .image => (0x240000 + 0x400000 * slot, 0x40000)

/-- The checks of a loader or firmware component in an area of a size against a thermometer count; causes of R102. -/
def codeCause (k : CompKind) (size arb : Nat) (b : List Nat) (s : State) : Nat :=
  let n := leAt b 8 4
  let c := firstCause [(leAt b 0 4 == (if k = .loader then 0x3152444C else 0x31525746), 0x01), (leAt b 4 1 == 1, 0x02),
    (decide (leAt b 5 1 < 64) && zeros b 6 2 && zeros b 24 40, 0x08),
    (n % 8 == 0 && decide (264 ≤ n) && decide (n ≤ size), 0x03), (decide (leAt b 16 4 + (n - 264) ≤ 3145728), 0x09),
    (decide (leAt b 20 4 < n - 264) || n == 264, 0x09)]
  if c ≠ 0 then c
  else
    let t := trailerCause (b.take n) s
    if t ≠ 0 then t else if leAt b 5 1 < arb then 0x0C else 0

/-- The thermometer count a component of a kind is held against (R538, R51). -/
def arbOf (k : CompKind) (s : State) : Nat :=
  match k with
  | .loader => arbLoader s
  | .firmware => arbFirmware s
  | .image => arbImage s

/-- A loader or firmware slot checked: cause, version, anti-rollback version and bytes; an erased header is an empty slot. -/
def checkCode (k : CompKind) (slot : Nat) (s : State) : SlotCheck :=
  let (base, size) := compArea k slot
  let h := flashBytes base 64 s
  let v := leAt h 12 4
  let a := leAt h 5 1
  if h.all (· == 0xFF) then ⟨0x17, 0, 0, []⟩
  else
    let n := min size (leAt h 8 4 / 8 * 8)
    let b := flashBytes base n s
    ⟨codeCause k size (arbOf k s) b s, v, a, b⟩

/-- The slot chosen of two: the candidate of higher version, slot A where they are equal (R47, R538). -/
def chooseSlot (a b : SlotCheck) : Option Nat :=
  if a.cause = 0 ∧ (b.cause ≠ 0 ∨ b.version ≤ a.version) then some 0 else if b.cause = 0 then some 1 else none

end Sys2Proof.Machine
end

