-- ==== Sys2Proof/Machine/FirmwareUpdate.lean ====
section
/-!
DEFINITION. Transfer FW and Activate FW (R556 to R558).
-/

namespace Sys2Proof.Machine

/-- The bytes of a component's words. -/
def compBytes (c : Component) : List Nat := c.words.flatMap (fun w => leBytes 8 w)

/-- The bank that does not hold the active firmware (R556). -/
def inactiveSlot (s : State) : Nat := 1 - s.sig.fwSlot % 2

/-- The checks of a package's component (R537, R538, R50 to R53, R556): a cause of R102, 0 where it passes. -/
def compCause (c : Component) (s : State) : Nat :=
  let b := compBytes c
  match c.kind with
  | .image =>
    let h := headerCause b
    let n := leAt b 8 4
    if h ≠ 0 then h
    else if b.length ≠ n then 0x03
    else
      let t := trailerCause b s
      if t ≠ 0 then t else if leAt b 5 1 < arbImage s then 0x0C else (checkRecords b).1
  | k => codeCause k (compArea k 0).2 (arbOf k s) b s

/-- A component's version is above the active one's; an image need not be (R556). -/
def compNewer (c : Component) (s : State) : Bool :=
  let v := leAt (compBytes c) 12 4
  match c.kind with
  | .loader => decide (s.sig.ldrVersion < v)
  | .firmware => decide (s.sig.fwVersion < v)
  | .image => true

/-- A component may be written into a slot: it passes its checks, is newer, and its area does not hold the active image (R556), nor,
outside RECOVERY, the active loader, which R487 locks. DEDUCED (log 42). -/
def compOk (slot : Nat) (s : State) (c : Component) : Bool :=
  compCause c s == 0 && compNewer c s && !(c.kind = .image && s.img.imageValid && s.img.activeSlot == slot)
    && !(c.kind = .loader && s.sig.loaderSlot == slot && s.spn.mode ≠ .recovery)

/-- A sector erased under the journal (R503, R556). -/
def journalledErase (g : Nat) (s : State) : State :=
  let b := g / 1024
  let s1 := countErase g (Config.observed s.free % 256) (clearSector g (journalAppend 1 b (g % 1024) 0 s))
  useFree (journalAppend 2 b (g % 1024) 0 s1)

/-- A component's area of a slot erased, so that nothing in it is a candidate for a boot (R556). -/
def eraseComp (slot : Nat) (s : State) (c : Component) : State :=
  let (base, size) := compArea c.kind slot
  let s1 := (List.range (size / 4096)).foldl (fun t k => journalledErase (base / 4096 + k) t) s
  { s1 with aos := { s1.aos with scratch := { s1.aos.scratch with
      held := s1.aos.scratch.held.filter (fun h => h.base ≠ base) } } }

/-- A component written into its erased area of a slot, all but its first word, which is held (R556). -/
def writeComp (slot : Nat) (s : State) (c : Component) : State :=
  let base := (compArea c.kind slot).1
  let ws := c.words.zipIdx.foldl (fun l w =>
    if w.2 = 0 then l else tput erasedWord l (base / 8 + w.2) (w.1 % 2 ^ 64)) s.ifc.words
  let held := s.aos.scratch.held.filter (fun h => h.base ≠ base)
  { s with
    ifc := { s.ifc with words := ws }
    aos := { s.aos with scratch := { s.aos.scratch with
      held := held ++ [⟨c.kind, base, c.words.headD erasedWord, leAt (compBytes c) 12 4⟩] } } }

/-- A package of one to three components, each kind once. -/
def packageOk (l : List Component) : Bool :=
  decide (1 ≤ l.length) && decide (l.length ≤ 3) && decide (l.map Component.kind).Nodup

/-- The components of a package as bits: 0 loader, 1 firmware, 2 image. -/
def compBits (l : List Component) : Nat :=
  maskOf (l.map (fun c => match c.kind with | .loader => 0 | .firmware => 1 | .image => 2))

/-- An outcome of a package is logged (R556). -/
def packageEvent (l : List Component) (s : State) : State := raise 0x0F05 0x0B [(1, compBits l)] s

/-- The areas of a package in a slot erased. -/
def erasePackage (slot : Nat) (l : List Component) (s : State) : State := l.foldl (eraseComp slot) s

/-- A package written into the inactive slot, whole (R556), as a rolling update does. -/
def transferPackage (l : List Component) (s : State) : State :=
  packageEvent l (l.foldl (writeComp (inactiveSlot s)) (erasePackage (inactiveSlot s) l s))

/-- The package of an agent operation. -/
def packageOf : AgentOp → Option (List Component)
  | ⟨_, _, .package _ l, _⟩ => some l
  | _ => none

/-- The package that a bank is writing. -/
def runningPackage (k : Bank) : Option (List Component) :=
  match k.running with
  | some (.agent o) => packageOf o
  | _ => none

/-- A package that waits or is being written is given up: its areas stay erased, so that the slot is invalid (R109). -/
def abortPackage (s : State) : State :=
  let stop (k : Bank) : Bank := if (runningPackage k).isSome then { k with busy := false, op := 0, running := none } else k
  let l := s.ifc.waiting.filterMap packageOf ++ (runningPackage s.ifc.bank0).toList ++ (runningPackage s.ifc.bank1).toList
  match l.head? with
  | none => s
  | some p => ifcKickAll (packageEvent p { s with ifc := { s.ifc with
      waiting := s.ifc.waiting.filter (fun o => (packageOf o).isNone), bank0 := stop s.ifc.bank0, bank1 := stop s.ifc.bank1 } })

/-- The writing of a package has ended: written, or its areas are erased again; Transfer FW completes (R556, R127). -/
def packageWritten (slot : Nat) (l : List Component) (ok : Bool) (s : State) : State :=
  if ok then bgEnd 0x0201 .success 0 [] (packageEvent l (l.foldl (writeComp slot) s))
  else bgEnd 0x0201 .internalError 0 [] (packageEvent l s)

/-- `TRANSFER_FW` (R124, R556): a package for a slot. The active slot, a failing component and a component that is not newer are
Invalid Input. While `QUAG_OK` is 0 nothing is programmed: Retry Required, as for Activate FW. DESIGN CHOICE (log 42). A background
command (R109, R127): the areas are erased and the bank then writes the package. -/
def execTransferFw (via : Via) (slot : Nat) (l : List Component) (s : State) : Result :=
  .next (standard via 0x0201 false (fun s =>
    if s.hlk.bg.isSome then reply via 0x0201 .busy 0 [] s
    else if slot ≠ inactiveSlot s ∨ !packageOk l ∨ !(l.all (compOk slot s)) then
      reply via 0x0201 .invalidInput 0 [] (packageEvent l s)
    else if !s.nrg.quagOk then reply via 0x0201 .retryRequired 0x0010 [] (packageEvent l s)
    else ifcAsk ⟨.firmware, slot, .package slot l, 0⟩ (erasePackage slot l (bgStart via 0x0201 s))) s)

/-- The held first words programmed (R557). -/
def activateHeld (s : State) : State :=
  let ws := s.aos.scratch.held.foldl (fun l h => tput erasedWord l (h.base / 8) (h.word % 2 ^ 64)) s.ifc.words
  raise 0x0F06 0x0B [] { s with
    ifc := { s.ifc with words := ws }
    aos := { s.aos with scratch := { s.aos.scratch with held := [] } } }

/-- `ACTIVATE_FW` (R557): offline activation; an online one is not supported (R124). -/
def execActivateFw (via : Via) (online : Bool) (s : State) : Result :=
  .next (standard via 0x0202 false (fun s =>
    if online ∨ s.aos.scratch.held.isEmpty then reply via 0x0202 .invalidInput 0 [] s
    else if !s.nrg.quagOk then reply via 0x0202 .retryRequired 0x0010 [] s
    else reply via 0x0202 .success 0 [] (activateHeld s)) s)

end Sys2Proof.Machine
end

