-- ==== Sys2Proof/Machine/FlashDone.lean ====
section
/-!
DEFINITION. The end of an internal-flash operation (R496, R497): what each agent does with it, and the values that waited in AOS.
-/

namespace Sys2Proof.Machine

/-! ## Agents -/

/-- A gauge record's write has ended (R233, R235): valid, or written again in the next slot. A newer one that waits in AOS follows. -/
def gaugeWritten (r : GaugeRec) (ok : Bool) (s : State) : State :=
  let i := { s.ifc with gaugeSlot := (s.ifc.gaugeSlot + 1) % 512, gaugeFresh := false }
  if ok then
    gaugeIssue (raise 0x040D 0x03 []
      { s with ifc := { i with gauge := tins s.ifc.gaugeSlot r s.ifc.gauge }
               aos := { s.aos with gauge := if s.aos.gauge = some r then none else s.aos.gauge }
               nrg := { s.nrg with recEsr := r.esr, recCycles := r.cycles } })
  else gaugeIssue { s with ifc := i }

/-- A reservation entry put into the half that takes entries. -/
def putNonce (r : NonceRec) (s : State) : State :=
  if s.cip.activeHalf = 0 then { s with ifc := { s.ifc with nonce0 := s.ifc.nonce0 ++ [(s.ifc.used0, r)] } }
  else { s with ifc := { s.ifc with nonce1 := s.ifc.nonce1 ++ [(s.ifc.used1, r)] } }

/-- An entry slot of that half is used. -/
def useNonceSlot (s : State) : State :=
  if s.cip.activeHalf = 0 then { s with ifc := { s.ifc with used0 := s.ifc.used0 + 1 } }
  else { s with ifc := { s.ifc with used1 := s.ifc.used1 + 1 } }

/-- A reservation entry's write has ended (R455, R458): it acts, or is written again in the next slot; 384 used entries call for a
compaction (R459). -/
def nonceWritten (r : NonceRec) (ok : Bool) (s : State) : State :=
  let s2 := if ok then applyEntry r (useNonceSlot (putNonce r s)) else ifcAsk ⟨.cip, 0, .nonce r, 0⟩ (useNonceSlot s)
  if 384 ≤ usedEntries s2 then compactStart s2 else s2

/-- A snapshot's write has ended (R459): the new half is in force with the values of now, or it is erased and written again. -/
def snapWritten (half : Nat) (r : NonceSnap) (ok : Bool) (s : State) : State :=
  let s1 := { s with cip := { s.cip with compactBusy := false } }
  if ok then
    let snap : NonceSnap := { snapshotNow s1 with seq := r.seq }
    raise 0x0B0C 0x07 [(1, half), (8, r.seq)]
      { s1 with
        ifc := if half = 0 then { s1.ifc with snap0 := some snap, used0 := 0, nonce0 := [] }
               else { s1.ifc with snap1 := some snap, used1 := 0, nonce1 := [] }
        cip := { s1.cip with activeHalf := half } }
  else compactStart s1

/-- The fuse of a nonce jump has been burnt, or not (R460): every mark goes to (k + 1) × 2^60 with no binding, and a snapshot is
written. Each counter starts at its mark, as at every power-on (R456). -/
def jumpWritten (ok : Bool) (s : State) : State :=
  let k := nonceJump s
  if ok then
    let s1 := raise 0x0D08 0x0A [(1, 21)] (raiseThermo 21 (k + 1) s)
    let m := (k + 1) * 2 ^ 60
    let s2 := (List.range 256).foldl (fun t i => refreshSlot i (modSlot i (fun e =>
      { e with mark := m, counter := m, binding := none, kcv := 0, root := 0 }) t)) s1
    raise 0x0B08 0x07 [(1, k + 1)] (compactStart { s2 with cip := { s2.cip with rsvRecovered := true, jumps := k + 1 } })
  else ifcAsk ⟨.cip, 0, .thermJump, 0⟩ s

/-- A pair record's write has ended (R400): in force, with a takeover that waits for it, or written again in the next slot. -/
def pairWritten (r : PairRecord) (ok : Bool) (s : State) : State :=
  let k := { s.kor with pairSlot := (s.kor.pairSlot + 1) % 64 }
  if ok then
    pairIssue (takeoverDone (raise 0x090D 0x05 []
      { s with kor := { k with record := r }
               aos := { s.aos with pair := if s.aos.pair = some r then none else s.aos.pair }
               ifc := { s.ifc with pairs := tins s.kor.pairSlot r s.ifc.pairs } }))
  else pairIssue { s with kor := k }

/-- A sector of the half under compaction has been erased (R459): the next one follows, or the snapshot. -/
def halfErased (g : Nat) (ok : Bool) (s : State) : State :=
  if !ok then ifcAsk ⟨.cip, 0, .eraseSector g, 0⟩ s
  else if g % 8 < 7 then ifcAsk ⟨.cip, 0, .eraseSector (g + 1), 0⟩ { s with cip := { s.cip with compactSector := g + 1 } }
  else
    let seq := s.cip.entrySeq + 1
    ifcAsk ⟨.cip, 0, .snapshot (1 - s.cip.activeHalf) { snapshotNow s with seq := seq }, 0⟩
      { s with cip := { s.cip with entrySeq := seq } }

/-- The DONE entries that wait are appended under `QUAG_OK` (R216, R503). -/
def appendDone (s : State) : State :=
  if !s.nrg.quagOk then s
  else s.ifc.doneDue.foldl (fun t g => journalAppend 2 (g / 1024) (g % 1024) 0 t) { s with ifc := { s.ifc with doneDue := [] } }

/-- An agent's journalled erase has ended (R503): DONE is appended, and the agent goes on. -/
def agentErased (a : FlashAgent) (g : Nat) (ok : Bool) (s : State) : State :=
  let s1 := if ok then appendDone { s with ifc := { s.ifc with doneDue := s.ifc.doneDue ++ [g] } } else s
  match a with
  | .sedge => evrKick (ringErased ok s1)
  | .energy => gaugeIssue (if ok then { s1 with ifc := { s1.ifc with gaugeFresh := true } }
      else { s1 with ifc := { s1.ifc with gaugeSlot := ((g - 704) * 32 + 32) % 512 } })
  | .cip => halfErased g ok s1
  | .kor => pairIssue s1
  | .firmware => s1

/-- An agent's operation has ended; `ok` is the outcome of its pulses and, for a record, of its read-back. -/
def agentEnd (o : AgentOp) (ok : Bool) (s : State) : State :=
  match o.work with
  | .sedge r => evrKick (sedgeWritten r ok s)
  | .finalSedge r => dumpEnd (if ok then sedgeWritten r true { s with evr := { s.evr with writeAlert := alertBits r s } }
      else toAos r (leaveSlot s))
  | .gauge r => gaugeWritten r ok s
  | .nonce r => nonceWritten r ok s
  | .snapshot h r => snapWritten h r ok s
  | .thermJump => jumpWritten ok s
  | .pair r => pairWritten r ok s
  | .package slot l => packageWritten slot l ok s
  | .eraseSector g => agentErased o.agent g ok s

/-- One word of an agent's record has been programmed and read back (R497): the next word is asked for under the same rank (R216, R488),
or the record ends. -/
def agentWord (o : AgentOp) (ok : Bool) (s : State) : State :=
  if !ok then agentEnd o false s
  else if o.done + 1 < workWords o.work then
    let t := putWord o s
    { t with ifc := { t.ifc with waiting := { o with done := o.done + 1 } :: t.ifc.waiting } }
  else agentEnd o true (dropWords o s)

/-! ## Operations of a bank -/

/-- The sector that an operation erases. -/
def opSector : FlashOp → Option Nat
  | .erase g => some g
  | .agent ⟨_, _, .eraseSector g, _⟩ => some g
  | _ => none

/-- What the array holds after the pulses of an erase (R496, R507): erased and counted, or left undefined. -/
def eraseEnded (b g : Nat) (ok : Bool) (pulses : Nat) (s : State) : State :=
  let s1 := if ok then countErase g pulses (clearSector g s)
    else raise 0x0D02 0x0A [(1, b), (2, g % 1024)] (loseSector g s)
  let s2 := modBank b (fun k => { k with pulses := min pulses 255, slowErase := decide (60 < pulses) }) s1
  if 60 < pulses then
    raise 0x0D03 0x0A [(1, b), (2, g % 1024), (1, min pulses 255)]
      { s2 with ifc := { s2.ifc with slowErases := satAdd 16 s2.ifc.slowErases 1 } }
  else s2

/-- What the array holds after a firmware program (R494, R510): the word, or an undefined one. -/
def wordEnded (o : FlashOp) (ok : Bool) (s : State) : State :=
  match o with
  | .program off data =>
    if ok then { s with ifc := { s.ifc with words := tput erasedWord s.ifc.words (off / 8) data } }
    else { s with ifc := { s.ifc with undefWords := sins (off / 8) s.ifc.undefWords } }
  | .bogWord w data =>
    if !ok then s
    else
      let put (t : List (Nat × Nat)) (i : Nat) : List (Nat × Nat) := tput 0 t i (tget 0 t i ||| data)
      let bog := if (thermGroup w).isSome then [w, w + 1, w + 2].foldl put s.ifc.bog else put s.ifc.bog w
      raise 0x0D08 0x0A [(1, w)] { s with ifc := { s.ifc with bog := bog } }
  | .bogLock high data =>
    if ok then
      raise 0x0D08 0x0A [(1, if high then 129 else 128)]
        { s with ifc := { s.ifc with bogLocks := s.ifc.bogLocks ||| (data % 2 ^ 64 * (if high then 2 ^ 64 else 1)) } }
    else s
  | _ => s

/-- The window offset of an operation (R495). -/
def opOffset (s : State) : FlashOp → Nat
  | .program off _ => off
  | .erase g => g * 0x1000
  | .bogWord w _ => w * 8
  | .bogLock high _ => if high then 0x408 else 0x400
  | .agent o => workOff s o

/-- A bank's operation is over with a result (R495). -/
def bankDone (b : Nat) (r : FlashResult) (off : Nat) (s : State) : State :=
  modBank b (fun k => { k with busy := false, op := 0, running := none, result := r, addr := off }) s

/-- After an operation: the power-down that waits for it, or the next waiting agent operation (R216, R488). -/
def bankFree (b : Nat) (s : State) : State :=
  if s.pwr.downPending && !s.ifc.bank0.busy && !s.ifc.bank1.busy then powerDown s else ifcKick b s

/-- The agent of an operation by its code in event 0x0D01. -/
def agentCode : FlashOp → Nat
  | .agent a => match a.agent with | .firmware => 0 | .sedge => 1 | .energy => 2 | .cip => 3 | .kor => 4
  | _ => 0

/-- An agent's word meets a word that does not read erased: the program is refused (R494). -/
def wordRefused (o : FlashOp) (s : State) : Bool :=
  match o with
  | .agent a => wordTaken a s
  | _ => false

/-- An operation's pulses have ended (R496), its issuer reads back and goes on (R497). -/
def flashDone (b : Nat) (o : FlashOp) (ok readBack : Bool) (pulses : Nat) (s : State) : State :=
  let off := opOffset s o
  match opSector o with
  | some g =>
    let s1 := eraseEnded b g ok pulses (bankDone b (if ok then .ok else .eraseFail) off s)
    let s2 := match o with
      | .agent a => agentEnd a ok s1
      | _ => s1
    bankFree b s2
  | none =>
    let s1 := bankDone b (if wordRefused o s then .notErased else if ok then .ok else .progFail) off s
    let s2 :=
      if wordRefused o s then { s1 with ifc := { s1.ifc with refused := satAdd 16 s1.ifc.refused 1 } }
      else if ok then s1 else raise 0x0D01 0x0A [(3, off), (1, agentCode o)] s1
    let s3 := match o with
      | .agent a =>
        if wordTaken a s then agentWord a false s2
        else if ok && readBack then agentWord a true s2
        else agentWord a false (spoilWord a s2)
      | w => wordEnded w ok s2
    bankFree b s3

/-- `FLASH_OP_COMPLETE` (R496): the operation running on a bank ends. `ok` says that its pulses completed, `readBack` what an agent's
read-back of its word finds (R497), and `pulses` how many an erase took. -/
def execFlashOpComplete (bank : Nat) (ok readBack : Bool) (pulses : Nat) (s : State) : Result :=
  .next (match (bankOf s (bank % 2)).running with
    | some o => flashDone (bank % 2) o ok readBack pulses s
    | none => s)

/-! ## Pending values -/

/-- `QUAG_OK` may be 1 (R215); that hold-up and the input have been as they are for 1 ms is what the command says. -/
def quagConditions (s : State) : Bool :=
  s.nrg.input = .good && !s.nrg.holdupEn && s.spn.mode ≠ .dump && s.pwr.corePg

/-- `PENDING_WRITEBACK` (R215, R217): `QUAG_OK` becomes 1, and what waits is written: the DONE entries of erases, the values in AOS, the gauge record, the pair
record, the reservation marks, an ARM entry, and the events that the EVR holds. -/
def execPendingWriteback (s : State) : Result :=
  .next (if !quagConditions s then s
    else
      let s1 := appendDone { s with nrg := { s.nrg with quagOk := true } }
      let s2 := pairIssue (gaugeIssue s1)
      let l := s2.aos.marks
      let s3 := l.foldl (fun t i => topUp i t) { s2 with aos := { s2.aos with marks := [] } }
      let s4 := if s3.aos.armPending then nonceAsk 3 0 0 0 0 { s3 with aos := { s3.aos with armPending := false } } else s3
      ifcKickAll (evrKick s4))

/-- Whether the brown-out detector is armed for an operation that started in a mode (R501). -/
def bodArmed : Mode → Bool
  | .boot => true
  | .test => true
  | .recovery => true
  | _ => false

/-- What a clean abort leaves: a word that reads the same at every read, drawn once (log 5). -/
def abortWord (w : Nat) (s : State) : State :=
  let v := Config.undefinedWord s.free % 2 ^ 64
  useFree { s with ifc := { s.ifc with words := tput erasedWord s.ifc.words w v } }

/-- The same for every word of a sector, whose records are gone. -/
def abortSector (g : Nat) (s : State) : State :=
  (List.range 512).foldl (fun u i => abortWord (g * 512 + i) u) (clearSector g s)

/-- The brown-out detector acts on the operation of a bank (R501): aborted with a stable content in BOOT, TEST and RECOVERY, undefined
in the other modes, where the detector is not armed and the operation ends as it may. -/
def brownOut (b : Nat) (s : State) : State :=
  match (bankOf s b).running with
  | none => s
  | some o =>
    let off := opOffset s o
    let s1 :=
      if bodArmed (bankOf s b).startMode then
        let t := raise 0x0D05 0x0A [(3, off)] (bankDone b .aborted off s)
        match o with
        | .program a _ => abortWord (a / 8) t
        | .erase g => abortSector g t
        | .agent ⟨_, _, .eraseSector g, _⟩ => abortSector g t
        | .agent a => if workBytes a.work = [] then t else abortWord (off / 8) t
        | _ => t
      else
        let t := cutFlash b s
        useFree (bankDone b (if Config.observed s.free % 2 = 0 then .ok else .aborted) off t)
    let s2 := match o with
      | .agent a => agentEnd a false s1
      | _ => s1
    bankFree b s2

/-- `BROWN_OUT` (R501, R619): a core-rail brown-out meets the operations that run. -/
def execBrownOut (s : State) : Result := .next (brownOut 1 (brownOut 0 s))

end Sys2Proof.Machine
end

