-- ==== Sys2Proof/Machine/HostLink.lean ====
section
/-!
DEFINITION. The host link's own events (R104 to R121, R132): link up and down, PERST_N, function reset, HDM decoders, ECRC errors
and Global Persistent Flush.
-/

namespace Sys2Proof.Machine

/-- Writes without a completion are carried to their ack class with their completions discarded, reads are dropped (R109). -/
def linkDrops (s : State) : State :=
  { s with hlk := { s.hlk with writes := s.hlk.writes.map (fun w => { w with orphan := true }), reads := [] } }

/-- The link is no longer up. -/
def linkDown (s : State) : State :=
  { s with hlk := { s.hlk with linkUp := false, speed := 0, width := 0, degraded := false } }

/-- `LINK_UP` (R105, R107, R112): training ends at a speed code and a width. A link that is up has retrained. -/
def execLinkUp (speed width : Nat) (s : State) : Result :=
  .next (
    if !s.hlk.presented || s.hlk.perst then s
    else
      let slow := decide (speed < 5) || decide (width < 8)
      let retrain := if s.hlk.linkUp then 1 else 0
      let s1 := { s with hlk := { s.hlk with
        linkUp := true
        speed := speed
        width := width
        degraded := slow
        retrains := satAdd 16 s.hlk.retrains retrain
        sris := s.img.active.clocks.hostRef == 1 } }
      let s2 := raise 0x0201 0x01 [(1, speed), (1, width)] s1
      if slow then raise 0x020A 0x01 [] s2 else s2)

/-- `LINK_DOWN` (R109, R112): the link falls without a reset. -/
def execLinkDown (s : State) : Result :=
  .next (if !s.hlk.linkUp then s else settle (raise 0x0202 0x01 [] (linkDrops (linkDown s))))

/-- The background commands that a host-link reset does not end (R109): PARK, UNPARK, SHADOW_RANGE, BARRIER, CALIBRATION_DUMP. -/
def bgSurvives (op : Nat) : Bool := [0xC004, 0xC005, 0xC002, 0xC003, 0xC00A].contains op

/-- A background command that a reset ends (R109), with what it had under way: a package stays unwritten in its erased areas, and a P2
entry goes back. A vendor command ended so logs 0x0207 with extended status 0. DESIGN CHOICE (log 126). -/
def resetBg (s : State) : State :=
  match s.hlk.bg with
  | none => s
  | some c =>
    if bgSurvives c.opcode then s
    else
      let s1 := abortPackage (p2Withdraw (bgEnd c.opcode .aborted 0 [] s))
      { s1 with
        dmp := { s1.dmp with retry := none }
        cwy := { s1.cwy with array := none }
        kor := { s1.kor with takeover := none }
        shd := { s1.shd with cmds := s1.shd.cmds.filter (fun c => c.opcode ≠ 0xC008) } }

/-- What a WARM and a FUNCTION reset share (R109, R442, R583, R227); the DOE connection starts again (R550). -/
def hostReset (kind : Nat) (s : State) : State :=
  let s1 := resetBg (linkDrops s)
  let s2 := learnDisqualify 0x05 (if s1.cip.owner = 2 then claspRelease s1 else s1)
  noteReset kind { s2 with
    pwr := { s2.pwr with warmCnt := satAdd 16 s2.pwr.warmCnt 1 }
    sig := { s2.sig with connDoe := {} } }

/-- Every HDM decoder is uncommitted (R109). -/
def uncommitAll (s : State) : State :=
  let off (d : Decoder) : Decoder := { d with committed := false, errNotCommitted := false }
  { s with hlk := { s.hlk with dec0 := off s.hlk.dec0, dec1 := off s.hlk.dec1, dec2 := off s.hlk.dec2, dec3 := off s.hlk.dec3 } }

/-- A warm reset enters BOOT (R39, R543, R548): the boot ROM stage begins again, Signets, keys and `LOCKED` kept. -/
def warmBoot (s : State) : State :=
  let s1 := { s with
    img := { s.img with bootStep := 0, imageValid := false, structApplied := false }
    sig := { s.sig with stage := 0, recoverySvc := false }
    hlk := { s.hlk with presented := false } }
  let s2 := romBegins s1
  if s2.spn.mode = .boot then s2 else setMode .boot 0x0204 s2

/-- `PERST_N_ASSERT` (R109, R39, R583): a conventional reset; in BOOT, RECOVERY and TEST the device goes to BOOT. A link that was up logs
0x0204 alone and not 0x0202 too. DESIGN CHOICE (log 125). -/
def execPerstNAssert (s : State) : Result :=
  .next (
    if s.hlk.perst then s
    else
      let s1 := { s with hlk := { s.hlk with perst := true } }
      if !s.pwr.corePg then s1
      else
        let s2 := hostReset 3 (raise 0x0204 0x01 [] (uncommitAll (linkDown s1)))
        if modeIn [.boot, .recovery, .test] s2 then warmBoot s2 else settle s2)

/-- `PERST_N_DEASSERT` (R107): a presented link may train again. -/
def execPerstNDeassert (s : State) : Result :=
  .next { s with hlk := { s.hlk with perst := false } }

/-- `FUNCTION_RESET` (R109, R112, R583). -/
def execFunctionReset (s : State) : Result :=
  .next (if !s.hlk.presented then s else settle (hostReset 4 (raise 0x0205 0x01 [] s)))

/-- The four HDM decoders in order. -/
def decoders (s : State) : List Decoder := [s.hlk.dec0, s.hlk.dec1, s.hlk.dec2, s.hlk.dec3]

/-- HDM decoder `n` written. -/
def putDecoder (n : Nat) (d : Decoder) (s : State) : State :=
  match n with
  | 0 => { s with hlk := { s.hlk with dec0 := d } }
  | 1 => { s with hlk := { s.hlk with dec1 := d } }
  | 2 => { s with hlk := { s.hlk with dec2 := d } }
  | 3 => { s with hlk := { s.hlk with dec3 := d } }
  | _ => s

/-- The conditions of a commit of decoder `n` (R114). With a skip of 0 its DPA range begins where the one before ends. -/
def commitOk (n base size ways skip : Nat) (s : State) : Bool :=
  let below := (decoders s).take n
  ways = 1 && skip = 0 && base % 0x10000000 = 0 && size % 0x10000000 = 0 && below.all Decoder.committed &&
    decide ((below.map Decoder.size).sum + size ≤ hdmUnits s * 0x10000000)

/-- A refused commit or uncommit is counted and logged (R114). -/
def decoderRefuse (s : State) : State :=
  raise 0x0206 0x01 [] { s with hlk := { s.hlk with decoderRefused := satAdd 16 s.hlk.decoderRefused 1 } }

/-- `HDM_DECODER_COMMIT` (R114): the host commits decoder `n` with the base, size, ways and skip it has written. -/
def execHdmDecoderCommit (n base size ways skip : Nat) (s : State) : Result :=
  .next (
    match (decoders s)[n]? with
    | none => s
    | some d =>
      if !s.hlk.presented || d.committed then s
      else if commitOk n base size ways skip s then putDecoder n ⟨base, size, ways, skip, true, false⟩ s
      else decoderRefuse (putDecoder n ⟨base, size, ways, skip, false, true⟩ s))

/-- `HDM_DECODER_UNCOMMIT` (R114): refused while the next decoder is committed. `DECODER_REFUSED` counts refused commits only. -/
def execHdmDecoderUncommit (n : Nat) (s : State) : Result :=
  .next (
    match (decoders s)[n]? with
    | none => s
    | some d =>
      if !d.committed then s
      else if ((decoders s)[n + 1]?).any Decoder.committed then raise 0x0206 0x01 [] s
      else putDecoder n { d with committed := false, errNotCommitted := false } s)

/-- `ECRC_ERROR` (R132): a TLP with a bad ECRC is discarded; `correctable` is what the AER severity register says of it, which takes that
value, and the error's status bit, 19, is set (log 124). -/
def execEcrcError (correctable : Bool) (s : State) : Result :=
  .next (
    if !s.hlk.linkUp then s
    else
      let p := s.hlk.pci
      raise 0x0209 0x01 [] (send (.aer correctable) { s with hlk := { s.hlk with
        ecrc := satAdd 16 s.hlk.ecrc 1
        pci := { p with
          ecrcSeverity := !correctable
          aerCorrectable := if correctable then setBit p.aerCorrectable 19 else p.aerCorrectable
          aerUncorrectable := if correctable then p.aerUncorrectable else setBit p.aerUncorrectable 19 } } }))

/-- `GPF_PHASE1` (R121): answered at once. -/
def execGpfPhase1 (s : State) : Result := .next (if s.hlk.linkUp then send (.gpf 1) s else s)

/-- `GPF_PHASE2` (R121): answered within the duration that the GPF DVSEC reports (`Pci.gpfUs`), with no other effect. -/
def execGpfPhase2 (s : State) : Result := .next (if s.hlk.linkUp then send (.gpf 2) s else s)

end Sys2Proof.Machine
end

