-- ==== Sys2Proof/Machine/RegWrite.lean ====
section
/-!
DEFINITION. Writes to register fields that only store (R11, R12, R43, R44, R639, R641), reads that clear (R11) and the latch of the
upper half (R642). What a field starts beyond storing is the meaning of its own command.
-/

namespace Sys2Proof.Machine

/-- A register write: the path, the bits of the register it reaches and their values (R641). -/
structure RegWr where
  path : Path
  mask : Nat
  value : Nat
  deriving DecidableEq, Repr

/-- The write reaches bits of a field. -/
def RegWr.hits (w : RegWr) (lo n : Nat) : Bool := bitsOf w.mask lo n != 0

/-- A field's value after the write: bits outside the write's half stay (R641). -/
def RegWr.field (w : RegWr) (lo n old : Nat) : Nat :=
  (bitsOf w.value lo n &&& bitsOf w.mask lo n) ||| (old - (old &&& bitsOf w.mask lo n))

/-- A 1 is written to a bit. -/
def RegWr.one (w : RegWr) (i : Nat) : Bool := w.mask.testBit i && w.value.testBit i

/-- An RWL field takes the write (R91): from the management complex, until `LOCKED`. -/
def RegWr.open_ (w : RegWr) (s : State) : Bool := w.path = .firmware && !s.img.locked

/-- A field between two bounds: a value outside stores the nearest bound. -/
def RegWr.bounded (w : RegWr) (lo n least most old : Nat) : Nat :=
  if w.hits lo n then clamp least most (w.field lo n old) else old

/-- An RWL field between two bounds. -/
def RegWr.locked (w : RegWr) (s : State) (lo n least most old : Nat) : Nat :=
  if w.open_ s then w.bounded lo n least most old else old

/-- An RWL bit. -/
def RegWr.lockedBit (w : RegWr) (s : State) (i : Nat) (old : Bool) : Bool :=
  if w.open_ s && w.mask.testBit i then w.value.testBit i else old

/-- Fields of `SPN`, `IMG` and `HLK` that only store. -/
def storeFront (w : RegWr) (a : Nat) (s : State) : State :=
  match a with
  | 0x00018 => { s with spn := { s.spn with roleIdx := w.field 0 6 s.spn.roleIdx } }
  | 0xC0018 =>
    let v := w.field 0 2 s.img.forceSlot
    { s with img := { s.img with forceSlot := if v = 3 then 0 else v } }
  | 0xC0020 =>
    if s.img.liveState = 1 ∨ s.img.liveState = 2 then s
    else { s with img := { s.img with liveSlot := w.field 16 1 s.img.liveSlot, liveOp := w.field 8 3 s.img.liveOp } }
  | 0x10018 => { s with hlk := { s.hlk with offlIdx := min 256 (w.field 0 9 s.hlk.offlIdx) } }
  | 0x10030 =>
    { s with hlk := { s.hlk with
        mctpVendorEn := w.lockedBit s 2 s.hlk.mctpVendorEn
        aspmL1En := w.lockedBit s 1 s.hlk.aspmL1En
        devloadEn := w.lockedBit s 0 s.hlk.devloadEn } }
  | _ => s

/-- Fields of `WRP` and `SHD` that only store. The bounds of `PEAT_SHARE` and of `SHD_CFG` hold as those of `AGE_NS` do: the
nearest bound is stored. DESIGN CHOICE (log 40). -/
def storeWrite (w : RegWr) (a : Nat) (s : State) : State :=
  match a with
  | 0x20000 => { s with wrp := { s.wrp with regionIdx := w.field 0 8 s.wrp.regionIdx } }
  | 0x20030 =>
    if s.spn.mode = .dump then rejectInDump s
    else { s with wrp := { s.wrp with
        peatShare := w.locked s 16 8 5 50 s.wrp.peatShare
        ageNs := w.locked s 0 16 32 4096 s.wrp.ageNs } }
  | 0x20068 => { s with wrp := { s.wrp with shareRegion := w.field 0 8 s.wrp.shareRegion } }
  | 0x20070 => { s with wrp := { s.wrp with gswWindow := w.field 0 3 s.wrp.gswWindow } }
  | 0xD0040 =>
    if s.spn.mode = .dump then rejectInDump s
    else refreshGc { s with shd := { s.shd with
        gcShare := w.bounded 24 8 5 50 s.shd.gcShare
        gcLow := w.bounded 16 8 2 30 s.shd.gcLow
        rowCloseMs := w.bounded 0 10 1 1000 s.shd.rowCloseMs } }
  | _ => s

/-- Fields of `NRG` and `DMP` that only store. `I_SET` is clamped to 100 mA and `I_CHARGE_MAX` as R43 states. -/
def storeEnergy (w : RegWr) (a : Nat) (s : State) : State :=
  match a with
  | 0x30040 => { s with nrg := { s.nrg with bin := w.field 32 3 s.nrg.bin } }
  | 0x30048 => { s with nrg := { s.nrg with intervalD := w.field 4 12 s.nrg.intervalD } }
  | 0x30058 =>
    if w.hits 0 16 then
      let r := clampWrite 0x03 100 (param s 17) (w.field 0 16 s.nrg.iSet) s
      refreshCharge { r.2 with nrg := { r.2.nrg with iSet := r.1 } }
    else s
  | 0x30060 => { s with nrg := { s.nrg with paramIdx := w.field 0 8 s.nrg.paramIdx } }
  | 0xE0058 =>
    if s.spn.mode = .dump then rejectInDump s
    else if s.spn.mode = .test then { s with dmp := { s.dmp with testFloor := w.field 16 16 s.dmp.testFloor } }
    else s
  | _ => s

/-- Fields of `KOR`, `CWY` and `PWR` that only store. -/
def storeLinks (w : RegWr) (a : Nat) (s : State) : State :=
  match a with
  | 0x50038 =>
    if s.spn.mode = .dump then rejectInDump s
    else { s with kor := { s.kor with
        swapThresh := w.bounded 16 16 16 0xFFFF s.kor.swapThresh
        forceWaitS := w.bounded 0 10 1 600 s.kor.forceWaitS } }
  | 0x60018 =>
    { s with cwy := { s.cwy with
        eidBase := w.field 16 8 s.cwy.eidBase
        updParallel := w.bounded 8 5 1 16 s.cwy.updParallel
        rollEn := w.lockedBit s 1 s.cwy.rollEn
        remoteWrEn := w.lockedBit s 0 s.cwy.remoteWrEn } }
  | 0x60020 => { s with cwy := { s.cwy with winBase := w.field 14 10 s.cwy.winBase } }
  | 0x40008 =>
    if s.spn.mode = .dump then rejectInDump s
    else { s with pwr := { s.pwr with
        stallUs := w.locked s 48 16 50 2000 s.pwr.stallUs
        idleUs := w.locked s 32 16 100 60000 s.pwr.idleUs
        p1En := w.lockedBit s 0 s.pwr.p1En } }
  | 0x40038 =>
    if s.spn.mode = .dump then (if w.hits 16 16 ∧ !(w.one 0) then rejectInDump s else s)
    else { s with pwr := { s.pwr with wdtMs := w.locked s 16 16 0 0xFFFF s.pwr.wdtMs } }
  | _ => s

/-- Fields of `CIP`, `TSK`, `EVR`, `IFC` and `SIG` that only store. In DUMP the CIP takes none of these (R444, R647); the staging of an
extend and of a journal entry belongs to the management complex (R490, R542). -/
def storeUnits (w : RegWr) (a : Nat) (s : State) : State :=
  match a with
  | 0x70010 => if cipFrozen s then s else { s with cip := { s.cip with slotSel := w.field 0 9 s.cip.slotSel } }
  | 0x70020 => if cipFrozen s then s else { s with cip := { s.cip with cmdRoot := w.field 8 3 s.cip.cmdRoot } }
  | 0x70040 =>
    if cipFrozen s ∨ !(w.open_ s) ∨ !(w.hits 0 3) then s
    else
      let r := clampWrite 0x07 0 s.img.active.security.dummyMax (w.field 0 3 s.cip.dummy) s
      { r.2 with cip := { r.2.cip with dummy := r.1 } }
  | 0x80028 => { s with tsk := { s.tsk with saveRsv := w.locked s 0 5 0 (saveRsvMax s) s.tsk.saveRsv } }
  | 0x80040 => { s with tsk := { s.tsk with descSel := w.field 0 24 s.tsk.descSel } }
  | 0x90028 => { s with evr := { s.evr with foldMs := w.locked s 0 16 10 10000 s.evr.foldMs } }
  | 0xA0018 => { s with ifc := { s.ifc with
        ecntBank := w.field 10 1 s.ifc.ecntBank
        ecntSector := w.field 0 10 s.ifc.ecntSector } }
  | 0xA0038 =>
    if w.path ≠ .firmware then flashIgnored s
    else { s with ifc := { s.ifc with
        jAux := w.field 30 10 s.ifc.jAux
        jType := w.field 28 2 s.ifc.jType
        jBank := w.field 26 1 s.ifc.jBank
        jSector := w.field 16 10 s.ifc.jSector } }
  | 0xB0008 => { s with sig := { s.sig with sel := w.field 0 3 s.sig.sel } }
  | 0xB0078 => { s with sig := { s.sig with extReg := w.field 0 3 s.sig.extReg } }
  | _ =>
    match inRun a 0xB0048 6 with
    | some k =>
      if w.path = .firmware then
        { s with sig := { s.sig with extData := modNth s.sig.extData k (fun old => w.field 0 64 old) } }
      else s
    | none => s

/-- Fields of a QDC that only store (19). The bounds of `QDC_MARK_CFG` hold as those of `AGE_NS` do: the nearest bound is stored. DESIGN
CHOICE (log 40). -/
def storeQdc (w : RegWr) (q off : Nat) (s : State) : State :=
  match off with
  | 0x08 => modQdc q (fun d => { d with patrolH := w.locked s 0 8 1 168 d.patrolH }) s
  | 0x10 => modQdc q (fun d => { d with
      markCe := w.locked s 16 16 16 0xFFFF d.markCe
      markPersist := w.locked s 0 8 1 255 d.markPersist }) s
  | 0x18 => modQdc q (fun d => { d with setSlot := w.field 6 2 d.setSlot, setChip := w.field 0 4 d.setChip }) s
  | 0x20 => modQdc q (fun d => { d with chipSlot := w.field 4 2 d.chipSlot, chipSel := w.field 0 4 d.chipSel }) s
  | 0x48 => if s.spn.mode ≠ .test then s else modQdc q (fun d => { d with
      symB := w.field 20 4 d.symB
      symA := w.field 16 4 d.symA
      symbols := w.field 12 2 d.symbols
      target := w.field 8 4 d.target }) s
  | _ => s

/-- Fields of a VCH that only store (10). -/
def storeVch (w : RegWr) (c off : Nat) (s : State) : State :=
  match off with
  | 0x08 => modVch c (fun v => { v with dieSel := w.field 0 3 v.dieSel }) s
  | 0x38 => modVch c (fun v => { v with retryLevels := w.locked s 0 4 0 8 v.retryLevels }) s
  | _ => s

/-- The quadrant, unit and offset of an address in the quadrants' range (R638). -/
def quadAddr (a : Nat) : Nat × Nat × Nat := ((a - 0x100000) / 0x40000, (a % 0x40000) / 0x4000, a % 0x4000)

/-- A write to the register at an 8-byte aligned BAR0 address: its storing fields. Reserved fields, read-only fields and addresses
that name no register take nothing (R11, R12, R639). -/
def regStore (w : RegWr) (a : Nat) (s : State) : State :=
  let s := if 0x30000 ≤ a ∧ a < 0x40000 then gaugeWake s else s
  if a < 0x100000 then
    storeFront w a (storeWrite w a (storeEnergy w a (storeLinks w a (storeUnits w a s))))
  else if a < 0x200000 then
    let (q, u, off) := quadAddr a
    if !s.spn.quadEn.testBit q then s
    else if u = 0 then storeQdc w q off s
    else if 4 ≤ u ∧ u < 8 then storeVch w (4 * q + (u - 4)) off s
    else s
  else s

/-- The RWL bits of the register at a BAR0 address (R82): those a PRESETS entry writes. -/
def rwlMask (a : Nat) : Nat :=
  if a < 0x100000 then
    match a with
    | 0x10030 => 0x7
    | 0x20030 => 0xFFFFFF
    | 0x40008 => 0xFFFFFFFF00000001
    | 0x40038 => 0xFFFF0000
    | 0x60018 => 0x3
    | 0x70040 => 0x7
    | 0x80028 => 0x1F
    | 0x90028 => 0xFFFF
    | _ => 0
  else
    let (_, u, off) := quadAddr a
    if u = 0 then (if off = 0x08 then 0xFF else if off = 0x10 then 0xFFFF00FF else 0)
    else if 4 ≤ u ∧ u < 8 then (if off = 0x38 then 0xF else 0)
    else 0

/-- The bits of a 64-bit register that an access of a width reaches at an offset in it (R641). -/
def reached64 (addr width : Nat) : Nat :=
  if width = 8 then 2 ^ 64 - 1 else if addr % 8 = 4 then (2 ^ 32 - 1) * 2 ^ 32 else 2 ^ 32 - 1

/-- A value of a width written at an address, as the write of the register it lies in. -/
def wrOf (path : Path) (addr width value : Nat) : RegWr :=
  ⟨path, reached64 addr width, if width = 8 then value % 2 ^ 64 else value % 2 ^ 32 * (if addr % 8 = 4 then 2 ^ 32 else 1)⟩

/-- An access is aligned to its width of 4 or 8 bytes (R643). -/
def accessOk (addr width : Nat) : Bool := (width = 4 || width = 8) && addr % width = 0

/-- A read-clearing field read under a mask of bits: kept outside the mask, else 0. -/
def rc (m lo n v : Nat) : Nat := if bitsOf m lo n = 0 then v else 0

/-- The RC fields of the spine's blocks cleared by a read of some bits. -/
def clearSpine (m a : Nat) (s : State) : State :=
  match a with
  | 0x00028 => { s with spn := { s.spn with
      roleChanges := rc m 32 16 s.spn.roleChanges
      unresolved := rc m 16 16 s.spn.unresolved
      staleBounces := rc m 0 16 s.spn.staleBounces } }
  | 0x10010 => { s with hlk := { s.hlk with holdCause := rc m 32 2 s.hlk.holdCause, holdUs := rc m 0 32 s.hlk.holdUs } }
  | 0x10028 => { s with hlk := { s.hlk with
      decoderRefused := rc m 48 16 s.hlk.decoderRefused
      poisonSent := rc m 32 16 s.hlk.poisonSent
      ecrc := rc m 16 16 s.hlk.ecrc
      lcrc := rc m 0 16 s.hlk.lcrc } }
  | 0x20028 => { s with wrp := { s.wrp with
      vaultedUs := rc m 32 32 s.wrp.vaultedUs
      mirroredNs := rc m 16 16 s.wrp.mirroredNs
      localNs := rc m 0 16 s.wrp.localNs } }
  | 0x20078 => { s with wrp := { s.wrp with
      shareHolds := rc m 32 32 s.wrp.shareHolds
      budgetHolds := rc m 0 32 s.wrp.budgetHolds } }
  | 0x30078 => { s with nrg := { s.nrg with misses := rc m 8 8 s.nrg.misses } }
  | 0xD0038 => { s with shd := { s.shd with padPages := rc m 32 32 s.shd.padPages } }
  | 0xE0120 => { s with dmp := { s.dmp with fetchMaxUs := rc m 0 32 s.dmp.fetchMaxUs } }
  | 0x50030 => { s with kor := { s.kor with
      replays := rc m 48 16 s.kor.replays
      fecUncorr := rc m 32 16 s.kor.fecUncorr
      crc := rc m 16 16 s.kor.crc
      fecSym := rc m 0 16 s.kor.fecSym } }
  | 0x50040 => { s with kor := { s.kor with rttMax := rc m 32 32 s.kor.rttMax } }
  | 0x60028 => { s with cwy := { s.cwy with
      noAnswer := rc m 48 16 s.cwy.noAnswer
      alive := rc m 32 16 s.cwy.alive
      dead := rc m 16 16 s.cwy.dead
      queries := rc m 0 16 s.cwy.queries } }
  | 0x60030 => { s with cwy := { s.cwy with
      relocks := rc m 48 16 s.cwy.relocks
      winAbort := rc m 32 16 s.cwy.winAbort
      hopsExpired := rc m 16 16 s.cwy.hopsExpired
      crcErr := rc m 0 16 s.cwy.crcErr } }
  | 0x70008 => { s with cip := { s.cip with refused := rc m 16 8 s.cip.refused } }
  | 0x70048 => { s with cip := { s.cip with
      tagFails := rc m 48 16 s.cip.tagFails
      keyRefused := rc m 32 16 s.cip.keyRefused
      guardWaits := rc m 16 16 s.cip.guardWaits
      coreFaults := rc m 0 16 s.cip.coreFaults } }
  | 0x80038 => { s with tsk := { s.tsk with
      badPointer := rc m 48 16 s.tsk.badPointer
      countZero := rc m 32 16 s.tsk.countZero
      nonHolder := rc m 16 16 s.tsk.nonHolder
      badShare := rc m 0 16 s.tsk.badShare } }
  | 0xA0028 => { s with ifc := { s.ifc with slowErases := rc m 0 16 s.ifc.slowErases } }
  | 0xA0030 => { s with ifc := { s.ifc with
      uncorr := rc m 48 16 s.ifc.uncorr
      corrected := rc m 32 16 s.ifc.corrected
      refused := rc m 16 16 s.ifc.refused
      seqErrs := rc m 0 16 s.ifc.seqErrs } }
  | 0x90020 => { s with evr := { s.evr with
      dropped := rc m 48 16 s.evr.dropped
      writeFails := rc m 32 16 s.evr.writeFails
      foldEvict := rc m 16 16 s.evr.foldEvict
      snapSkipped := rc m 0 16 s.evr.snapSkipped } }
  | 0xB0000 => { s with sig := { s.sig with extRefused := rc m 8 8 s.sig.extRefused } }
  | 0xB0098 => { s with sig := { s.sig with
      errors := rc m 48 16 s.sig.errors
      signed := rc m 32 16 s.sig.signed
      mctpReq := rc m 16 16 s.sig.mctpReq
      doeReq := rc m 0 16 s.sig.doeReq } }
  | 0x40018 => { s with pwr := { s.pwr with
      replayed := rc m 48 16 s.pwr.replayed
      stallMaxUs := rc m 16 16 s.pwr.stallMaxUs
      wakes := rc m 0 16 s.pwr.wakes } }
  | 0x40030 => { s with pwr := { s.pwr with
      odFilter := { s.pwr.odFilter with pulses := rc m 48 16 s.pwr.odFilter.pulses }
      storeFilter := { s.pwr.storeFilter with pulses := rc m 32 16 s.pwr.storeFilter.pulses }
      tamperFilter := { s.pwr.tamperFilter with pulses := rc m 16 16 s.pwr.tamperFilter.pulses }
      warnFilter := { s.pwr.warnFilter with pulses := rc m 0 16 s.pwr.warnFilter.pulses } } }
  | _ =>
    match inRun a 0x80008 4 with
    | some i => { s with tsk := { s.tsk with
        emptyCnt := modNth s.tsk.emptyCnt i (rc m 48 16)
        spills := modNth s.tsk.spills i (rc m 32 16) } }
    | none => s

/-- The RC fields of the quadrants' units cleared by a read of some bits. -/
def clearQuad (m a : Nat) (s : State) : State :=
  let (q, u, off) := quadAddr a
  if !s.spn.quadEn.testBit q then s
  else if u = 0 then
    match off with
    | 0x28 => modQdc q (fun d => { d with ueLines := rc m 32 32 d.ueLines }) s
    | 0x30 => modQdc q (fun d => { d with ceHost := rc m 32 32 d.ceHost, cePatrol := rc m 0 32 d.cePatrol }) s
    | 0x38 => modQdc q (fun d => { d with sramUe := rc m 48 16 d.sramUe, sramCe := rc m 0 32 d.sramCe }) s
    | 0x40 => modQdc q (fun d => { d with
        fromPartner := rc m 48 16 d.fromPartner
        fromVault := rc m 32 16 d.fromVault
        unrepaired := rc m 16 16 d.unrepaired }) s
    | _ => s
  else if 4 ≤ u ∧ u < 8 then
    match off with
    | 0x18 => modVch (4 * q + (u - 4)) (fun v => { v with
        maxLoad := rc m 48 16 v.maxLoad
        hardFails := rc m 32 16 v.hardFails
        corrected := rc m 0 32 v.corrected }) s
    | 0x20 => modVch (4 * q + (u - 4)) (fun v => { v with
        progFail := rc m 48 16 v.progFail
        eraseFail := rc m 32 16 v.eraseFail
        timeouts := rc m 16 16 v.timeouts
        rebuilds := rc m 0 16 v.rebuilds }) s
    | _ => s
  else s

/-- What a read of some bits of the register at an address does to it: RC fields clear; a read of `EVR_STATUS` by the management
controller clears `ALERT` (R532); an access to the NRG block wakes the gauge (R237). -/
def readClear (p : Path) (m a : Nat) (s : State) : State :=
  let s := if 0x30000 ≤ a ∧ a < 0x40000 then gaugeWake s else s
  if a < 0x100000 then
    let s := clearSpine m a s
    if a = 0x90000 ∧ p = .smbus then { s with evr := { s.evr with alert := false } } else s
  else if a < 0x200000 then clearQuad m a s
  else s

/-- A read of a register or of the granule-state window below the array window (R641, R642): the value and the state after it. A
32-bit read at +0 takes the whole register and latches its upper half for the path's next access; in the granule-state window each
read is a snapshot of its own (R202). -/
def regRead (p : Path) (addr width : Nat) (s : State) : Nat × State :=
  let a := addr / 8 * 8
  let held := s.spn.halves.find? (fun h => h.1 = (p, a))
  let s1 := dropHalf p s
  let v := regValue p a s
  if width = 8 then (v, readClear p (2 ^ 64 - 1) a s1)
  else if 0x200000 ≤ a ∧ a < 0x300000 then (if addr % 8 = 0 then v % 2 ^ 32 else v / 2 ^ 32, s1)
  else if addr % 8 = 0 then
    let s2 := readClear p (2 ^ 64 - 1) a s1
    (v % 2 ^ 32, { s2 with spn := { s2.spn with halves := s2.spn.halves ++ [((p, a), v / 2 ^ 32)] } })
  else match held with
    | some h => (h.2, s1)
    | none => (v / 2 ^ 32, readClear p ((2 ^ 32 - 1) * 2 ^ 32) a s1)

end Sys2Proof.Machine
end

