-- ==== Sys2Proof/Machine/Tap.lean ====
section
/-!
DEFINITION. The test access port (20): its reset, IDCODE, and which instruction takes effect (R615). No command of the table shifts the
port; what it offers is a function of State.
-/

namespace Sys2Proof.Machine

/-- The instructions of the port as R615 tells them apart. -/
inductive TapInstr where
  | idcode
  | bypass
  /-- Any other instruction of IEEE 1149.1 or 1149.6. -/
  | other
  deriving DecidableEq, Repr

/-- IDCODE of IEEE 1149.1: version, the major nibble of `STEPPING`; part number 0x7460; the fused manufacturer code; and a 1. -/
def tapIdcode (s : State) : Nat :=
  s.spn.stepping / 16 % 16 * 2 ^ 28 + 0x7460 * 2 ^ 12 + Config.jedecCode % 2 ^ 11 * 2 + 1

/-- JTAG is permitted by the image and the fuses (R80, R512). -/
def jtagPermitted (s : State) : Bool := (secFlags s).testBit 1

/-- The instruction that acts when one is selected: none while the port is held in reset; every instruction but IDCODE and BYPASS only
with JTAG permitted in TEST, else BYPASS. -/
def tapSelects (s : State) (i : TapInstr) : Option TapInstr :=
  if s.pwr.tapHeld then none
  else some (match i with
    | .other => if jtagPermitted s && decide (s.spn.mode = .test) then .other else .bypass
    | i => i)

/-- Step 3 of the boot releases the port. -/
def releaseTap (s : State) : State := { s with pwr := { s.pwr with tapHeld := false } }

end Sys2Proof.Machine
end

