-- ==== Sys2Proof/Machine/BootOps.lean ====
section
/-!
DEFINITION. Resets of the core domains (R583), the boot stages (R535 to R541), the choice of loader, firmware and image, and steps 1 to
4 of R85.
-/

namespace Sys2Proof.Machine

/-! ## Resets -/

/-- A dump that power cuts leaves on the media what had passed: the pages of running programs are not there. -/
def cutDump (s : State) : State :=
  if s.spn.mode = .dump ∧ !(s.vlt.dumps.any (fun d => d.seq = s.dmp.seq)) then
    let run := (quadList s).flatMap (fun q => (dumpQuad s q).running.map Prod.snd)
    recordDump { s with vlt := { s.vlt with pages := s.vlt.pages.filter (fun e => !(run.contains e.1))
                                            other := s.vlt.other.filter (fun e =>
                                              !(run.contains e.1) && !(s.dmp.parity.any (fun x => x.1 = e.1))) } }
  else s

/-- Power leaves the core domains, or they are reset. -/
def powerGone (s : State) : State := coreLost (cutDump s)

/-- A STRUCTURAL reset (R583): every domain but the always-on one is reset, and the device enters BOOT. -/
def structReset (s : State) : State := structLost (cutDump s)

/-- The areas of AOS that hold an uncorrectable word are treated as empty (R26), by their order in R25: 1 wake latches, 2 pending
values, 3 Sedge records, 4 the dump record, 5 firmware scratch. Event 0x1003 names each. -/
def dropArea (s : State) (a : Nat) : State :=
  let a1 := s.aos
  let s1 :=
    if a = 1 then { s with aos := { a1 with wake := [], latched := [] } }
    else if a = 2 then { s with aos := { a1 with gauge := none, marks := [], armPending := false, pair := none, opSec := 0, countersLost := true
                                                 overflow := 0, retired := 0, shutdownState := 0 } }
    else if a = 3 then { s with aos := { a1 with records := [] } }
    else if a = 4 then { s with dmp := {} }
    else if a = 5 then { s with aos := { a1 with scratch := {} } }
    else s
  raise 0x1003 0x04 [(1, a)] s1

/-- AOS as the power manager leaves it (R26): cleared with event 0x1002 where its header is bad, and its header written again. -/
def checkAos (headerOk : Bool) (badAreas : List Nat) (s : State) : State :=
  if headerOk then
    let s1 := { s with aos := { s.aos with
      valid := true, seq := wrapAdd 32 s.aos.seq 1, powerCycles := wrapAdd 32 s.aos.powerCycles 1 } }
    (badAreas.filter (fun a => 1 ≤ a && a ≤ 5)).foldl dropArea s1
  else raise 0x1002 0x04 [] { s with aos := { valid := true, cyclesLost := true, countersLost := true }, dmp := {} }

/-- The COLD sequence (R583): AOS checked, the filters and straps as at power-on, CORE_EN driven (R617). -/
def coldStart (headerOk : Bool) (badAreas : List Nat) (s : State) : State :=
  let s0 := powerGone s
  let s1 := { s0 with spn := { s0.spn with clockDegraded := false } }
  let s2 := checkAos headerOk badAreas { s1 with
    pwr := { s1.pwr with aonUp := true, coreEn := true, railTries := 1, rtcDegraded := false, rtcDue := false, on := 1
                         structCnt := 0, warmCnt := 0, fwCnt := 0, warnFilter := {}
                         tamperFilter := {}, storeFilter := { st := .asserted }, odFilter := {} } }
  noteReset 1 { s2 with wrp := { s2.wrp with zeroCause := setBit s2.wrp.zeroCause 4 } }

/-! ## Recovery (R49, R539, R540) -/

/-- The rate code of a vault PLL rate (`RATE` of `VCH_STATUS`). -/
def rateCode (mt : Nat) : Nat := if mt = 1600 then 0 else if mt = 2000 then 1 else 2

/-- A key slot erased and OFF. -/
def slotErased_ (k : KSlot) : KSlot :=
  { k with st := .off, reArm := false, key := [], stage := none, binding := none }

/-- Every unit's role entry as R27 gives it, with the quadrant units OFF: each that differs changes role (R28, R32). -/
def rolesOff (s : State) : State :=
  (roleTable 15).zipIdx.foldl (fun t (e : RoleEntry × Nat) =>
    changeRole e.2 e.1.func e.1.cover (if e.2 < 16 then .active else .off) t) s

/-- The PFAIL_WARN_N filter under new pins (R586, R587): IDLE where the pin is not used, and in QUALIFY where it is and its input is
asserted. -/
def warnPin (s : State) : State :=
  let f := s.pwr.warnFilter
  let used := s.img.active.pins.pinFlags.testBit 2
  let st := if !used then .idle else if f.st = .idle ∧ f.seen ∧ !f.level then .qualify else f.st
  { s with pwr := { s.pwr with warnFilter := { f with st := st } } }

/-- What takes every record back (R84, R49): DRAM off, the role table of R27 with every quadrant unit OFF, the settings of CLOCKS, PINS,
SECURITY, ENERGY, LIFE, POOLS and EVENTS at their defaults, every key slot erased, Korric stopped, and no region. -/
def unapply (s : State) : State :=
  let s1 := rolesOff (domainsDown (memDomains s) (korOff s))
  let s2 := { s1 with
    pwr := { s1.pwr with memEn := false }
    qdc := s1.qdc.map (fun d => { d with state := 0 })
    hlk := { s1.hlk with sris := false }
    vch := s1.vch.map (fun c => { c with rate := rateCode 2400 })
    spn := { s1.spn with quadEn := 0, dramGib := 0, diesPerCh := 0 }
    cip := { s1.cip with slots := s1.cip.slots.map slotErased_, cores := List.replicate 8 none, queue := [] }
    nrg := { s1.nrg with params := energyDefaults, energyApplied := false, cells := 0 }
    shd := { s1.shd with life := lifeDefaults }
    tsk := {}
    kor := { s1.kor with state := .unpaired, trainingOn := false }
    cwy := { s1.cwy with myId := s1.cwy.strapId, headCapable := s1.cwy.strapHeadcap, idFromImage := false }
    wrp := { s1.wrp with regions := List.replicate 256 {} }
    vlt := { s1.vlt with mapValid := false }
    img := { s1.img with active := {}, liveImage := none, imageValid := false, structApplied := false } }
  warnPin (refreshCdat (refreshCharge (tskCarve (carvingFrom defaultPools) s2)))

/-- A stage measures a component (R536, R541): event 0x0F02. -/
def measure (i : Nat) (v : List Nat) (s : State) : State :=
  raise 0x0F02 0x0B [(1, i), (8, leValue (v.take 8))] (noteDigest i v (extendSignet i v s))

/-- BOOT ends in a mode (R535, R541, R555, R107): the loader measures the boot configuration record into S5 and firmware runs; under the
recovery service no stage follows. The terminations are detectable. -/
def bootEnds (m : Mode) (s : State) : State :=
  let s0 := { s with hlk := { s.hlk with presented := true }, img := { s.img with bootStep := 16 } }
  if s.spn.mode ≠ .boot then s0
  else
    let s1 := { s0 with
      sig := { s.sig with bootMode := modeCode m, bootSec := secFlags s, bootKeyModes := s.img.active.security.keyModes
                          bootImage := if s.img.imageValid then s.img.activeSlot else 0xFF } }
    if s1.sig.stage = 1 ∧ !s1.sig.recoverySvc then
      let t := measure 5 (sha384 (fieldBytes (bootConfig s1))) s1
      { t with sig := { t.sig with stage := 2 } }
    else s1

/-- The device enters RECOVERY with an event: no record of an image stays applied (R49, R83), and CXL.io alone is presented. Where a
firmware was chosen the management complex runs it (R535, R539). Every index begins a new episode of R122. -/
def toRecovery (event : Nat) (s : State) : State :=
  let s1 := if s.img.active.structureRec.isSome then unapply s else s
  setMode .recovery event (bootEnds .recovery { s1 with hlk := { s1.hlk with warned := [] } })

/-- A stage that finds no component serves the recovery service itself (R539). -/
def recoveryService (s : State) : State :=
  toRecovery 0x0F01 (raise 0x0F0A 0x0B [] { s with sig := { s.sig with recoverySvc := true } })

/-- A refused component or image slot (R538, R539): event 0x0F01. -/
def refuseSlot (stage slot : Nat) (c : SlotCheck) (s : State) : State :=
  if c.cause = 0 then s else raise 0x0F01 0x0B [(1, stage), (1, slot), (1, c.cause)] s

/-! ## The boot ROM's stage -/

/-- The public Bog-oak state that S1 measures (R541). -/
def bogPublic (s : State) : List Nat :=
  (([0, 1] ++ (List.range 6).map (· + 6)).map (bogRaw s) ++ [12, 15, 18, 21, 24].map (thermWord s)
    ++ [s.ifc.bogLocks % 2 ^ 64, s.ifc.bogLocks / 2 ^ 64 % 2 ^ 64]).flatMap (leBytes 8)

/-- The log starts once in a power-on, after the journal replay (R505, R526). -/
def logStart (s : State) : State :=
  if s.evr.goodSectors = 0 ∧ !s.evr.memOnly then evrStart s else s

/-- The boot ROM (R535): measures itself and the Bog-oak row, chooses and measures the loader, and seals DeviceID. -/
def romStage (certOk : Bool) (s : State) : State :=
  let s1 := measure 1 (sha384 (bogPublic s)) (measure 0 (leBytes 48 (Config.romDigest s.spn.stepping)) s)
  let a := checkCode .loader 0 s1
  let b := checkCode .loader 1 s1
  let s2 := refuseSlot 0 1 b (refuseSlot 0 0 a s1)
  match chooseSlot a b with
  | none => recoveryService (logStart s2)
  | some k =>
    let c := if k = 0 then a else b
    let s3 := sealDevId certOk (measure 2 (sha384 c.bytes) { s2 with
      sig := { s2.sig with loaderSlot := k, ldrVersion := c.version, ldrArb := c.arb } })
    { s3 with sig := { s3.sig with stage := 1 } }

/-! ## The loader's choice -/

/-- The state of an image slot as its register shows it (R47): 1 VALID, 2 REFUSED, 3 EMPTY. -/
def slotRegOf (c : SlotCheck) : SlotReg :=
  ⟨if c.cause = 0 then 1 else if c.cause = 0x17 then 3 else 2, c.cause, c.arb, c.version⟩

/-- Event 0x0102 for a refused slot. -/
def noteSlot (slot : Nat) (c : SlotCheck) (s : State) : State :=
  if (slotRegOf c).state = 2 then raise 0x0102 0x0C [(1, slot), (1, c.cause)] s else s

/-- The firmware choice (R538): none leaves the loader serving the recovery service. -/
def chooseFirmware (s : State) : Option State :=
  let a := checkCode .firmware 0 s
  let b := checkCode .firmware 1 s
  let s1 := refuseSlot 1 1 b (refuseSlot 1 0 a s)
  match chooseSlot a b with
  | none => none
  | some k =>
    let c := if k = 0 then a else b
    some (raise 0x0F03 0x0B [(1, s1.sig.loaderSlot), (1, k)] (measure 3 (sha384 c.bytes) { s1 with
      sig := { s1.sig with fwSlot := k, fwVersion := c.version, fwArb := c.arb } }))

/-- The selected image fails its record checks (R48, R103): its slot is REFUSED with the cause, event 0x0102. -/
def slotFails (slot : Nat) (c : SlotCheck) (s : State) : State :=
  noteSlot slot c { s with img := { s.img with
    slotA := if slot = 0 then slotRegOf c else s.img.slotA, slotB := if slot = 1 then slotRegOf c else s.img.slotB } }

/-- An image is refused: nothing is applied and the device enters RECOVERY (R48, R83). -/
def refuseImage (slot cause index : Nat) (s : State) : State :=
  toRecovery 0x0F01 (raise 0x0F01 0x0B [(1, 1), (1, slot), (1, cause)]
    { s with img := { s.img with cause := cause, causeSlot := slot, faultRecord := index } })

/-! ## Steps 1 to 4 of R85 -/

/-- The unspent state of an earlier boot of this power-on is gone: the cache, the regions and the vault's tables are built anew by this
boot (R584). -/
def bootClear (s : State) : State :=
  { s with
    gst := {}
    wrp := { s.wrp with regions := List.replicate 256 {}, unprotected := false, unprotNoted := [], shareHolds := 0
                        budgetHolds := 0 }
    shd := { s.shd with ring0 := [], ring1 := [], ring2 := [], ring3 := [], rows := [], twins := [], cmds := [] }
    dmp := { s.dmp with fetching := [], bulk := [], retry := none, merges := [], lineFix := [], rphase := 0 }
    hlk := { s.hlk with writes := [], reads := [], bg := none, cdatLatency := 350 }
    vlt := { s.vlt with map := [], pendLog := [], ckptRunning := none, mapValid := false, bootEntry := false, lostWait := [], relWait := []
                        highSeq := 0, reserve := [], relocate := [], erasing := [], rebuildSegs := [], compact := []
                        scrubbing := [] } }

/-- The reservation entries after a snapshot, applied in ascending sequence, without events (R458). -/
def loadEntry (s : State) (e : NonceRec) : State :=
  let s1 := if s.cip.entrySeq < e.seq then { s with cip := { s.cip with entrySeq := e.seq } } else s
  if e.type = 1 then modSlot e.slot (fun k => { k with mark := e.mark }) s1
  else if e.type = 2 then modSlot e.slot (fun k => { k with kcv := e.kcv, root := e.root }) s1
  else (List.range 256).foldl (fun t i => modSlot i (fun k => { k with mark := k.mark + 2 ^ 22 }) t) s1

/-- The valid entries of a half whose words are all correctable (R458). -/
def soundNonces (h : Nat) (s : State) : List NonceRec :=
  ((if h = 0 then s.ifc.nonce0 else s.ifc.nonce1).filter (fun e => slotSound ((721 + 8 * h) * 0x1000 + e.1 * 64) 8 s)).map Prod.snd

/-- The snapshot of a half, where its words are all correctable (R458). -/
def soundSnap (h : Nat) (s : State) : Option NonceSnap :=
  if slotSound ((720 + 8 * h) * 0x1000) 512 s then (if h = 0 then s.ifc.snap0 else s.ifc.snap1) else none

/-- The half in force: that of the valid snapshot with the higher sequence (R458). -/
def halfInForce (s : State) : Option (Nat × NonceSnap × List NonceRec) :=
  match soundSnap 0 s, soundSnap 1 s with
  | some a, some b => if b.seq ≤ a.seq then some (0, a, soundNonces 0 s) else some (1, b, soundNonces 1 s)
  | some a, none => some (0, a, soundNonces 0 s)
  | none, some b => some (1, b, soundNonces 1 s)
  | none, none => none

/-- The reservations of step 3 (R456, R458): each counter resumes at its mark, so that no slot has anything left. Without a snapshot
the nonce jump follows (R460). The flags of R452 are as U = 0 has them; loading them is no entry (log 46). -/
def nonceLoad (s : State) : State :=
  match halfInForce s with
  | some (h, snap, l) =>
    let s1 := (List.range 256).foldl (fun t i => modSlot i (fun k => { k with
      mark := tget 0 snap.marks i, kcv := tget 0 snap.kcvs i, root := tget 0 snap.roots i }) t)
      { s with cip := { s.cip with activeHalf := h, entrySeq := snap.seq, jumps := nonceJump s } }
    let s2 := ((l.filter (fun e => snap.seq < e.seq)).mergeSort (fun a b => a.seq ≤ b.seq)).foldl loadEntry s1
    (List.range 256).foldl (fun t i => modSlot i (fun k => { k with counter := k.mark, low := true, guard := true }) t) s2
  | none =>
    let s1 := (List.range 256).foldl (fun t i => modSlot i (fun k => { k with low := true, guard := true }) t) s
    if nonceJump s < 8 then ifcAsk ⟨.cip, 0, .thermJump, 0⟩ { s1 with cip := { s1.cip with jumps := nonceJump s } }
    else { s1 with cip := { s1.cip with exhausted := true, jumps := 8 } }

/-- Steps 1 to 4: clocks, pins, security with the reservations and the OTP root, and the structure (R85, R449, R458). The EVENTS record
acts at step 12. -/
def applyFront (img : ActiveImage) (slot arb : Nat) (vlh : Digest) (s : State) : State :=
  let st := img.structureRec.getD ⟨0, [], []⟩
  let s1 := bootClear s
  let s2 := { s1 with
    img := { s1.img with active := { img with events := [] }, liveImage := some img, activeSlot := slot, vlh := vlh
                         cause := 0, causeSlot := 0, faultRecord := 0xFFFF }
    sig := { s1.sig with imgArb := arb }
    hlk := { s1.hlk with sris := img.clocks.hostRef = 1 }
    spn := { s1.spn with quadEn := st.quadEn, roles := roleTable st.quadEn
                         dramGib := channelGib (img.memory.getD ⟨0, 0, 0, 0, []⟩)
                         diesPerCh := ((img.vault.map VaultRec.diesPerCh).getD 0) } }
  let s3 := { s2 with
    vch := s2.vch.zipIdx.map (fun (e : Vch × Nat) =>
      if populated s2 e.2 then { e.1 with column := st.vchMap.getD e.2 0x1F, rate := rateCode img.clocks.vaultRate,
                                          timing := ((img.vault.map VaultRec.onfiTiming).getD 0) }
      else { e.1 with column := 0x1F, state := 0 }) }
  let s4 := { s3 with vch := s3.vch.zipIdx.map (fun (e : Vch × Nat) => if populated s3 e.2 then { e.1 with partner := partnerCh s3 0 e.2 }
                                                        else e.1) }
  let s5 := { s4 with cip := { s4.cip with dummy := min s4.cip.dummy img.security.dummyMax } }
  domainsOn (coreDomains s5) (nonceLoad (loadOtpRoot (releaseTap (warnPin s5))))

/-- Step 5 begins: the enabled channels are powered and train; the ARM entry of R456 is asked for. -/
def startTraining (s : State) : State :=
  let s1 := domainsOn (memDomains s) { s with
    pwr := { s.pwr with memEn := true }
    qdc := s.qdc.zipIdx.map (fun (e : Qdc × Nat) => if s.spn.quadEn.testBit e.2 then { e.1 with state := 1 } else { e.1 with state := 0 })
    img := { s.img with bootStep := 5 } }
  askArm { s1 with aos := { s1.aos with armPending := false }, cip := { s1.cip with armed := false } }

/-- The loader (R535, R47, R48, R83): journal replay, the log, firmware and image, and steps 1 to 5. -/
def loaderStage (s : State) : State :=
  let s1 := logStart (journalReplay s)
  match chooseFirmware s1 with
  | none => recoveryService (refuseSlot 1 1 (checkCode .firmware 1 s1) (refuseSlot 1 0 (checkCode .firmware 0 s1) s1))
  | some s2 =>
    let a := checkSlot 0 s2
    let b := checkSlot 1 s2
    let force := s2.img.forceSlot
    let s3 := noteSlot 1 b (noteSlot 0 a { s2 with img := { s2.img with slotA := slotRegOf a, slotB := slotRegOf b, forceSlot := 0 } })
    let pick := if force = 1 then (if a.cause = 0 then some 0 else none)
      else if force = 2 then (if b.cause = 0 then some 1 else none) else chooseSlot a b
    match pick with
    | none =>
      let k := if force = 2 then 1 else 0
      refuseImage k (if k = 0 then a.cause else b.cause) 0xFFFF s3
    | some k =>
      let c := if k = 0 then a else b
      let (cause, index, rs) := checkRecords c.bytes
      if cause ≠ 0 then refuseImage k cause index (slotFails k { c with cause := cause } s3)
      else
        let s4 := (skippedTypes rs).foldl (fun t ty => raise 0x0105 0x0C [(1, ty)] t) (measure 4 (sha384 c.bytes) s3)
        startTraining (applyFront (imageOf c.bytes rs) k c.arb (BitVec.ofNat 384 (leAt c.bytes 16 48)) s4)

end Sys2Proof.Machine
end

