-- ==== Sys2Proof/Machine/MapOps.lean ====
section
/-!
DEFINITION. The merge of checkpoint, log and dumps into the vault map (R305 to R312, R358) and the scan without a checkpoint (R367),
as functions of the media.
-/

namespace Sys2Proof.Machine

/-- What a merge has made so far: the map, the granules made LOST with the cause of R309, list entries of undefined regions by quadrant,
whether a commit mark was missing, and whether an unprotected interval was found open. -/
structure Merge where
  map : List (Nat × MapEntry) := []
  lost : List (Nat × Nat) := []
  ignored : List (Nat × Nat) := []
  missing : Bool := false
  unprot : Bool := false
  deriving DecidableEq, Repr

/-- What could not be read: for dumps by sequence and quadrant, the commit body or every mark, and the list header; pages by address. -/
structure Unread where
  marks : List (Nat × Nat)
  headers : List (Nat × Nat)
  pages : List Nat
  deriving DecidableEq, Repr

/-- The page sequence of a map entry's copy. -/
def entrySeq (s : State) (e : MapEntry) : Nat := if e.ref = 0 then 0 else ((pageAt s e.vpa).map Page.seq).getD 0

/-- The map entry of a page. -/
def pageEntry (v : Nat) (p : Page) : MapEntry := ⟨if p.twin then 2 else 1, v, p.stale, p.poison ≠ [], false⟩

/-- A granule marked LOST by the merge. -/
def mergeLost (g cause : Nat) (m : Merge) : Merge :=
  { m with map := tput freshMap m.map g ⟨0, 0, false, false, true⟩
           lost := if cause = 0 then m.lost else m.lost.filter (fun e => e.1 ≠ g) ++ [(g, cause)] }

/-- A granule mapped to a copy. -/
def mergeCopy (g : Nat) (e : MapEntry) (m : Merge) : Merge :=
  { m with map := tput freshMap m.map g e, lost := m.lost.filter (fun x => x.1 ≠ g) }

/-- One log entry applied (R305, R356). -/
def mergeLog (e : LogWhat) (m : Merge) : Merge :=
  match e with
  | .program g v stale twin poison => mergeCopy g ⟨if twin then 2 else 1, v, stale, poison, false⟩ m
  | .release first count =>
    { m with map := m.map.filter (fun x => !(first ≤ x.1 && x.1 < first + count))
             lost := m.lost.filter (fun x => !(first ≤ x.1 && x.1 < first + count)) }
  | .lost g => mergeLost g 0 m
  | _ => m

/-- The manifest in force defines a region. -/
def manifestDefines (s : State) (r : Nat) : Bool :=
  match s.vlt.manifest with
  | some m => m.regions.any (fun e => e.1 = r)
  | none => false

/-- The data page a dump wrote of a granule: its address and whether its read passes (R307). -/
def dumpPageOf (s : State) (u : Unread) (seq g r : Nat) : Option (Nat × Page) :=
  s.vlt.pages.find? (fun e => e.2.dump && e.2.seq = seq && e.2.granule = g && e.2.region = r && !(u.pages.contains e.1))

/-- Where a region's entries begin in a list, by the counts of its header. -/
def runStart : List (Nat × Nat) → Nat → Nat
  | [], _ => 0
  | e :: l, r => if e.1 = r then 0 else e.2 + runStart l r

/-- The granules of a region in a quadrant strictly between two bounds. -/
def spanBetween (s : State) (q r lo hi : Nat) : List Nat :=
  ((List.range (hi - lo)).map (· + lo)).filter (fun g => inRegion s r g && quadOf s g = q)

/-- The granules that missing runs of a region's list entries cover (R308): between the last entry found before a run and the first one
found after it, or to the region's ends. `found` pairs places with granules in list order; `place` is the next place expected and `lo`
the granule after the last entry found. -/
def missingRuns (s : State) (q r hi : Nat) : List (Nat × Nat) → Nat → Nat → Nat → List Nat
  | [], place, stop, lo => if place < stop then spanBetween s q r lo hi else []
  | f :: l, place, stop, lo =>
    (if place < f.1 then spanBetween s q r lo f.2 else []) ++ missingRuns s q r hi l (f.1 + 1) stop (f.2 + 1)

/-- One region's part of a quadrant's list: entries the header counts and the vault lacks make their range LOST (R308). -/
def regionRuns (s : State) (d : QuadDump) (e : Nat × Nat) : List Nat :=
  let start := runStart d.counts e.1
  let found := (d.list.filter (fun x => x.2.region = e.1)).map (fun x => (x.1, x.2.granule))
  let first := firstGranule s e.1
  missingRuns s d.quad e.1 (first + granuleCount s e.1) found start (start + e.2) first

/-- The result of R307 for one listed entry. -/
def mergeListed (s : State) (u : Unread) (seq : Nat) (m : Merge) (e : ListEntry) : Merge :=
  if e.state = .lost then mergeLost e.granule 0 m
  else match dumpPageOf s u seq e.granule e.region with
    | some (v, p) => mergeCopy e.granule (pageEntry v p) m
    | none => mergeLost e.granule 1 m

/-- A quadrant of a dump without its marks (R307, R308). -/
def mergeCompare (s : State) (u : Unread) (seq : Nat) (d : QuadDump) (m : Merge) : Merge :=
  let m1 := { m with missing := true }
  if !d.header || u.headers.contains (seq, d.quad) then
    ((List.range 256).filter (fun r => defined s r && serves s r)).foldl (fun t r =>
      (spanBetween s d.quad r (firstGranule s r) (firstGranule s r + granuleCount s r)).foldl (fun t g => mergeLost g 3 t) t) m1
  else
    let known := d.list.filter (fun e => manifestDefines s e.2.region)
    let strange := d.list.length - known.length
      + ((d.counts.filter (fun e => !manifestDefines s e.1 && !(d.list.any (fun x => x.2.region = e.1)))).length)
    let m2 := known.foldl (fun t e => mergeListed s u seq t e.2) m1
    let m3 := ((d.counts.filter (fun e => manifestDefines s e.1)).flatMap (regionRuns s d)).foldl (fun t g => mergeLost g 2 t) m2
    if strange = 0 then m3 else { m3 with ignored := m3.ignored ++ [(d.quad, strange)] }

/-- One quadrant of a dump merged (R305, R306). -/
def mergeQuad (s : State) (u : Unread) (seq : Nat) (m : Merge) (d : QuadDump) : Merge :=
  match d.body.isSome && d.mark && !(u.marks.contains (seq, d.quad)), d.delta with
  | true, some l => l.foldl (fun t e => match e.2.1 with
    | some v => mergeCopy e.1 ⟨1, v, e.2.2, ((pageAt s v).map (fun p => !p.poison.isEmpty)).getD false, false⟩ t
    | none => mergeLost e.1 0 t) m
  | _, _ => mergeCompare s u seq d m

/-- The unprotected loss of an UNPROTECTED entry (R310): each listed or appended granule without a newer copy becomes LOST. -/
def mergeUnprot (s : State) (seq : Nat) (gs : List Nat) (m : Merge) : Merge :=
  gs.foldl (fun t g => if seq < entrySeq s (tget freshMap t.map g) then t else mergeLost g 5 t) { m with unprot := true }

/-- The log entries a merge replays: those of LOG pages, those still pending in the device, and TWIN pages written after the newest of
them, as PROGRAM entries (R358). -/
def replayLog (s : State) (above : Nat) : List LogEntry :=
  let l := (s.vlt.log ++ s.vlt.pendLog).filter (fun e => above < e.seq)
  let top := (l.map LogEntry.seq).foldl max above
  l ++ (s.vlt.pages.filter (fun e => e.2.twin && !e.2.dump && e.2.epoch = s.vlt.epoch && top < e.2.seq)).map (fun e =>
    ⟨e.2.seq, .program e.2.granule e.1 e.2.stale true (e.2.poison ≠ [])⟩)

/-- The UNPROTECTED entries that no PROTECTED entry and no dump follows, with the granules they and the APPEND entries after them name
(R305, R310). -/
def openIntervals (s : State) (l : List LogEntry) : List (Nat × List Nat) :=
  l.filterMap (fun e => match e.what with
    | .unprotectStart gs =>
      if l.any (fun x => e.seq < x.seq && (match x.what with | .protectEnd _ => true | _ => false))
          || s.vlt.dumps.any (fun d => e.seq < d.seq) then none
      else some (e.seq, gs ++ l.filterMap (fun x => match x.what with
        | .append g => if e.seq < x.seq then some g else none
        | _ => none))
    | _ => none)

/-- A log entry or a dump, in one order of sequence. -/
inductive MergeItem where
  | log (e : LogEntry)
  | dump (d : DumpRec)
  deriving DecidableEq, Repr

def MergeItem.seq : MergeItem → Nat
  | .log e => e.seq
  | .dump d => d.seq

/-- The merge of R305 over a map: log entries and dumps above a sequence, ascending, then the open unprotected intervals. -/
def mergeFrom (s : State) (u : Unread) (above : Nat) (start : List (Nat × MapEntry)) : Merge :=
  let l := replayLog s above
  let items := (l.map MergeItem.log ++ (s.vlt.dumps.filter (fun d => above < d.seq)).map MergeItem.dump).mergeSort
    (fun a b => a.seq ≤ b.seq)
  let m := items.foldl (fun t i => match i with
    | .log e => mergeLog e.what t
    | .dump d => d.quads.foldl (fun x q => mergeQuad s u d.seq x q) t) ({ map := start } : Merge)
  (openIntervals s l).foldl (fun t e => mergeUnprot s e.1 e.2 t) m

/-- The newest readable page of each granule in the current epoch (R367 step 1), and granules whose newest page is unreadable
(step 4). -/
def scanPages (s : State) (u : Unread) : Merge :=
  (s.vlt.pages.filter (fun e => e.2.epoch = s.vlt.epoch)).foldl (fun m e =>
    let old := tget freshMap m.map e.2.granule
    if (old.ref ≠ 0 ∧ e.2.seq < entrySeq s old) then m
    else if u.pages.contains e.1 then { m with map := tput freshMap m.map e.2.granule ⟨1, e.1, false, false, true⟩ }
    else mergeCopy e.2.granule (pageEntry e.1 e.2) m) {}

/-- What newer evidence of a sequence does to a granule in the scan: a copy written after it stands. -/
def scanKeep (s : State) (seq : Nat) (old new : Merge) : Merge :=
  { new with
    map := old.map.foldl (fun t e => if seq < entrySeq s e.2 then tput freshMap t e.1 e.2 else t) new.map
    lost := new.lost.filter (fun x => !(seq < entrySeq s (tget freshMap old.map x.1))) }

/-- The map rebuilt by the scan (R367): pages, then RELEASE, LOST and UNPROTECTED entries and dumps over copies that are not newer. -/
def mergeScan (s : State) (u : Unread) : Merge :=
  let m0 := scanPages s u
  let l := s.vlt.log ++ s.vlt.pendLog
  let items := ((l.filter (fun e => match e.what with
      | .release _ _ => true
      | .lost _ => true
      | _ => false)).map MergeItem.log ++ s.vlt.dumps.map MergeItem.dump).mergeSort (fun a b => a.seq ≤ b.seq)
  let m1 := items.foldl (fun t i => scanKeep s i.seq t (match i with
    | .log e => mergeLog e.what t
    | .dump d => d.quads.foldl (fun x q => mergeQuad s u d.seq x q) t)) m0
  let m2 := (openIntervals s l).foldl (fun t e => mergeUnprot s e.1 e.2 t) m1
  { m2 with map := m2.map.map (fun e => if e.2.lost then (e.1, ⟨0, 0, false, false, true⟩) else e) }

/-- The map as the media gives it when everything can be read. -/
def mediaMap (s : State) : List (Nat × MapEntry) :=
  match s.vlt.ckpt with
  | some c => (mergeFrom s ⟨[], [], []⟩ c.seq c.map).map
  | none => (mergeScan s ⟨[], [], []⟩).map

end Sys2Proof.Machine
end

