-- ==== Sys2Proof/Machine/Boot.lean ====
section
/-!
DEFINITION. The commands of power-up and boot (R580, R583, R614, R617; R85 to R91): rails, straps, image, DRAM training, vault
initialization, and steps 7 to 14.
-/

namespace Sys2Proof.Machine

/-! ## Power-up -/

/-- `POWER_ON` (R583, R26, R617): VDD_AON rises from absent. Memory that had no supply holds no valid header, so AOS is cleared. -/
def execPowerOn (s : State) : Result := .next (if s.pwr.aonUp then s else coldStart false [] s)

/-- `INPUT_RETURN` (R618): the input rises through `V_RECOVER` after a power-down, and the COLD sequence runs. `headerOk` and `badAreas`
are what the check of AOS finds (R26). -/
def execInputReturn (headerOk : Bool) (badAreas : List Nat) (s : State) : Result :=
  .next (if s.pwr.aonUp && s.pwr.poweredDown then coldStart (headerOk && s.aos.valid) badAreas s else s)

/-- `VDD_AON_LOST` (R583, R25): nothing of the device stays powered; always-on memory is lost. -/
def execVddAonLost (s : State) : Result :=
  .next (if !s.pwr.aonUp then s
    else
      let t := powerGone s
      { t with aos := {}, dmp := {}, sig := {}, pwr := { on := 0 }, img := {}, cwy := {}
               hlk := { vendorId := t.hlk.vendorId } })

/-- `CORE_PG_RISE` (R617): the core rails are good. A rail that had left its range makes it a STRUCTURAL reset. -/
def execCorePgRise (s : State) : Result :=
  .next (if !s.pwr.coreEn || s.pwr.corePg then s
    else if s.pwr.railReset then structReset s
    else coreStart s)

/-- `CORE_PG_TIMEOUT` (R580): CORE_EN falls; the third failure asserts FAULT_N and the core stays off. -/
def execCorePgTimeout (s : State) : Result :=
  .next (if !s.pwr.coreEn || s.pwr.corePg || s.pwr.railReset then s
    else
      let n := s.pwr.railTries
      raise 0x100B 0x04 [(1, n)]
        { s with pwr := { s.pwr with coreEn := false, retryWait := decide (n < 3)
                                     faultN := s.pwr.faultN || decide (3 ≤ n) } })

/-- `CORE_EN_RETRY` (R580): the 20 ms are over, and the next attempt starts. -/
def execCoreEnRetry (s : State) : Result :=
  .next (if s.pwr.retryWait then
      { s with pwr := { s.pwr with coreEn := true, retryWait := false, railTries := s.pwr.railTries + 1 } } else s)

/-- `STRAP_SAMPLE` (R614): the straps as they are 100 µs after CORE_PG rises. -/
def execStrapSample (id : Nat) (headcap test : Bool) (s : State) : Result :=
  .next (if !s.pwr.corePg || s.pwr.strapped then s
    else { s with pwr := { s.pwr with strapped := true, testStrap := test }
                  cwy := { s.cwy with strapId := id % 64, strapHeadcap := headcap, myId := id % 64, headCapable := headcap } })

/-- `CLOCK_DEGRADED` (R37): 5 ms after a cold start the crystal is not ready; the core PLL stays on its fallback until the next
power-on. -/
def execClockDegraded (s : State) : Result :=
  .next (if !s.pwr.corePg || s.spn.clockDegraded || s.pwr.lastKind ≠ 1 || s.spn.mode ≠ .boot || s.img.bootStep ≠ 0 then s
    else raise 0x1001 0x04 [] { s with spn := { s.spn with clockDegraded := true } })

/-- `RTC_DEGRADED` (R581): the event is logged once the core runs. -/
def execRtcDegraded (s : State) : Result :=
  .next (if !s.pwr.aonUp || s.pwr.rtcDegraded then s
    else noteRtc { s with pwr := { s.pwr with rtcDegraded := true, rtcDue := true } })

/-! ## The image -/

/-- `IMAGE_APPLY` (R535, R47, R83, R85): the boot ROM and the loader run up to the start of DRAM training. The operand says whether
the certificate sector is valid (R549). -/
def execImageApply (certOk : Bool) (s : State) : Result :=
  .next (if s.spn.mode ≠ .boot ∨ !s.pwr.corePg ∨ s.img.bootStep ≠ 0 then s
    else
      let s1 := if s.sig.stage = 0 then romStage certOk s else s
      if s1.spn.mode = .boot ∧ s1.sig.stage = 1 ∧ (openStarts s1 = [] ∨ s1.nrg.quagOk) then loaderStage s1
      else s1)

/-! ## A refusal at step 6 or 13 (R84) -/

/-- A refusal at step 6 or 13 (R84): every record is withdrawn, and the refusal recorded with the index of the record of type `ty`, 3
VAULT or 4 REGIONS: the records stand in ascending type, so those of a lower type stand before it. -/
def withdraw (event cause ty : Nat) (detail : Fields) (s : State) : State :=
  let index := (s.img.active.records.filter (fun r => r.type < ty)).length
  let s1 := unapply (raise event 0x0C detail s)
  toRecovery event { s1 with img := { s1.img with
    locked := false, cause := cause, causeSlot := s1.img.activeSlot, faultRecord := index } }

/-! ## Steps 5 and 6 -/

/-- Every channel that trains takes its result (R85, R87): ACTIVE, or the quadrant is fenced with cause 0. -/
def channelsTrained (okMask : Nat) (s : State) : State :=
  ((List.range 4).filter (fun q => (qdcOf s q).state = 1)).foldl (fun t q =>
    if okMask.testBit q then modQdc q (fun d => { d with state := 2 }) t else fenceQuad q 0 t) s

/-- `DRAM_TRAINING_DONE` (R85, R87, R401): bit q of `okMask` says that channel q trained. DRAM is initialized and MEPOCH drawn; step 6
begins at boot, and after UNPARK the map load. -/
def execDramTrainingDone (okMask : Nat) (s : State) : Result :=
  .next (
    let boot := decide (s.spn.mode = .boot ∧ s.img.bootStep = 5)
    let unpark := decide (s.spn.mode = .parked) && bgRuns s 0xC005 && s.qdc.any (fun d => d.state = 1)
    if !boot && !unpark then s
    else
      let s1 := channelsTrained okMask s
      let s2 := useFree { s1 with
        gst := { s1.gst with dram := [], poison := [], deliberate := [] }
        kor := { s1.kor with mepoch := Config.random s1.free % 2 ^ 32 }
        pwr := { s1.pwr with vltEn := !s1.pwr.vaultOff } }
      if boot then
        domainsOn (engDomains s2) { s2 with
          vch := s2.vch.zipIdx.map (fun (e : Vch × Nat) => if populated s2 e.2 then { e.1 with state := 1 } else e.1)
          img := { s2.img with bootStep := 6 } }
      else quadRoles [2, 3, 4, 5, 6, 7] .active (domainsOn (engDomains s2) s2))

/-- The highest vault sequence on the media. -/
def mediaSeq (s : State) : Nat :=
  let v := s.vlt
  (((v.manifest.map Manifest.mseq).getD 0) :: ((v.ckpt.map Ckpt.seq).getD 0) :: (v.log.map LogEntry.seq
    ++ v.dumps.map DumpRec.seq ++ v.pages.map (fun e => e.2.seq))).foldl max 0

/-- A log entry that counts as live data after a checkpoint (R354). -/
def liveEntry : LogWhat → Bool
  | .program _ _ _ _ _ => true
  | .lost _ => true
  | .unprotectStart _ => true
  | .append _ => true
  | _ => false

/-- The vault holds live data (R354). A TWIN page newer than the log counts as the PROGRAM entry it will be applied as (R358). DEDUCED
(log 51). -/
def vaultLive (s : State) : Bool :=
  match s.vlt.manifest with
  | none => !s.vlt.blank
  | some _ => match s.vlt.ckpt with
    | none => true
    | some c => c.map.any (fun e => e.2.ref ≠ 0 || e.2.lost)
      || (replayLog s c.seq).any (fun e => liveEntry e.what)
      || s.vlt.dumps.any (fun d => decide (c.seq < d.seq) && d.quads.any (fun q => q.counts.any (fun e => 0 < e.2)))

/-- A segment as a format leaves it (R349): used segments are erased; retired ones stay. -/
def formatSeg (g : Seg) : Seg :=
  if g.kind = .retired then g
  else { g with kind := .free, rows := 0, erases := if g.kind = .free then g.erases else g.erases + 1, order := 0 }

/-- A factory-bad block is replaced from its pool; inside the pool it is dropped from it (R346). -/
def factoryBlock (v : Nat) (s : State) : State :=
  let s1 := { s with
    vlt := { s.vlt with factoryBad := sins (blockVpa v) s.vlt.factoryBad }
    vch := s.vch.modify (vpaCh v) (fun c => { c with factoryBad := c.factoryBad.modify (vpaDie v) (· + 1) }) }
  if segGroups s ≤ vpaBlock v then s1
  else match nextPool s1 v with
    | some b => { s1 with vlt := { s1.vlt with retired := tins (blockVpa v) b s1.vlt.retired } }
    | none =>
      let n := vpaSeg v
      setSeg n { segOf s1 n with absent := setBit (segOf s1 n).absent (vchOf s1 (vpaCh v)).column }
        { s1 with vlt := { s1.vlt with retired := tins (blockVpa v) 0xFFFFFFFF s1.vlt.retired } }

/-- `WEAR_BURST` of the image under application, whose LIFE record comes after the format (R259). -/
def imageBurst (s : State) : Nat := paramOf (withDefaults lifeDefaults s.img.active.life) 0x43 64

/-- The format of R89, R346, R349 to R353: the next epoch from sequence 1, the MANIFEST and META segments, the manifest, an empty
checkpoint and the BOOT entry, the dump reserve. `factory` are the blocks whose bad-block marker is set. -/
def formatVault (factory : List Nat) (s : State) : State :=
  let lacks := decide (s.dmp.seq ≠ 0) && !(s.vlt.dumps.any (fun d => d.seq = s.dmp.seq)) && s.vlt.blank
  let meta_ := 2 + Config.observed s.free % 63
  let s0 := { s with shd := { s.shd with written := ((s.vlt.ckpt.map Ckpt.writtenMib).getD 0) * 1048576
                                         shadowed := ((s.vlt.ckpt.map Ckpt.shadowedMib).getD 0) * 1048576
                                         saved := ((s.vlt.ckpt.map Ckpt.savedMib).getD 0) * 1048576 } }
  let s1 := useFree { s0 with vlt := { s.vlt with
    epoch := ((s.vlt.manifest.map Manifest.epoch).getD 0) + 1, seq := 1, log := [], dumps := [], pages := [], other := [], map := []
    pendLog := [], lostWait := [], relWait := [], highSeq := 0, ckpt := none, bootEntry := true, reserve := [], relocate := [], erasing := []
    metaRing := (List.range meta_).map (fun k => segNo 0 (k + 2)), metaAt := 0, manifestAt := 0, ckptOlder := 0
    segs := s.vlt.segs.map (fun e => (e.1, formatSeg e.2)) } }
  let s2 := factory.foldl (fun t v => factoryBlock v t) s1
  let s3 := (List.range (meta_ + 2)).foldl (fun (t : State) (k : Nat) =>
    setSeg (segNo 0 k) { segOf t (segNo 0 k) with kind := if k < 2 then .manifest else .metaRing } t) s2
  let s4 := manifestWrite 0 { s3 with shd := { s3.shd with balance := ((imageBurst s3 * 1073741824 : Nat) : Int), debt := 0 } }
  let (q, s5) := takeSeq s4
  let c : Ckpt := ⟨q, [], s5.vlt.segs, s5.dmp.dsc, s5.dmp.dscSeq, s5.shd.written / 1048576, s5.shd.shadowed / 1048576,
    s5.shd.balance, 0, s5.shd.saved / 1048576⟩
  let s6 := putMeta (ckptStruct s5 c) { s5 with vlt := { s5.vlt with ckpt := some c } }
  let s7 := raise 0x070C 0x0E [(4, 0)] (appendLog (.boot s6.evr.powerCycles) s6)
  let s8 := raise 0x010A 0x0C [] (refillReserve { s7 with img := { s7.img with vaultReformat := true } })
  if lacks then raise 0x1011 0x04 [(1, 2)] s8 else s8

/-! ## Steps 7 to 12 -/

/-- The pair record in force (R400): one that waits in AOS, else the valid one of highest `SEQ`. -/
def pairInForce (s : State) : Option PairRecord :=
  s.aos.pair.or (((s.ifc.pairs.filter (fun e => slotSound (0x680000 + e.1 * 128) 16 s)).map Prod.snd).foldl (fun a r =>
    match a with
    | some x => if x.seq < r.seq then some r else some x
    | none => some r) none)

/-- Step 7 (R68 to R70). -/
def stepEnergy (img : ActiveImage) (s : State) : State :=
  match img.energy with
  | none => s
  | some e => sendInput (refreshCharge { s with
      nrg := { s.nrg with params := withDefaults energyDefaults e.params, cells := e.cells, energyApplied := true } })

/-- The Korric link unit before PAIR applies: unpaired, side A, its link down (R56). What outlasts a boot of this power-on stays: MEPOCH, the
place of the next pair record, and the RC counters. -/
def korBefore (s : State) : State :=
  { s with kor := {
    pairSlot := s.kor.pairSlot, mepoch := s.kor.mepoch, replays := s.kor.replays, fecUncorr := s.kor.fecUncorr, crc := s.kor.crc
    fecSym := s.kor.fecSym, fecRem := s.kor.fecRem, rttMax := s.kor.rttMax, swapThresh := s.kor.swapThresh, forceWaitS := s.kor.forceWaitS } }

/-- Step 9 (R56, R72, R389, R400): the pair's side, its record and initial training; without PAIR an unpaired device of side A. -/
def stepPair (img : ActiveImage) (s : State) : State :=
  let s := korBefore s
  match img.pair with
  | none => s
  | some p =>
    let s1 := match pairInForce s with
      | some r => { s with kor := { s.kor with record := r } }
      | none => raise 0x090D 0x05 [] s
    setPair .training 0 { s1 with kor := { s1.kor with side := p.sideB, unitOn := true, trainingOn := true } }

/-- Step 10 (R74, R409, R415). -/
def stepArray (img : ActiveImage) (s : State) : State :=
  let a := img.array.getD ⟨false, false, false, true, 0⟩
  let s1 := { s with cwy := { s.cwy with
    idFromImage := a.idFromImage
    myId := if a.idFromImage then a.id else s.cwy.strapId
    headCapable := if a.headFromImage then a.headCapable else s.cwy.strapHeadcap
    ringEn := a.ringEn } }
  if a.ringEn ∧ s1.cwy.unit = .off then cwyStart s1 else s1

/-- Steps 7 to 12 (R85). -/
def stepsSeven (s : State) : State :=
  let img := s.img.liveImage.getD s.img.active
  let s1 := stepEnergy img s
  let s2 := { s1 with shd := { s1.shd with life := withDefaults lifeDefaults img.life } }
  let s3 := stepArray img (stepPair img s2)
  let s4 := tskCarve (carvingFrom (if img.pools = [] then defaultPools else img.pools)) s3
  { s4 with img := { s4.img with active := { s4.img.active with events := img.events }, bootStep := 13 } }

/-- The channels and dies that fail initialization (R344): their roles and events; what they write to the vault waits for the map. -/
def initFailures (badDies : List (Nat × Nat)) (badCh : List Nat) (s : State) : State :=
  let s1 := badCh.foldl (fun t c => if populated t c then channelFailed c t else t) s
  badDies.foldl (fun t e => if populated t e.1 && decide (e.2 < (vaultRec t).diesPerCh) then dieFailed e.1 e.2 1 t else t) s1

/-- Dies and channels the manifest records as FAILED stay so (R352). -/
def manifestFailures (s : State) : State :=
  match s.vlt.manifest with
  | none => s
  | some m => { s with vch := s.vch.zipIdx.map (fun (e : Vch × Nat) =>
      { e.1 with dieFailed := e.1.dieFailed ||| m.failedDie.getD e.2 0
                 state := if m.failedCh.testBit e.2 ∧ populated s e.2 then 3 else e.1.state }) }

/-- The SET FEATURES of one channel's initialization (R62): entries 0 to `FEATURE_COUNT` − 1 in order, each to every die, and to each LUN
of a die where the entry is per LUN. -/
def featureSets (r : VaultRec) : List FeatureSet :=
  r.features.flatMap (fun f => (List.range r.diesPerCh).flatMap (fun d =>
    if f.perLun then (List.range Config.lunsPerDie).map (fun l => ⟨d, some l, f.addr, f.value⟩)
    else [⟨d, none, f.addr, f.value⟩]))

/-- The channels of step 6 come up (R85, R62): SET FEATURES issued, and event 0x0801 for each. -/
def channelsUp (s : State) : State :=
  ((List.range 16).filter (fun c => populated s c && (vchOf s c).state = 1)).foldl (fun t c =>
    raise 0x0801 (quadUnit (c / 4) (4 + c % 4)) [(1, c), (1, (vaultRec t).diesPerCh), (1, (vchOf t c).timing)]
      (modVch c (fun v => { v with
        state := 2, diePresent := 2 ^ (vaultRec t).diesPerCh - 1, features := featureSets (vaultRec t) }) t)) s

/-- Step 6 goes on after the channels are up: the hashes are compared (R88, R89, R83). -/
def compareVault (readable : Bool) (factory : List Nat) (s : State) : State :=
  let found : Digest := if readable then (s.vlt.manifest.map Manifest.vlh).getD 0 else 0
  let s1 := { s with img := { s.img with mvlh := found }
                     vlt := { s.vlt with highSeq := mediaSeq s, epoch := (s.vlt.manifest.map Manifest.epoch).getD 0 } }
  let same := readable && s.vlt.manifest.isSome && found = s.img.vlh
  let live := vaultLive s1 || (!readable && !s.vlt.blank)
  if !same && live then withdraw 0x0103 0x0E 3 [] s1
  else
    let s2 := if same then s1 else formatVault factory s1
    stepsSeven { s2 with img := { s2.img with structApplied := true } }

/-- `VAULT_INIT_DONE` (R85, R88, R344): the channels are initialized. `badDies` and `badCh` failed; `readable` says that the manifest's
pages could be read where any is not erased; `factory` are the factory-bad blocks a format finds; `fresh` says that the mezzanine was
exchanged for a blank one while it was off (R590). -/
def execVaultInitDone (badDies : List (Nat × Nat)) (badCh factory : List Nat) (readable fresh : Bool) (s : State) : Result :=
  .next (if s.spn.mode ≠ .boot ∨ s.img.bootStep ≠ 6 then s
    else
      let s0 := if fresh then { s with vlt := {}, vch := s.vch.map (fun v => { v with factoryBad := List.replicate 8 0 }) } else s
      compareVault readable factory (channelsUp (initFailures badDies badCh (manifestFailures s0))))

/-! ## Steps 13 and 14 -/

/-- A span of granules holds live data in the vault (R90): a copy, or a granule LOST. -/
def liveSpan (m : List (Nat × MapEntry)) (base size : Nat) : Bool :=
  m.any (fun e => decide (base * 16384 ≤ e.1 ∧ e.1 < (base + size) * 16384) && (e.2.ref ≠ 0 || e.2.lost))

/-- The bound attributes of an entry as the manifest records them (R352, R90). -/
def boundOf (r : Nat) (e : RegionEntry) : Nat × Nat × Nat × Nat :=
  (r, e.base, e.size, flag e.sequential + 8 * (match e.key with | .native => 0 | .derived => 1 | .plain => 2) + 32 * flag e.sideB)

/-- The first region with live data whose recorded attributes differ from the image's (R90). -/
def regionMismatch (s : State) (l : List RegionEntry) : Option Nat :=
  match s.vlt.manifest with
  | none => none
  | some m =>
    let live := mediaMap { s with wrp := { s.wrp with
      regions := (List.range 256).map (fun r => { entry := l.getD r ⟨0, 0, false, .loc, .native, false, 0, 0, 0, 0, 0⟩ }) } }
    let new (r : Nat) : RegionEntry := l.getD r ⟨0, 0, false, .loc, .native, false, 0, 0, 0, 0, 0⟩
    ((m.regions.filter (fun (e : Nat × Nat × Nat × Nat) => liveSpan live e.2.1 e.2.2.1 && boundOf e.1 (new e.1) ≠ e)).map
      Prod.fst).head?

/-- BOOT will end in TEST (R39): the strap, the image's permission, and no live data. -/
def testBoot (s : State) : Bool := s.pwr.testStrap && (secFlags s).testBit 0 && !vaultLive s

/-- Step 14 (R82, R91): PRESETS, then `LOCKED`. -/
def presets (s : State) : State :=
  let s1 := s.img.active.presets.foldl (fun t p => regStore ⟨.firmware, rwlMask p.offset, p.value⟩ p.offset t) s
  raise 0x0101 0x0C [(1, s1.img.activeSlot), (4, s1.img.active.version)]
    { s1 with img := { s1.img with locked := true, imageValid := true, liveImage := none, bootStep := 15 } }

/-- Step 13 (R85, R90, R449): the region table, the keys that are bound, and the start checks. A table that alters the CDAT's
write-latency entry takes a new CDAT sequence and vector 6, as a re-application does (R133). DESIGN CHOICE (log 129). -/
def regionStep (s : State) : State :=
  let l := s.img.active.regions
  match regionMismatch s l with
  | some r => withdraw 0x0104 0x0F 4 [(1, r)] s
  | none =>
    let s1 := { s with wrp := { s.wrp with
      regions := (List.range 256).map (fun r => { entry := l.getD r ⟨0, 0, false, .loc, .native, false, 0, 0, 0, 0, 0⟩ }) } }
    let s2 := refreshCdat (refreshEff (deriveBound 0 s1))
    presets (if testBoot s2 then s2
      else ((List.range 256).filter (defined s2)).foldl (fun t r => beginChecks r t) s2)

/-- The running operation of the boot ARM entry, where the ARM entry has not passed yet. -/
def armRunning (s : State) : Option AgentOp :=
  match s.ifc.bank0.running with
  | some (.agent o) => (match o.work with
    | .nonce r => if r.type = 3 then some o else none
    | _ => none)
  | _ => none

/-- `ARM_ENTRY_PASSED` (R456): the boot ARM entry has passed, and steps 13 and 14 run. Where its write still runs, it passes now. A device
whose nonce jumps are used up has none to wait for (R460). -/
def execArmEntryPassed (s : State) : Result :=
  .next (if s.spn.mode ≠ .boot ∨ s.img.bootStep ≠ 13 then s
    else if s.cip.armed ∨ s.cip.exhausted then regionStep s
    else match armRunning s with
      | some o => regionStep (flashDone 0 (.agent o) true true 0 s)
      | none => s)

/-- BOOT ends in a mode with its cause (R39, R535). -/
def finishBoot (m : Mode) (cause : Nat) (s : State) : State := setMode m cause (bootEnds m s)

end Sys2Proof.Machine
end

