-- ==== Sys2Proof/Machine/EventLog.lean ====
section
/-!
DEFINITION. The commands of the Sedge log: EVENT_REPORT, FOLD_EXPIRY, OP_SEC_TICK, COUNTER_CHECKPOINT, CURSOR_LOAD,
CURSOR_NEXT, CURSOR_LOAD_DONE (16).
-/

namespace Sys2Proof.Machine

/-- `EVENT_REPORT` (R518 to R521): the oldest event on its way reaches the EVR. -/
def execEventReport (s : State) : Result :=
  .next (match s.raised with
    | [] => s
    | e :: r => takeEvent e { s with raised := r })

/-- `FOLD_EXPIRY` (R522): `FOLD_MS` of an entry has passed. -/
def execFoldExpiry (id : Nat) (s : State) : Result :=
  .next (match s.evr.folds.find? (fun f => f.id = id) with
    | none => s
    | some f => evrKick (closeFold f s))

/-- `OP_SEC_TICK` (R524): a second during which VDD_CORE is up, mirrored in AOS. -/
def execOpSecTick (s : State) : Result :=
  let n := wrapAdd 32 s.evr.opSec 1
  .next (if s.pwr.poweredDown then s
    else { s with evr := { s.evr with opSec := n }, aos := { s.aos with opSec := n } })

/-- `COUNTER_CHECKPOINT` (R525). -/
def execCounterCheckpoint (s : State) : Result :=
  .next (if s.pwr.poweredDown then s
    else raise 0x0E01 0x09 [(4, s.evr.opSec), (4, s.evr.powerCycles), (8, s.evr.retired)] s)

/-- A path's cursor changed. -/
def modCursor (p : Path) (f : Cursor → Cursor) (s : State) : State :=
  match p with
  | .firmware => { s with evr := { s.evr with curFirmware := f s.evr.curFirmware } }
  | .bar0 => { s with evr := { s.evr with curBar0 := f s.evr.curBar0 } }
  | .smbus => { s with evr := { s.evr with curSmbus := f s.evr.curSmbus } }
  | .array => { s with evr := { s.evr with curArray := f s.evr.curArray } }

/-- `CURSOR_LOAD` (R533): a sequence is written to a path's `EVR_CURSOR`; until the load ends the window reads 0. -/
def execCursorLoad (path : Path) (seq : Nat) (s : State) : Result :=
  .next <| dropHalf path (modCursor path (fun c => { c with loading := some (seq % 2 ^ 64), ready := false, next := false }) s)

/-- `CURSOR_NEXT` (R533). -/
def execCursorNext (path : Path) (s : State) : Result :=
  .next <| dropHalf path (modCursor path (fun c => { c with loading := some (c.seq + 1), ready := false, next := true }) s)

/-- The records a window reads, ascending in `SEQ` (R531, R533). -/
def readable (s : State) : List SedgeRec :=
  (if s.evr.memOnly then s.evr.memRing else (soundRing s).map Prod.snd).mergeSort (fun a b => a.seq ≤ b.seq)

/-- `CURSOR_LOAD_DONE` (R533): the record asked for, or the next higher one; `MISSING` where it is another than asked for, or
none. -/
def execCursorLoadDone (path : Path) (s : State) : Result :=
  let l := readable s
  .next (modCursor path (fun c => match c.loading with
    | none => c
    | some q => match l.find? (fun r => q ≤ r.seq) with
      | some r => { c with loading := none, ready := true, next := false, seq := r.seq, window := some r
                           missing := !c.next && decide (r.seq ≠ q) }
      | none => { c with loading := none, ready := true, next := false, window := none, missing := true }) s)

end Sys2Proof.Machine
end

