-- ==== Sys2Proof/Machine/Mailbox.lean ====
section
/-!
DEFINITION. The mailbox and CCI commands that run no background work (R124 to R130), and the DOE mailbox's Discovery and CDAT
(R133). Opcodes and result layouts of standard commands are those of CXL 2.0. PRESUMED (log 43).
-/

namespace Sys2Proof.Machine

/-- A standard command answered with Success and a payload. -/
def answer (via : Via) (op : Nat) (inDump : Bool) (f : State → Fields) (s : State) : State :=
  standard via op inDump (fun t => reply via op .success 0 (f t) t) s

/-- `IDENTIFY_MEMORY_DEVICE` (R124): total, persistent and volatile capacity and partition alignment in 256 MiB units, the four event
logs, the LSA size, the poison list maximum, the inject limit, and that DevLoad is supported. -/
def execIdentifyMemoryDevice (via : Via) (s : State) : Result :=
  .next (answer via 0x4000 true (fun t => [(8, hdmUnits t), (8, 0), (8, hdmUnits t), (8, 0), (2, 64), (2, 64), (2, 64), (2, 64),
    (4, 0), (3, 256), (2, 16), (1, 1)]) s)

/-- Media Status (R125): 0 Normal, 1 Not Ready, 2 Disabled; in BOOT and DUMP the rule names none, and the value is free (log 43). -/
def mediaStatus (s : State) : Nat :=
  match s.spn.mode with
  | .restore => 0 | .service => 0 | .test => 0 | .parked => 1 | .recovery => 2
  | _ => Config.observed s.free % 256

/-- `GET_HEALTH_INFO` (R125); `temp` is the highest junction sensor, °C. -/
def execGetHealthInfo (via : Via) (temp : Nat) (s : State) : Result :=
  .next (useFree (answer via 0x4200 true (fun t => [(1, healthBits t), (1, mediaStatus t),
    (1, min 255 ((t.shd.lifeUsed + 99) / 100)), (2, temp), (4, t.dmp.dsc), (4, 0), (4, t.hlk.correctedHost)]) s))

/-- `GET_ALERT_CONFIGURATION` (R124). -/
def execGetAlertConfiguration (via : Via) (s : State) : Result :=
  .next (answer via 0x4201 false (fun t => t.hlk.alertCfg.map (fun v => (2, v))) s)

/-- `SET_ALERT_CONFIGURATION` (R124): the four warning thresholds. -/
def execSetAlertConfiguration (via : Via) (life hot cold corrected : Nat) (s : State) : Result :=
  .next (standard via 0x4202 false (fun t =>
    reply via 0x4202 .success 0 [] { t with hlk := { t.hlk with alertCfg := [life, hot, cold, corrected] } }) s)

/-- `GET_SHUTDOWN_STATE` (R124). -/
def execGetShutdownState (via : Via) (s : State) : Result :=
  .next (answer via 0x4203 false (fun t => [(1, t.aos.shutdownState)]) s)

/-- `SET_SHUTDOWN_STATE` (R124): stored in AOS, without effect on the Dirty Shutdown Count. -/
def execSetShutdownState (via : Via) (v : Nat) (s : State) : Result :=
  .next (standard via 0x4204 false (fun t =>
    reply via 0x4204 .success 0 [] { t with aos := { t.aos with shutdownState := v % 256 } }) s)

/-! ### Poison -/

/-- The source of a granule's poison record (R126): 2 Internal for POISON, 7 Vendor Specific for LOST, 3 Injected; its state goes before an
injection. DESIGN CHOICE (log 130). -/
def poisonSource (s : State) (g : Nat) : Option Nat :=
  match gstate s g with
  | .poison => some 2
  | .lost => some 7
  | _ => if s.hlk.injected.contains g then some 3 else none

/-- The granules of the poison list in a DPA range, ascending. A host write over an injected line leaves the granule on the list until
Clear Poison. DESIGN CHOICE (log 130). -/
def poisonGranules (s : State) (dpa len : Nat) : List Nat :=
  let listed := (s.gst.states.filter (fun e => e.2.st = .poison || e.2.st = .lost)).map Prod.fst
  let all := s.hlk.injected.foldl (fun l g => sins g l) listed
  all.filter (fun g => decide (dpa < (g + 1) * 16384) && decide (g * 16384 < dpa + len))

/-- `GET_POISON_LIST` (R126): up to 256 records, the lowest first, behind the More flag and the count. -/
def execGetPoisonList (via : Via) (dpa len : Nat) (s : State) : Result :=
  .next (answer via 0x4300 false (fun t =>
    let l := poisonGranules t dpa len
    let recs := (l.take 256).flatMap (fun g => [(8, g * 16384), (4, 256), (1, (poisonSource t g).getD 0)])
    [(1, flag (decide (256 < l.length))), (2, min 256 l.length)] ++ recs) s)

/-- A line address of the HDM range. -/
def lineOk (s : State) (dpa : Nat) : Bool := dpa % 64 == 0 && decide (dpa < hdmGranules s * 16384)

/-- `INJECT_POISON` (R124): in TEST a line takes the poison mark; the limit of 16 granules holds. DESIGN CHOICE (log 44). -/
def execInjectPoison (via : Via) (dpa : Nat) (s : State) : Result :=
  .next (standard via 0x4301 false (fun t =>
    if t.spn.mode ≠ .test then reply via 0x4301 .unsupported 0x0001 [] t
    else if !lineOk t dpa ∨ (16 ≤ t.hlk.injected.length ∧ !t.hlk.injected.contains (dpa / 16384)) then
      reply via 0x4301 .invalidInput 0 [] t
    else
      let t1 := poisonLine (dpa / 64) true t
      reply via 0x4301 .success 0 [] (msix 10 { t1 with hlk := { t1.hlk with injected := sins (dpa / 16384) t1.hlk.injected } })) s)

/-- `CLEAR_POISON` (R124): in TEST a line takes the data given and loses its mark. -/
def execClearPoison (via : Via) (dpa : Nat) (data : BitVec 512) (s : State) : Result :=
  .next (standard via 0x4302 false (fun t =>
    if t.spn.mode ≠ .test then reply via 0x4302 .unsupported 0x0001 [] t
    else if !lineOk t dpa then reply via 0x4302 .invalidInput 0 [] t
    else
      let g := dpa / 16384
      let t1 := if linePoisoned t (dpa / 64) then storeLine (dpa / 64) data (2 ^ 64 - 1) t else t
      let left := (List.range 256).any (fun k => linePoisoned t1 (g * 256 + k))
      reply via 0x4302 .success 0 []
        (if t.hlk.injected.contains g ∧ !left then msix 10 { t1 with hlk := { t1.hlk with injected := sdel t1.hlk.injected g } }
         else t1)) s)

/-! ### Logs and events -/

/-- UUIDs of the Command Effects Log of CXL 2.0 (log 43) and of the vendor log (R124), as big-endian numbers. -/
def celUuid : Nat := 0x0da9c0b5bf414b788f7996b1623b3f17
def vendorLogUuid : Nat := 0x7c5a1e043b9d4f60a2e891d0c6b3f417

/-- The opcodes that Command Effects Log entries name: the standard and vendor commands. -/
def listedOpcodes : List Nat :=
  [0x0100, 0x0101, 0x0102, 0x0103, 0x0200, 0x0201, 0x0202, 0x0300, 0x0301, 0x0400, 0x0401, 0x4000, 0x4200, 0x4201, 0x4202, 0x4203,
   0x4204, 0x4300, 0x4301, 0x4302] ++ (List.range 14).map (fun i => 0xC000 + i)

/-- The bytes of the Command Effects Log: an opcode and its effects, which the spec leaves to CXL (free values, log 43). -/
def celBytes (s : State) : List Nat :=
  listedOpcodes.zipIdx.flatMap (fun o => leBytes 2 o.1 ++ leBytes 2 (Config.observed (s.free + o.2) % 65536))

/-- The bytes of the vendor log: the Sedge ring in record order from the oldest (R124, R533). -/
def sedgeLogBytes (s : State) : List Nat := (readable s).flatMap sedgeBytes

/-- `GET_SUPPORTED_LOGS` (R124): two logs with their UUIDs and sizes. -/
def execGetSupportedLogs (via : Via) (s : State) : Result :=
  .next (answer via 0x0400 false (fun t => [(2, 2), (16, celUuid), (4, 4 * listedOpcodes.length), (16, vendorLogUuid),
    (4, 256 * (readable t).length)]) s)

/-- `GET_LOG` (R124): a portion of a log of at most 4 KiB, byte by byte. -/
def execGetLog (via : Via) (uuid off len : Nat) (s : State) : Result :=
  .next (standard via 0x0401 true (fun t =>
    if 4096 < len ∨ (uuid ≠ celUuid ∧ uuid ≠ vendorLogUuid) then reply via 0x0401 .invalidInput 0 [] t
    else
      let b := if uuid = celUuid then celBytes t else sedgeLogBytes t
      let t1 := if uuid = celUuid then { t with free := t.free + listedOpcodes.length } else t
      reply via 0x0401 .success 0 (((b.drop off).take len).map (fun x => (1, x))) t1) s)

/-- Event log `i` of the host (R131). -/
def hostLog (s : State) (i : Nat) : List HostEvent :=
  match i with
  | 0 => s.hlk.logInfo | 1 => s.hlk.logWarn | 2 => s.hlk.logFail | _ => s.hlk.logFatal

/-- Event log `i` written. -/
def setHostLog (i : Nat) (l : List HostEvent) (s : State) : State :=
  match i with
  | 0 => { s with hlk := { s.hlk with logInfo := l } }
  | 1 => { s with hlk := { s.hlk with logWarn := l } }
  | 2 => { s with hlk := { s.hlk with logFail := l } }
  | _ => { s with hlk := { s.hlk with logFatal := l } }

/-- `GET_EVENT_RECORDS` (R124): the oldest records of a log that a 4 KiB payload holds, 31 of 128 bytes, behind the More flag and the
count: kind (0 General Media, 1 Memory Module), event ID, and its sequence or argument. -/
def execGetEventRecords (via : Via) (log : Nat) (s : State) : Result :=
  .next (standard via 0x0100 true (fun t =>
    if 4 ≤ log then reply via 0x0100 .invalidInput 0 [] t
    else
      let l := hostLog t log
      reply via 0x0100 .success 0 ([(1, flag (decide (31 < l.length))), (2, min 31 l.length)] ++
        (l.take 31).flatMap (fun e => [(1, flag e.memoryModule), (2, e.id), (8, e.seq)])) t) s)

/-- `CLEAR_EVENT_RECORDS` (R124): the `count` oldest records of a log, or all of them. -/
def execClearEventRecords (via : Via) (log count : Nat) (all : Bool) (s : State) : Result :=
  .next (standard via 0x0101 false (fun t =>
    if 4 ≤ log then reply via 0x0101 .invalidInput 0 [] t
    else reply via 0x0101 .success 0 [] (setHostLog log (if all then [] else (hostLog t log).drop count) t)) s)

/-- `GET_EVENT_INTERRUPT_POLICY` (R124, R131): whether each log signals its vector. -/
def execGetEventInterruptPolicy (via : Via) (s : State) : Result :=
  .next (answer via 0x0102 false (fun t => t.hlk.intPolicy.map (fun b => (1, flag b))) s)

/-- `SET_EVENT_INTERRUPT_POLICY` (R124, R131). -/
def execSetEventInterruptPolicy (via : Via) (info warn fail fatal : Bool) (s : State) : Result :=
  .next (standard via 0x0103 false (fun t =>
    reply via 0x0103 .success 0 [] { t with hlk := { t.hlk with intPolicy := [info, warn, fail, fatal] } }) s)

/-- `GET_FW_INFO` (R124, R557): two slots, the active one, a slot staged by a transfer (0 none), no online activation, and the active
firmware's version. -/
def execGetFwInfo (via : Via) (s : State) : Result :=
  .next (answer via 0x0200 true (fun t => [(1, 2), (1, t.sig.fwSlot + 1),
    (1, if t.aos.scratch.held.isEmpty then 0 else 2 - t.sig.fwSlot % 2), (1, 0), (4, t.sig.fwVersion)]) s)

/-- `GET_TIMESTAMP` (R124). -/
def execGetTimestamp (via : Via) (s : State) : Result :=
  .next (useFree (answer via 0x0300 false (fun t => [(8, deviceTime t)]) s))

/-- `SET_TIMESTAMP` (R124): kept in the always-on domain. -/
def execSetTimestamp (via : Via) (v : Nat) (s : State) : Result :=
  .next (standard via 0x0301 false (fun t =>
    reply via 0x0301 .success 0 [] { t with hlk := { t.hlk with timestamp := v % 2 ^ 64 } }) s)

/-- `UNSUPPORTED_OPCODE` (R124): an opcode that is not listed; in DUMP Busy, as every command outside R128's list. A listed opcode is
its own command's. -/
def execUnsupportedOpcode (via : Via) (op : Nat) (s : State) : Result :=
  .next (if listedOpcodes.contains op then s else standard via op false (reply via op .unsupported 0 []) s)

/-! ### Vendor commands without background work -/

/-- Granules of a region in a state, FREE ones not listed included. -/
def countState (s : State) (r : Nat) (st : GState) : Nat :=
  if st = .free then granuleCount s r - (regionGranules s r (fun w => w.st ≠ .free)).length
  else (regionGranules s r (fun w => w.st = st)).length

/-- The 64 bytes that REGION_STATE_QUERY answers (R130). -/
def regionReport (s : State) (r : Nat) : Fields :=
  let x := region s r
  let e := x.entry
  let ptr (v : Nat) : Nat := if e.sequential then v else 0xFFFFFFFF
  [(1, r), (1, lifeCode x.life + 128 * flag x.reArm), (1, classOf e), (1, prioOf e), (2, e.share), (2, 0)] ++
  [GState.free, .dirty, .inflight, .redirty, .shadowed, .pending, .poison, .lost].map (fun st => (4, countState s r st)) ++
  [(4, (regionGranules s r GWord.stale).length), (4, ptr x.writePtr), (4, ptr x.shadowPtr),
   (4, (s.hlk.writes.filter (fun w => w.region == r && holdNow s w ≠ .none)).length), (8, tget 0 s.hlk.writesDiscarded r)]

/-- `REGION_STATE_QUERY` (R129, R130). -/
def execRegionStateQuery (via : Via) (r : Nat) (s : State) : Result :=
  .next (vendor via 0xC000 [.restore, .service, .parked, .test] true false (fun t =>
    if 256 ≤ r then vendorRefuse via 0xC000 .invalidInput 0x0002 t else reply via 0xC000 .success 0 (regionReport t r) t) s)

/-- The region a byte range lies in, or the extended status that refuses it: 2 not granule-aligned, empty or not in one region, 3 the
region is not ONLINE (R130, R185, R269). -/
def rangeRegion (s : State) (dpa len : Nat) : Nat ⊕ Nat :=
  if dpa % 16384 ≠ 0 ∨ len % 16384 ≠ 0 ∨ len = 0 then .inr 2
  else match regionOf s (dpa / 16384) with
    | none => .inr 2
    | some r =>
      if !inRegion s r ((dpa + len) / 16384 - 1) then .inr 2 else if (region s r).life ≠ .online then .inr 3 else .inl r

/-- The partner is told of a released range and the command waits for it (R185); without a partner to tell, the range goes to the
pending-release list where a rejoin is to forward it (R396). True where the command waits. -/
def forwardRelease (r first count n : Nat) (via : Via) (s : State) : Bool × State :=
  if !isMirrored s r ∨ s.kor.state = .unpaired then (false, s)
  else if inConflict s r then (false, pendRelease first count s)
  else if noticesFlow s ∨ s.kor.state = .deciding then
    (true, releaseNotices { s with kor := { s.kor with relWait := s.kor.relWait ++ [⟨r, first, count, n, via, false⟩] } })
  else (false, pendRelease first count s)

/-- `RELEASE_RANGE` (R183 to R185, R130): event 0x030A when it completes, which in a mirrored pair is when the partner has released the
range too. -/
def execReleaseRange (via : Via) (dpa len : Nat) (s : State) : Result :=
  .next (vendor via 0xC001 [.restore, .service, .test] false false (fun t =>
    match rangeRegion t dpa len with
    | .inr e => vendorRefuse via 0xC001 .invalidInput e t
    | .inl r =>
      let first := dpa / 16384
      let count := len / 16384
      let n := (rangeUsed t first count).length
      let t1 := releaseRange r first count t
      let (waits, t2) := forwardRelease r first count n via t1
      let t3 := if waits then t2 else releaseOver ⟨r, first, count, n, via, true⟩ t2
      settleFor (shareFreed t t3) t3) s)

/-- Granules with a live copy in the vault. -/
def liveGranules (s : State) : Nat := (s.vlt.map.filter (fun e => e.2.ref ≠ 0)).length

/-- `VAULT_INFO` (R130, R368). -/
def execVaultInfo (via : Via) (s : State) : Result :=
  .next (vendor via 0xC00B runningModes true false (fun t =>
    let ch := (List.range 16).filter (fun c => populated t c)
    reply via 0xC00B .success 0 [(1, ch.length), (1, (vaultRec t).diesPerCh), (2, maskOf (ch.filter (fun c => (vchOf t c).state == 3))),
      (4, (vaultRec t).endurance), (8, slcBytes t), (8, t.shd.written / 1048576 * 1048576), (8, liveGranules t * 16384),
      (4, t.shd.lifeUsed), (4, t.shd.debt / 1073741824), (4, t.vlt.retired.length), (4, 0)] t) s)

/-! ### DOE -/

/-- `DOE_DISCOVERY` (R133): protocol `index` of Discovery, CMA/SPDM and CDAT: vendor ID, type and the next index, 0 after the last. The
codes are those of PCI-SIG and CXL. PRESUMED (log 43). -/
def execDoeDiscovery (index : Nat) (s : State) : Result :=
  .next (
    if !s.hlk.presented then s
    else match index with
      | 0 => send (.doe [(2, 0x0001), (1, 0), (1, 1)]) s
      | 1 => send (.doe [(2, 0x0001), (1, 1), (1, 2)]) s
      | 2 => send (.doe [(2, 0x1E98), (1, 2), (1, 0)]) s
      | _ => send (.doe [(2, 0xFFFF), (1, 0xFF), (1, 0)]) s)

/-- `CDAT_READ` (R133): the sequence number and entry `entry`: 0 the DSMAS (base, length, non-volatile), 1 read latency in ns, 2 read and
write bandwidth in MB/s, 3 write latency in ns. Another entry is answered with the sequence number alone. -/
def execCdatRead (entry : Nat) (s : State) : Result :=
  .next (
    if !s.hlk.presented then s
    else
      let f : Fields := match entry with
        | 0 => [(8, 0), (8, hdmGranules s * 16384), (1, 1)]
        | 1 => [(4, 180)]
        | 2 => [(4, 28000), (4, 28000)]
        | 3 => [(4, s.hlk.cdatLatency)]
        | _ => []
      send (.doe ((4, s.hlk.cdatSeq) :: f)) s)

end Sys2Proof.Machine
end

