-- ==== Sys2Proof/Machine/Peat.lean ====
section
/-!
DEFINITION. The Peat stream and the wear governor (07): epochs, ring examination, the walk of SEQUENTIAL regions, row close, tokens,
the rate and life conditions, and the end of a service program.
-/

namespace Sys2Proof.Machine

/-- An uncorrectable touch-array word, named by a granule of it, rewritten with the current epoch for the four granules it holds
(R245): 2 bytes a granule in 64-bit words of one quadrant's array. -/
def touchRewrite (g : Nat) (s : State) : State :=
  let q := quadOf s g
  let l := localOf s g / 4
  let listed := ((List.range 4).map (fun k => granuleAt s q (4 * l + k))).filter (fun x => decide (x < hdmGranules s))
  raise 0x050C (quadUnit q 2) [(1, q), (1, 0)]
    { s with gst := { s.gst with touch := listed.foldl (fun t x => tput 0 t x s.gst.epoch) s.gst.touch } }

/-- `EPOCH_TICK` (R245): 50 µs pass; `bad` names granules whose touch-array word is found uncorrectable. -/
def execEpochTick (bad : List Nat) (s : State) : Result :=
  .next (
    if !serving s then s
    else bad.foldl (fun t g => touchRewrite g t) { s with gst := { s.gst with epoch := wrapAdd 16 s.gst.epoch 1 } })

/-- A ring is rebuilt from its GST slice after an uncorrectable entry (R247): every dirty granule that the ring serves. -/
def rebuildRing (q : Nat) (s : State) : State :=
  let l := (dirtyGranules s).filter (fun g => quadOf s g == q && !walked s g)
  raise 0x050C (quadUnit q 2) [(1, q), (1, 1)] (setRing q l s)

/-- The entry `g` of a ring moves to the tail. -/
def ringTail (q g : Nat) (s : State) : State := setRing q ((ringOf s q).filter (· ≠ g) ++ [g]) s

/-- The entry `g` leaves its ring. -/
def ringDrop (q g : Nat) (s : State) : State := setRing q ((ringOf s q).filter (· ≠ g)) s

/-- A ready granule captured: it leaves its ring, and comes back where nothing could be placed. -/
def captureReady (g : Nat) (bad : List Nat) (s : State) : State :=
  let s1 := captureRead g bad s
  if !canCapture s1 g then s1
  else
    let s2 := capture g (ringDrop (quadOf s1 g) g s1)
    if gstate s2 g = .inflight then s2 else joinRing g s2

/-- One entry of a ring examined (R247, R249): dropped, recycled, or captured unless the governor defers it or captures pause (R265); a
quadrant whose memory is stopped is woken. -/
def examine (q g : Nat) (bad : List Nat) (s : State) : State :=
  if !isDirty s g then ringDrop q g s
  else if !settled s g then ringTail q g s
  else if !readyNow s g ∨ !streamRuns s then s
  else if !memReady s q ∨ !engReady s q then needDomains 7 (2 ^ q + 2 ^ (4 + q)) s
  else captureReady g bad s

/-- `RING_EXAMINE` (R247, R249): the SDE of quadrant `q` looks at its ring. `err` says that the entry read is uncorrectable, and `bad`
names lines of the granule that its capture finds uncorrectable. An empty ring leaves time for an ownership copy (R399). An SDE that a
power state has stopped looks only where the stream runs. -/
def execRingExamine (q : Nat) (err : Bool) (bad : List Nat) (s : State) : Result :=
  .next (
    if !serving s ∨ !(s.spn.quadEn.testBit q) ∨ (!streamRuns s ∧ !engReady s q) then s
    else
      let s0 := if err then rebuildRing q s else s
      let s1 := match ringFirst s0 q with
        | some g => examine q g bad s0
        | none => match (ringOf s0 q).head? with
          | some g => examine q g bad s0
          | none => if streamRuns s0 then ownershipCopy q s0 else s0
      streamFollow s s1)

/-- The ring entries that come before a SEQUENTIAL region's walk (R249, R181): ready granules of classes 1 and 2, and the region's own
below `SHADOW_PTR`. -/
def beforeWalk (s : State) (r : Nat) : List Nat :=
  ((quadList s).flatMap (ringOf s)).filter (fun g => (topGranule s g || inRegion s r g) && readyNow s g)

/-- `SEQUENTIAL_WALK` (R248): the settled granules of a SEQUENTIAL region that this side serves, from `SHADOW_PTR` on, in offset order,
after those that R249 and R181 put first. -/
def execSequentialWalk (r : Nat) (s : State) : Result :=
  .next (
    if !streamRuns s ∨ 256 ≤ r ∨ !(region s r).entry.sequential ∨ !defined s r ∨ !serves s r then s
    else
      let s1 := refreshShadowPtr r s
      let x := region s1 r
      let last := min x.writePtr (x.shadowPtr + 4096)
      let l := (regionGranules s1 r (fun w => w.st = .dirty || w.st = .redirty)).filter (fun g =>
        decide (firstGranule s1 r + x.shadowPtr ≤ g) && decide (g < firstGranule s1 r + last) && readyNow s1 g)
      let s2 := (captureOrder s1 (beforeWalk s1 r ++ l).eraseDups).foldl (fun t g =>
        if readyNow t g then captureReady g [] t else t) s1
      streamFollow s s2)

/-- `ROW_CLOSE_TIMEOUT` (R253): `ROW_CLOSE_MS` have passed since the first column of the open row of a die position. -/
def execRowCloseTimeout (die : Nat) (s : State) : Result :=
  .next (if s.spn.mode = .dump then s else closeRows (fun r => !r.closed && r.die == die) s)

/-! ### The wear governor (R257, R261) -/

/-- `TOKEN_TICK` (R257): a millisecond passes. It also opens the next slot of the budget's 10 ms (R186) and of the 1 ms count of
uncorrectable lines (R607). -/
def execTokenTick (s : State) : Result :=
  let s0 := budgetTick { s with qdc := s.qdc.map (fun d => { d with ueRecent := 0 }) }
  let d := s0.shd
  let top : Int := ((wearBurst s0 * 1073741824 : Nat) : Int)
  let floor_ : Int := -((d.rate * 86400 : Nat) : Int)
  let raised : Int := min top (d.balance + ((d.rate / 1000 : Nat) : Int))
  let b := max floor_ raised
  let atFloor_ := decide (raised ≤ floor_)
  let s1 := { s0 with shd := { s0.shd with balance := b, balFloor := atFloor_ } }
  .next (if atFloor_ && !d.balFloor then raise 0x0502 0x0D [(4, twos 32 (b / 1048576)), (4, d.rate / 1024)] s1 else s1)

/-- E_mean / `ENDURANCE` in 0.01 %, at most 655.35 % (R261). -/
def lifeUsedOf (s : State) : Nat :=
  let den := blocksInService s * (vaultRec s).endurance
  if den = 0 then 0 else min 65535 (eraseSum s * 10000 / den)

/-- V_rem (R257) in bytes: the page data of a block times the erases left over all in-service blocks. -/
def vRem (s : State) : Nat :=
  let rated := blocksInService s * (vaultRec s).endurance * (100 - wearMargin s)
  (vaultRec s).pagesPerBlock * 16384 * (rated - 100 * eraseSum s) / 100

/-- T_rem (R257), s. -/
def tRem (s : State) : Nat := max 31557600 (designLife s * 31557600 - s.evr.opSec)

/-- The rate, Life Used and elapsed life computed anew (R257, R261): at boot and every second. -/
def rateCompute (s : State) : State :=
  let life := designLife s * 31557600
  { s with shd := { s.shd with
    rate := vRem s / tRem s
    lifeUsed := lifeUsedOf s
    elapsedLife := if life = 0 then 0 else min 65535 (s.evr.opSec * 10000 / life) } }

/-- The conditions of R261 brought up to date, with their events. -/
def lifeConditions (s : State) : State :=
  let d := s.shd
  let ahead := if d.wearAhead then decide (d.elapsedLife + 800 ≤ d.lifeUsed) else decide (d.elapsedLife + 1000 ≤ d.lifeUsed)
  let s1 := if ahead = d.wearAhead then s
    else
      let t := raise 0x0505 0x0D [(2, d.lifeUsed), (2, d.elapsedLife)] { s with shd := { s.shd with wearAhead := ahead } }
      if ahead then hostEvent 1 true 0x0505 0 t else t
  let s2 := if decide (9000 ≤ d.lifeUsed) && !d.life90 then raise 0x0506 0x0D [] { s1 with shd := { s1.shd with life90 := true } } else s1
  if decide (10000 ≤ d.lifeUsed) && !d.life100 then raise 0x0507 0x0D [] { s2 with shd := { s2.shd with life100 := true } } else s2

/-- Write amplification of the last 64 GiB shadowed, once so much has been shadowed (`WA_RECENT`). -/
def waRoll (s : State) : State :=
  if s.shd.recentShadowed < 68719476736 then s
  else { s with shd := { s.shd with
    waRecent := min 65535 (s.shd.recentProgrammed * 100 / s.shd.recentShadowed)
    recentProgrammed := 0
    recentShadowed := 0 } }

/-- `RATE_RECOMPUTE` (R257, R261): a second passes. -/
def execRateRecompute (s : State) : Result :=
  .next (if !s.vlt.mapValid then s else refreshGc (waRoll (lifeConditions (rateCompute s))))

/-- `PROGRAM_COMPLETE` (R172, R251, R347): a service program ends at a page. One that fails while a dump runs loses its die for the rest
of the dump (R289). -/
def execProgramComplete (vpa : Nat) (ok : Bool) (s : State) : Result :=
  let lost := !ok && decide (s.spn.mode = .dump) && (runningOn s (vpaCh vpa) (vpaDie vpa)).contains vpa
  let s0 := programEnd vpa ok (!lost) s
  let s1 := if lost then dumpKick (dumpDieLost (vpaCh vpa) (vpaDie vpa)
      (modVch (vpaCh vpa) (fun c => { c with progFail := satAdd 16 c.progFail 1 }) s0)) else s0
  .next (settleFor (shareFreed s s1) (cmdFollow s (ownCopiesFollow (eraseReady s1))))

end Sys2Proof.Machine
end

