-- ==== Sys2Proof/Machine/Restore.lean ====
section
/-!
DEFINITION. Restore and return to service (09): the map load with the granule states built from it, fetches, the bulk restore, and
RETRY_GRANULE.
-/

namespace Sys2Proof.Machine

/-! ## The map load (R305 to R313) -/

/-- The pair of count and sequence with the highest sequence of AOS, the dumps' commit records and the checkpoint (R295). -/
def shutdownPair (s : State) : Nat × Nat :=
  ((s.vlt.ckpt.map (fun c => (c.dsc, c.dscSeq))).toList
    ++ (s.vlt.dumps.flatMap (fun d => d.quads.filterMap QuadDump.body)).map (fun b => (b.dsc, b.dscSeq))).foldl
    (fun p e => if p.2 < e.2 then e else p) (s.dmp.dsc, s.dmp.dscSeq)

/-- A quadrant's commit record stands and says that its part is whole, with none of the flags that make a dump incomplete (R292,
R363). -/
def partWhole (q : QuadDump) : Bool :=
  q.mark && q.body.any (fun b => b.outcome.testBit 0 && !b.outcome.testBit 1 && !b.outcome.testBit 2 && !b.outcome.testBit 3)

/-- A dump is incomplete for the count: some quadrant's commit record is missing or tells so (R295). -/
def dumpCounts (u : Unread) (d : DumpRec) : Bool :=
  d.quads.any (fun q => !partWhole q || u.marks.contains (d.seq, q.quad))

/-- One quadrant of the dump registers as a dump's records give it. -/
def regsOfQuad (d : QuadDump) : DumpQuad :=
  let delta := d.delta.getD []
  { phase := 7, list := d.list.map Prod.snd, marked := d.mark, record := d.body
    placed := delta.filterMap (fun e => e.2.1.map (fun v => (.data e.1, v)))
    lost := (d.list.map Prod.snd).filterMap (fun e =>
      if e.state = .lost ∨ delta.any (fun x => x.1 = e.granule && x.2.1.isSome) then none else some e.granule) }

/-- The dump registers after a boot without a valid AOS dump progress record: those of the newest commit records. What no commit record
holds reads 0. DESIGN CHOICE (log 140). -/
def dumpRegsLoad (s : State) : State :=
  match ((s.vlt.dumps.filter (fun d => d.quads.any (fun q => q.body.isSome))).mergeSort (fun a b => b.seq ≤ a.seq)).head? with
  | none => s
  | some d =>
    if s.dmp.seq ≠ 0 then s
    else
      let bs := d.quads.filterMap QuadDump.body
      let has (i : Nat) : Bool := bs.any (fun b => b.outcome.testBit i)
      let at_ (q : Nat) : DumpQuad := ((d.quads.find? (fun x => x.quad = q)).map regsOfQuad).getD {}
      let last := (bs.mergeSort (fun a b => b.elapsedUs ≤ a.elapsedUs)).head?
      let s1 := { s with dmp := { s.dmp with
        seq := d.seq, truncated := has 1, alarm := has 2, media := has 3, bounce := has 4, dieLoss := has 5
        complete := d.quads.all partWhole, phase := 7, trigger := (last.map BodyRec.trigger).getD 0
        totalUs := (last.map BodyRec.elapsedUs).getD 0, vEnd := (last.map BodyRec.vBody).getD 0
        vCommit := (last.map BodyRec.vCommit).getD 0, eDrawn := (last.map BodyRec.eDrawn).getD 0
        q0 := at_ 0, q1 := at_ 1, q2 := at_ 2, q3 := at_ 3 } }
      { s1 with dmp := { s1.dmp with priorLost := dumpSum s1 priorLost } }

/-- The Dirty Shutdown Count at a boot (R295): the pair of the highest sequence, then one more where the newest dump or open UNPROTECTED
entry is incomplete and newer. -/
def shutdownAtBoot (u : Unread) (s : State) : State :=
  let p := shutdownPair s
  let s1 := { s with dmp := { s.dmp with dsc := p.1, dscSeq := p.2 } }
  let dumps := s.vlt.dumps.map (fun d => (d.seq, dumpCounts u d))
  let open_ := (openIntervals s (s.vlt.log ++ s.vlt.pendLog)).map (fun e => (e.1, true))
  let newest := (dumps ++ open_).foldl (fun b e => if b.1 < e.1 then e else b) (0, false)
  if newest.2 ∧ p.2 < newest.1 then countShutdown newest.1 s1 else s1

/-- The regions adopted at a restore (R313, R400): those of the pair record in force, else those that the newest dump listing an entry of
the region marks so. -/
def adoptedAtRestore (s : State) : List Nat :=
  match pairInForce s with
  | some r => r.adopted
  | none =>
    (List.range 256).filter (fun r =>
      let l := ((s.vlt.dumps.mergeSort (fun a b => b.seq ≤ a.seq)).map (fun d =>
        (d.quads.flatMap (fun q => q.list.map Prod.snd)).filter (fun e => e.region = r))).filter (fun l => !l.isEmpty)
      match l.head? with
      | some (e :: _) => e.adopted
      | _ => false)

/-- Adoption at a restore. -/
def readopt (s : State) : State :=
  (adoptedAtRestore s).foldl (fun t r => if defined t r then modRegion r (fun x => { x with adopted := true }) t else t) s

/-- What a scan cannot recover (R367): retirements; every block counts at the highest erase count found in its die. -/
def scanLoss (s : State) : State :=
  let most (d : Nat) : Nat := ((s.vlt.segs.filter (fun e => segDie e.1 = d)).map (fun e => e.2.erases)).foldl max 0
  { s with vlt := { s.vlt with
    retired := s.vlt.retired.filter (fun e => s.vlt.factoryBad.contains e.1)
    segs := s.vlt.segs.map (fun e => (e.1, { e.2 with erases := most (segDie e.1) })) } }

/-- The governor's accounts after a cold start (R257, R360, R364, R367): of the newest checkpoint or DELTA pages; after a scan the balance
restarts at 0. -/
def loadAccounts (scan : Bool) (s : State) : State :=
  let mib : Nat := 1048576
  let ck := (s.vlt.ckpt.map (fun c => (c.seq, c.balance, c.debt))).toList
  let dl := (s.vlt.dumps.filter (fun d => d.quads.any (fun q => q.delta.any (fun l => !l.isEmpty)))).map
    (fun d => (d.seq, d.balance * 1048576, d.debt * mib))
  let newest := (ck ++ dl).foldl (fun (b : Nat × Int × Nat) e => if b.1 ≤ e.1 then e else b) (0, 0, 0)
  { s with shd := { s.shd with
    balance := if scan then 0 else newest.2.1
    debt := newest.2.2
    written := ((s.vlt.ckpt.map Ckpt.writtenMib).getD 0) * mib
    shadowed := ((s.vlt.ckpt.map Ckpt.shadowedMib).getD 0) * mib
    saved := ((s.vlt.ckpt.map Ckpt.savedMib).getD 0) * mib } }

/-- The dump reserve as the segment table shows it: erased DUMP segments and one erased TWIN segment, in draw order (R365). -/
def loadReserve (s : State) : State :=
  let l := (s.vlt.segs.filter (fun e => (e.2.kind = .dump || e.2.kind = .twin) && e.2.rows = 0)).mergeSort
    (fun a b => a.2.order ≤ b.2.order)
  let twin := ((l.filter (fun e => e.2.kind = .twin)).map Prod.fst).head?
  { s with vlt := { s.vlt with
    reserve := (l.filter (fun e => e.2.kind = .dump || some e.1 = twin)).map Prod.fst
    segOrder := (s.vlt.segs.map (fun e => e.2.order + 1)).foldl max s.vlt.segOrder } }

/-- The granule states of R313; D is 0, and no program runs. Copies of regions that this side neither owns nor has adopted are given up
(R400). -/
def buildStates (m : Merge) (s : State) : State :=
  let mine := m.map.filter (fun e => ownGranule s e.1)
  let words : List (Nat × GWord) := mine.filterMap (fun e =>
    if e.2.lost then some (e.1, ⟨.lost, false⟩)
    else if e.2.ref ≠ 0 then some (e.1, ⟨.pending, e.2.stale⟩)
    else none)
  let s1 := { s with
    gst := { s.gst with states := words, rsv := [], twin := [], unreserved := [], rebuilt := [], touch := [] }
    vlt := { s.vlt with
      map := mine
      relWait := (m.map.filter (fun e => !ownGranule s e.1 && (e.2.ref ≠ 0 || e.2.lost))).map Prod.fst
      lostWait := (m.lost.map Prod.fst).filter (ownGranule s)
      mapValid := true } }
  (List.range 256).foldl (fun t r =>
    if (region t r).entry.sequential then
      let top := (regionGranules t r (fun w => w.st ≠ .free)).foldl (fun n g => max n (g + 1 - firstGranule t r)) 0
      modRegion r (fun x => { x with writePtr := top, shadowPtr := top }) t
    else t) s1

/-- Event 0x0705 for each quadrant and cause that made granules LOST, and for ignored entries (R309). -/
def reportLost (m : Merge) (s : State) : State :=
  (quadList s).foldl (fun t q =>
    let t1 := [1, 2, 3, 5].foldl (fun (u : State) (c : Nat) =>
      let n := (m.lost.filter (fun e => e.2 = c && quadOf s e.1 = q)).length
      if n = 0 then u else raise 0x0705 0x0E [(1, q), (1, c), (4, n)] u) t
    let k := ((m.ignored.filter (fun e => e.1 = q)).map Prod.snd).foldl (· + ·) 0
    if k = 0 then t1 else raise 0x0705 0x0E [(1, q), (1, 4), (4, k)] t1) s

/-- Dies and channels that failed since the manifest was written are recorded now that the vault's map is there: FAIL entries, the
manifest and the redundancy rebuild (R344, R345). -/
def lateFailures (s : State) : State :=
  match s.vlt.manifest with
  | none => s
  | some m =>
    let chans := (List.range 16).filter (fun c => (vchOf s c).state = 3 && !m.failedCh.testBit c)
    let dies := ((List.range 16).filter (fun c => without (vchOf s c).dieFailed (m.failedDie.getD c 0) ≠ 0)).map
      (fun c => (c, without (vchOf s c).dieFailed (m.failedDie.getD c 0)))
    if chans = [] ∧ dies = [] then s
    else
      let s0 := beforeVault s
      let s1 := chans.foldl (fun t c => startRebuild c none (appendLog (.fail c 0xFF) t)) s0
      let s2 := dies.foldl (fun t e => (setBits 8 e.2).foldl (fun u d => startRebuild e.1 (some d) u) (appendLog (.fail e.1 e.2) t)) s1
      manifestWrite 1 s2

/-- What follows the map in every case: sequence, reserve, rate (R350, R365, R257). -/
def vaultReady (s : State) : State :=
  let s1 := loadReserve { s with vlt := { s.vlt with seq := max s.vlt.seq (s.vlt.highSeq + 1), mapValid := true } }
  let s2 := rateCompute (lateFailures s1)
  if reserveHeld s2 < reserveRows s2 ∨ (reserveTwin s2).isNone then refillReserve (beforeVault s2) else refreshGc s2

/-- One region at UNPARK (R646). -/
def unparkRegion (s : State) (r : Nat) : State :=
  match (region s r).life with
  | .online => beginChecks r s
  | .starting => beginChecks r s
  | .stopping => if (region s r).reArm then beginChecks r (modRegion r (fun x => { x with reArm := false }) s) else setLife r .offline s
  | .offline => s

/-- The restore begins (R300, R329): kind 1 COLD, 3 UNPARK. -/
def restoreBegins (kind : Nat) (scan : Bool) (u : Unread) (m : Merge) (s : State) : State :=
  let above := if scan then 0 else (s.vlt.ckpt.map Ckpt.seq).getD 0
  let newest := ((s.vlt.dumps.filter (fun d => above < d.seq)).map DumpRec.seq).foldl max 0
  let n := (replayLog s above).length
  let s0 := if scan then
      (List.range 11).foldl (fun (t : State) (k : Nat) => raise 0x080F 0x0D [(1, 10 * k)] t) (scanLoss s)
    else s
  let s1 := shutdownAtBoot u (if kind = 1 then loadAccounts scan s0 else s0)
  let s2 := if scan then raise 0x070A 0x0E [] s1 else s1
  let s3 := raise 0x0703 0x0E [(1, kind), (4, newest)] s2
  let t := elapsedNow 32 s3
  let s4 := useFree (raise 0x0704 0x0E [(8, above), (4, n), (4, t)] s3)
  let s5 := reportLost m (buildStates m s4)
  vaultReady { s5 with dmp := { s5.dmp with
    kind := kind, rphase := 3, srcDumpSeq := newest, scanRebuilt := scan, markMissing := m.missing, unprotLoss := m.unprot
    restored := 0, lostAtRestore := s5.vlt.lostWait.length, bulkMs := 0, openUs := t, cpktSeq := above, replayed := n
    fetching := [], bulk := [], lineFix := [], retry := none } }

/-- The pair goes on with the rejoin where it waited for the granule states (R401). -/
def pairFollows (s : State) : State := if s.kor.state = .training ∧ mayRejoin s then rejoin s else s

/-- UNPARK's end (R302, R573, R646): RESTORE in P0, the regions, the command. -/
def unparkEnds (s : State) : State :=
  let s1 := setMode .restore 0x0703 (setPstate 0 0 { s with pwr := { s.pwr with vaultEmpty := false } })
  let s2 := (List.range 256).foldl unparkRegion s1
  let s3 := if s2.vlt.bootEntry then
      s2.vlt.lostWait.foldl (fun t g => appendLog (.lost g) t) { s2 with vlt := { s2.vlt with lostWait := [] } }
    else s2
  let s4 := bgEnd 0xC005 .success 0 [] s3
  settle (bulkFollow (pairFollows s4))

/-- `MAP_LOADED` (R305, R311, R313): the map load ends. `ckptOk` says that a checkpoint could be read whole, `scanOk` that otherwise the
scan rebuilt the map; `noMark` and `noHeader` name quadrants of dumps whose body or marks, or list header, cannot be read, `unread` the
pages whose read fails. An UNPARK whose load fails ends with Internal Error and extended status 0, the table naming no code for it.
DESIGN CHOICE (log 35). -/
def execMapLoaded (ckptOk scanOk : Bool) (noMark noHeader : List (Nat × Nat)) (unread : List Nat) (s : State) : Result :=
  .next (
    let boot := decide (s.spn.mode = .boot ∧ s.img.bootStep = 15)
    let unpark := decide (s.spn.mode = .parked) && bgRuns s 0xC005 && s.pwr.memEn && !(s.qdc.any (fun d => d.state = 1))
    let u : Unread := ⟨noMark, noHeader, unread⟩
    if !boot && !unpark then s
    else if boot && !vaultLive s then
      let s1 := vaultReady (loadAccounts false (shutdownAtBoot u (readopt (dumpRegsLoad s))))
      let s2 := { s1 with dmp := { s1.dmp with kind := 0, rphase := 0 } }
      settle (pairFollows (finishBoot (if testBoot s2 then .test else .service) 0x0101 s2))
    else
      let s0 := if boot then readopt (dumpRegsLoad s) else s
      let scan := !(ckptOk && s0.vlt.ckpt.isSome)
      if scan && !scanOk then
        let s1 := raise 0x0702 0x0E [] s0
        toRecovery 0x0702 (if unpark then bgEnd 0xC005 .internalError 0 [] s1 else s1)
      else
        let m := if scan then mergeScan s0 u
          else mergeFrom s0 u ((s0.vlt.ckpt.map Ckpt.seq).getD 0) ((s0.vlt.ckpt.map Ckpt.map).getD [])
        let s1 := restoreBegins (if boot then 1 else 3) scan u m s0
        if boot then settle (bulkFollow (pairFollows (finishBoot .restore 0x0703 s1)))
        else unparkEnds s1)

/-! ## Fetches (R315 to R319) -/

/-- The granule of a DPA's page is asked for: on demand, in bulk, as a merge of the dump, or for the repair of a line. -/
def fetchWanted (s : State) (g : Nat) : Bool :=
  if s.spn.mode = .dump then s.dmp.merges.contains g
  else serving s && (s.dmp.fetching.contains g || s.dmp.bulk.contains g || s.dmp.lineFix.any (fun l => granuleOf l = g))

/-- The read of a page is counted: on its channel, and where it was rebuilt as a reconstruction with event 0x0807. -/
def noteRead (v : Nat) (rebuilt : Bool) (s : State) : State :=
  let s1 := modVch (vpaCh v) (fun c => { c with readPages := wrapAdd 64 c.readPages 1 }) s
  if rebuilt then
    raise 0x0807 (quadUnit (vpaCh v / 4) (4 + vpaCh v % 4)) [(5, v), (1, flag (!dieOk s (vpaCh v) (vpaDie v)))]
      (modVch (vpaCh v) (fun c => { c with rebuilds := satAdd 16 c.rebuilds 1 }) s1)
  else s1

/-- The lines of a granule that wait for its page are repaired from it where they still carry their mark (R605). -/
def fixLines (g : Nat) (d : GranuleData) (tagOk : Bool) (s : State) : State :=
  let lines := s.dmp.lineFix.filter (fun l => granuleOf l = g)
  lines.foldl (fun t l =>
    let may := tagOk && decide (gstate t g = .shadowed) && linePoisoned t l
    let off := (l - g * 256) * 64
    let v : BitVec 512 := (List.range 64).foldl (fun (a : BitVec 512) (i : Nat) =>
      a ||| ((tget (0 : BitVec 8) d.cells (off + i)).setWidth 512 <<< (8 * i))) 0
    let t1 := if may then
        (List.range 8).foldl (fun (x : State) (w : Nat) =>
          if d.poison.contains (off / 8 + w) then x else storeLine l v (255 * 2 ^ (8 * w)) x) t
      else t
    repairOutcome l 2 (tagOk && !linePoisoned t1 l)
      { t1 with dmp := { t1.dmp with lineFix := t1.dmp.lineFix.filter (· ≠ l) } }) s

/-- A granule whose page failed its tag (R318): POISON, on the poison list, and the automatic repair of R326. -/
def fetchPoison (g v : Nat) (s : State) : State :=
  let s1 := tagFailed v (setGState g .poison s)
  let s2 := msix 10 (raise 0x0706 0x0E [(5, g * 16384)] { s1 with dmp := { s1.dmp with tagFails := satAdd 16 s1.dmp.tagFails 1 } })
  if partnerRepairOk s2 g then askPartner g none s2 else s2

/-- The merge of a dump (R279): the page is loaded, or its lines poisoned, and the host's lines of the granule are stored over it in
order. -/
def mergePage (g : Nat) (d : GranuleData) (tagOk : Bool) (s : State) : State :=
  let s1 := if tagOk then loadGranule g d s else poisonGranule g s
  let s2 := (s1.hlk.writes.filter (fun w => granuleOf w.line = g && !w.inDram && !w.released)).foldl (fun t w =>
    let t1 := if w.poisoned then poisonLine w.line true t else storeLine w.line w.data w.mask t
    modWrite w.tag (fun x => { x with inDram := true }) t1) s1
  dumpKick { s2 with dmp := { s2.dmp with merges := sdel s2.dmp.merges g, fetching := s2.dmp.fetching.filter (· ≠ g) } }

/-- `FETCH_COMPLETE` (R172, R316 to R319, R322): the fetch of granule `g` ends its tag check after `us` µs; `tagOk` says that what was
read passes its tag, the keys being those of its program (R434); `rebuilt` that its page was rebuilt from its row. -/
def execFetchComplete (g : Nat) (tagOk rebuilt : Bool) (us : Nat) (s : State) : Result :=
  .next (match pageAt s (mapOf s g).vpa with
    | none => s
    | some p =>
      if !fetchWanted s g then s
      else
        let v := (mapOf s g).vpa
        let key := p.region
        let good := tagOk && readPasses s v p rebuilt
        let d := areaData s v p (readArea s v p rebuilt)
        let demand := s.dmp.fetching.contains g
        let drop (t : State) : State := { t with dmp := { t.dmp with
          fetching := t.dmp.fetching.filter (· ≠ g), bulk := t.dmp.bulk.filter (· ≠ g) } }
        if encrypted s key && (slotOf s key).st ≠ .on then
          if s.spn.mode = .dump then mergePage g ⟨[], []⟩ false (noteRead v rebuilt s) else drop s
        else
          let s0 := noteRead v rebuilt s
          let s1 := if encrypted s key then
              cipEndOp .decrypt g (cipSubmit ⟨.decrypt, .save, key, quadOf s g, g⟩ s0)
            else s0
          if s.spn.mode = .dump then
            mergePage g d good (if good then s1
              else tagFailed v { s1 with dmp := { s1.dmp with tagFails := satAdd 16 s1.dmp.tagFails 1 } })
          else
            let s2 := if demand then
                let t := { s1 with dmp := { s1.dmp with fetchMaxUs := max s1.dmp.fetchMaxUs (min us (2 ^ 32 - 1)) } }
                if 400 < us then raise 0x070B 0x0E [(5, g * 16384), (4, us)] t else t
              else s1
            let s3 := drop s2
            let s4 := if gstate s3 g ≠ .pending then s3
              else if good then
                let t := setGState g .shadowed (loadGranule g d s3)
                { t with dmp := { t.dmp with restored := t.dmp.restored + 1 } }
              else fetchPoison g v s3
            settle (bulkFollow (resendKick (resumeWrites (fixLines g d good s4)))))

/-! ## Bulk restore (R320, R323, R324) -/

/-- The granule a quadrant's bulk restore takes next: restore priority, then region, then local granule, of ONLINE regions. -/
def bulkNext (s : State) (q : Nat) : Option Nat :=
  let l := (List.range 256).filter (fun r => (region s r).life = .online)
  let order := l.mergeSort (fun a b => (region s a).entry.restPrio ≤ (region s b).entry.restPrio)
  (order.flatMap (fun r => (regionGranules s r (fun w => w.st = .pending)).filter (fun g =>
    quadOf s g = q && !(s.dmp.fetching.contains g) && !(s.dmp.bulk.contains g)))).head?

/-- A fetch waits for the die that holds a granule's copy (R315). -/
def dieWanted (s : State) (g : Nat) : Bool :=
  let v := (mapOf s g).vpa
  s.dmp.fetching.any (fun f => vpaCh (mapOf s f).vpa = vpaCh v && vpaDie (mapOf s f).vpa = vpaDie v)

/-- `BULK_RESTORE_ISSUE` (R320): the SDE of quadrant `q` issues its next bulk read, unless a fetch waits for its die (R315). -/
def execBulkRestoreIssue (q : Nat) (s : State) : Result :=
  .next (if !serving s || s.dmp.rphase < 3 || 4 ≤ q then s
    else match bulkNext s q with
      | none => s
      | some g => if dieWanted s g then s else needDomains 9 (2 ^ (4 + q)) { s with dmp := { s.dmp with bulk := s.dmp.bulk ++ [g] } })

/-! ## RETRY_GRANULE (R325) -/

/-- A rebuilt granule (R325): its plaintext goes to DRAM, it is SHADOWED, and a new vault copy of its page is programmed. -/
def retryRebuilt (g : Nat) (p : Page) (s : State) : State :=
  let v := (mapOf s g).vpa
  let s3 := relocatePage g (setGState g .shadowed (loadGranule g (areaData s v p (readArea s v p true)) (beforeVault s)))
  msix 10 { s3 with hlk := { s3.hlk with injected := sdel s3.hlk.injected g } }

/-- `RETRY_GRANULE` (R325, R129): one POISON granule of an ONLINE region, named by its DPA, is rebuilt from the vault, or taken from the
partner; `rebuilt` says whether its page was rebuilt and passed its tag. -/
def execRetryGranule (via : Via) (dpa : Nat) (rebuilt : Bool) (s : State) : Result :=
  .next (vendor via 0xC00C [.restore, .service, .test] false true (fun t =>
    match rangeRegion t dpa 16384 with
    | .inr e => vendorRefuse via 0xC00C .invalidInput e t
    | .inl _ =>
      let g := dpa / 16384
      let t1 := bgStart via 0xC00C { t with dmp := { t.dmp with retry := some g } }
      if gstate t1 g ≠ .poison then retryEnd g 3 t1
      else match pageAt t1 (mapOf t1 g).vpa with
        | none => if partnerRepairOk t1 g then askPartner g none t1 else retryEnd g 2 t1
        | some p =>
          let v := (mapOf t1 g).vpa
          if rebuilt && (!encrypted t1 p.region || (slotOf t1 p.region).st = .on) && rebuildPasses t1 v p then
            settle (retryEnd g 0 (retryRebuilt g p (noteRead v true t1)))
          else if partnerRepairOk t1 g then askPartner g none (noteRead v false t1)
          else retryEnd g 2 (noteRead v false t1)) s)

end Sys2Proof.Machine
end

