-- ==== Sys2Proof/Machine/Regions.lean ====
section
/-!
DEFINITION. The region lifecycle commands (04) and the live re-application of REGIONS, POOLS and EVENTS (02, 14).
-/

namespace Sys2Proof.Machine

/-! ## Live re-application (R92 to R100) -/

/-- An undefined REGIONS entry. -/
def noEntry : RegionEntry := ⟨0, 0, false, .loc, .native, false, 0, 0, 0, 0, 0⟩

/-- The entry an image gives region `r`. -/
def newEntry (img : ActiveImage) (r : Nat) : RegionEntry := img.regions.getD r noEntry

/-- The class of a change (R94): 0 none, 1 in place, 2 Stop, 3 Empty. -/
def changeClass (a b : RegionEntry) : Nat :=
  if a = b then 0
  else if a.base ≠ b.base ∨ a.size ≠ b.size ∨ a.sequential ≠ b.sequential ∨ a.key ≠ b.key ∨ a.sideB ≠ b.sideB then 3
  else if a.ack ≠ b.ack then 2
  else 1

/-- Every granule of an entry's span is FREE. -/
def spanFree (s : State) (e : RegionEntry) : Bool :=
  s.gst.states.all (fun x => !(decide (e.base * 16384 ≤ x.1 ∧ x.1 < (e.base + e.size) * 16384)) || x.2.st = .free)

/-- The old and the new span of a changed region are FREE (R94, R95). -/
def spansFree (s : State) (img : ActiveImage) (r : Nat) : Bool :=
  spanFree s (region s r).entry && spanFree s (newEntry img r)

/-- The regions an image changes, ascending. -/
def changedRegions (s : State) (img : ActiveImage) : List Nat :=
  (List.range 256).filter (fun r => (region s r).entry ≠ newEntry img r)

/-- A request is refused (R92, R93, R95): event 0x0109 and vector 12. -/
def liveRefuse (cause r : Nat) (s : State) : State :=
  msix 12 (raise 0x0109 0x0C [(1, cause), (1, r)]
    { s with img := { s.img with liveState := 4, liveCause := cause, currentRegion := r, liveGo := false } })

/-- A slice changes state during a re-carving: event 0x0C04 (R482). -/
def setSlice (q : Nat) (st : RunState) (s : State) : State :=
  raise 0x0C04 0x08 [(1, q), (1, runCode (s.tsk.slices.getD q .off)), (1, runCode st)]
    { s with tsk := { s.tsk with slices := s.tsk.slices.set q st } }

/-- The next slice whose carving differs stops; with none left the new carving is ON, event 0x0C06 (R482). -/
def carveNext (c : Carving) (s : State) : State :=
  match (List.range 4).find? (fun q => carvingOf s q ≠ c) with
  | some q => setSlice q .stopping s
  | none =>
    raise 0x0C06 0x08 [] { s with tsk := { s.tsk with unit := .on, next := none, saveRsv := min s.tsk.saveRsv (saveRsvMax s) } }

/-- A carving is handed to the allocator (R100, R482, R483); slices that have it already are not carved again. -/
def carveStart (c : Carving) (s : State) : State :=
  if (List.range 4).all (fun q => carvingOf s q = c) then s
  else carveNext c { s with tsk := { s.tsk with
    unit := .stopping, next := some c, recarved := maskOf ((List.range 4).filter (fun q => carvingOf s q = c)) } }

/-- The re-application is DONE (R100, R541): the named image is the active one, S6 takes its digest, and the pair's digests are compared
again (R101). -/
def liveDone (img : ActiveImage) (s : State) : State :=
  let s1 := { s with img := { s.img with
    active := img, activeSlot := s.img.liveSlot, liveState := 3, liveCause := 0, liveImage := none, livePools := false } }
  let s2 := measure 6 s1.img.liveDigest s1
  let s3 := { s2 with sig := { s2.sig with digests := s2.sig.digests.set 5 (BitVec.ofNat 384 (leValue s1.img.liveDigest)) } }
  msix 12 (raise 0x0108 0x0C [(1, s3.img.activeSlot), (4, img.version)] (compareDigests (sendDigests s3)))

/-- A region's new entry takes effect (R94); an Empty-class change is followed by the manifest (R353) and starts the region's pointers anew. -/
def replaceEntry (r : Nat) (e : RegionEntry) (empty : Bool) (s : State) : State :=
  let s1 := modRegion r (fun x => { x with
    entry := e, liveStop := false, reArm := false
    writePtr := if empty then 0 else x.writePtr, shadowPtr := if empty then 0 else x.shadowPtr
    adopted := if empty then false else x.adopted }) s
  let s2 := refreshCdat (refreshEff s1)
  if empty then manifestWrite 2 s2 else s2

/-- The region being handled is done: event 0x0107, and the next one is taken up. -/
def regionHandled (r : Nat) (s : State) : State :=
  raise 0x0107 0x0C [(1, r), (1, s.img.liveClass - 1)]
    { s with img := { s.img with regionsDone := s.img.regionsDone + 1, liveLeft := s.img.liveLeft.drop 1, liveClass := 0 } }

/-- A changed region is taken up: it stops, unless the change is made in place. -/
def takeUp (r : Nat) (img : ActiveImage) (s : State) : State :=
  let c := changeClass (region s r).entry (newEntry img r)
  let s1 := { s with img := { s.img with currentRegion := r, liveClass := c } }
  if c ≤ 1 then regionHandled r (replaceEntry r (newEntry img r) false s1)
  else
    let t := if (region s1 r).life = .starting then stopReq r s1 else stopRegion r s1
    if (region t r).life = .stopping then modRegion r (fun x => { x with liveStop := true }) t else t

/-- What a stopped region does (R94, R96): an Empty-class span that is not FREE ends the re-application, and the region restarts with its
old entry; else the entry is replaced and a defined region restarts. A region that was OFFLINE before the re-application is started by it
too. DESIGN CHOICE (log 119). -/
def handleStopped (r : Nat) (img : ActiveImage) (s : State) : State :=
  if s.img.liveClass = 3 ∧ !spansFree s img r then
    compareDigests (liveAbort 0x11 (if defined s r then beginChecks r s else s))
  else
    let t := replaceEntry r (newEntry img r) (s.img.liveClass = 3) s
    if defined t r then beginChecks r t else t

/-- One thing that a running re-application can do now (R96, R100); none while it waits. -/
def liveStep (s : State) : Option State :=
  if s.img.liveState ≠ 2 then none
  else match s.img.liveImage with
    | none => none
    | some img =>
      match s.img.liveLeft with
      | r :: _ =>
        if s.img.liveClass = 0 then some (takeUp r img s)
        else if (region s r).entry ≠ newEntry img r then
          if (region s r).life = .offline then some (handleStopped r img s) else none
        else if (region s r).life = .starting then none
        else some (regionHandled r s)
      | [] =>
        if s.img.livePools then (if s.tsk.unit = .on then some (liveDone img s) else none)
        else some (carveStart (carvingFrom (if img.pools = [] then defaultPools else img.pools))
          { s with img := { s.img with livePools := true, active := { s.img.active with events := img.events } } })

/-- The re-application goes on as far as it can. -/
def liveLoop : Nat → State → State
  | 0, s => s
  | n + 1, s =>
    match liveStep s with
    | none => s
    | some t => liveLoop n t

/-- What follows a lifecycle change: the re-application, the bulk restore, the data path. -/
def lifeFollow (s : State) : State := settle (bulkFollow (liveLoop 1100 s))

/-- A live request (R92): refused with cause 0x13 while one runs, and in every mode but SERVICE and TEST. -/
def liveRequest (slot op : Nat) (s : State) : State :=
  let named := { s with img := { s.img with liveSlot := slot % 2, liveOp := op } }
  if s.img.liveState = 1 ∨ s.img.liveState = 2 then
    msix 12 (raise 0x0109 0x0C [(1, 0x13), (1, s.img.currentRegion)] s)
  else if !modeIn [.service, .test] s then liveRefuse 0x13 0 named
  else { named with img := { named.img with liveState := 1, liveCause := 0, liveGo := true, regionsTotal := 0, regionsDone := 0,
                                            currentRegion := 0 } }

/-- `LIVE_CHECK` (R92, R102): a write of `IMG_LIVE_CTRL` with `OP` = CHECK and `GO`. -/
def execLiveCheck (slot : Nat) (s : State) : Result := .next (if s.pwr.corePg then liveRequest slot 1 s else s)

/-- `LIVE_APPLY` (R92): a write of `IMG_LIVE_CTRL` with `OP` = APPLY and `GO`. -/
def execLiveApply (slot : Nat) (s : State) : Result := .next (if s.pwr.corePg then liveRequest slot 2 s else s)

/-- `IMAGE_CHECKS_DONE` (R93, R95, R96, R103): the checks of a CHECK or APPLY request end. -/
def execImageChecksDone (s : State) : Result :=
  .next (if s.img.liveState ≠ 1 then s
    else
      let slot := s.img.liveSlot
      let c := checkSlot slot s
      let (bad, _, rs) := checkRecords c.bytes
      let cause := if c.cause ≠ 0 then c.cause else bad
      let reg := slotRegOf { c with cause := cause }
      let s0 := { s with img := { s.img with
        liveGo := false
        slotA := if slot = 0 then reg else s.img.slotA
        slotB := if slot = 1 then reg else s.img.slotB } }
      let s1 := if cause = 0 then (skippedTypes rs).foldl (fun t ty => raise 0x0105 0x0C [(1, ty)] t) s0 else s0
      if s.img.liveOp = 1 then
        { s1 with img := { s1.img with liveState := if cause = 0 then 3 else 4, liveCause := cause } }
      else
        let img := imageOf c.bytes rs
        let changed := changedRegions s1 img
        let empty := changed.filter (fun r => changeClass (region s1 r).entry (newEntry img r) = 3)
        if cause ≠ 0 then liveRefuse cause 0 s1
        else if img.version ≤ s1.img.active.version then liveRefuse 0x12 0 s1
        else if img.records ≠ s1.img.active.records then liveRefuse 0x10 0 s1
        else match empty.find? (fun r => !spansFree s1 img r) with
          | some r => liveRefuse 0x11 r s1
          | none =>
            lifeFollow (raise 0x0106 0x0C [(1, slot), (4, img.version)] { s1 with img := { s1.img with
              liveState := 2, liveImage := some img, liveLeft := changed, regionsTotal := changed.length, regionsDone := 0
              livePools := false, liveClass := 0, liveDigest := sha384 c.bytes } }))

/-- The descriptors of slice `q` under a new carving: buffers that overlap a quarantined one stay quarantined (R482). -/
def recarve (q : Nat) (c : Carving) (s : State) : State :=
  let old := s.tsk.descs.filter (fun e => e.1 / 2 ^ 22 = q)
  let bad := (old.filter (fun e => e.2.dstate = 2)).map (fun e => (e.1, poolBuf ((ptrPool s e.1).getD 0)))
  let s1 := { s with tsk := { s.tsk with carvings := s.tsk.carvings.set q c
                                         descs := s.tsk.descs.filter (fun e => e.1 / 2 ^ 22 ≠ q) } }
  let hit := (List.range 4).flatMap (fun i => (poolPtrs s1 q i).filter (fun p =>
    bad.any (fun b => p < b.1 + b.2 && b.1 < p + poolBuf i)))
  hit.foldl (fun t p => setDesc p ⟨2, 0, 0, 0⟩ t) s1

/-- `SLICE_DRAINED` (R482, R483): every buffer of the stopping slice is FREE or QUARANTINED; it takes its new carving. -/
def execSliceDrained (q : Nat) (s : State) : Result :=
  .next (match s.tsk.next with
    | none => s
    | some c =>
      if s.tsk.slices.getD q .off ≠ .stopping ∨ s.tsk.descs.any (fun e => e.1 / 2 ^ 22 = q && e.2.dstate = 1) then s
      else
        let s1 := setSlice q .on (setSlice q .starting (recarve q c s))
        let s2 := { s1 with tsk := { s1.tsk with recarved := setBit s1.tsk.recarved q } }
        if s2.img.livePools then liveLoop 1100 (carveNext c s2)
        else { s2 with tsk := { s2.tsk with unit := .on, next := none, saveRsv := min s2.tsk.saveRsv (saveRsvMax s2) } })

/-! ## Starts and stops (R165 to R167) -/

/-- `REGION_START` (R165, R166): a write of `START` for the selected region. In DUMP it is rejected (R44), in other modes than RESTORE,
SERVICE and TEST without effect. -/
def execRegionStart (s : State) : Result :=
  .next (if s.spn.mode = .dump then rejectInDump s
    else if !serving s then s
    else lifeFollow (startRegion s.wrp.regionIdx s))

/-- `REGION_STOP` (R165, R166): a write of `STOP` for the selected region. -/
def execRegionStop (s : State) : Result :=
  .next (if s.spn.mode = .dump then rejectInDump s
    else if !serving s then s
    else lifeFollow (stopReq s.wrp.regionIdx s))

/-- `START_CHECKS_COMPLETE` (R165, R167): the start checks of a region end, unless the partner has not answered yet or the region's own
derivation still runs (R449). -/
def execStartChecksComplete (r : Nat) (s : State) : Result :=
  .next (if !serving s ∨ (region s r).life ≠ .starting ∨ s.kor.opening.contains r
      ∨ (encrypted s r ∧ (slotOf s r).st = .starting) then s
    else lifeFollow (match startCode s r with
      | none => goOnline r s
      | some c => endStart r c s))

/-- `START_CHECK_TIMEOUT` (R167, R385): the partner has not confirmed within 50 µs. -/
def execStartCheckTimeout (r : Nat) (s : State) : Result :=
  .next (if !serving s ∨ (region s r).life ≠ .starting ∨ !(s.kor.opening.contains r) then s
    else lifeFollow (endStart r 2 s))

/-- The granules of a region that has been given back are SHADOWED mirror copies; what is not in DRAM is no copy (R404). -/
def giveCopies (r : Nat) (s : State) : State :=
  (regionGranules s r (fun w => w.st ≠ .free)).foldl (fun t g =>
    dropRsv g (if gstate t g = .shadowed then setStale g false t else setWord g freeWord t)) s

/-- An adopted region that has stopped in MIRRORED is given back to its owner (R404). -/
def giveBack (r : Nat) (s : State) : State :=
  let s1 := modRegion r (fun x => { x with adopted := false }) s
  let s2 := giveCopies r (pairWrite (adoptedRegions s1) s1.kor.record.partnerMepoch s1)
  refreshEff (sendMsg (.giveBack r) { s2 with kor := { s2.kor with gaveBack := sins r s2.kor.gaveBack } })

/-- A region in CONFLICT that has stopped here ends the CONFLICT (R403): its copies are released and this side is the mirror side. -/
def yieldConflict (r : Nat) (s : State) : State :=
  let held := (region s r).adopted
  let s1 := setConflict r false (flushLog (releaseSpan r s))
  if held then
    let s2 := modRegion r (fun x => { x with adopted := false }) s1
    refreshEff (sendMsg (.giveBack r) (pairWrite (adoptedRegions s2) s2.kor.record.partnerMepoch s2))
  else sendMsg (.adoptReply r 0) s1

/-- `REGION_DRAINED` (R165, R403, R404): a STOPPING region holds nothing dirty. With `RE_ARM` it starts again; else it is OFFLINE, which ends
a CONFLICT or, in MIRRORED, an adoption. -/
def execRegionDrained (r : Nat) (s : State) : Result :=
  .next (if !serving s ∨ (region s r).life ≠ .stopping ∨ !regionDrained s r then s
    else if (region s r).reArm ∧ !(region s r).liveStop then
      lifeFollow (beginChecks r (modRegion r (fun x => { x with reArm := false }) s))
    else
      let live := (region s r).liveStop
      let s1 := setLife r .offline (modRegion r (fun x => { x with reArm := false, liveStop := false }) s)
      lifeFollow (if live then s1
        else if inConflict s1 r then yieldConflict r s1
        else if (region s1 r).adopted ∧ s1.kor.state = .mirrored then giveBack r s1
        else s1))

end Sys2Proof.Machine
end

