-- ==== Sys2Proof/Machine/AlarmCipher.lean ====
section
/-!
DEFINITION. The alarms of the cipher engine and their acknowledgement (R461 to R464, R291).
-/

namespace Sys2Proof.Machine

/-- An alarm source acts: bits 2 and 3 always, the others by `ALARM_EN` (R81, R461). -/
def alarmEnabled (s : State) (src : Nat) : Bool :=
  src = 2 || src = 3 || (src < 5 && s.img.active.security.alarmEn.testBit src)

/-- The capture of a granule in a row is undone: its column programs nothing of it. -/
def dropCapture (g : Nat) (s : State) : State :=
  { s with shd := { s.shd with rows := s.shd.rows.map (fun r => { r with cols := r.cols.map (dropCol g) }) } }

/-- An aborted ENCRYPT has programmed nothing (R463): in service the granule stays in the dirty set; in a dump its entry is lost. -/
def abortEncrypt (o : CipOp) (s : State) : State :=
  let g := o.granule
  if s.spn.mode = .dump then
    let q := quadOf s g
    match (dumpQuad s q).running.find? (fun e => e.1 = .data g) with
    | none => s
    | some e =>
      entryLost q g (modDumpQuad q (fun d => { d with running := d.running.filter (fun x => x.1 ≠ .data g) })
        { s with vlt := { s.vlt with pages := s.vlt.pages.filter (fun x => x.1 ≠ e.2) } })
  else if o.cls = .twin then
    granuleFailed g { s with shd := { s.shd with
      twins := s.shd.twins.map (fun t => if t.granule = g then { t with discard := true } else t) } }
  else granuleFailed g (dropCapture g s)

/-- Every running and waiting operation of the cores is aborted (R462). -/
def abortOps (s : State) : State :=
  let ops := s.cip.cores.filterMap id ++ s.cip.queue
  let s1 := { s with cip := { s.cip with cores := List.replicate 8 none, queue := [] } }
  (ops.filter (fun o => o.kind = .encrypt)).foldl (fun t o => abortEncrypt o t) s1

/-- Slots 0 to 260 are zeroized and OFF, the staging is cleared and the Clasp released (R438, R462). -/
def eraseKeys (s : State) : State :=
  let s1 := (List.range 261).foldl (fun t i =>
    let u := modSlot i (fun k => { k with key := [], hash := [], stage := none, binding := none, reArm := false }) t
    if (slotOf u i).st = .off then u else setSlot i .off u) s
  let s2 := if s1.cip.owner = 0 then s1 else claspRelease s1
  { s2 with cip := { s2.cip with staging := [] } }

/-- Granules of a set of regions that a running dump has still to encrypt: listed ones, or the dirty ones before the lists stand. -/
def dumpToEncrypt (s : State) (rs : List Nat) : Nat :=
  ((quadList s).map (fun q =>
    let d := dumpQuad s q
    if d.phase < 3 then ((dirtyGranules s).filter (fun g => quadOf s g = q && rs.any (fun r => inRegion s r g))).length
    else (d.left.filter (fun e => rs.contains e.region && e.state ≠ .lost)).length)).foldl (· + ·) 0

/-- Key slots erased during a dump (R291, R646): no page of those regions is encrypted any more; `ALARM` and event 0x0607 with the regions
as their number and the entries lost. -/
def dumpKeysLost (rs : List Nat) (s : State) : State :=
  let n := dumpToEncrypt s rs
  let s1 := rs.foldl (fun t r => modRegion r (fun x => { x with keyErased := true }) t)
    { s with dmp := { s.dmp with keyLost := rs.foldl (fun l r => sins r l) s.dmp.keyLost } }
  if n = 0 then s1 else raise 0x0607 0x0E [(2, rs.length), (4, n)] (setAlarmLoss s1)

/-- An alarm acts (R462): operations aborted, keys erased, NATIVE and DERIVED regions stopped, the latch and the source set. -/
def alarmFire (src : Nat) (s : State) : State :=
  let rs := (List.range 256).filter (fun r => defined s r && encrypted s r)
  let erased := rs.filter (fun r => (slotOf s r).st ≠ .off)
  let s1 := eraseKeys (abortOps s)
  let s2 := raise 0x0B09 0x07 [(1, setBit s1.cip.alarmSrc src)] { s1 with cip := { s1.cip with
    alarmLatch := true, alarmSrc := setBit s1.cip.alarmSrc src
    alarmNow := if src = 2 then setBit s1.cip.alarmNow 2 else s1.cip.alarmNow } }
  if s2.spn.mode = .dump then dumpKick (dumpKeysLost erased s2)
  else if serving s2 then lifeFollow (rs.foldl (fun t r => stopRegion r t) s2)
  else s2

/-- `ALARM` (R461, R462): a source fires. -/
def execAlarm (src : Nat) (s : State) : Result :=
  .next (if !s.pwr.corePg ∨ !alarmEnabled s src then s else alarmFire src s)

/-- A source of the latched alarm still holds (R461): the junction, unless it is below 115 °C, and TAMPER_N. -/
def alarmHolds (cool : Bool) (s : State) : Bool :=
  (s.cip.alarmNow.testBit 2 && !cool) || (s.cip.alarmSrc.testBit 4 && s.pwr.tamperFilter.st = .asserted)

/-- `ALARM_ACK` (R464): the latch clears only if every source has cleared; the OTP root is loaded again and the derivations of root 0 run.
`cool` says that the junction is below 115 °C. -/
def execAlarmAck (cool : Bool) (s : State) : Result :=
  .next (if !s.pwr.corePg ∨ !s.cip.alarmLatch ∨ alarmHolds cool s then s
    else deriveBound 0 (loadOtpRoot { s with cip := { s.cip with alarmLatch := false, alarmSrc := 0, alarmNow := 0 } }))

end Sys2Proof.Machine
end

