-- ==== Sys2Proof/Machine/Background.lean ====
section
/-!
DEFINITION. The background vendor commands of the Peat stream, the dump, the gauge and the power states (R129, R269, R571 to R573, R302,
R224, R240, R567, R569).
-/

namespace Sys2Proof.Machine

/-- The wake kind of a command by its CCI (R577): 2 mailbox doorbell, 3 MCTP command. -/
def viaKind : Via → Nat
  | .primary => 2
  | .mctp => 3

/-- The stopped domains that the captures of a command need are woken (R569). -/
def wakeScope (kind : Nat) (p : Nat → Bool) (s : State) : State :=
  let qs := ((cmdScope s p).map (quadOf s)).eraseDups
  needDomains kind (maskOf (qs.flatMap (fun q => [q, 4 + q]))) s

/-- `SHADOW_RANGE` (R269, R270, R130): a byte range within one ONLINE region. -/
def execShadowRange (via : Via) (dpa len : Nat) (s : State) : Result :=
  .next (vendor via 0xC002 [.restore, .service, .test] false true (fun t =>
    match rangeRegion t dpa len with
    | .inr e => vendorRefuse via 0xC002 .invalidInput e t
    | .inl _ =>
      let p (g : Nat) : Bool := decide (dpa / 16384 ≤ g ∧ g < (dpa + len) / 16384)
      settle (cmdStart 0xC002 p (wakeScope (viaKind via) p (bgStart via 0xC002 t)))) s)

/-- `BARRIER` (R269, R270, R130): the device, or one region. A region that is not defined is refused as a range in no region. -/
def execBarrier (via : Via) (scope : Option Nat) (s : State) : Result :=
  .next (vendor via 0xC003 [.restore, .service, .test] true true (fun t =>
    match scope with
    | none =>
      settle (cmdStart 0xC003 (fun _ => true) (wakeScope (viaKind via) (fun _ => true) (bgStart via 0xC003 t)))
    | some r =>
      if !defined t r then vendorRefuse via 0xC003 .invalidInput 0x0002 t
      else settle (cmdStart 0xC003 (inRegion t r) (wakeScope (viaKind via) (inRegion t r) (bgStart via 0xC003 t)))) s)

/-- `PARK` (R571, R275): a dump with trigger 4, after which the device enters PARKED and P3. -/
def execPark (via : Via) (s : State) : Result :=
  .next (vendor via 0xC004 [.service, .restore] true true (fun t =>
    if dumpUnmet t ≠ 0 then dumpRefuse via 0xC004 (dumpUnmet t) t
    else commitDump 4 0xC004 (learnDisqualify 0x06 (bgStart via 0xC004 t))) s)

/-- `UNPARK` (R302, R573): the DRAM and the vault are powered, the channels train, and the Korric link unit trains again. The map load
and the restart of the regions follow. -/
def execUnpark (via : Via) (s : State) : Result :=
  .next (vendor via 0xC005 [.parked] true true (fun t =>
    let t1 := bgStart via 0xC005 t
    let t2 := quadRoles [0, 1] .active (domainsOn (coreDomains t1 ||| memDomains t1) { t1 with
      pwr := { t1.pwr with memEn := true }
      qdc := t1.qdc.zipIdx.map (fun (e : Qdc × Nat) =>
        if t1.spn.quadEn.testBit e.2 ∧ e.1.state ≠ 3 then { e.1 with state := 1 } else e.1) })
    if t2.kor.state = .unpaired ∨ fenced t2 then t2
    else setUnitState 0x05 .active { t2 with kor := { t2.kor with unitOn := true, trainingOn := true } }) s)

/-- SET_POWER_STATE ends with the state reached. -/
def powerDone (p : Nat) (s : State) : State := bgEnd 0xC008 .success 0 [(1, p), (1, 0xFF), (6, 0)] s

/-- The exit from P2 is over once no domain is stopped or waking (R569). -/
def exitDone (s : State) : State :=
  if s.pwr.entry = 3 ∧ s.pwr.waking = 0 then
    powerDone 0 (setPstate 0 6 { s with pwr := { s.pwr with entry := 0, target := 0 } })
  else s

/-- `SET_POWER_STATE_P0` (R569): every domain wakes, and the device leaves P2; in P0 or P1 the state is reached. -/
def execSetPowerStateP0 (via : Via) (s : State) : Result :=
  .next (vendor via 0xC008 [.service] true true (fun t =>
    let t1 := learnDisqualify 0x06 (bgStart via 0xC008 t)
    if t1.pwr.pstate ≠ 2 then powerDone 0 t1
    else
      let t2 := { t1 with pwr := { t1.pwr with entry := 3, target := 0 } }
      exitDone ((maskDomains 0xFF).foldl (fun u d => wakeDomain d u) t2)) s)

/-- `SET_POWER_STATE_P2` (R567): step 1 of the entry begins; the learning cycle ends. In P2 the state is reached. -/
def execSetPowerStateP2 (via : Via) (s : State) : Result :=
  .next (vendor via 0xC008 [.service] true true (fun t =>
    let t1 := bgStart via 0xC008 t
    if t1.pwr.pstate = 2 then powerDone 2 t1
    else learnDisqualify 0x06 { t1 with
      pwr := { t1.pwr with entry := 1, target := 2, entryStep := 1, entryVia := via, refuser := 0xFF, refuseCause := 0 } }) s)

/-- `SET_POWER_STATE_P3` (R572): a barrier over the device, then the park. -/
def execSetPowerStateP3 (via : Via) (s : State) : Result :=
  .next (vendor via 0xC008 [.service] true true (fun t =>
    let t1 := learnDisqualify 0x06 (bgStart via 0xC008 t)
    settle (cmdStart 0xC008 (fun _ => true) (wakeScope 6 (fun _ => true) t1))) s)

/-- `START_LEARNING` (R224): Busy once a cycle is past WAIT_FULL. -/
def execStartLearning (via : Via) (s : State) : Result :=
  .next (vendor via 0xC009 [.service] true true (fun t =>
    if t.nrg.lstate = .waitBudget ∨ t.nrg.lstate = .running then reply via 0xC009 .busy 0 [] t
    else learnStart (bgStart via 0xC009 t)) s)

/-- What a calibration dump lacks (R275, R240): the conditions of every commanded dump, then 5 the anchor is not FULL, 6 a learning
cycle runs. -/
def calibrationUnmet (s : State) : Nat :=
  if dumpUnmet s ≠ 0 then dumpUnmet s
  else if s.nrg.anchor ≠ .full then 5
  else if s.nrg.lstate = .waitBudget ∨ s.nrg.lstate = .running then 6
  else 0

/-- `CALIBRATION_DUMP` (R240, R275): a dump with trigger 5. -/
def execCalibrationDump (via : Via) (s : State) : Result :=
  .next (vendor via 0xC00A [.service] true true (fun t =>
    if calibrationUnmet t ≠ 0 then dumpRefuse via 0xC00A (calibrationUnmet t) t
    else commitDump 5 0xC00A (learnDisqualify 0x06 (bgStart via 0xC00A t))) s)

end Sys2Proof.Machine
end

