-- ==== Sys2Proof/Machine/ArrayCommands.lean ====
section
/-!
DEFINITION. The array's commands and the MCTP bridge (R422 to R425): ARRAY_STATUS ARRAY_BARRIER ROLL_UPDATE ARRAY_UNKNOWN_SUBOPCODE
ARRAY_STATUS_TIMEOUT ROLL_UPDATE_TIMEOUT CMD CMD_A FW_DATA MCTP_FRAME.
-/

namespace Sys2Proof.Machine

/-! ## What a member does -/

/-- BARRIER on this member for the head (R424): the barrier of the whole device; a member in PARKED has nothing to shadow, and one in DUMP is
covered by that dump; in the other modes it is refused. -/
def memberBarrier (tag head : Nat) (s : State) : State :=
  let s1 := { s with cwy := { s.cwy with barrierFor := some (tag, head) } }
  if s.spn.mode = .parked then barrierReply 0 0 s1
  else if s.spn.mode = .dump then s1
  else if serving s then settle (cmdStart 0xC00D (fun _ => true) (wakeScope 5 (fun _ => true) s1))
  else barrierReply 3 0 s1

/-- The firmware image in this member's inactive slot as its words, the first word as it is held (R556). -/
def slotFirmware (s : State) : List Nat :=
  let base := (compArea .firmware (inactiveSlot s)).1
  let first := ((s.aos.scratch.held.find? (fun h => h.base = base)).map HeldComp.word).getD (arrayWord base s)
  let head := first :: (List.range 7).map (fun i => arrayWord (base + 8 * (i + 1)) s)
  let n := min (leAt (head.flatMap (leBytes 8)) 8 4) (compArea .firmware 0).2
  first :: (List.range (n / 8 - 1)).map (fun i => arrayWord (base + 8 * (i + 1)) s)

/-- A step of a rolling update on a member: event 0x0A09 (R425). -/
def updateStep (m status : Nat) (s : State) : State := raise 0x0A09 0x06 [(1, m), (1, status)] s

/-- A member refuses an update or fails in it. -/
def updateRefuse (tag head status : Nat) (s : State) : State :=
  answerHead head tag 3 status (statusResult status 0) (updateStep s.cwy.myId status s)

/-- ROLL_UPDATE on this member (R425): with the image in its inactive slot it verifies it,
activates it, and parks; the restart follows the park. -/
def memberUpdate (tag head : Nat) (s : State) : State :=
  let c : Component := ⟨.firmware, slotFirmware s⟩
  if !s.cwy.rollEn then updateRefuse tag head 3 s
  else if s.spn.mode ≠ .service then updateRefuse tag head 3 s
  else if !compOk (inactiveSlot s) s c ∨ !s.nrg.quagOk ∨ s.aos.scratch.held.isEmpty then updateRefuse tag head 4 s
  else if dumpUnmet s ≠ 0 then updateRefuse tag head 4 s
  else
    let me := s.cwy.myId
    let s1 := updateStep me 0 (activateHeld s)
    let s2 := { s1 with aos := { s1.aos with scratch := { s1.aos.scratch with update := some ⟨tag, head, pairCode s1.kor.state, false⟩ } } }
    commitDump 4 0 (learnDisqualify 0x06 (updateStep me 0 s2))

/-- What a member does for a sub-command (R423); a sub-opcode that is not listed does nothing. -/
def memberRun (sub tag head : Nat) (s : State) : State :=
  if sub = 1 then answerHead head tag 1 0 (statusFields s) s
  else if sub = 2 then memberBarrier tag head s
  else if sub = 3 then memberUpdate tag head s
  else s

/-- `CMD` (R423): a sub-command of the head reaches this member. -/
def execCmd (src dst hops tag sub : Nat) (payload : List Nat) (good : Bool) (s : State) : Result :=
  .next (frameArrive ⟨dst, src, hops, tag, .cmd sub payload⟩ good (memberRun sub tag src) s)

/-- A chunk of firmware image is written into the inactive slot as Transfer FW does (R425, R556): sectors are erased as the chunks reach them
and the first word is held. -/
def writeChunk (off : Nat) (data : List Nat) (s : State) : State :=
  let (base, size) := compArea .firmware (inactiveSlot s)
  if off % 8 ≠ 0 ∨ size < off + data.length ∨ 248 < data.length then s
  else
    let ws := (pieces 8 31 data).filter (fun w => !w.isEmpty)
    ws.zipIdx.foldl (fun t (e : List Nat × Nat) =>
      let a := base + off + 8 * e.2
      let w := leValue (e.1 ++ List.replicate (8 - e.1.length) 255)
      let t1 := if a % 4096 = 0 then journalledErase (a / 4096) t else t
      if a = base then
        { t1 with aos := { t1.aos with scratch := { t1.aos.scratch with
            held := t1.aos.scratch.held.filter (fun h => h.base ≠ base) ++ [⟨.firmware, base, w, leAt data 12 4⟩] } } }
      else { t1 with ifc := { t1.ifc with words := tput erasedWord t1.ifc.words (a / 8) (w % 2 ^ 64) } }) s

/-- `FW_DATA` (R425): a member that accepts updates writes a received chunk, while `QUAG_OK` is 1. -/
def execFwData (src dst hops tag off : Nat) (data : List Nat) (good : Bool) (s : State) : Result :=
  .next (frameArrive ⟨dst, src, hops, tag, .fwData off data⟩ good (fun t =>
    if t.cwy.rollEn ∧ t.nrg.quagOk ∧ t.spn.mode ≠ .dump then writeChunk off data t else t) s)

/-! ## What the head does -/

/-- The members an array command addresses: those of its mask that are live (R423). -/
def addressed (s : State) (mask : Nat) : List Nat := (setBits 64 mask).filter (fun m => s.cwy.live.testBit m)

/-- A sub-command goes to a member: the head's own is run at once. -/
def sendSub (sub : Nat) (m : Nat) (s : State) : State :=
  let t := s.cwy.nextTag
  let s1 := { s with cwy := { s.cwy with nextTag := (t + 1) % 65536 } }
  if m = s.cwy.myId then memberRun sub t m s1 else frameSend m t (.cmd sub []) s1

/-- An array command begins on the head (R129, R423): elsewhere it is unsupported. -/
def arrayBegin (via : Via) (k : State → State) (s : State) : State :=
  vendor via 0xC00D runningModes true true (fun t =>
    if !t.cwy.isHead then vendorRefuse via 0xC00D .unsupported 0x0004 t else k t) s

/-- A command for all its members at once; with none left to answer it is over. -/
def arrayAll (via : Via) (sub mask : Nat) (s : State) : State :=
  let ms := addressed s mask
  let s1 := bgStart via 0xC00D { s with cwy := { s.cwy with array := some ⟨via, sub, ms, [], [], mask⟩ } }
  if ms.isEmpty then arrayFinish s1 else ms.foldl (fun t m => sendSub sub m t) s1

/-- `ARRAY_STATUS` (R423). -/
def execArrayStatus (via : Via) (mask : Nat) (s : State) : Result := .next (arrayBegin via (arrayAll via 1 mask) s)

/-- `ARRAY_BARRIER` (R424). -/
def execArrayBarrier (via : Via) (mask : Nat) (s : State) : Result := .next (arrayBegin via (arrayAll via 2 mask) s)

/-- `ARRAY_UNKNOWN_SUBOPCODE` (R423, R130). -/
def execArrayUnknownSubopcode (via : Via) (s : State) : Result :=
  .next (arrayBegin via (vendorRefuse via 0xC00D .invalidInput 0x0002) s)

/-- `ARRAY_STATUS_TIMEOUT` (R423): 1 ms has passed; members that have not answered show zeros. -/
def execArrayStatusTimeout (s : State) : Result :=
  .next (if s.cwy.array.any (fun a => a.sub = 1) then arrayFinish s else s)

/-- The image in the head's inactive slot goes to a member as FW_DATA frames of up to 248 bytes (R413, R425). -/
def sendImage (m tag : Nat) (s : State) : State :=
  let b := (slotFirmware s).flatMap (leBytes 8)
  (pieces 248 (b.length / 248 + 1) b).zipIdx.foldl (fun t (e : List Nat × Nat) =>
    if e.1.isEmpty then t else frameSend m tag (.fwData (248 * e.2) e.1) t) s

/-- The next member that a rolling update may start: the lowest one left whose pair partner does not run (R425). -/
def updateNext (a : ArrayCmd) : Option Nat := a.left.find? (fun m => !a.waiting.contains (m ^^^ 1))

/-- Members are started up to `UPD_PARALLEL` at once. -/
def updateLoop : Nat → State → State
  | 0, s => s
  | n + 1, s => match s.cwy.array with
    | none => s
    | some a =>
      if a.sub ≠ 3 ∨ s.cwy.updParallel ≤ a.waiting.length then s
      else match updateNext a with
        | none => s
        | some m =>
          let b := { a with waiting := a.waiting ++ [m], left := a.left.filter (· ≠ m) }
          let s1 := updateStep m 0 { s with cwy := { s.cwy with array := some b } }
          let s2 := if m = s.cwy.myId then s1 else sendImage m s1.cwy.nextTag s1
          updateLoop n (sendSub 3 m s2)

/-- `ROLL_UPDATE` (R425): members are updated in ascending order. -/
def execRollUpdate (via : Via) (mask : Nat) (s : State) : Result :=
  .next (arrayBegin via (fun t =>
    let ms := addressed t mask
    let t1 := bgStart via 0xC00D { t with cwy := { t.cwy with
      array := some ⟨via, 3, [], [], ms, mask⟩, updState := 1, failId := 0, updated := 0 } }
    if ms.isEmpty then arrayFinish t1 else updateLoop 64 t1) s)

/-- A member's outcome in a rolling update, and the next members; after a status 4 none is left to start (R425). -/
def updateAnswer (m status : Nat) (f : Fields) (s : State) : State :=
  if !s.cwy.array.any (fun a => a.sub = 3 && a.waiting.contains m) then s
  else updateLoop 64 (arrayAnswer m 3 status f (updateStep m status s))

/-- `CMD_A` (R423): a member's result reaches the head. -/
def execCmdA (src dst hops tag sub status : Nat) (result : Fields) (good : Bool) (s : State) : Result :=
  .next (frameArrive ⟨dst, src, hops, tag, .cmdA sub status result⟩ good (fun t =>
    if sub = 3 then updateAnswer src status result t else arrayAnswer src sub status result t) s)

/-- `ROLL_UPDATE_TIMEOUT` (R425): member `m` is not back in SERVICE 5 s after its restart. -/
def execRollUpdateTimeout (m : Nat) (s : State) : Result := .next (updateAnswer m 4 (statusResult 4 0) s)

/-! ## The MCTP bridge (R422) -/

/-- `MCTP_FRAME` (R422): an MCTP packet for a member from outside the array (`outside`), which the head carries in a frame to the member
whose EID its second byte holds, or one that a frame brings. The head gives its own packets and those of members outward. -/
def execMctpFrame (outside : Bool) (src dst hops tag : Nat) (packet : List Nat) (good : Bool) (s : State) : Result :=
  .next (
    if outside then
      let m := packet.getD 1 0 - s.cwy.eidBase
      if s.cwy.unit ≠ .on ∨ !s.cwy.isHead ∨ packet.getD 1 0 < s.cwy.eidBase ∨ 63 < m then s
      else if m = s.cwy.myId then send (.mctpOut packet) s
      else if s.cwy.live.testBit m then
        frameSend m s.cwy.nextTag (.mctp packet) { s with cwy := { s.cwy with nextTag := (s.cwy.nextTag + 1) % 65536 } }
      else s
    else frameArrive ⟨dst, src, hops, tag, .mctp packet⟩ good (send (.mctpOut packet)) s)

end Sys2Proof.Machine
end

