-- ==== Sys2Proof/Machine/Datapath.lean ====
section
/-!
DEFINITION. Host memory accesses and the end of a write's DRAM burst (03, 04).
-/

namespace Sys2Proof.Machine

/-- The DPA line that the committed decoders map a line address of the host's to: DPA = HPA − base, plus the DPA at which the decoder's range
begins, where the one before it ends (R114, R115). -/
def mapLine (line : Nat) : List Decoder → Nat → Option Nat
  | [], _ => none
  | d :: l, start =>
    if d.committed && decide (d.base ≤ line * 64) && decide (line * 64 < d.base + d.size) then some (start + (line * 64 - d.base) / 64)
    else mapLine line l (start + (if d.committed then d.size / 64 else 0))

/-- The DPA line of a host access, none where no committed decoder maps it (R113, R115). -/
def dpaLine (s : State) (line : Nat) : Option Nat :=
  (mapLine line [s.hlk.dec0, s.hlk.dec1, s.hlk.dec2, s.hlk.dec3] 0).filter (fun l => decide (granuleOf l < hdmGranules s))

/-- A write record just received. -/
def newWrite (tag line mask r : Nat) (data : BitVec 512) (poisoned : Bool) : WriteRec :=
  { tag := tag, line := line, data := data, mask := mask, region := r, eff := .loc, hold := .none, inDram := false,
    mirror := .none, twinPassed := false, released := false, orphan := false, poisoned := poisoned, everHeld := false,
    pressed := false, admitted := false }

/-- A write of one DPA line with its byte enables (R144). `bad` says that a crossbar beat of it is delivered poisoned (R19). Without a
credit the host cannot send it; after ingress close it is discarded (R161). -/
def memWriteAt (tag line mask : Nat) (data : BitVec 512) (bad : Bool) (s : State) : State :=
  let g := granuleOf line
  let m := mask % 2 ^ 64
  if s.hlk.rwdFree = 0 || s.hlk.writes.any (fun w => w.tag = tag) then s
  else if s.hlk.ingressClosed then
    { s with hlk := { s.hlk with rwdFree := s.hlk.rwdFree - 1 },
             wrp := { s.wrp with truncated := satAdd 8 s.wrp.truncated 1 } }
  else if !accessServed s g then
    let s1 := offlineAccess (offlIndex s g) true s
    send (.ndr tag (devLoad s1)) s1
  else match regionOf s g with
    | none => s
    | some r =>
      let w := newWrite tag line m r data bad
      let s1 := if bad then
          raise 0x1101 (quadUnit (quadOf s g) 0) [(1, 0x01), (1, quadUnit (quadOf s g) 0)]
            (beatCount (quadUnit (quadOf s g) 0) true s) else s
      let s2 := { s1 with hlk := { s1.hlk with writes := s1.hlk.writes ++ [w], rwdFree := s1.hlk.rwdFree - 1 } }
      settle (tryAdmit w s2)

/-- `MEM_WRITE` (R144, R115): a write of a line of the host's address space. -/
def execMemWrite (tag line mask : Nat) (data : BitVec 512) (bad : Bool) (s : State) : Result :=
  .next (if !s.hlk.linkUp then s
    else match dpaLine s line with
      | none => s
      | some l => memWriteAt tag l mask data bad s)

/-- A read of one DPA line (R157); `errs` are the bad symbols its DRAM burst shows and `again` those a second read shows (R593, R597). -/
def memReadAt (tag line : Nat) (errs again : List SymErr) (s : State) : State :=
  let g := granuleOf line
  if s.hlk.reqFree = 0 || s.hlk.reads.any (fun r => r.tag = tag) then s
  else if s.hlk.ingressClosed then { s with hlk := { s.hlk with reqFree := s.hlk.reqFree - 1 } }
  else if !accessServed s g then sendDrs tag 0 true (offlineAccess (offlIndex s g) false s)
  else
    let s1 := { s with hlk := { s.hlk with reads := s.hlk.reads ++ [⟨tag, line, errs, again⟩] } }
    let s2 := if gstate s1 g = .pending then queueFetch g s1 else s1
    settle (if memReady s2 (quadOf s2 g) then s2 else needDomains 1 (2 ^ quadOf s2 g) s2)

/-- `MEM_READ` (R157, R115): a read of a line of the host's address space. -/
def execMemRead (tag line : Nat) (errs again : List SymErr) (s : State) : Result :=
  .next (if !s.hlk.linkUp then s
    else match dpaLine s line with
      | none => s
      | some l => memReadAt tag l errs again s)

/-- The fault armed for the next host write of a quadrant is planted in the stored words (R609, target 1). -/
def plantOnWrite (q line : Nat) (s : State) : State :=
  let d := qdcOf s q
  if armedFor s q 1 then
    let errs := (List.range 8).flatMap (fun w =>
      [(⟨w, d.symA, 255⟩ : SymErr)] ++ (if d.symbols = 2 then [⟨w, d.symB, 255⟩] else []))
    planted q 1 (modQdc q (fun x => { x with planted := tins line errs x.planted }) s)
  else modQdc q (fun x => { x with planted := x.planted.filter (fun e => e.1 ≠ line) }) s

/-- A line reaches DRAM while a program of its granule runs: it belongs to the next program, and the granule is REDIRTY (R172, R175). -/
def lineLands (g : Nat) (s : State) : State := if gstate s g = .inflight then setGState g .redirty s else s

/-- `LINE_WRITTEN` (R134): the WR burst of a write has ended. Lines of one address are written in the order received (R150); a
released write leaves nothing (R183). -/
def execLineWritten (tag : Nat) (s : State) : Result :=
  .next (match s.hlk.writes.find? (fun w => w.tag = tag) with
    | none => s
    | some w =>
      let older := s.hlk.writes.takeWhile (fun x => x.tag ≠ tag)
      if w.inDram ∨ w.hold ≠ .none ∨ w.released ∨ older.any (fun x => x.line = w.line && !x.inDram) then s
      else
        let g := granuleOf w.line
        let q := quadOf s g
        let s1 := if w.poisoned then poisonLine w.line true (storeLine w.line w.data w.mask s)
          else storeLine w.line w.data w.mask s
        let s2 := plantOnWrite q w.line (modQdc q (fun d => { d with asked := sdel d.asked w.line }) s1)
        let s3 := { s2 with kor := { s2.kor with repairs := s2.kor.repairs.map (fun a =>
          if a.granule = g then { a with written := sins w.line a.written } else a) } }
        settle (lineLands g (modWrite tag (fun x => { x with inDram := true }) s3)))

/-- `WRITE_HOLD_TIMEOUT` (R197, R198): a hold lasts longer than 1 ms. -/
def execWriteHoldTimeout (tag : Nat) (s : State) : Result :=
  .next (match s.hlk.writes.find? (fun w => w.tag = tag) with
    | none => s
    | some w =>
      let cause := match holdNow s w with
        | .budget => 1 | .decision => 2 | .share => 3 | .keyReserve => 3 | _ => 0
      if cause = 0 then s else raise 0x030B 0x02 [(1, w.region), (1, cause)] s)

end Sys2Proof.Machine
end

