-- ==== Sys2Proof/Machine/InputWatch.lean ====
section
/-!
DEFINITION. The input watch (R212 to R215): INPUT_BELOW_PFAIL, INPUT_ABOVE_PFAIL, PFAIL_QUALIFIED, SETTLE_RECOVERED,
SETTLE_LIMIT_EXPIRY, RIDE_THROUGH_SURVIVED, RIDE_THROUGH_EXPIRY, EARLY_COMMIT, INPUT_BELOW_QUAG, PREFLUSH_CLEAR.
-/

namespace Sys2Proof.Machine

/-- `INPUT_BELOW_PFAIL` (R212): in GOOD HOLDUP_EN rises; in SETTLE the qualification goes on; in DUMP the input has failed again
(R291). -/
def execInputBelowPfail (s : State) : Result :=
  .next (match s.nrg.input with
    | .good => setInput .qualify (assertHoldup .input s)
    | .settle => setInput .qualify s
    | .committed => { s with dmp := { s.dmp with inputGood := false } }
    | _ => s)

/-- `INPUT_ABOVE_PFAIL` (R212). -/
def execInputAbovePfail (s : State) : Result :=
  .next (if s.nrg.input = .qualify then setInput .settle s else s)

/-- RIDE is entered with the input failure qualified: event 0x0401 with the input voltage and Q. -/
def qualified (s : State) : State :=
  setInput .ride (raise 0x0401 0x03 [(2, s.nrg.vInput), (4, s.nrg.q / 1000)] { s with nrg := { s.nrg with rideWarn := false } })

/-- `PFAIL_QUALIFIED` (R212, R213). -/
def execPfailQualified (s : State) : Result := .next (if s.nrg.input = .qualify then qualified s else s)

/-- `SETTLE_LIMIT_EXPIRY` (R212). -/
def execSettleLimitExpiry (s : State) : Result := .next (if s.nrg.input = .settle then qualified s else s)

/-- `SETTLE_RECOVERED` (R212): hold-up is released unless learning or calibration holds it. -/
def execSettleRecovered (s : State) : Result :=
  .next (if s.nrg.input = .settle then
      releaseInputHoldup (setInput .good (raise 0x0404 0x03 [] s))
    else s)

/-- `RIDE_THROUGH_SURVIVED` (R212): event 0x0402 with the duration, µs. -/
def execRideThroughSurvived (s : State) : Result :=
  .next (if s.nrg.input = .ride then
      releaseInputHoldup (setInput .good (useFree (raise 0x0402 0x03 [(2, elapsedNow 16 s)] s)))
    else s)

/-- The power-fail commit is signalled (R39, R212): RESTORE and SERVICE dump; BOOT, TEST and PARKED power down with nothing to save; in
RECOVERY, for which R39 lists no such event, the mode stays. -/
def inputCommit (trigger : Nat) (s : State) : State :=
  match s.spn.mode with
  | .restore => commitDump trigger 0 s
  | .service => commitDump trigger 0 s
  | .dump => s
  | .recovery => setInput .committed s
  | _ => powerOff (setInput .committed s)

/-- `RIDE_THROUGH_EXPIRY` (R212, R272): trigger 1, or 3 where an accepted warning entered RIDE. -/
def execRideThroughExpiry (s : State) : Result :=
  .next (if s.nrg.input = .ride then inputCommit (if s.nrg.rideWarn then 3 else 1) s else s)

/-- E_need of R212, mJ. -/
def eNeed (s : State) : Nat := dCount s * eGibOf s / 65536 + param s 8

/-- `EARLY_COMMIT` (R212): in RIDE with E_usable_min at E_need or below. -/
def execEarlyCommit (s : State) : Result :=
  .next (if s.nrg.input = .ride ∧ eUsable s ≤ eNeed s then inputCommit 2 (raise 0x0403 0x03 [] s) else s)

/-- `INPUT_BELOW_QUAG` (R215). -/
def execInputBelowQuag (s : State) : Result := .next (quagFalls s)

/-- The filter's input still counts as asserted or stuck. -/
def filterHolds (f : Filter) : Bool := f.st = .asserted || f.st = .stuck

/-- `PREFLUSH_CLEAR` (R274): not while a warning is asserted or STUCK. -/
def execPreflushClear (s : State) : Result :=
  .next (if s.dmp.preflush && !filterHolds s.pwr.warnFilter && !filterHolds s.pwr.odFilter then
      refreshRegime (raise 0x0602 0x0E [(1, 2)] { s with dmp := { s.dmp with preflush := false } })
    else s)

end Sys2Proof.Machine
end

