-- ==== Sys2Proof/Machine/Dump.lean ====
section
/-!
DEFINITION. The commands of a running dump: TEST_DUMP, COAST_END, DIRTY_LIST_READY, DUMP_PROGRAM_COMPLETE, DUMP_ENERGY_SAMPLE,
DUMP_BOUNCE (08).
-/

namespace Sys2Proof.Machine

/-- `TEST_DUMP` (R275): a write of the field in TEST; outside TEST it is ignored, in DUMP rejected (R44). -/
def execTestDump (s : State) : Result :=
  .next (
    if s.spn.mode = .dump then rejectInDump s
    else if s.spn.mode ≠ .test then s
    else if dumpUnmet s ≠ 0 then raise 0x060B 0x0E [(1, dumpUnmet s)] s
    else commitDump 6 0 s)

/-- A coasting write reaches DRAM (R139). -/
def coastLine (w : WriteRec) (s : State) : State :=
  let s1 := if w.poisoned then poisonLine w.line true (storeLine w.line w.data w.mask s) else storeLine w.line w.data w.mask s
  modWrite w.tag (fun x => { x with inDram := true }) s1

/-- `COAST_END` (R160, R279): every write received before t_x is in DRAM, but for those that await a merge; event 0x0304, and each
quadrant begins its dirty list. -/
def execCoastEnd (s : State) : Result :=
  .next (
    if s.spn.mode ≠ .dump ∨ s.dmp.phase ≠ 1 then s
    else
      let s1 := (s.hlk.writes.filter (fun w => !w.inDram && !w.released && !(s.dmp.merges.contains (granuleOf w.line)))).foldl
        (fun t w => coastLine w t) s
      let c := elapsedNow 16 s1
      let s2 := useFree s1
      let k := elapsedNow 16 s2
      let s3 := useFree { s2 with wrp := { s2.wrp with closeNs := c, coastNs := k } }
      let s4 := raise 0x0304 0x02 [(2, c), (1, s3.wrp.coasted), (1, s3.wrp.truncated)] s3
      let s5 := (quadList s4).foldl (fun t q =>
        modDumpQuad q (fun d => { d with phase := 2, list := dirtyList s4 q }) t) s4
      { s5 with dmp := { s5.dmp with phase := 2, priorLost := dumpSum s5 priorLost } })

/-- `DIRTY_LIST_READY` (R279, R281, R284): the list of quadrant `q` stands in DRAM; the gates are fixed and its programs start. -/
def execDirtyListReady (q : Nat) (s : State) : Result :=
  let d := dumpQuad s q
  .next (
    if s.spn.mode ≠ .dump ∨ !(quadList s).contains q ∨ d.phase ≠ 2 ∨ d.queue ≠ [] ∨ d.running ≠ [] ∨ d.placed ≠ [] then s
    else
      dumpKick (modDumpQuad q (fun d => { d with
        queue := (if (quadList s).head? = some q then (List.range (logRuns s.dmp.tail).length).map .tail else [])
          ++ .header :: (List.range (pagesFor d.list.length 2048)).map .list
        left := if d.channelLost then [] else d.list.filter (fun e => e.state ≠ .lost)
        lost := if d.channelLost then (d.list.filter (fun e => e.state ≠ .lost)).map ListEntry.granule else d.lost }) (fixGates s)))

/-- Both copies of a page of the log tail have passed: its entries stand in the log (R357). -/
def tailPassed (q : Nat) (p : DumpPage) (s : State) : State :=
  match p with
  | .tail i =>
    let l := ((logRuns s.dmp.tail).getD i []).filter (fun e => !(s.vlt.log.any (fun x => x.seq = e.seq)))
    if (dumpQuad s q).running.any (fun e => e.1 = p) then s else { s with vlt := { s.vlt with log := s.vlt.log ++ l } }
  | _ => s

/-- A page of the dump has passed. -/
def dumpPassed (q vpa : Nat) (s : State) : State :=
  let d := dumpQuad s q
  let e := d.running.find? (fun x => x.2 = vpa)
  let s1 := modDumpQuad q (fun d => { d with running := d.running.filter (fun x => x.2 ≠ vpa)
                                             placed := d.placed ++ (d.running.filter (fun x => x.2 = vpa)) }) s
  countProgram vpa (match e with
    | some (.data g, _) => cipEndOp .encrypt g (savePage s1)
    | some (p, _) => tailPassed q p (savePage s1)
    | none => savePage s1)

/-- `DUMP_PROGRAM_COMPLETE` (R281 to R292): a dump program at a page has ended; a failure loses its die for the rest of the dump
(R289). -/
def execDumpProgramComplete (vpa : Nat) (ok : Bool) (s : State) : Result :=
  .next (
    if s.spn.mode ≠ .dump then s
    else
      let q := (quadList s).find? (fun q => (dumpQuad s q).running.any (fun e => e.2 = vpa))
      let par := s.dmp.parity.any (fun e => e.1 = vpa)
      if q.isNone ∧ !par then s
      else if !ok then
        dumpKick (dumpDieLost (vpaCh vpa) (vpaDie vpa)
          (modVch (vpaCh vpa) (fun c => { c with progFail := satAdd 16 c.progFail 1 }) s))
      else match q with
        | some q => dumpKick (dumpPassed q vpa s)
        | none => dumpKick (countProgram vpa
            (savePage { s with dmp := { s.dmp with parity := s.dmp.parity.filter (fun e => e.1 ≠ vpa) } })))

/-- A data page of the dump is on its way. -/
def dataRuns (s : State) : Bool :=
  (quadList s).any (fun q => (dumpQuad s q).running.any (fun e => match e.1 with | .data _ => true | _ => false))

/-- The energy of a sample in the data window, one span from the first data page's start to the last one's end (R240): what is drawn
between two pages counts once the second runs. -/
def windowSum (drawn : Nat) (s : State) : State :=
  let n := s.nrg
  if dataRuns s then { s with nrg := { n with windowNj := n.windowNj + n.gapNj + drawn, gapNj := 0 } }
  else if 0 < n.windowNj then { s with nrg := { n with gapNj := n.gapNj + drawn } }
  else s

/-- `DUMP_ENERGY_SAMPLE` (R284, R240): the readings of 10 µs give E_now; in the data window the energy drawn is summed, V × A × 10 µs.
A final record that waits falls back to AOS when `LOG_OK` has gone (R290). -/
def execDumpEnergySample (m : Sample) (s : State) : Result :=
  .next (
    if s.spn.mode ≠ .dump then s
    else
      let s1 := gaugeAfter s.nrg (emptyAnchor (refreshEstimates (countCharge m.dQ (takeSample m s))))
      let drawn := s1.nrg.vOcv * (-s1.nrg.iStore).toNat / 100
      let s2 := windowSum drawn s1
      let s3 := { s2 with dmp := { s2.dmp with eNow := eNowOf s2 } }
      match s3.ifc.waiting.find? (fun o => match o.work with | .finalSedge _ => true | _ => false) with
      | none => s3
      | some o =>
        if s3.nrg.logOk ∨ s3.dmp.phase ≠ 6 then s3
        else
          let s4 := { s3 with ifc := { s3.ifc with waiting := s3.ifc.waiting.erase o } }
          match o.work with
          | .finalSedge r => dumpEnd (toAos r (leaveSlot s4))
          | _ => s4)

/-- `DUMP_BOUNCE` (R291): the input returns while the dump runs. -/
def execDumpBounce (s : State) : Result :=
  .next (if s.spn.mode = .dump ∧ s.dmp.phase < 7 ∧ !s.dmp.inputGood then
      raise 0x0608 0x0E [] { s with dmp := { s.dmp with bounce := true, inputGood := true } }
    else s)

end Sys2Proof.Machine
end

