-- ==== Sys2Proof/Machine/Vault.lean ====
section
/-!
DEFINITION. The commands of the vault manager and its channels (07, 10): collection, wear levelling, scrub, redundancy, compaction, the
log, training, and what ends on the channels.
-/

namespace Sys2Proof.Machine

/-- The vault manager can program now: a serving mode with every engine ready. -/
def vaultAwake (s : State) : Bool := serving s && (quadList s).all (engReady s)

/-- The engines that the vault manager's work needs are woken (R569); kind 10. -/
def wakeVault (s : State) : State :=
  if serving s then needDomains 10 (maskOf ((quadList s).map (· + 4))) s else s

/-- Event 0x0808 for each live page of a segment that could neither be read nor rebuilt, where the vault's copy is needed (R266, R345);
the references to them stay. -/
def rebuildsFailed (n : Nat) (failed : List Nat) (s : State) : State :=
  (((liveIn s n).filter (fun g => failed.contains g && gstate s g ≠ .shadowed))).foldl (fun t g =>
    let v := (mapOf t g).vpa
    raise 0x0808 (quadUnit (vpaCh v / 4) (4 + vpaCh v % 4)) [(5, v)] t) s

/-- The granules of a segment whose page cannot be relocated: unreadable, and not SHADOWED in DRAM. -/
def unmovable (n : Nat) (failed : List Nat) (s : State) : List Nat :=
  (liveIn s n).filter (fun g => failed.contains g && gstate s g ≠ .shadowed)

/-- A segment is collected (R266): what cannot be read is reported and left. -/
def collectSeg (n : Nat) (failed : List Nat) (s : State) : State :=
  let s1 := beforeVault (rebuildsFailed n failed s)
  streamFollow s (collect n (unmovable n failed s1) (callSegment n s1))

/-- `GC_RELOCATE` (R265, R266, R345, R347, R348): the next segment called for, else the victim while F is low, has its live pages relocated.
`failed` names granules whose page is unreadable and not rebuilt. -/
def execGcRelocate (failed : List Nat) (s : State) : Result :=
  .next (if !vaultAwake s then wakeVault s
    else match (s.vlt.relocate.find? (fun n => (movable s n).any (fun g => !((unmovable n failed s).contains g)))).or (if s.shd.gc = .idle then none else victim s) with
      | some n => collectSeg n failed s
      | none => s)

/-- The erase counts of every segment, the free ones never written at 0 (R267). -/
def eraseSpread (s : State) : Nat :=
  let l := s.vlt.segs.map (fun e => e.2.erases)
  let low := if l.length < (vaultRec s).diesPerCh * segGroups s then 0 else l.foldl min (l.headD 0)
  l.foldl max 0 - low

/-- `WEAR_LEVEL_MOVE` (R267): once the spread of erase counts exceeds 5 % of `ENDURANCE`, the segment of lowest count that holds data
moves, at most once an hour. -/
def execWearLevelMove (failed : List Nat) (s : State) : Result :=
  .next (if !vaultAwake s then wakeVault s
    else
      let low := ((s.vlt.segs.filter (fun e => victimOk s e.1 e.2)).mergeSort (fun a b => a.2.erases ≤ b.2.erases)).head?
      match low with
      | none => s
      | some (n, _) =>
        let spread := eraseSpread s
        if spread * 20 ≤ (vaultRec s).endurance ∨ s.shd.wlSec.any (fun t => s.evr.opSec < t + 3600) then s
        else
          let s1 := raise 0x050A 0x0D [(4, n), (3, spread)]
            { s with shd := { s.shd with wlMoves := s.shd.wlMoves + 1, wlSec := some s.evr.opSec } }
          collectSeg n failed s1)

/-- `VAULT_SCRUB` (R348): a segment that holds a live page is due for its scrub reads. -/
def execVaultScrub (n : Nat) (s : State) : Result :=
  .next (if !serving s ∨ (liveIn s n).isEmpty ∨ s.vlt.scrubbing.contains n then s
    else wakeVault { s with vlt := { s.vlt with scrubbing := s.vlt.scrubbing ++ [n] } })

/-- `REDUNDANCY_REBUILD` (R345): the next segment of the rebuild is relocated, oldest first. -/
def execRedundancyRebuild (failed : List Nat) (s : State) : Result :=
  .next (if !vaultAwake s then wakeVault s
    else match s.vlt.rebuildSegs.find? (fun n => (movable s n).any (fun g => !((unmovable n failed s).contains g))) with
      | some n => collectSeg n failed s
      | none => s)

/-- A TWIN segment that is full. -/
def twinFull (s : State) (n : Nat) : Bool :=
  (segOf s n).kind = .twin && !(s.vlt.reserve.contains n)
    && decide (segRows s * (twinPairs s (segDie n)).length ≤ (segOf s n).rows)

/-- `TWIN_COMPACTION` (R370): a full TWIN segment moves into PEAT rows. -/
def execTwinCompaction (n : Nat) (failed : List Nat) (s : State) : Result :=
  .next (if !vaultAwake s then wakeVault s
    else if !twinFull s n ∨ s.vlt.erasing.contains n ∨ segBusy s n then s
    else
      let s1 := if s.vlt.compact.any (fun e => e.1 = n) then s
        else { s with vlt := { s.vlt with compact := s.vlt.compact ++ [(n, 0)] } }
      collectSeg n failed s1)

/-- `LOG_FLUSH` (R357): 1 ms has passed since the oldest pending entry. -/
def execLogFlush (s : State) : Result :=
  .next (if s.spn.mode = .dump ∨ s.spn.mode = .parked ∨ !s.pwr.corePg then s else flushLog s)

/-- A channel has failed while programs ran on it: they have failed with it; in a dump its dies are lost for the rest (R289, R344). -/
def channelDown (c : Nat) (s : State) : State :=
  let running := (List.range 8).flatMap (fun d => runningOn s c d)
  let s1 := channelFailed c s
  if s.spn.mode = .dump then
    dumpKick ((List.range (vaultRec s1).diesPerCh).foldl (fun t d => dumpDieLost c d t) s1)
  else streamFollow s (dieProgramsFail running s1)

/-- `VAULT_TRAINING` (R330, R344): a channel has repeated its training; the third failure makes it FAILED. -/
def execVaultTraining (c : Nat) (ok : Bool) (s : State) : Result :=
  .next (if (vchOf s c).state ≠ 2 ∨ 16 ≤ c ∨ ok then s
    else
      let n := (vchOf s c).trainFails + 1
      let s1 := modVch c (fun v => { v with trainFails := n }) s
      if 3 ≤ n then channelDown c s1 else s1)

/-- `VAULT_FORCE_FAIL` (R344): in TEST the bit is set and an ACTIVE channel becomes FAILED; in other modes the write is
ignored. -/
def execVaultForceFail (c : Nat) (s : State) : Result :=
  .next (if s.spn.mode ≠ .test ∨ 16 ≤ c then s
    else
      let t := modVch c (fun v => { v with forceFail := true }) s
      if (vchOf s c).state ≠ 2 then t else channelDown c t)

/-- `DIE_TIMEOUT` (R344, R289): die `d` of channel `c` misses its maximum time plus 40 µs; twice in succession it is FAILED. In a dump the
first miss loses it for the rest. -/
def execDieTimeout (c d : Nat) (s : State) : Result :=
  .next (if 16 ≤ c ∨ !dieOk s c d ∨ !populated s c ∨ (vaultRec s).diesPerCh ≤ d then s
    else
      let n := (vchOf s c).missRun.getD d 0 + 1
      let s1 := modVch c (fun v => { v with timeouts := satAdd 16 v.timeouts 1, missRun := v.missRun.set d n }) s
      if s.spn.mode = .dump then dumpKick (dumpDieLost c d s1)
      else if n < 2 then s1
      else
        let running := runningOn s1 c d
        streamFollow s1 (dieProgramsFail running (dieFailed c d 2 s1)))

/-- `VAULT_ERASE_COMPLETE` (R347, R263): the erase of segment `n` ends. `failed` are the blocks whose erase failed, `slow` those that took
80 % or more of the maximum time, each by the VPA of its page 0. -/
def execVaultEraseComplete (n : Nat) (failed slow : List Nat) (s : State) : Result :=
  .next (if !(s.vlt.erasing.contains n) then s
    else
      let bad := (failed.filter (fun v => vpaSeg v = n)).map blockVpa
      let s1 := bad.foldl (fun t v =>
        raise 0x0805 (quadUnit (vpaCh v / 4) (4 + vpaCh v % 4)) [(5, v)]
          (retireBlock v (modVch (vpaCh v) (fun c => { c with eraseFail := satAdd 16 c.eraseFail 1 }) t))) s
      let s2 := if bad = [] then eraseDone n s1 else s1
      let s3 := (slow.filter (fun v => vpaSeg v = n && !(bad.contains (blockVpa v)))).foldl (fun t v => markWorn v 1 t) s2
      streamFollow s s3)

/-- A read that was decoded counts toward its block's mean correction load; with the block's last read a mean of 60 % or more makes it WORN, and the
count begins anew (R263). -/
def blockRead (v : Nat) (load : Option Nat) (last : Bool) (s : State) : State :=
  let b := blockVpa v
  let (sum0, n0) := tget (0, 0) s.vlt.readLoads b
  let (sum, n) := match load with
    | some l => (sum0 + l, n0 + 1)
    | none => (sum0, n0)
  let put (e : Nat × Nat) (s : State) : State := { s with vlt := { s.vlt with readLoads := tput (0, 0) s.vlt.readLoads b e } }
  if !last then put (sum, n) s
  else
    let t := put (0, 0) s
    if 0 < n ∧ 6000 * n ≤ sum then markWorn v 0 t else t

/-- `VAULT_READ_COMPLETE` (R348, R263, R333, R343): the read of a page ends; `words` are the bits corrected in each of its codewords, which
give the correction load. `hard` says that hard decision failed, `decoded` and `rebuilt` whether it decoded or was rebuilt from its row, `last` that it is the last of
its block's reads, over which the mean load is taken (R263), `ones` how many of its raw bits were 1: a page that reads as ERASED is not
decoded (R332). -/
def execVaultReadComplete (v : Nat) (words : List Nat) (ones : Nat) (hard decoded rebuilt last : Bool) (s : State) : Result :=
  let load := correctionLoad s words
  .next (if (pageAt s v).isNone ∨ !serving s then s
    else if readsErased s ones then
      blockRead v none last (modVch (vpaCh v) (fun x => { x with readPages := wrapAdd 64 x.readPages 1 }) s)
    else
      let c := vpaCh v
      let n := vpaSeg v
      let u := quadUnit (c / 4) (4 + c % 4)
      let again := rebuilt && (pageAt s v).any (rebuildPasses s v)
      let s1 := modVch c (fun x => { x with
        readPages := wrapAdd 64 x.readPages 1
        corrected := satAdd 32 x.corrected (words.foldl (· + ·) 0)
        maxLoad := max x.maxLoad (min load 65535)
        hardFails := if hard then satAdd 16 x.hardFails 1 else x.hardFails
        rebuilds := if !decoded && again then satAdd 16 x.rebuilds 1 else x.rebuilds }) s
      let s2 := if decoded then s1
        else if again then raise 0x0807 u [(5, v), (1, flag (!dieOk s c (vpaDie v)))] s1
        else raise 0x0808 u [(5, v)] s1
      let s3 := if (6000 ≤ load ∨ !decoded) ∧ s2.vlt.scrubbing.contains n ∧ !(s2.vlt.relocate.contains n) then
          raise 0x080A 0x0D [(4, n), (2, min load 65535)] (callSegment n s2)
        else s2
      blockRead v (some load) last s3)

end Sys2Proof.Machine
end

