-- ==== Sys2Proof/Machine/RoleOps.lean ====
section
/-!
DEFINITION. A failed SDE and the quadrant engines (R32, R291, R579, R607).
-/

namespace Sys2Proof.Machine

/-- The SDE that takes a failed one's coverage (R32): of the other enabled quadrants, the first after `q` in rising order, wrapping, whose
SDE is ACTIVE. -/
def coverFor (s : State) (q : Nat) : Option Nat :=
  ([1, 2, 3].map (fun k => (q + k) % 4)).find? (fun p =>
    s.spn.quadEn.testBit p && (roleOf s (quadUnit p 2)).state = .active)

/-- The covering SDE resumes a quadrant's part of a dump from its last passed page: pages that ran are programmed again (R291). -/
def dumpResume (q : Nat) (s : State) : State :=
  let gone := (dumpQuad s q).running.map Prod.snd
  modDumpQuad q (fun x => { x with
      running := []
      queue := (((x.running.map Prod.fst).filter (fun p => !(x.queue.contains p))) ++ x.queue).mergeSort
        (fun a b => partOf a ≤ partOf b) })
    { s with vlt := { s.vlt with pages := s.vlt.pages.filter (fun e => !(gone.contains e.1)) } }

/-- An SDE fails (R607): FAILED, its coverage taken by another (R31, R32). Its running programs count as failed with no block marked; its
fetches and captures stand and are reissued. -/
def sdeFail (q : Nat) (s : State) : State :=
  let u := quadUnit q 2
  if (roleOf s u).state = .failed then s
  else
    let cov := (roleOf s u).cover
    let running := (List.range 4).flatMap (fun k => (List.range 8).flatMap (fun d => runningOn s (4 * q + k) d))
    let s1 := setUnitState u .failed s
    let s2 := match coverFor s1 q with
      | none => s1
      | some p => changeRole (quadUnit p 2) (roleOf s1 (quadUnit p 2)).func ((roleOf s1 (quadUnit p 2)).cover ||| cov) .active s1
    if s.spn.mode = .dump then dumpKick (dumpResume q s2) else streamFollow s (dieProgramsFail running s2)

/-- An engine domain fails (R579): its SDE, its two cores and its four vault channels. -/
def engineFail (q : Nat) (s : State) : State :=
  let s1 := setUnitState (quadUnit q 3) .failed (coreFail (2 * q + 1) (coreFail (2 * q) (sdeFail q s)))
  ([0, 1, 2, 3].map (fun k => 4 * q + k)).foldl (fun t c => if (vchOf t c).state = 2 then channelDown c t else t) s1

end Sys2Proof.Machine
end

