-- ==== Sys2Proof/Machine/Power.lean ====
section
/-!
DEFINITION. Power states, wakes, input filters and rails (18, 20): IDLE_TIMER DOMAIN_WAKE DOMAIN_READY STALL_TIMEOUT P2_STEP_DONE
P2_STOP_TIMEOUT FILTER_INPUT_EDGE FILTER_TIMER RAIL_FAULT TEMP_RANGE VAULT_OFF.
-/

namespace Sys2Proof.Machine

/-! ## P1, and domains in P2 -/

/-- An SDE has a capture, program, fetch or restore queued, or entries in its ring (R565). -/
def sdeBusy (s : State) (q : Nat) : Bool :=
  !(ringOf s q).isEmpty
    || s.shd.rows.any (fun r => r.cols.any (fun c => c.passed.isNone && (colGranule c.what).any (fun g => quadOf s g = q)))
    || (List.range 4).any (fun k => (List.range 8).any (fun d => !(runningOn s (4 * q + k) d).isEmpty))
    || s.shd.twins.any (fun t => quadOf s t.granule = q)
    || (s.dmp.fetching ++ s.dmp.bulk).any (fun g => quadOf s g = q)

/-- A quadrant's DRAM has work: accesses of the host without an answer. -/
def memBusy (s : State) (q : Nat) : Bool :=
  s.hlk.writes.any (fun w => quadOf s (granuleOf w.line) = q) || s.hlk.reads.any (fun r => quadOf s (granuleOf r.line) = q)

/-- A ready domain goes down: gated, in self-refresh or off. -/
def gateDomain (d : Nat) (s : State) : State :=
  { s with pwr := { s.pwr with down := setBit s.pwr.down d, on := clearBit s.pwr.on d } }

/-- A domain is ready and powered. -/
def domainIdle (s : State) (d : Nat) : Bool :=
  s.pwr.on.testBit d && !domainStopped s d && !s.pwr.failed.testBit d

/-- `IDLE_TIMER` (R565, R566, R569): domain `d` has had no work for `IDLE_US`. Engine domains are clock-gated where P1 is permitted, and with
the last of them the device is in P1; in P2 a domain that had woken goes back. -/
def execIdleTimer (d : Nat) (s : State) : Result :=
  .next (
    let q := d - 10
    let m := d - 6
    if s.pwr.entry ≠ 0 ∨ !domainIdle s d then s
    else if 10 ≤ d ∧ s.spn.quadEn.testBit q ∧ !sdeBusy s q then
      if s.pwr.pstate = 2 then engRoles q .off (gateDomain d s)
      else if s.pwr.pstate ≤ 1 ∧ s.pwr.p1En ∧ serving s then
        let t := gateDomain d s
        if (quadList t).all (fun p => t.pwr.down.testBit (dQeng p)) then setPstate 1 0 t else t
      else s
    else if 6 ≤ d ∧ d < 10 ∧ s.spn.quadEn.testBit m ∧ s.pwr.pstate = 2 ∧ !memBusy s m then gateDomain d s
    else s)

/-- The mask of R577 for a domain number. -/
def wakeMask (d : Nat) : Nat := if 6 ≤ d ∧ d < 14 then 2 ^ (d - 6) else 0

/-- `DOMAIN_WAKE` (R566, R569, R576, R577): a request of a kind needs domain `d`, which is stopped. In PARKED no request wakes one. -/
def execDomainWake (kind d : Nat) (s : State) : Result :=
  .next (if !serving s ∨ !domainStopped s d ∨ kind = 0 ∨ 10 < kind then s else needDomains kind (wakeMask d) s)

/-- `DOMAIN_READY` (R578): domain `d` is ready after `us` µs, within the stall timer, and what waited for it goes on. An engine domain that P2 had turned OFF has its
units ACTIVE again (R32). -/
def execDomainReady (d us : Nat) (s : State) : Result :=
  .next (if !s.pwr.waking.testBit d ∨ s.pwr.stallUs < us then s
    else
      let s1 := { s with pwr := { s.pwr with waking := clearBit s.pwr.waking d, on := setBit s.pwr.on d
                                             stallMaxUs := max s.pwr.stallMaxUs (min us 0xFFFF) } }
      let s2 := if 10 ≤ d ∧ (roleOf s1 (quadUnit (d - 10) 2)).state = .off then engRoles (d - 10) .active s1 else s1
      exitDone (streamFollow s (cmdKick s2)))

/-- `STALL_TIMEOUT` (R579): domain `d` is not ready in `STALL_US` and FAILED. A quadrant's memory or core domain is fenced (R608); an engine
domain loses its units. -/
def execStallTimeout (d : Nat) (s : State) : Result :=
  .next (if !s.pwr.waking.testBit d then s
    else
      let s1 := raise 0x100A 0x04 [(1, d)] { s with pwr := { s.pwr with
        waking := clearBit s.pwr.waking d, failed := setBit s.pwr.failed d } }
      exitDone (
        if 10 ≤ d then engineFail (d - 10) s1
        else if 2 ≤ d then dumpKick (lifeFollow (fenceQuad ((d - 2) % 4) 1 s1))
        else s1))

/-! ## P2 entry -/

/-- What refuses step `k` of the entry, as the state tells it: unit and cause (R567). -/
def p2Refusals (s : State) (k : Nat) : List (Nat × Nat) :=
  let qs := quadList s
  if k = 1 then
    let busy := (List.range 256).any (fun r => (region s r).life = .starting || (region s r).life = .stopping)
    if busy || s.img.liveState = 1 || s.img.liveState = 2 || !s.kor.relWait.isEmpty then [(0x02, 2)] else []
  else if k = 2 then
    if !s.shd.cmds.isEmpty then [(0x0D, 3)]
    else if s.shd.gc = .critical || !s.vlt.rebuildSegs.isEmpty then [(0x0D, 1)]
    else if s.shd.regime = .top || s.dmp.preflush then [(0x0D, 5)]
    else []
  else if k = 3 then
    (qs.filter (fun q => s.gst.twin.any (fun g => quadOf s g = q) ||
      s.gst.states.any (fun e => e.2.st = .pending && quadOf s e.1 = q &&
        (regionOf s e.1).any (fun r => (region s r).life = .online)))).map (fun q => (0x12 + 8 * q, 1))
  else if k = 4 then
    let moving := s.cip.slots.any (fun x => x.st = .starting || x.st = .stopping)
    (qs.filter (fun q => moving || [2 * q, 2 * q + 1].any (fun c =>
      (s.cip.cores.getD c none).any (fun o => o.kind = .rekey || o.kind = .derive)))).map (fun q => (0x13 + 8 * q, 1))
  else if k = 5 then
    if s.vlt.erasing.isEmpty then []
    else qs.flatMap (fun q => ((List.range 4).filter (fun c => populated s (4 * q + c))).map (fun c => (quadUnit q (4 + c), 1)))
  else []

/-- A refusal that only the blocks can report: the vault channels' of step 5, causes 6 and 1, and the QDCs' of step 6, cause 7 (R567). -/
def blockRefusal (s : State) (k : Nat) (r : Nat × Nat) : Bool :=
  let q := (r.1 - 0x10) / 8
  let u := (r.1 - 0x10) % 8
  decide (0x10 ≤ r.1) && s.spn.quadEn.testBit q &&
    ((k = 5 && decide (4 ≤ u) && (r.2 = 6 || r.2 = 1)) || (k = 6 && u = 0 && r.2 = 7))

/-- The refusal that counts: the lowest unit's. -/
def lowestRefusal (l : List (Nat × Nat)) : Option (Nat × Nat) :=
  l.foldl (fun a r => match a with
    | some x => if r.1 < x.1 then some r else some x
    | none => some r) none

/-- The blocks of a step still work off what they had begun: the rows of step 2, programs and fetches of step 3, and operations of
step 4. -/
def stepBusy (s : State) (k : Nat) : Bool :=
  if k = 2 then !s.shd.rows.isEmpty
  else if k = 3 then !s.shd.twins.isEmpty || !s.dmp.fetching.isEmpty
  else if k = 4 then s.cip.cores.any Option.isSome || !s.cip.queue.isEmpty
  else false

/-- A step of the entry is done, and the next one begins: step 2 closes the rows; behind step 3 the engines, and behind step 6 the DRAM, are
stopped; then the device is in P2 (R564, R567). -/
def p2Advance (s : State) : State :=
  let k := s.pwr.entryStep
  let s1 := { s with pwr := { s.pwr with entryStep := k + 1 } }
  if k = 1 then closeRows (fun r => !r.closed) s1
  else if k = 3 then
    { s1 with pwr := { s1.pwr with down := s1.pwr.down ||| engDomains s1, on := without s1.pwr.on (engDomains s1) } }
  else if k = 6 then
    let s2 := { s1 with pwr := { s1.pwr with entry := 0, entryStep := 0, target := 0
                                             down := s1.pwr.down ||| memDomains s1, on := without s1.pwr.on (memDomains s1) } }
    replayWake (powerDone 2 (setPstate 2 6 (quadRoles [2, 3, 4, 5, 6, 7] .off s2)))
  else s1

/-- `P2_STEP_DONE` (R567, R568): every block of the step under way has stopped, or some refuse. `refusals` are what the vault channels and
QDCs report. -/
def execP2StepDone (refusals : List (Nat × Nat)) (s : State) : Result :=
  .next (
    let k := s.pwr.entryStep
    if s.pwr.entry ≠ 1 then s
    else match lowestRefusal (p2Refusals s k ++ refusals.filter (blockRefusal s k)) with
      | some r => settle (p2Refuse r.1 r.2 s)
      | none => if stepBusy s k then s else p2Advance s)

/-- A unit is a block of a step of the entry. -/
def blockOf (s : State) (k unit : Nat) : Bool :=
  let u := (unit - 0x10) % 8
  (k = 1 && unit = 0x02) || (k = 2 && unit = 0x0D) ||
    (decide (0x10 ≤ unit) && s.spn.quadEn.testBit ((unit - 0x10) / 8) &&
      ((k = 3 && u = 2) || (k = 4 && u = 3) || (k = 5 && decide (4 ≤ u)) || (k = 6 && u = 0)))

/-- `P2_STOP_TIMEOUT` (R567): a block of the step has neither stopped nor refused within 2 ms. -/
def execP2StopTimeout (unit : Nat) (s : State) : Result :=
  .next (if s.pwr.entry = 1 ∧ blockOf s s.pwr.entryStep unit then settle (p2Refuse unit 4 s) else s)

/-! ## Input filters (R586, R587) -/

/-- A pin's filter, and its change. -/
def filterOf (p : FilterPin) (s : State) : Filter :=
  match p with
  | .pfailWarn => s.pwr.warnFilter
  | .tamper => s.pwr.tamperFilter
  | .storePres => s.pwr.storeFilter
  | .pfailOd => s.pwr.odFilter

def setFilter (p : FilterPin) (f : Filter) (s : State) : State :=
  match p with
  | .pfailWarn => { s with pwr := { s.pwr with warnFilter := f } }
  | .tamper => { s with pwr := { s.pwr with tamperFilter := f } }
  | .storePres => { s with pwr := { s.pwr with storeFilter := f } }
  | .pfailOd => { s with pwr := { s.pwr with odFilter := f } }

/-- A level of a pin is its asserted one: high for STORE_PRES_N, low for the others. -/
def assertedLevel (p : FilterPin) (level : Bool) : Bool :=
  match p with
  | .storePres => level
  | _ => !level

/-- The number of an input in an event: the bytes of `PWR_FILTER` from the lowest. -/
def pinCode : FilterPin → Nat
  | .pfailWarn => 0 | .tamper => 1 | .storePres => 2 | .pfailOd => 3

/-- The PFAIL_WARN_N filter is used: `PIN_FLAGS` bit 2 (R587). -/
def pinUsed (p : FilterPin) (s : State) : Bool := p ≠ .pfailWarn || s.img.active.pins.pinFlags.testBit 2

/-- `FILTER_INPUT_EDGE` (R586): a filtered input takes a level; `short` says that the pulse it ends lasted less than 100 ns. A counted
pulse of the two power-fail inputs sets `PREFLUSH` (R587). -/
def execFilterInputEdge (p : FilterPin) (level short : Bool) (s : State) : Result :=
  .next (if !s.pwr.aonUp then s
    else
      let f := filterOf p s
      let on := assertedLevel p level
      let f1 := { f with level := level, seen := f.seen || on }
      if f.st = .idle ∧ on ∧ pinUsed p s then setFilter p { f1 with st := .qualify } s
      else if f.st = .qualify ∧ !on then
        let s1 := setFilter p { f1 with st := .idle, pulses := if short then f1.pulses else satAdd 16 f1.pulses 1 } s
        if short then s1
        else
          let s2 := raise 0x100F 0x04 [(1, pinCode p)] s1
          if (p = .pfailWarn ∨ p = .pfailOd) ∧ s2.pwr.corePg then settle (setPreflush s2) else s2
      else setFilter p f1 s)

/-- What a filter's report of an assertion does (R238, R273, R426, R461). The presence of the store changes nothing during a dump (R291). -/
def pinAsserted (p : FilterPin) (s : State) : State :=
  if !s.pwr.corePg then s
  else match p with
    | .pfailWarn => settle (warnAccepted s)
    | .tamper => if alarmEnabled s 4 then alarmFire 4 s else s
    | .storePres => if s.spn.mode = .dump then s else storeFollow s
    | .pfailOd => settle (setPreflush (raise 0x0A07 0x06 [(1, 2)] s))

/-- What a filter's report of a release does. -/
def pinReleased (p : FilterPin) (s : State) : State :=
  if p = .storePres ∧ s.pwr.corePg ∧ s.spn.mode ≠ .dump then storeFollow s else s

/-- The stuck condition of an input holds (R587). -/
def stuckHolds (p : FilterPin) (s : State) : Bool :=
  match p with
  | .pfailWarn => s.nrg.input = .good && decide (param s 13 ≤ s.nrg.vInput)
  | .pfailOd => true
  | _ => false

/-- `FILTER_TIMER` (R586): the timer that runs in the filter's state expires. -/
def execFilterTimer (p : FilterPin) (s : State) : Result :=
  .next (if !s.pwr.aonUp then s
    else
      let f := filterOf p s
      let on := assertedLevel p f.level
      match f.st with
      | .idle => s
      | .qualify => if on then pinAsserted p (setFilter p { f with st := .asserted } s) else s
      | .asserted =>
        if !on then pinReleased p (setFilter p { f with st := .idle } s)
        else if stuckHolds p s then
          pinReleased p (raise 0x100E 0x04 [(1, pinCode p)] (setFilter p { f with st := .stuck } s))
        else s
      | .stuck => if on then s else raise 0x100E 0x04 [(1, pinCode p)] (setFilter p { f with st := .idle } s))

/-! ## Rails, temperature, vault -/

/-- The number of a rail in an event: its row of R616. -/
def railCode : Rail → Nat
  | .core => 0 | .io => 1 | .mem => 2 | .vlt => 3 | .sds09 => 4 | .sds12 => 5 | .aon => 6

/-- The rail is one of the group that CORE_EN switches (R617). -/
def coreRail : Rail → Bool
  | .core => true | .io => true | .sds09 => true | .sds12 => true
  | _ => false

/-- `RAIL_FAULT` (R617, R619): a rail stays outside its range for 10 µs at `mv` mV. CORE_PG falls with a rail of its group, and its next rise
is a STRUCTURAL reset. -/
def execRailFault (rail : Rail) (mv : Nat) (s : State) : Result :=
  .next (
    if !s.pwr.aonUp then s
    else if coreRail rail then
      if !s.pwr.corePg then s
      else
        let t := powerGone s
        raise 0x1013 0x04 [(1, railCode rail), (2, mv)]
          { t with pwr := { t.pwr with coreEn := true, corePg := false, railReset := true } }
    else if !s.pwr.corePg then s
    else raise 0x1013 0x04 [(1, railCode rail), (2, mv)] s)

/-- `TEMP_RANGE` (R627): junction sensor `k` leaves or re-enters the variant's operating range at a temperature of 0.1 °C steps. -/
def execTempRange (k : Nat) (out : Bool) (temp : Int) (s : State) : Result :=
  .next (if !s.pwr.corePg ∨ 9 ≤ k ∨ s.pwr.tempOut.testBit k = out then s
    else raise 0x1012 0x04 [(1, k), (2, twos 16 temp)] { s with pwr := { s.pwr with tempOut := putBit s.pwr.tempOut k out } })

/-- `VAULT_OFF` (R590): in PARKED with an empty vault VCCQ_VLT stays off; elsewhere ignored. Event 0x1011 with 0 ignored, 1 powered
off; 2 stands for the blank vault of R590. -/
def execVaultOff (s : State) : Result :=
  .next (if !s.pwr.corePg then s
    else if s.spn.mode = .dump then rejectInDump s
    else if s.spn.mode = .parked ∧ s.pwr.vaultEmpty then
      raise 0x1011 0x04 [(1, 1)] { s with pwr := { s.pwr with vltEn := false, vaultOff := true } }
    else raise 0x1011 0x04 [(1, 0)] s)

end Sys2Proof.Machine
end

