-- ==== Sys2Proof/Machine/Reset.lean ====
section
/-!
DEFINITION. Structural and firmware resets and the watchdog (R560, R583, R585): REBOOT STRUCT_RESET FW_RESTART KICK WATCHDOG_EXPIRY
LOCKSTEP_MISMATCH.
-/

namespace Sys2Proof.Machine

/-- `REBOOT` (R560): in PARKED a STRUCTURAL reset; elsewhere event 0x0F0A. -/
def execReboot (s : State) : Result :=
  .next (if !s.pwr.corePg then s
    else if s.spn.mode = .parked then structReset s
    else raise 0x0F0A 0x0B [] s)

/-- `STRUCT_RESET` (R583): in RECOVERY a STRUCTURAL reset; a write in DUMP is rejected (R44), in other modes ignored. -/
def execStructReset (s : State) : Result :=
  .next (if !s.pwr.corePg then s
    else if s.spn.mode = .dump then rejectInDump s
    else if s.spn.mode = .recovery then structReset s
    else s)

/-- A FIRMWARE reset (R583, R585, R442, R481, R227), `trigger` 0 FW_RESTART, 1 watchdog, 2 lockstep mismatch. The third within 10 s logs
0x100D and halts the firmware. -/
def firmwareReset (trigger : Nat) (s : State) : State :=
  let s1 := resetBg s
  let s2 := if s1.cip.owner = 1 then claspRelease s1 else s1
  let s3 := noteReset 5 (learnDisqualify 0x05 (tskReleaseAll 11 s2))
  let recent := s.evr.opSec :: s.pwr.restarts.filter (fun t => s.evr.opSec ≤ t + 10)
  let s4 := { s3 with pwr := { s3.pwr with
    fwCnt := satAdd 16 s3.pwr.fwCnt 1, fwBusy := true, restarts := recent
    halted := s3.pwr.halted || decide (3 ≤ recent.length) } }
  let s5 := if 3 ≤ recent.length then raise 0x100D 0x04 [(1, trigger), (1, recent.length)] s4 else s4
  if s5.spn.mode = .dump then s5 else settle s5

/-- The firmware can restart: the core runs and it is not halted (R585). -/
def fwRuns (s : State) : Bool := s.pwr.corePg && !s.pwr.halted

/-- `FW_RESTART` (R583, R585); a write in DUMP is rejected (R44). -/
def execFwRestart (s : State) : Result :=
  .next (if !fwRuns s then s
    else if s.spn.mode = .dump then rejectInDump s
    else firmwareReset 0 s)

/-- `KICK` (R585): the management complex restarts the watchdog; the first kick after a restart shows that it is over. Writes from other
paths are ignored. The watchdog's time is not held (log 6). -/
def execKick (path : Path) (s : State) : Result :=
  .next (if path ≠ .firmware ∨ !fwRuns s then s
    else { s with pwr := { s.pwr with fwBusy := false, kick := true } })

/-- `WATCHDOG_EXPIRY` (R585): `KICK` has not been written for `WDT_MS`; 0 turns the watchdog off. -/
def execWatchdogExpiry (s : State) : Result :=
  .next (if !fwRuns s ∨ s.pwr.wdtMs = 0 then s
    else firmwareReset 1 s)

/-- What a lockstep mismatch does (R607): event 0x110A and a FIRMWARE reset. -/
def lockstepReset (s : State) : State := if !fwRuns s then s else firmwareReset 2 (raise 0x110A 0x00 [] s)

/-- `LOCKSTEP_MISMATCH` (R606, R607). -/
def execLockstepMismatch (s : State) : Result := .next (lockstepReset s)

end Sys2Proof.Machine
end

