-- ==== Sys2Proof/Machine/Integrity.lean ====
section
/-!
DEFINITION. Patrol, scrubbing, failing SDEs, chip marks and error injection (19): SRAM_SCRUB PATROL_READ SDE_STALL_TIMEOUT
SDE_PARITY_ERROR MARK_SET INJECT_ARM.
-/

namespace Sys2Proof.Machine

/-! ## SRAM arrays (R601) -/

/-- The index of an array in an event: its row of R601 (R645); 8 for the manifest builder, which R23 names and no row does (log 122). -/
def sramCode : Sram → Nat
  | .gst => 0 | .descriptor => 1 | .staging => 2 | .cipher => 2 | .regions => 3 | .mapCache => 4 | .replay => 5 | .management => 6
  | .aos => 7 | .manifest => 8

/-- The unit that scrubs an array: the quadrant's QDC, or the unit that owns it. -/
def sramUnit (w : SramWord) : Nat :=
  match w.array with
  | .gst => quadUnit w.quad 0
  | .staging => quadUnit w.quad 0
  | .descriptor => 0x08
  | .regions => 0x02
  | .mapCache => 0x0D
  | .replay => 0x05
  | .management => 0x00
  | .aos => 0x04
  | .cipher => 0x07
  | .manifest => 0x0E

/-- The words of an array (R23, R25): 8 data bytes each; of a GST and a staging slice, one quadrant's. Descriptors are named by pointer,
AOS by byte. -/
def sramWords : Sram → Nat
  | .gst => 0x40000
  | .staging => 0x80000
  | .descriptor => 2 ^ 24
  | .regions => 0x8000
  | .mapCache => 0x38000
  | .replay => 0x40000
  | .management => 0x60000
  | .aos => 0x1000
  | .cipher => 0x10000
  | .manifest => 0x10000

/-- The quadrant's SRAM counts cover its GST and staging slices (R601). -/
def sramCount (w : SramWord) (s : State) : State :=
  if w.array = .gst ∨ w.array = .staging then
    modQdc w.quad (fun d => if w.bad then { d with sramUe := satAdd 16 d.sramUe 1 }
      else { d with sramCe := satAdd 32 d.sramCe 1 }) s
  else s

/-- A granule whose state is unknown becomes DIRTY with a reservation, even where D then exceeds B, and is shadowed first (R177). -/
def unknownGranule (g : Nat) (s : State) : State :=
  let s1 := takeRsv g (setGState g .dirty s)
  joinRing g { s1 with gst := { s1.gst with twin := sdel s1.gst.twin g, rebuilt := sins g s1.gst.rebuilt } }

/-- An uncorrectable state word of a GST: its 16 granules (R177). In a dump states change only as the dump defines (R172). -/
def gstWordLost (q addr : Nat) (s : State) : State :=
  let gs := ((List.range 16).map (fun k => granuleAt s q (16 * addr + k))).filter (fun g => decide (g < hdmGranules s))
  if gs = [] ∨ s.spn.mode = .dump ∨ !s.spn.quadEn.testBit q then s
  else settle (refreshConditions false (raise 0x030C (quadUnit q 1) [(4, granuleAt s q (16 * addr))]
    (gs.foldl (fun t g => unknownGranule g t) s)))

/-- An uncorrectable word of AOS (R26): its header clears all of it, another word the area that holds it. What the running dump sequencer
holds is not of AOS. -/
def aosWordLost (addr : Nat) (s : State) : State :=
  if addr < 0x40 then
    raise 0x1002 0x04 [] { s with aos := { valid := true, seq := s.aos.seq, opSec := s.aos.opSec, powerCycles := s.aos.powerCycles } }
  else if addr < 0x100 then dropArea s 1
  else if addr < 0x300 then dropArea s 2
  else if addr < 0x700 then dropArea s 3
  else if addr < 0x800 then raise 0x1003 0x04 [(1, 4)] s
  else if addr < 0x1000 then dropArea s 5
  else s

/-- The owner of an uncorrectable SRAM word handles it (R601). Staging buffers and cipher contexts hold only copies, and their operations
start again; a region table is loaded again from the image, and an entry of the vault-map cache is read again. The manifest builder is
built again from the device's own state (log 122). -/
def sramOwner (w : SramWord) (s : State) : State :=
  match w.array with
  | .gst => gstWordLost w.quad w.addr s
  | .descriptor =>
    if (ptrPool s w.addr).isSome ∧ (descOf s w.addr).dstate ≠ 2 then
      quarantine w.addr { descOf s w.addr with refcnt := 16, holders := 0xFFFF } 0 s
    else s
  | .staging => s
  | .cipher => s
  | .manifest => s
  | .regions => s
  | .mapCache => s
  | .replay =>
    if s.kor.state = .deciding ∧ !s.kor.asking then
      takeoverResume (askWitness .decision { s with
        kor := { s.kor with retrain := 2, asking := true, trained := false, up := false, width := 0 } })
    else s
  | .management => lockstepReset s
  | .aos => aosWordLost w.addr s

/-- One word the scrub finds bad. -/
def sramFinding (w : SramWord) (s : State) : State :=
  if w.bad then
    sramOwner w (raise 0x1107 (sramUnit w) [(1, sramCode w.array), (4, w.addr)] (sramCount w s))
  else raise 0x1106 (sramUnit w) [(1, sramCode w.array)] (sramCount w s)

/-- The faults planted in a quadrant's SRAM, as findings (R609). -/
def plantedWords (s : State) (q : Nat) : List SramWord :=
  (qdcOf s q).sramPlanted.map (fun e => ⟨if e.1 = 0 then .gst else .staging, q, e.2.1, e.2.2⟩)

/-- `SRAM_SCRUB` (R601): the scrub of one second, with the words found bad; those planted are among them. -/
def execSramScrub (found : List SramWord) (s : State) : Result :=
  .next (if !s.pwr.corePg then s
    else
      let all := found ++ (quadList s).flatMap (plantedWords s)
      let s1 := { s with qdc := s.qdc.map (fun d => { d with sramPlanted := [] }) }
      (all.filter (fun w => decide (w.quad < 4) && decide (w.addr < sramWords w.array))).foldl (fun t w => sramFinding w t) s1)

/-! ## Patrol (R596 to R604) -/

/-- Lines of a channel. -/
def chLines (s : State) : Nat := s.spn.dramGib * 65536 * 256

/-- Patrol runs: in RESTORE, SERVICE and TEST, not in P2 (R596). -/
def patrolRuns (s : State) (q : Nat) : Bool :=
  serving s && decide (s.pwr.pstate ≠ 2) && s.spn.quadEn.testBit q && (qdcOf s q).state = 2 && memReady s q

/-- The errors that a patrol read sees with those armed for it (R609, target 2). -/
def patrolErrs (s : State) (q : Nat) (errs : List SymErr) : List SymErr :=
  if armedFor s q 2 then
    let d := qdcOf s q
    errs ++ (List.range 8).flatMap (fun w =>
      [(⟨w, d.symA, 255⟩ : SymErr)] ++ (if d.symbols = 2 then [⟨w, d.symB, 255⟩] else []))
  else errs

/-- What an uncorrectable word of the reserved DRAM held (R604, R177, R245, R247). -/
def reservedLost (q : Nat) (r : ReservedWord) (s : State) : State :=
  match r with
  | .none => s
  | .ring => rebuildRing q s
  | .touch g => if quadOf s g = q then touchRewrite g s else s
  | .mapEntry g =>
    if quadOf s g ≠ q then s
    else if gstate s g = .shadowed then
      settle (refreshConditions false (raise 0x030C (quadUnit q 1) [(4, g)]
        (unknownGranule g (setMap g freshMap s))))
    else if gstate s g = .pending then settle (granuleLost g (raise 0x1107 (quadUnit q 0) [(1, 4), (4, g)] s))
    else s

/-- A patrol read in the reserved area: corrections count, and an uncorrectable word goes to its owner (R604). -/
def patrolReserved (q cl : Nat) (errs again : List SymErr) (r : ReservedWord) (s : State) : State :=
  let mark := ((qdcOf s q).marks.find? (fun e => e.1 = slotOfLine cl)).map Prod.snd
  let word (w : Nat) : WordRead :=
    let e := errs.filter (fun e => e.word = w && e.sym < 10 && e.err % 256 ≠ 0)
    match mark with
    | some m => (decodeMarked m e false).1
    | none => (decodePlain e false).1
  let rs := (List.range 8).map word
  let s1 := rs.foldl (fun t x => match x with
    | .corrected m => symbolFixed q cl m false false (again.any (fun e => e.sym = m)) t
    | _ => t) s
  if rs.any (fun x => x = .uncorrectable || x = .poison) then
    let s2 := raise 0x1103 (quadUnit q 0) [(5, cl * 64)] (modQdc q (fun d => { d with
      ueLines := satAdd 32 d.ueLines 1, lastLine := cl, ueRecent := d.ueRecent + 1 }) s1)
    let s3 := reservedLost q r s2
    if 64 < (qdcOf s3 q).ueRecent then dumpKick (lifeFollow (fenceQuad q 2 s3)) else s3
  else s1

/-- The patrol goes on to the next line; at the end of a pass the counts of the pass begin again (R596, R597). -/
def patrolNext (q : Nat) (s : State) : State :=
  modQdc q (fun d =>
    if d.patrolLine + 1 < chLines s then { d with patrolLine := d.patrolLine + 1 }
    else { d with patrolLine := 0, passes := satAdd 32 d.passes 1, corrected := [], persist := [] }) s

/-- `PATROL_READ` (R596, R597, R604): the QDC of quadrant `q` reads its next line, whose burst shows `errs`, and `again` on a second read.
`r` says what a word of the reserved area that cannot be corrected holds. -/
def execPatrolRead (q : Nat) (errs again : List SymErr) (r : ReservedWord) (s : State) : Result :=
  .next (if !patrolRuns s q then s
    else
      let cl := (qdcOf s q).patrolLine
      let g := granuleAt s q (cl / 256)
      let es := patrolErrs s q errs
      let s1 := patrolNext q (if armedFor s q 2 then planted q 2 s else s)
      if g < hdmGranules s then
        let line := g * 256 + cl % 256
        let t := readEffects line false again (readLine s1 line es) s1
        if (qdcOf t q).state = 3 then lifeFollow t else settle t
      else patrolReserved q cl es again r s1)

/-! ## SDE failures, marks and injection -/

/-- `SDE_STALL_TIMEOUT` (R607): an operation of the SDE of quadrant `q` makes no progress for 20 µs. -/
def execSdeStallTimeout (q : Nat) (s : State) : Result :=
  .next (if !s.pwr.corePg ∨ !s.spn.quadEn.testBit q ∨ domainStopped s (dQeng q) then s else sdeFail q s)

/-- `SDE_PARITY_ERROR` (R607). -/
def execSdeParityError (q : Nat) (s : State) : Result :=
  .next (if !s.pwr.corePg ∨ !s.spn.quadEn.testBit q then s else sdeFail q s)

/-- `MARK_SET` (R600): in BOOT and TEST the selected component of an unmarked slot is marked. -/
def execMarkSet (q : Nat) (s : State) : Result :=
  let d := qdcOf s q
  .next (if !modeIn [.boot, .test] s ∨ !s.pwr.corePg ∨ 4 ≤ q ∨ 9 < d.setChip ∨ d.marks.any (fun e => e.1 = d.setSlot) then s
    else chipMark q d.setSlot d.setChip s)

/-- `INJECT_ARM` (R609): in TEST the selected fault is armed, and targets 6 to 8 are planted at once: a quadrant fence, an SDE failure, a
failure of core 2q. -/
def execInjectArm (q : Nat) (s : State) : Result :=
  let t := (qdcOf s q).target
  .next (if s.spn.mode ≠ .test ∨ !s.spn.quadEn.testBit q ∨ t = 0 ∨ 8 < t then s
    else if t = 6 then lifeFollow (fenceQuad q 3 (planted q 6 s))
    else if t = 7 then sdeFail q (planted q 7 s)
    else if t = 8 then coreFail (2 * q) (planted q 8 s)
    else modQdc q (fun d => { d with armed := true }) s)

end Sys2Proof.Machine
end

