-- ==== Sys2Proof/Machine/Roles.lean ====
section
/-!
DEFINITION. Crossbar messages and the role table (R19, R28 to R31, R45): MESSAGE_ARRIVAL STALE_ROLE ROLE_DATA_WRITE.
-/

namespace Sys2Proof.Machine

/-- How often a message has bounced in a row. -/
def bounceCount (s : State) (m : XMsg) : Nat :=
  ((s.spn.bounces.find? (fun b => b.1 = (m.source, m.tag))).map Prod.snd).getD 0

/-- The bounces of a message recorded; 0 takes it off the list. -/
def setBounces (m : XMsg) (n : Nat) (s : State) : State :=
  let rest := s.spn.bounces.filter (fun b => b.1 ≠ (m.source, m.tag))
  { s with spn := { s.spn with bounces := if n = 0 then rest else rest ++ [((m.source, m.tag), n)] } }

/-- The check of R29: role and generation equal the target's entry. -/
def roleMatches (s : State) (m : XMsg) : Bool := m.role = (roleOf s m.target).func && m.gen = (roleOf s m.target).gen

/-- `MESSAGE_ARRIVAL` (R19, R29, R30): a header reaches its target port, in a beat with `bad` bad symbols. One bad symbol is corrected in
flight; with two the beat is delivered poisoned and 0x1101 logged from the unit that receives it. The crossbar stage of the quadrant counts
both (R601). -/
def execMessageArrival (m : XMsg) (bad : Nat) (s : State) : Result :=
  .next (if !s.pwr.corePg ∨ 48 ≤ m.target ∨ 48 ≤ m.source then s
    else
      let s0 := if bad = 0 then s else beatCount (if 16 ≤ m.target then m.target else m.source) (decide (2 ≤ bad)) s
      let s1 := if 2 ≤ bad then raise 0x1101 m.target [(1, m.source), (1, m.target)] s0 else s0
      if roleMatches s1 m then send (.xbarAccept m (decide (2 ≤ bad))) (setBounces m 0 s1)
      else
        let s2 := setBounces m (bounceCount s1 m + 1) s1
        raise 0x1201 0x00 [(1, m.source), (1, m.target)] (send (.xbarStale m.source m.tag)
          { s2 with spn := { s2.spn with staleBounces := satAdd 16 s2.spn.staleBounces 1 } }))

/-- The unit that a sender resolves a role to (R30): for a quadrant's work the ACTIVE unit of that function that covers the quadrant of the
former target, else the former target. -/
def resolveRole (s : State) (m : XMsg) : Nat :=
  if m.target < 16 then m.target
  else
    let q := (m.target - 16) / 8
    ((List.range 48).find? (fun u =>
      (roleOf s u).func = m.role && (roleOf s u).state = .active && (roleOf s u).cover.testBit q)).getD m.target

/-- A dump's message has failed for good (R31): the sequencer handles the granules as in a loss of the vault channel it was for; what
another unit was to do for a quadrant, or a spine unit for all of them, is programmed again. DEDUCED (log 121). -/
def dumpMessageLost (target : Nat) (s : State) : State :=
  if s.spn.mode ≠ .dump then s
  else if target < 16 then dumpKick ((quadList s).foldl (fun t q => dumpResume q t) s)
  else
    let q := (target - 16) / 8
    let u := (target - 16) % 8
    if 4 ≤ u then
      dumpKick ((List.range (vaultRec s).diesPerCh).foldl (fun t d => dumpDieLost (4 * q + (u - 4)) d t) s)
    else dumpKick (dumpResume q s)

/-- `STALE_ROLE` (R30, R31): the completion reaches the sender, which resolves the role and sends again. The third bounce in a row fails with
ROLE_UNRESOLVED and event 0x1202. A message for a dump is tried once more; where that fails too, 0x1202 is logged and `UNRESOLVED` counted
again (log 100). A host access is a single fault: it is resolved anew and sent again, so that it is late and not lost (log 121). -/
def execStaleRole (m : XMsg) (s : State) : Result :=
  .next (
    let n := bounceCount s m
    let dest := resolveRole s m
    let again : XMsg := { m with target := dest, role := (roleOf s dest).func, gen := (roleOf s dest).gen }
    if n = 0 then s
    else if n < 3 then send (.xbarResend again) s
    else
      let s1 := raise 0x1202 0x00 [(1, m.source), (1, m.target)] (send (.xbarUnresolved m.source m.tag)
        { s with spn := { s.spn with unresolved := satAdd 16 s.spn.unresolved 1 } })
      if m.forDump ∧ n = 3 then send (.xbarResend again) s1
      else
        let s2 := setBounces m 0 s1
        if m.forDump then dumpMessageLost m.target s2
        else if m.forHost then send (.xbarResend again) s2
        else s2)

/-- `ROLE_DATA_WRITE` (R32, R45): in TEST the selected unit takes a function and a coverage; a write in DUMP is rejected (R44), in other
modes ignored. -/
def execRoleDataWrite (func cover : Nat) (s : State) : Result :=
  .next (if !s.pwr.corePg then s
    else if s.spn.mode = .dump then rejectInDump s
    else if s.spn.mode ≠ .test ∨ 0x2F < s.spn.roleIdx then s
    else changeRole s.spn.roleIdx (func % 64) (cover % 16) (roleOf s s.spn.roleIdx).state s)

end Sys2Proof.Machine
end

