-- ==== Sys2Proof/Machine/Registers.lean ====
section
/-!
DEFINITION. Register accesses over BAR0 and the array window (R11, R12, R44, R420, R421, R638 to R643): REGISTER_WRITE RC_READ WINDOW_READ
WINDOW_WRITE WINDOW_READ_TIMEOUT WIN_RD WIN_RD_A WIN_WR.
-/

namespace Sys2Proof.Machine

/-! ## What a written field starts -/

/-- The state a command's meaning answers. -/
def run (r : Result) (s : State) : State :=
  match r with
  | .next t => t
  | _ => s

/-- `f` where the write has a 1 at bit `i`. -/
def RegWr.onOne (w : RegWr) (i : Nat) (f : State → Result) (s : State) : State := if w.one i then run (f s) s else s

/-- `CIP_KEY_CMD` (R444 to R448): the operation a write of `OP` starts. -/
def keyCommand (path : Path) (op : Nat) (s : State) : State :=
  match op with
  | 1 => run (execLoad path s) s
  | 2 => run (execDerive path s.cip.cmdRoot s) s
  | 3 => run (execUnload path s) s
  | 4 => run (execClearStaging path s) s
  | _ => s

/-- `IMG_LIVE_CTRL` (R92): `GO` with `OP` CHECK or APPLY; other values do nothing. -/
def liveCommand (s : State) : State :=
  match s.img.liveOp with
  | 1 => run (execLiveCheck s.img.liveSlot s) s
  | 2 => run (execLiveApply s.img.liveSlot s) s
  | _ => s

/-- What a write of the front's, the write path's and the energy fields starts beyond what it stores. -/
def actFront (w : RegWr) (a : Nat) (s : State) : State :=
  match a with
  | 0x00020 =>
    let e := roleOf s s.spn.roleIdx
    run (execRoleDataWrite (w.field 8 6 e.func) (w.field 16 4 e.cover) s) s
  | 0x20018 =>
    if s.spn.mode = .dump then rejectInDump s
    else w.onOne 0 execRegionStart (w.onOne 1 execRegionStop s)
  | 0x20058 =>
    if s.spn.mode = .dump then rejectInDump s
    else w.onOne 1 execRecompute (if w.hits 0 1 then run (execForceZeroWrite (w.value.testBit 0) s) s else s)
  | 0x30048 => w.onOne 0 execLearnCtrlStart (w.onOne 1 execLearnCtrlAbort s)
  | 0x30068 =>
    if w.hits 0 32 then
      run (execParamWrite (w.field 0 32 (((s.nrg.params.find? (fun p => p.id = s.nrg.paramIdx)).map Param.val).getD 0)) s) s
    else s
  | 0xC0020 => w.onOne 0 (fun s => .next (liveCommand s)) s
  | 0xE0058 => if s.spn.mode = .dump then s else w.onOne 0 execTestDump s
  | _ => s

/-- The same for the power, pair and log fields and for the trust unit. `fact` is what the block finds where a field asks for it: the
identity certificate good (R548), the journal entry read back (R503), the sensors quiet (R464). -/
def actUnits (w : RegWr) (a : Nat) (fact : Bool) (s : State) : State :=
  match a with
  | 0x40008 =>
    if s.spn.mode = .dump then s
    else if w.one 3 && s.spn.mode = .recovery then run (execStructReset s) s
    else w.onOne 1 execFwRestart (w.onOne 2 execVaultOff s)
  | 0x40038 => w.onOne 0 (execKick w.path) s
  | 0x50038 => if s.spn.mode = .dump then s else w.onOne 32 execSoloStart s
  | 0x70008 => if w.hits 0 2 then run (execClaspWrite w.path (w.field 0 2 s.cip.owner) s) s else s
  | 0x70020 => if w.hits 0 3 then keyCommand w.path (w.field 0 3 0) s else s
  | 0x70038 => w.onOne 0 execTopup (w.onOne 1 execCompact s)
  | 0x70040 => w.onOne 8 (execAlarmAck fact) s
  | 0x90030 =>
    let c := cursorOf w.path s
    run (execCursorLoad w.path (w.field 0 64 (c.loading.getD c.seq)) s) s
  | 0x90038 => w.onOne 0 (execCursorNext w.path) s
  | 0xA0038 =>
    if w.path = .firmware then
      w.onOne 0 (execJournalAppend w.path s.ifc.jType s.ifc.jBank s.ifc.jSector s.ifc.jAux fact) s
    else s
  | 0xB0078 => w.onOne 8 (execAdvance w.path fact) (w.onOne 3 (execExtend w.path s.sig.extReg) s)
  | 0xB0080 => w.onOne 0 (execCommit w.path) s
  | 0xB0090 => w.onOne 0 execReboot s
  | _ => s

/-- The same for a quadrant's units. -/
def actQuad (w : RegWr) (a : Nat) (s : State) : State :=
  let (q, u, off) := quadAddr a
  if !s.spn.quadEn.testBit q then s
  else if u = 0 ∧ off = 0x18 then w.onOne 8 (execMarkSet q) s
  else if u = 0 ∧ off = 0x48 then w.onOne 0 (execInjectArm q) s
  else if 4 ≤ u ∧ u < 8 ∧ off = 0x38 then w.onOne 16 (execVaultForceFail (4 * q + (u - 4))) s
  else s

/-- A write of some bits of the register at an 8-byte aligned address (R11, R12, R639): fields store, and what they start acts. -/
def regWrite (w : RegWr) (a : Nat) (fact : Bool) (s : State) : State :=
  let s1 := regStore w a s
  if a < 0x100000 then actUnits w a fact (actFront w a s1)
  else if a < 0x200000 then actQuad w a s1
  else s1

/-! ## Accesses of this member's own BAR0 -/

/-- A write below the array window, or to the flash window (R486, R638). The key staging takes 64-bit writes only (R442). -/
def localWrite (path : Path) (addr width value : Nat) (fact : Bool) (s : State) : State :=
  if 0x1000000 ≤ addr then s
  else if 0x800000 ≤ addr then flashCycle path (addr - 0x800000) width value s
  else if hasWo (addr / 8 * 8) then run (execKeyDataWrite path (addr / 8 - 0xE010) width value s) s
  else regWrite (wrOf path addr width value) (addr / 8 * 8) fact s

/-- A read of the same. -/
def localRead (path : Path) (addr width : Nat) (s : State) : State :=
  if 0x1000000 ≤ addr then send (.readData path 0) (dropHalf path s)
  else if 0x800000 ≤ addr then dropHalf path (flashRead path (addr - 0x800000) width 0 s)
  else
    let r := regRead path addr width s
    send (.readData path r.1) r.2

/-- An access that is not performed (R643): a read over CXL.io ends with Completer Abort, on other paths it returns 0. -/
def badRead (path : Path) (s : State) : State := send (if path = .bar0 then .abort path else .readData path 0) s

/-! ## The array window of the head -/

/-- The member and the BAR0 offset there that an offset of the array window reaches (R420). -/
def windowTarget (o : Nat) (s : State) : Nat × Nat := (o / 0x4000, s.cwy.winBase * 0x4000 + o % 0x4000)

/-- The window acts: the member is head and its unit runs (R420, R639). -/
def windowOpen (s : State) : Bool := s.cwy.isHead && s.cwy.unit = .on

/-- A window access refused or aborted (R421): `WIN_ABORT` and event 0x0A06. -/
def windowFail (m off : Nat) (s : State) : State :=
  raise 0x0A06 0x06 [(1, m), (4, off)] { s with cwy := { s.cwy with winAbort := satAdd 16 s.cwy.winAbort 1 } }

/-- A read of the window (R420, R421). A window address reached through the head's own window names no register (log 47). -/
def windowRead (path : Path) (addr width : Nat) (s : State) : State :=
  let (m, off) := windowTarget (addr - 0x300000) s
  let held := s.spn.halves.find? (fun h => h.1 = (path, addr / 8 * 8))
  let s1 := dropHalf path s
  if !windowOpen s then send (.readData path 0) s1
  else if m = s.cwy.myId then localRead path off width s
  else match (if width = 4 ∧ addr % 8 = 4 then held else none) with
    | some h => send (.readData path h.2) s1
    | none =>
      if !s.cwy.live.testBit m then windowFail m off (send (.abort path) s1)
      else
        let t := s.cwy.nextTag
        frameSend m t (.winRd off) { s1 with cwy := { s1.cwy with
          nextTag := wrapAdd 16 t 1
          winAsks := s1.cwy.winAsks ++ [⟨path, m, off, addr, width, t, decide (width = 4 ∧ addr % 8 = 0)⟩] } }

/-- A write of the window (R420): it completes on the head's link at once. -/
def windowWrite (path : Path) (addr width value : Nat) (fact : Bool) (s : State) : State :=
  let (m, off) := windowTarget (addr - 0x300000) s
  if !windowOpen s then s
  else if m = s.cwy.myId then localWrite path off width value fact s
  else
    let t := s.cwy.nextTag
    let w := wrOf path off width value
    frameSend m t (.winWr (off / 8 * 8) (if width = 8 then 0xFF else if off % 8 = 4 then 0xF0 else 0x0F) w.value)
      { s with cwy := { s.cwy with nextTag := wrapAdd 16 t 1 } }

/-! ## The commands -/

/-- `REGISTER_WRITE` (R11, R12, R44, R639, R641, R643): a write of `width` bytes at a BAR0 address. An access of another width or alignment is
ignored. -/
def execRegisterWrite (path : Path) (addr width value : Nat) (fact : Bool) (s : State) : Result :=
  .next (if !s.pwr.corePg then s
    else
      let s1 := dropHalf path s
      if !accessOk addr width then s1
      else if 0x300000 ≤ addr ∧ addr < 0x400000 then windowWrite path addr width value fact s1
      else localWrite path addr width value fact s1)

/-- `RC_READ` (R11, R532, R641 to R643): a read of `width` bytes at a BAR0 address; read-clearing fields it reaches clear. -/
def execRcRead (path : Path) (addr width : Nat) (s : State) : Result :=
  .next (if !s.pwr.corePg then s
    else if !accessOk addr width then badRead path (dropHalf path s)
    else if 0x300000 ≤ addr ∧ addr < 0x400000 then windowRead path addr width s
    else localRead path addr width s)

/-- `WINDOW_READ` (R420, R421): a read of the array window, `addr` its BAR0 address. -/
def execWindowRead (path : Path) (addr width : Nat) (s : State) : Result :=
  .next (if !s.pwr.corePg ∨ addr < 0x300000 ∨ 0x400000 ≤ addr then s
    else if !accessOk addr width then badRead path (dropHalf path s)
    else windowRead path addr width s)

/-- `WINDOW_WRITE` (R420). -/
def execWindowWrite (path : Path) (addr width value : Nat) (fact : Bool) (s : State) : Result :=
  .next (if !s.pwr.corePg ∨ addr < 0x300000 ∨ 0x400000 ≤ addr then s
    else
      let s1 := dropHalf path s
      if !accessOk addr width then s1 else windowWrite path addr width value fact s1)

/-- The window read of a tag ends without data (R421). -/
def windowGone (a : WinAsk) (s : State) : State :=
  windowFail a.member a.off (send (.abort a.path) { s with cwy := { s.cwy with winAsks := s.cwy.winAsks.filter (fun x => x.tag ≠ a.tag) } })

/-- `WINDOW_READ_TIMEOUT` (R421): no answer within 20 µs. -/
def execWindowReadTimeout (tag : Nat) (s : State) : Result :=
  .next (match s.cwy.winAsks.find? (fun x => x.tag = tag) with
    | none => s
    | some a => windowGone a s)

/-- `WIN_RD` (R413, R420, R421): a head's read reaches this member. A read at +0 takes the whole register, one at +4 its upper half, which the
answer carries in its low bits (log 47). -/
def execWinRd (src dst hops tag off : Nat) (good : Bool) (s : State) : Result :=
  .next (frameArrive ⟨dst, src, hops, tag, .winRd off⟩ good (fun s =>
    if 0x200000 ≤ off ∨ hasWo (off / 8 * 8) then frameSend src tag (.winRdA 1 0) s
    else if off % 4 ≠ 0 then frameSend src tag (.winRdA 0 0) s
    else
      let r := regRead .array off (if off % 8 = 4 then 4 else 8) s
      frameSend src tag (.winRdA 0 r.1) r.2) s)

/-- `WIN_RD_A` (R413, R420, R421, R642): the answer to a read; a 32-bit read at +0 latches the upper half for its path. -/
def execWinRdA (src dst hops tag status data : Nat) (good : Bool) (s : State) : Result :=
  .next (frameArrive ⟨dst, src, hops, tag, .winRdA status data⟩ good (fun s =>
    match s.cwy.winAsks.find? (fun x => x.tag = tag && x.member = src) with
    | none => s
    | some a =>
      if status ≠ 0 then windowGone a s
      else
        let s1 := { s with cwy := { s.cwy with winAsks := s.cwy.winAsks.filter (fun x => x.tag ≠ tag) } }
        let s2 := if a.latch then
            { s1 with spn := { s1.spn with halves := s1.spn.halves ++ [((a.path, a.addr), data / 2 ^ 32 % 2 ^ 32)] } } else s1
        send (.readData a.path (if a.width = 8 then data % 2 ^ 64 else data % 2 ^ 32)) s2) s)

/-- The registers R44 closes in DUMP, as the writes of a window meet them: `PWR_WDT` but for `KICK`. -/
def closedInDump (a : Nat) (w : RegWr) : Bool :=
  [0x20, 0x20018, 0x20058, 0x20030, 0xE0058, 0xD0040, 0x50038, 0x40008].contains a || (a = 0x40038 && w.hits 16 16)

/-- The bits that byte enables reach. -/
def enabledBits (be : Nat) : Nat := ((setBits 8 be).map (fun i => 0xFF * 256 ^ i)).foldl (· + ·) 0

/-- `WIN_WR` (R413, R420, R421): a head's write reaches this member. A refused one is dropped and counted. -/
def execWinWr (src dst hops tag off be data : Nat) (fact good : Bool) (s : State) : Result :=
  .next (frameArrive ⟨dst, src, hops, tag, .winWr off be data⟩ good (fun s =>
    let a := off / 8 * 8
    let w : RegWr := ⟨.array, enabledBits be, data⟩
    if s.spn.mode = .dump ∧ off < 0x200000 ∧ closedInDump a w then windowFail s.cwy.myId off (rejectInDump s)
    else if 0x200000 ≤ off ∨ hasWo a ∨ !s.cwy.remoteWrEn ∨ (0x70000 ≤ off ∧ off < 0x80000) then windowFail s.cwy.myId off s
    else regWrite w a fact (dropHalf .array s)) s)

end Sys2Proof.Machine
end

