-- ==== Sys2Proof/Machine/Tussock.lean ====
section
/-!
DEFINITION. The commands of the Tussock allocator (14): ALLOC, SHARE and RELEASE.
-/

namespace Sys2Proof.Machine

/-- The requests of one cycle that the allocator refuses outright (R469): unassigned requesters; and, as a bad pointer too, a class that
is not the requester's and a size outside 1 to 16,384. DESIGN CHOICE (log 144). -/
def badAlloc (r : AllocReq) : Bool := !mayRequest r || r.size = 0 || 16384 < r.size

/-- The first pass over a cycle's requests in rank order: grants of each request's own pool, and the losers (R474). -/
def allocFirst : List AllocReq → State → State × List AllocReq
  | [], s => (s, [])
  | r :: rest, s =>
    if badAlloc r then allocFirst rest (tskReject r.requester 0 3 s)
    else if r.requester < 4 ∧ r.cls = .shadow ∧ 64 ≤ shadowHeld s r.requester then
      allocFirst rest (tskEmpty r (poolFor r.size) s)
    else match findBuffer s r (poolFor r.size) with
      | some p => allocFirst rest (tskGrant r p s)
      | none =>
        let t := allocFirst rest s
        (t.1, r :: t.2)

/-- `ALLOC` (R470 to R475): the requests that reach the allocator in one core cycle. -/
def execAlloc (reqs : List AllocReq) (s : State) : Result :=
  .next (if s.tsk.unit = .off then s
    else
      let t := allocFirst (reqs.mergeSort (fun a b => allocRank a ≤ allocRank b)) s
      t.2.foldl (fun u r => spillSearch r (poolFor r.size) 4 (poolFor r.size) u) t.1)

/-- The cause for which a request on a buffer is rejected before its own rules (R479); a SHARE by a requester that holds no reference is
cause 1 too. DEDUCED (log 144). -/
def pointerCause (s : State) (r p : Nat) (release : Bool) : Option Nat :=
  let d := descOf s p
  if 12 ≤ r ∨ (ptrPool s p).isNone ∨ (d.dstate = 2 ∧ ¬ (release ∧ d.holders.testBit r)) then some 3
  else if d.refcnt = 0 then some 2
  else if !d.holders.testBit r then some 1
  else none

/-- `SHARE` (R477): `by_` passes a reference of the buffer to `dest`. -/
def execShare (by_ dest pointer : Nat) (s : State) : Result :=
  let s := if (ptrPool s pointer).isSome then descCheck pointer s else s
  let d := descOf s pointer
  .next (match pointerCause s by_ pointer false with
    | some c => tskReject by_ pointer c s
    | none =>
      if 12 ≤ dest ∨ d.holders.testBit dest then tskReject by_ pointer 4 s
      else setDesc pointer { d with refcnt := d.refcnt + 1, holders := setBit d.holders dest } s)

/-- `RELEASE` (R478). -/
def execRelease (requester pointer : Nat) (s : State) : Result :=
  let s := if (ptrPool s pointer).isSome then descCheck pointer s else s
  .next (match pointerCause s requester pointer true with
    | some c => tskReject requester pointer c s
    | none => tskRelease requester pointer s)

end Sys2Proof.Machine
end

