-- ==== Sys2Proof/Machine/Dispatch.lean ====
section
/-!
DEFINITION. The one match from a command to its meaning.
-/

namespace Sys2Proof.Machine

/-- The effect of a command on everything but the queue. -/
def exec (i : Instr) (s : State) : Host.Outcome State Fault Refusal :=
  match i with
  | .strapSample id headcap test => Sys2Proof.Machine.execStrapSample id headcap test s
  | .imageApply certOk => Sys2Proof.Machine.execImageApply certOk s
  | .dramTrainingDone okMask => Sys2Proof.Machine.execDramTrainingDone okMask s
  | .vaultInitDone badDies badCh factory readable fresh => Sys2Proof.Machine.execVaultInitDone badDies badCh factory readable fresh s
  | .mapLoaded ckptOk scanOk noMark noHeader unread => Sys2Proof.Machine.execMapLoaded ckptOk scanOk noMark noHeader unread s
  | .messageArrival m bad => Sys2Proof.Machine.execMessageArrival m bad s
  | .staleRole m => Sys2Proof.Machine.execStaleRole m s
  | .roleDataWrite func cover => Sys2Proof.Machine.execRoleDataWrite func cover s
  | .registerWrite path addr width value fact => Sys2Proof.Machine.execRegisterWrite path addr width value fact s
  | .rcRead path addr width => Sys2Proof.Machine.execRcRead path addr width s
  | .linkUp speed width => Sys2Proof.Machine.execLinkUp speed width s
  | .hdmDecoderCommit n base size ways skip => Sys2Proof.Machine.execHdmDecoderCommit n base size ways skip s
  | .hdmDecoderUncommit n => Sys2Proof.Machine.execHdmDecoderUncommit n s
  | .memWrite tag line mask data bad => Sys2Proof.Machine.execMemWrite tag line mask data bad s
  | .memRead tag line errs again => Sys2Proof.Machine.execMemRead tag line errs again s
  | .lineWritten tag => Sys2Proof.Machine.execLineWritten tag s
  | .ecrcError correctable => Sys2Proof.Machine.execEcrcError correctable s
  | .identifyMemoryDevice via => Sys2Proof.Machine.execIdentifyMemoryDevice via s
  | .getHealthInfo via temp => Sys2Proof.Machine.execGetHealthInfo via temp s
  | .getAlertConfiguration via => Sys2Proof.Machine.execGetAlertConfiguration via s
  | .setAlertConfiguration via life hot cold corrected => Sys2Proof.Machine.execSetAlertConfiguration via life hot cold corrected s
  | .getShutdownState via => Sys2Proof.Machine.execGetShutdownState via s
  | .setShutdownState via v => Sys2Proof.Machine.execSetShutdownState via v s
  | .getPoisonList via dpa len => Sys2Proof.Machine.execGetPoisonList via dpa len s
  | .injectPoison via dpa => Sys2Proof.Machine.execInjectPoison via dpa s
  | .clearPoison via dpa data => Sys2Proof.Machine.execClearPoison via dpa data s
  | .getSupportedLogs via => Sys2Proof.Machine.execGetSupportedLogs via s
  | .getLog via uuid off len => Sys2Proof.Machine.execGetLog via uuid off len s
  | .getEventRecords via log => Sys2Proof.Machine.execGetEventRecords via log s
  | .clearEventRecords via log count all => Sys2Proof.Machine.execClearEventRecords via log count all s
  | .getEventInterruptPolicy via => Sys2Proof.Machine.execGetEventInterruptPolicy via s
  | .setEventInterruptPolicy via info warn fail fatal => Sys2Proof.Machine.execSetEventInterruptPolicy via info warn fail fatal s
  | .getFwInfo via => Sys2Proof.Machine.execGetFwInfo via s
  | .transferFw via slot l => Sys2Proof.Machine.execTransferFw via slot l s
  | .activateFw via online => Sys2Proof.Machine.execActivateFw via online s
  | .getTimestamp via => Sys2Proof.Machine.execGetTimestamp via s
  | .setTimestamp via v => Sys2Proof.Machine.execSetTimestamp via v s
  | .unsupportedOpcode via op => Sys2Proof.Machine.execUnsupportedOpcode via op s
  | .regionStateQuery via r => Sys2Proof.Machine.execRegionStateQuery via r s
  | .releaseRange via dpa len => Sys2Proof.Machine.execReleaseRange via dpa len s
  | .shadowRange via dpa len => Sys2Proof.Machine.execShadowRange via dpa len s
  | .barrier via scope => Sys2Proof.Machine.execBarrier via scope s
  | .park via => Sys2Proof.Machine.execPark via s
  | .unpark via => Sys2Proof.Machine.execUnpark via s
  | .takeover via => Sys2Proof.Machine.execTakeover via s
  | .forceTakeover via confirm => Sys2Proof.Machine.execForceTakeover via confirm s
  | .setPowerStateP0 via => Sys2Proof.Machine.execSetPowerStateP0 via s
  | .setPowerStateP2 via => Sys2Proof.Machine.execSetPowerStateP2 via s
  | .setPowerStateP3 via => Sys2Proof.Machine.execSetPowerStateP3 via s
  | .startLearning via => Sys2Proof.Machine.execStartLearning via s
  | .calibrationDump via => Sys2Proof.Machine.execCalibrationDump via s
  | .vaultInfo via => Sys2Proof.Machine.execVaultInfo via s
  | .retryGranule via dpa rebuilt => Sys2Proof.Machine.execRetryGranule via dpa rebuilt s
  | .arrayStatus via mask => Sys2Proof.Machine.execArrayStatus via mask s
  | .arrayBarrier via mask => Sys2Proof.Machine.execArrayBarrier via mask s
  | .rollUpdate via mask => Sys2Proof.Machine.execRollUpdate via mask s
  | .arrayUnknownSubopcode via => Sys2Proof.Machine.execArrayUnknownSubopcode via s
  | .rollUpdateTimeout m => Sys2Proof.Machine.execRollUpdateTimeout m s
  | .doeDiscovery index => Sys2Proof.Machine.execDoeDiscovery index s
  | .cdatRead entry => Sys2Proof.Machine.execCdatRead entry s
  | .getVersion t => Sys2Proof.Machine.execGetVersion t s
  | .getCapabilities t => Sys2Proof.Machine.execGetCapabilities t s
  | .negotiateAlgorithms t offersP384 offersSha384 => Sys2Proof.Machine.execNegotiateAlgorithms t offersP384 offersSha384 s
  | .getDigests t => Sys2Proof.Machine.execGetDigests t s
  | .getCertificate t slot off len => Sys2Proof.Machine.execGetCertificate t slot off len s
  | .challenge t slot nonce => Sys2Proof.Machine.execChallenge t slot nonce s
  | .getMeasurements t index nonce signed_ => Sys2Proof.Machine.execGetMeasurements t index nonce signed_ s
  | .respondIfReady t => Sys2Proof.Machine.execRespondIfReady t s
  | .spdmUnsupported t => Sys2Proof.Machine.execSpdmUnsupported t s
  | .startChecksComplete r => Sys2Proof.Machine.execStartChecksComplete r s
  | .startCheckTimeout r => Sys2Proof.Machine.execStartCheckTimeout r s
  | .regionDrained r => Sys2Proof.Machine.execRegionDrained r s
  | .liveCheck slot => Sys2Proof.Machine.execLiveCheck slot s
  | .liveApply slot => Sys2Proof.Machine.execLiveApply slot s
  | .forceZeroWrite v => Sys2Proof.Machine.execForceZeroWrite v s
  | .writeHoldTimeout tag => Sys2Proof.Machine.execWriteHoldTimeout tag s
  | .dirtyListReady q => Sys2Proof.Machine.execDirtyListReady q s
  | .dumpProgramComplete vpa ok => Sys2Proof.Machine.execDumpProgramComplete vpa ok s
  | .dumpEnergySample m => Sys2Proof.Machine.execDumpEnergySample m s
  | .cmbPoll resp => Sys2Proof.Machine.execCmbPoll resp s
  | .energyEstimate m step => Sys2Proof.Machine.execEnergyEstimate m step s
  | .learnHoldupStart c => Sys2Proof.Machine.execLearnHoldupStart c s
  | .paramWrite value => Sys2Proof.Machine.execParamWrite value s
  | .epochTick bad => Sys2Proof.Machine.execEpochTick bad s
  | .ringExamine q err bad => Sys2Proof.Machine.execRingExamine q err bad s
  | .sequentialWalk r => Sys2Proof.Machine.execSequentialWalk r s
  | .rowCloseTimeout die => Sys2Proof.Machine.execRowCloseTimeout die s
  | .programComplete vpa ok => Sys2Proof.Machine.execProgramComplete vpa ok s
  | .dieTimeout c d => Sys2Proof.Machine.execDieTimeout c d s
  | .gcRelocate failed => Sys2Proof.Machine.execGcRelocate failed s
  | .wearLevelMove failed => Sys2Proof.Machine.execWearLevelMove failed s
  | .vaultScrub n => Sys2Proof.Machine.execVaultScrub n s
  | .redundancyRebuild failed => Sys2Proof.Machine.execRedundancyRebuild failed s
  | .twinCompaction n failed => Sys2Proof.Machine.execTwinCompaction n failed s
  | .vaultTraining c ok => Sys2Proof.Machine.execVaultTraining c ok s
  | .vaultForceFail c => Sys2Proof.Machine.execVaultForceFail c s
  | .fetchComplete g tagOk rebuilt us => Sys2Proof.Machine.execFetchComplete g tagOk rebuilt us s
  | .bulkRestoreIssue q => Sys2Proof.Machine.execBulkRestoreIssue q s
  | .heartbeat h => Sys2Proof.Machine.execHeartbeat h s
  | .corruptFlit uncorrectable => Sys2Proof.Machine.execCorruptFlit uncorrectable s
  | .mirror h slots => Sys2Proof.Machine.execMirror h slots s
  | .repair h slots => Sys2Proof.Machine.execRepair h slots s
  | .state h idx sideB tiebreakB cwyId mepoch mseqNext => Sys2Proof.Machine.execState h idx sideB tiebreakB cwyId mepoch mseqNext s
  | .digest h idx part value => Sys2Proof.Machine.execDigest h idx part value s
  | .openQuery h idx r => Sys2Proof.Machine.execOpenQuery h idx r s
  | .openReply h idx r answer => Sys2Proof.Machine.execOpenReply h idx r answer s
  | .shadowNotice h idx g mseq => Sys2Proof.Machine.execShadowNotice h idx g mseq s
  | .shadowMap h idx first bits => Sys2Proof.Machine.execShadowMap h idx first bits s
  | .releaseNotice h idx first count => Sys2Proof.Machine.execReleaseNotice h idx first count s
  | .releaseDone h idx first => Sys2Proof.Machine.execReleaseDone h idx first s
  | .pressure h idx on => Sys2Proof.Machine.execPressure h idx on s
  | .dumpNotice h idx kind seq => Sys2Proof.Machine.execDumpNotice h idx kind seq s
  | .poisonLine h idx line mseq => Sys2Proof.Machine.execPoisonLine h idx line mseq s
  | .repairReq h idx g tag => Sys2Proof.Machine.execRepairReq h idx g tag s
  | .repairReply h idx g answer tag => Sys2Proof.Machine.execRepairReply h idx g answer tag s
  | .resyncEnd h idx => Sys2Proof.Machine.execResyncEnd h idx s
  | .adopted h idx r => Sys2Proof.Machine.execAdopted h idx r s
  | .adoptReply h idx r answer => Sys2Proof.Machine.execAdoptReply h idx r answer s
  | .return h idx r => Sys2Proof.Machine.execReturn h idx r s
  | .ownCopyDone h idx r => Sys2Proof.Machine.execOwnCopyDone h idx r s
  | .laneSwap h idx cause lane codeword sent => Sys2Proof.Machine.execLaneSwap h idx cause lane codeword sent s
  | .laneSwapAck h idx lane codeword => Sys2Proof.Machine.execLaneSwapAck h idx lane codeword s
  | .laneFault lane lockLost symbols received => Sys2Proof.Machine.execLaneFault lane lockLost symbols received s
  | .laneSwitch tx => Sys2Proof.Machine.execLaneSwitch tx s
  | .korricTrainingDone ok width => Sys2Proof.Machine.execKorricTrainingDone ok width s
  | .fastRetrainDone ok => Sys2Proof.Machine.execFastRetrainDone ok s
  | .rollCall src hops tag live dumping headcap good => Sys2Proof.Machine.execRollCall src hops tag live dumping headcap good s
  | .claim src hops tag good => Sys2Proof.Machine.execClaim src hops tag good s
  | .join src hops tag serial good => Sys2Proof.Machine.execJoin src hops tag serial good s
  | .witnessQ src dst hops tag target good => Sys2Proof.Machine.execWitnessQ src dst hops tag target good s
  | .witnessA src dst hops tag target result good => Sys2Proof.Machine.execWitnessA src dst hops tag target result good s
  | .winRd src dst hops tag off good => Sys2Proof.Machine.execWinRd src dst hops tag off good s
  | .winRdA src dst hops tag status data good => Sys2Proof.Machine.execWinRdA src dst hops tag status data good s
  | .winWr src dst hops tag off be data fact good => Sys2Proof.Machine.execWinWr src dst hops tag off be data fact good s
  | .mctpFrame outside src dst hops tag packet good => Sys2Proof.Machine.execMctpFrame outside src dst hops tag packet good s
  | .cmd src dst hops tag sub payload good => Sys2Proof.Machine.execCmd src dst hops tag sub payload good s
  | .cmdA src dst hops tag sub status result good => Sys2Proof.Machine.execCmdA src dst hops tag sub status result good s
  | .fwData src dst hops tag off data good => Sys2Proof.Machine.execFwData src dst hops tag off data good s
  | .windowRead path addr width => Sys2Proof.Machine.execWindowRead path addr width s
  | .windowWrite path addr width value fact => Sys2Proof.Machine.execWindowWrite path addr width value fact s
  | .windowReadTimeout tag => Sys2Proof.Machine.execWindowReadTimeout tag s
  | .claspWrite path v => Sys2Proof.Machine.execClaspWrite path v s
  | .keyDataWrite path k width value => Sys2Proof.Machine.execKeyDataWrite path k width value s
  | .load path => Sys2Proof.Machine.execLoad path s
  | .derive path root => Sys2Proof.Machine.execDerive path root s
  | .unload path => Sys2Proof.Machine.execUnload path s
  | .clearStaging path => Sys2Proof.Machine.execClearStaging path s
  | .rekeyDone slot => Sys2Proof.Machine.execRekeyDone slot s
  | .cipherOpComplete core tagOk vpa => Sys2Proof.Machine.execCipherOpComplete core tagOk vpa s
  | .coreFault core => Sys2Proof.Machine.execCoreFault core s
  | .alarm src => Sys2Proof.Machine.execAlarm src s
  | .alarmAck cool => Sys2Proof.Machine.execAlarmAck cool s
  | .alloc reqs => Sys2Proof.Machine.execAlloc reqs s
  | .share by_ dest pointer => Sys2Proof.Machine.execShare by_ dest pointer s
  | .release requester pointer => Sys2Proof.Machine.execRelease requester pointer s
  | .sliceDrained q => Sys2Proof.Machine.execSliceDrained q s
  | .programWord path off data => Sys2Proof.Machine.execProgramWord path off data s
  | .eraseSector path off => Sys2Proof.Machine.execEraseSector path off s
  | .readEraseCounter path bank => Sys2Proof.Machine.execReadEraseCounter path bank s
  | .statusAndIdentity path bank => Sys2Proof.Machine.execStatusAndIdentity path bank s
  | .enterBogOakRow path bank => Sys2Proof.Machine.execEnterBogOakRow path bank s
  | .returnToRead path bank => Sys2Proof.Machine.execReturnToRead path bank s
  | .sequenceTimeout bank => Sys2Proof.Machine.execSequenceTimeout bank s
  | .flashWindowRead path off width bad => Sys2Proof.Machine.execFlashWindowRead path off width bad s
  | .flashOpComplete bank ok readBack pulses => Sys2Proof.Machine.execFlashOpComplete bank ok readBack pulses s
  | .journalAppend path type bank sector aux ok => Sys2Proof.Machine.execJournalAppend path type bank sector aux ok s
  | .foldExpiry id => Sys2Proof.Machine.execFoldExpiry id s
  | .cursorLoad path seq => Sys2Proof.Machine.execCursorLoad path seq s
  | .cursorNext path => Sys2Proof.Machine.execCursorNext path s
  | .cursorLoadDone path => Sys2Proof.Machine.execCursorLoadDone path s
  | .extend path reg => Sys2Proof.Machine.execExtend path reg s
  | .advance path certOk => Sys2Proof.Machine.execAdvance path certOk s
  | .commit path => Sys2Proof.Machine.execCommit path s
  | .kick path => Sys2Proof.Machine.execKick path s
  | .idleTimer d => Sys2Proof.Machine.execIdleTimer d s
  | .domainWake kind d => Sys2Proof.Machine.execDomainWake kind d s
  | .domainReady d us => Sys2Proof.Machine.execDomainReady d us s
  | .stallTimeout d => Sys2Proof.Machine.execStallTimeout d s
  | .p2StepDone refusals => Sys2Proof.Machine.execP2StepDone refusals s
  | .p2StopTimeout unit => Sys2Proof.Machine.execP2StopTimeout unit s
  | .filterInputEdge p level short => Sys2Proof.Machine.execFilterInputEdge p level short s
  | .filterTimer p => Sys2Proof.Machine.execFilterTimer p s
  | .railFault rail mv => Sys2Proof.Machine.execRailFault rail mv s
  | .inputReturn headerOk badAreas => Sys2Proof.Machine.execInputReturn headerOk badAreas s
  | .tempRange k out temp => Sys2Proof.Machine.execTempRange k out temp s
  | .sramScrub found => Sys2Proof.Machine.execSramScrub found s
  | .patrolRead q errs again r => Sys2Proof.Machine.execPatrolRead q errs again r s
  | .sdeStallTimeout q => Sys2Proof.Machine.execSdeStallTimeout q s
  | .markSet q => Sys2Proof.Machine.execMarkSet q s
  | .injectArm q => Sys2Proof.Machine.execInjectArm q s
  | .vaultEraseComplete n failed slow => Sys2Proof.Machine.execVaultEraseComplete n failed slow s
  | .vaultReadComplete v words ones hard decoded rebuilt last => Sys2Proof.Machine.execVaultReadComplete v words ones hard decoded rebuilt last s
  | .imageChecksDone => Sys2Proof.Machine.execImageChecksDone s
  | .sdeParityError q => Sys2Proof.Machine.execSdeParityError q s
  | .powerOn => Sys2Proof.Machine.execPowerOn s
  | .corePgRise => Sys2Proof.Machine.execCorePgRise s
  | .corePgTimeout => Sys2Proof.Machine.execCorePgTimeout s
  | .coreEnRetry => Sys2Proof.Machine.execCoreEnRetry s
  | .clockDegraded => Sys2Proof.Machine.execClockDegraded s
  | .rtcDegraded => Sys2Proof.Machine.execRtcDegraded s
  | .armEntryPassed => Sys2Proof.Machine.execArmEntryPassed s
  | .linkDown => Sys2Proof.Machine.execLinkDown s
  | .perstNAssert => Sys2Proof.Machine.execPerstNAssert s
  | .perstNDeassert => Sys2Proof.Machine.execPerstNDeassert s
  | .functionReset => Sys2Proof.Machine.execFunctionReset s
  | .gpfPhase1 => Sys2Proof.Machine.execGpfPhase1 s
  | .gpfPhase2 => Sys2Proof.Machine.execGpfPhase2 s
  | .arrayStatusTimeout => Sys2Proof.Machine.execArrayStatusTimeout s
  | .doeAbort => Sys2Proof.Machine.execDoeAbort s
  | .regionStart => Sys2Proof.Machine.execRegionStart s
  | .regionStop => Sys2Proof.Machine.execRegionStop s
  | .inputSet => Sys2Proof.Machine.execInputSet s
  | .recompute => Sys2Proof.Machine.execRecompute s
  | .inputBelowPfail => Sys2Proof.Machine.execInputBelowPfail s
  | .inputAbovePfail => Sys2Proof.Machine.execInputAbovePfail s
  | .pfailQualified => Sys2Proof.Machine.execPfailQualified s
  | .settleRecovered => Sys2Proof.Machine.execSettleRecovered s
  | .settleLimitExpiry => Sys2Proof.Machine.execSettleLimitExpiry s
  | .rideThroughSurvived => Sys2Proof.Machine.execRideThroughSurvived s
  | .rideThroughExpiry => Sys2Proof.Machine.execRideThroughExpiry s
  | .earlyCommit => Sys2Proof.Machine.execEarlyCommit s
  | .testDump => Sys2Proof.Machine.execTestDump s
  | .coastEnd => Sys2Proof.Machine.execCoastEnd s
  | .preflushClear => Sys2Proof.Machine.execPreflushClear s
  | .offsetZero => Sys2Proof.Machine.execOffsetZero s
  | .fullAnchor => Sys2Proof.Machine.execFullAnchor s
  | .reportUpdate => Sys2Proof.Machine.execReportUpdate s
  | .hibernateEnter => Sys2Proof.Machine.execHibernateEnter s
  | .hibernateWake => Sys2Proof.Machine.execHibernateWake s
  | .pendingWriteback => Sys2Proof.Machine.execPendingWriteback s
  | .learningAutoStart => Sys2Proof.Machine.execLearningAutoStart s
  | .learnCtrlStart => Sys2Proof.Machine.execLearnCtrlStart s
  | .learnCtrlAbort => Sys2Proof.Machine.execLearnCtrlAbort s
  | .learnBudgetTimeout => Sys2Proof.Machine.execLearnBudgetTimeout s
  | .learnDurationExpiry => Sys2Proof.Machine.execLearnDurationExpiry s
  | .learnAnchorTimeout => Sys2Proof.Machine.execLearnAnchorTimeout s
  | .tokenTick => Sys2Proof.Machine.execTokenTick s
  | .rateRecompute => Sys2Proof.Machine.execRateRecompute s
  | .logFlush => Sys2Proof.Machine.execLogFlush s
  | .heartbeatTimer => Sys2Proof.Machine.execHeartbeatTimer s
  | .replayTimeout => Sys2Proof.Machine.execReplayTimeout s
  | .pressureOffTimer => Sys2Proof.Machine.execPressureOffTimer s
  | .trainingRetry => Sys2Proof.Machine.execTrainingRetry s
  | .trainingTimeout => Sys2Proof.Machine.execTrainingTimeout s
  | .witnessRequery => Sys2Proof.Machine.execWitnessRequery s
  | .soloStart => Sys2Proof.Machine.execSoloStart s
  | .silenceTimeout => Sys2Proof.Machine.execSilenceTimeout s
  | .witnessTimeout => Sys2Proof.Machine.execWitnessTimeout s
  | .rollCallTimer => Sys2Proof.Machine.execRollCallTimer s
  | .electionTimeout => Sys2Proof.Machine.execElectionTimeout s
  | .ringStartElection => Sys2Proof.Machine.execRingStartElection s
  | .ringDownTimeout => Sys2Proof.Machine.execRingDownTimeout s
  | .ringRelock => Sys2Proof.Machine.execRingRelock s
  | .claspTimeout => Sys2Proof.Machine.execClaspTimeout s
  | .topup => Sys2Proof.Machine.execTopup s
  | .compact => Sys2Proof.Machine.execCompact s
  | .eventReport => Sys2Proof.Machine.execEventReport s
  | .opSecTick => Sys2Proof.Machine.execOpSecTick s
  | .counterCheckpoint => Sys2Proof.Machine.execCounterCheckpoint s
  | .reboot => Sys2Proof.Machine.execReboot s
  | .structReset => Sys2Proof.Machine.execStructReset s
  | .fwRestart => Sys2Proof.Machine.execFwRestart s
  | .watchdogExpiry => Sys2Proof.Machine.execWatchdogExpiry s
  | .lockstepMismatch => Sys2Proof.Machine.execLockstepMismatch s
  | .vaultOff => Sys2Proof.Machine.execVaultOff s
  | .brownOut => Sys2Proof.Machine.execBrownOut s
  | .inputBelowQuag => Sys2Proof.Machine.execInputBelowQuag s
  | .dumpBounce => Sys2Proof.Machine.execDumpBounce s
  | .vddAonLost => Sys2Proof.Machine.execVddAonLost s
  | .pairRecordQuagTimeout => Sys2Proof.Machine.execPairRecordQuagTimeout s

end Sys2Proof.Machine
end

