-- ==== Sys2Proof/Safety.lean ====
section
/-!
DEFINITION. What the statements are said in: the canonical form of the cache DRAM, the parts of the state that a command may change,
and when the mailbox serves a command.
-/

namespace Sys2Proof.Machine

/-- The canonical form of the cache DRAM: addresses strictly rising, and no byte listed that reads as an unlisted one (log 4). -/
abbrev Memory.wf (m : List Host.Cell) : Bool := tableWf 0 m

/-- The parts of the state that frames name: each unit, the device mode apart from the rest of the spine, the cache DRAM apart from the
granule state tables, and the Bog-oak row apart from the rest of the internal flash. -/
inductive Part where
  | spn | img | evr | ifc | hlk | wrp | gst | nrg | aos | sig | pwr | vlt | vch | shd | dmp | kor | cwy | cip | tsk | qdc
  | raised | out | free | mode | dram | bog
  deriving DecidableEq, Repr

/-- A part is the same in two states. -/
def Part.same (s t : State) : Part → Prop
  | .spn => { s.spn with mode := .boot } = { t.spn with mode := .boot }
  | .img => s.img = t.img
  | .evr => s.evr = t.evr
  | .ifc => { s.ifc with bog := [], bogLocks := 0 } = { t.ifc with bog := [], bogLocks := 0 }
  | .hlk => s.hlk = t.hlk
  | .wrp => s.wrp = t.wrp
  | .gst => { s.gst with dram := [] } = { t.gst with dram := [] }
  | .nrg => s.nrg = t.nrg
  | .aos => s.aos = t.aos
  | .sig => s.sig = t.sig
  | .pwr => s.pwr = t.pwr
  | .vlt => s.vlt = t.vlt
  | .vch => s.vch = t.vch
  | .shd => s.shd = t.shd
  | .dmp => s.dmp = t.dmp
  | .kor => s.kor = t.kor
  | .cwy => s.cwy = t.cwy
  | .cip => s.cip = t.cip
  | .tsk => s.tsk = t.tsk
  | .qdc => s.qdc = t.qdc
  | .raised => s.raised = t.raised
  | .out => s.out = t.out
  | .free => s.free = t.free
  | .mode => s.spn.mode = t.spn.mode
  | .dram => s.gst.dram = t.gst.dram
  | .bog => s.ifc.bog = t.ifc.bog ∧ s.ifc.bogLocks = t.ifc.bogLocks

/-- Two states differ at most in the parts of a list; the waiting commands are the same. -/
def OnlyIn (l : List Part) (s t : State) : Prop := (∀ p, p ∉ l → Part.same s t p) ∧ t.pending = s.pending

/-- Every bit that is 1 in the Bog-oak row is 1 later, and every lock stays (R508 to R510). -/
def RowKept (s t : State) : Prop :=
  (∀ w b, (tget 0 s.ifc.bog w).testBit b = true → (tget 0 t.ifc.bog w).testBit b = true) ∧
  (∀ w, s.ifc.bogLocks.testBit w = true → t.ifc.bogLocks.testBit w = true)

/-- What every step keeps of the cache DRAM: its canonical form. -/
abbrev MemoryCanonical (s : State) : Prop := Memory.wf s.gst.dram = true

/-- The CCI, the opcode (R124, R129; log 43) and whether DUMP answers it (R128), of a command of the mailbox but FORCE_TAKEOVER, whose
doorbell logs an event first (R398). -/
def mailboxOp : Instr → Option (Via × Nat × Bool)
  | .identifyMemoryDevice v => some (v, 0x4000, true)
  | .getHealthInfo v _ => some (v, 0x4200, true)
  | .getAlertConfiguration v => some (v, 0x4201, false)
  | .setAlertConfiguration v _ _ _ _ => some (v, 0x4202, false)
  | .getShutdownState v => some (v, 0x4203, false)
  | .setShutdownState v _ => some (v, 0x4204, false)
  | .getPoisonList v _ _ => some (v, 0x4300, false)
  | .injectPoison v _ => some (v, 0x4301, false)
  | .clearPoison v _ _ => some (v, 0x4302, false)
  | .getSupportedLogs v => some (v, 0x0400, false)
  | .getLog v _ _ _ => some (v, 0x0401, true)
  | .getEventRecords v _ => some (v, 0x0100, true)
  | .clearEventRecords v _ _ _ => some (v, 0x0101, false)
  | .getEventInterruptPolicy v => some (v, 0x0102, false)
  | .setEventInterruptPolicy v _ _ _ _ => some (v, 0x0103, false)
  | .getFwInfo v => some (v, 0x0200, true)
  | .transferFw v _ _ => some (v, 0x0201, false)
  | .activateFw v _ => some (v, 0x0202, false)
  | .getTimestamp v => some (v, 0x0300, false)
  | .setTimestamp v _ => some (v, 0x0301, false)
  | .regionStateQuery v _ => some (v, 0xC000, false)
  | .releaseRange v _ _ => some (v, 0xC001, false)
  | .shadowRange v _ _ => some (v, 0xC002, false)
  | .barrier v _ => some (v, 0xC003, false)
  | .park v => some (v, 0xC004, false)
  | .unpark v => some (v, 0xC005, false)
  | .takeover v => some (v, 0xC006, false)
  | .setPowerStateP0 v => some (v, 0xC008, false)
  | .setPowerStateP2 v => some (v, 0xC008, false)
  | .setPowerStateP3 v => some (v, 0xC008, false)
  | .startLearning v => some (v, 0xC009, false)
  | .calibrationDump v => some (v, 0xC00A, false)
  | .vaultInfo v => some (v, 0xC00B, false)
  | .retryGranule v _ _ => some (v, 0xC00C, false)
  | .arrayStatus v _ => some (v, 0xC00D, false)
  | .arrayBarrier v _ => some (v, 0xC00D, false)
  | .rollUpdate v _ => some (v, 0xC00D, false)
  | .arrayUnknownSubopcode v => some (v, 0xC00D, false)
  | _ => none

/-- The rows of R129's table: the modes, whether the MCTP CCI takes the command, and whether it is a background command. -/
def vendorRow (op : Nat) : Option (List Mode × Bool × Bool) :=
  if op = 0xC000 then some ([.restore, .service, .parked, .test], true, false)
  else if op = 0xC001 then some ([.restore, .service, .test], false, false)
  else if op = 0xC002 ∨ op = 0xC00C then some ([.restore, .service, .test], false, true)
  else if op = 0xC003 then some ([.restore, .service, .test], true, true)
  else if op = 0xC004 then some ([.service, .restore], true, true)
  else if op = 0xC005 then some ([.parked], true, true)
  else if op = 0xC006 then some ([.restore, .service], true, true)
  else if op = 0xC007 then some ([.restore, .service], false, true)
  else if op = 0xC008 ∨ op = 0xC009 ∨ op = 0xC00A then some ([.service], true, true)
  else if op = 0xC00B then some ([.restore, .service, .parked, .recovery, .test], true, false)
  else if op = 0xC00D then some ([.restore, .service, .parked, .recovery, .test], true, true)
  else none

/-- The firmware serves the mailbox: the core runs, no recovery service answers in its place, and no restart runs (R540, R585). -/
abbrev Serves (s : State) : Prop :=
  s.pwr.corePg = true ∧ s.sig.recoverySvc = false ∧ s.pwr.fwBusy = false ∧ s.pwr.halted = false

/-- A vendor command of the given modes passes the doorbell by its CCI (R127 to R129). -/
abbrev VendorServes (via : Via) (modes : List Mode) (overMctp bg : Bool) (s : State) : Prop :=
  Serves s ∧ s.spn.mode ≠ .dump ∧ s.spn.mode ∈ modes ∧
  (via = .mctp → overMctp = true ∧ s.hlk.mctpVendorEn = true) ∧ (bg = true → s.hlk.bg = none)

end Sys2Proof.Machine
end

