-- ==== Sys2Proof/Certificates/Slice0/Obligations.lean ====
section
/-!
DEFINITION. The statements for the provers, each from the rules it names. Where a statement names a mask of what a command may
change it uses OnlyIn: every other part of the state, and the queue, is as before.
-/

open Sys2Proof Sys2Proof.Machine

/-- A step takes the command at the front of the queue; an empty queue idles, which is the model's choice (log 49). -/
def Obligations.StepRunsFrontCommand : Prop :=
  (∀ (c : Instr) (rest : List Instr) (s : State), step { s with pending := c :: rest } = exec c { s with pending := rest }) ∧
  (∀ s : State, s.pending = [] → step s = .next s)

/-- No command stops the block, and none touches the queue of commands that wait. -/
def Obligations.EveryCommandCompletesAndKeepsQueue : Prop :=
  ∀ (c : Instr) (s : State), ∃ t, exec c s = .next t ∧ t.pending = s.pending

/-- The cache DRAM stays canonical in every step, from every state in which it is; what an unlisted byte reads as is the model's choice
(log 4). -/
def Obligations.StepKeepsMemoryCanonical : Prop :=
  ∀ s t : State, MemoryCanonical s → step s = .next t → MemoryCanonical t

/-- A program of the Bog-oak row sets bits to 1 (R508), and a lock bit never clears (R509): no step of any command undoes either. -/
def Obligations.StepLosesNoRowBit : Prop :=
  ∀ s t : State, step s = .next t → RowKept s t

/-- What the state before the first power-on holds: the canonical empty DRAM, nothing waiting, mode BOOT (R38), no core. -/
def Obligations.ResetMeetsInvariants : Prop :=
  MemoryCanonical State.reset ∧ State.reset.gst.dram = [] ∧ State.reset.pending = [] ∧ State.reset.raised = [] ∧
  State.reset.out = [] ∧ State.reset.spn.mode = .boot ∧ State.reset.pwr.corePg = false ∧ State.reset.hlk.writes = [] ∧
  State.reset.hlk.reads = [] ∧
  State.reset.spn.roles.length = 48 ∧ (∀ e ∈ State.reset.spn.roles, e.gen = 1) ∧
  (∀ u, u < 16 → (roleOf State.reset u).cover = 0xF) ∧ (∀ u, 16 ≤ u → u < 48 → (roleOf State.reset u).cover = 2 ^ ((u - 16) / 8))

/-- Storing a line (the DRAM part of a host write, R146): the bytes the mask enables and no other; the mark goes only from the words the
write covers (R603); a line stored whole reads back. The model's own choices in it: log 4, 24. -/
def Obligations.StoredLineBytesAndMarks : Prop :=
  (∀ (s : State) (line : Nat) (data : BitVec 512) (mask a : Nat),
    dramByte (storeLine line data mask s) a =
      if a / 64 = line ∧ mask.testBit (a % 64) = true then BitVec.ofNat 8 (data.toNat >>> (8 * (a % 64))) else dramByte s a) ∧
  (∀ (s : State) (line : Nat) (data : BitVec 512) (mask p : Nat),
    p ∈ (storeLine line data mask s).gst.poison ↔
      p ∈ s.gst.poison ∧ ¬ (p / 8 = line ∧ (mask >>> (8 * (p % 8))) % 256 = 255)) ∧
  (∀ (s : State) (line : Nat) (data : BitVec 512), lineData (storeLine line data (2 ^ 64 - 1) s) line = data)

/-- Core rails (R580, R617), straps (R614) and the degraded clocks (R37, R581).
The model's own choices in it: log 15, 37, 103. -/
def Obligations.RailsStrapsAndClocks : Prop :=
  (∀ s : State, s.pwr.coreEn = true → s.pwr.corePg = false → s.pwr.railReset = false →
    ∃ t, exec .corePgRise s = .next t ∧ t.pwr.corePg = true ∧ t.pwr.isolated = false ∧ t.pwr.on = 3 ∧ t.pwr.retryWait = false ∧
      OnlyIn [.pwr, .nrg, .sig, .raised] s t) ∧
  (∀ s : State, s.pwr.coreEn = true → s.pwr.corePg = false → s.pwr.railReset = true →
    ∃ t, exec .corePgRise s = .next t ∧ t.pwr.corePg = true ∧ t.pwr.lastKind = 2 ∧ t.spn.mode = .boot ∧ t.pwr.railReset = false ∧
      t.pwr.strapped = false) ∧
  (∀ s : State, s.pwr.coreEn = true → s.pwr.corePg = false → s.pwr.railReset = false → s.pwr.railTries < 3 →
    exec .corePgTimeout s = .next (raise 0x100B 0x04 [(1, s.pwr.railTries)]
      { s with pwr := { s.pwr with coreEn := false, retryWait := true } })) ∧
  (∀ s : State, s.pwr.coreEn = true → s.pwr.corePg = false → s.pwr.railReset = false → 3 ≤ s.pwr.railTries →
    exec .corePgTimeout s = .next (raise 0x100B 0x04 [(1, s.pwr.railTries)]
      { s with pwr := { s.pwr with coreEn := false, retryWait := false, faultN := true } })) ∧
  (∀ s : State, s.pwr.retryWait = true →
    exec .coreEnRetry s = .next { s with pwr := { s.pwr with
      coreEn := true, retryWait := false, railTries := s.pwr.railTries + 1 } }) ∧
  (∀ (s : State) (id : Nat) (headcap test : Bool), s.pwr.corePg = true → s.pwr.strapped = false → id < 64 →
    ∃ t, exec (.strapSample id headcap test) s = .next t ∧ t.cwy.strapId = id ∧ t.cwy.strapHeadcap = headcap ∧
      t.pwr.testStrap = test ∧ OnlyIn [.pwr, .cwy] s t ∧
      ∀ (id2 : Nat) (h2 t2 : Bool), exec (.strapSample id2 h2 t2) t = .next t) ∧
  (∀ s : State, s.pwr.corePg = true → s.spn.clockDegraded = false → s.pwr.lastKind = 1 → s.spn.mode = .boot → s.img.bootStep = 0 →
    exec .clockDegraded s = .next (raise 0x1001 0x04 [] { s with spn := { s.spn with clockDegraded := true } })) ∧
  (∀ s : State, s.pwr.aonUp = true → s.pwr.rtcDegraded = false → s.pwr.corePg = true →
    exec .rtcDegraded s = .next (raise 0x1010 0x04 [] { s with pwr := { s.pwr with rtcDegraded := true, rtcDue := false } })) ∧
  (∀ s : State, s.pwr.aonUp = true → s.pwr.rtcDegraded = false → s.pwr.corePg = false →
    exec .rtcDegraded s = .next { s with pwr := { s.pwr with rtcDegraded := true, rtcDue := true } })

/-- The resets of R583 and R585 by their commands (R560, R607, R44, R26). The model's own choices in it: log 28, 76, 113. -/
def Obligations.ResetKindsByTheirCommands : Prop :=
  (∀ (s : State) (c : Instr), s.pwr.corePg = true → s.pwr.halted = false → s.spn.mode ≠ .dump →
    (c = .fwRestart ∨ (c = .watchdogExpiry ∧ s.pwr.wdtMs ≠ 0) ∨ c = .lockstepMismatch) →
    ∃ u, exec c s = .next (settle u) ∧ u.pwr.fwBusy = true ∧ u.pwr.lastKind = 5 ∧ u.pwr.fwCnt = satAdd 16 s.pwr.fwCnt 1 ∧
      u.pwr.halted = decide (3 ≤ 1 + (s.pwr.restarts.filter (fun t => s.evr.opSec ≤ t + 10)).length) ∧
      OnlyIn [.evr, .ifc, .hlk, .wrp, .nrg, .aos, .pwr, .shd, .dmp, .kor, .cwy, .cip, .tsk, .raised, .out, .free] s u) ∧
  (∀ (s : State) (c : Instr), s.pwr.corePg = true → s.pwr.halted = false → s.spn.mode = .dump →
    (c = .fwRestart ∨ c = .structReset) → exec c s = .next (raise 0x1006 0x00 [] s)) ∧
  (∀ (s : State) (c : Instr), s.pwr.corePg = true →
    (c = .reboot ∧ s.spn.mode = .parked ∨ c = .structReset ∧ s.spn.mode = .recovery) →
    ∃ t, exec c s = .next t ∧ t.pwr.lastKind = 2 ∧ t.pwr.structCnt = satAdd 16 s.pwr.structCnt 1 ∧ t.spn.mode = .boot ∧ t.gst = {} ∧
      t.sig.signets = List.replicate 8 {} ∧ t.cip.slots = List.replicate 264 {} ∧ { t.aos with marks := s.aos.marks, armPending := s.aos.armPending } = s.aos ∧ t.pwr.corePg = true ∧
      t.vlt.manifest = s.vlt.manifest) ∧
  (∀ s : State, s.pwr.corePg = true → s.spn.mode ≠ .parked → exec .reboot s = .next (raise 0x0F0A 0x0B [] s)) ∧
  (∀ s : State, s.pwr.corePg = true → s.pwr.halted = false →
    exec (.kick .firmware) s = .next { s with pwr := { s.pwr with fwBusy := false, kick := true } }) ∧
  (∀ s : State, s.pwr.aonUp = false →
    ∃ t, exec .powerOn s = .next t ∧ t.aos = { valid := true, cyclesLost := true, countersLost := true } ∧ t.pwr.coreEn = true ∧ t.pwr.corePg = false ∧ t.pwr.railTries = 1 ∧
      t.pwr.lastKind = 1 ∧ t.spn.mode = .boot ∧ t.gst = {} ∧ t.sig.signets = List.replicate 8 {} ∧
      t.raised = [⟨0x1002, 0x04, []⟩, ⟨0x100C, 0x04, [(1, 1)]⟩]) ∧
  (∀ s : State, s.pwr.aonUp = true → s.pwr.poweredDown = true → s.aos.valid = true →
    ∃ t, exec (.inputReturn true []) s = .next t ∧ { t.aos with marks := s.aos.marks, armPending := s.aos.armPending } =
        { s.aos with valid := true, seq := wrapAdd 32 s.aos.seq 1, powerCycles := wrapAdd 32 s.aos.powerCycles 1 } ∧
      t.pwr.coreEn = true ∧ t.pwr.corePg = false ∧ t.spn.mode = .boot ∧ t.gst = {} ∧ t.raised = [⟨0x100C, 0x04, [(1, 1)]⟩]) ∧
  (∀ s : State, s.pwr.aonUp = true →
    ∃ t, exec .vddAonLost s = .next t ∧ t.pwr.aonUp = false ∧ t.pwr.corePg = false ∧ t.aos = {} ∧ t.gst = {} ∧ t.raised = [])

/-- The steps of R85 from the image to the end of BOOT (R83, R88, R90, R91, R305, R311).
The model's own choices in it: log 20, 32, 35, 36, 38, 41, 129, 139, 147. -/
def Obligations.BootStepsInOrder : Prop :=
  (∀ (s r : State) (cert : Bool), s.spn.mode = .boot → s.pwr.corePg = true → s.img.bootStep = 0 →
    r = (if s.sig.stage = 0 then romStage cert s else s) →
    exec (.imageApply cert) s = .next (
      if r.spn.mode = .boot ∧ r.sig.stage = 1 ∧ (openStarts r = [] ∨ r.nrg.quagOk = true) then loaderStage r else r)) ∧
  (∀ (img : ActiveImage) (slot arb : Nat) (vlh : Digest) (s : State),
    (startTraining (applyFront img slot arb vlh s)).img.bootStep = 5 ∧ (startTraining (applyFront img slot arb vlh s)).pwr.memEn = true ∧
    (startTraining (applyFront img slot arb vlh s)).gst = {} ∧
    (startTraining (applyFront img slot arb vlh s)).spn.roles = roleTable (img.structureRec.getD ⟨0, [], []⟩).quadEn) ∧
  (∀ (s : State) (okMask : Nat), s.spn.mode = .boot → s.img.bootStep = 5 → okMask % 16 = 15 →
    ∃ t, exec (.dramTrainingDone okMask) s = .next t ∧ t.img.bootStep = 6 ∧ t.gst.dram = [] ∧ t.gst.poison = [] ∧
      t.pwr.vltEn = !t.pwr.vaultOff ∧ (∀ q, q < 4 → (qdcOf s q).state = 1 → (qdcOf t q).state = 2)) ∧
  (∀ (s : State) (readable : Bool), s.spn.mode = .boot → s.img.bootStep = 6 → s.vlt.manifest = none → s.vlt.blank = true → readable = true →
    ∃ t, exec (.vaultInitDone [] [] [] readable false) s = .next t ∧ t.spn.mode = .boot ∧ t.img.bootStep = 13 ∧
      t.img.structApplied = true ∧ t.img.vaultReformat = true) ∧
  (∀ (s : State) (m : Manifest), s.spn.mode = .boot → s.img.bootStep = 6 → s.vlt.manifest = some m → m.vlh ≠ s.img.vlh → s.vlt.ckpt = none →
    ∃ t, exec (.vaultInitDone [] [] [] true false) s = .next t ∧ t.spn.mode = .recovery ∧ t.img.cause = 0x0E ∧ t.spn.cause = 0x0103 ∧
      t.img.structApplied = false ∧ t.vlt.mapValid = false ∧ t.vlt.manifest = some m) ∧
  (∀ s : State, s.spn.mode = .boot → s.img.bootStep = 13 → s.cip.armed = true → regionMismatch s s.img.active.regions = none →
    ∃ t, exec .armEntryPassed s = .next t ∧ t.img.locked = true ∧ t.img.imageValid = true ∧ t.img.bootStep = 15 ∧
      t.raised.getLast? = some ⟨0x0101, 0x0C, [(1, t.img.activeSlot), (4, t.img.active.version)]⟩) ∧
  (∀ (s : State) (r : Nat), s.spn.mode = .boot → s.img.bootStep = 13 → s.cip.armed = true →
    regionMismatch s s.img.active.regions = some r →
    ∃ t, exec .armEntryPassed s = .next t ∧ t.spn.mode = .recovery ∧ t.img.cause = 0x0F ∧ t.img.locked = false ∧ t.spn.cause = 0x0104) ∧
  (∀ (s : State) (ck sc : Bool) (nm nh : List (Nat × Nat)) (un : List Nat), s.spn.mode = .boot → s.img.bootStep = 15 →
    vaultLive s = false → s.pwr.testStrap = false →
    ∃ u, exec (.mapLoaded ck sc nm nh un) s = .next (settle (pairFollows u)) ∧ u.spn.mode = .service ∧ u.img.bootStep = 16 ∧
      u.hlk.presented = true) ∧
  (∀ (s : State) (sc : Bool) (nm nh : List (Nat × Nat)) (un : List Nat), s.spn.mode = .boot → s.img.bootStep = 15 →
    vaultLive s = true → s.vlt.ckpt.isSome = true →
    ∃ u, exec (.mapLoaded true sc nm nh un) s = .next (settle (bulkFollow (pairFollows u))) ∧ u.spn.mode = .restore ∧
      u.img.bootStep = 16 ∧ u.hlk.presented = true) ∧
  (∀ (s : State) (nm nh : List (Nat × Nat)) (un : List Nat), s.spn.mode = .boot → s.img.bootStep = 15 → vaultLive s = true →
    ∃ t, exec (.mapLoaded false false nm nh un) s = .next t ∧ t.spn.mode = .recovery ∧ t.spn.cause = 0x0702 ∧
      t = toRecovery 0x0702 (raise 0x0702 0x0E [] (readopt (dumpRegsLoad s)))) ∧
  (∀ (s : State) (nm nh : List (Nat × Nat)) (un : List Nat), s.spn.mode = .parked → bgRuns s 0xC005 = true → s.pwr.memEn = true →
    s.qdc.any (fun d => d.state = 1) = false → s.vlt.ckpt.isSome = true →
    exec (.mapLoaded true true nm nh un) s = .next (unparkEnds (restoreBegins 3 false ⟨nm, nh, un⟩
      (mergeFrom s ⟨nm, nh, un⟩ ((s.vlt.ckpt.map Ckpt.seq).getD 0) ((s.vlt.ckpt.map Ckpt.map).getD [])) s)))

/-- Crossbar messages and the role table (R28 to R30, R32, R44, R45). The model's own choices in it: log 3, 100, 121. -/
def Obligations.MessagesFollowTheRoleTable : Prop :=
  (∀ (s : State) (m : XMsg) (bad : Nat), s.pwr.corePg = true → m.target < 48 → m.source < 48 → bad < 2 →
    m.role = (roleOf s m.target).func → m.gen = (roleOf s m.target).gen →
    exec (.messageArrival m bad) s = .next (send (.xbarAccept m false) (setBounces m 0
      (if bad = 0 then s else beatCount (if 16 ≤ m.target then m.target else m.source) false s)))) ∧
  (∀ (s : State) (m : XMsg) (bad : Nat), s.pwr.corePg = true → m.target < 48 → m.source < 48 → bad < 2 →
    (m.role ≠ (roleOf s m.target).func ∨ m.gen ≠ (roleOf s m.target).gen) →
    ∃ t, exec (.messageArrival m bad) s = .next t ∧ t.spn.staleBounces = satAdd 16 s.spn.staleBounces 1 ∧
      t.raised = s.raised ++ [⟨0x1201, 0x00, [(1, m.source), (1, m.target)]⟩] ∧ t.out = s.out ++ [.xbarStale m.source m.tag] ∧
      t.spn.roles = s.spn.roles ∧ OnlyIn [.spn, .qdc, .raised, .out] s t) ∧
  (∀ (s u : State) (m : XMsg) (bad : Nat), s.pwr.corePg = true → m.target < 48 → m.source < 48 → 2 ≤ bad →
    u = raise 0x1101 m.target [(1, m.source), (1, m.target)]
      (beatCount (if 16 ≤ m.target then m.target else m.source) true s) →
    (roleMatches s m = true → exec (.messageArrival m bad) s = .next (send (.xbarAccept m true) (setBounces m 0 u))) ∧
    (roleMatches s m = false → exec (.messageArrival m bad) s = exec (.messageArrival m 0) u)) ∧
  (∀ (s : State) (u : Nat), 16 ≤ u → ∀ (two : Bool), (beatCount u two s).qdc = s.qdc.modify ((u - 16) / 8) (fun d =>
    { d with sramUe := if two then satAdd 16 d.sramUe 1 else d.sramUe, sramCe := if two then d.sramCe else satAdd 32 d.sramCe 1 })) ∧
  (∀ (s : State) (m : XMsg), 1 ≤ bounceCount s m → bounceCount s m < 3 →
    exec (.staleRole m) s = .next (send (.xbarResend { m with
      target := resolveRole s m, role := (roleOf s (resolveRole s m)).func, gen := (roleOf s (resolveRole s m)).gen }) s)) ∧
  (∀ (s : State) (m : XMsg), 3 ≤ bounceCount s m → m.forDump = false → m.forHost = false →
    ∃ t, exec (.staleRole m) s = .next t ∧ t.spn.unresolved = satAdd 16 s.spn.unresolved 1 ∧
      t.out = s.out ++ [.xbarUnresolved m.source m.tag] ∧ t.raised = s.raised ++ [⟨0x1202, 0x00, [(1, m.source), (1, m.target)]⟩] ∧
      OnlyIn [.spn, .raised, .out] s t) ∧
  (∀ (s : State) (m : XMsg), 3 ≤ bounceCount s m → m.forDump = false → m.forHost = true →
    ∃ t, exec (.staleRole m) s = .next t ∧ t.spn.unresolved = satAdd 16 s.spn.unresolved 1 ∧ t.spn.roles = s.spn.roles ∧
      t.out = s.out ++ [.xbarUnresolved m.source m.tag, .xbarResend { m with
        target := resolveRole s m, role := (roleOf s (resolveRole s m)).func, gen := (roleOf s (resolveRole s m)).gen }] ∧
      t.raised = s.raised ++ [⟨0x1202, 0x00, [(1, m.source), (1, m.target)]⟩] ∧ OnlyIn [.spn, .raised, .out] s t) ∧
  (∀ (s : State) (func cover : Nat), s.pwr.corePg = true → s.spn.mode = .test → s.spn.roleIdx < 48 → s.spn.roles.length = 48 →
    ((roleOf s s.spn.roleIdx).func ≠ func % 64 ∨ (roleOf s s.spn.roleIdx).cover ≠ cover % 16) →
    ∃ t, exec (.roleDataWrite func cover) s = .next t ∧
      roleOf t s.spn.roleIdx = ⟨func % 64, cover % 16, if (roleOf s s.spn.roleIdx).gen = 0xFFFF then 1 else
        (roleOf s s.spn.roleIdx).gen + 1, (roleOf s s.spn.roleIdx).state⟩ ∧
      (∀ u, u ≠ s.spn.roleIdx → roleOf t u = roleOf s u) ∧ t.spn.roleChanges = satAdd 16 s.spn.roleChanges 1 ∧
      (t.raised.drop s.raised.length).map Event.id = [0x1203] ∧ OnlyIn [.spn, .raised] s t) ∧
  (∀ (s : State) (func cover : Nat), s.pwr.corePg = true → s.spn.mode = .test → s.spn.roleIdx < 48 →
    (roleOf s s.spn.roleIdx).func = func % 64 → (roleOf s s.spn.roleIdx).cover = cover % 16 →
    exec (.roleDataWrite func cover) s = .next s) ∧
  (∀ (s : State) (func cover : Nat), s.pwr.corePg = true → s.spn.mode = .dump →
    exec (.roleDataWrite func cover) s = .next (raise 0x1006 0x00 [] s)) ∧
  (∀ (s : State) (func cover : Nat), s.spn.mode ≠ .dump → s.spn.mode ≠ .test → exec (.roleDataWrite func cover) s = .next s)

/-- Register writes and reads (R11, R12, R43, R44, R91, R641 to R643). The model's own choices in it: log 30, 40, 123. -/
def Obligations.RegisterAccesses : Prop :=
  (∀ (s : State) (path : Path) (v : Nat) (fact : Bool), s.pwr.corePg = true → s.evr.foldMs < 65536 →
    exec (.registerWrite path 0x90028 8 v fact) s =
      (if path = .firmware ∧ s.img.locked = false
       then .next { dropHalf path s with evr := { s.evr with foldMs := clamp 10 10000 (v % 65536) } }
       else .next (dropHalf path s))) ∧
  (∀ (s : State) (path : Path) (v : Nat) (fact : Bool), s.pwr.corePg = true → s.spn.roleIdx < 64 →
    exec (.registerWrite path 0x00018 8 v fact) s =
      .next { dropHalf path s with spn := { (dropHalf path s).spn with roleIdx := v % 64 } }) ∧
  (∀ (s : State) (path : Path) (a v : Nat) (fact : Bool), s.pwr.corePg = true → s.spn.mode = .dump →
    a ∈ [0x20, 0x20018, 0x20058, 0x20030, 0xE0058, 0xD0040, 0x50038, 0x40008] →
    exec (.registerWrite path a 8 v fact) s = .next (raise 0x1006 0x00 [] (dropHalf path s))) ∧
  (∀ (s : State) (path : Path) (a width v : Nat) (fact : Bool), s.pwr.corePg = true →
    (width ≠ 4 ∧ width ≠ 8 ∨ a % width ≠ 0) → exec (.registerWrite path a width v fact) s = .next (dropHalf path s)) ∧
  (∀ (s : State) (path : Path), s.pwr.corePg = true →
    exec (.rcRead path 0x00028 8) s = .next (send (.readData path (regValue path 0x00028 s))
      { dropHalf path s with spn := { (dropHalf path s).spn with roleChanges := 0, unresolved := 0, staleBounces := 0 } })) ∧
  (∀ (s : State) (path : Path), s.spn.roleChanges = 0 → s.spn.unresolved = 0 → s.spn.staleBounces = 0 → regValue path 0x00028 s = 0) ∧
  (∀ (s : State) (path : Path) (a : Nat), s.pwr.corePg = true → 0x200000 ≤ a → a < 0x300000 → a % 8 = 0 →
    exec (.rcRead path a 4) s = .next (send (.readData path (regValue path a s % 2 ^ 32)) (dropHalf path s)) ∧
    exec (.rcRead path (a + 4) 4) s = .next (send (.readData path (regValue path a s / 2 ^ 32)) (dropHalf path s))) ∧
  (∀ (s : State) (path : Path) (a : Nat), s.pwr.corePg = true → a < 0x200000 → a % 8 = 0 →
    ∃ t u, exec (.rcRead path a 4) s = .next t ∧ exec (.rcRead path (a + 4) 4) t = .next u ∧
      u.out = s.out ++ [.readData path (regValue path a s % 2 ^ 32), .readData path (regValue path a s / 2 ^ 32)])

/-- The host link (R105 to R114, R121, R132). The model's own choices in it: log 26, 27, 28, 29, 124, 125, 126. -/
def Obligations.HostLinkEvents : Prop :=
  (∀ (s : State) (speed width : Nat), s.hlk.presented = true → s.hlk.perst = false →
    ∃ t, exec (.linkUp speed width) s = .next t ∧ t.hlk.linkUp = true ∧ t.hlk.speed = speed ∧ t.hlk.width = width ∧
      t.hlk.degraded = (decide (speed < 5) || decide (width < 8)) ∧
      t.hlk.retrains = (if s.hlk.linkUp then satAdd 16 s.hlk.retrains 1 else satAdd 16 s.hlk.retrains 0) ∧
      t.raised = s.raised ++ [⟨0x0201, 0x01, [(1, speed), (1, width)]⟩] ++
        (if speed < 5 ∨ width < 8 then [⟨0x020A, 0x01, []⟩] else []) ∧ OnlyIn [.hlk, .raised] s t) ∧
  (∀ s : State, s.hlk.linkUp = true →
    ∃ u, exec .linkDown s = .next (settle u) ∧ u.hlk.linkUp = false ∧ u.hlk.reads = [] ∧
      u.hlk.writes = s.hlk.writes.map (fun w => { w with orphan := true }) ∧ u.hlk.dec0 = s.hlk.dec0 ∧
      u.raised = s.raised ++ [⟨0x0202, 0x01, []⟩] ∧ OnlyIn [.hlk, .raised] s u) ∧
  (∀ s : State, s.hlk.perst = false → s.pwr.corePg = true → s.spn.mode ≠ .boot → s.spn.mode ≠ .recovery → s.spn.mode ≠ .test →
    ∃ u, exec .perstNAssert s = .next (settle u) ∧ u.hlk.perst = true ∧ u.hlk.linkUp = false ∧ u.hlk.dec0.committed = false ∧
      u.hlk.dec1.committed = false ∧ u.hlk.dec2.committed = false ∧ u.hlk.dec3.committed = false ∧ u.pwr.lastKind = 3 ∧
      u.gst = s.gst ∧ u.spn = s.spn) ∧
  (∀ s : State, s.hlk.perst = false → s.pwr.corePg = true → s.spn.mode = .recovery →
    ∃ t, exec .perstNAssert s = .next t ∧ t.spn.mode = .boot ∧ t.spn.cause = 0x0204 ∧ t.img.bootStep = 0 ∧ t.sig.stage = 0 ∧
      t.img.locked = s.img.locked) ∧
  (∀ s : State, exec .perstNDeassert s = .next { s with hlk := { s.hlk with perst := false } }) ∧
  (∀ s : State, s.hlk.presented = true →
    ∃ u, exec .functionReset s = .next (settle u) ∧ u.pwr.lastKind = 4 ∧ u.hlk.dec0 = s.hlk.dec0 ∧ u.hlk.linkUp = s.hlk.linkUp ∧
      u.hlk.reads = [] ∧ u.gst = s.gst ∧ u.spn = s.spn) ∧
  (∀ (s : State) (n base size ways skip : Nat) (d : Decoder), (decoders s)[n]? = some d → s.hlk.presented = true →
    d.committed = false → commitOk n base size ways skip s = true →
    ∃ t, exec (.hdmDecoderCommit n base size ways skip) s = .next t ∧ (decoders t)[n]? = some ⟨base, size, ways, skip, true, false⟩ ∧
      (∀ k, k ≠ n → (decoders t)[k]? = (decoders s)[k]?) ∧ OnlyIn [.hlk] s t) ∧
  (∀ (s : State) (n base size ways skip : Nat) (d : Decoder), (decoders s)[n]? = some d → s.hlk.presented = true →
    d.committed = false → commitOk n base size ways skip s = false →
    ∃ t, exec (.hdmDecoderCommit n base size ways skip) s = .next t ∧ (decoders t)[n]? = some ⟨base, size, ways, skip, false, true⟩ ∧
      t.hlk.decoderRefused = satAdd 16 s.hlk.decoderRefused 1 ∧ t.raised = s.raised ++ [⟨0x0206, 0x01, []⟩] ∧
      OnlyIn [.hlk, .raised] s t) ∧
  (∀ (s : State) (n : Nat) (d : Decoder), (decoders s)[n]? = some d → d.committed = true →
    ((decoders s)[n + 1]?).any Decoder.committed = false →
    ∃ t, exec (.hdmDecoderUncommit n) s = .next t ∧ (decoders t)[n]? = some { d with committed := false, errNotCommitted := false } ∧
      OnlyIn [.hlk] s t) ∧
  (∀ (s : State) (n : Nat) (d : Decoder), (decoders s)[n]? = some d → d.committed = true →
    ((decoders s)[n + 1]?).any Decoder.committed = true →
    exec (.hdmDecoderUncommit n) s = .next (raise 0x0206 0x01 [] s)) ∧
  (∀ (s : State) (correctable : Bool), s.hlk.linkUp = true →
    exec (.ecrcError correctable) s = .next (raise 0x0209 0x01 [] (send (.aer correctable) { s with hlk := { s.hlk with
      ecrc := satAdd 16 s.hlk.ecrc 1
      pci := { s.hlk.pci with
        ecrcSeverity := !correctable
        aerCorrectable := if correctable then setBit s.hlk.pci.aerCorrectable 19 else s.hlk.pci.aerCorrectable
        aerUncorrectable := if correctable then s.hlk.pci.aerUncorrectable else setBit s.hlk.pci.aerUncorrectable 19 } } }))) ∧
  (∀ s : State, s.hlk.linkUp = true → exec .gpfPhase1 s = .next (send (.gpf 1) s) ∧ exec .gpfPhase2 s = .next (send (.gpf 2) s))

/-- Host accesses, admission, the end of a write's burst, and a hold that lasts too long (R116, R122, R134, R144, R150, R157, R161, R191,
R197). The model's own choices in it: log 26, 52, 106. -/
def Obligations.HostAccessesByRegionState : Prop :=
  (∀ (s : State) (tag hpa line mask r : Nat) (data : BitVec 512), s.hlk.linkUp = true → dpaLine s hpa = some line → 0 < s.hlk.rwdFree →
    s.hlk.writes.all (fun w => w.tag ≠ tag) = true → s.hlk.ingressClosed = false → accessServed s (granuleOf line) = true →
    regionOf s (granuleOf line) = some r →
    exec (.memWrite tag hpa mask data false) s = .next (settle (tryAdmit (newWrite tag line (mask % 2 ^ 64) r data false)
      { s with hlk := { s.hlk with writes := s.hlk.writes ++ [newWrite tag line (mask % 2 ^ 64) r data false],
                                   rwdFree := s.hlk.rwdFree - 1 } }))) ∧
  (∀ (s : State) (tag hpa line mask : Nat) (data : BitVec 512) (bad : Bool), s.hlk.linkUp = true → dpaLine s hpa = some line →
    0 < s.hlk.rwdFree → s.hlk.writes.all (fun w => w.tag ≠ tag) = true → s.hlk.ingressClosed = false →
    accessServed s (granuleOf line) = false →
    ∃ t d, exec (.memWrite tag hpa mask data bad) s = .next t ∧ t.out.getLast? = some (.ndr tag d) ∧
      tget 0 t.hlk.writesDiscarded (offlIndex s (granuleOf line)) =
        satAdd 32 (tget 0 s.hlk.writesDiscarded (offlIndex s (granuleOf line))) 1 ∧
      t.hlk.rwdFree = s.hlk.rwdFree ∧ t.hlk.writes = s.hlk.writes ∧ offlIndex s (granuleOf line) ∈ t.hlk.warned ∧
      t.raised = s.raised ++ [⟨0x0203, 0x01, [(2, offlIndex s (granuleOf line))]⟩] ∧ OnlyIn [.hlk, .raised, .out] s t) ∧
  (∀ (s : State) (tag hpa line mask : Nat) (data : BitVec 512) (bad : Bool), s.hlk.linkUp = true → dpaLine s hpa = some line →
    0 < s.hlk.rwdFree → s.hlk.writes.all (fun w => w.tag ≠ tag) = true → s.hlk.ingressClosed = true →
    exec (.memWrite tag hpa mask data bad) s = .next { s with
      hlk := { s.hlk with rwdFree := s.hlk.rwdFree - 1 }, wrp := { s.wrp with truncated := satAdd 8 s.wrp.truncated 1 } }) ∧
  (∀ (s : State) (w : WriteRec), admitHold s w = .budget → w.hold = .none →
    (tryAdmit w s).wrp.budgetHolds = satAdd 32 s.wrp.budgetHolds 1 ∧ OnlyIn [.hlk, .wrp] s (tryAdmit w s) ∧
      (∀ x ∈ (tryAdmit w s).hlk.writes, x.tag = w.tag → x.hold = .budget ∧ x.everHeld = true)) ∧
  (∀ (s : State) (w : WriteRec) (c : AckClass) (leg sent : Bool), admitHold s w = .none → effFor s w.region (granuleOf w.line) = some (c, leg, sent) →
    ∀ x ∈ (tryAdmit w s).hlk.writes, x.tag = w.tag → x.hold = .none ∧ x.eff = c ∧ x.admitted = decide (c ≠ .vaulted)) ∧
  (∀ (s : State) (tag hpa line : Nat) (errs again : List SymErr), s.hlk.linkUp = true → dpaLine s hpa = some line → 0 < s.hlk.reqFree →
    s.hlk.reads.all (fun r => r.tag ≠ tag) = true → s.hlk.ingressClosed = false → accessServed s (granuleOf line) = true →
    gstate s (granuleOf line) ≠ .pending → memReady s (quadOf s (granuleOf line)) = true →
    exec (.memRead tag hpa errs again) s = .next (settle { s with hlk := { s.hlk with reads := s.hlk.reads ++ [⟨tag, line, errs, again⟩] } })) ∧
  (∀ (s : State) (tag hpa line : Nat) (errs again : List SymErr), s.hlk.linkUp = true → dpaLine s hpa = some line → 0 < s.hlk.reqFree →
    s.hlk.reads.all (fun r => r.tag ≠ tag) = true → s.hlk.ingressClosed = false → accessServed s (granuleOf line) = false →
    ∃ t d, exec (.memRead tag hpa errs again) s = .next t ∧ t.out.getLast? = some (.drs tag 0 true d) ∧
      OnlyIn [.hlk, .raised, .out] s t) ∧
  (∀ (s : State) (tag : Nat) (w : WriteRec), s.hlk.writes.find? (fun x => x.tag = tag) = some w → w.inDram = false →
    w.hold = .none → w.released = false → w.poisoned = false →
    (s.hlk.writes.takeWhile (fun x => x.tag ≠ tag)).all (fun x => x.line ≠ w.line || x.inDram) = true →
    ∃ u, exec (.lineWritten tag) s = .next (settle u) ∧ u.gst = (lineLands (granuleOf w.line) (storeLine w.line w.data w.mask s)).gst ∧
      (∀ x ∈ u.hlk.writes, x.tag = tag → x.inDram = true) ∧ OnlyIn [.hlk, .gst, .dram, .kor, .qdc, .raised] s u) ∧
  (∀ (s : State) (tag : Nat) (w : WriteRec), s.hlk.writes.find? (fun x => x.tag = tag) = some w →
    (holdNow s w = .budget → exec (.writeHoldTimeout tag) s = .next (raise 0x030B 0x02 [(1, w.region), (1, 1)] s)) ∧
    (holdNow s w = .decision → exec (.writeHoldTimeout tag) s = .next (raise 0x030B 0x02 [(1, w.region), (1, 2)] s)) ∧
    (holdNow s w = .share → exec (.writeHoldTimeout tag) s = .next (raise 0x030B 0x02 [(1, w.region), (1, 3)] s)) ∧
    (holdNow s w = .none → exec (.writeHoldTimeout tag) s = .next s))

/-- The write rows of R172, with reservation and twin entry (R189, R192). The model's own choices in it: log 11, 24. -/
def Obligations.WriteRowsOfStateTable : Prop :=
  ∀ (s : State) (g r : Nat) (c : AckClass), g < hdmGranules s →
    gword (writeState g r c s) g = ⟨match gstate s g with
      | .free => .dirty | .dirty => .dirty | .lost => .dirty
      | .inflight => .redirty | .redirty => .redirty | .shadowed => .redirty | .pending => .redirty | .poison => .redirty,
      (gword s g).stale⟩ ∧
    (∀ k, k ≠ g → gword (writeState g r c s) k = gword s k) ∧
    (c ≠ .vaulted → g ∈ (writeState g r c s).gst.rsv) ∧
    (c = .vaulted → isDirty s g = false → g ∉ s.gst.rsv → g ∈ (writeState g r c s).gst.twin) ∧
    (gstate s g = .poison ∨ gstate s g = .lost →
      ⟨0x0309, quadUnit (quadOf s g) 1, [(5, g * 16384)]⟩ ∈ (writeState g r c s).raised)

/-- What the reporting commands answer (R124, R125, R130, R133, R557; layouts log 43).
The model's own choices in it: log 43. -/
def Obligations.ReportingCommandsAnswer : Prop :=
  (∀ (s : State) (via : Via), Serves s → s.spn.mode ≠ .dump →
    exec (.identifyMemoryDevice via) s = .next (send (.mbox via 0x4000 .success 0 [(8, hdmUnits s), (8, 0), (8, hdmUnits s), (8, 0),
      (2, 64), (2, 64), (2, 64), (2, 64), (4, 0), (3, 256), (2, 16), (1, 1)]) s) ∧
    (∀ temp, exec (.getHealthInfo via temp) s = .next { (send (.mbox via 0x4200 .success 0 [(1, healthBits s), (1, mediaStatus s),
      (1, min 255 ((s.shd.lifeUsed + 99) / 100)), (2, temp), (4, s.dmp.dsc), (4, 0), (4, s.hlk.correctedHost)]) s) with
      free := s.free + 1 }) ∧
    exec (.getFwInfo via) s = .next (send (.mbox via 0x0200 .success 0 [(1, 2), (1, s.sig.fwSlot + 1),
      (1, if s.aos.scratch.held.isEmpty then 0 else 2 - s.sig.fwSlot % 2), (1, 0), (4, s.sig.fwVersion)]) s)) ∧
  (∀ (s : State) (via : Via), Serves s → s.spn.mode ≠ .dump →
    exec (.getSupportedLogs via) s = .next (send (.mbox via 0x0400 .success 0 [(2, 2), (16, celUuid), (4, 4 * listedOpcodes.length),
      (16, 0x7c5a1e043b9d4f60a2e891d0c6b3f417), (4, 256 * (readable s).length)]) s) ∧
    (∀ off len, len ≤ 4096 → exec (.getLog via 0x7c5a1e043b9d4f60a2e891d0c6b3f417 off len) s = .next (send (.mbox via 0x0401 .success 0
      (((((readable s).flatMap sedgeBytes).drop off).take len).map (fun x => (1, x)))) s)) ∧
    (∀ off len, 4096 < len → exec (.getLog via 0x7c5a1e043b9d4f60a2e891d0c6b3f417 off len) s =
      .next (send (.mbox via 0x0401 .invalidInput 0 []) s))) ∧
  (∀ (s : State) (via : Via) (r : Nat), VendorServes via [.restore, .service, .parked, .test] true false s →
    exec (.regionStateQuery via r) s = .next (if r < 256 then send (.mbox via 0xC000 .success 0 (regionReport s r)) s else
      send (.mbox via 0xC000 .invalidInput 0x0002 []) (raise 0x0207 0x01 [(2, 0xC000), (2, 0x0002)] s))) ∧
  (∀ (s : State) (via : Via), VendorServes via runningModes true false s →
    ∃ ch, ch = (List.range 16).filter (fun c => populated s c) ∧
      exec (.vaultInfo via) s = .next (send (.mbox via 0xC00B .success 0 [(1, ch.length), (1, (vaultRec s).diesPerCh),
        (2, maskOf (ch.filter (fun c => (vchOf s c).state == 3))), (4, (vaultRec s).endurance), (8, slcBytes s),
        (8, s.shd.written / 1048576 * 1048576), (8, liveGranules s * 16384), (4, s.shd.lifeUsed), (4, s.shd.debt / 1073741824),
        (4, s.vlt.retired.length), (4, 0)]) s)) ∧
  (∀ s : State, s.hlk.presented = true →
    exec (.doeDiscovery 0) s = .next (send (.doe [(2, 0x0001), (1, 0), (1, 1)]) s) ∧
    exec (.doeDiscovery 2) s = .next (send (.doe [(2, 0x1E98), (1, 2), (1, 0)]) s) ∧
    exec (.cdatRead 0) s = .next (send (.doe [(4, s.hlk.cdatSeq), (8, 0), (8, hdmGranules s * 16384), (1, 1)]) s) ∧
    exec (.cdatRead 3) s = .next (send (.doe [(4, s.hlk.cdatSeq), (4, s.hlk.cdatLatency)]) s))

/-- Settings, event logs and opcodes that are not listed (R124, R128, R131; layouts log 43).
The model's own choices in it: log 43. -/
def Obligations.SettingsEventLogsAndUnlisted : Prop :=
  (∀ (s : State) (via : Via), Serves s → s.spn.mode ≠ .dump →
    (∀ life hot cold corrected, exec (.setAlertConfiguration via life hot cold corrected) s =
      .next (send (.mbox via 0x4202 .success 0 []) { s with hlk := { s.hlk with alertCfg := [life, hot, cold, corrected] } })) ∧
    exec (.getAlertConfiguration via) s = .next (send (.mbox via 0x4201 .success 0 (s.hlk.alertCfg.map (fun v => (2, v)))) s) ∧
    (∀ v, exec (.setShutdownState via v) s =
      .next (send (.mbox via 0x4204 .success 0 []) { s with aos := { s.aos with shutdownState := v % 256 } })) ∧
    exec (.getShutdownState via) s = .next (send (.mbox via 0x4203 .success 0 [(1, s.aos.shutdownState)]) s) ∧
    (∀ info warn fail fatal, exec (.setEventInterruptPolicy via info warn fail fatal) s =
      .next (send (.mbox via 0x0103 .success 0 []) { s with hlk := { s.hlk with intPolicy := [info, warn, fail, fatal] } })) ∧
    exec (.getEventInterruptPolicy via) s =
      .next (send (.mbox via 0x0102 .success 0 (s.hlk.intPolicy.map (fun b => (1, flag b)))) s) ∧
    (∀ v, exec (.setTimestamp via v) s =
      .next (send (.mbox via 0x0301 .success 0 []) { s with hlk := { s.hlk with timestamp := v % 2 ^ 64 } })) ∧
    exec (.getTimestamp via) s =
      .next { (send (.mbox via 0x0300 .success 0 [(8, deviceTime s)]) s) with free := s.free + 1 }) ∧
  (∀ (s : State) (via : Via) (log : Nat), Serves s → log < 4 →
    exec (.getEventRecords via log) s = .next (send (.mbox via 0x0100 .success 0
      ([(1, flag (decide (31 < (hostLog s log).length))), (2, min 31 (hostLog s log).length)] ++
        ((hostLog s log).take 31).flatMap (fun e => [(1, flag e.memoryModule), (2, e.id), (8, e.seq)]))) s)) ∧
  (∀ (s : State) (via : Via) (log count : Nat) (all : Bool), Serves s → s.spn.mode ≠ .dump → log < 4 →
    ∃ t, exec (.clearEventRecords via log count all) s = .next t ∧
      hostLog t log = (if all then [] else (hostLog s log).drop count) ∧ (∀ k, k < 4 → k ≠ log → hostLog t k = hostLog s k) ∧
      t.out = s.out ++ [.mbox via 0x0101 .success 0 []] ∧ OnlyIn [.hlk, .out] s t) ∧
  (∀ (s : State) (via : Via) (log count : Nat) (all : Bool), Serves s → s.spn.mode ≠ .dump → 4 ≤ log →
    exec (.getEventRecords via log) s = .next (send (.mbox via 0x0100 .invalidInput 0 []) s) ∧
    exec (.clearEventRecords via log count all) s = .next (send (.mbox via 0x0101 .invalidInput 0 []) s)) ∧
  (∀ (s : State) (via : Via) (op : Nat), Serves s → s.spn.mode ≠ .dump → op ∉ listedOpcodes →
    exec (.unsupportedOpcode via op) s = .next (send (.mbox via op .unsupported 0 []) s))

/-- Poison commands and RELEASE_RANGE (R124, R126, R183, R185; log 44). The model's own choices in it: log 130. -/
def Obligations.PoisonAndReleaseCommands : Prop :=
  (∀ (s : State) (via : Via) (dpa len : Nat), Serves s → s.spn.mode ≠ .dump →
    exec (.getPoisonList via dpa len) s = .next (send (.mbox via 0x4300 .success 0
      ([(1, flag (decide (256 < (poisonGranules s dpa len).length))), (2, min 256 (poisonGranules s dpa len).length)] ++
        ((poisonGranules s dpa len).take 256).flatMap (fun g => [(8, g * 16384), (4, 256), (1, (poisonSource s g).getD 0)]))) s)) ∧
  (∀ (s : State) (via : Via) (dpa : Nat), Serves s → s.spn.mode = .test → dpa % 64 = 0 → dpa < hdmGranules s * 16384 →
    s.hlk.injected.length < 16 →
    ∃ t, exec (.injectPoison via dpa) s = .next t ∧ (∀ p, p ∈ t.gst.poison ↔ p / 8 = dpa / 64 ∨ p ∈ s.gst.poison) ∧
      (∀ g, g ∈ t.hlk.injected ↔ g = dpa / 16384 ∨ g ∈ s.hlk.injected) ∧
      t.out = s.out ++ [.msix 10, .mbox via 0x4301 .success 0 []] ∧ OnlyIn [.gst, .hlk, .out] s t) ∧
  (∀ (s : State) (via : Via) (dpa : Nat) (data : BitVec 512), Serves s → s.spn.mode = .test → dpa % 64 = 0 →
    dpa < hdmGranules s * 16384 → linePoisoned s (dpa / 64) = true →
    ∃ t, exec (.clearPoison via dpa data) s = .next t ∧ lineData t (dpa / 64) = data ∧
      (∀ p, p ∈ t.gst.poison ↔ p ∈ s.gst.poison ∧ p / 8 ≠ dpa / 64) ∧ OnlyIn [.gst, .dram, .hlk, .out] s t) ∧
  (∀ (s : State) (via : Via) (dpa : Nat) (data : BitVec 512), Serves s → s.spn.mode ≠ .dump → s.spn.mode ≠ .test →
    exec (.injectPoison via dpa) s = .next (send (.mbox via 0x4301 .unsupported 0x0001 []) s) ∧
    exec (.clearPoison via dpa data) s = .next (send (.mbox via 0x4302 .unsupported 0x0001 []) s)) ∧
  (∀ (s : State) (dpa len r : Nat), VendorServes .primary [.restore, .service, .test] false false s → rangeRegion s dpa len = .inl r →
    ∃ (n : Nat) (u v : State), n = (rangeUsed s (dpa / 16384) (len / 16384)).length ∧
      u = releaseRange r (dpa / 16384) (len / 16384) s ∧
      v = (if (forwardRelease r (dpa / 16384) (len / 16384) n .primary u).1 then
          (forwardRelease r (dpa / 16384) (len / 16384) n .primary u).2
        else releaseOver ⟨r, dpa / 16384, len / 16384, n, .primary, true⟩
          (forwardRelease r (dpa / 16384) (len / 16384) n .primary u).2) ∧
      exec (.releaseRange .primary dpa len) s = .next (settleFor (shareFreed s v) v)) ∧
  (∀ (r first count n : Nat) (u : State), releaseOver ⟨r, first, count, n, .primary, true⟩ u =
    send (.mbox .primary 0xC001 .success 0 [(4, n), (4, 0)]) (raise 0x030A 0x02 [(1, r), (4, n)] u)) ∧
  (∀ (u : State) (r first count n : Nat), u.kor.state = .unpaired → forwardRelease r first count n .primary u = (false, u)) ∧
  (∀ (s : State) (g : Nat), g < hdmGranules s → gword (releaseGranule g s) g = ⟨.free, false⟩ ∧
    ∀ h, h ≠ g → gword (releaseGranule g s) h = gword s h) ∧
  (∀ (s : State) (dpa len : Nat), VendorServes .primary [.restore, .service, .test] false false s → dpa % 16384 ≠ 0 →
    exec (.releaseRange .primary dpa len) s = .next (send (.mbox .primary 0xC001 .invalidInput 0x0002 [])
      (raise 0x0207 0x01 [(2, 0xC001), (2, 0x0002)] s)))

/-- The doorbell of every mailbox command (R127 to R130, R585; opcodes log 43).
The model's own choices in it: log 21, 43, 126. -/
def Obligations.MailboxDoorbells : Prop :=
  (∀ (c : Instr) (s : State) (via : Via) (op : Nat) (d : Bool), mailboxOp c = some (via, op, d) → s.pwr.corePg = false →
    ∃ t, exec c s = .next t ∧ OnlyIn [.free] s t) ∧
  (∀ (c : Instr) (s : State) (via : Via) (op : Nat) (d : Bool), mailboxOp c = some (via, op, d) → s.pwr.corePg = true →
    s.sig.recoverySvc = false → s.pwr.fwBusy = true →
    ∃ t, exec c s = .next t ∧ t.out = s.out ++ [.mbox via op .busy 0 []] ∧ OnlyIn [.out, .free] s t) ∧
  (∀ (c : Instr) (s : State) (via : Via) (op : Nat), mailboxOp c = some (via, op, false) → Serves s → s.spn.mode = .dump →
    ∃ t, exec c s = .next t ∧ t.out = s.out ++ [.mbox via op .busy 0 []] ∧ OnlyIn [.out, .free] s t) ∧
  (∀ (c : Instr) (s : State) (via : Via) (op : Nat), mailboxOp c = some (via, op, true) → Serves s → s.spn.mode = .dump →
    ∃ t r p, exec c s = .next t ∧ r ≠ Ret.busy ∧ t.out = s.out ++ [.mbox via op r 0 p] ∧ OnlyIn [.out, .free] s t) ∧
  (∀ (c : Instr) (s : State) (via : Via) (op : Nat) (d m b : Bool) (modes : List Mode), mailboxOp c = some (via, op, d) →
    vendorRow op = some (modes, m, b) → Serves s → s.spn.mode ≠ .dump →
    (s.spn.mode ∉ modes ∨ (via = .mctp ∧ (m = false ∨ s.hlk.mctpVendorEn = false))) →
    exec c s = .next (send (.mbox via op .unsupported 0x0001 []) (raise 0x0207 0x01 [(2, op), (2, 0x0001)] s))) ∧
  (∀ (c : Instr) (s : State) (via : Via) (op : Nat) (d m : Bool) (modes : List Mode), mailboxOp c = some (via, op, d) →
    vendorRow op = some (modes, m, true) → VendorServes via modes m false s → s.hlk.bg.isSome = true →
    exec c s = .next (send (.mbox via op .busy 0 []) s))

/-- Firmware update and background commands (R127, R224, R240, R269, R556, R557, R571; log 42).
The model's own choices in it: log 42, 74, 80, 88, 131. -/
def Obligations.UpdateAndBackgroundCommands : Prop :=
  (∀ (s : State) (via : Via) (l : List Component), Serves s → s.spn.mode ≠ .dump → packageOk l = true →
    (∀ c ∈ l, compOk (inactiveSlot s) s c = true) → s.nrg.quagOk = true → s.hlk.bg = none →
    exec (.transferFw via (inactiveSlot s) l) s = .next (ifcAsk ⟨.firmware, inactiveSlot s, .package (inactiveSlot s) l, 0⟩
      (erasePackage (inactiveSlot s) l (send (.mbox via 0x0201 .backgroundStarted 0 [])
        { s with hlk := { s.hlk with bg := some ⟨via, 0x0201⟩ } })))) ∧
  (∀ (s : State) (slot : Nat) (l : List Component), packageWritten slot l true s =
    bgEnd 0x0201 .success 0 [] (raise 0x0F05 0x0B [(1, compBits l)] (l.foldl (writeComp slot) s))) ∧
  (∀ (s : State) (via : Via) (slot : Nat) (l : List Component), Serves s → s.spn.mode ≠ .dump → s.hlk.bg.isSome = true →
    exec (.transferFw via slot l) s = .next (send (.mbox via 0x0201 .busy 0 []) s)) ∧
  (∀ (s : State) (slot : Nat) (c : Component), (writeComp slot s c).aos.scratch.held =
    s.aos.scratch.held.filter (fun h => h.base ≠ (compArea c.kind slot).1) ++
      [⟨c.kind, (compArea c.kind slot).1, c.words.headD erasedWord, leAt (compBytes c) 12 4⟩]) ∧
  (∀ (s : State) (via : Via) (slot : Nat) (l : List Component), Serves s → s.spn.mode ≠ .dump → s.hlk.bg = none →
    (slot ≠ inactiveSlot s ∨ packageOk l = false ∨ ∃ c ∈ l, compOk slot s c = false) →
    exec (.transferFw via slot l) s =
      .next (send (.mbox via 0x0201 .invalidInput 0 []) (raise 0x0F05 0x0B [(1, compBits l)] s))) ∧
  (∀ (s : State) (via : Via) (h : HeldComp), Serves s → s.spn.mode ≠ .dump → s.nrg.quagOk = true → s.aos.scratch.held = [h] →
    ∃ t, exec (.activateFw via false) s = .next t ∧ tget erasedWord t.ifc.words (h.base / 8) = h.word % 2 ^ 64 ∧
      (∀ a, a ≠ h.base / 8 → tget erasedWord t.ifc.words a = tget erasedWord s.ifc.words a) ∧ t.aos.scratch.held = [] ∧
      t.raised = s.raised ++ [⟨0x0F06, 0x0B, []⟩] ∧ OnlyIn [.ifc, .aos, .raised, .out] s t) ∧
  (∀ (s : State) (via : Via) (online : Bool), Serves s → s.spn.mode ≠ .dump → (online = true ∨ s.aos.scratch.held = []) →
    exec (.activateFw via online) s = .next (send (.mbox via 0x0202 .invalidInput 0 []) s)) ∧
  (∀ (s : State) (dpa len r : Nat), VendorServes .primary [.restore, .service, .test] false true s →
    rangeRegion s dpa len = .inl r →
    ∃ p, p = (fun g => decide (dpa / 16384 ≤ g ∧ g < (dpa + len) / 16384)) ∧ exec (.shadowRange .primary dpa len) s =
      .next (settle (cmdStart 0xC002 p (wakeScope 2 p (send (.mbox .primary 0xC002 .backgroundStarted 0 [])
        { s with hlk := { s.hlk with bg := some ⟨.primary, 0xC002⟩ } }))))) ∧
  (∀ (s : State) (via : Via) (scope : Option Nat) (p : Nat → Bool), VendorServes via [.restore, .service, .test] true true s →
    (scope = none ∧ p = (fun _ => true) ∨ ∃ r, scope = some r ∧ defined s r = true ∧ p = inRegion s r) →
    exec (.barrier via scope) s = .next (settle (cmdStart 0xC003 p (wakeScope (viaKind via) p
      (send (.mbox via 0xC003 .backgroundStarted 0 []) { s with hlk := { s.hlk with bg := some ⟨via, 0xC003⟩ } }))))) ∧
  (∀ (s : State) (via : Via), VendorServes via [.service, .restore] true true s → dumpUnmet s = 0 →
    ∃ u t, u = learnDisqualify 0x06 (bgStart via 0xC004 s) ∧ exec (.park via) s = .next t ∧ t = commitDump 4 0xC004 u ∧
      t.spn.mode = .dump) ∧
  (∀ (s : State) (via : Via), VendorServes via [.service] true true s → calibrationUnmet s = 0 →
    ∃ u t, u = learnDisqualify 0x06 (bgStart via 0xC00A s) ∧ exec (.calibrationDump via) s = .next t ∧ t = commitDump 5 0xC00A u ∧
      t.spn.mode = .dump) ∧
  (∀ (s : State) (via : Via), VendorServes via [.service] true true s → dumpUnmet s ≠ 0 →
    exec (.park via) s = .next (dumpRefuse via 0xC004 (dumpUnmet s) s) ∧
    exec (.calibrationDump via) s = .next (dumpRefuse via 0xC00A (dumpUnmet s) s)) ∧
  (∀ (s : State) (via : Via), VendorServes via [.service] true true s → s.nrg.lstate ≠ .waitBudget → s.nrg.lstate ≠ .running →
    exec (.startLearning via) s = .next (learnStart (bgStart via 0xC009 s))) ∧
  (∀ (s : State) (via : Via), VendorServes via [.service] true true s → (s.nrg.lstate = .waitBudget ∨ s.nrg.lstate = .running) →
    exec (.startLearning via) s = .next (send (.mbox via 0xC009 .busy 0 []) s))

/-- Power states and domains (R302, R564 to R569, R572, R576 to R579). The model's own choices in it: log 86, 87, 146. -/
def Obligations.PowerStatesAndDomains : Prop :=
  (∀ (s : State) (via : Via), VendorServes via [.service] true true s →
    (s.pwr.pstate = 0 → exec (.setPowerStateP0 via) s = .next (powerDone 0 (learnDisqualify 0x06 (bgStart via 0xC008 s)))) ∧
    (s.pwr.pstate ≠ 2 → ∃ t, exec (.setPowerStateP2 via) s = .next t ∧ t.pwr = { s.pwr with
      entry := 1, target := 2, entryStep := 1, entryVia := via, refuser := 0xFF, refuseCause := 0 } ∧ t.spn.mode = s.spn.mode) ∧
    exec (.setPowerStateP3 via) s = .next (settle (cmdStart 0xC008 (fun _ => true) (wakeScope 6 (fun _ => true)
      (learnDisqualify 0x06 (bgStart via 0xC008 s)))))) ∧
  (∀ (s : State) (via : Via), VendorServes via [.parked] true true s → s.kor.state = .unpaired →
    ∃ t, exec (.unpark via) s = .next t ∧ t.pwr.memEn = true ∧ t.hlk.bg = some ⟨via, 0xC005⟩ ∧
      t.out = s.out ++ [.mbox via 0xC005 .backgroundStarted 0 []] ∧
      t.qdc = s.qdc.zipIdx.map (fun e => if s.spn.quadEn.testBit e.2 ∧ e.1.state ≠ 3 then { e.1 with state := 1 } else e.1)) ∧
  (∀ s : State, s.pwr.entry = 1 → s.pwr.entryStep = 1 → p2Refusals s 1 = [] →
    exec (.p2StepDone []) s = .next (closeRows (fun r => !r.closed) { s with pwr := { s.pwr with entryStep := 2 } })) ∧
  (∀ s : State, s.pwr.entry = 1 → s.pwr.entryStep = 6 → s.aos.wake = [] → s.hlk.bg = none →
    ∃ t, exec (.p2StepDone []) s = .next t ∧ t.pwr.pstate = 2 ∧ t.pwr.entry = 0 ∧ t.pwr.entryStep = 0 ∧
      t.pwr.down = s.pwr.down ||| memDomains s) ∧
  (∀ (s : State) (l : List (Nat × Nat)) (u c : Nat), s.pwr.entry = 1 →
    lowestRefusal (p2Refusals s s.pwr.entryStep ++ l.filter (blockRefusal s s.pwr.entryStep)) = some (u, c) →
    exec (.p2StepDone l) s = .next (settle (p2Refuse u c s))) ∧
  (∀ (s : State) (u : Nat), s.pwr.entry = 1 → blockOf s s.pwr.entryStep u = true →
    exec (.p2StopTimeout u) s = .next (settle (p2Refuse u 4 s))) ∧
  (∀ (s : State) (u c : Nat), s.pwr.entry = 1 → (p2Refuse u c s).pwr.entry = 0 ∧ (p2Refuse u c s).pwr.pstate = 0 ∧
    (p2Refuse u c s).pwr.refuser = u ∧ (p2Refuse u c s).pwr.refuseCause = c) ∧
  (∀ (s : State) (d : Nat), s.pwr.entry = 0 → domainIdle s d = true → 6 ≤ d → d < 10 → s.spn.quadEn.testBit (d - 6) = true →
    s.pwr.pstate = 2 → memBusy s (d - 6) = false →
    exec (.idleTimer d) s = .next { s with pwr := { s.pwr with down := setBit s.pwr.down d, on := clearBit s.pwr.on d } }) ∧
  (∀ (s : State) (d : Nat), s.pwr.entry = 0 → domainIdle s d = true → 10 ≤ d → s.spn.quadEn.testBit (d - 10) = true →
    sdeBusy s (d - 10) = false → s.pwr.pstate = 0 → s.pwr.p1En = true → serving s = true →
    ∃ g, g = { s with pwr := { s.pwr with down := setBit s.pwr.down d, on := clearBit s.pwr.on d } } ∧
      exec (.idleTimer d) s = .next (if (quadList s).all (fun p => g.pwr.down.testBit (dQeng p)) then
        raise 0x1007 0x04 [(1, 0), (1, 1), (1, 0)] { g with pwr := { g.pwr with pstate := 1 } } else g)) ∧
  (∀ (s : State) (kind d : Nat), serving s = true → s.pwr.entry = 0 → s.pwr.pstate = 2 → s.pwr.down.testBit d = true → 6 ≤ d →
    d < 14 → 1 ≤ kind → kind ≤ 10 →
    exec (.domainWake kind d) s = .next { s with pwr := { s.pwr with
      down := clearBit s.pwr.down d, waking := setBit s.pwr.waking d, wakes := satAdd 16 s.pwr.wakes 1 } }) ∧
  (∀ (s : State) (d us : Nat), s.pwr.waking.testBit d = true → d < 10 → us ≤ s.pwr.stallUs →
    exec (.domainReady d us) s = .next (exitDone (streamFollow s (cmdKick { s with pwr := { s.pwr with
      waking := clearBit s.pwr.waking d, on := setBit s.pwr.on d, stallMaxUs := max s.pwr.stallMaxUs (min us 0xFFFF) } })))) ∧
  (∀ (s : State) (d : Nat), s.pwr.waking.testBit d = true →
    ∃ u, u = raise 0x100A 0x04 [(1, d)] { s with pwr := { s.pwr with
        waking := clearBit s.pwr.waking d, failed := setBit s.pwr.failed d } } ∧
      exec (.stallTimeout d) s = .next (exitDone (if 10 ≤ d then engineFail (d - 10) u else
        if 2 ≤ d then dumpKick (lifeFollow (fenceQuad ((d - 2) % 4) 1 u)) else u)))

/-- Filters, rails, sensors and VAULT_OFF (R586, R587, R590, R617, R619, R627).
The model's own choices in it: log 103, 104. -/
def Obligations.FiltersRailsAndSensors : Prop :=
  (∀ (s : State) (p : FilterPin) (short : Bool), s.pwr.aonUp = true → (filterOf p s).st = .idle → pinUsed p s = true →
    ∃ t, exec (.filterInputEdge p (decide (p = .storePres)) short) s = .next t ∧ (filterOf p t).st = .qualify ∧
      (filterOf p t).level = decide (p = .storePres) ∧ (filterOf p t).pulses = (filterOf p s).pulses ∧
      (∀ o, o ≠ p → filterOf o t = filterOf o s) ∧ OnlyIn [.pwr] s t) ∧
  (∀ (s : State) (p : FilterPin), s.pwr.aonUp = true → (filterOf p s).st = .qualify →
    (∃ t, exec (.filterInputEdge p (decide (p ≠ .storePres)) true) s = .next t ∧ (filterOf p t).st = .idle ∧
      (filterOf p t).pulses = (filterOf p s).pulses ∧ OnlyIn [.pwr] s t) ∧
    ∃ u, (filterOf p u).st = .idle ∧ (filterOf p u).pulses = satAdd 16 (filterOf p s).pulses 1 ∧
      u.raised = s.raised ++ [⟨0x100F, 0x04, [(1, pinCode p)]⟩] ∧ OnlyIn [.pwr, .raised] s u ∧
      exec (.filterInputEdge p (decide (p ≠ .storePres)) false) s =
        .next (if (p = .pfailWarn ∨ p = .pfailOd) ∧ s.pwr.corePg = true then settle (setPreflush u) else u)) ∧
  (∀ (s : State) (p : FilterPin), s.pwr.aonUp = true → (filterOf p s).level = decide (p = .storePres) → (filterOf p s).st = .qualify →
    ∃ u, (filterOf p u).st = .asserted ∧ OnlyIn [.pwr] s u ∧ exec (.filterTimer p) s = .next (pinAsserted p u)) ∧
  (∀ (s : State) (p : FilterPin), s.pwr.aonUp = true → (filterOf p s).level = decide (p ≠ .storePres) → (filterOf p s).st = .asserted →
    ∃ u, (filterOf p u).st = .idle ∧ OnlyIn [.pwr] s u ∧ exec (.filterTimer p) s = .next (pinReleased p u)) ∧
  (∀ s : State, s.pwr.aonUp = true → s.pwr.odFilter.level = false → s.pwr.odFilter.st = .asserted →
    ∃ t, exec (.filterTimer .pfailOd) s = .next t ∧ t.pwr.odFilter.st = .stuck ∧
      t.raised = s.raised ++ [⟨0x100E, 0x04, [(1, 3)]⟩] ∧ OnlyIn [.pwr, .raised] s t) ∧
  (∀ (s : State) (p : FilterPin), s.pwr.aonUp = true → (filterOf p s).level = decide (p ≠ .storePres) → (filterOf p s).st = .stuck →
    ∃ t, exec (.filterTimer p) s = .next t ∧ (filterOf p t).st = .idle ∧
      t.raised = s.raised ++ [⟨0x100E, 0x04, [(1, pinCode p)]⟩] ∧ OnlyIn [.pwr, .raised] s t) ∧
  (∀ (s : State) (rail : Rail) (mv : Nat), s.pwr.aonUp = true → s.pwr.corePg = true → coreRail rail = true →
    ∃ t, exec (.railFault rail mv) s = .next t ∧ t.pwr.corePg = false ∧ t.pwr.coreEn = true ∧ t.pwr.railReset = true ∧
      (∃ l, t.raised = l ++ [⟨0x1013, 0x04, [(1, railCode rail), (2, mv)]⟩])) ∧
  (∀ (s : State) (rail : Rail) (mv : Nat), s.pwr.aonUp = true → s.pwr.corePg = true → coreRail rail = false →
    exec (.railFault rail mv) s = .next (raise 0x1013 0x04 [(1, railCode rail), (2, mv)] s)) ∧
  (∀ (s : State) (k : Nat) (out : Bool) (temp : Int), s.pwr.corePg = true → k < 9 → s.pwr.tempOut.testBit k ≠ out →
    ∃ t, exec (.tempRange k out temp) s = .next t ∧ t.pwr.tempOut = putBit s.pwr.tempOut k out ∧
      t.raised = s.raised ++ [⟨0x1012, 0x04, [(1, k), (2, twos 16 temp)]⟩] ∧ OnlyIn [.pwr, .raised] s t) ∧
  (∀ s : State, s.pwr.corePg = true → s.spn.mode = .parked → s.pwr.vaultEmpty = true →
    ∃ t, exec .vaultOff s = .next t ∧ t.pwr.vltEn = false ∧ t.pwr.vaultOff = true ∧
      t.raised = s.raised ++ [⟨0x1011, 0x04, [(1, 1)]⟩] ∧ OnlyIn [.pwr, .raised] s t) ∧
  (∀ s : State, s.pwr.corePg = true → s.spn.mode ≠ .dump → (s.spn.mode ≠ .parked ∨ s.pwr.vaultEmpty = false) →
    exec .vaultOff s = .next (raise 0x1011 0x04 [(1, 0)] s))

/-- The Causeway ring (R411 to R418). The model's own choices in it: log 71. -/
def Obligations.RingFrames : Prop :=
  (∀ (s : State) (src hops tag l d h : Nat), s.cwy.unit = .on → s.cwy.dupId = false → src ≠ s.cwy.myId → 2 ≤ hops →
    ∃ t b, b = stampBits s l d h ∧ exec (.rollCall src hops tag l d h true) s = .next t ∧ t.cwy.live = b.1 ∧ t.cwy.dumping = b.2.1 ∧
      t.cwy.headcaps = b.2.2 ∧ t.cwy.headId = src ∧ t.cwy.ringUp = true ∧
      t.out = s.out ++ [.frame ⟨0xFF, src, hops - 1, tag, .rollCall b.1 b.2.1 b.2.2⟩ true] ∧ OnlyIn [.cwy, .raised, .out] s t) ∧
  (∀ (s : State) (hops tag l d h : Nat), s.cwy.unit = .on → s.cwy.dupId = false →
    ∃ t, exec (.rollCall s.cwy.myId hops tag l d h true) s = .next t ∧ t.cwy.live = l ∧ t.cwy.dumping = d ∧ t.cwy.headcaps = h ∧
      t.cwy.history = l :: s.cwy.history.take 1 ∧ t.out = s.out ++ (if l ≠ s.cwy.live ∨ d ≠ s.cwy.dumping then [.msix 11] else []) ∧
      OnlyIn [.cwy, .raised, .out] s t) ∧
  (∀ s : State, s.cwy.unit = .on → s.cwy.dupId = false → s.cwy.isHead = true →
    ∃ b, b = stampBits s 0 0 0 ∧ exec .rollCallTimer s = .next (send (.frame ⟨0xFF, s.cwy.myId, 64, 0, .rollCall b.1 b.2.1 b.2.2⟩ true) s)) ∧
  (∀ (s : State) (src hops tag : Nat), s.cwy.unit = .on → s.cwy.dupId = false → 2 ≤ hops →
    (src < s.cwy.myId → exec (.claim src hops tag true) s = .next (send (.frame ⟨0xFF, src, hops - 1, tag, .claim⟩ true)
      { s with cwy := { s.cwy with claiming := false, lowerSeen := true } })) ∧
    (s.cwy.myId < src → exec (.claim src hops tag true) s = .next (send (.frame ⟨0xFF, src, hops - 1, tag, .claim⟩ true) s))) ∧
  (∀ (s : State) (hops tag : Nat), s.cwy.unit = .on → s.cwy.dupId = false → s.cwy.claiming = true → s.cwy.lowerSeen = false →
    ∃ t, exec (.claim s.cwy.myId hops tag true) s = .next t ∧ t.cwy.isHead = true ∧ t.cwy.headId = s.cwy.myId ∧ t.cwy.electing = false ∧
      t.raised = s.raised ++ [⟨0x0A03, 0x06, [(1, s.cwy.myId)]⟩] ∧ OnlyIn [.cwy, .raised, .out] s t) ∧
  (∀ s : State, s.cwy.unit = .on → s.cwy.dupId = false → s.cwy.headCapable = true → s.cwy.isHead = false →
    ∃ t, t = send (.frame ⟨0xFF, s.cwy.myId, 64, 0, .claim⟩ true)
        { s with cwy := { s.cwy with electing := true, claiming := true, lowerSeen := false } } ∧
      exec .electionTimeout s = .next t ∧ (s.cwy.ringUp = false → exec .ringStartElection s = .next t)) ∧
  (∀ (s : State) (hops tag serial : Nat), s.cwy.unit = .on → s.cwy.dupId = false → serial ≠ serialOf s →
    ∃ t, exec (.join s.cwy.myId hops tag serial true) s = .next t ∧ t.cwy.dupId = true ∧ t.cwy.isHead = false ∧
      t.raised = s.raised ++ [⟨0x0A04, 0x06, [(1, s.cwy.myId), (8, serial)]⟩] ∧ OnlyIn [.cwy, .raised] s t) ∧
  (∀ (s : State) (src hops tag a b : Nat) (l : List Nat), s.cwy.unit = .on → s.cwy.dupId = false → s.cwy.isHead = true →
    s.cwy.electing = false → s.cwy.history = a :: b :: l →
    exec (.witnessQ src s.cwy.myId hops tag (src ^^^ 1) true) s = .next (send (.frame ⟨src, s.cwy.myId, 64, tag, .witnessA (src ^^^ 1)
      (if a.testBit (src ^^^ 1) = false ∧ b.testBit (src ^^^ 1) = false then 1 else 2)⟩ true) s)) ∧
  (∀ s : State, s.cwy.unit = .on → s.cwy.ringUp = true →
    exec .ringDownTimeout s = .next (raise 0x0A01 0x06 [(1, 0)] { s with cwy := { s.cwy with ringUp := false } })) ∧
  (∀ s : State, s.cwy.unit = .on →
    exec .ringRelock s = .next { s with cwy := { s.cwy with relocks := satAdd 16 s.cwy.relocks 1 } }) ∧
  (∀ (s : State) (src hops tag : Nat), s.cwy.unit = .on →
    exec (.claim src hops tag false) s = .next (send (.frame ⟨0xFF, src, hops, tag, .claim⟩ false)
      { s with cwy := { s.cwy with crcErr := satAdd 16 s.cwy.crcErr 1 } })) ∧
  (∀ (s : State) (src dst hops tag target : Nat), s.cwy.unit = .on → dst ≠ 0xFF → dst ≠ s.cwy.myId →
    exec (.witnessQ src dst hops tag target true) s = .next (if hops ≤ 1 then
      { s with cwy := { s.cwy with hopsExpired := satAdd 16 s.cwy.hopsExpired 1 } } else
      send (.frame ⟨dst, src, hops - 1, tag, .witnessQ target⟩ true) s))

/-- The array window (R420, R421; log 47). -/
def Obligations.ArrayWindow : Prop :=
  (∀ (s : State) (path : Path) (addr : Nat), s.pwr.corePg = true → 0x300000 ≤ addr → addr < 0x400000 → addr % 8 = 0 →
    s.cwy.isHead = true → s.cwy.unit = .on → (addr - 0x300000) / 0x4000 ≠ s.cwy.myId →
    s.cwy.live.testBit ((addr - 0x300000) / 0x4000) = true →
    ∃ t m off, m = (addr - 0x300000) / 0x4000 ∧ off = s.cwy.winBase * 0x4000 + (addr - 0x300000) % 0x4000 ∧
      exec (.windowRead path addr 8) s = .next t ∧ t.out = s.out ++ [.frame ⟨m, s.cwy.myId, 64, s.cwy.nextTag, .winRd off⟩ true] ∧
      t.cwy.winAsks = (dropHalf path s).cwy.winAsks ++ [⟨path, m, off, addr, 8, s.cwy.nextTag, false⟩] ∧ t.cwy.nextTag = wrapAdd 16 s.cwy.nextTag 1 ∧
      OnlyIn [.spn, .cwy, .out] s t) ∧
  (∀ (s : State) (path : Path) (addr : Nat), s.pwr.corePg = true → 0x300000 ≤ addr → addr < 0x400000 → addr % 8 = 0 →
    s.cwy.isHead = true → s.cwy.unit = .on → (addr - 0x300000) / 0x4000 ≠ s.cwy.myId →
    s.cwy.live.testBit ((addr - 0x300000) / 0x4000) = false →
    ∃ t, exec (.windowRead path addr 8) s = .next t ∧ t.out = s.out ++ [.abort path] ∧
      t.cwy.winAbort = satAdd 16 s.cwy.winAbort 1 ∧ (t.raised.drop s.raised.length).map Event.id = [0x0A06] ∧
      OnlyIn [.spn, .cwy, .raised, .out] s t) ∧
  (∀ (s : State) (path : Path) (addr value : Nat) (fact : Bool), s.pwr.corePg = true → 0x300000 ≤ addr → addr < 0x400000 →
    addr % 8 = 0 → s.cwy.isHead = true → s.cwy.unit = .on → (addr - 0x300000) / 0x4000 ≠ s.cwy.myId →
    ∃ t, exec (.windowWrite path addr 8 value fact) s = .next t ∧ t.out = s.out ++ [.frame ⟨(addr - 0x300000) / 0x4000, s.cwy.myId, 64,
        s.cwy.nextTag, .winWr ((s.cwy.winBase * 0x4000 + (addr - 0x300000) % 0x4000) / 8 * 8) 0xFF (value % 0x10000000000000000)⟩ true] ∧
      OnlyIn [.spn, .cwy, .out] s t) ∧
  (∀ (s : State) (path : Path) (addr value : Nat) (fact : Bool), s.pwr.corePg = true → 0x300000 ≤ addr → addr < 0x400000 →
    addr % 8 = 0 → s.cwy.isHead = false →
    exec (.windowWrite path addr 8 value fact) s = .next (dropHalf path s) ∧
    exec (.windowRead path addr 8) s = .next (send (.readData path 0) (dropHalf path s))) ∧
  (∀ (s : State) (src hops tag off : Nat), s.cwy.unit = .on → s.cwy.dupId = false →
    (0x200000 ≤ off ∨ hasWo (off / 8 * 8) = true → exec (.winRd src s.cwy.myId hops tag off true) s =
      .next (send (.frame ⟨src, s.cwy.myId, 64, tag, .winRdA 1 0⟩ true) s)) ∧
    (off < 0x200000 → hasWo (off / 8 * 8) = false → off % 8 = 0 → exec (.winRd src s.cwy.myId hops tag off true) s =
      .next (frameSend src tag (.winRdA 0 (regRead .array off 8 s).1) (regRead .array off 8 s).2))) ∧
  (∀ (s : State) (src hops tag data : Nat) (a : WinAsk), s.cwy.unit = .on → s.cwy.dupId = false → s.cwy.winAsks = [a] → a.tag = tag →
    a.member = src → a.width = 8 → a.latch = false →
    exec (.winRdA src s.cwy.myId hops tag 0 data true) s =
      .next (send (.readData a.path (data % 2 ^ 64)) { s with cwy := { s.cwy with winAsks := [] } })) ∧
  (∀ (s : State) (src hops tag data : Nat) (a : WinAsk), s.cwy.unit = .on → s.cwy.dupId = false → s.cwy.winAsks = [a] → a.tag = tag →
    a.member = src →
    ∃ t, t = raise 0x0A06 0x06 [(1, src), (4, a.off)] (send (.abort a.path)
        { s with cwy := { s.cwy with winAsks := [], winAbort := satAdd 16 s.cwy.winAbort 1 } }) ∧
      exec (.winRdA src s.cwy.myId hops tag 1 data true) s = .next t ∧ exec (.windowReadTimeout tag) s = .next t) ∧
  (∀ (s : State) (src hops tag off be data : Nat) (fact : Bool), s.cwy.unit = .on → s.cwy.dupId = false → s.spn.mode ≠ .dump →
    (0x200000 ≤ off ∨ s.cwy.remoteWrEn = false ∨ (0x70000 ≤ off ∧ off < 0x80000)) →
    ∃ t, exec (.winWr src s.cwy.myId hops tag off be data fact true) s = .next t ∧ t.cwy.winAbort = satAdd 16 s.cwy.winAbort 1 ∧
      t.raised = s.raised ++ [⟨0x0A06, 0x06, [(1, s.cwy.myId), (4, off)]⟩] ∧ OnlyIn [.cwy, .raised] s t) ∧
  (∀ (s : State) (src hops tag off be data : Nat) (fact : Bool), s.cwy.unit = .on → s.cwy.dupId = false → s.spn.mode ≠ .dump →
    off < 0x200000 → s.cwy.remoteWrEn = true → (off < 0x70000 ∨ 0x80000 ≤ off) → hasWo (off / 8 * 8) = false →
    exec (.winWr src s.cwy.myId hops tag off be data fact true) s =
      .next (regWrite ⟨.array, enabledBits be, data⟩ (off / 8 * 8) fact (dropHalf .array s)))

/-- The array's commands and the MCTP bridge (R129, R422 to R425; log 45). The model's own choices in it: log 45, 105. -/
def Obligations.ArrayCommandsAndBridge : Prop :=
  (∀ (s : State) (via : Via) (mask sub : Nat) (c : Instr), VendorServes via runningModes true true s → s.cwy.isHead = true →
    (c = .arrayStatus via mask ∧ sub = 1 ∨ c = .arrayBarrier via mask ∧ sub = 2) → addressed s mask ≠ [] →
    ∃ u, u = send (.mbox via 0xC00D .backgroundStarted 0 []) { s with
        cwy := { s.cwy with array := some ⟨via, sub, addressed s mask, [], [], mask⟩ }
        hlk := { s.hlk with bg := some ⟨via, 0xC00D⟩ } } ∧
      exec c s = .next ((addressed s mask).foldl (fun t m => sendSub sub m t) u)) ∧
  (∀ (s : State) (via : Via) (mask : Nat), VendorServes via runningModes true true s → s.cwy.isHead = true → addressed s mask ≠ [] →
    ∃ u, u = send (.mbox via 0xC00D .backgroundStarted 0 []) { s with
        cwy := { s.cwy with array := some ⟨via, 3, [], [], addressed s mask, mask⟩, updState := 1, failId := 0, updated := 0 }
        hlk := { s.hlk with bg := some ⟨via, 0xC00D⟩ } } ∧
      exec (.rollUpdate via mask) s = .next (updateLoop 64 u)) ∧
  (∀ (s : State) (via : Via), VendorServes via runningModes true true s → s.cwy.isHead = true →
    exec (.arrayUnknownSubopcode via) s = .next (send (.mbox via 0xC00D .invalidInput 0x0002 [])
      (raise 0x0207 0x01 [(2, 0xC00D), (2, 0x0002)] s))) ∧
  (∀ (s : State) (via : Via) (mask : Nat) (c : Instr), VendorServes via runningModes true true s → s.cwy.isHead = false →
    (c = .arrayStatus via mask ∨ c = .arrayBarrier via mask ∨ c = .rollUpdate via mask ∨ c = .arrayUnknownSubopcode via) →
    exec c s = .next (send (.mbox via 0xC00D .unsupported 0x0004 []) (raise 0x0207 0x01 [(2, 0xC00D), (2, 0x0004)] s))) ∧
  (∀ (s : State) (a : ArrayCmd), s.cwy.array = some a → a.sub = 1 → s.hlk.bg = some ⟨a.via, 0xC00D⟩ →
    ∃ t, exec .arrayStatusTimeout s = .next t ∧ t.cwy.array = none ∧ t.hlk.bg = none ∧
      t.raised = s.raised ++ [⟨0x0A08, 0x06, [(2, 1), (8, maskOf (a.answers.map Prod.fst))]⟩] ∧
      t.out = s.out ++ [.mbox a.via 0xC00D .success 0 (arrayOutput a s.cwy.live), .msix 0] ∧ OnlyIn [.cwy, .hlk, .raised, .out] s t) ∧
  (∀ (s : State) (m : Nat) (a : ArrayCmd), s.cwy.array = some a → a.sub = 3 → m ∈ a.waiting →
    ∃ u, u = raise 0x0A09 0x06 [(1, m), (1, 4)] s ∧
      exec (.rollUpdateTimeout m) s = .next (updateLoop 64 (arrayAnswer m 3 4 (statusResult 4 0) u)) ∧
      (arrayAnswer m 3 4 (statusResult 4 0) u).cwy.updState = 3 ∧ (arrayAnswer m 3 4 (statusResult 4 0) u).cwy.failId = m) ∧
  (∀ (s : State) (src hops tag : Nat), s.cwy.unit = .on → s.cwy.dupId = false → src ≠ s.cwy.myId →
    exec (.cmd src s.cwy.myId hops tag 1 [] true) s =
      .next (send (.frame ⟨src, s.cwy.myId, 64, tag, .cmdA 1 0 (statusFields s)⟩ true) s) ∧
    (s.spn.mode = .parked → exec (.cmd src s.cwy.myId hops tag 2 [] true) s =
      .next (send (.frame ⟨src, s.cwy.myId, 64, tag, .cmdA 2 0 [(1, 0), (4, 0), (3, 0)]⟩ true)
        { s with cwy := { s.cwy with barrierFor := none } }))) ∧
  (∀ (s : State) (src hops tag sub status m : Nat) (f : Fields) (a : ArrayCmd), s.cwy.unit = .on → s.cwy.dupId = false →
    s.cwy.array = some a → a.sub = sub → sub ≠ 3 → a.waiting = [src, m] → m ≠ src →
    ∃ t, exec (.cmdA src s.cwy.myId hops tag sub status f true) s = .next t ∧
      t.cwy.array = some { a with waiting := [m], answers := a.answers ++ [(src, status, f)] } ∧ OnlyIn [.cwy] s t) ∧
  (∀ (s : State) (src hops tag off : Nat) (data : List Nat), s.cwy.unit = .on → s.cwy.dupId = false →
    (s.cwy.rollEn = true → s.nrg.quagOk = true → s.spn.mode ≠ .dump →
      exec (.fwData src s.cwy.myId hops tag off data true) s = .next (writeChunk off data s)) ∧
    ((s.cwy.rollEn = false ∨ s.nrg.quagOk = false) → exec (.fwData src s.cwy.myId hops tag off data true) s = .next s)) ∧
  (∀ (s : State) (off : Nat) (data : List Nat), data.length = 8 → off % 4096 ≠ 0 → off % 8 = 0 → off + 8 ≤ 0x200000 →
    ∃ a, a = (compArea .firmware (inactiveSlot s)).1 + off ∧
      tget erasedWord (writeChunk off data s).ifc.words (a / 8) = leValue data % 0x10000000000000000 ∧
      (∀ b, b ≠ a / 8 → tget erasedWord (writeChunk off data s).ifc.words b = tget erasedWord s.ifc.words b) ∧
      OnlyIn [.ifc] s (writeChunk off data s)) ∧
  (∀ (s : State) (src dst hops tag : Nat) (packet : List Nat), s.cwy.unit = .on →
    (s.cwy.isHead = true → packet.getD 1 0 = s.cwy.eidBase + s.cwy.myId → s.cwy.myId < 64 →
      exec (.mctpFrame true src dst hops tag packet true) s = .next (send (.mctpOut packet) s)) ∧
    (∀ m, s.cwy.isHead = true → packet.getD 1 0 = s.cwy.eidBase + m → m < 64 → m ≠ s.cwy.myId → s.cwy.live.testBit m = true →
      exec (.mctpFrame true src dst hops tag packet true) s = .next (send (.frame ⟨m, s.cwy.myId, 64, s.cwy.nextTag, .mctp packet⟩ true)
        { s with cwy := { s.cwy with nextTag := (s.cwy.nextTag + 1) % 65536 } })) ∧
    (s.cwy.dupId = false → exec (.mctpFrame false src s.cwy.myId hops tag packet true) s = .next (send (.mctpOut packet) s)))

/-- The SPDM responder (R540, R550 to R553; codes log 9). The model's own choices in it: log 9, 72. -/
def Obligations.SpdmRequestsAnswered : Prop :=
  (∀ (s : State) (t : Transport), s.pwr.corePg = true → (s.sig.recoverySvc = false ∨ s.sig.stage ≠ 0) →
    exec (.getVersion t) s = .next (send (.spdm t 0x04 [(1, 2), (2, 0x1100), (2, 0x1200)]) (setConn t { versioned := true } (countSpdm t s))) ∧
    exec (.getCapabilities t) s = .next (send (.spdm t 0x61 [(1, 13), (4, 0x16)])
      (setConn t { connOf t s with capable := true } (countSpdm t s))) ∧
    exec (.negotiateAlgorithms t true true) s = .next (send (.spdm t 0x63 [(4, 0x80), (4, 0x02)])
      (setConn t { connOf t s with negotiated := true } (countSpdm t s))) ∧
    (∀ a b, a = false ∨ b = false → exec (.negotiateAlgorithms t a b) s = .next (spdmRefuse t 0x01 (countSpdm t s))) ∧
    (s.sig.certValid = true → exec (.getDigests t) s =
      .next (useFree (send (.spdm t 0x01 [(1, 1), (48, leValue (sha384 (certChain s)))]) (countSpdm t s))) ∧
      ∀ off len, exec (.getCertificate t 0 off len) s = .next (useFree (send (.spdm t 0x02
        [(2, (((certChain s).drop off).take len).length), ((((certChain s).drop off).take len).length,
          leValue (((certChain s).drop off).take len))]) (countSpdm t s)))) ∧
    (∀ slot off len nonce, slot ≠ 0 → exec (.getCertificate t slot off len) s = .next (spdmRefuse t 0x07 (countSpdm t s)) ∧
      exec (.challenge t slot nonce) s = .next (spdmRefuse t 0x07 (countSpdm t s))) ∧
    (∀ nonce, exec (.challenge t 0 nonce) s = .next (send (.spdm t 0x03 [(32, nonce), (96, Config.observed s.free)])
      (useFree (signOnce (countSpdm t s))))) ∧
    (∀ nonce, exec (.getMeasurements t 0 nonce false) s = .next (send (.spdm t 0x60 [(1, 16)]) (countSpdm t s)) ∧
      exec (.getMeasurements t 0xFF nonce false) s = .next (send (.spdm t 0x60
        (((List.range 16).map (· + 1)).flatMap (fun i => (1, i) :: measBlock s i))) (countSpdm t s)) ∧
      (∀ i, 1 ≤ i → i ≤ 16 → exec (.getMeasurements t i nonce false) s =
        .next (send (.spdm t 0x60 ((1, i) :: measBlock s i)) (countSpdm t s))) ∧
      (∀ i b, 16 < i → i ≠ 0xFF → exec (.getMeasurements t i nonce b) s = .next (spdmRefuse t 0x01 (countSpdm t s)))) ∧
    exec (.respondIfReady t) s = .next (send (.spdm t 0x7F [(1, Config.observed s.free % 256)]) (useFree (countSpdm t s))) ∧
    exec (.spdmUnsupported t) s = .next (spdmRefuse t 0x07 (countSpdm t s))) ∧
  (∀ (s : State) (t : Transport), s.pwr.corePg = true → s.sig.recoverySvc = true → s.sig.stage = 0 →
    exec (.getVersion t) s = .next (spdmRefuse t 0x05 (countSpdm t s)) ∧ exec (.getDigests t) s = .next (spdmRefuse t 0x05 (countSpdm t s))) ∧
  (∀ (s : State) (t : Transport) (code : Nat), ∃ u, u = spdmRefuse t code s ∧ u.sig.errors = satAdd 16 s.sig.errors 1 ∧
    u.out = s.out ++ [.spdmError t code] ∧ u.raised = s.raised ++ [⟨0x0F08, 0x0B, [(1, transportCode t), (1, code)]⟩] ∧
    OnlyIn [.sig, .out, .raised] s u) ∧
  (∀ (s : State) (t : Transport), t ≠ .doe → connOf .doe (setConn t {} s) = connOf .doe s) ∧
  (∀ s : State, exec .doeAbort s = .next { s with sig := { s.sig with connDoe := {} } })

/-- Signets, stages and anti-rollback (R541, R542, R544, R546, R548, R549). The model's own choices in it: log 139. -/
def Obligations.SignetsStagesAndCommit : Prop :=
  (∀ (s : State) (reg : Nat), s.sig.signets.length = 8 → stageWrites s.sig.stage (reg % 8) = true →
    ∃ t, exec (.extend .firmware reg) s = .next t ∧
      signetOf t (reg % 8) = ⟨sha384Digest (digestBytes (signetOf s (reg % 8)).value ++ extValue s), wrapAdd 32 (signetOf s (reg % 8)).count 1⟩ ∧
      (∀ i, i ≠ reg % 8 → signetOf t i = signetOf s i) ∧ t.sig.stage = s.sig.stage ∧ t.sig.extRefused = s.sig.extRefused ∧
      (t.raised.drop s.raised.length).map Event.id = [if reg % 8 = 7 then 0x0F07 else 0x0F02] ∧ OnlyIn [.sig, .spn, .cwy, .raised] s t) ∧
  (∀ (s : State) (path : Path) (reg : Nat), (path ≠ .firmware ∨ stageWrites s.sig.stage (reg % 8) = false) →
    exec (.extend path reg) s = .next (dropHalf path { s with sig := { s.sig with
      extReg := reg % 8, extRefused := satAdd 8 s.sig.extRefused 1 } })) ∧
  (∀ (s : State) (certOk : Bool), s.sig.stage = 0 →
    ∃ t, exec (.advance .firmware certOk) s = .next t ∧ t.sig = { s.sig with
        stage := 1, devidSealed := true, devidKey := none, certValid := certOk, identKey := some (identityKey s)
        identCert := some ⟨ecPublic (identityKey s), bogRaw s 0, s.sig.digests.getD 2 0, arbLoader s, ecPublic (deviceKey s)⟩ } ∧
      t.raised = s.raised ++ (if certOk then [] else [⟨0x0F09, 0x0B, []⟩]) ∧ OnlyIn [.sig, .spn, .cwy, .raised] s t) ∧
  (∀ (s : State) (certOk : Bool), s.sig.stage = 1 →
    exec (.advance .firmware certOk) s = .next (dropHalf .firmware { s with sig := { s.sig with stage := 2 } })) ∧
  (∀ (s : State) (path : Path) (certOk : Bool), (path ≠ .firmware ∨ 2 ≤ s.sig.stage) →
    exec (.advance path certOk) s = .next (dropHalf path s)) ∧
  (∀ (s : State) (path : Path) (reg : Nat) (certOk : Bool) (c : Instr), c = .extend path reg ∨ c = .advance path certOk ∨ c = .commit path →
    ∃ t, exec c s = .next t ∧ (s.sig.stage ≤ 2 → s.sig.stage ≤ t.sig.stage ∧ t.sig.stage ≤ 2)) ∧
  (∀ (s : State) (path : Path), path ≠ .firmware → path ≠ .array → s.spn.mode = .service → s.nrg.quagOk = true →
    ∃ t, exec (.commit path) s = .next t ∧
      (∀ w, bogRaw t w = bogRaw s w ||| (if 12 ≤ w ∧ w < 15 ∧ arbLoader s < s.sig.ldrArb then 2 ^ s.sig.ldrArb - 1
        else if 15 ≤ w ∧ w < 18 ∧ arbFirmware s < s.sig.fwArb then 2 ^ s.sig.fwArb - 1
        else if 18 ≤ w ∧ w < 21 ∧ arbImage s < s.sig.imgArb then 2 ^ s.sig.imgArb - 1 else 0)) ∧
      t.sig.commitRefused = false ∧ t.raised.drop s.raised.length =
        (if arbLoader s < s.sig.ldrArb then [⟨0x0D08, 0x0A, [(1, 12)]⟩] else []) ++
        (if arbFirmware s < s.sig.fwArb then [⟨0x0D08, 0x0A, [(1, 15)]⟩] else []) ++
        (if arbImage s < s.sig.imgArb then [⟨0x0D08, 0x0A, [(1, 18)]⟩] else []) ++
        [⟨0x0F04, 0x0B, [(1, arbLoader t), (1, arbFirmware t), (1, arbImage t)]⟩] ∧ OnlyIn [.sig, .bog, .spn, .cwy, .raised] s t) ∧
  (∀ (s : State) (path : Path), path ≠ .firmware → path ≠ .array → (s.spn.mode ≠ .service ∨ s.nrg.quagOk = false) →
    ∃ t, exec (.commit path) s = .next t ∧ t.sig.commitRefused = true ∧ t.ifc = s.ifc ∧
      (t.raised.drop s.raised.length).map Event.id = [0x0F04] ∧ OnlyIn [.sig, .spn, .cwy, .raised] s t)

/-- R521: the four cases of an arriving event, and the overflow count that the next record written carries. -/
def Obligations.ArrivingEventFirstCase : Prop :=
  (∀ (s : State) (e : Event) (r : List Event), s.raised = e :: r → (∃ q ∈ s.evr.queue, q.id = e.id ∧ q.rep < 65535) →
    ∃ a q b, s.evr.queue = a ++ q :: b ∧ q.id = e.id ∧ q.rep < 65535 ∧ (∀ x ∈ a, ¬ (x.id = e.id ∧ x.rep < 65535)) ∧
      exec .eventReport s = .next { s with raised := r, evr := { s.evr with
        queue := a ++ { q with rep := q.rep + 1, lastSec := s.evr.opSec } :: b } }) ∧
  (∀ (s : State) (e : Event) (r : List Event) (f : FoldEntry), s.raised = e :: r →
    (∀ q ∈ s.evr.queue, q.id = e.id → 65535 ≤ q.rep) → s.evr.folds = [f] → f.id = e.id → f.count < 65535 →
    ∃ t g, g = { f with count := f.count + 1, lastSec := s.evr.opSec, first := if f.first.isSome then f.first else some (bareRecord e s) } ∧
      exec .eventReport s = .next t ∧
      (f.count + 1 < 65535 → t = { s with raised := r, evr := { s.evr with folds := [g] } }) ∧
      (f.count + 1 = 65535 → t = evrKick (closeFold g { s with raised := r }))) ∧
  (∀ (s : State) (e : Event) (r : List Event), s.raised = e :: r → (∀ q ∈ s.evr.queue, q.id = e.id → 65535 ≤ q.rep) →
    (∀ f ∈ s.evr.folds, f.id = e.id → 65535 ≤ f.count) → s.evr.queue.length < 32 →
    ∃ b u, b.id = e.id ∧ b.detail = e.detail ∧ b.rep = 1 ∧ b.seq = s.evr.nextSeq ∧ u.evr.queue = s.evr.queue ++ [b] ∧
      u.evr.nextSeq = s.evr.nextSeq + 1 ∧ OnlyIn [.evr, .raised] s u ∧ exec .eventReport s = .next (evrKick u)) ∧
  (∀ (s : State) (e : Event) (r : List Event), s.raised = e :: r → (∀ q ∈ s.evr.queue, q.id = e.id → 65535 ≤ q.rep) →
    (∀ f ∈ s.evr.folds, f.id = e.id → 65535 ≤ f.count) → 32 ≤ s.evr.queue.length →
    exec .eventReport s = .next { s with
      raised := r
      aos := { s.aos with overflow := satAdd 16 s.evr.overflow 1 }
      evr := { s.evr with overflow := satAdd 16 s.evr.overflow 1, dropped := satAdd 16 s.evr.dropped 1 } }) ∧
  (∀ (s : State) (r : SedgeRec) (l : List SedgeRec), s.evr.memOnly = false → s.evr.queue = r :: l → s.evr.writing = none →
    s.nrg.quagOk = true → agentBusy .sedge s = false → slotErased s s.evr.wslot = true → s.evr.retired.testBit (s.evr.wslot / 16) = false →
    s.evr.folds.length < 16 →
    (evrKick s).evr.writing = some { r with overflow := s.evr.overflow } ∧ (evrKick s).evr.queue = l ∧ (evrKick s).evr.overflow = 0)

/-- R490: who writes the flash window, and who reads it. -/
def Obligations.FlashWindowWriters : Prop :=
  (∀ (s : State) (path : Path) (c : Instr) (off data bank : Nat), path ≠ .firmware →
    (c = .programWord path off data ∨ c = .eraseSector path off ∨ c = .readEraseCounter path bank ∨ c = .statusAndIdentity path bank ∨
      c = .enterBogOakRow path bank ∨ c = .returnToRead path bank) →
    exec c s = .next (dropHalf path (raise 0x0D07 0x0A [] { s with ifc := { s.ifc with refused := satAdd 16 s.ifc.refused 1 } }))) ∧
  (∀ (s : State) (path : Path) (off width value : Nat) (fact : Bool), path ≠ .firmware → s.pwr.corePg = true → off < 0x800000 →
    (width = 4 ∨ width = 8) → off % width = 0 →
    ∃ t, exec (.registerWrite path (0x800000 + off) width value fact) s = .next t ∧
      t.ifc = { s.ifc with refused := satAdd 16 s.ifc.refused 1 } ∧ t.raised = s.raised ++ [⟨0x0D07, 0x0A, []⟩] ∧
      t.out = s.out ∧ OnlyIn [.ifc, .raised, .spn, .cwy] s t) ∧
  (∀ (s : State) (value : Nat) (fact : Bool), s.pwr.corePg = true → s.ifc.bank0.seqStep = 0 → value % 256 = 0x6C →
    ∃ t, exec (.registerWrite .firmware 0x805558 8 value fact) s = .next t ∧ t.ifc.bank0.seqStep = 1 ∧ t.ifc.refused = s.ifc.refused ∧
      t.raised = s.raised) ∧
  (∀ (s : State) (path : Path) (off : Nat), off % 8 = 0 → off < 0x800000 → (bankOf s (off / 0x400000)).busy = false →
    ∃ t, exec (.flashWindowRead path off 8 0) s = .next t ∧ t.out = s.out ++ [.readData path (windowWord off s)] ∧
      t.raised = s.raised)

/-- Internal-flash operations (R215, R489 to R496, R501, R503). The model's own choices in it: log 34, 64, 65, 66, 134. -/
def Obligations.FlashOperations : Prop :=
  (∀ (s : State) (off data : Nat), off % 8 = 0 → off < 0x800000 → firmwareBlocked (off / 0x400000) s = false →
    (bankOf s (off / 0x400000)).mode ≠ .row → programLocked off (data % 2 ^ 64) s = false →
    (s.nrg.quagOk = true → arrayWord off s = erasedWord → exec (.programWord .firmware off data) s =
      .next (dropHalf .firmware (startFirmwareOp (off / 0x400000) 1 off (.program off (data % 2 ^ 64)) s))) ∧
    (s.nrg.quagOk = true → arrayWord off s ≠ erasedWord →
      exec (.programWord .firmware off data) s = .next (dropHalf .firmware (flashRefuse (off / 0x400000) .notErased off s))) ∧
    (s.nrg.quagOk = false →
      exec (.programWord .firmware off data) s = .next (dropHalf .firmware (flashRefuse (off / 0x400000) .quag off s)))) ∧
  (∀ (s : State) (off : Nat), off % 8 = 0 → off < 0x800000 → firmwareBlocked (off / 0x400000) s = false →
    eraseLocked (sectorOf off) s = false → s.nrg.quagOk = true →
    exec (.eraseSector .firmware off) s = .next (dropHalf .firmware
      (if hasOpenStart (off / 0x400000) (sectorOf off % 1024) s = true then
        startFirmwareOp (off / 0x400000) 2 off (.erase (sectorOf off)) s else flashRefuse (off / 0x400000) .unjournalled off s))) ∧
  (∀ (s : State) (off data : Nat), off % 8 = 0 → off < 0x800000 → firmwareBlocked (off / 0x400000) s = true →
    exec (.programWord .firmware off data) s = .next (dropHalf .firmware (flashRefuse (off / 0x400000) .busy off s)) ∧
    exec (.eraseSector .firmware off) s = .next (dropHalf .firmware (flashRefuse (off / 0x400000) .busy off s))) ∧
  (∀ (s : State) (b op off : Nat) (o : FlashOp), b < 2 → (bankOf (startFirmwareOp b op off o s) b).busy = true ∧
    (bankOf (startFirmwareOp b op off o s) b).running = some o ∧ OnlyIn [.ifc] s (startFirmwareOp b op off o s)) ∧
  (∀ (s : State) (b off : Nat) (r : FlashResult), b < 2 → (bankOf (flashRefuse b r off s) b).result = r ∧
    (flashRefuse b r off s).ifc.refused = satAdd 16 s.ifc.refused 1 ∧ (flashRefuse b r off s).ifc.words = s.ifc.words ∧
    OnlyIn [.ifc] s (flashRefuse b r off s)) ∧
  (∀ (s : State) (bank : Nat), firmwareBlocked (bank % 2) s = false →
    (∃ t, exec (.readEraseCounter .firmware bank) s = .next t ∧ (bankOf t (bank % 2)).mode = .counter) ∧
    (∃ t, exec (.statusAndIdentity .firmware bank) s = .next t ∧ (bankOf t (bank % 2)).mode = .status) ∧
    (bank % 2 = 0 → ∃ t, exec (.enterBogOakRow .firmware bank) s = .next t ∧ t.ifc.bank0.mode = .row)) ∧
  (∀ (s : State) (bank : Nat), (bank % 2 = 1 → ∃ t, exec (.enterBogOakRow .firmware bank) s = .next t ∧ t.ifc.bank1.seqErr = true ∧
      t.raised = s.raised ++ [⟨0x0D07, 0x0A, []⟩]) ∧
    ∃ t, exec (.returnToRead .firmware bank) s = .next t ∧ (bankOf t (bank % 2)).mode = .read ∧
      (bankOf t (bank % 2)).seqErr = false ∧ (bankOf t (bank % 2)).seqStep = 0) ∧
  (∀ (s : State) (bank : Nat), (bankOf s (bank % 2)).seqStep ≠ 0 →
    ∃ t, exec (.sequenceTimeout bank) s = .next t ∧ (bankOf t (bank % 2)).seqErr = true ∧ (bankOf t (bank % 2)).mode = .read ∧
      (bankOf t (bank % 2)).seqStep = 0 ∧ t.ifc.words = s.ifc.words ∧ t.raised = s.raised ++ [⟨0x0D07, 0x0A, []⟩] ∧
      OnlyIn [.ifc, .raised] s t) ∧
  (∀ (s : State) (bank off data pulses : Nat) (rb : Bool), (bankOf s (bank % 2)).running = some (.program off data) →
    s.pwr.downPending = false → s.ifc.waiting = [] →
    (∃ t, exec (.flashOpComplete bank true rb pulses) s = .next t ∧ tget erasedWord t.ifc.words (off / 8) = data ∧
      (∀ a, a ≠ off / 8 → tget erasedWord t.ifc.words a = tget erasedWord s.ifc.words a) ∧ (bankOf t (bank % 2)).busy = false ∧
      (bankOf t (bank % 2)).result = .ok ∧ OnlyIn [.ifc] s t) ∧
    ∃ t, exec (.flashOpComplete bank false rb pulses) s = .next t ∧ t.ifc.words = s.ifc.words ∧ (bankOf t (bank % 2)).busy = false ∧
      (bankOf t (bank % 2)).result = .progFail ∧ t.raised = s.raised ++ [⟨0x0D01, 0x0A, [(3, off), (1, 0)]⟩]) ∧
  (∀ (s : State) (type bank sector aux : Nat), s.nrg.quagOk = true → type % 4 = 1 →
    ∃ t u, t = journalAppend 1 (bank % 2) (sector % 1024) 0 u ∧ u.ifc.journal = s.ifc.journal ∧
      exec (.journalAppend .firmware type bank sector aux true) s =
        .next (dropHalf .firmware { t with ifc := { t.ifc with jFailed := false } })) ∧
  (∀ (s : State) (off data : Nat), s.ifc.bank1.running = none → s.ifc.bank0.running = some (.program off data) →
    s.ifc.bank0.startMode = .boot → s.pwr.downPending = false → s.ifc.waiting = [] →
    ∃ t, exec .brownOut s = .next t ∧ t.ifc.bank0.result = .aborted ∧ t.ifc.bank0.busy = false ∧
      t.raised = s.raised ++ [⟨0x0D05, 0x0A, [(3, off)]⟩]) ∧
  (∀ s : State, quagConditions s = true → ∃ t, exec .pendingWriteback s = .next t ∧ t.nrg.quagOk = true)

/-- The rest of the event log: folding (R522), snapshots (R519), operating time (R524, R525) and the cursors (R533).
The model's own choices in it: log 80, 84, 85, 145. -/
def Obligations.FoldsCountersAndCursors : Prop :=
  (∀ (s : State) (id : Nat), (∀ f ∈ s.evr.folds, f.id ≠ id) → exec (.foldExpiry id) s = .next s) ∧
  (∀ (s : State) (id : Nat) (f : FoldEntry), s.evr.folds.find? (fun x => x.id = id) = some f → f.first = none →
    exec (.foldExpiry id) s = .next (evrKick { s with evr := { s.evr with folds := s.evr.folds.filter (fun x => x.id ≠ f.id) } })) ∧
  (∀ (s : State) (id : Nat) (f : FoldEntry) (r : SedgeRec), s.evr.folds.find? (fun x => x.id = id) = some f → f.first = some r →
    s.evr.queue.length < 32 →
    ∃ b u, b.fold = true ∧ b.rep = f.count ∧ b.lastSec = f.lastSec ∧ b.id = r.id ∧ b.opSec = r.opSec ∧ b.timestamp = r.timestamp ∧
      b.mode = r.mode ∧ b.source = r.source ∧ b.detail = r.detail ∧ b.seq = s.evr.nextSeq ∧
      (∀ a v, (a, v) ∈ b.snaps → addrPowered s a = false → v = 0 ∧ b.snapSkipped = true) ∧
      u.evr.queue = s.evr.queue ++ [b] ∧ u.evr.folds = s.evr.folds.filter (fun x => x.id ≠ f.id) ∧ u.evr.nextSeq = s.evr.nextSeq + 1 ∧
      OnlyIn [.evr] s u ∧ exec (.foldExpiry id) s = .next (evrKick u)) ∧
  (∀ (s : State) (id : Nat) (f : FoldEntry) (r : SedgeRec), s.evr.folds.find? (fun x => x.id = id) = some f → f.first = some r →
    32 ≤ s.evr.queue.length →
    ∃ u, u.evr.overflow = satAdd 16 s.evr.overflow f.count ∧ u.evr.dropped = satAdd 16 s.evr.dropped f.count ∧
      u.aos.overflow = satAdd 16 s.evr.overflow f.count ∧ u.evr.queue = s.evr.queue ∧ OnlyIn [.evr, .aos] s u ∧
      exec (.foldExpiry id) s = .next (evrKick u)) ∧
  (∀ s : State, (s.pwr.poweredDown = true → exec .opSecTick s = .next s) ∧
    (s.pwr.poweredDown = false → exec .opSecTick s = .next { s with
      evr := { s.evr with opSec := (s.evr.opSec + 1) % 0x100000000 }
      aos := { s.aos with opSec := (s.evr.opSec + 1) % 0x100000000 } })) ∧
  (∀ s : State, (s.pwr.poweredDown = true → exec .counterCheckpoint s = .next s) ∧
    (s.pwr.poweredDown = false → exec .counterCheckpoint s = .next { s with
      raised := s.raised ++ [⟨0x0E01, 0x09, [(4, s.evr.opSec), (4, s.evr.powerCycles), (8, s.evr.retired)]⟩] })) ∧
  (∀ (s : State) (p : Path) (q : Nat),
    (∃ t, exec (.cursorLoad p q) s = .next t ∧ cursorOf p t = { cursorOf p s with loading := some (q % 0x10000000000000000), ready := false, next := false } ∧
      (∀ r, r ≠ p → cursorOf r t = cursorOf r s) ∧ OnlyIn [.evr, .spn, .cwy] s t) ∧
    (∃ t, exec (.cursorNext p) s = .next t ∧ cursorOf p t = { cursorOf p s with loading := some ((cursorOf p s).seq + 1), ready := false, next := true } ∧
      (∀ r, r ≠ p → cursorOf r t = cursorOf r s) ∧ OnlyIn [.evr, .spn, .cwy] s t)) ∧
  (∀ (s : State) (p : Path), (cursorOf p s).loading = none →
    ∃ t, exec (.cursorLoadDone p) s = .next t ∧ cursorOf p t = cursorOf p s) ∧
  (∀ (s : State) (p : Path) (q : Nat), (cursorOf p s).loading = some q →
    ∃ t, exec (.cursorLoadDone p) s = .next t ∧ (∀ r, r ≠ p → cursorOf r t = cursorOf r s) ∧ OnlyIn [.evr] s t ∧
      (cursorOf p t).loading = none ∧ (cursorOf p t).ready = true ∧
      ((∀ r ∈ readable s, r.seq < q) → (cursorOf p t).window = none ∧ (cursorOf p t).missing = true) ∧
      (∀ r ∈ readable s, q ≤ r.seq → ∃ w ∈ readable s, (cursorOf p t).window = some w ∧ (cursorOf p t).seq = w.seq ∧
        q ≤ w.seq ∧ w.seq ≤ r.seq ∧ ((cursorOf p t).missing = true ↔ (cursorOf p s).next = false ∧ w.seq ≠ q)))

/-- The input watch (R212 to R215), its commits (R272), and the end of PREFLUSH (R274).
The model's own choices in it: log 81, 82. -/
def Obligations.InputWatch : Prop :=
  (∀ s : State,
    (s.nrg.input = .good → ∃ t, exec .inputBelowPfail s = .next t ∧ t.nrg.input = .qualify ∧ t.nrg.holdupEn = true ∧
      t.nrg.chgEn = false ∧ t.nrg.quagOk = false ∧ OnlyIn [.nrg, .dmp, .ifc, .aos, .cwy, .raised] s t) ∧
    (s.nrg.input = .settle → ∃ t, exec .inputBelowPfail s = .next t ∧ t.nrg = { s.nrg with input := .qualify } ∧
      OnlyIn [.nrg, .cwy, .raised] s t) ∧
    (s.nrg.input = .committed → exec .inputBelowPfail s = .next { s with dmp := { s.dmp with inputGood := false } }) ∧
    (s.nrg.input = .qualify ∨ s.nrg.input = .ride → exec .inputBelowPfail s = .next s)) ∧
  (∀ s : State,
    (s.nrg.input = .qualify → ∃ t, exec .inputAbovePfail s = .next t ∧ t.nrg = { s.nrg with input := .settle } ∧
      OnlyIn [.nrg, .cwy, .raised] s t) ∧
    (s.nrg.input ≠ .qualify → exec .inputAbovePfail s = .next s)) ∧
  (∀ (s : State) (c : Instr), c = .pfailQualified ∧ s.nrg.input = .qualify ∨ c = .settleLimitExpiry ∧ s.nrg.input = .settle →
    ∃ t l, exec c s = .next t ∧ t.nrg = { s.nrg with input := .ride, rideWarn := false } ∧
      t.raised = s.raised ++ ⟨0x0401, 0x03, [(2, s.nrg.vInput), (4, s.nrg.q / 1000)]⟩ :: l ∧ (∀ e ∈ l, e.id = 0x0A07) ∧
      OnlyIn [.nrg, .cwy, .raised] s t) ∧
  (∀ (s : State) (c : Instr), c = .pfailQualified ∧ s.nrg.input ≠ .qualify ∨ c = .settleLimitExpiry ∧ s.nrg.input ≠ .settle ∨
    c = .settleRecovered ∧ s.nrg.input ≠ .settle ∨ c = .rideThroughSurvived ∧ s.nrg.input ≠ .ride ∨
    c = .rideThroughExpiry ∧ s.nrg.input ≠ .ride ∨ c = .earlyCommit ∧ (s.nrg.input ≠ .ride ∨ eNeed s < eUsable s) → exec c s = .next s) ∧
  (∀ (s : State) (c : Instr), c = .settleRecovered ∧ s.nrg.input = .settle ∨ c = .rideThroughSurvived ∧ s.nrg.input = .ride →
    ∃ t e l, exec c s = .next t ∧ t.nrg.input = .good ∧ t.raised = s.raised ++ e :: l ∧
      e.id = (if c = .settleRecovered then 0x0404 else 0x0402) ∧ (∀ e ∈ l, e.id = 0x0A07 ∨ e.id = 0x0414) ∧
      (s.nrg.lstate = .running → t.nrg = { s.nrg with input := .good, reason := .learning }) ∧
      (s.nrg.lstate ≠ .running → s.nrg.reason = .calibration → t.nrg = { s.nrg with input := .good }) ∧
      (s.nrg.lstate ≠ .running → s.nrg.reason ≠ .calibration → t.nrg.holdupEn = false ∧ t.nrg.reason = .none) ∧
      OnlyIn [.nrg, .dmp, .cwy, .raised, .free] s t) ∧
  (∀ (s : State) (m : Mode), s.nrg.input = .ride → s.spn.mode = m →
    (m = .restore ∨ m = .service →
      (∃ t, exec .rideThroughExpiry s = .next t ∧ t = commitDump (if s.nrg.rideWarn then 3 else 1) 0 s ∧ t.spn.mode = .dump) ∧
      (eUsable s ≤ eNeed s → ∃ t, exec .earlyCommit s = .next t ∧
        t = commitDump 2 0 { s with raised := s.raised ++ [⟨0x0403, 0x03, []⟩] } ∧ t.spn.mode = .dump)) ∧
    (m = .boot ∨ m = .test ∨ m = .parked → ∃ u, u.nrg = { s.nrg with input := .committed } ∧ OnlyIn [.nrg, .cwy, .raised] s u ∧
      exec .rideThroughExpiry s = .next (powerOff u)) ∧
    (m = .recovery → ∃ t, exec .rideThroughExpiry s = .next t ∧ t.nrg = { s.nrg with input := .committed } ∧
      OnlyIn [.nrg, .cwy, .raised] s t)) ∧
  (∀ s : State, ∃ t, exec .inputBelowQuag s = .next t ∧ t.nrg = { s.nrg with quagOk := false } ∧ OnlyIn [.nrg, .ifc, .aos, .raised] s t ∧
    (s.nrg.quagOk = false → t = s) ∧
    (s.ifc.waiting = [] → s.aos.gauge = none → t = { s with nrg := { s.nrg with quagOk := false } })) ∧
  (∀ s : State,
    (s.dmp.preflush = true → filterHolds s.pwr.warnFilter = false → filterHolds s.pwr.odFilter = false →
      ∃ t, exec .preflushClear s = .next t ∧ t.dmp = { s.dmp with preflush := false } ∧
        (∃ l, t.raised = s.raised ++ ⟨0x0602, 0x0E, [(1, 2)]⟩ :: l) ∧ OnlyIn [.dmp, .shd, .raised] s t) ∧
    (s.dmp.preflush = false ∨ filterHolds s.pwr.warnFilter = true ∨ filterHolds s.pwr.odFilter = true →
      exec .preflushClear s = .next s))

/-- The gauge's periodic work, its anchors and reports, and parameter writes (R206 to R209, R218 to R222, R236, R237, R242).
The model's own choices in it: log 6, 7, 50, 62, 132, 133. -/
def Obligations.GaugeSamplesAndReports : Prop :=
  (∀ (s : State) (resp : List Nat), cmbGood s resp = true →
    ∃ t l, exec (.cmbPoll resp) s = .next t ∧ t.out = s.out ++ .cmb (cmbRequest (balanceNow s)) :: l ∧ t.nrg.missRun = 0 ∧
      t.nrg.cmbFail = false ∧ t.nrg.cmbChecked = true ∧ t.nrg.cellsSeen = resp.getD 0 0 ∧ t.nrg.moduleId = leAt resp 1 4 ∧
      t.nrg.misses = s.nrg.misses ∧ t.nrg.cellMax = (((pieces 2 20 (resp.drop 5)).map leValue).take (resp.getD 0 0)).foldl max 0 ∧
      t.nrg.cellMin = (((pieces 2 20 (resp.drop 5)).map leValue).take (resp.getD 0 0)).foldl min 0xFFFF) ∧
  (∀ (s : State) (resp : List Nat), cmbGood s resp = false →
    ∃ t, exec (.cmbPoll resp) s = .next t ∧ t.out = s.out ++ [.cmb (cmbRequest (balanceNow s))] ∧
      t.nrg.misses = satAdd 8 s.nrg.misses 1 ∧ t.nrg.missRun = s.nrg.missRun + 1 ∧
      (t.nrg.cmbFail = true ↔ s.nrg.cmbFail = true ∨ 2 ≤ s.nrg.missRun) ∧
      (s.nrg.cmbFail = false → 2 ≤ s.nrg.missRun → ∃ l, t.raised = s.raised ++ ⟨0x0412, 0x03, []⟩ :: l) ∧
      OnlyIn [.nrg, .raised, .out, .free] s t) ∧
  (∀ (s : State) (m : Sample), s.nrg.lstate = .idle ∨ s.nrg.lstate = .accepted ∨ s.nrg.lstate = .disqualified →
    ∃ t, exec (.energyEstimate m none) s = .next t ∧ t.nrg.vStore = m.vStore ∧ t.nrg.vInput = m.vInput ∧ t.nrg.tDiode = m.tDiode ∧
      t.nrg.tNtc0 = m.tNtc0 ∧ t.nrg.tNtc1 = m.tNtc1 ∧ t.nrg.ntc0Out = m.bad0 ∧ t.nrg.ntc1Out = m.bad1 ∧ t.nrg.zeroing = false ∧
      t.nrg.iStore = (if s.nrg.hibernate || s.nrg.zeroing then s.nrg.iStore else m.iStore) ∧
      t.nrg.iInput = (if s.nrg.hibernate then s.nrg.iInput else m.iInput) ∧
      (s.nrg.anchor ≠ .unanchored → s.nrg.holdupEn = false →
        t.nrg.q = min (refreshEstimates (takeSample m s)).nrg.qFull (((s.nrg.q : Int) + chargeStep m s.nrg).toNat)) ∧
      (s.nrg.anchor = .unanchored → s.nrg.holdupEn = false → t.nrg.q = s.nrg.q ∧ t.nrg.anchor = .unanchored) ∧
      t.wrp.inbox = some ⟨eUsable t, param t 7, param t 8, eGibOf t, param t 10, !t.nrg.storePresent, t.nrg.swapDerate,
        t.nrg.lstate = .waitBudget ∨ t.nrg.lstate = .running⟩) ∧
  (∀ s : State, exec .offsetZero s = .next (if s.nrg.hibernate = true then s else { s with nrg := { s.nrg with zeroing := true } })) ∧
  (∀ (s : State) (m : Sample), chargeStep m s.nrg = (if s.nrg.hibernate then 0 else if s.nrg.zeroing then s.nrg.iStore else m.dQ)) ∧
  (∀ s : State, (s.nrg.storePresent = true → s.nrg.cells ≠ 0 → ∃ t, exec .fullAnchor s = .next t ∧
      t.nrg.q = (refreshEstimates s).nrg.qFull ∧ t.nrg.anchor = .full ∧ t.nrg.countDrift = false ∧ ⟨0x0405, 0x03, []⟩ ∈ t.raised) ∧
    (s.nrg.storePresent = false ∨ s.nrg.cells = 0 → exec .fullAnchor s = .next s)) ∧
  (∀ s : State, ∃ t, exec .reportUpdate s = .next t ∧ t.nrg.holdupReserve = holdupReserveOf s ∧ t.nrg.chargeCalc = chargeCalcOf s ∧
    (s.nrg.pctValid = false → t.nrg.chargePct = chargeCalcOf s) ∧
    (s.nrg.pctValid = true → t.nrg.chargePct = s.nrg.chargePct + 1 ∧ s.nrg.chargePct < chargeCalcOf s ∨
      t.nrg.chargePct = s.nrg.chargePct - 1 ∧ chargeCalcOf s < s.nrg.chargePct ∨
      t.nrg.chargePct = s.nrg.chargePct ∧ s.nrg.chargePct = chargeCalcOf s) ∧
    t.out = s.out ++ (if holdupReserveOf s / 100 ≠ s.nrg.holdupReserve / 100 then [.msix 9] else []) ∧ OnlyIn [.nrg, .out] s t) ∧
  (∀ s : State,
    (s.nrg.hibernate = false → s.nrg.holdupEn = false → exec .hibernateEnter s = .next { s with
      nrg := { s.nrg with hibernate := true }
      raised := s.raised ++ [⟨0x040F, 0x03, []⟩] }) ∧
    (s.nrg.hibernate = true ∨ s.nrg.holdupEn = true → exec .hibernateEnter s = .next s) ∧
    (s.nrg.hibernate = true → exec .hibernateWake s = .next { s with
      nrg := { s.nrg with hibernate := false }
      raised := s.raised ++ [⟨0x040F, 0x03, []⟩] }) ∧
    (s.nrg.hibernate = false → exec .hibernateWake s = .next s)) ∧
  (∀ (s : State) (v : Nat) (p : Param), s.nrg.hibernate = false → s.nrg.params.find? (fun p => p.id = s.nrg.paramIdx) = some p →
    (s.nrg.input = .good → s.nrg.holdupEn = false → s.spn.mode ≠ .dump → p.lo ≤ p.hi →
      ∃ t l, exec (.paramWrite v) s = .next t ∧
        t.nrg.params = s.nrg.params.map (fun q => if q.id = p.id then { q with val := max p.lo (min p.hi (v % 0x100000000)) } else q) ∧
        t.raised = s.raised ++ (if v % 0x100000000 < p.lo ∨ p.hi < v % 0x100000000 then [⟨0x1005, 0x03, []⟩] else []) ++ l ∧
        (∀ e ∈ l, e.id = 0x0414) ∧ t.wrp.inbox = some ⟨eUsable t, param t 7, param t 8, eGibOf t, param t 10, !t.nrg.storePresent,
          t.nrg.swapDerate, t.nrg.lstate = .waitBudget ∨ t.nrg.lstate = .running⟩ ∧ OnlyIn [.nrg, .wrp, .raised, .free] s t) ∧
    (s.nrg.input ≠ .good ∨ s.nrg.holdupEn = true ∨ s.spn.mode = .dump →
      exec (.paramWrite v) s = .next { s with raised := s.raised ++ [⟨0x0413, 0x03, []⟩] })) ∧
  (∀ (s : State) (v : Nat), s.nrg.hibernate = false → s.nrg.params.find? (fun p => p.id = s.nrg.paramIdx) = none →
    exec (.paramWrite v) s = .next s)

/-- Learning cycles (R224 to R227). The model's own choices in it: log 61, 62. -/
def Obligations.LearningCycles : Prop :=
  (∀ (s : State) (c : Instr), learning s = false → learnConditions s = true →
    c = .learningAutoStart ∧ learnDue s = true ∧ retryDue s = true ∨ c = .learnCtrlStart →
    ∃ t, exec c s = .next t ∧ t.nrg.lstate = .waitBudget ∧ t.nrg.learnCause = 0 ∧ t.nrg.run = {} ∧ t.nrg.learnGo = false ∧
      t.nrg.eLearn = energyV s.nrg.cUse (param s 4) (param s 2) ∧ OnlyIn [.nrg, .wrp, .aos, .ifc, .evr, .raised] s t) ∧
  (∀ s : State, learning s = false → learnConditions s = false → s.spn.mode = .service →
    ∃ u, u = gaugeWake s ∧ exec .learnCtrlStart s = .next { u with nrg := { u.nrg with
      lstate := .waitFull, learnCause := 0, learnGo := true, run := {} } }) ∧
  (∀ s : State, (learnDue s = false ∨ retryDue s = false ∨ learning s = true ∨ learnConditions s = false → exec .learningAutoStart s = .next s) ∧
    (learning s = true ∨ s.spn.mode ≠ .service → ∃ u, u = gaugeWake s ∧
      exec .learnCtrlStart s = .next { u with nrg := { u.nrg with learnGo := decide (s.nrg.lstate = .waitFull) } }) ∧
    (s.nrg.hibernate = false → gaugeWake s = s) ∧
    (s.nrg.hibernate = true → gaugeWake s = { s with
      nrg := { s.nrg with hibernate := false }
      raised := s.raised ++ [⟨0x040F, 0x03, []⟩] })) ∧
  (∀ (s : State) (c : CurrentStep), s.nrg.lstate = .waitBudget → s.wrp.learning = true → dCount s ≤ s.wrp.b → s.aos.gauge = none →
    agentBusy .energy s = false →
    ∃ t, exec (.learnHoldupStart c) s = .next t ∧ t.nrg.lstate = .running ∧ t.nrg.holdupEn = true ∧ t.nrg.chgEn = false ∧
      t.nrg.quagOk = false ∧ (s.nrg.holdupEn = false → t.nrg.reason = .learning) ∧ t.nrg.run.vStart = s.nrg.vOcv ∧
      t.nrg.run.split = (s.nrg.vOcv + param s 4) / 2 ∧ t.nrg.run.q = 0) ∧
  (∀ (s : State) (c : CurrentStep), s.nrg.lstate ≠ .waitBudget ∨ s.wrp.learning = false ∨ s.wrp.b < dCount s ∨
      s.aos.gauge ≠ none ∨ agentBusy .energy s = true →
    exec (.learnHoldupStart c) s = .next s) ∧
  (∀ (s : State) (c : Instr) (k : Nat), c = .learnCtrlAbort ∧ learning s = true ∧ k = 6 ∨
    c = .learnBudgetTimeout ∧ s.nrg.lstate = .waitBudget ∧ s.wrp.b < dCount s ∧ k = 9 ∨
    c = .learnDurationExpiry ∧ s.nrg.lstate = .running ∧ k = 7 ∨ c = .learnAnchorTimeout ∧ s.nrg.lstate = .waitFull ∧ k = 8 →
    ∃ t, exec c s = .next t ∧ t.nrg.lstate = .disqualified ∧ t.nrg.learnCause = k ∧ t.nrg.eLearn = 0 ∧
      t.nrg.cLearned = s.nrg.cLearned ∧ ⟨0x040A, 0x03, [(1, k)]⟩ ∈ t.raised ∧
      (s.nrg.lstate = .running → s.nrg.input = .good → t.nrg.holdupEn = false) ∧
      (s.nrg.lstate = .running → s.nrg.input ≠ .good → t.nrg.holdupEn = s.nrg.holdupEn ∧ t.nrg.reason = .input) ∧
      (s.nrg.lstate ≠ .running → t.nrg.holdupEn = s.nrg.holdupEn) ∧
      (∀ b, s.hlk.bg = some b → b.opcode = 0xC009 → t.hlk.bg = none)) ∧
  (∀ s : State, (learning s = false → exec .learnCtrlAbort s = .next (gaugeWake s)) ∧
    (s.nrg.lstate ≠ .waitBudget ∨ dCount s ≤ s.wrp.b → exec .learnBudgetTimeout s = .next s) ∧
    (s.nrg.lstate ≠ .running → exec .learnDurationExpiry s = .next s) ∧
    (s.nrg.lstate ≠ .waitFull → exec .learnAnchorTimeout s = .next s))

/-- The Peat stream (R245 to R253), and the end of a service program (R172, R251, R347).
The model's own choices in it: log 57, 63, 131, 138. -/
def Obligations.PeatStream : Prop :=
  (∀ s : State, (serving s = true → exec (.epochTick []) s = .next { s with gst := { s.gst with epoch := (s.gst.epoch + 1) % 65536 } }) ∧
    (∀ bad, serving s = false → exec (.epochTick bad) s = .next s) ∧
    (∀ g, serving s = true → ∃ t, exec (.epochTick [g]) s = .next t ∧ t.gst.epoch = (s.gst.epoch + 1) % 65536 ∧
      t.raised = s.raised ++ [⟨0x050C, quadUnit (quadOf s g) 2, [(1, quadOf s g), (1, 0)]⟩] ∧ OnlyIn [.gst, .raised] s t ∧
      ∀ k x, k < 4 → x = granuleAt s (quadOf s g) (4 * (localOf s g / 4) + k) → x < hdmGranules s → tget 0 t.gst.touch x = t.gst.epoch)) ∧
  (∀ (s : State) (q : Nat) (err : Bool) (bad : List Nat), serving s = false ∨ s.spn.quadEn.testBit q = false ∨
      (streamRuns s = false ∧ engReady s q = false) → exec (.ringExamine q err bad) s = .next s) ∧
  (∀ (s : State) (q g : Nat) (l bad : List Nat), serving s = true → s.spn.quadEn.testBit q = true → q < 4 →
    (streamRuns s = true ∨ engReady s q = true) → ringFirst s q = none → ringOf s q = g :: l →
    (isDirty s g = false → ∃ u, exec (.ringExamine q false bad) s = .next (streamFollow s u) ∧ ringOf u q = l.filter (· ≠ g) ∧
      OnlyIn [.shd] s u) ∧
    (isDirty s g = true → settled s g = false → ∃ u, exec (.ringExamine q false bad) s = .next (streamFollow s u) ∧
      ringOf u q = l.filter (· ≠ g) ++ [g] ∧ OnlyIn [.shd] s u) ∧
    (isDirty s g = true → settled s g = true → (readyNow s g = false ∨ streamRuns s = false) →
      exec (.ringExamine q false bad) s = .next (streamFollow s s)) ∧
    (∀ r, readyNow s g = true → streamRuns s = true → memReady s q = true → engReady s q = true → canCapture s g = true →
      (stageTake (quadOf s g) s).1.isSome = true → quadOf s g = q → regionOf s g = some r → encrypted s r = false → g < hdmGranules s →
      (∀ e ∈ (qdcOf s (quadOf s g)).planted, granuleOf e.1 ≠ g) →
      ∃ u, exec (.ringExamine q false []) s = .next (streamFollow s u) ∧ gstate u g = .inflight ∧
        u.gst.rsv = s.gst.rsv ∧ (∀ x, x ≠ g → gword u x = gword s x))) ∧
  (∀ (s : State) (q : Nat) (bad : List Nat), serving s = true → s.spn.quadEn.testBit q = true → q < 4 →
    (streamRuns s = true ∨ engReady s q = true) →
    (ringFirst s q = none → ringOf s q = [] → exec (.ringExamine q false bad) s =
      .next (streamFollow s (if streamRuns s = true then ownershipCopy q s else s))) ∧
    (∃ u, u = rebuildRing q s ∧ u.raised = s.raised ++ [⟨0x050C, quadUnit q 2, [(1, q), (1, 1)]⟩] ∧
      ringOf u q = (dirtyGranules s).filter (fun g => quadOf s g == q && !walked s g) ∧ OnlyIn [.shd, .raised] s u ∧
      exec (.ringExamine q true bad) s = .next (streamFollow s (match ringFirst u q with
        | some g => examine q g bad u
        | none => match (ringOf u q).head? with
          | some g => examine q g bad u
          | none => if streamRuns u = true then ownershipCopy q u else u)))) ∧
  (∀ (s : State) (r : Nat), (streamRuns s = false ∨ 256 ≤ r ∨ (region s r).entry.sequential = false ∨ defined s r = false ∨
      serves s r = false → exec (.sequentialWalk r) s = .next s) ∧
    (streamRuns s = true → r < 256 → (region s r).entry.sequential = true → defined s r = true → serves s r = true →
      ∃ u l k, u = refreshShadowPtr r s ∧ OnlyIn [.wrp] s u ∧
        l = (regionGranules u r (fun w => w.st = .dirty || w.st = .redirty)).filter (fun g =>
          decide (firstGranule u r + (region u r).shadowPtr ≤ g) &&
          decide (g < firstGranule u r + min (region u r).writePtr ((region u r).shadowPtr + 4096)) && readyNow u g) ∧
        k = ((quadList u).flatMap (ringOf u)).filter (fun g => (topGranule u g || inRegion u r g) && readyNow u g) ∧
        exec (.sequentialWalk r) s = .next (streamFollow s ((captureOrder u (k ++ l).eraseDups).foldl (fun t g =>
          if readyNow t g = true then captureReady g [] t else t) u)))) ∧
  (∀ (s : State) (die : Nat), (s.spn.mode = .dump → exec (.rowCloseTimeout die) s = .next s) ∧
    (s.spn.mode ≠ .dump → ∃ t, exec (.rowCloseTimeout die) s = .next t ∧ t.shd.rows.length = s.shd.rows.length ∧
      (∀ r ∈ t.shd.rows, r.die = die → r.closed = true) ∧ (∀ r ∈ s.shd.rows, r.die ≠ die → r ∈ t.shd.rows) ∧
      OnlyIn [.shd, .raised] s t)) ∧
  (∀ (s : State) (vpa : Nat) (ok : Bool), s.shd.twins.find? (fun t => t.left.contains vpa) = none →
    s.shd.rows.find? (fun r => r.seg = vpaSeg vpa && r.row = vpaRow s vpa) = none → s.vlt.ckptRunning = none → s.spn.mode ≠ .dump →
    exec (.programComplete vpa ok) s = .next (settleFor [] (cmdFollow s (ownCopiesFollow (eraseReady s))))) ∧
  (∀ (s : State) (vpa g m reg j : Nat) (x : Sealed) (r : Row) (c : Col), s.spn.mode ≠ .dump →
    s.shd.twins.find? (fun t => t.left.contains vpa) = none →
    s.shd.rows.find? (fun r => r.seg = vpaSeg vpa && r.row = vpaRow s vpa) = some r → r.parityPassed = some true →
    j = (vchOf s (vpaCh vpa)).column → r.cols.find? (fun c => c.col = j && c.passed.isNone) = some c →
    c.what = .granule g reg m x → gstate s g = .inflight → g < hdmGranules s →
    ((∀ w ∈ s.hlk.writes, granuleOf w.line ≠ g) →
      ∃ u f, exec (.programComplete vpa true) s = .next (settleFor f (cmdFollow s (ownCopiesFollow (eraseReady u)))) ∧
      gstate u g = .shadowed ∧ u.gst.rsv = sdel s.gst.rsv g ∧ mapOf u g = ⟨1, vpa, x.stale, !x.poison.isEmpty, false⟩) ∧
    (lineComing s g = true → ∃ u f, exec (.programComplete vpa true) s = .next (settleFor f (cmdFollow s (ownCopiesFollow (eraseReady u)))) ∧
      gstate u g = .redirty ∧ u.gst.rsv = s.gst.rsv ∧ mapOf u g = ⟨1, vpa, x.stale, !x.poison.isEmpty, false⟩) ∧
    (∃ u f, exec (.programComplete vpa false) s = .next (settleFor f (cmdFollow s (ownCopiesFollow (eraseReady u)))) ∧
      gstate u g = .dirty ∧ u.gst.rsv = s.gst.rsv ∧ u.vlt.map = s.vlt.map))

/-- The budget rule (R186 to R188, R199), the token bucket and the life conditions (R257, R261), and the log (R357, R359).
The model's own choices in it: log 7, 56, 58, 60, 148. -/
def Obligations.BudgetTokensAndLog : Prop :=
  (∀ (forced absent : Bool) (cap e res fix gib : Nat),
    (forced = true ∨ absent = true ∨ cap = 0 ∨ (e : Int) * (100 - res) / 100 - fix ≤ 0 → rawBudget forced absent cap e res fix gib = 0) ∧
    (forced = false → absent = false → cap ≠ 0 → 0 < (e : Int) * (100 - res) / 100 - fix →
      rawBudget forced absent cap e res fix gib = min cap (((e : Int) * (100 - res) / 100 - fix).toNat * 65536 / gib))) ∧
  (∀ (s : State) (raw cause : Nat), ∃ u, u.wrp.bRaw = raw ∧ u.wrp.zeroCause = cause ∧ u.wrp.valid = true ∧ u.wrp.zeroSec = s.wrp.zeroSec ∧
    u.wrp.b = (s.wrp.rawHist.foldl min raw) ∧ u.wrp.rawHist = (match s.wrp.rawHist with | [] => [raw] | x :: r => min x raw :: r) ∧
    u.raised = s.raised ++ (if (s.wrp.b = 0 ↔ u.wrp.b = 0) then [] else [⟨0x0308, 0x02, [(1, cause)]⟩]) ∧ OnlyIn [.wrp, .raised] s u ∧
    takeRaw raw cause s = lackStart s (settle (refreshEff (shareFell { u with wrp := { u.wrp with b := s.wrp.b }, raised := s.raised }
      (refreshLeases (refreshConditions (decide (u.wrp.b < s.wrp.b)) u)))))) ∧
  (∀ s : State, (s.wrp.inbox = none → exec .inputSet s = .next s) ∧
    (∀ i, s.wrp.inbox = some i → ∃ raw u, raw = rawBudget s.wrp.forceZero i.storeAbsent i.cap i.eUsable i.reserve i.eFixed i.eGib ∧
      u.wrp.inbox = none ∧ u.wrp.recompute = false ∧ u.wrp.inEGib = i.eGib % 65536 ∧ u.wrp.inEFixed = i.eFixed % 65536 ∧
      u.wrp.inReserve = i.reserve % 256 ∧ u.wrp.inEUsable = min i.eUsable 16777215 ∧ u.wrp.rawHist = s.wrp.rawHist ∧ u.wrp.b = s.wrp.b ∧
      OnlyIn [.wrp] s u ∧ exec .inputSet s = .next (takeRaw raw (zeroCauseOf (energyShort i.eUsable i.reserve i.eFixed i.eGib) s.wrp.forceZero i.storeAbsent i.cap) u))) ∧
  (∀ s : State, s.spn.mode ≠ .dump →
    exec (.forceZeroWrite true) s = .next (takeRaw 0 (setBit s.wrp.zeroCause 2) { s with wrp := { s.wrp with forceZero := true } }) ∧
    (∃ t, exec (.forceZeroWrite false) s = .next t ∧ t.wrp.forceZero = false ∧ t.wrp.b = s.wrp.b ∧ OnlyIn [.wrp] s t) ∧
    (∃ t, exec .recompute s = .next t ∧ t.wrp.recompute = true ∧ t.wrp.inbox = some ⟨eUsable s, param s 7, param s 8, eGibOf s, param s 10,
      !s.nrg.storePresent, s.nrg.swapDerate, s.nrg.lstate = .waitBudget ∨ s.nrg.lstate = .running⟩ ∧ OnlyIn [.wrp] s t)) ∧
  (∀ (s : State) (v : Bool), s.spn.mode = .dump →
    exec (.forceZeroWrite v) s = .next { s with raised := s.raised ++ [⟨0x1006, 0x00, []⟩] } ∧
    exec .recompute s = .next { s with raised := s.raised ++ [⟨0x1006, 0x00, []⟩] }) ∧
  (∀ s : State, ∃ u t, u = budgetTick { s with qdc := s.qdc.map (fun d => { d with ueRecent := 0 }) } ∧
    exec .tokenTick s = .next t ∧
    t.shd.balance = max (-((u.shd.rate * 86400 : Nat) : Int)) (min ((wearBurst u * 1073741824 : Nat) : Int) (u.shd.balance + ((u.shd.rate / 1000 : Nat) : Int))) ∧
    (t.shd.balFloor = true ↔ min ((wearBurst u * 1073741824 : Nat) : Int) (u.shd.balance + ((u.shd.rate / 1000 : Nat) : Int)) ≤ -((u.shd.rate * 86400 : Nat) : Int)) ∧
    (t.raised = u.raised ∨ ∃ d, t.raised = u.raised ++ [⟨0x0502, 0x0D, d⟩] ∧ t.shd.balFloor = true ∧ u.shd.balFloor = false) ∧
    OnlyIn [.shd, .raised] u t ∧
    (s.wrp.valid = false → u = { s with qdc := s.qdc.map (fun d => { d with ueRecent := 0 }) })) ∧
  (∀ s : State, (s.vlt.mapValid = false → exec .rateRecompute s = .next s) ∧
    (s.vlt.mapValid = true → ∃ u t, u = rateCompute s ∧ u.shd.rate = vRem s / tRem s ∧ u.shd.lifeUsed = lifeUsedOf s ∧
      exec .rateRecompute s = .next t ∧ t.shd.rate = u.shd.rate ∧ t.shd.lifeUsed = u.shd.lifeUsed ∧ t.shd.elapsedLife = u.shd.elapsedLife ∧
      (t.shd.wearAhead = true ↔ u.shd.elapsedLife + (if s.shd.wearAhead then 800 else 1000) ≤ u.shd.lifeUsed) ∧
      (t.shd.life90 = true ↔ s.shd.life90 = true ∨ 9000 ≤ u.shd.lifeUsed) ∧
      (t.shd.life100 = true ↔ s.shd.life100 = true ∨ 10000 ≤ u.shd.lifeUsed) ∧ OnlyIn [.shd, .raised, .hlk, .out] s t)) ∧
  (∀ s : State, (s.spn.mode = .dump ∨ s.spn.mode = .parked ∨ s.pwr.corePg = false → exec .logFlush s = .next s) ∧
    (s.spn.mode ≠ .dump → s.spn.mode ≠ .parked → s.pwr.corePg = true →
      ∃ t, exec .logFlush s = .next t ∧ t.vlt.log = s.vlt.log ++ s.vlt.pendLog ∧ t.vlt.pendLog = [] ∧
        (s.vlt.pendLog = [] → t = s) ∧
        (s.vlt.pendLog ≠ [] → t.shd.written = s.shd.written + 32768 * (logRuns s.vlt.pendLog).length) ∧
        (s.vlt.pendLog ≠ [] → s.vlt.ckptRunning = none → 8388608 ≤ t.vlt.log.length → ∃ q, s.vlt.seq ≤ q ∧ t.vlt.ckptRunning = some q) ∧
        OnlyIn [.vlt, .shd, .raised] s t))

/-- Collection, wear levelling, scrub, rebuild and compaction (R265 to R267, R345, R347, R348, R370).
The model's own choices in it: log 12, 54, 98, 138. -/
def Obligations.SegmentWork : Prop :=
  (∀ (s : State) (c : Instr) (n : Nat) (l : List Nat), c = .gcRelocate l ∨ c = .wearLevelMove l ∨ c = .redundancyRebuild l ∨ c = .twinCompaction n l →
    vaultAwake s = false →
    exec c s = .next (if serving s = true then needDomains 10 (maskOf ((quadList s).map (· + 4))) s else s)) ∧
  (∀ (s : State) (l : List Nat), vaultAwake s = true →
    (∀ n, s.vlt.relocate.find? (fun n => (movable s n).any (fun g => !((unmovable n l s).contains g))) = some n →
      exec (.gcRelocate l) s = .next (collectSeg n l s)) ∧
    (s.vlt.relocate.find? (fun n => (movable s n).any (fun g => !((unmovable n l s).contains g))) = none →
      (s.shd.gc = .idle → exec (.gcRelocate l) s = .next s) ∧
      (∀ n, s.shd.gc ≠ .idle → victim s = some n → exec (.gcRelocate l) s = .next (collectSeg n l s)) ∧
      (s.shd.gc ≠ .idle → victim s = none → exec (.gcRelocate l) s = .next s)) ∧
    (∀ n, s.vlt.rebuildSegs.find? (fun n => (movable s n).any (fun g => !((unmovable n l s).contains g))) = some n →
      exec (.redundancyRebuild l) s = .next (collectSeg n l s)) ∧
    (s.vlt.rebuildSegs = [] → exec (.redundancyRebuild l) s = .next s)) ∧
  (∀ (s : State) (l : List Nat) (n : Nat) (g : Seg), vaultAwake s = true →
    ((s.vlt.segs.filter (fun e => victimOk s e.1 e.2)).mergeSort (fun a b => a.2.erases ≤ b.2.erases)).head? = some (n, g) →
    (eraseSpread s * 20 ≤ (vaultRec s).endurance ∨ (∃ t, s.shd.wlSec = some t ∧ s.evr.opSec < t + 3600) → exec (.wearLevelMove l) s = .next s) ∧
    ((vaultRec s).endurance < eraseSpread s * 20 → (∀ t, s.shd.wlSec = some t → t + 3600 ≤ s.evr.opSec) →
      ∃ u, u.shd.wlMoves = s.shd.wlMoves + 1 ∧ u.shd.wlSec = some s.evr.opSec ∧
        u.raised = s.raised ++ [⟨0x050A, 0x0D, [(4, n), (3, eraseSpread s)]⟩] ∧
        OnlyIn [.shd, .raised] s u ∧ exec (.wearLevelMove l) s = .next (collectSeg n l u))) ∧
  (∀ (s : State) (n : Nat),
    (serving s = true → liveIn s n ≠ [] → n ∉ s.vlt.scrubbing → ∃ u, u.vlt = { s.vlt with scrubbing := s.vlt.scrubbing ++ [n] } ∧
      OnlyIn [.vlt] s u ∧ exec (.vaultScrub n) s = .next (wakeVault u)) ∧
    (serving s = false ∨ liveIn s n = [] ∨ n ∈ s.vlt.scrubbing → exec (.vaultScrub n) s = .next s)) ∧
  (∀ (s : State) (n : Nat) (l : List Nat), vaultAwake s = true →
    (twinFull s n = true → n ∉ s.vlt.erasing → segBusy s n = false → ∃ u, u.vlt.compact = (if s.vlt.compact.any (fun e => e.1 = n) then s.vlt.compact else s.vlt.compact ++ [(n, 0)]) ∧
      OnlyIn [.vlt] s u ∧ exec (.twinCompaction n l) s = .next (collectSeg n l u)) ∧
    (twinFull s n = false ∨ n ∈ s.vlt.erasing ∨ segBusy s n = true → exec (.twinCompaction n l) s = .next s)) ∧
  (∀ (s : State) (n : Nat) (l : List Nat), ∃ u, u = beforeVault (rebuildsFailed n l s) ∧ OnlyIn [.vlt, .shd, .raised] s u ∧
    collectSeg n l s = streamFollow s (collect n (unmovable n l u) (callSegment n u))) ∧
  (∀ (s : State) (n : Nat) (skip : List Nat), (movable s n).filter (fun g => !(skip.contains g)) = [] →
    ∃ u, u.vlt.map = s.vlt.map ∧ u.vlt.erasing = s.vlt.erasing ∧ OnlyIn [.vlt] s u ∧ collect n skip s = eraseStart n u) ∧
  (∀ (s : State) (n : Nat), (liveIn s n ≠ [] ∨ segBusy s n = true ∨ n ∈ s.vlt.erasing ∨ s.spn.mode = .dump → eraseStart n s = s) ∧
    (liveIn s n = [] → segBusy s n = false → n ∉ s.vlt.erasing → s.spn.mode ≠ .dump → s.vlt.bootEntry = true →
      (eraseStart n s).vlt.erasing = s.vlt.erasing ++ [n] ∧ OnlyIn [.vlt, .raised] s (eraseStart n s))) ∧
  (∀ s : State, (s.vlt.segs.length < (vaultRec s).diesPerCh * segGroups s → eraseSpread s = (s.vlt.segs.map (fun e => e.2.erases)).foldl max 0) ∧
    ((vaultRec s).diesPerCh * segGroups s ≤ s.vlt.segs.length → ∀ a b, a ∈ s.vlt.segs → b ∈ s.vlt.segs → a.2.erases - b.2.erases ≤ eraseSpread s)) ∧
  (∀ (s : State) (g : Nat) (p : Page), pageAt s (mapOf s g).vpa = some p → programRuns s g = false → hasSpace s = true →
    ∀ (buf : Option (Nat × Nat)) (u : State), stageTake (quadOf s g) s = (buf, u) → buf.isSome = true → encrypted u p.region = false →
    relocatePage g s = (if gstate s g = .shadowed
      then plantStaging (quadOf s g) (placePage (quadOf s g) (fun v => .moved g p.region (mapOf s g).vpa
        (sealArea u p.region (slotOf u p.region).counter v (gword u g).stale (granuleData s g))) buf u)
      else plantStaging (quadOf s g) (placePage (quadOf s g) (fun v => .moved g p.region (mapOf s g).vpa
        (sealArea u p.region (slotOf u p.region).counter v p.stale (pageData s (mapOf s g).vpa p))) buf u)))

/-- Failures of channels and dies, the end of erases, and reads (R263, R289, R330, R343, R344, R347, R348).
The model's own choices in it: log 12, 55, 89. -/
def Obligations.VaultChannels : Prop :=
  (∀ (s : State) (c : Nat), (vchOf s c).state = 2 → c < 16 → c < s.vch.length →
    ∃ u, u = { s with vch := s.vch.modify c (fun v => { v with trainFails := (vchOf s c).trainFails + 1 }) } ∧
      ((vchOf s c).trainFails < 2 → exec (.vaultTraining c false) s = .next u) ∧
      (2 ≤ (vchOf s c).trainFails → exec (.vaultTraining c false) s = .next (channelDown c u)) ∧
      exec (.vaultTraining c true) s = .next s) ∧
  (∀ (s : State) (c : Nat), ((vchOf s c).state ≠ 2 ∨ 16 ≤ c → ∀ ok, exec (.vaultTraining c ok) s = .next s) ∧
    (s.spn.mode = .test → c < 16 → ∃ u, u = { s with vch := s.vch.modify c (fun v => { v with forceFail := true }) } ∧
      ((vchOf s c).state = 2 → exec (.vaultForceFail c) s = .next (channelDown c u)) ∧
      ((vchOf s c).state ≠ 2 → exec (.vaultForceFail c) s = .next u)) ∧
    (s.spn.mode ≠ .test ∨ 16 ≤ c → exec (.vaultForceFail c) s = .next s)) ∧
  (∀ (s : State) (c : Nat), c < s.vch.length → (vchOf s c).state ≠ 3 →
    (vchOf (channelFailed c s) c).state = 3 ∧ (∃ l, (channelFailed c s).raised = s.raised ++ ⟨0x0803, quadUnit (c / 4) (4 + c % 4), [(1, c)]⟩ :: l) ∧
    (s.spn.mode ≠ .dump → channelDown c s = streamFollow s (dieProgramsFail ((List.range 8).flatMap (fun d => runningOn s c d)) (channelFailed c s))) ∧
    (s.spn.mode = .dump → channelDown c s = dumpKick ((List.range (vaultRec (channelFailed c s)).diesPerCh).foldl (fun t d => dumpDieLost c d t) (channelFailed c s)))) ∧
  (∀ (s : State) (c d : Nat), c < 16 → c < s.vch.length → dieOk s c d = true → populated s c = true → d < (vaultRec s).diesPerCh →
    ∃ u n, n = (vchOf s c).missRun.getD d 0 + 1 ∧
      u = { s with vch := s.vch.modify c (fun v => { v with timeouts := satAdd 16 v.timeouts 1, missRun := v.missRun.set d n }) } ∧
      (s.spn.mode = .dump → exec (.dieTimeout c d) s = .next (dumpKick (dumpDieLost c d u))) ∧
      (s.spn.mode ≠ .dump → n = 1 → exec (.dieTimeout c d) s = .next u) ∧
      (s.spn.mode ≠ .dump → 2 ≤ n → exec (.dieTimeout c d) s = .next (streamFollow s (dieProgramsFail (runningOn u c d) (dieFailed c d 2 u))) ∧
        ∃ l, (dieFailed c d 2 u).raised = s.raised ++ ⟨0x0802, quadUnit (c / 4) (4 + c % 4), [(1, c), (1, d), (1, 2)]⟩ :: l)) ∧
  (∀ (s : State) (c d : Nat), 16 ≤ c ∨ dieOk s c d = false ∨ populated s c = false ∨ (vaultRec s).diesPerCh ≤ d →
    exec (.dieTimeout c d) s = .next s) ∧
  (∀ (s : State) (n : Nat) (failed slow : List Nat), n ∉ s.vlt.erasing → exec (.vaultEraseComplete n failed slow) s = .next s) ∧
  (∀ (s : State) (n v : Nat), n ∈ s.vlt.erasing →
    exec (.vaultEraseComplete n [] []) s = .next (streamFollow s (eraseDone n s)) ∧
    (vpaSeg v = n → exec (.vaultEraseComplete n [] [v]) s = .next (streamFollow s (markWorn v 1 (eraseDone n s))) ∧
      exec (.vaultEraseComplete n [v] []) s = .next (streamFollow s
        (raise 0x0805 (quadUnit (vpaCh (blockVpa v) / 4) (4 + vpaCh (blockVpa v) % 4)) [(5, blockVpa v)] (retireBlock (blockVpa v)
          (modVch (vpaCh (blockVpa v)) (fun c => { c with eraseFail := satAdd 16 c.eraseFail 1 }) s)))))) ∧
  (∀ (s : State) (v cause : Nat), blockVpa v ∉ s.vlt.worn → ∃ t, markWorn v cause s = t ∧ blockVpa v ∈ t.vlt.worn ∧
    t.raised = s.raised ++ [⟨0x0508, quadUnit (vpaCh v / 4) (4 + vpaCh v % 4), [(1, vpaCh v), (1, vpaDie v), (2, vpaBlock v), (1, cause)]⟩] ∧
    OnlyIn [.vlt, .raised] s t) ∧
  (∀ (s : State) (v ones : Nat) (words : List Nat) (hard dec reb last : Bool), pageAt s v = none ∨ serving s = false →
    exec (.vaultReadComplete v words ones hard dec reb last) s = .next s) ∧
  (∀ (s : State) (v ones : Nat) (words : List Nat) (hard dec reb last : Bool), pageAt s v ≠ none → serving s = true →
    readsErased s ones = true → exec (.vaultReadComplete v words ones hard dec reb last) s = .next (blockRead v none last
      { s with vch := s.vch.modify (vpaCh v) (fun x => { x with readPages := wrapAdd 64 x.readPages 1 }) })) ∧
  (∀ (s : State) (v load ones c : Nat) (words : List Nat) (hard dec reb again last : Bool), pageAt s v ≠ none → serving s = true →
    readsErased s ones = false → load = correctionLoad s words → again = (reb && (pageAt s v).any (rebuildPasses s v)) → c = vpaCh v → c < s.vch.length →
    ∃ t l, exec (.vaultReadComplete v words ones hard dec reb last) s = .next t ∧
      vchOf t c = { vchOf s c with
        readPages := wrapAdd 64 (vchOf s c).readPages 1
        corrected := satAdd 32 (vchOf s c).corrected (words.foldl (· + ·) 0)
        maxLoad := max (vchOf s c).maxLoad (min load 65535)
        hardFails := if hard then satAdd 16 (vchOf s c).hardFails 1 else (vchOf s c).hardFails
        rebuilds := if !dec && again then satAdd 16 (vchOf s c).rebuilds 1 else (vchOf s c).rebuilds } ∧
      (∀ x, x ≠ c → vchOf t x = vchOf s x) ∧
      t.raised = s.raised ++ (if dec then [] else if again then [⟨0x0807, quadUnit (c / 4) (4 + c % 4), [(5, v), (1, flag (!dieOk s c (vpaDie v)))]⟩]
        else [⟨0x0808, quadUnit (c / 4) (4 + c % 4), [(5, v)]⟩]) ++ l ∧ (∀ e ∈ l, e.id = 0x080A ∨ e.id = 0x0508) ∧
      ((6000 ≤ load ∨ dec = false) → vpaSeg v ∈ s.vlt.scrubbing → vpaSeg v ∉ s.vlt.relocate → vpaSeg v ∉ s.vlt.erasing →
        t.vlt.relocate = s.vlt.relocate ++ [vpaSeg v] ∧ ⟨0x080A, 0x0D, [(4, vpaSeg v), (2, min load 65535)]⟩ ∈ l) ∧
      t.vlt.readLoads = tput (0, 0) s.vlt.readLoads (blockVpa v) (if last then (0, 0)
        else ((tget (0, 0) s.vlt.readLoads (blockVpa v)).1 + load, (tget (0, 0) s.vlt.readLoads (blockVpa v)).2 + 1)) ∧
      (last = true → 6000 * ((tget (0, 0) s.vlt.readLoads (blockVpa v)).2 + 1) ≤ (tget (0, 0) s.vlt.readLoads (blockVpa v)).1 + load →
        blockVpa v ∈ t.vlt.worn) ∧ OnlyIn [.vch, .vlt, .raised] s t)

/-- Fetches, the bulk restore and RETRY_GRANULE (R172, R316, R318, R320, R325). The model's own choices in it: log 12, 94. -/
def Obligations.GranulesBroughtBack : Prop :=
  (∀ (s : State) (g us : Nat) (tagOk reb : Bool), pageAt s (mapOf s g).vpa = none ∨ fetchWanted s g = false →
    exec (.fetchComplete g tagOk reb us) s = .next s) ∧
  (∀ (s : State) (g us : Nat) (p : Page) (d : GranuleData), pageAt s (mapOf s g).vpa = some p → d = pageData s (mapOf s g).vpa p → p.enc = false →
    fetchWanted s g = true → s.spn.mode ≠ .dump → encrypted s p.region = false → gstate s g = .pending → g < hdmGranules s →
    (∃ u, exec (.fetchComplete g true false us) s = .next (settle (bulkFollow (resendKick (resumeWrites (fixLines g d true u))))) ∧
      gstate u g = .shadowed ∧ (∀ x, x ≠ g → gword u x = gword s x) ∧ u.gst.dram = (loadGranule g d s).gst.dram ∧
      u.gst.poison = (loadGranule g d s).gst.poison ∧ u.dmp.restored = s.dmp.restored + 1 ∧
      u.dmp.fetching = s.dmp.fetching.filter (· ≠ g) ∧ u.dmp.bulk = s.dmp.bulk.filter (· ≠ g) ∧
      (s.dmp.fetching.contains g = true → u.dmp.fetchMaxUs = max s.dmp.fetchMaxUs (min us 0xFFFFFFFF) ∧
        (400 < us → ⟨0x070B, 0x0E, [(5, g * 16384), (4, us)]⟩ ∈ u.raised)) ∧ OnlyIn [.gst, .dram, .dmp, .vch, .raised, .qdc] s u) ∧
    (∃ u, exec (.fetchComplete g false false us) s = .next (settle (bulkFollow (resendKick (resumeWrites (fixLines g d false u))))) ∧
      gstate u g = .poison ∧ u.gst.dram = s.gst.dram ∧ u.dmp.restored = s.dmp.restored ∧ ⟨0x0706, 0x0E, [(5, g * 16384)]⟩ ∈ u.raised ∧
      ⟨0x0B0A, 0x07, [(4, (mapOf s g).vpa)]⟩ ∈ u.raised ∧ u.dmp.tagFails = satAdd 16 s.dmp.tagFails 1 ∧
      u.dmp.fetching = s.dmp.fetching.filter (· ≠ g) ∧ u.dmp.bulk = s.dmp.bulk.filter (· ≠ g))) ∧
  (∀ (s : State) (g : Nat) (d : GranuleData) (e : Nat × BitVec 8), e ∈ d.cells → (d.cells.map Prod.fst).Nodup →
    tget 0 (loadGranule g d s).gst.dram (g * 16384 + e.1) = e.2) ∧
  (∀ (s : State) (q : Nat), (serving s = false ∨ s.dmp.rphase < 3 ∨ 4 ≤ q ∨ bulkNext s q = none → exec (.bulkRestoreIssue q) s = .next s) ∧
    (∀ g, bulkNext s q = some g → dieWanted s g = true → exec (.bulkRestoreIssue q) s = .next s) ∧
    (∀ g, serving s = true → 3 ≤ s.dmp.rphase → q < 4 → bulkNext s q = some g → dieWanted s g = false →
      exec (.bulkRestoreIssue q) s = .next (needDomains 9 (2 ^ (4 + q)) { s with dmp := { s.dmp with bulk := s.dmp.bulk ++ [g] } }))) ∧
  (∀ (s : State) (via : Via) (dpa : Nat) (reb : Bool), VendorServes via [.restore, .service, .test] false true s →
    (∀ e, rangeRegion s dpa 16384 = .inr e → exec (.retryGranule via dpa reb) s = .next (vendorRefuse via 0xC00C .invalidInput e s)) ∧
    (∀ r, rangeRegion s dpa 16384 = .inl r → ∃ u, u = bgStart via 0xC00C { s with dmp := { s.dmp with retry := some (dpa / 16384) } } ∧
      u.hlk.bg = some ⟨via, 0xC00C⟩ ∧ u.out = s.out ++ [.mbox via 0xC00C .backgroundStarted 0 []] ∧
      (gstate s (dpa / 16384) ≠ .poison → exec (.retryGranule via dpa reb) s = .next (retryEnd (dpa / 16384) 3 u)) ∧
      (gstate s (dpa / 16384) = .poison → pageAt s (mapOf s (dpa / 16384)).vpa = none → partnerRepairOk u (dpa / 16384) = false →
        exec (.retryGranule via dpa reb) s = .next (retryEnd (dpa / 16384) 2 u)) ∧
      (∀ p, gstate s (dpa / 16384) = .poison → pageAt s (mapOf s (dpa / 16384)).vpa = some p → encrypted s p.region = false →
        rebuildPasses s (mapOf s (dpa / 16384)).vpa p = true → exec (.retryGranule via dpa true) s =
          .next (settle (retryEnd (dpa / 16384) 0 (retryRebuilt (dpa / 16384) p (noteRead (mapOf s (dpa / 16384)).vpa true u))))) ∧
      (∀ k, ∃ t, retryEnd (dpa / 16384) k u = t ∧ t.dmp.retry = none ∧ t.hlk.bg = none ∧
        t.raised = u.raised ++ [⟨0x0709, 0x0E, [(5, dpa / 16384 * 16384), (1, k)]⟩]))) ∧
  (∀ (s : State) (g : Nat) (p : Page), g < hdmGranules s → gstate (retryRebuilt g p s) g = .shadowed)

/-- Witness queries and takeovers (R389, R393, R397 to R400, R418). The model's own choices in it: log 71, 77, 108, 128. -/
def Obligations.WitnessAndTakeover : Prop :=
  (∀ (s : State) (via : Via) (force : Bool) (c : Instr), VendorServes via [.restore, .service] (!force) true s →
    (force = false ∧ c = .takeover via ∨ force = true ∧ c = .forceTakeover via 0x4F4B5446) →
    ∃ u op, op = (if force then 0xC007 else 0xC006) ∧
      u = bgStart via op (if force then raise 0x0208 0x01 [] s else s) ∧
      u.hlk.bg = some ⟨via, op⟩ ∧ u.out = s.out ++ [.mbox via op .backgroundStarted 0 []] ∧
      u.raised = s.raised ++ (if force then [⟨0x0208, 0x01, []⟩] else []) ∧ OnlyIn [.hlk, .out, .raised] s u ∧
      ((s.kor.state = .unpaired ∨ s.kor.state = .solo ∧ s.kor.soloCause = 6) → exec c s = .next (takeoverEnd force .unsupported 0x000B 0 u)) ∧
      ((s.kor.state = .mirrored ∨ s.kor.state = .resync ∨ s.kor.state = .training ∧ s.kor.up = true) →
        exec c s = .next (takeoverEnd force .invalidInput 0x0005 0 u)) ∧
      (s.kor.state = .training → s.kor.up = false → exec c s = .next (takeoverEnd force .retryRequired 0x0011 0 u)) ∧
      (s.kor.state = .deciding → exec c s = .next { u with kor := { u.kor with takeover := some ⟨via, force, 0, 0⟩ } }) ∧
      (s.kor.state = .solo → s.kor.soloCause ≠ 6 → (force = true → forceOk s = true) →
        exec c s = .next (askWitness .takeover { u with kor := { u.kor with takeover := some ⟨via, force, 1, 0⟩ } })) ∧
      (s.kor.state = .solo → s.kor.soloCause ≠ 6 → force = true → forceOk s = false →
        exec c s = .next (takeoverEnd true .retryRequired 0x0007 0 u))) ∧
  (∀ (s : State) (via : Via) (n : Nat), VendorServes via [.restore, .service] false true s → n ≠ 0x4F4B5446 →
    exec (.forceTakeover via n) s = .next (send (.mbox via 0xC007 .invalidInput 0x000C [])
      (raise 0x0207 0x01 [(2, 0xC007), (2, 0x000C)] (raise 0x0208 0x01 [] s)))) ∧
  (∀ (s : State) (via : Via) (force : Bool) (ret : Ret) (ext n op : Nat), op = (if force then 0xC007 else 0xC006) → s.hlk.bg = some ⟨via, op⟩ →
    ∃ t, takeoverEnd force ret ext n s = t ∧ t.kor.takeover = none ∧ t.hlk.bg = none ∧ t.hlk.bgStatus = ⟨op, ret, ext⟩ ∧
      t.out = s.out ++ [.mbox via op ret ext [(2, n), (1, s.kor.witness - 1), (5, 0)], .msix 0] ∧
      t.raised = s.raised ++ (if ret = .success then [] else [⟨0x0207, 0x01, [(2, op), (2, ext)]⟩]) ∧ OnlyIn [.kor, .hlk, .out, .raised] s t) ∧
  (∀ (s : State) (t : TakeoverCmd) (r : Nat), s.kor.state = .solo →
    (t.force = true ∨ r = 1 ∧ s.kor.copiesCurrent = true → takeoverAnswer t r s = takeoverAdopt t s) ∧
    (t.force = false → r = 1 → s.kor.copiesCurrent = false → takeoverAnswer t r s = takeoverEnd false .invalidInput 0x000E 0 s) ∧
    (t.force = false → r = 2 → takeoverAnswer t r s = takeoverEnd false .invalidInput 0x0005 0 s) ∧
    (t.force = false → r = 3 → takeoverAnswer t r s = takeoverEnd false .retryRequired 0x0006 0 s)) ∧
  (∀ (s : State) (t : TakeoverCmd), s.nrg.quagOk = false → ∃ u l, takeoverAdopt t s = u ∧ u.kor.takeover = some { t with wait := 2, answer := s.kor.witness } ∧
    u.aos.pair = some ⟨((s.aos.pair.map PairRecord.seq).getD s.kor.record.seq) + 1, l, s.kor.record.partnerMepoch⟩ ∧
    (∀ r, r ∈ l ↔ r < 256 ∧ ((region s r).adopted = true ∨ defined s r = true ∧ serves s r = false)) ∧ OnlyIn [.kor, .aos, .ifc] s u) ∧
  (∀ (s : State), (∀ t, s.kor.takeover = some t → t.wait = 2 → s.nrg.quagOk = false → s.aos.pair ≠ none →
      exec .pairRecordQuagTimeout s = .next (takeoverEnd t.force .retryRequired 0x000F 0
        { s with aos := { s.aos with pair := none }, ifc := { s.ifc with waiting := s.ifc.waiting.filter (fun o => decide (o.agent ≠ .kor)) } })) ∧
    (s.kor.takeover = none ∨ s.nrg.quagOk = true ∨ s.aos.pair = none → exec .pairRecordQuagTimeout s = .next s)) ∧
  (∀ (s : State) (why : WitnessFor), ∃ u, u = { s with cwy := { s.cwy with queries := satAdd 16 s.cwy.queries 1 } } ∧
    (s.kor.wrongId = true → askWitness why s = witnessResult why 3 (raise 0x0906 0x05 [(1, s.kor.pCwyId)] u)) ∧
    (s.kor.wrongId = false → (s.cwy.unit ≠ .on ∨ s.cwy.ringUp = false ∨ s.cwy.electing = true ∨ s.cwy.dupId = true) →
      askWitness why s = witnessResult why 3 u) ∧
    (s.kor.wrongId = false → s.cwy.unit = .on → s.cwy.ringUp = true → s.cwy.electing = false → s.cwy.dupId = false → s.cwy.isHead = false →
      askWitness why s = send (.frame ⟨s.cwy.headId, s.cwy.myId, 64, s.cwy.nextTag, .witnessQ (s.cwy.myId ^^^ 1)⟩ true)
        { u with cwy := { u.cwy with asking := some (why, s.cwy.nextTag), nextTag := wrapAdd 16 s.cwy.nextTag 1 } })) ∧
  (∀ (s : State) (r : Nat), ∃ u, noteWitness r s = u ∧ u.kor.witness = r ∧ u.cwy.asking = none ∧
    u.cwy.dead = (if r = 1 then satAdd 16 s.cwy.dead 1 else s.cwy.dead) ∧ u.cwy.alive = (if r = 2 then satAdd 16 s.cwy.alive 1 else s.cwy.alive) ∧
    u.cwy.noAnswer = (if r = 3 then satAdd 16 s.cwy.noAnswer 1 else s.cwy.noAnswer) ∧
    u.raised = s.raised ++ [⟨0x0A05, 0x06, [(1, s.cwy.myId ^^^ 1), (1, r)]⟩] ∧ OnlyIn [.cwy, .kor, .raised] s u ∧
    (s.kor.state = .deciding → s.kor.asking = true → witnessResult .decision r s = decideSolo r false u) ∧
    (s.kor.state = .training → s.kor.up = false → witnessResult .training 1 s = soloSeven (noteWitness 1 s)) ∧
    (r ≠ 1 → witnessResult .training r s = u) ∧
    (∀ t, s.kor.takeover = some t → t.wait = 1 → witnessResult .takeover r s = takeoverAnswer t r u)) ∧
  (∀ (s : State) (src hops tag target result : Nat) (why : WitnessFor), s.cwy.asking = some (why, tag) →
    exec .witnessTimeout s = .next (takeoverResume (witnessResult why 3 s)) ∧
    (s.cwy.unit = .on → s.cwy.dupId = false → target = s.cwy.myId ^^^ 1 → (result = 1 ∨ result = 2) →
      exec (.witnessA src s.cwy.myId hops tag target result true) s = .next (takeoverResume (witnessResult why result s)) ∧
      (∀ x, x ≠ tag → exec (.witnessA src s.cwy.myId hops x target result true) s = .next s))) ∧
  (∀ (s : State) (c : Instr), (c = .trainingTimeout ∨ c = .witnessRequery) →
    (s.kor.unitOn = true → s.kor.state = .training → s.kor.up = false → s.cwy.asking = none → exec c s = .next (askWitness .training s)) ∧
    (s.kor.unitOn = false ∨ s.kor.state ≠ .training ∨ s.kor.up = true ∨ s.cwy.asking ≠ none → exec c s = .next s)) ∧
  (∀ (s : State), s.spn.mode ≠ .dump → (s.kor.state ≠ .training → exec .soloStart s = .next s) ∧
    (s.kor.state = .training → exec .soloStart s = .next
      (((List.range 256).filter (fun r => (region s r).startFail = 2 && (region s r).life = .offline)).foldl (fun t r => startRegion r t) (enterSolo 7 false s)))) ∧
  (∀ (s : State) (cause : Nat) (live : Bool), ∃ v, enterSolo cause live s = settle (s.kor.repairs.foldl (fun t a => repairRefused a t) v) ∧
    v.kor.state = .solo ∧ v.kor.soloCause = (if cause = 0 then s.kor.soloCause else cause) ∧ v.kor.soloSec = s.evr.opSec ∧
    v.kor.copiesCurrent = (decide (cause = 1) && decide (s.kor.state = .deciding) && decide (s.kor.before = .mirrored)) ∧
    v.kor.up = (s.kor.up && live) ∧ v.kor.trained = (s.kor.trained && live) ∧ v.kor.opening = [] ∧ v.kor.resend = [] ∧ v.kor.relWait = [] ∧
    v.kor.pressureIn = false ∧ (∀ w ∈ v.hlk.writes, ∀ q, w.mirror ≠ .waiting q) ∧
    (s.kor.state ≠ .solo → ⟨0x0905, 0x05, [(1, pairCode s.kor.state), (1, 4), (1, v.kor.soloCause)]⟩ ∈ v.raised ∧ .msix 8 ∈ v.out) ∧
    OnlyIn [.kor, .hlk, .gst, .wrp, .shd, .qdc, .raised, .out, .free] s v)

/-- The link's training, replay, silence and lanes (R373 to R391, R394). The model's own choices in it: log 6, 77. -/
def Obligations.PairLink : Prop :=
  (∀ (s : State) (b : FlitBody) (n : Nat), b ≠ .heartbeat → s.kor.unitOn = true → s.kor.trained = true → n = wrapAdd 16 s.kor.txSeq 1 →
    (s.kor.txQueue ≠ [] ∨ replaySlots ≤ s.kor.replay.length → sendFlit b s = { s with kor := { s.kor with txQueue := s.kor.txQueue ++ [b] } }) ∧
    (s.kor.txQueue = [] → s.kor.replay.length < replaySlots → ∃ t, sendFlit b s = t ∧ t.out = s.out ++ [.flit (txHeader n s) b] ∧
      t.kor = { s.kor with txSeq := n, replay := s.kor.replay ++ [(n, b)], nakOut := false } ∧ OnlyIn [.kor, .out] s t)) ∧
  (∀ (s : State) (b : FlitBody), (s.kor.unitOn = false ∨ s.kor.trained = false) → sendFlit b s = s ∧ exec .heartbeatTimer s = .next s) ∧
  (∀ (s : State), s.kor.unitOn = true → s.kor.trained = true →
    ∃ t, exec .heartbeatTimer s = .next t ∧ t.out = s.out ++ [.flit (txHeader s.kor.txSeq s) .heartbeat] ∧
      t.kor = { s.kor with nakOut := false } ∧ OnlyIn [.kor, .out] s t) ∧
  (∀ (s : State) (ok : Bool) (w : Nat), (s.kor.unitOn = false ∨ s.kor.state ≠ .deciding ∧ (s.kor.trainingOn = false ∨ s.kor.state ≠ .training ∧ s.kor.state ≠ .solo) ∨
      s.kor.state = .deciding ∧ (ok = false ∨ s.kor.asking = true) → exec (.korricTrainingDone ok w) s = .next s) ∧
    (s.kor.unitOn = true → s.kor.state = .deciding → s.kor.asking = false → ∃ u, u = { s with kor := { s.kor with trained := true, width := retrainWidth s } } ∧
      exec (.korricTrainingDone true w) s = .next (sendExchange u)) ∧
    (s.kor.unitOn = true → s.kor.trainingOn = true → s.kor.state = .training ∨ s.kor.state = .solo →
      exec (.korricTrainingDone false w) s = .next { s with kor := { s.kor with trainingOn := decide (s.kor.state = .training) } } ∧
      ∃ v t, exec (.korricTrainingDone true w) s = .next t ∧ t = sendExchange v ∧ OnlyIn [.kor] s v ∧ v.kor.trained = true ∧ v.kor.up = false ∧
        v.kor.width = (if w = 4 then 4 else 8) ∧ v.kor.rxSeq = 0 ∧ v.kor.stateSeen = false ∧ v.kor.digestSeen = [] ∧ v.kor.held = [] ∧
        v.kor.mack = (s.kor.mseqNext + 0xFFFFFFFF) % 0x100000000 ∧
        t.kor.txSeq = 5 ∧ t.kor.replay = (1, .control [stateMsg v]) :: (List.range 4).map (fun k => (k + 2, .control [.digest k (digestPart v k)])) ∧
        OnlyIn [.kor, .out] s t)) ∧
  (∀ (s : State), (s.kor.unitOn = true → s.kor.state = .solo →
      exec .trainingRetry s = .next { s with kor := { s.kor with trainingOn := true } }) ∧
    (s.kor.unitOn = false ∨ s.kor.state ≠ .solo → exec .trainingRetry s = .next s)) ∧
  (∀ (s : State), (korHears s = false ∨ s.kor.replay = [] → exec .replayTimeout s = .next s) ∧
    (korHears s = true → s.kor.replay ≠ [] → ∃ t, exec .replayTimeout s = .next t ∧
      t.raised = s.raised ++ [⟨0x090C, 0x05, [(2, s.kor.replay.length)]⟩] ∧ t.kor = { s.kor with replays := satAdd 16 s.kor.replays 1 } ∧
      t.out = s.out ++ s.kor.replay.map (fun e => .flit (txHeader e.1 s) e.2) ∧ OnlyIn [.kor, .raised, .out] s t)) ∧
  (∀ (s : State) (bad : Bool), (korHears s = false → exec (.corruptFlit bad) s = .next s) ∧
    (korHears s = true → exec (.corruptFlit bad) s = .next { s with kor := { s.kor with
      crc := satAdd 16 s.kor.crc 1, fecUncorr := if bad then satAdd 16 s.kor.fecUncorr 1 else s.kor.fecUncorr, nakOut := true } })) ∧
  (∀ (s : State) (h : FlitHdr), (korHears s = false → exec (.heartbeat h) s = .next s) ∧
    (korHears s = true → ∃ u w, u = repairSend (drainQueue { s with kor := { s.kor with replay := afterFack h.fack s.kor.replay } }) ∧
      w = takePressure h.pressure (takeMack (fullMack u h.mackLo) (if h.nak then replayAll u else u)) ∧
      exec (.heartbeat h) s = .next (if h.dumping then partnerDumping w else w))) ∧
  (∀ (s : State) (m : Nat), m ≠ s.kor.mack → ∃ (v : State) (l : List (Nat × Nat)), takeMack m s = resendKick (settle (l.foldl (fun u e => setStale e.1 false u) v)) ∧
    v.kor.mack = m ∧ (∀ e, e ∈ l ↔ e ∈ s.kor.marks ∧ seqLe e.2 m = true ∧ ∀ a, s.kor.resendAt = some a → a.1 ≠ e.1) ∧
    (∀ q, q ∈ v.kor.resyncOut ↔ q ∈ s.kor.resyncOut ∧ seqLe q m = false) ∧
    (∀ e, e ∈ v.kor.marks ↔ e ∈ s.kor.marks ∧ e ∉ l) ∧
    v.hlk.writes.map (·.mirror) = s.hlk.writes.map (fun w => match w.mirror with
      | .waiting q => if seqLe q m = true then .acked else .waiting q
      | x => x) ∧ OnlyIn [.kor, .hlk, .free] s v) ∧
  (∀ (s : State) (on : Bool), (s.kor.pressureIn = on → takePressure on s = s) ∧
    (s.kor.pressureIn ≠ on → ∃ t l, takePressure on s = t ∧ t.kor = { s.kor with pressureIn := on } ∧
      t.raised = s.raised ++ ⟨0x090A, 0x05, [(1, flag on)]⟩ :: l ∧ OnlyIn [.kor, .hlk, .wrp, .shd, .raised] s t)) ∧
  (∀ (s : State), (s.kor.state = .deciding → partnerDumping s = takeoverResume (decideSolo 4 true s)) ∧
    (s.kor.state = .mirrored ∨ s.kor.state = .resync → partnerDumping s = enterSolo 4 true s) ∧
    (s.kor.state = .unpaired ∨ s.kor.state = .training ∨ s.kor.state = .solo → partnerDumping s = s)) ∧
  (∀ (s : State), (s.kor.state = .mirrored ∨ s.kor.state = .resync → ∃ t l, exec .silenceTimeout s = .next t ∧ t.kor = { s.kor with
        state := .deciding, before := s.kor.state, decisions := satAdd 16 s.kor.decisions 1, asking := false } ∧
      t.raised = s.raised ++ ⟨0x0905, 0x05, [(1, pairCode s.kor.state), (1, 3), (1, 0)]⟩ :: l ++ [⟨0x0903, 0x05, []⟩] ∧ (∀ e ∈ l, e.id = 0x0303) ∧
      (∀ w ∈ t.hlk.writes, ∀ q, w.mirror = .waiting q → w.everHeld = true) ∧ OnlyIn [.kor, .hlk, .wrp, .raised, .out] s t) ∧
    (s.kor.state = .training → s.kor.fromSolo = true → s.kor.up = true → exec .silenceTimeout s = .next (enterSolo 0 false s)) ∧
    (s.kor.state = .training → (s.kor.fromSolo = false ∨ s.kor.up = false) →
      exec .silenceTimeout s = .next { s with kor := { s.kor with trained := false, up := false, width := 0, trainingOn := true } }) ∧
    (s.kor.state = .solo → exec .silenceTimeout s = .next { s with kor := { s.kor with trained := false, up := false, width := 0 } }) ∧
    (s.kor.state = .unpaired ∨ s.kor.state = .deciding → exec .silenceTimeout s = .next s)) ∧
  (∀ (s : State) (ok : Bool), (s.kor.state ≠ .deciding ∨ s.kor.asking = true → exec (.fastRetrainDone ok) s = .next s) ∧
    (s.kor.state = .deciding → s.kor.asking = false →
      (∃ u, u = { s with kor := { s.kor with retrain := 1, trained := true, up := true, width := retrainWidth s, nakOut := false },
                               raised := s.raised ++ [⟨0x0901, 0x05, [(1, retrainWidth s), (1, flag s.kor.spareTx + 2 * flag s.kor.spareRx)]⟩] } ∧
        exec (.fastRetrainDone true) s =
          .next (takeoverResume (resendKick (settle (releaseNotices (replayAll (setPair s.kor.before 0 (decisionEnd s.kor.before u)))))))) ∧
      ∃ u, u = { s with kor := { s.kor with retrain := 2, asking := true, trained := false, up := false, width := 0 } } ∧
        exec (.fastRetrainDone false) s = .next (takeoverResume (askWitness .decision u)))) ∧
  (∀ (s : State) (p : PairState), ∃ t n, decisionEnd p s = t ∧ t.raised = s.raised ++ [⟨0x0904, 0x05, [(1, pairCode p), (1, s.kor.witness), (4, n)]⟩] ∧
    t.kor = { s.kor with lastNs := n } ∧ OnlyIn [.kor, .raised, .free] s t) ∧
  (∀ (s : State) (lane symbols received : Nat) (lost : Bool), (korHears s = false → exec (.laneFault lane lost symbols received) s = .next s) ∧
    (korHears s = true → ∃ v, v = { s with kor := { s.kor with fecRem := (s.kor.fecRem + symbols) % 1024, fecSym := satAdd 16 s.kor.fecSym ((s.kor.fecRem + symbols) / 1024) } } ∧
      (s.kor.rxFailed.testBit lane = true ∨ lost = false ∧ symbols ≤ s.kor.swapThresh → exec (.laneFault lane lost symbols received) s = .next v) ∧
      (s.kor.rxFailed.testBit lane = false → lost = true ∨ s.kor.swapThresh < symbols → ∃ u cause, cause = (if lost then 0 else 1) ∧
        u = { v with kor := { v.kor with rxFailed := setBit s.kor.rxFailed lane } } ∧
        (s.kor.spareRx = true ∨ s.kor.rxSwap ≠ none → exec (.laneFault lane lost symbols received) s = .next { u with kor := { u.kor with trained := false } }) ∧
        (s.kor.spareRx = false → s.kor.rxSwap = none → ∃ cw, cw = (received + 128) % 2 ^ 32 ∧ exec (.laneFault lane lost symbols received) s =
          .next (sendFlit (.control [.laneSwap cause lane cw]) { u with kor := { u.kor with rxSwap := some (lane, cause, cw), swapReqOut := true } }))))) ∧
  (∀ (s : State), (s.kor.txSwap = none → exec (.laneSwitch true) s = .next s) ∧
    (s.kor.rxSwap = none ∨ s.kor.spareRx = true → exec (.laneSwitch false) s = .next s) ∧
    (∀ lane cause cw, s.kor.txSwap = some (lane, cause, cw) → exec (.laneSwitch true) s = .next (sendFlit (.control [.laneSwapAck lane cw])
      (raise 0x0902 0x05 [(1, 0), (1, lane), (1, cause)]
        { s with kor := { s.kor with spareTx := true, txSwap := none, swaps := satAdd 16 s.kor.swaps 1 } }))) ∧
    (∀ lane cause cw, s.kor.rxSwap = some (lane, cause, cw) → s.kor.spareRx = false → exec (.laneSwitch false) s =
      .next (raise 0x0902 0x05 [(1, 1), (1, lane), (1, cause)]
        { s with kor := { s.kor with spareRx := true, swapReqOut := false, swaps := satAdd 16 s.kor.swaps 1 } })))

/-- Messages in order, the exchange and requests (R373, R377, R378, R384, R385, R387, R394, R395).
The model's own choices in it: log 73. -/
def Obligations.MessagesInOrder : Prop :=
  (∀ (s : State) (h : FlitHdr) (idx : Nat) (k : State → State),
    (korHears s = false ∨ inOrder s h idx = false → takeMsg h idx k s = s) ∧
    (korHears s = true → h.fseq = wrapAdd 16 s.kor.rxSeq 1 → h.fseq ≠ s.kor.rxSeq →
      takeMsg h idx k s = k (takeHeader h { s with kor := { s.kor with rxSeq := h.fseq, rxIdx := idx } })) ∧
    (korHears s = true → h.fseq = s.kor.rxSeq → s.kor.rxIdx < idx →
      takeMsg h idx k s = k { s with kor := { s.kor with rxSeq := h.fseq, rxIdx := idx } })) ∧
  (∀ (s : State) (h : FlitHdr) (i r a b n m g q : Nat) (x y : Bool) (sl : List LineSlot) (c : Instr), (korHears s = false ∨ inOrder s h i = false) →
    (c = .state h i x y a b n ∨ c = .digest h i a b ∨ c = .openQuery h i r ∨ c = .openReply h i r a ∨ c = .shadowNotice h i g m ∨
      c = .shadowMap h i a b ∨ c = .releaseNotice h i a b ∨ c = .releaseDone h i a ∨ c = .pressure h i x ∨ c = .dumpNotice h i a q ∨
      c = .poisonLine h i a m ∨ c = .repairReq h i g a ∨ c = .repairReply h i g a b ∨ c = .resyncEnd h i ∨ c = .adopted h i r ∨
      c = .adoptReply h i r a ∨ c = .return h i r ∨ c = .ownCopyDone h i r ∨ c = .laneSwap h i a b n m ∨ c = .laneSwapAck h i a b ∨
      i = 15 ∧ (c = .mirror h sl ∨ c = .repair h sl)) → exec c s = .next s) ∧
  (∀ (s u : State) (h : FlitHdr) (i id mep n : Nat) (sb tb : Bool), korHears s = true → inOrder s h i = true → u = takeMsg h i (fun t => t) s →
    ∃ v, OnlyIn [.kor] u v ∧ v.kor.pSide = sb ∧ v.kor.pTiebreak = tb ∧ v.kor.pCwyId = id % 64 ∧ v.kor.pMepoch = mep % 0x100000000 ∧
      (u.kor.up = true → exec (.state h i sb tb id mep n) s = .next v) ∧
      (u.kor.up = false → ∃ w x, x = (n + 0xFFFFFFFF) % 0x100000000 ∧
        w = { v with kor := { v.kor with stateSeen := true, held := [], heldPoison := [], rxMseq := x, rxLast := x } } ∧
        (4 ≤ u.kor.digestSeen.length → exec (.state h i sb tb id mep n) s = .next (linkUpKorric w)) ∧
        (u.kor.digestSeen.length < 4 → exec (.state h i sb tb id mep n) s = .next w))) ∧
  (∀ (s u : State) (h : FlitHdr) (i part x : Nat), korHears s = true → inOrder s h i = true → u = takeMsg h i (fun t => t) s →
    (4 ≤ part → exec (.digest h i part x) s = .next u) ∧
    (part < 4 → ∃ v, v = { u with kor := { u.kor with digestSeen := tins part (x % 2 ^ 96) u.kor.digestSeen } } ∧
      (u.kor.up = true → part = 3 → exec (.digest h i part x) s = .next (compareDigests v)) ∧
      (u.kor.up = true → part ≠ 3 → exec (.digest h i part x) s = .next v) ∧
      (u.kor.up = false → u.kor.stateSeen = true → 4 ≤ v.kor.digestSeen.length → exec (.digest h i part x) s = .next (linkUpKorric v)) ∧
      (u.kor.up = false → (u.kor.stateSeen = false ∨ v.kor.digestSeen.length < 4) → exec (.digest h i part x) s = .next v))) ∧
  (∀ (s : State), ∃ u same bad wrong tb, same = decide (s.kor.pSide = s.kor.side) ∧ bad = digestsDiffer s ∧
    wrong = decide (s.kor.pCwyId ≠ s.cwy.myId ^^^ 1) ∧ tb = decide (s.kor.pTiebreak = tiebreakOf s) ∧
    u.kor = { s.kor with up := true, sameSide := same, digestBad := bad, wrongId := s.kor.wrongId || wrong, tbAgreed := tb } ∧
    u.raised = s.raised ++ [⟨0x0901, 0x05, [(1, s.kor.width), (1, flag s.kor.spareTx + 2 * flag s.kor.spareRx)]⟩] ++
      (if same = true then [⟨0x0906, 0x05, [(1, 0)]⟩] else []) ++ (if bad = true then [⟨0x0906, 0x05, [(1, 1)]⟩] else []) ++
      (if tb = false then [⟨0x0906, 0x05, [(1, 2)]⟩] else []) ++ (if wrong = true then [⟨0x0906, 0x05, [(1, 3)]⟩] else []) ∧
    OnlyIn [.kor, .raised] s u ∧
    (same = false → bad = false → mayRejoin u = true → linkUpKorric s = rejoin u) ∧
    (same = false → bad = false → mayRejoin u = false → linkUpKorric s = u) ∧
    (same = true → s.kor.state ≠ .solo → linkUpKorric s = enterSolo 6 true u) ∧
    (same = false → bad = true → s.kor.state ≠ .solo → linkUpKorric s = enterSolo 5 true u) ∧
    (same = true ∨ bad = true → s.kor.state = .solo → linkUpKorric s = enterSolo (if same = true then 6 else 5) true
      (setPair .training 0 { u with kor := { u.kor with copiesCurrent := false, fromSolo := true } }))) ∧
  (∀ (s u : State) (h : FlitHdr) (i r : Nat), korHears s = true → inOrder s h i = true → u = takeMsg h i (fun t => t) s →
    (u.kor.up = false ∨ u.spn.mode = .dump → exec (.openQuery h i r) s = .next u) ∧
    (u.kor.up = true → u.spn.mode ≠ .dump →
      ((region u r).adopted = true → exec (.openQuery h i r) s = .next (sendFlit (.control [.openReply r 1]) u)) ∧
      ((region u r).adopted = false → inConflict u r = true → exec (.openQuery h i r) s = .next (sendFlit (.control [.openReply r 2]) u)) ∧
      ((region u r).adopted = false → inConflict u r = false → u.kor.state = .mirrored ∨ u.kor.state = .resync →
        exec (.openQuery h i r) s = .next (sendFlit (.control [.openReply r 0]) u)) ∧
      ((region u r).adopted = false → inConflict u r = false → u.kor.state ≠ .mirrored → u.kor.state ≠ .resync →
        exec (.openQuery h i r) s = .next u))) ∧
  (∀ (s u : State) (h : FlitHdr) (i r a : Nat), korHears s = true → inOrder s h i = true → u = takeMsg h i (fun t => t) s →
    u.kor.up = true → u.spn.mode ≠ .dump →
    (r ∉ u.kor.opening → exec (.openReply h i r a) s = .next u) ∧
    (r ∈ u.kor.opening →
      exec (.openReply h i r 0) s = .next { u with kor := { u.kor with opening := sdel u.kor.opening r } } ∧
      exec (.openReply h i r 1) s = .next (bulkFollow (endStart r 4 u)) ∧ exec (.openReply h i r 2) s = .next (bulkFollow (endStart r 2 u)))) ∧
  (∀ (s u : State) (h : FlitHdr) (i : Nat) (on : Bool), korHears s = true → inOrder s h i = true → u = takeMsg h i (fun t => t) s →
    (u.kor.up = true → exec (.pressure h i on) s = .next (takePressure on u)) ∧ (u.kor.up = false → exec (.pressure h i on) s = .next u)) ∧
  (∀ (s : State), ((∃ sl ∈ s.kor.held, mirrorBlock s (granuleOf sl.line) = 1) → exec .pressureOffTimer s = .next s) ∧
    ((∀ sl ∈ s.kor.held, mirrorBlock s (granuleOf sl.line) ≠ 1) → exec .pressureOffTimer s = .next (setPressure false s))) ∧
  (∀ (s u : State) (h : FlitHdr) (i kind seq : Nat), korHears s = true → inOrder s h i = true → u = takeMsg h i (fun t => t) s →
    (u.kor.up = false → exec (.dumpNotice h i kind seq) s = .next u) ∧
    (u.kor.up = true → ∃ v, v = raise 0x090B 0x05 [(1, kind), (4, seq)] u ∧
      (kind = 0 → exec (.dumpNotice h i kind seq) s = .next (partnerDumping v)) ∧
      (kind = 1 → u.spn.mode ≠ .dump → exec (.dumpNotice h i kind seq) s =
        .next (settle ((mirrorCopies v (fun w => w.st = .dirty)).foldl (fun t g => copyShadowed g t) v))) ∧
      (1 < kind ∨ kind = 1 ∧ u.spn.mode = .dump → exec (.dumpNotice h i kind seq) s = .next v))) ∧
  (∀ (s u : State) (h : FlitHdr) (i : Nat), korHears s = true → inOrder s h i = true → u = takeMsg h i (fun t => t) s →
    u.kor.up = true → u.spn.mode ≠ .dump →
    exec (.resyncEnd h i) s = .next (resendKick { u with kor := { u.kor with endSeen := true } })) ∧
  (∀ (s u : State) (h : FlitHdr) (i cause lane cw sent : Nat), korHears s = true → inOrder s h i = true → u = takeMsg h i (fun t => t) s →
    (u.kor.up = false ∨ u.kor.spareTx = true → exec (.laneSwap h i cause lane cw sent) s = .next u) ∧
    (u.kor.up = true → u.kor.spareTx = false → ∃ x, (seqLe cw sent = false → x = cw) ∧ (seqLe cw sent = true → x = (sent / 128 + 1) * 128 % 2 ^ 32) ∧
      exec (.laneSwap h i cause lane cw sent) s = .next { u with kor := { u.kor with
        txFailed := setBit u.kor.txFailed (lane % 16), txSwap := some (lane % 16, cause, x) } })) ∧
  (∀ (s u : State) (h : FlitHdr) (i lane cw l c x : Nat), korHears s = true → inOrder s h i = true → u = takeMsg h i (fun t => t) s →
    (u.kor.rxSwap = none → exec (.laneSwapAck h i lane cw) s = .next u) ∧
    (u.kor.rxSwap = some (l, c, x) → (l ≠ lane → exec (.laneSwapAck h i lane cw) s = .next u) ∧
      (l = lane → exec (.laneSwapAck h i lane cw) s = .next { u with kor := { u.kor with rxSwap := none, nakOut := u.kor.nakOut || cw ≠ x } })))

/-- Mirror writes, notices and repairs (R178, R185, R198, R277, R382, R384, R386, R401, R407).
The model's own choices in it: log 73, 77. -/
def Obligations.MirrorMessages : Prop :=
  (∀ (s u : State) (h : FlitHdr) (i a b g m r : Nat) (sl : List LineSlot) (c : Instr), korHears s = true → inOrder s h i = true →
    u = takeMsg h i (fun t => t) s → (u.kor.up = false ∨ u.spn.mode = .dump) →
    (c = .shadowNotice h i g m ∨ c = .shadowMap h i a b ∨ c = .releaseNotice h i a b ∨ c = .releaseDone h i a ∨ c = .poisonLine h i a m ∨
      c = .repairReq h i g a ∨ c = .repairReply h i g a b ∨ c = .resyncEnd h i ∨ c = .adopted h i r ∨ c = .adoptReply h i r a ∨
      c = .return h i r ∨ c = .ownCopyDone h i r ∨ c = .openQuery h i r ∨ c = .openReply h i r a ∨
      i = 15 ∧ (c = .mirror h sl ∨ c = .repair h sl)) → exec c s = .next u) ∧
  (∀ (s u : State) (h : FlitHdr) (sl : List LineSlot), korHears s = true → inOrder s h 15 = true → u = takeMsg h 15 (fun t => t) s →
    u.kor.up = true → u.spn.mode ≠ .dump →
    exec (.mirror h sl) s = .next (settle (ackFollow ((sl.take 3).foldl (fun t x => mirrorIn x false t) u))) ∧
    (∀ x g, sl = [x] → x.mask ≠ 0 → g = x.mseq % 256 → exec (.repair h sl) s = .next (settle { u with kor := { u.kor with
      repairs := u.kor.repairs.map (fun a => if a.tag = g ∧ a.granule = x.line / 256 ∧ ¬ (∃ e ∈ a.got, e.1 = x.line) then
        { a with got := a.got ++ [(x.line, x.data)] } else a) } })) ∧
    (sl = [] → exec (.repair h sl) s = .next (settle u))) ∧
  (∀ (s : State) (x : LineSlot) (p : Bool), (s.spn.mode = .dump ∨ x.mask = 0 ∧ p = false → mirrorIn x p s = s) ∧
    (s.spn.mode ≠ .dump → x.mask ≠ 0 ∨ p = true → ∃ u, u = { s with kor := { s.kor with rxLast := x.mseq } } ∧
      (mirrorBlock s (x.line / 256) = 0 → (∀ y ∈ s.kor.held, y.line ≠ x.line) → mirrorIn x p s = mirrorApply x p u) ∧
      (mirrorBlock s (x.line / 256) ≠ 0 ∨ (∃ y ∈ s.kor.held, y.line = x.line) → ∃ t, mirrorIn x p s = t ∧ t.kor.held = s.kor.held ++ [x] ∧
        t.kor.heldPoison = (if p = true then s.kor.heldPoison ++ [x.mseq] else s.kor.heldPoison) ∧ t.gst = s.gst ∧ t.kor.rxMseq = s.kor.rxMseq ∧
        (mirrorBlock s (x.line / 256) = 1 → t.kor.pressureOut = true ∧ t.wrp.budgetHolds = satAdd 32 s.wrp.budgetHolds 1)))) ∧
  (∀ (s : State) (x : LineSlot) (p : Bool) (g : Nat), g = x.line / 256 → (mirrorCopy s g = false → mirrorApply x p s = s) ∧
    (mirrorCopy s g = true → g < hdmGranules s → ∃ t, mirrorApply x p s = t ∧
      (gstate s g = .free ∨ gstate s g = .shadowed → gstate t g = .dirty ∧ (s.wrp.b = 0 → g ∈ t.gst.unreserved)) ∧
      (gstate s g = .dirty → gstate t g = .dirty ∧ t.gst.rsv = s.gst.rsv) ∧ (∀ y, y ≠ g → gword t y = gword s y) ∧
      tget 0 t.kor.lastMseq g = x.mseq ∧ g ∈ t.kor.arrived ∧ (p = true → linePoisoned t x.line = true))) ∧
  (∀ (s u : State) (h : FlitHdr) (i line m g : Nat), korHears s = true → inOrder s h i = true → u = takeMsg h i (fun t => t) s →
    u.kor.up = true → u.spn.mode ≠ .dump → g = line / 256 →
    ((∃ a ∈ u.kor.repairs, a.granule = g ∧ a.tag = m) → mirrorCopy u g = false → exec (.poisonLine h i line m) s =
      .next (settle { u with kor := { u.kor with repairs := u.kor.repairs.map (fun a =>
        if a.granule = g ∧ a.tag = m ∧ line ∉ a.poisoned then { a with poisoned := a.poisoned ++ [line] } else a) } })) ∧
    ((¬ ∃ a ∈ u.kor.repairs, a.granule = g ∧ a.tag = m) ∨ mirrorCopy u g = true → exec (.poisonLine h i line m) s =
      .next (settle (ackFollow (mirrorIn ⟨m, line, 0xFFFFFFFFFFFFFFFF, 0⟩ true u))))) ∧
  (∀ (s u : State) (h : FlitHdr) (i g m : Nat), korHears s = true → inOrder s h i = true → u = takeMsg h i (fun t => t) s →
    u.kor.up = true → u.spn.mode ≠ .dump →
    ((∀ e ∈ u.kor.lastMseq, e.1 = g → seqLe e.2 m = true) → (∀ y ∈ u.kor.held, y.line / 256 ≠ g) →
      exec (.shadowNotice h i g m) s = .next (settleFor (shareFreed u (copyShadowed g u)) (copyShadowed g u))) ∧
    ((∃ e ∈ u.kor.lastMseq, e.1 = g ∧ seqLe e.2 m = false) ∨ (∃ y ∈ u.kor.held, y.line / 256 = g) →
      exec (.shadowNotice h i g m) s = .next u)) ∧
  (∀ (s : State) (g : Nat), (mirrorCopy s g = false ∨ gstate s g ≠ .dirty → copyShadowed g s = s) ∧
    (mirrorCopy s g = true → gstate s g = .dirty → g < hdmGranules s → gstate (copyShadowed g s) g = .shadowed ∧
      ∀ y, y ≠ g → gword (copyShadowed g s) y = gword s y)) ∧
  (∀ (s u : State) (h : FlitHdr) (i first bits : Nat), korHears s = true → inOrder s h i = true → u = takeMsg h i (fun t => t) s →
    u.kor.up = true → u.spn.mode ≠ .dump → ∃ v, exec (.shadowMap h i first bits) s = .next (settle v) ∧
      (∀ g, mirrorCopy u g = true → gstate u g = .dirty → first ≤ g → g < first + 64 → bits.testBit (g - first) = true → g ∉ u.kor.arrived →
        g < hdmGranules u → gstate v g = .shadowed) ∧
      (∀ g, g < first ∨ first + 64 ≤ g ∨ bits.testBit (g - first) = false ∨ g ∈ u.kor.arrived → gword v g = gword u g)) ∧
  (∀ (s u : State) (h : FlitHdr) (i first n : Nat), korHears s = true → inOrder s h i = true → u = takeMsg h i (fun t => t) s →
    u.kor.up = true → u.spn.mode ≠ .dump →
    ∃ v, exec (.releaseNotice h i first n) s = .next (settle (sendFlit (.control [.releaseDone first n]) (ackFollow v))) ∧
      (∀ g, first ≤ g → g < first + n → mirrorCopy u g = true → g < hdmGranules u → gword v g = freeWord) ∧
      (∀ g, g < first ∨ first + n ≤ g ∨ mirrorCopy u g = false → gword v g = gword u g) ∧
      (∀ y, y ∈ v.kor.held ↔ y ∈ u.kor.held ∧ ¬ (first ≤ y.line / 256 ∧ y.line / 256 < first + n ∧ mirrorCopy u (y.line / 256) = true))) ∧
  (∀ (s u : State) (h : FlitHdr) (i first : Nat) (e : RelWait) (l : List RelWait), korHears s = true → inOrder s h i = true →
    u = takeMsg h i (fun t => t) s → u.kor.up = true → u.spn.mode ≠ .dump →
    ((∀ e ∈ u.kor.relWait, e.first ≠ first ∨ e.sent = false) → exec (.releaseDone h i first) s = .next u) ∧
    (u.kor.relWait = e :: l → e.first = first → e.sent = true → exec (.releaseDone h i first) s =
      .next (send (.mbox e.via 0xC001 .success 0 [(4, e.used), (4, 0)]) (raise 0x030A 0x02 [(1, e.region), (4, e.used)]
        { u with kor := { u.kor with relWait := l } })))) ∧
  (∀ (s u : State) (h : FlitHdr) (i g tag : Nat), korHears s = true → inOrder s h i = true → u = takeMsg h i (fun t => t) s →
    u.kor.up = true → u.spn.mode ≠ .dump → ∃ v x, v = raise 0x0910 0x05 [(5, g * 16384), (1, x)] u ∧
      (mirrorCopy u g = true → gstate u g = .dirty ∨ gstate u g = .shadowed → x = 0 ∧
        ∃ w, w = sendFlit (.control [.repairReply g 0 tag]) v ∧
          exec (.repairReq h i g tag) s = .next (repairSend { w with kor := { w.kor with repairOut := w.kor.repairOut ++ [(g, tag, 0)] } })) ∧
      (mirrorCopy u g = false ∨ gstate u g ≠ .dirty ∧ gstate u g ≠ .shadowed → x = (if gstate u g = .free then 2 else 1) ∧
        exec (.repairReq h i g tag) s = .next (sendFlit (.control [.repairReply g x tag]) v))) ∧
  (∀ (s u : State) (h : FlitHdr) (i g x tag : Nat), korHears s = true → inOrder s h i = true → u = takeMsg h i (fun t => t) s →
    u.kor.up = true → u.spn.mode ≠ .dump →
    ((∀ a ∈ u.kor.repairs, a.tag ≠ tag ∨ a.granule ≠ g) ∨ x = 0 → exec (.repairReply h i g x tag) s = .next u) ∧
    (∀ a, u.kor.repairs = [a] → a.tag = tag → a.granule = g → x ≠ 0 → exec (.repairReply h i g x tag) s = .next (repairRefused a u)))

/-- The rejoin, conflicts, returns and adoption (R389, R396, R399, R401 to R404).
The model's own choices in it: log 77, 93. -/
def Obligations.RejoinAndReturn : Prop :=
  (∀ (s : State), s.kor.state = .training ∨ s.kor.state = .solo → ∃ v n, rejoin s = resendKick v ∧ v.kor.state = .resync ∧ v.kor.pendRel = [] ∧
    v.kor.resendAt = none ∧ v.kor.marks = [] ∧ v.kor.endSent = false ∧ v.kor.fromSolo = decide (s.kor.state = .solo) ∧
    (s.kor.state = .solo → v.kor.copiesCurrent = false) ∧ ⟨0x0909, 0x05, [(1, 0), (4, n)]⟩ ∈ v.raised ∧ n = v.kor.resend.length ∧
    (∀ g ∈ v.kor.resend, ∃ w, (g, w) ∈ v.gst.states ∧ w.stale = true) ∧
    ((s.kor.unitOn = true ∧ s.kor.trained = true) → ∀ r, r < 256 → (region s r).adopted = true →
      (∃ q, (q, .control [.adopted r]) ∈ v.kor.replay) ∨ .control [.adopted r] ∈ v.kor.txQueue)) ∧
  (∀ (s : State), s.kor.state = .resync → s.spn.mode ≠ .dump → s.kor.resend = [] → s.kor.resendAt = none →
    s.kor.endSent = true → s.kor.resyncOut = [] →
    (s.kor.endSeen = true → s.kor.marks = [] → resendKick s = reachMirrored s) ∧
    (s.kor.endSeen = false ∨ s.kor.marks ≠ [] → resendKick s = s)) ∧
  (∀ (s : State), s.kor.state = .resync → ∃ v, reachMirrored s = settle v ∧ v.kor.state = .mirrored ∧ v.kor.fullResync = false ∧
    ⟨0x0909, 0x05, [(1, 1), (4, s.kor.resent)]⟩ ∈ v.raised ∧ ⟨0x0905, 0x05, [(1, 5), (1, 2), (1, 0)]⟩ ∈ v.raised) ∧
  (∀ (s u : State) (h : FlitHdr) (i r : Nat), korHears s = true → inOrder s h i = true → u = takeMsg h i (fun t => t) s →
    u.kor.up = true → u.spn.mode ≠ .dump →
    (defined u r = false ∨ serves u r = false → exec (.adopted h i r) s = .next u) ∧
    (defined u r = true → serves u r = true →
      ((region u r).life = .online → exec (.adopted h i r) s = .next (settle (sendFlit (.control [.adoptReply r 1]) (setConflict r true u)))) ∧
      ((region u r).life ≠ .online → exec (.adopted h i r) s =
        .next (settle (sendFlit (.control [.adoptReply r 0]) (raise 0x090F 0x05 [(1, r)] (flushLog (releaseSpan r u)))))))) ∧
  (∀ (s : State) (r : Nat) (on : Bool), (inConflict s r = on → setConflict r on s = s) ∧
    (inConflict s r ≠ on → ∃ t l, setConflict r on s = t ∧ t.kor.conflicts = (if on then sins r s.kor.conflicts else sdel s.kor.conflicts r) ∧
      t.raised = s.raised ++ ⟨0x0908, 0x05, [(1, r), (1, flag on)]⟩ :: l ∧ (∀ e ∈ l, e.id = 0x0303) ∧ OnlyIn [.kor, .wrp, .raised, .out] s t)) ∧
  (∀ (s u : State) (h : FlitHdr) (i r a : Nat), korHears s = true → inOrder s h i = true → u = takeMsg h i (fun t => t) s →
    u.kor.up = true → u.spn.mode ≠ .dump →
    ((region u r).adopted = false → exec (.adoptReply h i r a) s = .next u) ∧
    ((region u r).adopted = true → (a = 1 → exec (.adoptReply h i r a) s = .next (settle (setConflict r true u))) ∧
      (a ≠ 1 → inConflict u r = true → exec (.adoptReply h i r a) s = .next (settle (resyncRegion r (setConflict r false u)))) ∧
      (a ≠ 1 → inConflict u r = false → exec (.adoptReply h i r a) s = .next u))) ∧
  (∀ (s u : State) (h : FlitHdr) (i r : Nat), korHears s = true → inOrder s h i = true → u = takeMsg h i (fun t => t) s →
    u.kor.up = true → u.spn.mode ≠ .dump →
    (defined u r = false ∨ (region u r).entry.sideB ≠ u.kor.side → exec (.return h i r) s = .next u) ∧
    (defined u r = true → (region u r).entry.sideB = u.kor.side →
      (inConflict u r = true → exec (.return h i r) s = .next (settle (resyncRegion r (setConflict r false u)))) ∧
      (inConflict u r = false → ∃ v, v = takeOwnership [r] u ∧
        ((∃ g ∈ v.kor.ownCopies, inRegion v r g = true) → exec (.return h i r) s =
          .next { v with kor := { v.kor with returning := sins r v.kor.returning } }) ∧
        ((∀ g ∈ v.kor.ownCopies, inRegion v r g = false) → exec (.return h i r) s =
          .next (sendFlit (.control [.ownCopyDone r]) { v with kor := { v.kor with returning := sdel (sins r v.kor.returning) r } }))))) ∧
  (∀ (s u : State) (h : FlitHdr) (i r : Nat), korHears s = true → inOrder s h i = true → u = takeMsg h i (fun t => t) s →
    u.kor.up = true → u.spn.mode ≠ .dump →
    (r ∉ u.kor.gaveBack → exec (.ownCopyDone h i r) s = .next u) ∧
    (r ∈ u.kor.gaveBack → ∃ v t a n, a = firstGranule u r ∧ n = granuleCount u r ∧ v = appendLog (.release a n) (beforeVault u) ∧
      exec (.ownCopyDone h i r) s = .next t ∧ t.kor.gaveBack = sdel v.kor.gaveBack r ∧ t.raised = v.raised ++ [⟨0x090F, 0x05, [(1, r)]⟩] ∧
      (∀ e, e ∈ t.vlt.map ↔ e ∈ v.vlt.map ∧ ¬ (a ≤ e.1 ∧ e.1 < a + n)) ∧ OnlyIn [.kor, .vlt, .raised] v t)) ∧
  (∀ (s : State) (t : TakeoverCmd), s.kor.takeover = some t →
    (t.wait = 2 → takeoverDone s = settle (takeoverEnd t.force .success 0 (partnerRegions s).length (adoptRegions (partnerRegions s) t.force s))) ∧
    (t.wait ≠ 2 → takeoverDone s = s)) ∧
  (∀ (s : State) (rs : List Nat) (forced : Bool) (r : Nat), r ∈ rs → r < s.wrp.regions.length →
    (region (adoptRegions rs forced s) r).adopted = true ∧ ⟨0x0907, 0x05, [(1, flag forced), (2, rs.length)]⟩ ∈ (adoptRegions rs forced s).raised)

/-- The lifecycle of a region (R44, R131, R165 to R167, R385, R403, R404). The model's own choices in it: log 18, 112. -/
def Obligations.RegionLifecycle : Prop :=
  (∀ (s : State) (r : Nat) (l : Lifecycle), ((region s r).life = l → setLife r l s = s) ∧
    ((region s r).life ≠ l → r < s.wrp.regions.length → ∃ t, setLife r l s = t ∧ (region t r).life = l ∧
      (region t r).startFail = (if l = .online then 0 else (region s r).startFail) ∧ (∀ x, x ≠ r → region t x = region s x) ∧
      (region t r).entry = (region s r).entry ∧ (region t r).reArm = (region s r).reArm ∧
      t.raised = s.raised ++ [⟨0x0301, 0x02, [(1, r), (1, lifeCode (region s r).life), (1, lifeCode l)]⟩] ∧
      .msix 6 ∈ t.out ∧ OnlyIn [.wrp, .hlk, .raised, .out] s t)) ∧
  (∀ (s : State) (c : Instr), (c = .regionStart ∨ c = .regionStop) →
    (s.spn.mode = .dump → exec c s = .next { s with raised := s.raised ++ [⟨0x1006, 0x00, []⟩] }) ∧
    (s.spn.mode ≠ .dump → serving s = false → exec c s = .next s)) ∧
  (∀ (s : State) (r : Nat), serving s = true → r = s.wrp.regionIdx →
    exec .regionStart s = .next (lifeFollow (startRegion r s)) ∧ exec .regionStop s = .next (lifeFollow (stopReq r s)) ∧
    ((region s r).life = .offline → defined s r = true → startRegion r s = beginChecks r s) ∧
    ((region s r).life = .offline → defined s r = false → startRegion r s = modRegion r (fun x => { x with startFail := 3 }) s) ∧
    ((region s r).life = .stopping → startRegion r s = modRegion r (fun x => { x with reArm := true }) s ∧ stopReq r s = s) ∧
    ((region s r).life = .online → startRegion r s = s ∧ stopReq r s = setLife r .stopping s) ∧
    ((region s r).life = .starting → startRegion r s = s ∧
      stopReq r s = setLife r .offline { s with kor := { s.kor with opening := sdel s.kor.opening r } }) ∧
    ((region s r).life = .offline → stopReq r s = s)) ∧
  (∀ (s : State) (r : Nat), ∃ u, u = setLife r .starting s ∧ (needsPartner u r = false → beginChecks r s = u) ∧
    (needsPartner u r = true → beginChecks r s = sendFlit (.control [.openQuery r]) { u with kor := { u.kor with opening := sins r u.kor.opening } })) ∧
  (∀ (s : State) (r : Nat), (serving s = false ∨ (region s r).life ≠ .starting →
      exec (.startChecksComplete r) s = .next s ∧ exec (.startCheckTimeout r) s = .next s) ∧
    (r ∈ s.kor.opening → exec (.startChecksComplete r) s = .next s) ∧
    (encrypted s r = true → (slotOf s r).st = .starting → exec (.startChecksComplete r) s = .next s) ∧
    (serving s = true → (region s r).life = .starting → r ∉ s.kor.opening →
      (encrypted s r = true → (slotOf s r).st ≠ .starting) →
      (startCode s r = none → exec (.startChecksComplete r) s = .next (lifeFollow (goOnline r s))) ∧
      (∀ c, startCode s r = some c → exec (.startChecksComplete r) s = .next (lifeFollow (endStart r c s))) ∧
      exec (.startCheckTimeout r) s = .next s) ∧
    (serving s = true → (region s r).life = .starting → r ∈ s.kor.opening →
      exec (.startCheckTimeout r) s = .next (lifeFollow (endStart r 2 s)))) ∧
  (∀ (s : State) (r : Nat), (serves s r = false → startCode s r = some 4) ∧
    (serves s r = true → keyThere s r = false → startCode s r = some 1) ∧
    (serves s r = true → keyThere s r = true → partnerAbsent s r = true → startCode s r = some 2) ∧
    (serves s r = true → keyThere s r = true → partnerAbsent s r = false → (∃ q ∈ s.qdc, q.state = 3) → startCode s r = some 5) ∧
    (serves s r = true → keyThere s r = true → partnerAbsent s r = false → (∀ q ∈ s.qdc, q.state ≠ 3) → startCode s r = none)) ∧
  (∀ (s : State) (r c : Nat), r < s.wrp.regions.length → (region s r).life = .starting → ∃ t, endStart r c s = t ∧
    (region t r).life = .offline ∧ (region t r).startFail = c ∧ (∀ x, x ≠ r → region t x = region s x) ∧
    (∃ l, t.raised = s.raised ++ ⟨0x0301, 0x02, [(1, r), (1, 1), (1, 0)]⟩ :: ⟨0x0302, 0x02, [(1, r), (1, c)]⟩ :: l ∧ ∀ e ∈ l, e.id = 0x0707) ∧
    OnlyIn [.wrp, .hlk, .kor, .raised, .out] s t) ∧
  (∀ (s : State) (r : Nat), r < s.wrp.regions.length → (region s r).life = .starting → (region (goOnline r s) r).life = .online ∧
    (region (goOnline r s) r).startFail = 0) ∧
  (∀ (s : State) (r : Nat), (serving s = false ∨ (region s r).life ≠ .stopping ∨ regionDrained s r = false → exec (.regionDrained r) s = .next s) ∧
    (serving s = true → (region s r).life = .stopping → regionDrained s r = true →
      ((region s r).reArm = true → (region s r).liveStop = false →
        exec (.regionDrained r) s = .next (lifeFollow (beginChecks r (modRegion r (fun x => { x with reArm := false }) s)))) ∧
      ((region s r).reArm = false ∨ (region s r).liveStop = true →
        ∃ u, u = setLife r .offline (modRegion r (fun x => { x with reArm := false, liveStop := false }) s) ∧
          ((region s r).liveStop = true → exec (.regionDrained r) s = .next (lifeFollow u)) ∧
          ((region s r).liveStop = false → inConflict u r = true → exec (.regionDrained r) s = .next (lifeFollow (yieldConflict r u))) ∧
          ((region s r).liveStop = false → inConflict u r = false → (region u r).adopted = true → u.kor.state = .mirrored →
            exec (.regionDrained r) s = .next (lifeFollow (giveBack r u))) ∧
          ((region s r).liveStop = false → inConflict u r = false → ((region u r).adopted = false ∨ u.kor.state ≠ .mirrored) →
            exec (.regionDrained r) s = .next (lifeFollow u))))) ∧
  (∀ (s : State), s.img.liveState ≠ 2 → lifeFollow s = settle (bulkFollow s))

/-- Live re-application requests (R92). -/
def Obligations.LiveRequests : Prop :=
  ∀ (s : State) (slot op : Nat) (c : Instr), s.pwr.corePg = true → (op = 1 ∧ c = .liveCheck slot ∨ op = 2 ∧ c = .liveApply slot) →
    ((s.spn.mode = .service ∨ s.spn.mode = .test) → s.img.liveState ≠ 1 → s.img.liveState ≠ 2 →
      exec c s = .next { s with img := { s.img with
        liveSlot := slot % 2, liveOp := op, liveState := 1, liveCause := 0, liveGo := true, regionsTotal := 0, regionsDone := 0, currentRegion := 0 } }) ∧
    (s.spn.mode ≠ .service → s.spn.mode ≠ .test → s.img.liveState ≠ 1 → s.img.liveState ≠ 2 →
      ∃ t, exec c s = .next t ∧ t.img.liveState = 4 ∧ t.img.liveCause = 0x13 ∧ t.img.active = s.img.active ∧ t.img.activeSlot = s.img.activeSlot ∧
        t.raised = s.raised ++ [⟨0x0109, 0x0C, [(1, 0x13), (1, 0)]⟩] ∧ t.out = s.out ++ [.msix 12] ∧ OnlyIn [.img, .raised, .out] s t) ∧
    ((s.img.liveState = 1 ∨ s.img.liveState = 2) →
      exec c s = .next { s with raised := s.raised ++ [⟨0x0109, 0x0C, [(1, 0x13), (1, s.img.currentRegion)]⟩], out := s.out ++ [.msix 12] })

/-- The checks and the course of a live re-application (R93 to R96, R100 to R102, R482, R483, R541).
The model's own choices in it: log 91, 92, 119. -/
def Obligations.LiveReapplication : Prop :=
  (∀ (s : State), s.img.liveState ≠ 1 → exec .imageChecksDone s = .next s) ∧
  (∀ (s : State), s.img.liveState = 1 → ∃ u c cause, c = checkSlot s.img.liveSlot s ∧
    cause = (if c.cause ≠ 0 then c.cause else (checkRecords c.bytes).1) ∧ u.img.liveGo = false ∧ u.img.active = s.img.active ∧
    (if s.img.liveSlot = 0 then u.img.slotA else u.img.slotB) = (if s.img.liveSlot ≤ 1 then slotRegOf { c with cause := cause } else s.img.slotB) ∧
    u.raised = s.raised ++ (if cause = 0 then (skippedTypes (checkRecords c.bytes).2.2).map (fun ty => ⟨0x0105, 0x0C, [(1, ty)]⟩) else []) ∧
    OnlyIn [.img, .raised] s u ∧
    (s.img.liveOp = 1 → ∃ t, exec .imageChecksDone s = .next t ∧ t.raised = u.raised ∧ t.img.liveState = (if cause = 0 then 3 else 4) ∧
      t.img.liveCause = cause ∧ t.img.active = s.img.active ∧ OnlyIn [.img, .raised] s t) ∧
    (s.img.liveOp ≠ 1 → ∃ img changed, img = imageOf c.bytes (checkRecords c.bytes).2.2 ∧ changed = changedRegions s img ∧
      (cause ≠ 0 → exec .imageChecksDone s = .next (liveRefuse cause 0 u)) ∧
      (cause = 0 → img.version ≤ s.img.active.version → exec .imageChecksDone s = .next (liveRefuse 0x12 0 u)) ∧
      (cause = 0 → s.img.active.version < img.version → img.records ≠ s.img.active.records →
        exec .imageChecksDone s = .next (liveRefuse 0x10 0 u)) ∧
      (∀ r, cause = 0 → s.img.active.version < img.version → img.records = s.img.active.records → r ∈ changed →
        changeClass (region s r).entry (newEntry img r) = 3 → spansFree s img r = false →
        (∀ x ∈ changed, x < r → changeClass (region s x).entry (newEntry img x) = 3 → spansFree s img x = true) →
        exec .imageChecksDone s = .next (liveRefuse 0x11 r u)) ∧
      (cause = 0 → s.img.active.version < img.version → img.records = s.img.active.records →
        (∀ x ∈ changed, changeClass (region s x).entry (newEntry img x) = 3 → spansFree s img x = true) →
        ∃ v, exec .imageChecksDone s = .next (lifeFollow v) ∧ v.raised = u.raised ++ [⟨0x0106, 0x0C, [(1, s.img.liveSlot), (4, img.version)]⟩] ∧
          v.img.liveState = 2 ∧ v.img.liveImage = some img ∧ v.img.liveLeft = changed ∧ v.img.regionsTotal = changed.length ∧ v.img.regionsDone = 0 ∧
          v.img.livePools = false ∧ v.img.liveDigest = sha384 c.bytes ∧ v.img.active = s.img.active ∧ OnlyIn [.img, .raised] s v))) ∧
  (∀ (s : State) (cause r : Nat), ∃ t, liveRefuse cause r s = t ∧ t.img.liveState = 4 ∧ t.img.liveCause = cause ∧ t.img.currentRegion = r ∧
    t.img.active = s.img.active ∧ t.raised = s.raised ++ [⟨0x0109, 0x0C, [(1, cause), (1, r)]⟩] ∧ t.out = s.out ++ [.msix 12] ∧
    OnlyIn [.img, .raised, .out] s t) ∧
  (∀ (a b : RegionEntry), (changeClass a b = 0 ↔ a = b) ∧
    (changeClass a b = 3 ↔ ¬ (a.base = b.base ∧ a.size = b.size ∧ a.sequential = b.sequential ∧ a.key = b.key ∧ a.sideB = b.sideB)) ∧
    (a.base = b.base → a.size = b.size → a.sequential = b.sequential → a.key = b.key → a.sideB = b.sideB → a ≠ b →
      changeClass a b = if a.ack = b.ack then 1 else 2)) ∧
  (∀ (s : State) (r : Nat) (l : List Nat) (img : ActiveImage), s.img.liveState = 2 → s.img.liveImage = some img → s.img.liveLeft = r :: l →
    r < s.wrp.regions.length →
    (s.img.liveClass = 0 → changeClass (region s r).entry (newEntry img r) = 1 → ∃ t, liveStep s = some t ∧ (region t r).entry = newEntry img r ∧
      (region t r).life = (region s r).life ∧ t.img.liveLeft = l ∧ t.img.regionsDone = s.img.regionsDone + 1 ∧
      ⟨0x0107, 0x0C, [(1, r), (1, 0)]⟩ ∈ t.raised ∧ (∀ x, x ≠ r → (region t x).entry = (region s x).entry)) ∧
    (s.img.liveClass = 0 → 2 ≤ changeClass (region s r).entry (newEntry img r) → (region s r).life = .online →
      ∃ t, liveStep s = some t ∧ (region t r).life = .stopping ∧ (region t r).liveStop = true ∧ (region t r).entry = (region s r).entry) ∧
    (s.img.liveClass = 3 → (region s r).entry ≠ newEntry img r → (region s r).life = .offline → spansFree s img r = false → defined s r = true →
      liveStep s = some (liveAbort 0x11 (beginChecks r s))) ∧
    (s.img.liveClass ≠ 0 → (region s r).entry ≠ newEntry img r → (region s r).life ≠ .offline → liveStep s = none)) ∧
  (∀ (s : State), s.img.liveState = 2 → ∃ t, liveAbort 0x11 s = t ∧ t.img.liveState = 5 ∧ t.img.liveCause = 0x11 ∧
    t.img.active = s.img.active ∧ t.img.liveImage = none ∧ t.img.liveLeft = [] ∧
    ∃ l, t.raised = s.raised ++ ⟨0x0109, 0x0C, [(1, 0x11), (1, s.img.currentRegion)]⟩ :: l ∧ ∀ e ∈ l, e.id = 0x0906) ∧
  (∀ (s : State) (img : ActiveImage), s.img.liveState = 2 → s.img.liveImage = some img → s.img.liveLeft = [] →
    (s.img.livePools = true → s.tsk.unit ≠ .on → liveStep s = none) ∧
    (s.img.livePools = true → s.tsk.unit = .on → liveStep s = some (liveDone img s)) ∧
    (s.img.livePools = false → liveStep s = some (carveStart (carvingFrom (if img.pools = [] then defaultPools else img.pools))
      { s with img := { s.img with livePools := true, active := { s.img.active with events := img.events } } }))) ∧
  (∀ (s : State) (img : ActiveImage), (liveDone img s).img.active = img ∧ (liveDone img s).img.activeSlot = s.img.liveSlot ∧
    (liveDone img s).img.liveState = 3 ∧ ⟨0x0108, 0x0C, [(1, s.img.liveSlot), (4, img.version)]⟩ ∈ (liveDone img s).raised) ∧
  (∀ (s : State) (q : Nat), (s.tsk.next = none ∨ s.tsk.slices.getD q .off ≠ .stopping ∨ (∃ e ∈ s.tsk.descs, e.1 / 0x400000 = q ∧ e.2.dstate = 1) →
      exec (.sliceDrained q) s = .next s) ∧
    (∀ c, s.tsk.next = some c → s.tsk.slices.getD q .off = .stopping → (∀ e ∈ s.tsk.descs, e.1 / 0x400000 = q → e.2.dstate ≠ 1) →
      q < s.tsk.slices.length → ∃ u, u.tsk.slices.getD q .off = .on ∧ u.tsk.carvings = s.tsk.carvings.set q c ∧
        u.tsk.recarved = setBit s.tsk.recarved q ∧
        u.raised = s.raised ++ [⟨0x0C04, 0x08, [(1, q), (1, runCode .stopping), (1, runCode .starting)]⟩,
          ⟨0x0C04, 0x08, [(1, q), (1, runCode .starting), (1, runCode .on)]⟩] ∧ OnlyIn [.tsk, .raised] s u ∧
        (s.img.livePools = true → exec (.sliceDrained q) s = .next (liveLoop 1100 (carveNext c u))) ∧
        (s.img.livePools = false → exec (.sliceDrained q) s = .next
          { u with tsk := { u.tsk with unit := .on, next := none, saveRsv := min u.tsk.saveRsv (saveRsvMax u) } }))) ∧
  (∀ (s : State) (c : Carving), (∀ q, q < 4 → carvingOf s q = c) →
    carveNext c s = raise 0x0C06 0x08 [] { s with tsk := { s.tsk with unit := .on, next := none, saveRsv := min s.tsk.saveRsv (saveRsvMax s) } }) ∧
  (∀ (s : State) (c : Carving) (q : Nat), q < 4 → carvingOf s q ≠ c → (∀ x, x < q → carvingOf s x = c) → carveNext c s = setSlice q .stopping s)

/-- The commands of a dump (R44, R160, R240, R275, R279, R281, R284 to R286, R289, R291, R292).
The model's own choices in it: log 78, 79, 80, 143. -/
def Obligations.DumpCommands : Prop :=
  (∀ (s : State), (s.spn.mode = .dump → exec .testDump s = .next { s with raised := s.raised ++ [⟨0x1006, 0x00, []⟩] }) ∧
    (s.spn.mode ≠ .dump → s.spn.mode ≠ .test → exec .testDump s = .next s) ∧
    (s.spn.mode = .test → dumpUnmet s ≠ 0 → exec .testDump s = .next { s with raised := s.raised ++ [⟨0x060B, 0x0E, [(1, dumpUnmet s)]⟩] }) ∧
    (s.spn.mode = .test → dumpUnmet s = 0 → ∃ t, exec .testDump s = .next t ∧ t = commitDump 6 0 s ∧ t.spn.mode = .dump)) ∧
  (∀ (s : State), (dumpUnmet s = 0 ↔ s.nrg.input = .good ∧ s.nrg.storePresent = true ∧ s.wrp.b ≠ 0 ∧ s.wrp.overB = false)) ∧
  (∀ (s : State), (s.spn.mode ≠ .dump ∨ s.dmp.phase ≠ 1 → exec .coastEnd s = .next s) ∧
    (s.spn.mode = .dump → s.dmp.phase = 1 → ∃ t c, exec .coastEnd s = .next t ∧ t.dmp.phase = 2 ∧ t.wrp.closeNs = c ∧
      t.raised = s.raised ++ [⟨0x0304, 0x02, [(2, c), (1, s.wrp.coasted), (1, s.wrp.truncated)]⟩] ∧ t.gst.states = s.gst.states ∧
      (∀ q ∈ quadList s, dumpQuad t q = { dumpQuad s q with phase := 2, list := dirtyList s q }) ∧
      (∀ w ∈ t.hlk.writes, w.inDram = true ∨ w.released = true ∨ w.line / 256 ∈ s.dmp.merges) ∧
      OnlyIn [.gst, .dram, .hlk, .wrp, .dmp, .raised, .free] s t)) ∧
  (∀ (s : State) (q : Nat), (s.spn.mode ≠ .dump ∨ q ∉ quadList s ∨ (dumpQuad s q).phase ≠ 2 ∨ (dumpQuad s q).queue ≠ [] ∨
      (dumpQuad s q).running ≠ [] ∨ (dumpQuad s q).placed ≠ [] → exec (.dirtyListReady q) s = .next s) ∧
    (s.spn.mode = .dump → q ∈ quadList s → (dumpQuad s q).phase = 2 → (dumpQuad s q).queue = [] → (dumpQuad s q).running = [] →
      (dumpQuad s q).placed = [] → ∃ u l, l = (dumpQuad s q).list.filter (fun e => e.state ≠ .lost) ∧
      exec (.dirtyListReady q) s = .next (dumpKick u) ∧
      (dumpQuad u q).queue = (if (quadList s).head? = some q then (List.range (logRuns s.dmp.tail).length).map .tail else []) ++
        .header :: (List.range (((dumpQuad s q).list.length + 2047) / 2048)).map .list ∧
      ((dumpQuad s q).channelLost = false → (dumpQuad u q).left = l ∧ (dumpQuad u q).lost = (dumpQuad s q).lost) ∧
      ((dumpQuad s q).channelLost = true → (dumpQuad u q).left = [] ∧ (dumpQuad u q).lost = l.map ListEntry.granule) ∧
      u.dmp.eWave = diesInService s * (eGibOf s * 1000) / 65536 ∧
      u.dmp.eTail = (deltaPages s + 4 * nQuads s + diesInService s) * (eGibOf s * 1000) / 65536 ∧ OnlyIn [.dmp] s u)) ∧
  (∀ (s : State) (v : Nat) (ok : Bool), (s.spn.mode ≠ .dump → exec (.dumpProgramComplete v ok) s = .next s) ∧
    ((∀ q ∈ quadList s, ∀ e ∈ (dumpQuad s q).running, e.2 ≠ v) → (∀ e ∈ s.dmp.parity, e.1 ≠ v) → exec (.dumpProgramComplete v ok) s = .next s)) ∧
  (∀ (s : State) (v q : Nat), s.spn.mode = .dump → (quadList s).find? (fun x => (dumpQuad s x).running.any (fun e => e.2 = v)) = some q →
    exec (.dumpProgramComplete v false) s = .next (dumpKick (dumpDieLost (vpaCh v) (vpaDie v)
      (modVch (vpaCh v) (fun c => { c with progFail := satAdd 16 c.progFail 1 }) s))) ∧
    exec (.dumpProgramComplete v true) s = .next (dumpKick (dumpPassed q v s)) ∧
    ∃ t, dumpPassed q v s = t ∧ (dumpQuad t q).running = (dumpQuad s q).running.filter (fun e => e.2 ≠ v) ∧
      (dumpQuad t q).placed = (dumpQuad s q).placed ++ (dumpQuad s q).running.filter (fun e => e.2 = v) ∧
      t.shd.written = s.shd.written + 16384 ∧ t.shd.saved = s.shd.saved + 16384) ∧
  (∀ (s : State) (v : Nat), s.spn.mode = .dump → (∀ q ∈ quadList s, ∀ e ∈ (dumpQuad s q).running, e.2 ≠ v) → (∃ e ∈ s.dmp.parity, e.1 = v) →
    exec (.dumpProgramComplete v true) s = .next (dumpKick (countProgram v { s with
      dmp := { s.dmp with parity := s.dmp.parity.filter (fun e => decide (e.1 ≠ v)) }
      shd := { s.shd with written := s.shd.written + 16384, saved := s.shd.saved + 16384 } }))) ∧
  (∀ (s : State) (c d : Nat), (8 * c + d ∈ s.dmp.lostDies → dumpDieLost c d s = s) ∧
    (8 * c + d ∉ s.dmp.lostDies → ∃ t n, dumpDieLost c d s = t ∧ t.dmp.dieLoss = true ∧ t.dmp.lostDies = s.dmp.lostDies ++ [8 * c + d] ∧
      t.raised = s.raised ++ [⟨0x0606, 0x0E, [(4, n)]⟩] ∧ OnlyIn [.dmp, .vlt, .raised] s t)) ∧
  (∀ (s : State) (m : Sample), (s.spn.mode ≠ .dump → exec (.dumpEnergySample m) s = .next s) ∧
    (s.spn.mode = .dump → (∀ o ∈ s.ifc.waiting, ∀ r, o.work ≠ .finalSedge r) → ∃ t, exec (.dumpEnergySample m) s = .next t ∧
      t.dmp.eNow = (if t.nrg.anchor = .unanchored then t.nrg.eV else min t.nrg.eV t.nrg.eQ) ∧ t.nrg.vStore = m.vStore ∧
      (∀ q, dumpQuad t q = dumpQuad s q) ∧ OnlyIn [.evr, .ifc, .hlk, .wrp, .nrg, .aos, .dmp, .raised, .out, .free] s t)) ∧
  (∀ (s : State), (s.spn.mode = .dump → s.dmp.phase < 7 → s.dmp.inputGood = false → exec .dumpBounce s = .next { s with
      dmp := { s.dmp with bounce := true, inputGood := true }, raised := s.raised ++ [⟨0x0608, 0x0E, []⟩] }) ∧
    (s.spn.mode ≠ .dump ∨ 7 ≤ s.dmp.phase ∨ s.dmp.inputGood = true → exec .dumpBounce s = .next s)) ∧
  (∀ (s : State), (atFloor s = true ↔ s.dmp.eNow * 1000 < s.dmp.eWave) ∧
    (atTail s = true ↔ s.dmp.eNow * 1000 < s.dmp.eTail ∨ s.dmp.testFloor ≠ 0 ∧ s.nrg.vOcv < s.dmp.testFloor) ∧
    (s.dmp.floored = false → ∃ n, setFloored s = { s with dmp := { s.dmp with floored := true }, raised := s.raised ++ [⟨0x0605, 0x0E, [(2, n)]⟩] }) ∧
    (s.dmp.tailStop = false → ∃ n l, (tailReached s).dmp.tailStop = true ∧ (tailReached s).dmp.truncated = true ∧ (tailReached s).dmp.row = none ∧
      (∀ q, q < 4 → (dumpQuad (tailReached s) q).left = [] ∧
        (∀ g, .data g ∉ (dumpQuad (tailReached s) q).queue) ∧ (dumpQuad (tailReached s) q).lost = (dumpQuad s q).lost ++ dataWaiting (dumpQuad s q)) ∧
      (tailReached s).raised = s.raised ++ ⟨0x0604, 0x0E, [(4, n)]⟩ :: l)) ∧
  (∀ (s u : State), u = (quadList s).foldl (fun t q => modDumpQuad q dropWaiting t) s → ((closeDump s).2.dmp.complete = true ↔ allWritten u = true ∧ s.dmp.truncated = false ∧ s.dmp.floored = false ∧
    s.dmp.alarm = false ∧ s.dmp.media = false)) ∧
  (∀ (d : Dmp), outcomeByte d < 128 ∧ (outcomeByte d).testBit 0 = d.complete ∧ (outcomeByte d).testBit 1 = d.truncated ∧
    (outcomeByte d).testBit 2 = d.floored ∧ (outcomeByte d).testBit 3 = d.alarm ∧ (outcomeByte d).testBit 4 = d.media ∧
    (outcomeByte d).testBit 5 = d.bounce ∧ (outcomeByte d).testBit 6 = d.dieLoss)

/-- The refusals of the key commands in their order (R647). -/
def Obligations.KeyRefusals : Prop :=
  (∀ (s : State) (path : Path) (root i : Nat), i = s.cip.slotSel →
    (∀ (c : Instr) (conds : List (Nat × Bool)),
      (c = .load path ∧ conds = [(1, !holdsClasp s path), (10, decide (s.spn.mode = .dump)), (8, s.cip.alarmLatch), (11, decide (260 < i)),
          (9, decide (i = 256) || decide (256 ≤ i) && !tenantRoots s),
          (4, decide (i < 256) && (!defined s i || decide ((region s i).entry.key ≠ .native))),
          (7, decide ((slotOf s i).st = .on) || decide ((slotOf s i).st = .starting)),
          (2, (List.range (if i < 256 then 12 else 8)).any (fun k => !(s.cip.staging.any (fun e => e.1 = k)))),
          (3, decide (i < 256) && decide ((List.range 4).map (tget 0 s.cip.staging ·) = (List.range 4).map (fun k => tget 0 s.cip.staging (k + 4))))] ∨
       c = .derive path root ∧ conds = [(1, !holdsClasp s path), (10, decide (s.spn.mode = .dump)), (8, s.cip.alarmLatch), (11, decide (260 < i)),
          (9, decide (256 ≤ i) || decide (4 < root % 8) || decide ((slotOf s (256 + root % 8)).st ≠ .on)),
          (4, !defined s i || decide ((region s i).entry.key ≠ .derived)), (5, decide ((region s i).life ≠ .offline)),
          (7, decide ((slotOf s i).st = .on) || decide ((slotOf s i).st = .starting))] ∨
       c = .unload path ∧ conds = [(1, !holdsClasp s path), (10, decide (s.spn.mode = .dump)), (11, decide (260 < i)), (9, decide (i = 256)),
          (5, decide (i < 256) && defined s i && decide ((region s i).life ≠ .offline))] ∨
       c = .clearStaging path ∧ conds = [(1, !holdsClasp s path), (10, decide (s.spn.mode = .dump))]) →
      (∀ e ∈ s.cip.staging, e.2 < 0x10000000000000000) →
      (∀ e, conds.find? (fun x => x.2) = some e → ∃ t, exec c s = .next (dropHalf path t) ∧
        t.raised = s.raised ++ (if e.1 = 1 then [⟨0x0B03, 0x07, [(1, pathCode path)]⟩] else []) ++ [⟨0x0B02, 0x07, [(2, i), (1, e.1)]⟩] ∧
        t.cip = { s.cip with
          slots := s.cip.slots.modify i (fun k => { k with result := e.1 }), keyRefused := satAdd 16 s.cip.keyRefused 1
          refused := if e.1 = 1 then satAdd 8 s.cip.refused 1 else s.cip.refused } ∧ OnlyIn [.cip, .raised] s t) ∧
      (conds.find? (fun x => x.2) = none → ∃ t, exec c s = .next (dropHalf path t) ∧ OnlyIn [.cip, .raised] s t ∧
        (∀ v ∈ t.raised.drop s.raised.length, v.id = 0x0B01) ∧ (c ≠ .clearStaging path → i < s.cip.slots.length → (slotOf t i).result = 0)))) ∧
  (∀ (s : State) (i : Nat), i < 256 → i < s.cip.slots.length →
    ((slotOf s i).kcv ≠ 0 → (slotOf s i).kcv ≠ keyCheck (stageKey s i) → regionHasData s i = true → (slotOf (rekeyEnd i s) i).result = 6) ∧
    ((slotOf s i).kcv = 0 ∨ (slotOf s i).kcv = keyCheck (stageKey s i) ∨ regionHasData s i = false →
      (slotOf (rekeyEnd i s) i).result = (slotOf s i).result))

/-- UNLOAD (R446). -/
def Obligations.Unload : Prop :=
  (∀ (s : State) (path : Path) (i : Nat), i = s.cip.slotSel → holdsClasp s path = true → s.spn.mode ≠ .dump → i < 256 → i < s.cip.slots.length →
    (defined s i = true → (region s i).life ≠ .offline → ∃ t, exec (.unload path) s = .next (dropHalf path t) ∧ (slotOf t i).result = 5 ∧
      (slotOf t i).st = (slotOf s i).st ∧ (slotOf t i).key = (slotOf s i).key ∧ t.raised = s.raised ++ [⟨0x0B02, 0x07, [(2, i), (1, 5)]⟩]) ∧
    (defined s i = false ∨ (region s i).life = .offline → ∃ t, exec (.unload path) s = .next (dropHalf path t) ∧ (slotOf t i).result = 0 ∧
      ((slotOf s i).st = .on → slotBusy s i = false → (slotOf s i).reArm = false → (slotOf t i).st = .off ∧ (slotOf t i).key = []) ∧
      ((slotOf s i).st = .on → slotBusy s i = true → (slotOf t i).st = .stopping ∧ (slotOf t i).key = (slotOf s i).key) ∧
      ((slotOf s i).st = .starting → (slotOf t i).st = .off ∧ (slotOf t i).key = []))) ∧
  (∀ (s : State) (path : Path) (i : Nat), i = s.cip.slotSel → holdsClasp s path = true → s.spn.mode ≠ .dump → 256 < i → i ≤ 260 →
    i < s.cip.slots.length → ∃ t, exec (.unload path) s = .next (dropHalf path t) ∧ (slotOf t i).result = 0 ∧
      (∀ j, j ≠ i → slotOf t j = slotOf s j) ∧ (∀ e ∈ t.raised.drop s.raised.length, e.id = 0x0B01) ∧ OnlyIn [.cip, .raised] s t ∧
      ((slotOf s i).st = .on → slotBusy s i = false → (slotOf s i).reArm = false → (slotOf t i).st = .off ∧ (slotOf t i).key = []))

/-- The cipher engine's commands (R429 to R464). The model's own choices in it: log 69, 70, 85, 143. -/
def Obligations.CipherEngine : Prop :=
  (∀ (s : State) (path : Path) (v k width x : Nat), s.spn.mode = .dump →
    exec (.claspWrite path v) s = .next (dropHalf path s) ∧ exec (.keyDataWrite path k width x) s = .next (dropHalf path s) ∧
    exec .topup s = .next s ∧ exec .compact s = .next s) ∧
  (∀ (s : State) (path : Path) (v p : Nat), s.spn.mode ≠ .dump → p = ownerId path →
    (p ≠ 0 → s.cip.owner = 0 → v = p → exec (.claspWrite path v) s =
      .next (dropHalf path { s with cip := { s.cip with owner := p }, raised := s.raised ++ [⟨0x0B04, 0x07, [(1, p)]⟩] })) ∧
    (p ≠ 0 → s.cip.owner = p → v = 0 → exec (.claspWrite path v) s =
      .next (dropHalf path { s with cip := { s.cip with owner := 0, staging := [] }, raised := s.raised ++ [⟨0x0B04, 0x07, [(1, p)]⟩] })) ∧
    (p = 0 ∨ ¬ (s.cip.owner = 0 ∧ v = p) ∧ ¬ (s.cip.owner = p ∧ v = 0) → exec (.claspWrite path v) s =
      .next (dropHalf path { s with cip := { s.cip with refused := satAdd 8 s.cip.refused 1 }, raised := s.raised ++ [⟨0x0B03, 0x07, [(1, pathCode path)]⟩] }))) ∧
  (∀ (s : State), (s.cip.owner = 0 → exec .claspTimeout s = .next s) ∧
    (s.cip.owner ≠ 0 → exec .claspTimeout s = .next { s with
      cip := { s.cip with owner := 0, staging := [] }, raised := s.raised ++ [⟨0x0B04, 0x07, [(1, s.cip.owner)]⟩] })) ∧
  (∀ (s : State) (path : Path) (k x : Nat), s.spn.mode ≠ .dump → k < 12 →
    (holdsClasp s path = true → exec (.keyDataWrite path k 8 x) s =
        .next (dropHalf path { s with cip := { s.cip with staging := tins k (x % 2 ^ 64) s.cip.staging } }) ∧
      exec (.keyDataWrite path k 4 x) s = .next (dropHalf path { s with
        cip := { s.cip with refused := satAdd 8 s.cip.refused 1 }, raised := s.raised ++ [⟨0x0B03, 0x07, [(1, pathCode path)]⟩] })) ∧
    (holdsClasp s path = false → ∀ w, exec (.keyDataWrite path k w x) s =
      .next (dropHalf path (claspRefuse path (modSlot s.cip.slotSel (fun k => { k with result := 1 }) s))))) ∧
  (∀ (s : State) (path : Path) (i : Nat), holdsClasp s path = true → s.spn.mode ≠ .dump → i = s.cip.slotSel →
    exec (.clearStaging path) s = .next (dropHalf path (modSlot i (fun k => { k with result := 0 }) { s with cip := { s.cip with staging := [] } })) ∧
    (commonRefusal s path i true = none → loadRefusal s i = none → exec (.load path) s = .next (dropHalf path
      (acceptKey i (.native ((List.range (wordsNeeded i)).flatMap (fun k => leBytes 8 (tget 0 s.cip.staging k)))) { s with cip := { s.cip with staging := [] } }))) ∧
    (∀ root, commonRefusal s path i true = none → deriveRefusal s i (root % 8) = none → exec (.derive path root) s =
      .next (dropHalf path (acceptKey i (.derived (root % 8)) { s with cip := { s.cip with cmdRoot := root % 8 } })))) ∧
  (∀ (s : State) (i : Nat) (k : KeyStage), i < s.cip.slots.length → ∃ u, u = modSlot i (fun x => { x with stage := some k, result := 0 }) s ∧
    ((slotOf s i).st = .stopping → acceptKey i k s = modSlot i (fun x => { x with reArm := true }) u) ∧
    ((slotOf s i).st = .off → acceptKey i k s = cipSubmit ⟨match k with | .native _ => .rekey | .derived _ => .derive, .service, i, 0, 0⟩ (raise 0x0B01 0x07 [(2, i), (1, 0), (1, 1)] (modSlot i (fun x => { x with st := .starting }) u)))) ∧
  (∀ (s : State) (o : CipOp), (∀ c, coreFor s o.quad = some c → cipSubmit o s = { s with cip := { s.cip with cores := s.cip.cores.set c (some o) } }) ∧
    (coreFor s o.quad = none → cipSubmit o s = { s with cip := { s.cip with queue := s.cip.queue ++ [o] } })) ∧
  (∀ (s : State) (i c : Nat), ((∀ x, x < 8 → ∀ o, s.cip.cores.getD x none = some o → o.kind ≠ .rekey ∨ o.slot ≠ i) → exec (.rekeyDone i) s = .next s) ∧
    (coreOf s (fun o => o.kind = .rekey && o.slot = i) = some c → ∃ u, u = cipFinish c s ∧
      ((slotOf u i).st = .starting → (slotOf u i).binding = none → (slotOf u i).stage ≠ none → exec (.rekeyDone i) s = .next (rekeyEnd i u)) ∧
      ((slotOf u i).st ≠ .starting ∨ (slotOf u i).binding ≠ none ∨ (slotOf u i).stage = none → exec (.rekeyDone i) s = .next u))) ∧
  (∀ (s : State) (c v : Nat) (ok : Bool), (s.cip.cores.getD c none = none → exec (.cipherOpComplete c ok v) s = .next s) ∧
    (∀ o, s.cip.cores.getD c none = some o →
      (o.kind = .encrypt → exec (.cipherOpComplete c ok v) s = .next (cipFinish c s)) ∧
      (o.kind = .decrypt →
        (ok = true → (∀ p, pageAt s v = some p → tagMatches s v p = true) → exec (.cipherOpComplete c ok v) s = .next (cipFinish c s)) ∧
        (ok = false ∨ (∃ p, pageAt s v = some p ∧ tagMatches s v p = false) → exec (.cipherOpComplete c ok v) s = .next (cipFinish c { s with
          cip := { s.cip with tagFails := satAdd 16 s.cip.tagFails 1 }, raised := s.raised ++ [⟨0x0B0A, 0x07, [(4, v)]⟩] }))) ∧
      (o.kind = .derive → ∃ u, u = cipFinish c s ∧
        ((slotOf u o.slot).st = .starting → (slotOf u o.slot).stage ≠ none →
          exec (.cipherOpComplete c ok v) s = .next (cipSubmit ⟨.rekey, .service, o.slot, 0, 0⟩ u)) ∧
        ((slotOf u o.slot).st ≠ .starting ∨ (slotOf u o.slot).stage = none → exec (.cipherOpComplete c ok v) s = .next u)) ∧
      (o.kind = .rekey → exec (.cipherOpComplete c ok v) s = .next s))) ∧
  (∀ (s : State) (c : Nat), (8 ≤ c ∨ s.cip.coresOk.testBit c = false → exec (.coreFault c) s = .next s) ∧
    (c < 8 → s.cip.coresOk.testBit c = true → ∃ u, u.raised = s.raised ++ [⟨0x0B0E, quadUnit (c / 2) 3, [(1, c)]⟩] ∧
      u.cip = { s.cip with coresOk := clearBit s.cip.coresOk c, cores := s.cip.cores.set c none, coreFaults := satAdd 16 s.cip.coreFaults 1 } ∧
      OnlyIn [.cip, .raised] s u ∧ (s.cip.cores.getD c none = none → exec (.coreFault c) s = .next u) ∧
      (∀ o, s.cip.cores.getD c none = some o → exec (.coreFault c) s = .next (cipSubmit o u)))) ∧
  (∀ (s : State) (i : Nat), s.spn.mode ≠ .dump → i = s.cip.slotSel →
    (256 ≤ i ∨ s.cip.exhausted = true ∨ 2 ^ 23 ≤ unusedRsv (slotOf s i) → exec .topup s = .next s) ∧
    (i < 256 → s.cip.exhausted = false → unusedRsv (slotOf s i) < 2 ^ 23 →
      (s.nrg.quagOk = true → exec .topup s = .next (ifcAsk ⟨.cip, 0, .nonce ⟨1, i, 0, s.cip.entrySeq + 1, (slotOf s i).mark + 2 ^ 22, 0⟩, 0⟩
        { s with cip := { s.cip with entrySeq := s.cip.entrySeq + 1 } })) ∧
      (s.nrg.quagOk = false → exec .topup s = .next { s with
        aos := { s.aos with marks := sins i s.aos.marks }, raised := s.raised ++ [⟨0x0B07, 0x07, [(1, 1), (1, i)]⟩] })) ∧
    (s.cip.compactBusy = true → exec .compact s = .next { s with cip := { s.cip with compactGo := true } }) ∧
    (s.cip.compactBusy = false → ∃ n u, n = 720 + 8 * (1 - s.cip.activeHalf) ∧ u = ifcAsk ⟨.cip, 0, .eraseSector n, 0⟩
      { s with cip := { s.cip with compactBusy := true, compactGo := false, compactSector := n } } ∧ u.cip.compactBusy = true ∧
      exec .compact s = .next { u with cip := { u.cip with compactGo := true } })) ∧
  (∀ (s : State) (src : Nat), s.pwr.corePg = true →
    (alarmEnabled s src = true → exec (.alarm src) s = .next (alarmFire src s)) ∧ (alarmEnabled s src = false → exec (.alarm src) s = .next s) ∧
    (src = 2 ∨ src = 3 → alarmEnabled s src = true) ∧ (5 ≤ src → alarmEnabled s src = false) ∧
    (src = 0 ∨ src = 1 ∨ src = 4 → alarmEnabled s src = s.img.active.security.alarmEn.testBit src)) ∧
  (∀ (s : State) (cool : Bool), (s.pwr.corePg = false ∨ s.cip.alarmLatch = false ∨ s.cip.alarmNow.testBit 2 = true ∧ cool = false ∨
      s.cip.alarmSrc.testBit 4 = true ∧ s.pwr.tamperFilter.st = .asserted → exec (.alarmAck cool) s = .next s) ∧
    (s.pwr.corePg = true → s.cip.alarmLatch = true → (s.cip.alarmNow.testBit 2 = true → cool = true) →
      (s.cip.alarmSrc.testBit 4 = true → s.pwr.tamperFilter.st ≠ .asserted) →
      exec (.alarmAck cool) s = .next (deriveBound 0 (loadOtpRoot { s with cip := { s.cip with alarmLatch := false, alarmSrc := 0, alarmNow := 0 } })))) ∧
  (∀ (s : State) (src i : Nat), s.spn.mode ≠ .dump → serving s = false → i ≤ 260 → (∀ o ∈ s.cip.cores, o = none) → s.cip.queue = [] →
    (slotOf (alarmFire src s) i).st = .off ∧ (slotOf (alarmFire src s) i).key = [] ∧ (alarmFire src s).cip.staging = [] ∧ (alarmFire src s).cip.owner = 0 ∧
    (alarmFire src s).cip.alarmLatch = true ∧ (alarmFire src s).cip.alarmSrc = setBit s.cip.alarmSrc src)

/-- The Tussock allocator (R469 to R480; the buffer granted is free, log 5).
The model's own choices in it: log 5, 68, 144. -/
def Obligations.Allocator : Prop :=
  (∀ (s : State) (l : List AllocReq), (s.tsk.unit = .off → exec (.alloc l) s = .next s) ∧
    (s.tsk.unit ≠ .off → ∃ m t u, m = l.mergeSort (fun a b => allocRank a ≤ allocRank b) ∧ (t, u) = allocFirst m s ∧
      exec (.alloc l) s = .next (u.foldl (fun x r => spillSearch r (poolFor r.size) 4 (poolFor r.size) x) t))) ∧
  (∀ (s : State) (r : AllocReq), s.tsk.unit ≠ .off →
    (mayRequest r = false ∨ r.size = 0 ∨ 16384 < r.size → exec (.alloc [r]) s = .next (tskReject r.requester 0 3 s)) ∧
    (mayRequest r = true → 0 < r.size → r.size ≤ 16384 →
      (r.requester < 4 → r.cls = .shadow → 64 ≤ shadowHeld s r.requester → exec (.alloc [r]) s = .next (tskEmpty r (poolFor r.size) s)) ∧
      (4 ≤ r.requester ∨ r.cls ≠ .shadow ∨ shadowHeld s r.requester < 64 →
        (∀ p, findBuffer s r (poolFor r.size) = some p → ∃ t, exec (.alloc [r]) s = .next t ∧ descOf t p = ⟨1, 1, classCode r.cls, 2 ^ r.requester⟩ ∧
          (∀ x, x ≠ p → descOf t x = descOf s x) ∧ t.out = s.out ++ [.granted r.requester p] ∧ OnlyIn [.tsk, .out, .free] s t) ∧
        (findBuffer s r (poolFor r.size) = none → exec (.alloc [r]) s = .next (spillSearch r (poolFor r.size) 4 (poolFor r.size) s))))) ∧
  (∀ (s : State) (r : AllocReq) (i p : Nat), findBuffer s r i = some p → ∃ q, p ∈ poolPtrs s q i ∧ (descOf s p).dstate = 0 ∧ s.tsk.slices.getD q .off = .on ∧
    (i = 3 → r.cls ≠ .dump → r.cls ≠ .restore → s.tsk.saveRsv < (freePtrs s q 3).length)) ∧
  (∀ (n : Nat), 0 < n → n ≤ 16384 → n ≤ poolBuf (poolFor n) ∧ (∀ i, i < poolFor n → poolBuf i < n)) ∧
  (∀ (s : State) (r : AllocReq) (first n i : Nat),
    (∀ p, findBuffer s r i = some p → i ≠ first → spillSearch r first (n + 1) i s =
      tskGrant r p { s with tsk := { s.tsk with spills := s.tsk.spills.modify first (fun k => satAdd 16 k 1) } }) ∧
    (findBuffer s r i = none → i < 3 → (carvingOf s 0).spill.getD i false = true → spillSearch r first (n + 1) i s = spillSearch r first n (i + 1) s) ∧
    (findBuffer s r i = none → (3 ≤ i ∨ (carvingOf s 0).spill.getD i false = false) → spillSearch r first (n + 1) i s = tskEmpty r i s)) ∧
  (∀ (s : State) (r : AllocReq) (i : Nat), ∃ t, tskEmpty r i s = t ∧ t.out = s.out ++ [.poolEmpty r.requester] ∧
    t.tsk.emptyCnt = s.tsk.emptyCnt.modify i (fun n => satAdd 16 n 1) ∧ t.tsk.descs = s.tsk.descs ∧
    t.raised = s.raised ++ [⟨0x0C02, 0x08, [(1, i), (1, classCode r.cls)]⟩] ∧
    OnlyIn [.tsk, .raised, .out] s t) ∧
  (∀ (s : State) (r p c : Nat), ∃ t, tskReject r p c s = t ∧ t.tsk.descs = s.tsk.descs ∧ t.out = s.out ++ [.rejected r] ∧ t.tsk.cause = c ∧
    t.raised = s.raised ++ [⟨0x0C01, 0x08, [(1, r), (3, p), (1, c)]⟩] ∧ OnlyIn [.tsk, .raised, .out] s t) ∧
  (∀ (s : State) (by_ dest p : Nat) (d : Desc), d = descOf s p → ptrPool s p ≠ none → d.refcnt = popCount 16 d.holders → by_ < 12 → d.dstate ≠ 2 →
    (d.refcnt = 0 → exec (.share by_ dest p) s = .next (tskReject by_ p 2 s) ∧ exec (.release by_ p) s = .next (tskReject by_ p 2 s)) ∧
    (d.refcnt ≠ 0 → d.holders.testBit by_ = false → exec (.share by_ dest p) s = .next (tskReject by_ p 1 s) ∧
      exec (.release by_ p) s = .next (tskReject by_ p 1 s)) ∧
    (d.refcnt ≠ 0 → d.holders.testBit by_ = true →
      ((12 ≤ dest ∨ d.holders.testBit dest = true) → exec (.share by_ dest p) s = .next (tskReject by_ p 4 s)) ∧
      (dest < 12 → d.holders.testBit dest = false → exec (.share by_ dest p) s = .next { s with
        tsk := { s.tsk with descs := tput freshDesc s.tsk.descs p { d with refcnt := d.refcnt + 1, holders := setBit d.holders dest } } }) ∧
      ∃ t, exec (.release by_ p) s = .next t ∧ t = tskRelease by_ p s)) ∧
  (∀ (s : State) (by_ dest p : Nat), ptrPool s p = none →
    exec (.share by_ dest p) s = .next (tskReject by_ p 3 s) ∧ exec (.release by_ p) s = .next (tskReject by_ p 3 s)) ∧
  (∀ (s : State) (r p : Nat) (d : Desc), d = descOf s p → ∃ t, tskRelease r p s = t ∧ OnlyIn [.tsk] s t ∧ (∀ x, x ≠ p → descOf t x = descOf s x) ∧
    (descOf t p).refcnt = d.refcnt - 1 ∧ (descOf t p).holders = clearBit d.holders r ∧
    (d.dstate ≠ 2 → d.refcnt ≤ 1 → (descOf t p).dstate = 0) ∧ (d.dstate ≠ 2 → 2 ≤ d.refcnt → (descOf t p).dstate = 1) ∧
    (d.dstate = 2 → (descOf t p).dstate = 2)) ∧
  (∀ (s : State) (p : Nat) (d : Desc), d = descOf s p → d.dstate ≠ 2 → d.refcnt ≠ popCount 16 d.holders →
    ∃ t, descCheck p s = t ∧ (descOf t p).dstate = 2 ∧ t.tsk.quarantined = satAdd 8 s.tsk.quarantined 1 ∧
      t.raised = s.raised ++ [⟨0x0C05, 0x08, [(3, p), (1, 1)]⟩] ∧ OnlyIn [.tsk, .raised] s t)

/-- Integrity (R26, R177, R596 to R601, R604, R607, R609). The model's own choices in it: log 99, 101, 102, 106, 122, 130. -/
def Obligations.IntegrityCommands : Prop :=
  (∀ (s : State) (l : List SramWord), (s.pwr.corePg = false → exec (.sramScrub l) s = .next s) ∧
    (s.pwr.corePg = true → exec (.sramScrub l) s = .next (((l ++ (quadList s).flatMap (plantedWords s)).filter (fun w => decide (w.quad < 4) && decide (w.addr < sramWords w.array))).foldl
      (fun t w => sramFinding w t) { s with qdc := s.qdc.map (fun d => { d with sramPlanted := [] }) }))) ∧
  (∀ (s : State) (w : SramWord), (w.bad = false → sramFinding w s = raise 0x1106 (sramUnit w) [(1, sramCode w.array)] (sramCount w s)) ∧
    (w.bad = true → sramFinding w s = sramOwner w (raise 0x1107 (sramUnit w) [(1, sramCode w.array), (4, w.addr)] (sramCount w s))) ∧
    (w.array ≠ .gst → w.array ≠ .staging → sramCount w s = s) ∧
    (w.array = .gst ∨ w.array = .staging → w.quad < s.qdc.length → qdcOf (sramCount w s) w.quad = (if w.bad = true
      then { qdcOf s w.quad with sramUe := satAdd 16 (qdcOf s w.quad).sramUe 1 }
      else { qdcOf s w.quad with sramCe := satAdd 32 (qdcOf s w.quad).sramCe 1 }) ∧ OnlyIn [.qdc] s (sramCount w s)) ∧
    (w.array = .staging ∨ w.array = .cipher ∨ w.array = .manifest ∨ w.array = .regions ∨ w.array = .mapCache → sramOwner w s = s) ∧
    (w.array = .replay → s.kor.state ≠ .deciding ∨ s.kor.asking = true → sramOwner w s = s) ∧
    (w.array = .replay → s.kor.state = .deciding → s.kor.asking = false → sramOwner w s = takeoverResume (askWitness .decision { s with
      kor := { s.kor with retrain := 2, asking := true, trained := false, up := false, width := 0 } })) ∧
    (w.array = .management → sramOwner w s = lockstepReset s) ∧ (w.array = .aos → sramOwner w s = aosWordLost w.addr s) ∧
    (w.array = .descriptor → ptrPool s w.addr ≠ none → (descOf s w.addr).dstate ≠ 2 → (descOf (sramOwner w s) w.addr).dstate = 2 ∧
      (sramOwner w s).raised = s.raised ++ [⟨0x0C05, 0x08, [(3, w.addr), (1, 0)]⟩])) ∧
  (∀ (s : State) (q a : Nat), s.spn.mode ≠ .dump → s.spn.quadEn.testBit q = true → granuleAt s q (16 * a + 15) < hdmGranules s →
    ∃ v, gstWordLost q a s = settle (refreshConditions false (raise 0x030C (quadUnit q 1) [(4, granuleAt s q (16 * a))] v)) ∧
      (∀ k, k < 16 → gstate v (granuleAt s q (16 * a + k)) = .dirty ∧ granuleAt s q (16 * a + k) ∈ v.gst.rsv) ∧
      (∀ g, (∀ k, k < 16 → g ≠ granuleAt s q (16 * a + k)) → gword v g = gword s g)) ∧
  (∀ (s : State) (q : Nat) (e again : List SymErr) (r : ReservedWord), (patrolRuns s q = false → exec (.patrolRead q e again r) s = .next s) ∧
    (patrolRuns s q = true → ∃ u cl g line, cl = (qdcOf s q).patrolLine ∧ g = granuleAt s q (cl / 256) ∧ line = g * 256 + cl % 256 ∧
      u = patrolNext q (if armedFor s q 2 = true then planted q 2 s else s) ∧
      (hdmGranules s ≤ g → exec (.patrolRead q e again r) s = .next (patrolReserved q cl (patrolErrs s q e) again r u)) ∧
      (g < hdmGranules s → ∃ t, t = readEffects line false again (readLine u line (patrolErrs s q e)) u ∧
        ((qdcOf t q).state = 3 → exec (.patrolRead q e again r) s = .next (lifeFollow t)) ∧
        ((qdcOf t q).state ≠ 3 → exec (.patrolRead q e again r) s = .next (settle t)) ∧
        ((readLine u line (patrolErrs s q e)).fixed = [] → (readLine u line (patrolErrs s q e)).poisoned = false → t = u)))) ∧
  (∀ (s : State) (q : Nat), q < s.qdc.length → OnlyIn [.qdc] s (patrolNext q s) ∧
    ((qdcOf s q).patrolLine + 1 < chLines s → qdcOf (patrolNext q s) q = { qdcOf s q with patrolLine := (qdcOf s q).patrolLine + 1 }) ∧
    (chLines s ≤ (qdcOf s q).patrolLine + 1 → qdcOf (patrolNext q s) q =
      { qdcOf s q with patrolLine := 0, passes := satAdd 32 (qdcOf s q).passes 1, corrected := [], persist := [] })) ∧
  (∀ (s : State) (q : Nat), (s.pwr.corePg = false ∨ s.spn.quadEn.testBit q = false →
      exec (.sdeStallTimeout q) s = .next s ∧ exec (.sdeParityError q) s = .next s) ∧
    (domainStopped s (dQeng q) = true → exec (.sdeStallTimeout q) s = .next s) ∧
    (s.pwr.corePg = true → s.spn.quadEn.testBit q = true → exec (.sdeParityError q) s = .next (sdeFail q s) ∧
      (domainStopped s (dQeng q) = false → exec (.sdeStallTimeout q) s = .next (sdeFail q s)))) ∧
  (∀ (s : State) (q : Nat), ((roleOf s (quadUnit q 2)).state = .failed → sdeFail q s = s) ∧
    ((roleOf s (quadUnit q 2)).state ≠ .failed → ∃ u v l, u = setUnitState (quadUnit q 2) .failed s ∧
      l = (List.range 4).flatMap (fun k => (List.range 8).flatMap (fun d => runningOn s (4 * q + k) d)) ∧
      (coverFor u q = none → v = u) ∧
      (∀ p, coverFor u q = some p → v = changeRole (quadUnit p 2) (roleOf u (quadUnit p 2)).func
        ((roleOf u (quadUnit p 2)).cover ||| (roleOf s (quadUnit q 2)).cover) .active u) ∧
      (s.spn.mode = .dump → sdeFail q s = dumpKick (dumpResume q v)) ∧ (s.spn.mode ≠ .dump → sdeFail q s = streamFollow s (dieProgramsFail l v)))) ∧
  (∀ (s : State) (q : Nat) (d : Qdc), d = qdcOf s q →
    (s.spn.mode ≠ .boot ∧ s.spn.mode ≠ .test ∨ s.pwr.corePg = false ∨ 4 ≤ q ∨ 9 < d.setChip ∨ (∃ e ∈ d.marks, e.1 = d.setSlot) →
      exec (.markSet q) s = .next s) ∧
    (s.spn.mode = .boot ∨ s.spn.mode = .test → s.pwr.corePg = true → q < 4 → d.setChip ≤ 9 → (∀ e ∈ d.marks, e.1 ≠ d.setSlot) → q < s.qdc.length →
      ∃ t, exec (.markSet q) s = .next t ∧ qdcOf t q = { d with marks := tins d.setSlot d.setChip d.marks } ∧
        t.raised = s.raised ++ [⟨0x1104, quadUnit q 0, [(1, q), (1, d.setSlot), (1, d.setChip)]⟩] ∧ OnlyIn [.qdc, .raised] s t)) ∧
  (∀ (s : State) (q n : Nat), n = (qdcOf s q).target →
    (s.spn.mode ≠ .test ∨ s.spn.quadEn.testBit q = false ∨ n = 0 ∨ 8 < n → exec (.injectArm q) s = .next s) ∧
    (s.spn.mode = .test → s.spn.quadEn.testBit q = true →
      (1 ≤ n → n ≤ 5 → exec (.injectArm q) s = .next (modQdc q (fun d => { d with armed := true }) s)) ∧
      (n = 6 → exec (.injectArm q) s = .next (lifeFollow (fenceQuad q 3 (planted q 6 s)))) ∧
      (n = 7 → exec (.injectArm q) s = .next (sdeFail q (planted q 7 s))) ∧ (n = 8 → exec (.injectArm q) s = .next (coreFail (2 * q) (planted q 8 s)))) ∧
    (planted q n s).raised = s.raised ++ [⟨0x110B, quadUnit q 0, [(1, n)]⟩])

/-- The boot commands, the role table, the link, host memory accesses and the first mailbox commands complete with their own effect: one
clause a form, its conditions on the state and operands alone (20 R614; 02 R85; 09 R305; 01 R29; 01 R30; 01 R11; 03 R105; 03 R114; 03
R115; 03 R122; 04 R134; 03 R124). The model's own choices in it: log 4, 11, 27, 129. -/
def Obligations.CompleteBootLinkAndMemory : Prop :=
  (∀ (s : State) (id : Nat) (headcap test : Bool), s.pwr.corePg = true → s.pwr.strapped = false →
    exec (.strapSample id headcap test) s = .next
    ({ s with pwr := { s.pwr with strapped := true, testStrap := test }, cwy := { s.cwy with strapId := id % 64, strapHeadcap := headcap, myId := id % 64, headCapable := headcap } })) ∧
  (∀ (s : State) (cert : Bool), s.spn.mode = .boot → s.pwr.corePg = true → s.img.bootStep = 0 → s.sig.stage = 1 →
    (openStarts s = [] ∨ s.nrg.quagOk = true) → exec (.imageApply cert) s = .next (loaderStage s)) ∧
  (∀ (s : State) (okMask : Nat) (u v : State), s.spn.mode = .boot → s.img.bootStep = 5 → channelsTrained okMask s = u →
    useFree { u with gst := { u.gst with dram := [], poison := [], deliberate := [] }, kor := { u.kor with mepoch := Config.random u.free % 2 ^ 32 }, pwr := { u.pwr with vltEn := !u.pwr.vaultOff } } = v →
    exec (.dramTrainingDone okMask) s = .next
    (domainsOn (engDomains v) { v with vch := v.vch.zipIdx.map (fun (e : Vch × Nat) => if populated v e.2 then { e.1 with state := 1 } else e.1), img := { v.img with bootStep := 6 } })) ∧
  (∀ (s : State) (badDies : List (Nat × Nat)) (badCh factory : List Nat) (readable fresh : Bool), s.spn.mode = .boot →
    s.img.bootStep = 6 → exec (.vaultInitDone badDies badCh factory readable fresh) s = .next
    (compareVault readable factory (channelsUp (initFailures badDies badCh (manifestFailures (if fresh then { s with vlt := {}, vch := s.vch.map (fun v => { v with factoryBad := List.replicate 8 0 }) } else s)))))) ∧
  (∀ (s : State) (ck scan : Bool) (noMark noHeader : List (Nat × Nat)) (unread : List Nat), s.spn.mode = .boot →
    s.img.bootStep = 15 → vaultLive s = true → (readopt (dumpRegsLoad s)).vlt.ckpt.isSome = true → ck = true →
    exec (.mapLoaded ck scan noMark noHeader unread) s = .next
    (settle (bulkFollow (pairFollows (finishBoot .restore 0x0703 (restoreBegins 1 false ⟨noMark, noHeader, unread⟩ (mergeFrom (readopt (dumpRegsLoad s)) ⟨noMark, noHeader, unread⟩ (((readopt (dumpRegsLoad s)).vlt.ckpt.map Ckpt.seq).getD 0) (((readopt (dumpRegsLoad s)).vlt.ckpt.map Ckpt.map).getD [])) (readopt (dumpRegsLoad s)))))))) ∧
  (∀ (s : State) (m : XMsg) (bad : Nat), s.pwr.corePg = true → m.target < 48 → m.source < 48 → roleMatches s m = true → bad = 0 →
    exec (.messageArrival m bad) s = .next (send (.xbarAccept m false) (setBounces m 0 s))) ∧
  (∀ (s : State) (m : XMsg), (bounceCount s m = 1 ∨ bounceCount s m = 2) → exec (.staleRole m) s = .next
    (send (.xbarResend { m with target := resolveRole s m, role := (roleOf s (resolveRole s m)).func, gen := (roleOf s (resolveRole s m)).gen }) s)) ∧
  (∀ (s : State) (func cover : Nat), s.pwr.corePg = true → s.spn.mode = .test → s.spn.roleIdx ≤ 0x2F →
    exec (.roleDataWrite func cover) s = .next (changeRole s.spn.roleIdx (func % 64) (cover % 16) (roleOf s s.spn.roleIdx).state s)) ∧
  (∀ (s : State) (path : Path) (addr width value : Nat) (fact : Bool), s.pwr.corePg = true → accessOk addr width = true →
    (addr < 0x300000 ∨ 0x400000 ≤ addr) → exec (.registerWrite path addr width value fact) s = .next
    (localWrite path addr width value fact (dropHalf path s))) ∧
  (∀ (s : State) (path : Path) (addr width : Nat), s.pwr.corePg = true → accessOk addr width = true →
    (addr < 0x300000 ∨ 0x400000 ≤ addr) → exec (.rcRead path addr width) s = .next (localRead path addr width s)) ∧
  (∀ (s : State) (speed width : Nat) (u : State), s.hlk.presented = true → s.hlk.perst = false →
    { s with hlk := { s.hlk with linkUp := true, speed := speed, width := width, degraded := decide (speed < 5) || decide (width < 8), retrains := satAdd 16 s.hlk.retrains (if s.hlk.linkUp then 1 else 0), sris := s.img.active.clocks.hostRef == 1 } } = u →
    exec (.linkUp speed width) s = .next
    ((if speed < 5 ∨ width < 8 then raise 0x020A 0x01 [] (raise 0x0201 0x01 [(1, speed), (1, width)] u) else raise 0x0201 0x01 [(1, speed), (1, width)] u))) ∧
  (∀ (s : State) (n base size ways skip : Nat) (d : Decoder), (decoders s)[n]? = some d → s.hlk.presented = true →
    d.committed = false → commitOk n base size ways skip s = true → exec (.hdmDecoderCommit n base size ways skip) s = .next
    (putDecoder n ⟨base, size, ways, skip, true, false⟩ s)) ∧
  (∀ (s : State) (n : Nat) (d : Decoder), (decoders s)[n]? = some d → d.committed = true →
    ((decoders s)[n + 1]?).any Decoder.committed = false → exec (.hdmDecoderUncommit n) s = .next
    (putDecoder n { d with committed := false, errNotCommitted := false } s)) ∧
  (∀ (s : State) (tag hpa line mask r : Nat) (data : BitVec 512) (bad : Bool), s.hlk.linkUp = true → dpaLine s hpa = some line →
    0 < s.hlk.rwdFree → s.hlk.writes.any (fun w => w.tag = tag) = false → s.hlk.ingressClosed = false →
    accessServed s (granuleOf line) = true → regionOf s (granuleOf line) = some r → bad = false →
    exec (.memWrite tag hpa mask data bad) s = .next
    (settle (tryAdmit (newWrite tag line (mask % 2 ^ 64) r data false) { s with hlk := { s.hlk with writes := s.hlk.writes ++ [newWrite tag line (mask % 2 ^ 64) r data false], rwdFree := s.hlk.rwdFree - 1 } }))) ∧
  (∀ (s : State) (tag hpa line : Nat) (errs again : List SymErr), s.hlk.linkUp = true → dpaLine s hpa = some line →
    0 < s.hlk.reqFree → s.hlk.reads.any (fun r => r.tag = tag) = false → s.hlk.ingressClosed = false →
    accessServed s (granuleOf line) = true → gstate s (granuleOf line) ≠ .pending → memReady s (quadOf s (granuleOf line)) = true →
    exec (.memRead tag hpa errs again) s = .next
    (settle { s with hlk := { s.hlk with reads := s.hlk.reads ++ [⟨tag, line, errs, again⟩] } })) ∧
  (∀ (s : State) (tag : Nat) (w : WriteRec), s.hlk.writes.find? (fun x => x.tag = tag) = some w → w.inDram = false →
    w.hold = .none → w.released = false →
    (s.hlk.writes.takeWhile (fun x => x.tag ≠ tag)).any (fun x => x.line = w.line && !x.inDram) = false →
    ∃ u v, u = (if w.poisoned then poisonLine w.line true (storeLine w.line w.data w.mask s) else storeLine w.line w.data w.mask s) ∧
    v = plantOnWrite (quadOf s (granuleOf w.line)) w.line (modQdc (quadOf s (granuleOf w.line)) (fun d => { d with asked := sdel d.asked w.line }) u) ∧
    exec (.lineWritten tag) s = .next
    (settle (lineLands (granuleOf w.line) (modWrite tag (fun x => { x with inDram := true }) { v with kor := { v.kor with repairs := v.kor.repairs.map (fun a => if a.granule = granuleOf w.line then { a with written := sins w.line a.written } else a) } })))) ∧
  (∀ (s : State) (correctable : Bool), s.hlk.linkUp = true → exec (.ecrcError correctable) s = .next
    (raise 0x0209 0x01 [] (send (.aer correctable) { s with hlk := { s.hlk with ecrc := satAdd 16 s.hlk.ecrc 1, pci := { s.hlk.pci with ecrcSeverity := !correctable, aerCorrectable := if correctable then setBit s.hlk.pci.aerCorrectable 19 else s.hlk.pci.aerCorrectable, aerUncorrectable := if correctable then s.hlk.pci.aerUncorrectable else setBit s.hlk.pci.aerUncorrectable 19 } } }))) ∧
  (∀ (s : State) (via : Via), Serves s → exec (.identifyMemoryDevice via) s = .next
    (reply via 0x4000 .success 0 [(8, hdmUnits s), (8, 0), (8, hdmUnits s), (8, 0), (2, 64), (2, 64), (2, 64), (2, 64), (4, 0), (3, 256), (2, 16), (1, 1)] s)) ∧
  (∀ (s : State) (via : Via) (temp : Nat), Serves s → exec (.getHealthInfo via temp) s = .next
    (useFree (reply via 0x4200 .success 0 [(1, healthBits s), (1, mediaStatus s), (1, min 255 ((s.shd.lifeUsed + 99) / 100)), (2, temp), (4, s.dmp.dsc), (4, 0), (4, s.hlk.correctedHost)] s))) ∧
  (∀ (s : State) (via : Via), Serves s → s.spn.mode ≠ .dump → exec (.getAlertConfiguration via) s = .next
    (reply via 0x4201 .success 0 (s.hlk.alertCfg.map (fun v => (2, v))) s)) ∧
  (∀ (s : State) (via : Via) (life hot cold corrected : Nat), Serves s → s.spn.mode ≠ .dump →
    exec (.setAlertConfiguration via life hot cold corrected) s = .next
    (reply via 0x4202 .success 0 [] { s with hlk := { s.hlk with alertCfg := [life, hot, cold, corrected] } })) ∧
  (∀ (s : State) (via : Via), Serves s → s.spn.mode ≠ .dump → exec (.getShutdownState via) s = .next
    (reply via 0x4203 .success 0 [(1, s.aos.shutdownState)] s)) ∧
  (∀ (s : State) (via : Via) (v : Nat), Serves s → s.spn.mode ≠ .dump → exec (.setShutdownState via v) s = .next
    (reply via 0x4204 .success 0 [] { s with aos := { s.aos with shutdownState := v % 256 } })) ∧
  (∀ (s : State) (via : Via) (dpa len : Nat), Serves s → s.spn.mode ≠ .dump → exec (.getPoisonList via dpa len) s = .next
    (reply via 0x4300 .success 0 ([(1, flag (decide (256 < (poisonGranules s dpa len).length))), (2, min 256 (poisonGranules s dpa len).length)] ++ ((poisonGranules s dpa len).take 256).flatMap (fun g => [(8, g * 16384), (4, 256), (1, (poisonSource s g).getD 0)])) s)) ∧
  (∀ (s : State) (via : Via) (dpa : Nat), Serves s → s.spn.mode = .test → lineOk s dpa = true → s.hlk.injected.length < 16 →
    ∃ u, u = poisonLine (dpa / 64) true s ∧ exec (.injectPoison via dpa) s = .next
    (reply via 0x4301 .success 0 [] (msix 10 { u with hlk := { u.hlk with injected := sins (dpa / 16384) u.hlk.injected } }))) ∧
  (∀ (s : State) (via : Via) (dpa : Nat) (data : BitVec 512), Serves s → s.spn.mode = .test → lineOk s dpa = true →
    ∃ u, u = (if linePoisoned s (dpa / 64) then storeLine (dpa / 64) data (2 ^ 64 - 1) s else s) ∧
    exec (.clearPoison via dpa data) s = .next (reply via 0x4302 .success 0 [] (if s.hlk.injected.contains (dpa / 16384) ∧
    !((List.range 256).any (fun k => linePoisoned u (dpa / 16384 * 256 + k))) then msix 10 { u with hlk := { u.hlk with injected := sdel u.hlk.injected (dpa / 16384) } } else u))) ∧
  (∀ (s : State) (via : Via), Serves s → s.spn.mode ≠ .dump → exec (.getSupportedLogs via) s = .next
    (reply via 0x0400 .success 0 [(2, 2), (16, celUuid), (4, 4 * listedOpcodes.length), (16, vendorLogUuid), (4, 256 * (readable s).length)] s)) ∧
  (∀ (s : State) (via : Via) (uuid off len : Nat), Serves s → len ≤ 4096 → (uuid = celUuid ∨ uuid = vendorLogUuid) →
    exec (.getLog via uuid off len) s = .next
    (reply via 0x0401 .success 0 ((((if uuid = celUuid then celBytes s else sedgeLogBytes s).drop off).take len).map (fun x => (1, x))) (if uuid = celUuid then { s with free := s.free + listedOpcodes.length } else s))) ∧
  (∀ (s : State) (via : Via) (log : Nat), Serves s → log < 4 → exec (.getEventRecords via log) s = .next
    (reply via 0x0100 .success 0 ([(1, flag (decide (31 < (hostLog s log).length))), (2, min 31 (hostLog s log).length)] ++ ((hostLog s log).take 31).flatMap (fun e => [(1, flag e.memoryModule), (2, e.id), (8, e.seq)])) s)) ∧
  (∀ (s : State) (via : Via) (log count : Nat) (all : Bool), Serves s → s.spn.mode ≠ .dump → log < 4 →
    exec (.clearEventRecords via log count all) s = .next
    (reply via 0x0101 .success 0 [] (setHostLog log (if all then [] else (hostLog s log).drop count) s))) ∧
  (∀ (s : State) (via : Via), Serves s → s.spn.mode ≠ .dump → exec (.getEventInterruptPolicy via) s = .next
    (reply via 0x0102 .success 0 (s.hlk.intPolicy.map (fun b => (1, flag b))) s)) ∧
  (∀ (s : State) (via : Via) (info warn fail fatal : Bool), Serves s → s.spn.mode ≠ .dump →
    exec (.setEventInterruptPolicy via info warn fail fatal) s = .next
    (reply via 0x0103 .success 0 [] { s with hlk := { s.hlk with intPolicy := [info, warn, fail, fatal] } })) ∧
  (∀ (s : State) (via : Via), Serves s → exec (.getFwInfo via) s = .next
    (reply via 0x0200 .success 0 [(1, 2), (1, s.sig.fwSlot + 1), (1, if s.aos.scratch.held.isEmpty then 0 else 2 - s.sig.fwSlot % 2), (1, 0), (4, s.sig.fwVersion)] s)) ∧
  (∀ (s : State) (via : Via) (slot : Nat) (l : List Component), Serves s → s.spn.mode ≠ .dump → s.hlk.bg = none →
    slot = inactiveSlot s → packageOk l = true → l.all (compOk slot s) = true → s.nrg.quagOk = true →
    exec (.transferFw via slot l) s = .next
    (ifcAsk ⟨.firmware, slot, .package slot l, 0⟩ (erasePackage slot l (bgStart via 0x0201 s))))

/-- The background, vendor, array and SPDM commands complete with their own effect: one clause a form, its conditions on the state and
operands alone (17 R556; 03 R127; 03 R129; 05 R183; 07 R269; 18 R571; 06 R224; 06 R240; 12 R418; 03 R133; 17 R550).
The model's own choices in it: log 9, 43, 74. -/
def Obligations.CompleteMailboxAndArray : Prop :=
  (∀ (s : State) (via : Via) (online : Bool), Serves s → s.spn.mode ≠ .dump → online = false → s.aos.scratch.held ≠ [] →
    s.nrg.quagOk = true → exec (.activateFw via online) s = .next (reply via 0x0202 .success 0 [] (activateHeld s))) ∧
  (∀ (s : State) (via : Via), Serves s → s.spn.mode ≠ .dump → exec (.getTimestamp via) s = .next
    (useFree (reply via 0x0300 .success 0 [(8, deviceTime s)] s))) ∧
  (∀ (s : State) (via : Via) (v : Nat), Serves s → s.spn.mode ≠ .dump → exec (.setTimestamp via v) s = .next
    (reply via 0x0301 .success 0 [] { s with hlk := { s.hlk with timestamp := v % 2 ^ 64 } })) ∧
  (∀ (s : State) (via : Via) (op : Nat), Serves s → s.spn.mode ≠ .dump → listedOpcodes.contains op = false →
    exec (.unsupportedOpcode via op) s = .next (reply via op .unsupported 0 [] s)) ∧
  (∀ (s : State) (via : Via) (r : Nat), VendorServes via [.restore, .service, .parked, .test] true false s → r < 256 →
    exec (.regionStateQuery via r) s = .next (reply via 0xC000 .success 0 (regionReport s r) s)) ∧
  (∀ (s : State) (via : Via) (dpa len r : Nat) (waits : Bool) (t : State), VendorServes via [.restore, .service, .test] false false s →
    rangeRegion s dpa len = .inl r →
    forwardRelease r (dpa / 16384) (len / 16384) (rangeUsed s (dpa / 16384) (len / 16384)).length via (releaseRange r (dpa / 16384) (len / 16384) s) = (waits, t) →
    exec (.releaseRange via dpa len) s = .next
    (settleFor (shareFreed s (if waits then t else releaseOver ⟨r, dpa / 16384, len / 16384, (rangeUsed s (dpa / 16384) (len / 16384)).length, via, true⟩ t)) (if waits then t else releaseOver ⟨r, dpa / 16384, len / 16384, (rangeUsed s (dpa / 16384) (len / 16384)).length, via, true⟩ t))) ∧
  (∀ (s : State) (via : Via) (dpa len r : Nat), VendorServes via [.restore, .service, .test] false true s →
    rangeRegion s dpa len = .inl r → exec (.shadowRange via dpa len) s = .next
    (settle (cmdStart 0xC002 (fun g => decide (dpa / 16384 ≤ g ∧
    g < (dpa + len) / 16384)) (wakeScope (viaKind via) (fun g => decide (dpa / 16384 ≤ g ∧
    g < (dpa + len) / 16384)) (bgStart via 0xC002 s))))) ∧
  (∀ (s : State) (via : Via), VendorServes via [.restore, .service, .test] true true s → exec (.barrier via none) s = .next
    (settle (cmdStart 0xC003 (fun _ => true) (wakeScope (viaKind via) (fun _ => true) (bgStart via 0xC003 s))))) ∧
  (∀ (s : State) (via : Via) (r : Nat), VendorServes via [.restore, .service, .test] true true s → defined s r = true →
    exec (.barrier via (some r)) s = .next
    (settle (cmdStart 0xC003 (inRegion s r) (wakeScope (viaKind via) (inRegion s r) (bgStart via 0xC003 s))))) ∧
  (∀ (s : State) (via : Via), VendorServes via [.service, .restore] true true s → dumpUnmet s = 0 → exec (.park via) s = .next
    (commitDump 4 0xC004 (learnDisqualify 0x06 (bgStart via 0xC004 s)))) ∧
  (∀ (s : State) (via : Via) (u v : State), VendorServes via [.parked] true true s → bgStart via 0xC005 s = u →
    quadRoles [0, 1] .active (domainsOn (coreDomains u ||| memDomains u) { u with pwr := { u.pwr with memEn := true }, qdc := u.qdc.zipIdx.map (fun (e : Qdc × Nat) => if u.spn.quadEn.testBit e.2 ∧ e.1.state ≠ 3 then { e.1 with state := 1 } else e.1) }) = v →
    exec (.unpark via) s = .next
    ((if v.kor.state = .unpaired ∨ fenced v then v else setUnitState 0x05 .active { v with kor := { v.kor with unitOn := true, trainingOn := true } }))) ∧
  (∀ (s : State) (via : Via), VendorServes via [.restore, .service] true true s → s.kor.state = .solo → s.kor.soloCause ≠ 6 →
    exec (.takeover via) s = .next
    (askWitness .takeover { bgStart via 0xC006 s with kor := { (bgStart via 0xC006 s).kor with takeover := some ⟨via, false, 1, 0⟩ } })) ∧
  (∀ (s : State) (via : Via), VendorServes via [.restore, .service] false true s → s.kor.state = .solo → s.kor.soloCause ≠ 6 →
    forceOk (bgStart via 0xC007 (raise 0x0208 0x01 [] s)) = true → exec (.forceTakeover via 0x4F4B5446) s = .next
    (askWitness .takeover { bgStart via 0xC007 (raise 0x0208 0x01 [] s) with kor := { (bgStart via 0xC007 (raise 0x0208 0x01 [] s)).kor with takeover := some ⟨via, true, 1, 0⟩ } })) ∧
  (∀ (s : State) (via : Via) (u : State), VendorServes via [.service] true true s →
    learnDisqualify 0x06 (bgStart via 0xC008 s) = u → exec (.setPowerStateP0 via) s = .next
    ((if u.pwr.pstate ≠ 2 then powerDone 0 u else exitDone ((maskDomains 0xFF).foldl (fun u d => wakeDomain d u) { u with pwr := { u.pwr with entry := 3, target := 0 } })))) ∧
  (∀ (s : State) (via : Via) (u : State), VendorServes via [.service] true true s → bgStart via 0xC008 s = u →
    exec (.setPowerStateP2 via) s = .next
    ((if u.pwr.pstate = 2 then powerDone 2 u else learnDisqualify 0x06 { u with pwr := { u.pwr with entry := 1, target := 2, entryStep := 1, entryVia := via, refuser := 0xFF, refuseCause := 0 } }))) ∧
  (∀ (s : State) (via : Via), VendorServes via [.service] true true s → exec (.setPowerStateP3 via) s = .next
    (settle (cmdStart 0xC008 (fun _ => true) (wakeScope 6 (fun _ => true) (learnDisqualify 0x06 (bgStart via 0xC008 s)))))) ∧
  (∀ (s : State) (via : Via), VendorServes via [.service] true true s → s.nrg.lstate ≠ .waitBudget → s.nrg.lstate ≠ .running →
    exec (.startLearning via) s = .next (learnStart (bgStart via 0xC009 s))) ∧
  (∀ (s : State) (via : Via), VendorServes via [.service] true true s → calibrationUnmet s = 0 →
    exec (.calibrationDump via) s = .next (commitDump 5 0xC00A (learnDisqualify 0x06 (bgStart via 0xC00A s)))) ∧
  (∀ (s : State) (via : Via), VendorServes via runningModes true false s → exec (.vaultInfo via) s = .next
    (reply via 0xC00B .success 0 [(1, ((List.range 16).filter (fun c => populated s c)).length), (1, (vaultRec s).diesPerCh), (2, maskOf (((List.range 16).filter (fun c => populated s c)).filter (fun c => (vchOf s c).state == 3))), (4, (vaultRec s).endurance), (8, slcBytes s), (8, s.shd.written / 1048576 * 1048576), (8, liveGranules s * 16384), (4, s.shd.lifeUsed), (4, s.shd.debt / 1073741824), (4, s.vlt.retired.length), (4, 0)] s)) ∧
  (∀ (s : State) (via : Via) (dpa : Nat) (rebuilt : Bool) (p : Page), VendorServes via [.restore, .service, .test] false true s →
    (rangeRegion s dpa 16384).isLeft = true → gstate s (dpa / 16384) = .poison → rebuilt = true →
    pageAt s (mapOf s (dpa / 16384)).vpa = some p → encrypted s p.region = false →
    rebuildPasses s (mapOf s (dpa / 16384)).vpa p = true → exec (.retryGranule via dpa rebuilt) s = .next
    (settle (retryEnd (dpa / 16384) 0 (retryRebuilt (dpa / 16384) p (noteRead (mapOf s (dpa / 16384)).vpa true (bgStart via 0xC00C { s with dmp := { s.dmp with retry := some (dpa / 16384) } })))))) ∧
  (∀ (s : State) (via : Via) (mask : Nat), VendorServes via runningModes true true s → s.cwy.isHead = true →
    exec (.arrayStatus via mask) s = .next (arrayAll via 1 mask s)) ∧
  (∀ (s : State) (via : Via) (mask : Nat), VendorServes via runningModes true true s → s.cwy.isHead = true →
    exec (.arrayBarrier via mask) s = .next (arrayAll via 2 mask s)) ∧
  (∀ (s : State) (via : Via) (mask : Nat), VendorServes via runningModes true true s → s.cwy.isHead = true → addressed s mask ≠ [] →
    exec (.rollUpdate via mask) s = .next
    (updateLoop 64 (bgStart via 0xC00D { s with cwy := { s.cwy with array := some ⟨via, 3, [], [], addressed s mask, mask⟩, updState := 1, failId := 0, updated := 0 } }))) ∧
  (∀ (s : State) (via : Via), VendorServes via runningModes true true s → s.cwy.isHead = true →
    exec (.arrayUnknownSubopcode via) s = .next (vendorRefuse via 0xC00D .invalidInput 0x0002 s)) ∧
  (∀ (s : State) (m : Nat), exec (.rollUpdateTimeout m) s = .next (updateAnswer m 4 (statusResult 4 0) s)) ∧
  (∀ (s : State) (index : Nat), s.hlk.presented = true → exec (.doeDiscovery index) s = .next
    (send (.doe (if index = 0 then [(2, 0x0001), (1, 0), (1, 1)] else if index = 1 then [(2, 0x0001), (1, 1), (1, 2)] else if index = 2 then [(2, 0x1E98), (1, 2), (1, 0)] else [(2, 0xFFFF), (1, 0xFF), (1, 0)])) s)) ∧
  (∀ (s : State) (entry : Nat), s.hlk.presented = true → exec (.cdatRead entry) s = .next
    (send (.doe ((4, s.hlk.cdatSeq) :: (if entry = 0 then [(8, 0), (8, hdmGranules s * 16384), (1, 1)] else if entry = 1 then [(4, 180)] else if entry = 2 then [(4, 28000), (4, 28000)] else if entry = 3 then [(4, s.hlk.cdatLatency)] else []))) s)) ∧
  (∀ (s : State) (t : Transport), s.pwr.corePg = true → (s.sig.recoverySvc = false ∨ s.sig.stage ≠ 0) →
    exec (.getVersion t) s = .next
    (send (.spdm t 0x04 [(1, 2), (2, 0x1100), (2, 0x1200)]) (setConn t { versioned := true } (countSpdm t s)))) ∧
  (∀ (s : State) (t : Transport), s.pwr.corePg = true → (s.sig.recoverySvc = false ∨ s.sig.stage ≠ 0) →
    exec (.getCapabilities t) s = .next
    (send (.spdm t 0x61 [(1, 13), (4, 0x16)]) (setConn t { connOf t (countSpdm t s) with capable := true } (countSpdm t s)))) ∧
  (∀ (s : State) (t : Transport), s.pwr.corePg = true → (s.sig.recoverySvc = false ∨ s.sig.stage ≠ 0) →
    exec (.negotiateAlgorithms t true true) s = .next
    (send (.spdm t 0x63 [(4, 0x80), (4, 0x02)]) (setConn t { connOf t (countSpdm t s) with negotiated := true } (countSpdm t s)))) ∧
  (∀ (s : State) (t : Transport), s.pwr.corePg = true → (s.sig.recoverySvc = false ∨ s.sig.stage ≠ 0) →
    exec (.getDigests t) s = .next
    (send (.spdm t 0x01 [(1, 1), (48, if (countSpdm t s).sig.certValid then leValue (sha384 (certChain (countSpdm t s))) else Config.observed (countSpdm t s).free)]) (useFree (countSpdm t s)))) ∧
  (∀ (s : State) (t : Transport) (off len : Nat), s.pwr.corePg = true → (s.sig.recoverySvc = false ∨ s.sig.stage ≠ 0) →
    exec (.getCertificate t 0 off len) s = .next
    (send (.spdm t 0x02 [(2, (((certChain (countSpdm t s)).drop off).take len).length), ((((certChain (countSpdm t s)).drop off).take len).length, if (countSpdm t s).sig.certValid then leValue (((certChain (countSpdm t s)).drop off).take len) else Config.observed (countSpdm t s).free)]) (useFree (countSpdm t s)))) ∧
  (∀ (s : State) (t : Transport) (nonce : Nat), s.pwr.corePg = true → (s.sig.recoverySvc = false ∨ s.sig.stage ≠ 0) →
    exec (.challenge t 0 nonce) s = .next
    (send (.spdm t 0x03 [(32, nonce), (96, Config.observed (countSpdm t s).free)]) (useFree (signOnce (countSpdm t s))))) ∧
  (∀ (s : State) (t : Transport) (nonce : Nat) (signed_ : Bool), s.pwr.corePg = true →
    (s.sig.recoverySvc = false ∨ s.sig.stage ≠ 0) → exec (.getMeasurements t 0 nonce signed_) s = .next
    (send (.spdm t 0x60 [(1, 16)]) (countSpdm t s))) ∧
  (∀ (s : State) (t : Transport) (nonce : Nat), s.pwr.corePg = true → (s.sig.recoverySvc = false ∨ s.sig.stage ≠ 0) →
    exec (.getMeasurements t 0xFF nonce false) s = .next
    (send (.spdm t 0x60 (((List.range 16).map (· + 1)).flatMap (fun i => (1, i) :: measBlock (countSpdm t s) i))) (countSpdm t s))) ∧
  (∀ (s : State) (t : Transport) (index nonce : Nat), s.pwr.corePg = true → (s.sig.recoverySvc = false ∨ s.sig.stage ≠ 0) →
    1 ≤ index → index ≤ 16 → exec (.getMeasurements t index nonce true) s = .next
    (send (.spdm t 0x60 ((1, index) :: measBlock (countSpdm t s) index ++ [(32, nonce), (96, Config.observed (countSpdm t s).free)])) (useFree (signOnce (countSpdm t s)))))

/-- Region starts and stops, the stream, the dump, the gauge, the vault and fetches complete with their own effect: one clause a form, its
conditions on the state and operands alone (05 R164; 05 R166; 02 R92; 05 R199; 08 R277; 08 R281; 06 R209; 06 R226; 07 R247; 07 R248; 07
R266; 09 R314). The model's own choices in it: log 66, 119, 131. -/
def Obligations.CompleteRegionsStreamAndVault : Prop :=
  (∀ (s : State) (t : Transport), s.pwr.corePg = true → (s.sig.recoverySvc = false ∨ s.sig.stage ≠ 0) →
    exec (.respondIfReady t) s = .next
    (send (.spdm t 0x7F [(1, Config.observed (countSpdm t s).free % 256)]) (useFree (countSpdm t s)))) ∧
  (∀ (s : State) (t : Transport), s.pwr.corePg = true → (s.sig.recoverySvc = false ∨ s.sig.stage ≠ 0) →
    exec (.spdmUnsupported t) s = .next (spdmRefuse t 0x07 (countSpdm t s))) ∧
  (∀ (s : State) (r : Nat), serving s = true → (region s r).life = .starting → s.kor.opening.contains r = false →
    (encrypted s r = false ∨ (slotOf s r).st ≠ .starting) → startCode s r = none → exec (.startChecksComplete r) s = .next
    (lifeFollow (goOnline r s))) ∧
  (∀ (s : State) (r : Nat), serving s = true → (region s r).life = .starting → s.kor.opening.contains r = true →
    exec (.startCheckTimeout r) s = .next (lifeFollow (endStart r 2 s))) ∧
  (∀ (s : State) (r : Nat) (u : State), serving s = true → (region s r).life = .stopping → regionDrained s r = true →
    ((region s r).reArm = false ∨ (region s r).liveStop = true) →
    setLife r .offline (modRegion r (fun x => { x with reArm := false, liveStop := false }) s) = u →
    exec (.regionDrained r) s = .next
    (lifeFollow (if (region s r).liveStop then u else if inConflict u r then yieldConflict r u else if (region u r).adopted ∧
    u.kor.state = .mirrored then giveBack r u else u))) ∧
  (∀ (s : State) (slot : Nat), s.pwr.corePg = true → s.img.liveState ≠ 1 → s.img.liveState ≠ 2 → modeIn [.service, .test] s = true →
    exec (.liveCheck slot) s = .next
    ({ s with img := { s.img with liveSlot := slot % 2, liveOp := 1, liveState := 1, liveCause := 0, liveGo := true, regionsTotal := 0, regionsDone := 0, currentRegion := 0 } })) ∧
  (∀ (s : State) (slot : Nat), s.pwr.corePg = true → s.img.liveState ≠ 1 → s.img.liveState ≠ 2 → modeIn [.service, .test] s = true →
    exec (.liveApply slot) s = .next
    ({ s with img := { s.img with liveSlot := slot % 2, liveOp := 2, liveState := 1, liveCause := 0, liveGo := true, regionsTotal := 0, regionsDone := 0, currentRegion := 0 } })) ∧
  (∀ (s : State), s.spn.mode ≠ .dump → exec (.forceZeroWrite true) s = .next
    (takeRaw 0 (setBit s.wrp.zeroCause 2) { s with wrp := { s.wrp with forceZero := true } })) ∧
  (∀ (s : State), s.spn.mode ≠ .dump → exec (.forceZeroWrite false) s = .next
    ({ s with wrp := { s.wrp with forceZero := false, zeroCause := clearBit s.wrp.zeroCause 2 } })) ∧
  (∀ (s : State) (tag : Nat) (w : WriteRec), s.hlk.writes.find? (fun x => x.tag = tag) = some w →
    (holdNow s w = .budget ∨ holdNow s w = .decision ∨ holdNow s w = .share) → exec (.writeHoldTimeout tag) s = .next
    (raise 0x030B 0x02 [(1, w.region), (1, if holdNow s w = .budget then 1 else if holdNow s w = .decision then 2 else 3)] s)) ∧
  (∀ (s : State) (q : Nat), s.spn.mode = .dump → (quadList s).contains q = true → (dumpQuad s q).phase = 2 →
    (dumpQuad s q).queue = [] → (dumpQuad s q).running = [] → (dumpQuad s q).placed = [] → exec (.dirtyListReady q) s = .next
    (dumpKick (modDumpQuad q (fun d => { d with queue := (if (quadList s).head? = some q then (List.range (logRuns s.dmp.tail).length).map .tail else []) ++ .header :: (List.range (pagesFor d.list.length 2048)).map .list, left := if d.channelLost then [] else d.list.filter (fun e => e.state ≠ .lost), lost := if d.channelLost then (d.list.filter (fun e => e.state ≠ .lost)).map ListEntry.granule else d.lost }) (fixGates s)))) ∧
  (∀ (s : State) (vpa q : Nat), s.spn.mode = .dump →
    (quadList s).find? (fun q => (dumpQuad s q).running.any (fun e => e.2 = vpa)) = some q →
    exec (.dumpProgramComplete vpa true) s = .next (dumpKick (dumpPassed q vpa s))) ∧
  (∀ (s : State) (vpa q : Nat), s.spn.mode = .dump →
    (quadList s).find? (fun q => (dumpQuad s q).running.any (fun e => e.2 = vpa)) = some q →
    exec (.dumpProgramComplete vpa false) s = .next
    (dumpKick (dumpDieLost (vpaCh vpa) (vpaDie vpa) (modVch (vpaCh vpa) (fun c => { c with progFail := satAdd 16 c.progFail 1 }) s)))) ∧
  (∀ (s : State) (m : Sample) (u v : State), s.spn.mode = .dump →
    gaugeAfter s.nrg (emptyAnchor (refreshEstimates (countCharge m.dQ (takeSample m s)))) = u →
    windowSum (u.nrg.vOcv * (-u.nrg.iStore).toNat / 100) u = v →
    v.ifc.waiting.all (fun o => match o.work with | .finalSedge _ => false | _ => true) = true →
    exec (.dumpEnergySample m) s = .next ({ v with dmp := { v.dmp with eNow := eNowOf v } })) ∧
  (∀ (s : State) (resp : List Nat), cmbGood s resp = false → exec (.cmbPoll resp) s = .next
    (cmbMiss (send (.cmb (cmbRequest (balanceNow s))) s))) ∧
  (∀ (s : State) (m : Sample) (step : Option CurrentStep) (u v : State), takeSample m { s with nrg := { s.nrg with ramp := min 100 (s.nrg.ramp + 1) } } = u →
    refreshEstimates (match step with | some c => foldEsr c u | none => u) = v → exec (.energyEstimate m step) s = .next
    (gaugeAfter s.nrg (sendInput (refreshEstimates (learnSample (chargeStep m s.nrg) (emptyAnchor (refreshEstimates { countCharge (chargeStep m s.nrg) v with nrg := { (countCharge (chargeStep m s.nrg) v).nrg with zeroing := false } }))))))) ∧
  (∀ (s : State) (c : CurrentStep) (u : State), s.nrg.lstate = .waitBudget → s.wrp.learning = true → dCount s ≤ s.wrp.b →
    s.aos.gauge = none → agentBusy .energy s = false → foldEsr c (assertHoldup .learning s) = u →
    exec (.learnHoldupStart c) s = .next
    (gaugeAfter s.nrg { u with nrg := { u.nrg with lstate := .running, run := { vStart := s.nrg.vOcv, split := (s.nrg.vOcv + param s 4) / 2, esr := (((c.vAfter : Int) - c.vBefore).natAbs * 10000) / (c.iAfter - c.iBefore).natAbs } } })) ∧
  (∀ (s : State) (value : Nat) (p : Param) (u : State), (gaugeWake s).nrg.params.find? (fun p => p.id = (gaugeWake s).nrg.paramIdx) = some p →
    (gaugeWake s).nrg.input = .good → (gaugeWake s).nrg.holdupEn = false → (gaugeWake s).spn.mode ≠ .dump →
    setParam p.id (clampWrite 0x03 p.lo p.hi (value % 2 ^ 32) (gaugeWake s)).1 (clampWrite 0x03 p.lo p.hi (value % 2 ^ 32) (gaugeWake s)).2 = u →
    exec (.paramWrite value) s = .next
    (sendInput (refreshEstimates { u with nrg := { u.nrg with iSet := min u.nrg.iSet (max 100 (param u 17)) } }))) ∧
  (∀ (s : State) (bad : List Nat), serving s = true → exec (.epochTick bad) s = .next
    (bad.foldl (fun t g => touchRewrite g t) { s with gst := { s.gst with epoch := wrapAdd 16 s.gst.epoch 1 } })) ∧
  (∀ (s : State) (q : Nat) (err : Bool) (bad : List Nat) (u : State) (g : Nat), serving s = true → s.spn.quadEn.testBit q = true →
    (streamRuns s = true ∨ engReady s q = true) → (if err then rebuildRing q s else s) = u →
    (ringFirst u q).or (ringOf u q).head? = some g → exec (.ringExamine q err bad) s = .next (streamFollow s (examine q g bad u))) ∧
  (∀ (s : State) (r : Nat) (u : State) (last : Nat), streamRuns s = true → r < 256 → (region s r).entry.sequential = true →
    defined s r = true → serves s r = true → refreshShadowPtr r s = u →
    min (region u r).writePtr ((region u r).shadowPtr + 4096) = last → exec (.sequentialWalk r) s = .next
    (streamFollow s ((captureOrder u (beforeWalk u r ++ (regionGranules u r (fun w => w.st = .dirty || w.st = .redirty)).filter (fun g => decide (firstGranule u r + (region u r).shadowPtr ≤ g) && decide (g < firstGranule u r + last) && readyNow u g)).eraseDups).foldl (fun t g => if readyNow t g then captureReady g [] t else t) u))) ∧
  (∀ (s : State) (die : Nat), s.spn.mode ≠ .dump → exec (.rowCloseTimeout die) s = .next
    (closeRows (fun r => !r.closed && r.die == die) s)) ∧
  (∀ (s : State) (vpa : Nat) (ok : Bool), (s.spn.mode ≠ .dump ∨ ok = true) → exec (.programComplete vpa ok) s = .next
    (settleFor (shareFreed s (programEnd vpa ok true s)) (cmdFollow s (ownCopiesFollow (eraseReady (programEnd vpa ok true s)))))) ∧
  (∀ (s : State) (c d : Nat), c < 16 → dieOk s c d = true → populated s c = true → d < (vaultRec s).diesPerCh → s.spn.mode ≠ .dump →
    (vchOf s c).missRun.getD d 0 = 0 → exec (.dieTimeout c d) s = .next
    (modVch c (fun v => { v with timeouts := satAdd 16 v.timeouts 1, missRun := v.missRun.set d 1 }) s)) ∧
  (∀ (s : State) (failed : List Nat) (n : Nat), vaultAwake s = true →
    s.vlt.relocate.all (fun n => (movable s n).all (fun g => (unmovable n failed s).contains g)) = true → s.shd.gc ≠ .idle →
    victim s = some n → exec (.gcRelocate failed) s = .next (collectSeg n failed s)) ∧
  (∀ (s : State) (failed : List Nat) (e : Nat × Seg), vaultAwake s = true →
    ((s.vlt.segs.filter (fun e => victimOk s e.1 e.2)).mergeSort (fun a b => a.2.erases ≤ b.2.erases)).head? = some e →
    (vaultRec s).endurance < eraseSpread s * 20 → s.shd.wlSec.any (fun t => s.evr.opSec < t + 3600) = false →
    exec (.wearLevelMove failed) s = .next
    (collectSeg e.1 failed (raise 0x050A 0x0D [(4, e.1), (3, eraseSpread s)] { s with shd := { s.shd with wlMoves := s.shd.wlMoves + 1, wlSec := some s.evr.opSec } }))) ∧
  (∀ (s : State) (n : Nat), serving s = true → (liveIn s n).isEmpty = false → s.vlt.scrubbing.contains n = false →
    exec (.vaultScrub n) s = .next (wakeVault { s with vlt := { s.vlt with scrubbing := s.vlt.scrubbing ++ [n] } })) ∧
  (∀ (s : State) (failed : List Nat) (n : Nat), vaultAwake s = true →
    s.vlt.rebuildSegs.find? (fun n => (movable s n).any (fun g => !((unmovable n failed s).contains g))) = some n →
    exec (.redundancyRebuild failed) s = .next (collectSeg n failed s)) ∧
  (∀ (s : State) (n : Nat) (failed : List Nat), vaultAwake s = true → twinFull s n = true → s.vlt.erasing.contains n = false →
    segBusy s n = false → s.vlt.compact.any (fun e => e.1 = n) = false → exec (.twinCompaction n failed) s = .next
    (collectSeg n failed { s with vlt := { s.vlt with compact := s.vlt.compact ++ [(n, 0)] } })) ∧
  (∀ (s : State) (c : Nat), c < 16 → (vchOf s c).state = 2 → (vchOf s c).trainFails < 2 → exec (.vaultTraining c false) s = .next
    (modVch c (fun v => { v with trainFails := (vchOf s c).trainFails + 1 }) s)) ∧
  (∀ (s : State) (c : Nat), s.spn.mode = .test → c < 16 → (vchOf s c).state = 2 → exec (.vaultForceFail c) s = .next
    (channelDown c (modVch c (fun v => { v with forceFail := true }) s))) ∧
  (∀ (s : State) (g : Nat) (tagOk rebuilt : Bool) (us : Nat) (p : Page) (u v : State), s.spn.mode ≠ .dump →
    pageAt s (mapOf s g).vpa = some p → fetchWanted s g = true → s.dmp.fetching.contains g = false → encrypted s p.region = false →
    tagOk = true → readPasses s (mapOf s g).vpa p rebuilt = true →
    { noteRead (mapOf s g).vpa rebuilt s with dmp := { (noteRead (mapOf s g).vpa rebuilt s).dmp with fetching := (noteRead (mapOf s g).vpa rebuilt s).dmp.fetching.filter (· ≠ g), bulk := (noteRead (mapOf s g).vpa rebuilt s).dmp.bulk.filter (· ≠ g) } } = u →
    gstate u g = .pending →
    setGState g .shadowed (loadGranule g (areaData s (mapOf s g).vpa p (readArea s (mapOf s g).vpa p rebuilt)) u) = v →
    exec (.fetchComplete g tagOk rebuilt us) s = .next
    (settle (bulkFollow (resendKick (resumeWrites (fixLines g (areaData s (mapOf s g).vpa p (readArea s (mapOf s g).vpa p rebuilt)) true { v with dmp := { v.dmp with restored := v.dmp.restored + 1 } })))))) ∧
  (∀ (s : State) (q g : Nat), serving s = true → 3 ≤ s.dmp.rphase → q < 4 → bulkNext s q = some g → dieWanted s g = false →
    exec (.bulkRestoreIssue q) s = .next (needDomains 9 (2 ^ (4 + q)) { s with dmp := { s.dmp with bulk := s.dmp.bulk ++ [g] } })) ∧
  (∀ (s : State) (h : FlitHdr), s.kor.unitOn = true → s.kor.trained = true → exec (.heartbeat h) s = .next (takeHeader h s)) ∧
  (∀ (s : State) (uncorrectable : Bool), s.kor.unitOn = true → s.kor.trained = true → exec (.corruptFlit uncorrectable) s = .next
    ({ s with kor := { s.kor with crc := satAdd 16 s.kor.crc 1, fecUncorr := if uncorrectable then satAdd 16 s.kor.fecUncorr 1 else s.kor.fecUncorr, nakOut := true } }))

/-- Korric messages in order, lane changes, training and Causeway frames complete with their own effect: one clause a form, its conditions
on the state and operands alone (11 R373; 11 R377; 11 R378; 11 R384; 11 R387; 11 R389; 11 R394; 11 R403; 12 R412; 12 R415; 12 R418).
The model's own choices in it: log 73, 77. -/
def Obligations.CompleteKorricAndCauseway : Prop :=
  (∀ (s : State) (h : FlitHdr) (slots : List LineSlot) (u : State), korHears s = true → inOrder s h 15 = true →
    takeMsg h 15 (fun t => t) s = u → u.kor.up = true → u.spn.mode ≠ .dump → exec (.mirror h slots) s = .next
    (settle (ackFollow ((slots.take 3).foldl (fun t sl => mirrorIn sl false t) u)))) ∧
  (∀ (s : State) (h : FlitHdr) (slots : List LineSlot) (u : State), korHears s = true → inOrder s h 15 = true →
    takeMsg h 15 (fun t => t) s = u → u.kor.up = true → u.spn.mode ≠ .dump → exec (.repair h slots) s = .next
    (settle ((slots.take 3).foldl (fun t sl => if sl.mask = 0 then t else { t with kor := { t.kor with repairs := t.kor.repairs.map (fun a => if a.tag = sl.mseq % 256 ∧ a.granule = granuleOf sl.line ∧ !(a.got.any (fun e => e.1 = sl.line)) then { a with got := a.got ++ [(sl.line, sl.data)] } else a) } }) u))) ∧
  (∀ (s : State) (h : FlitHdr) (idx : Nat) (sideB tiebreakB : Bool) (cwyId mepoch mseqNext : Nat) (u : State), korHears s = true →
    inOrder s h idx = true → takeMsg h idx (fun t => t) s = u → exec (.state h idx sideB tiebreakB cwyId mepoch mseqNext) s = .next
    ((if u.kor.up then { u with kor := { u.kor with pSide := sideB, pTiebreak := tiebreakB, pCwyId := cwyId % 64, pMepoch := mepoch % 2 ^ 32 } } else exchangeCheck { u with kor := { u.kor with pSide := sideB, pTiebreak := tiebreakB, pCwyId := cwyId % 64, pMepoch := mepoch % 2 ^ 32, stateSeen := true, rxLast := (mseqNext + 2 ^ 32 - 1) % 2 ^ 32, rxMseq := (mseqNext + 2 ^ 32 - 1) % 2 ^ 32, held := [], heldPoison := [] } }))) ∧
  (∀ (s : State) (h : FlitHdr) (idx part value : Nat) (u v : State), korHears s = true → inOrder s h idx = true →
    takeMsg h idx (fun t => t) s = u → part < 4 →
    { u with kor := { u.kor with digestSeen := tins part (value % 2 ^ 96) u.kor.digestSeen } } = v →
    exec (.digest h idx part value) s = .next ((if v.kor.up then (if part = 3 then compareDigests v else v) else exchangeCheck v))) ∧
  (∀ (s : State) (h : FlitHdr) (idx r : Nat) (u : State), korHears s = true → inOrder s h idx = true →
    takeMsg h idx (fun t => t) s = u → u.kor.up = true → u.spn.mode ≠ .dump → (u.kor.state = .mirrored ∨ u.kor.state = .resync) →
    exec (.openQuery h idx r) s = .next
    (sendMsg (.openReply r (if (region u r).adopted then 1 else if inConflict u r then 2 else 0)) u)) ∧
  (∀ (s : State) (h : FlitHdr) (idx r answer : Nat) (u : State), korHears s = true → inOrder s h idx = true →
    takeMsg h idx (fun t => t) s = u → u.kor.up = true → u.spn.mode ≠ .dump → u.kor.opening.contains r = true →
    exec (.openReply h idx r answer) s = .next
    ((if answer = 0 then { u with kor := { u.kor with opening := sdel u.kor.opening r } } else bulkFollow (endStart r (if answer = 1 then 4 else 2) u)))) ∧
  (∀ (s : State) (h : FlitHdr) (idx g mseq : Nat) (u : State), korHears s = true → inOrder s h idx = true →
    takeMsg h idx (fun t => t) s = u → u.kor.up = true → u.spn.mode ≠ .dump →
    u.kor.lastMseq.all (fun e => e.1 ≠ g || seqLe e.2 mseq) = true → u.kor.held.any (fun sl => granuleOf sl.line = g) = false →
    exec (.shadowNotice h idx g mseq) s = .next (settleFor (shareFreed u (copyShadowed g u)) (copyShadowed g u))) ∧
  (∀ (s : State) (h : FlitHdr) (idx first bits : Nat) (u : State), korHears s = true → inOrder s h idx = true →
    takeMsg h idx (fun t => t) s = u → u.kor.up = true → u.spn.mode ≠ .dump → exec (.shadowMap h idx first bits) s = .next
    (settle ((setBits 64 bits).foldl (fun t i => if t.kor.arrived.contains (first + i) then t else copyShadowed (first + i) t) u))) ∧
  (∀ (s : State) (h : FlitHdr) (idx first count : Nat) (u v : State), korHears s = true → inOrder s h idx = true →
    takeMsg h idx (fun t => t) s = u → u.kor.up = true → u.spn.mode ≠ .dump →
    { u with kor := { u.kor with held := u.kor.held.filter (fun sl => !(first ≤ granuleOf sl.line && granuleOf sl.line < first + count && mirrorCopy u (granuleOf sl.line))) } } = v →
    exec (.releaseNotice h idx first count) s = .next
    (settle (sendMsg (.releaseDone first count) (ackFollow (((v.gst.states.filter (fun e => first ≤ e.1 && e.1 < first + count && mirrorCopy u e.1)).map Prod.fst).foldl (fun t g => setWord g freeWord (dropRsv g t)) v))))) ∧
  (∀ (s : State) (h : FlitHdr) (idx first : Nat) (u : State) (e : RelWait), korHears s = true → inOrder s h idx = true →
    takeMsg h idx (fun t => t) s = u → u.kor.up = true → u.spn.mode ≠ .dump →
    u.kor.relWait.find? (fun e => e.first = first && e.sent) = some e → exec (.releaseDone h idx first) s = .next
    (releaseOver e { u with kor := { u.kor with relWait := u.kor.relWait.erase e } })) ∧
  (∀ (s : State) (h : FlitHdr) (idx : Nat) (on : Bool) (u : State), korHears s = true → inOrder s h idx = true →
    takeMsg h idx (fun t => t) s = u → u.kor.up = true → exec (.pressure h idx on) s = .next (takePressure on u)) ∧
  (∀ (s : State) (h : FlitHdr) (idx kind seq : Nat) (u v : State), korHears s = true → inOrder s h idx = true →
    takeMsg h idx (fun t => t) s = u → u.kor.up = true → raise 0x090B 0x05 [(1, kind), (4, seq)] u = v →
    exec (.dumpNotice h idx kind seq) s = .next ((if kind = 0 then partnerDumping v else if kind = 1 ∧
    u.spn.mode ≠ .dump then settle ((mirrorCopies v (fun w => w.st = .dirty)).foldl (fun t g => copyShadowed g t) v) else v))) ∧
  (∀ (s : State) (h : FlitHdr) (idx line mseq : Nat) (u : State), korHears s = true → inOrder s h idx = true →
    takeMsg h idx (fun t => t) s = u → u.kor.up = true → u.spn.mode ≠ .dump →
    (u.kor.repairs.any (fun a => a.granule = granuleOf line && a.tag = mseq) = false ∨ mirrorCopy u (granuleOf line) = true) →
    exec (.poisonLine h idx line mseq) s = .next (settle (ackFollow (mirrorIn ⟨mseq, line, 2 ^ 64 - 1, 0⟩ true u)))) ∧
  (∀ (s : State) (h : FlitHdr) (idx g tag : Nat) (u : State), korHears s = true → inOrder s h idx = true →
    takeMsg h idx (fun t => t) s = u → u.kor.up = true → u.spn.mode ≠ .dump → mirrorCopy u g = false →
    exec (.repairReq h idx g tag) s = .next
    (sendMsg (.repairReply g (if gstate u g = .free then 2 else 1) tag) (raise 0x0910 0x05 [(5, g * 16384), (1, if gstate u g = .free then 2 else 1)] u))) ∧
  (∀ (s : State) (h : FlitHdr) (idx g answer tag : Nat) (u : State) (a : RepairAsk), korHears s = true → inOrder s h idx = true →
    takeMsg h idx (fun t => t) s = u → u.kor.up = true → u.spn.mode ≠ .dump →
    u.kor.repairs.find? (fun a => a.tag = tag && a.granule = g) = some a → exec (.repairReply h idx g answer tag) s = .next
    ((if answer = 0 then u else repairRefused a u))) ∧
  (∀ (s : State) (h : FlitHdr) (idx : Nat) (u : State), korHears s = true → inOrder s h idx = true →
    takeMsg h idx (fun t => t) s = u → u.kor.up = true → u.spn.mode ≠ .dump → exec (.resyncEnd h idx) s = .next
    (resendKick { u with kor := { u.kor with endSeen := true } })) ∧
  (∀ (s : State) (h : FlitHdr) (idx r : Nat) (u : State), korHears s = true → inOrder s h idx = true →
    takeMsg h idx (fun t => t) s = u → u.kor.up = true → u.spn.mode ≠ .dump → defined u r = true → serves u r = true →
    exec (.adopted h idx r) s = .next
    ((if (region u r).life = .online then settle (sendMsg (.adoptReply r 1) (setConflict r true u)) else settle (sendMsg (.adoptReply r 0) (raise 0x090F 0x05 [(1, r)] (flushLog (releaseSpan r u))))))) ∧
  (∀ (s : State) (h : FlitHdr) (idx r answer : Nat) (u : State), korHears s = true → inOrder s h idx = true →
    takeMsg h idx (fun t => t) s = u → u.kor.up = true → u.spn.mode ≠ .dump → (region u r).adopted = true →
    exec (.adoptReply h idx r answer) s = .next
    ((if answer = 1 then settle (setConflict r true u) else if inConflict u r then settle (resyncRegion r (setConflict r false u)) else u))) ∧
  (∀ (s : State) (h : FlitHdr) (idx r : Nat) (u v : State), korHears s = true → inOrder s h idx = true →
    takeMsg h idx (fun t => t) s = u → u.kor.up = true → u.spn.mode ≠ .dump → defined u r = true →
    (region u r).entry.sideB = u.kor.side → inConflict u r = false →
    { takeOwnership [r] u with kor := { (takeOwnership [r] u).kor with returning := sins r (takeOwnership [r] u).kor.returning } } = v →
    exec (.return h idx r) s = .next
    ((if v.kor.ownCopies.any (inRegion v r) then v else sendMsg (.ownCopyDone r) { v with kor := { v.kor with returning := sdel v.kor.returning r } }))) ∧
  (∀ (s : State) (h : FlitHdr) (idx r : Nat) (u v : State), korHears s = true → inOrder s h idx = true →
    takeMsg h idx (fun t => t) s = u → u.kor.up = true → u.spn.mode ≠ .dump → u.kor.gaveBack.contains r = true →
    appendLog (.release (firstGranule u r) (granuleCount u r)) (beforeVault u) = v → exec (.ownCopyDone h idx r) s = .next
    (raise 0x090F 0x05 [(1, r)] { v with kor := { v.kor with gaveBack := sdel v.kor.gaveBack r }, vlt := { v.vlt with map := v.vlt.map.filter (fun e => !(firstGranule u r ≤ e.1 && e.1 < firstGranule u r + granuleCount u r)) } })) ∧
  (∀ (s : State) (h : FlitHdr) (idx cause lane codeword sent : Nat) (u : State), korHears s = true → inOrder s h idx = true →
    takeMsg h idx (fun t => t) s = u → u.kor.up = true → u.kor.spareTx = false →
    exec (.laneSwap h idx cause lane codeword sent) s = .next
    ({ u with kor := { u.kor with txFailed := setBit u.kor.txFailed (lane % 16), txSwap := some (lane % 16, cause, if seqLe codeword sent then (sent / 128 + 1) * 128 % 2 ^ 32 else codeword) } })) ∧
  (∀ (s : State) (h : FlitHdr) (idx lane codeword cause cw : Nat) (u : State), korHears s = true → inOrder s h idx = true →
    takeMsg h idx (fun t => t) s = u → u.kor.rxSwap = some (lane, cause, cw) → exec (.laneSwapAck h idx lane codeword) s = .next
    ({ u with kor := { u.kor with rxSwap := none, nakOut := u.kor.nakOut || codeword ≠ cw } })) ∧
  (∀ (s : State) (lane symbols received : Nat) (lockLost : Bool) (u : State), korHears s = true → countSymbols symbols s = u →
    korHears u = true → u.kor.rxFailed.testBit lane = false → (lockLost = true ∨ u.kor.swapThresh < symbols) →
    u.kor.spareRx = false → u.kor.rxSwap = none → exec (.laneFault lane lockLost symbols received) s = .next
    (sendMsg (.laneSwap (flag (!lockLost)) lane ((received + 128) % 2 ^ 32)) { u with kor := { u.kor with rxFailed := setBit u.kor.rxFailed lane, rxSwap := some (lane, flag (!lockLost), (received + 128) % 2 ^ 32), swapReqOut := true } })) ∧
  (∀ (s : State) (lane cause cw : Nat), s.kor.txSwap = some (lane, cause, cw) → exec (.laneSwitch true) s = .next
    (sendMsg (.laneSwapAck lane cw) (raise 0x0902 0x05 [(1, 0), (1, lane), (1, cause)] { s with kor := { s.kor with spareTx := true, txSwap := none, swaps := satAdd 16 s.kor.swaps 1 } }))) ∧
  (∀ (s : State) (lane cause cw : Nat), s.kor.rxSwap = some (lane, cause, cw) → s.kor.spareRx = false →
    exec (.laneSwitch false) s = .next
    (raise 0x0902 0x05 [(1, 1), (1, lane), (1, cause)] { s with kor := { s.kor with spareRx := true, swapReqOut := false, swaps := satAdd 16 s.kor.swaps 1 } })) ∧
  (∀ (s : State) (width : Nat), s.kor.unitOn = true → s.kor.trainingOn = true → (s.kor.state = .training ∨ s.kor.state = .solo) →
    exec (.korricTrainingDone true width) s = .next
    (sendExchange { s with kor := { s.kor with trainingOn := false, trained := true, up := false, stateSeen := false, digestSeen := [], width := if width = 4 then 4 else 8, txSeq := 0, rxSeq := 0, rxIdx := 15, replay := [], txQueue := [], nakOut := false, swapReqOut := false, rxSwap := none, txSwap := none, mack := (s.kor.mseqNext + 2 ^ 32 - 1) % 2 ^ 32, held := [], heldPoison := [], sameSide := false, digestBad := false } })) ∧
  (∀ (s : State) (width : Nat), s.kor.unitOn = true → s.kor.state = .deciding → s.kor.asking = false →
    exec (.korricTrainingDone true width) s = .next
    (sendExchange { s with kor := { s.kor with trained := true, width := retrainWidth s } })) ∧
  (∀ (s : State) (u : State), s.kor.state = .deciding → s.kor.asking = false →
    { s with kor := { s.kor with retrain := 1, trained := true, up := true, width := retrainWidth s, nakOut := false } } = u →
    exec (.fastRetrainDone true) s = .next
    (takeoverResume (resendKick (settle (releaseNotices (replayAll (setPair s.kor.before 0 (decisionEnd s.kor.before (raise 0x0901 0x05 [(1, u.kor.width), (1, flag u.kor.spareTx + 2 * flag u.kor.spareRx)] u))))))))) ∧
  (∀ (s : State), s.kor.state = .deciding → s.kor.asking = false → exec (.fastRetrainDone false) s = .next
    (takeoverResume (askWitness .decision { s with kor := { s.kor with retrain := 2, asking := true, trained := false, up := false, width := 0 } }))) ∧
  (∀ (s : State) (src hops tag live dumping headcap : Nat) (a b c : Nat), s.cwy.unit = .on → s.cwy.dupId = false →
    src ≠ s.cwy.myId → stampBits s live dumping headcap = (a, b, c) →
    exec (.rollCall src hops tag live dumping headcap true) s = .next
    (frameOn ⟨0xFF, src, hops, tag, .rollCall a b c⟩ (copyRoll a b c (ringRise (learnHead src s))))) ∧
  (∀ (s : State) (src hops tag : Nat), s.cwy.unit = .on → s.cwy.dupId = false → exec (.claim src hops tag true) s = .next
    ((if src = s.cwy.myId then (if s.cwy.claiming ∧
    !s.cwy.lowerSeen then sendRoll (raise 0x0A03 0x06 [(1, src)] { s with cwy := { s.cwy with isHead := true, electing := false, claiming := false, headId := src, history := [] } }) else s) else if src < s.cwy.myId then frameOn ⟨0xFF, src, hops, tag, .claim⟩ { s with cwy := { s.cwy with claiming := false, lowerSeen := true } } else frameOn ⟨0xFF, src, hops, tag, .claim⟩ s))) ∧
  (∀ (s : State) (src hops tag serial : Nat), s.cwy.unit = .on → s.cwy.dupId = false → src = s.cwy.myId → serial ≠ serialOf s →
    exec (.join src hops tag serial true) s = .next
    (raise 0x0A04 0x06 [(1, src), (8, serial)] { s with cwy := { s.cwy with dupId := true, isHead := false, electing := false, claiming := false } })) ∧
  (∀ (s : State) (src dst hops tag target a : Nat), s.cwy.unit = .on → s.cwy.dupId = false → dst = s.cwy.myId →
    s.cwy.isHead = true → s.cwy.electing = false → target = src ^^^ 1 → witnessAnswer s target = some a →
    exec (.witnessQ src dst hops tag target true) s = .next (frameSend src tag (.witnessA target a) s)) ∧
  (∀ (s : State) (src dst hops tag target result : Nat) (why : WitnessFor), s.cwy.unit = .on → s.cwy.dupId = false →
    dst = s.cwy.myId → s.cwy.asking = some (why, tag) → target = s.cwy.myId ^^^ 1 → (result = 1 ∨ result = 2) →
    exec (.witnessA src dst hops tag target result true) s = .next (endQuery result s)) ∧
  (∀ (s : State) (src dst hops tag off : Nat) (v : Nat) (u : State), s.cwy.unit = .on → s.cwy.dupId = false → dst = s.cwy.myId →
    off < 0x200000 → hasWo (off / 8 * 8) = false → off % 4 = 0 → regRead .array off (if off % 8 = 4 then 4 else 8) s = (v, u) →
    exec (.winRd src dst hops tag off true) s = .next (frameSend src tag (.winRdA 0 v) u)) ∧
  (∀ (s : State) (src dst hops tag data : Nat) (a : WinAsk), s.cwy.unit = .on → s.cwy.dupId = false → dst = s.cwy.myId →
    s.cwy.winAsks.find? (fun x => x.tag = tag && x.member = src) = some a → a.latch = false →
    exec (.winRdA src dst hops tag 0 data true) s = .next
    (send (.readData a.path (if a.width = 8 then data % 2 ^ 64 else data % 2 ^ 32)) { s with cwy := { s.cwy with winAsks := s.cwy.winAsks.filter (fun x => x.tag ≠ tag) } })) ∧
  (∀ (s : State) (src dst hops tag off be data : Nat) (fact : Bool), s.cwy.unit = .on → s.cwy.dupId = false → dst = s.cwy.myId →
    s.spn.mode ≠ .dump → off < 0x200000 → hasWo (off / 8 * 8) = false → s.cwy.remoteWrEn = true → (off < 0x70000 ∨ 0x80000 ≤ off) →
    exec (.winWr src dst hops tag off be data fact true) s = .next
    (regWrite ⟨.array, enabledBits be, data⟩ (off / 8 * 8) fact (dropHalf .array s))) ∧
  (∀ (s : State) (src dst hops tag : Nat) (packet : List Nat) (good : Bool), s.cwy.unit = .on → s.cwy.isHead = true →
    s.cwy.eidBase ≤ packet.getD 1 0 → packet.getD 1 0 - s.cwy.eidBase = s.cwy.myId → s.cwy.myId ≤ 63 →
    exec (.mctpFrame true src dst hops tag packet good) s = .next (send (.mctpOut packet) s)) ∧
  (∀ (s : State) (src dst hops tag : Nat) (packet : List Nat), s.cwy.unit = .on → s.cwy.dupId = false → dst = s.cwy.myId →
    exec (.mctpFrame false src dst hops tag packet true) s = .next (send (.mctpOut packet) s)) ∧
  (∀ (s : State) (src dst hops tag sub : Nat) (payload : List Nat), s.cwy.unit = .on → s.cwy.dupId = false → dst = s.cwy.myId →
    (sub = 1 ∨ sub = 2 ∨ sub = 3) → exec (.cmd src dst hops tag sub payload true) s = .next
    ((if sub = 1 then answerHead src tag 1 0 (statusFields s) s else if sub = 2 then memberBarrier tag src s else memberUpdate tag src s))) ∧
  (∀ (s : State) (src dst hops tag sub status : Nat) (result : Fields), s.cwy.unit = .on → s.cwy.dupId = false → dst = s.cwy.myId →
    exec (.cmdA src dst hops tag sub status result true) s = .next
    ((if sub = 3 then updateAnswer src status result s else arrayAnswer src sub status result s))) ∧
  (∀ (s : State) (src dst hops tag off : Nat) (data : List Nat), s.cwy.unit = .on → s.cwy.dupId = false → dst = s.cwy.myId →
    s.cwy.rollEn = true → s.nrg.quagOk = true → s.spn.mode ≠ .dump → exec (.fwData src dst hops tag off data true) s = .next
    (writeChunk off data s))

/-- The window, the Clasp and keys, the allocator, the flash, events, stages and power commands complete with their own effect: one clause
a form, its conditions on the state and operands alone (13 R440; 13 R443; 13 R447; 14 R468; 14 R474; 15 R487; 15 R496; 16 R522; 17 R541;
18 R566; 18 R587). The model's own choices in it: log 46, 64, 144. -/
def Obligations.CompleteCipherFlashTrustAndPower : Prop :=
  (∀ (s : State) (path : Path) (addr width : Nat), s.pwr.corePg = true → 0x300000 ≤ addr → addr < 0x400000 →
    accessOk addr width = true → exec (.windowRead path addr width) s = .next (windowRead path addr width s)) ∧
  (∀ (s : State) (path : Path) (addr width value : Nat) (fact : Bool), s.pwr.corePg = true → 0x300000 ≤ addr → addr < 0x400000 →
    accessOk addr width = true → exec (.windowWrite path addr width value fact) s = .next
    (windowWrite path addr width value fact (dropHalf path s))) ∧
  (∀ (s : State) (tag : Nat) (a : WinAsk), s.cwy.winAsks.find? (fun x => x.tag = tag) = some a →
    exec (.windowReadTimeout tag) s = .next (windowGone a s)) ∧
  (∀ (s : State) (path : Path) (v : Nat), cipFrozen s = false → ownerId path ≠ 0 → s.cip.owner = 0 → v = ownerId path →
    exec (.claspWrite path v) s = .next (dropHalf path (raise 0x0B04 0x07 [(1, v)] { s with cip := { s.cip with owner := v } }))) ∧
  (∀ (s : State) (path : Path), cipFrozen s = false → ownerId path ≠ 0 → s.cip.owner = ownerId path →
    exec (.claspWrite path 0) s = .next (dropHalf path (claspRelease s))) ∧
  (∀ (s : State) (path : Path) (k value : Nat), cipFrozen s = false → k < 12 → holdsClasp s path = true →
    exec (.keyDataWrite path k 8 value) s = .next
    (dropHalf path { s with cip := { s.cip with staging := tins k (value % 2 ^ 64) s.cip.staging } })) ∧
  (∀ (s : State) (path : Path), commonRefusal s path s.cip.slotSel true = none → loadRefusal s s.cip.slotSel = none →
    exec (.load path) s = .next
    (dropHalf path (acceptKey s.cip.slotSel (.native ((List.range (wordsNeeded s.cip.slotSel)).flatMap (fun k => leBytes 8 (tget 0 s.cip.staging k)))) { s with cip := { s.cip with staging := [] } }))) ∧
  (∀ (s : State) (path : Path) (root : Nat) (u : State), holdsClasp s path = true → cipFrozen s = false →
    { s with cip := { s.cip with cmdRoot := root % 8 } } = u → commonRefusal u path u.cip.slotSel true = none →
    deriveRefusal u u.cip.slotSel (root % 8) = none → exec (.derive path root) s = .next
    (dropHalf path (acceptKey u.cip.slotSel (.derived (root % 8)) u))) ∧
  (∀ (s : State) (path : Path) (u : State), commonRefusal s path s.cip.slotSel false = none →
    (256 ≤ s.cip.slotSel ∨ slotRegionOff s s.cip.slotSel = true) → modSlot s.cip.slotSel (fun k => { k with result := 0 }) s = u →
    exec (.unload path) s = .next
    (dropHalf path (if (slotOf s s.cip.slotSel).st = .on then slotStopCheck s.cip.slotSel (setSlot s.cip.slotSel .stopping u) else if (slotOf s s.cip.slotSel).st = .starting then setSlot s.cip.slotSel .off (modSlot s.cip.slotSel (fun k => { k with stage := none }) (zeroize s.cip.slotSel { u with cip := { u.cip with queue := u.cip.queue.filter (fun o => o.slot ≠ s.cip.slotSel) } })) else u))) ∧
  (∀ (s : State) (path : Path), holdsClasp s path = true → s.spn.mode ≠ .dump → exec (.clearStaging path) s = .next
    (dropHalf path (modSlot s.cip.slotSel (fun k => { k with result := 0 }) { s with cip := { s.cip with staging := [] } }))) ∧
  (∀ (s : State) (slot c : Nat), coreOf s (fun o => o.kind = .rekey && o.slot = slot) = some c →
    (slotOf (cipFinish c s) slot).st = .starting → (slotOf (cipFinish c s) slot).binding = none →
    (slotOf (cipFinish c s) slot).stage.isSome = true → exec (.rekeyDone slot) s = .next (rekeyEnd slot (cipFinish c s))) ∧
  (∀ (s : State) (core vpa : Nat) (tagOk : Bool) (o : CipOp), s.cip.cores.getD core none = some o →
    (o.kind = .decrypt ∨ o.kind = .encrypt) → exec (.cipherOpComplete core tagOk vpa) s = .next
    (cipFinish core (if o.kind = .decrypt ∧
    (tagOk && ((pageAt s vpa).map (tagMatches s vpa)).getD true) = false then tagFailed vpa s else s))) ∧
  (∀ (s : State) (core : Nat), core < 8 → s.cip.coresOk.testBit core = true → s.cip.cores.getD core none = none →
    exec (.coreFault core) s = .next
    (raise 0x0B0E (quadUnit (core / 2) 3) [(1, core)] { s with cip := { s.cip with coresOk := clearBit s.cip.coresOk core, cores := s.cip.cores.set core none, coreFaults := satAdd 16 s.cip.coreFaults 1 } })) ∧
  (∀ (s : State) (src : Nat), s.pwr.corePg = true → alarmEnabled s src = true → exec (.alarm src) s = .next (alarmFire src s)) ∧
  (∀ (s : State) (cool : Bool), s.pwr.corePg = true → s.cip.alarmLatch = true → alarmHolds cool s = false →
    exec (.alarmAck cool) s = .next
    (deriveBound 0 (loadOtpRoot { s with cip := { s.cip with alarmLatch := false, alarmSrc := 0, alarmNow := 0 } }))) ∧
  (∀ (s : State) (reqs : List AllocReq) (t : State × List AllocReq), s.tsk.unit ≠ .off →
    allocFirst (reqs.mergeSort (fun a b => allocRank a ≤ allocRank b)) s = t → exec (.alloc reqs) s = .next
    (t.2.foldl (fun u r => spillSearch r (poolFor r.size) 4 (poolFor r.size) u) t.1)) ∧
  (∀ (s : State) (by_ dest pointer : Nat) (u : State), (if (ptrPool s pointer).isSome then descCheck pointer s else s) = u →
    pointerCause u by_ pointer false = none → dest < 12 → (descOf u pointer).holders.testBit dest = false →
    exec (.share by_ dest pointer) s = .next
    (setDesc pointer { descOf u pointer with refcnt := (descOf u pointer).refcnt + 1, holders := setBit (descOf u pointer).holders dest } u)) ∧
  (∀ (s : State) (requester pointer : Nat) (u : State), (if (ptrPool s pointer).isSome then descCheck pointer s else s) = u →
    pointerCause u requester pointer true = none → exec (.release requester pointer) s = .next (tskRelease requester pointer u)) ∧
  (∀ (s : State) (q : Nat) (c : Carving) (u : State), s.tsk.next = some c → s.tsk.slices.getD q .off = .stopping →
    s.tsk.descs.any (fun e => e.1 / 2 ^ 22 = q && e.2.dstate = 1) = false →
    { setSlice q .on (setSlice q .starting (recarve q c s)) with tsk := { (setSlice q .on (setSlice q .starting (recarve q c s))).tsk with recarved := setBit (setSlice q .on (setSlice q .starting (recarve q c s))).tsk.recarved q } } = u →
    exec (.sliceDrained q) s = .next
    ((if u.img.livePools then liveLoop 1100 (carveNext c u) else { u with tsk := { u.tsk with unit := .on, next := none, saveRsv := min u.tsk.saveRsv (saveRsvMax u) } }))) ∧
  (∀ (s : State) (off data : Nat), off % 8 = 0 → off < 0x800000 → exec (.programWord .firmware off data) s = .next
    (dropHalf .firmware (programWord off (data % 2 ^ 64) s))) ∧
  (∀ (s : State) (off : Nat), off % 8 = 0 → off < 0x800000 → exec (.eraseSector .firmware off) s = .next
    (dropHalf .firmware (eraseSector off s))) ∧
  (∀ (s : State) (bank : Nat), exec (.readEraseCounter .firmware bank) s = .next
    (dropHalf .firmware (enterMode (bank % 2) .counter s))) ∧
  (∀ (s : State) (bank : Nat), exec (.statusAndIdentity .firmware bank) s = .next
    (dropHalf .firmware (enterMode (bank % 2) .status s))) ∧
  (∀ (s : State) (bank : Nat), bank % 2 = 0 → exec (.enterBogOakRow .firmware bank) s = .next
    (dropHalf .firmware (enterMode 0 .row s))) ∧
  (∀ (s : State) (bank : Nat), exec (.returnToRead .firmware bank) s = .next
    (dropHalf .firmware (modBank (bank % 2) (fun k => { k with mode := .read, seqErr := false, seqStep := 0, stream := none }) s))) ∧
  (∀ (s : State) (bank : Nat), (bankOf s (bank % 2)).seqStep ≠ 0 → exec (.sequenceTimeout bank) s = .next (seqBreak (bank % 2) s)) ∧
  (∀ (s : State) (path : Path) (off width bad : Nat), exec (.flashWindowRead path off width bad) s = .next
    (dropHalf path (flashRead path off width bad s))) ∧
  (∀ (s : State) (bank pulses : Nat) (ok readBack : Bool) (o : FlashOp), (bankOf s (bank % 2)).running = some o →
    exec (.flashOpComplete bank ok readBack pulses) s = .next (flashDone (bank % 2) o ok readBack pulses s)) ∧
  (∀ (s : State) (type bank sector aux : Nat) (u : State), s.nrg.quagOk = true → (type % 4 = 1 ∨ type % 4 = 3) →
    journalAppend (type % 4) (bank % 2) (sector % 1024) (if type % 4 = 3 then aux % 1024 else 0) { s with ifc := { s.ifc with jType := type % 4, jBank := bank % 2, jSector := sector % 1024, jAux := aux % 1024 } } = u →
    exec (.journalAppend .firmware type bank sector aux true) s = .next
    (dropHalf .firmware { u with ifc := { u.ifc with jFailed := false } })) ∧
  (∀ (s : State) (id : Nat) (f : FoldEntry), s.evr.folds.find? (fun f => f.id = id) = some f → exec (.foldExpiry id) s = .next
    (evrKick (closeFold f s))) ∧
  (∀ (s : State) (path : Path) (seq : Nat), exec (.cursorLoad path seq) s = .next
    (dropHalf path (modCursor path (fun c => { c with loading := some (seq % 2 ^ 64), ready := false, next := false }) s))) ∧
  (∀ (s : State) (path : Path), exec (.cursorNext path) s = .next
    (dropHalf path (modCursor path (fun c => { c with loading := some (c.seq + 1), ready := false, next := true }) s))) ∧
  (∀ (s : State) (path : Path), exec (.cursorLoadDone path) s = .next
    (modCursor path (fun c => match c.loading with | none => c | some q => match (readable s).find? (fun r => q ≤ r.seq) with | some r => { c with loading := none, ready := true, next := false, seq := r.seq, window := some r, missing := !c.next && decide (r.seq ≠ q) } | none => { c with loading := none, ready := true, next := false, window := none, missing := true }) s)) ∧
  (∀ (s : State) (reg i : Nat) (u v : State), reg % 8 = i → i ≠ 7 → stageWrites s.sig.stage i = true →
    { s with sig := { s.sig with extReg := i } } = u → noteDigest i (extValue u) (extendSignet i (extValue u) u) = v →
    exec (.extend .firmware reg) s = .next (dropHalf .firmware (raise 0x0F02 0x0B [(1, i), (8, leValue ((extValue u).take 8))] v))) ∧
  (∀ (s : State) (certOk : Bool), s.sig.stage = 0 → exec (.advance .firmware certOk) s = .next
    (dropHalf .firmware { sealDevId certOk s with sig := { (sealDevId certOk s).sig with stage := 1 } })) ∧
  (∀ (s : State) (certOk : Bool), s.sig.stage = 1 → exec (.advance .firmware certOk) s = .next
    (dropHalf .firmware { s with sig := { s.sig with stage := 2 } })) ∧
  (∀ (s : State) (path : Path) (u : State), path ≠ .firmware → path ≠ .array → s.spn.mode = .service → s.nrg.quagOk = true →
    commitThermo 18 s.sig.imgArb (commitThermo 15 s.sig.fwArb (commitThermo 12 s.sig.ldrArb { s with sig := { s.sig with commitRefused := false } })) = u →
    exec (.commit path) s = .next (dropHalf path (raise 0x0F04 0x0B [(1, arbLoader u), (1, arbFirmware u), (1, arbImage u)] u))) ∧
  (∀ (s : State), fwRuns s = true → exec (.kick .firmware) s = .next
    ({ s with pwr := { s.pwr with fwBusy := false, kick := true } })) ∧
  (∀ (s : State) (d : Nat), s.pwr.entry = 0 → domainIdle s d = true → 6 ≤ d → d < 10 → s.spn.quadEn.testBit (d - 6) = true →
    s.pwr.pstate = 2 → memBusy s (d - 6) = false → exec (.idleTimer d) s = .next (gateDomain d s)) ∧
  (∀ (s : State) (kind d : Nat), serving s = true → domainStopped s d = true → 1 ≤ kind → kind ≤ 10 →
    exec (.domainWake kind d) s = .next (needDomains kind (wakeMask d) s)) ∧
  (∀ (s : State) (d us : Nat) (u : State), s.pwr.waking.testBit d = true → us ≤ s.pwr.stallUs →
    { s with pwr := { s.pwr with waking := clearBit s.pwr.waking d, on := setBit s.pwr.on d, stallMaxUs := max s.pwr.stallMaxUs (min us 0xFFFF) } } = u →
    exec (.domainReady d us) s = .next (exitDone (streamFollow s (cmdKick (if 10 ≤ d ∧
    (roleOf u (quadUnit (d - 10) 2)).state = .off then engRoles (d - 10) .active u else u))))) ∧
  (∀ (s : State) (d : Nat) (u : State), s.pwr.waking.testBit d = true →
    raise 0x100A 0x04 [(1, d)] { s with pwr := { s.pwr with waking := clearBit s.pwr.waking d, failed := setBit s.pwr.failed d } } = u →
    exec (.stallTimeout d) s = .next
    (exitDone (if 10 ≤ d then engineFail (d - 10) u else if 2 ≤ d then dumpKick (lifeFollow (fenceQuad ((d - 2) % 4) 1 u)) else u))) ∧
  (∀ (s : State) (refusals : List (Nat × Nat)), s.pwr.entry = 1 →
    lowestRefusal (p2Refusals s s.pwr.entryStep ++ refusals.filter (blockRefusal s s.pwr.entryStep)) = none →
    stepBusy s s.pwr.entryStep = false → exec (.p2StepDone refusals) s = .next (p2Advance s)) ∧
  (∀ (s : State) (unit : Nat), s.pwr.entry = 1 → blockOf s s.pwr.entryStep unit = true → exec (.p2StopTimeout unit) s = .next
    (settle (p2Refuse unit 4 s))) ∧
  (∀ (s : State) (p : FilterPin) (level short : Bool), s.pwr.aonUp = true → (filterOf p s).st = .idle →
    assertedLevel p level = true → pinUsed p s = true → exec (.filterInputEdge p level short) s = .next
    (setFilter p { filterOf p s with level := level, seen := true, st := .qualify } s)) ∧
  (∀ (s : State) (p : FilterPin), s.pwr.aonUp = true → (filterOf p s).st = .qualify → assertedLevel p (filterOf p s).level = true →
    exec (.filterTimer p) s = .next (pinAsserted p (setFilter p { filterOf p s with st := .asserted } s))) ∧
  (∀ (s : State) (p : FilterPin), s.pwr.aonUp = true → (filterOf p s).st = .asserted →
    assertedLevel p (filterOf p s).level = false → exec (.filterTimer p) s = .next
    (pinReleased p (setFilter p { filterOf p s with st := .idle } s))) ∧
  (∀ (s : State) (rail : Rail) (mv : Nat), s.pwr.aonUp = true → s.pwr.corePg = true → coreRail rail = false →
    exec (.railFault rail mv) s = .next (raise 0x1013 0x04 [(1, railCode rail), (2, mv)] s)) ∧
  (∀ (s : State) (rail : Rail) (mv : Nat), s.pwr.aonUp = true → s.pwr.corePg = true → coreRail rail = true →
    exec (.railFault rail mv) s = .next
    (raise 0x1013 0x04 [(1, railCode rail), (2, mv)] { powerGone s with pwr := { (powerGone s).pwr with coreEn := true, corePg := false, railReset := true } }))

/-- Power-on, resets of the link, region requests, the input watch, the dump and gauge events complete with their own effect: one clause a
form, its conditions on the state and operands alone (18 R580; 19 R609; 03 R109; 03 R107; 05 R164; 05 R190; 06 R212; 08 R275; 08 R277; 06
R231; 06 R236; 02 R93). The model's own choices in it: log 15, 37, 62. -/
def Obligations.CompletePowerOnDumpAndGauge : Prop :=
  (∀ (s : State) (headerOk : Bool) (badAreas : List Nat), s.pwr.aonUp = true → s.pwr.poweredDown = true →
    exec (.inputReturn headerOk badAreas) s = .next (coldStart (headerOk && s.aos.valid) badAreas s)) ∧
  (∀ (s : State) (k : Nat) (out : Bool) (temp : Int), s.pwr.corePg = true → k < 9 → s.pwr.tempOut.testBit k ≠ out →
    exec (.tempRange k out temp) s = .next
    (raise 0x1012 0x04 [(1, k), (2, twos 16 temp)] { s with pwr := { s.pwr with tempOut := putBit s.pwr.tempOut k out } })) ∧
  (∀ (s : State) (found : List SramWord), s.pwr.corePg = true → exec (.sramScrub found) s = .next
    (((found ++ (quadList s).flatMap (plantedWords s)).filter (fun w => decide (w.quad < 4) && decide (w.addr < sramWords w.array))).foldl (fun t w => sramFinding w t) { s with qdc := s.qdc.map (fun d => { d with sramPlanted := [] }) })) ∧
  (∀ (s : State) (q g cl : Nat) (errs again : List SymErr) (r : ReservedWord) (u t : State), patrolRuns s q = true →
    (qdcOf s q).patrolLine = cl → granuleAt s q (cl / 256) = g → patrolNext q (if armedFor s q 2 then planted q 2 s else s) = u →
    g < hdmGranules s → readEffects (g * 256 + cl % 256) false again (readLine u (g * 256 + cl % 256) (patrolErrs s q errs)) u = t →
    exec (.patrolRead q errs again r) s = .next ((if (qdcOf t q).state = 3 then lifeFollow t else settle t))) ∧
  (∀ (s : State) (q : Nat), s.pwr.corePg = true → s.spn.quadEn.testBit q = true → domainStopped s (dQeng q) = false →
    exec (.sdeStallTimeout q) s = .next (sdeFail q s)) ∧
  (∀ (s : State) (q : Nat), modeIn [.boot, .test] s = true → s.pwr.corePg = true → q < 4 → (qdcOf s q).setChip ≤ 9 →
    (qdcOf s q).marks.any (fun e => e.1 = (qdcOf s q).setSlot) = false → exec (.markSet q) s = .next
    (chipMark q (qdcOf s q).setSlot (qdcOf s q).setChip s)) ∧
  (∀ (s : State) (q : Nat), s.spn.mode = .test → s.spn.quadEn.testBit q = true → 1 ≤ (qdcOf s q).target → (qdcOf s q).target ≤ 5 →
    exec (.injectArm q) s = .next (modQdc q (fun d => { d with armed := true }) s)) ∧
  (∀ (s : State) (q : Nat), s.spn.mode = .test → s.spn.quadEn.testBit q = true → 6 ≤ (qdcOf s q).target → (qdcOf s q).target ≤ 8 →
    exec (.injectArm q) s = .next
    ((if (qdcOf s q).target = 6 then lifeFollow (fenceQuad q 3 (planted q 6 s)) else if (qdcOf s q).target = 7 then sdeFail q (planted q 7 s) else coreFail (2 * q) (planted q 8 s)))) ∧
  (∀ (s : State) (n : Nat) (slow : List Nat), s.vlt.erasing.contains n = true → exec (.vaultEraseComplete n [] slow) s = .next
    (streamFollow s ((slow.filter (fun v => vpaSeg v = n)).foldl (fun t v => markWorn v 1 t) (eraseDone n s)))) ∧
  (∀ (s : State) (n : Nat) (failed slow bad : List Nat) (u : State), s.vlt.erasing.contains n = true →
    (failed.filter (fun v => vpaSeg v = n)).map blockVpa = bad → bad ≠ [] →
    bad.foldl (fun t v => raise 0x0805 (quadUnit (vpaCh v / 4) (4 + vpaCh v % 4)) [(5, v)] (retireBlock v (modVch (vpaCh v) (fun c => { c with eraseFail := satAdd 16 c.eraseFail 1 }) t))) s = u →
    exec (.vaultEraseComplete n failed slow) s = .next
    (streamFollow s ((slow.filter (fun v => vpaSeg v = n && !(bad.contains (blockVpa v)))).foldl (fun t v => markWorn v 1 t) u))) ∧
  (∀ (s : State) (v ones : Nat) (words : List Nat) (hard rebuilt last : Bool), (pageAt s v).isSome = true → serving s = true →
    readsErased s ones = false → correctionLoad s words < 6000 →
    exec (.vaultReadComplete v words ones hard true rebuilt last) s = .next
    (blockRead v (some (correctionLoad s words)) last (modVch (vpaCh v) (fun x => { x with readPages := wrapAdd 64 x.readPages 1, corrected := satAdd 32 x.corrected (words.foldl (· + ·) 0), maxLoad := max x.maxLoad (min (correctionLoad s words) 65535), hardFails := if hard then satAdd 16 x.hardFails 1 else x.hardFails }) s))) ∧
  (∀ (s : State) (q : Nat), s.pwr.corePg = true → s.spn.quadEn.testBit q = true → exec (.sdeParityError q) s = .next (sdeFail q s)) ∧
  (∀ (s : State), s.pwr.aonUp = false → exec .powerOn s = .next (coldStart false [] s)) ∧
  (∀ (s : State), s.pwr.coreEn = true → s.pwr.corePg = false → s.pwr.railReset = false → exec .corePgRise s = .next (coreStart s)) ∧
  (∀ (s : State), s.pwr.coreEn = true → s.pwr.corePg = false → s.pwr.railReset = true → exec .corePgRise s = .next (structReset s)) ∧
  (∀ (s : State), s.pwr.coreEn = true → s.pwr.corePg = false → s.pwr.railReset = false → exec .corePgTimeout s = .next
    (raise 0x100B 0x04 [(1, s.pwr.railTries)] { s with pwr := { s.pwr with coreEn := false, retryWait := decide (s.pwr.railTries < 3), faultN := s.pwr.faultN || decide (3 ≤ s.pwr.railTries) } })) ∧
  (∀ (s : State), s.pwr.retryWait = true → exec .coreEnRetry s = .next
    ({ s with pwr := { s.pwr with coreEn := true, retryWait := false, railTries := s.pwr.railTries + 1 } })) ∧
  (∀ (s : State), s.pwr.corePg = true → s.spn.clockDegraded = false → s.pwr.lastKind = 1 → s.spn.mode = .boot → s.img.bootStep = 0 →
    exec .clockDegraded s = .next (raise 0x1001 0x04 [] { s with spn := { s.spn with clockDegraded := true } })) ∧
  (∀ (s : State), s.pwr.aonUp = true → s.pwr.rtcDegraded = false → exec .rtcDegraded s = .next
    (noteRtc { s with pwr := { s.pwr with rtcDegraded := true, rtcDue := true } })) ∧
  (∀ (s : State), s.spn.mode = .boot → s.img.bootStep = 13 → (s.cip.armed = true ∨ s.cip.exhausted = true) →
    exec .armEntryPassed s = .next (regionStep s)) ∧
  (∀ (s : State), s.hlk.linkUp = true → exec .linkDown s = .next (settle (raise 0x0202 0x01 [] (linkDrops (linkDown s))))) ∧
  (∀ (s : State), s.hlk.perst = false → s.pwr.corePg = true → modeIn [.restore, .service, .dump, .parked] s = true →
    exec .perstNAssert s = .next
    (settle (hostReset 3 (raise 0x0204 0x01 [] (uncommitAll (linkDown { s with hlk := { s.hlk with perst := true } })))))) ∧
  (∀ (s : State), s.hlk.perst = false → s.pwr.corePg = true → modeIn [.boot, .recovery, .test] s = true →
    exec .perstNAssert s = .next
    (warmBoot (hostReset 3 (raise 0x0204 0x01 [] (uncommitAll (linkDown { s with hlk := { s.hlk with perst := true } })))))) ∧
  (∀ (s : State), exec .perstNDeassert s = .next ({ s with hlk := { s.hlk with perst := false } })) ∧
  (∀ (s : State), s.hlk.presented = true → exec .functionReset s = .next (settle (hostReset 4 (raise 0x0205 0x01 [] s)))) ∧
  (∀ (s : State), s.hlk.linkUp = true → exec .gpfPhase1 s = .next (send (.gpf 1) s)) ∧
  (∀ (s : State), s.hlk.linkUp = true → exec .gpfPhase2 s = .next (send (.gpf 2) s)) ∧
  (∀ (s : State), s.cwy.array.any (fun a => a.sub = 1) = true → exec .arrayStatusTimeout s = .next (arrayFinish s)) ∧
  (∀ (s : State), exec .doeAbort s = .next (setConn .doe {} s)) ∧
  (∀ (s : State), serving s = true → s.spn.mode ≠ .dump → exec .regionStart s = .next (lifeFollow (startRegion s.wrp.regionIdx s))) ∧
  (∀ (s : State), serving s = true → s.spn.mode ≠ .dump → exec .regionStop s = .next (lifeFollow (stopReq s.wrp.regionIdx s))) ∧
  (∀ (s : State) (i : InputSet), s.wrp.inbox = some i → exec .inputSet s = .next
    (takeRaw (rawBudget s.wrp.forceZero i.storeAbsent i.cap i.eUsable i.reserve i.eFixed i.eGib) (zeroCauseOf (energyShort i.eUsable i.reserve i.eFixed i.eGib) s.wrp.forceZero i.storeAbsent i.cap) { s with wrp := { s.wrp with inbox := none, recompute := false, inEGib := i.eGib % 2 ^ 16, inEFixed := i.eFixed % 2 ^ 16, inReserve := i.reserve % 2 ^ 8, inEUsable := min i.eUsable (2 ^ 24 - 1), swapDerate := i.swapDerate, learning := i.learning } })) ∧
  (∀ (s : State), s.spn.mode ≠ .dump → exec .recompute s = .next (sendInput { s with wrp := { s.wrp with recompute := true } })) ∧
  (∀ (s : State), s.nrg.input = .good → exec .inputBelowPfail s = .next (setInput .qualify (assertHoldup .input s))) ∧
  (∀ (s : State), s.nrg.input = .qualify → exec .inputAbovePfail s = .next (setInput .settle s)) ∧
  (∀ (s : State), s.nrg.input = .qualify → exec .pfailQualified s = .next (qualified s)) ∧
  (∀ (s : State), s.nrg.input = .settle → exec .settleRecovered s = .next
    (releaseInputHoldup (setInput .good (raise 0x0404 0x03 [] s)))) ∧
  (∀ (s : State), s.nrg.input = .settle → exec .settleLimitExpiry s = .next (qualified s)) ∧
  (∀ (s : State), s.nrg.input = .ride → exec .rideThroughSurvived s = .next
    (releaseInputHoldup (setInput .good (useFree (raise 0x0402 0x03 [(2, elapsedNow 16 s)] s))))) ∧
  (∀ (s : State), s.nrg.input = .ride → exec .rideThroughExpiry s = .next (inputCommit (if s.nrg.rideWarn then 3 else 1) s)) ∧
  (∀ (s : State), s.nrg.input = .ride → eUsable s ≤ eNeed s → exec .earlyCommit s = .next (inputCommit 2 (raise 0x0403 0x03 [] s))) ∧
  (∀ (s : State), s.spn.mode = .test → dumpUnmet s = 0 → exec .testDump s = .next (commitDump 6 0 s)) ∧
  (∀ (s : State) (u v w : State), s.spn.mode = .dump → s.dmp.phase = 1 →
    (s.hlk.writes.filter (fun w => !w.inDram && !w.released && !(s.dmp.merges.contains (granuleOf w.line)))).foldl (fun t w => coastLine w t) s = u →
    useFree { useFree u with wrp := { (useFree u).wrp with closeNs := elapsedNow 16 u, coastNs := elapsedNow 16 (useFree u) } } = v →
    raise 0x0304 0x02 [(2, elapsedNow 16 u), (1, v.wrp.coasted), (1, v.wrp.truncated)] v = w → exec .coastEnd s = .next
    ((let x := (quadList w).foldl (fun t q => modDumpQuad q (fun d => { d with phase := 2, list := dirtyList w q }) t) w;
    { x with dmp := { x.dmp with phase := 2, priorLost := dumpSum x priorLost } }))) ∧
  (∀ (s : State), s.dmp.preflush = true → filterHolds s.pwr.warnFilter = false → filterHolds s.pwr.odFilter = false →
    exec .preflushClear s = .next (refreshRegime (raise 0x0602 0x0E [(1, 2)] { s with dmp := { s.dmp with preflush := false } }))) ∧
  (∀ (s : State), s.nrg.hibernate = false → exec .offsetZero s = .next ({ s with nrg := { s.nrg with zeroing := true } })) ∧
  (∀ (s : State) (u v : State), refreshEstimates s = u → u.nrg.storePresent = true → u.nrg.cells ≠ 0 →
    raise 0x0405 0x03 [] (refreshEstimates { u with nrg := { u.nrg with q := u.nrg.qFull, anchor := .full, countDrift := false, qHigh := u.nrg.qFull, qLow := u.nrg.qFull, cycles := if u.nrg.qFull < 10 * (u.nrg.qHigh - u.nrg.qLow) then u.nrg.cycles + 1 else u.nrg.cycles } }) = v →
    exec .fullAnchor s = .next (gaugeAfter s.nrg (sendInput (if v.nrg.lstate = .waitFull ∧
    learnConditions v then learnToBudget v else v)))) ∧
  (∀ (s : State) (u : State), { s with nrg := { s.nrg with chargeCalc := chargeCalcOf s, chargePct := chargePctOf s.nrg (chargeCalcOf s), pctValid := true, holdupReserve := holdupReserveOf s } } = u →
    exec .reportUpdate s = .next ((if holdupReserveOf s / 100 ≠ s.nrg.holdupReserve / 100 then msix 9 u else u))) ∧
  (∀ (s : State), s.nrg.hibernate = false → s.nrg.holdupEn = false → exec .hibernateEnter s = .next
    (raise 0x040F 0x03 [] { s with nrg := { s.nrg with hibernate := true } })) ∧
  (∀ (s : State), exec .hibernateWake s = .next (gaugeWake s)) ∧
  (∀ (s : State) (u v : State), quagConditions s = true →
    pairIssue (gaugeIssue (appendDone { s with nrg := { s.nrg with quagOk := true } })) = u →
    u.aos.marks.foldl (fun t i => topUp i t) { u with aos := { u.aos with marks := [] } } = v → exec .pendingWriteback s = .next
    (ifcKickAll (evrKick (if v.aos.armPending then nonceAsk 3 0 0 0 0 { v with aos := { v.aos with armPending := false } } else v)))) ∧
  (∀ (s : State), learnDue s = true → retryDue s = true → learning s = false → learnConditions s = true →
    exec .learningAutoStart s = .next (learnStart s)) ∧
  (∀ (s : State) (x : SlotCheck) (cause bad i : Nat) (rs : List RawRecord) (u v : State), s.img.liveState = 1 → s.img.liveOp = 1 →
    checkSlot s.img.liveSlot s = x → checkRecords x.bytes = (bad, i, rs) → (if x.cause ≠ 0 then x.cause else bad) = cause →
    { s with img := { s.img with liveGo := false, slotA := if s.img.liveSlot = 0 then slotRegOf { x with cause := cause } else s.img.slotA, slotB := if s.img.liveSlot = 1 then slotRegOf { x with cause := cause } else s.img.slotB } } = u →
    (if cause = 0 then (skippedTypes rs).foldl (fun t ty => raise 0x0105 0x0C [(1, ty)] t) u else u) = v →
    exec .imageChecksDone s = .next ({ v with img := { v.img with liveState := if cause = 0 then 3 else 4, liveCause := cause } }))

/-- Learning, tokens, Korric timers, elections, events, resets and the last power events complete with their own effect: one clause a
form, its conditions on the state and operands alone (06 R224; 06 R225; 07 R257; 18 R574; 11 R379; 11 R382; 11 R398; 12 R411; 12 R417; 13
R440; 16 R522; 18 R585). The model's own choices in it: log 62, 132, 146. -/
def Obligations.CompleteTimersAndResets : Prop :=
  (∀ (s : State) (u : State), gaugeWake s = u → learning u = false → u.spn.mode = .service → exec .learnCtrlStart s = .next
    ({ learnStart u with nrg := { (learnStart u).nrg with learnGo := decide ((learnStart u).nrg.lstate = .waitFull) } })) ∧
  (∀ (s : State), exec .learnCtrlAbort s = .next (learnDisqualify 0x06 (gaugeWake s))) ∧
  (∀ (s : State), s.nrg.lstate = .waitBudget → s.wrp.b < dCount s → exec .learnBudgetTimeout s = .next (learnDisqualify 0x09 s)) ∧
  (∀ (s : State), s.nrg.lstate = .running → exec .learnDurationExpiry s = .next (learnDisqualify 0x07 s)) ∧
  (∀ (s : State), s.nrg.lstate = .waitFull → exec .learnAnchorTimeout s = .next (learnDisqualify 0x08 s)) ∧
  (∀ (s : State) (u : State) (x : Int), budgetTick { s with qdc := s.qdc.map (fun d => { d with ueRecent := 0 }) } = u →
    min ((wearBurst u * 1073741824 : Nat) : Int) (u.shd.balance + ((u.shd.rate / 1000 : Nat) : Int)) = x →
    -((u.shd.rate * 86400 : Nat) : Int) < x → exec .tokenTick s = .next
    ({ u with shd := { u.shd with balance := x, balFloor := false } })) ∧
  (∀ (s : State), s.vlt.mapValid = true → exec .rateRecompute s = .next (refreshGc (waRoll (lifeConditions (rateCompute s))))) ∧
  (∀ (s : State), s.spn.mode ≠ .dump → s.spn.mode ≠ .parked → s.pwr.corePg = true → exec .logFlush s = .next (flushLog s)) ∧
  (∀ (s : State), exec .heartbeatTimer s = .next (sendFlit .heartbeat s)) ∧
  (∀ (s : State), s.kor.unitOn = true → s.kor.trained = true → exec .replayTimeout s = .next (replayAll s)) ∧
  (∀ (s : State), s.kor.held.any (fun sl => mirrorBlock s (granuleOf sl.line) = 1) = false → exec .pressureOffTimer s = .next
    (setPressure false s)) ∧
  (∀ (s : State), s.kor.unitOn = true → s.kor.state = .solo → exec .trainingRetry s = .next
    ({ s with kor := { s.kor with trainingOn := true } })) ∧
  (∀ (s : State), s.kor.unitOn = true → s.kor.state = .training → s.kor.up = false → s.cwy.asking = none →
    exec .trainingTimeout s = .next (askWitness .training s)) ∧
  (∀ (s : State), s.kor.unitOn = true → s.kor.state = .training → s.kor.up = false → s.cwy.asking = none →
    exec .witnessRequery s = .next (askWitness .training s)) ∧
  (∀ (s : State), s.spn.mode ≠ .dump → s.kor.state = .training → exec .soloStart s = .next (soloSeven s)) ∧
  (∀ (s : State), (s.kor.state = .mirrored ∨ s.kor.state = .resync) → exec .silenceTimeout s = .next (beginDecision s)) ∧
  (∀ (s : State), s.kor.state = .solo → exec .silenceTimeout s = .next
    ({ s with kor := { s.kor with trained := false, up := false, width := 0 } })) ∧
  (∀ (s : State), exec .witnessTimeout s = .next (endQuery 3 s)) ∧
  (∀ (s : State), s.cwy.unit = .on → s.cwy.isHead = true → s.cwy.dupId = false → exec .rollCallTimer s = .next (sendRoll s)) ∧
  (∀ (s : State), exec .electionTimeout s = .next (claimHead s)) ∧
  (∀ (s : State), s.cwy.ringUp = false → exec .ringStartElection s = .next (claimHead s)) ∧
  (∀ (s : State), s.cwy.unit = .on → s.cwy.ringUp = true → exec .ringDownTimeout s = .next
    (raise 0x0A01 0x06 [(1, 0)] { s with cwy := { s.cwy with ringUp := false } })) ∧
  (∀ (s : State), s.cwy.unit = .on → exec .ringRelock s = .next
    ({ s with cwy := { s.cwy with relocks := satAdd 16 s.cwy.relocks 1 } })) ∧
  (∀ (s : State), s.cip.owner ≠ 0 → exec .claspTimeout s = .next (claspRelease s)) ∧
  (∀ (s : State), cipFrozen s = false → s.cip.slotSel < 256 → s.cip.exhausted = false →
    unusedRsv (slotOf s s.cip.slotSel) < 2 ^ 23 → exec .topup s = .next (topUp s.cip.slotSel s)) ∧
  (∀ (s : State), cipFrozen s = false → exec .compact s = .next
    ({ compactStart s with cip := { (compactStart s).cip with compactGo := (compactStart s).cip.compactBusy } })) ∧
  (∀ (s : State) (e : Event) (r : List Event), s.raised = e :: r → exec .eventReport s = .next (takeEvent e { s with raised := r })) ∧
  (∀ (s : State), s.pwr.poweredDown = false → exec .opSecTick s = .next
    ({ s with evr := { s.evr with opSec := wrapAdd 32 s.evr.opSec 1 }, aos := { s.aos with opSec := wrapAdd 32 s.evr.opSec 1 } })) ∧
  (∀ (s : State), s.pwr.poweredDown = false → exec .counterCheckpoint s = .next
    (raise 0x0E01 0x09 [(4, s.evr.opSec), (4, s.evr.powerCycles), (8, s.evr.retired)] s)) ∧
  (∀ (s : State), s.pwr.corePg = true → s.spn.mode = .parked → exec .reboot s = .next (structReset s)) ∧
  (∀ (s : State), s.pwr.corePg = true → s.spn.mode = .recovery → exec .structReset s = .next (structReset s)) ∧
  (∀ (s : State), fwRuns s = true → s.spn.mode ≠ .dump → exec .fwRestart s = .next (firmwareReset 0 s)) ∧
  (∀ (s : State), fwRuns s = true → s.pwr.wdtMs ≠ 0 → exec .watchdogExpiry s = .next (firmwareReset 1 s)) ∧
  (∀ (s : State), exec .lockstepMismatch s = .next (lockstepReset s)) ∧
  (∀ (s : State), s.pwr.corePg = true → s.spn.mode = .parked → s.pwr.vaultEmpty = true → exec .vaultOff s = .next
    (raise 0x1011 0x04 [(1, 1)] { s with pwr := { s.pwr with vltEn := false, vaultOff := true } })) ∧
  (∀ (s : State), exec .brownOut s = .next (brownOut 1 (brownOut 0 s))) ∧
  (∀ (s : State), exec .inputBelowQuag s = .next (quagFalls s)) ∧
  (∀ (s : State), s.spn.mode = .dump → s.dmp.phase < 7 → s.dmp.inputGood = false → exec .dumpBounce s = .next
    (raise 0x0608 0x0E [] { s with dmp := { s.dmp with bounce := true, inputGood := true } })) ∧
  (∀ (s : State), s.pwr.aonUp = true → exec .vddAonLost s = .next
    ({ powerGone s with aos := {}, dmp := {}, sig := {}, pwr := { on := 0 }, img := {}, cwy := {}, hlk := { vendorId := (powerGone s).hlk.vendorId } })) ∧
  (∀ (s : State) (t : TakeoverCmd), s.kor.takeover = some t → t.wait = 2 → s.nrg.quagOk = false → s.aos.pair.isSome = true →
    exec .pairRecordQuagTimeout s = .next
    (takeoverEnd t.force .retryRequired 0x000F 0 { s with aos := { s.aos with pair := none }, ifc := { s.ifc with waiting := s.ifc.waiting.filter (fun o => o.agent ≠ .kor) } }))
end

