-- ==== Sys2Proof/Laws/Tables.lean ====
section
/-!
SUPPORT. Sparse tables: reading after writing, and that every operation keeps the canonical form.
-/

namespace Sys2Proof.Machine

variable {α : Type}

theorem tget_tins (d : α) (k : Nat) (v : α) (i : Nat) :
    ∀ t : List (Nat × α), tget d (tins k v t) i = if i = k then v else tget d t i
  | [] => by simp [tins, tget, eq_comm]
  | (j, w) :: r => by
    have ih := tget_tins d k v i r
    unfold tins
    split
    · simp [tget, eq_comm]
    · split
      · rename_i h
        subst h
        simp only [tget, eq_comm]
        split <;> simp_all
      · simp only [tget, ih]
        by_cases h1 : j = i
        · have : i ≠ k := by omega
          simp [h1, this]
        · simp [h1]

theorem tget_tdel (d : α) (k i : Nat) :
    ∀ t : List (Nat × α), tget d (tdel t k) i = if i = k then d else tget d t i
  | [] => by simp [tdel, tget]
  | (j, w) :: r => by
    have ih := tget_tdel d k i r
    simp only [tdel, List.filter_cons, decide_not] at ih ⊢
    by_cases h : j = k
    · subst h
      simp only [decide_true, Bool.not_true, Bool.false_eq_true, if_false, ih, tget]
      by_cases hi : i = j
      · simp [hi]
      · simp [hi, Ne.symm hi]
    · simp only [h, decide_false, Bool.not_false, if_true, tget, ih]
      by_cases h1 : j = i
      · have : i ≠ k := by omega
        simp [h1, this]
      · simp [h1]

/-- Reading a table after a write. -/
@[simp] theorem tget_tput [DecidableEq α] (d : α) (t : List (Nat × α)) (k : Nat) (v : α) (i : Nat) :
    tget d (tput d t k v) i = if i = k then v else tget d t i := by
  unfold tput
  split
  · subst_vars
    exact tget_tdel _ k i t
  · exact tget_tins d k v i t

theorem tdel_sorted {t : List (Nat × α)} (k : Nat) (h : (t.map Prod.fst).Pairwise (· < ·)) :
    ((tdel t k).map Prod.fst).Pairwise (· < ·) :=
  h.sublist (List.Sublist.map _ List.filter_sublist)

theorem mem_tins (k : Nat) (v : α) (e : Nat × α) : ∀ t : List (Nat × α), e ∈ tins k v t → e = (k, v) ∨ e ∈ t
  | [] => by simp [tins]
  | (j, w) :: r => by
    have ih := mem_tins k v e r
    unfold tins
    split
    · simp
    · split
      · simp only [List.mem_cons]; tauto
      · simp only [List.mem_cons]; tauto

theorem tins_sorted (k : Nat) (v : α) :
    ∀ t : List (Nat × α), (t.map Prod.fst).Pairwise (· < ·) → ((tins k v t).map Prod.fst).Pairwise (· < ·)
  | [], _ => by simp [tins]
  | (j, w) :: r, h => by
    simp only [List.map_cons, List.pairwise_cons] at h
    unfold tins
    split
    · rename_i hk
      simp only [List.map_cons, List.pairwise_cons, List.mem_cons]
      refine ⟨?_, h⟩
      rintro a (rfl | ha)
      · exact hk
      · exact lt_trans hk (h.1 a ha)
    · split
      · rename_i _ hk
        subst hk
        simpa using h
      · simp only [List.map_cons, List.pairwise_cons]
        refine ⟨?_, tins_sorted k v r h.2⟩
        intro a ha
        obtain ⟨e, he, rfl⟩ := List.mem_map.1 ha
        rcases mem_tins k v e r he with rfl | he
        · show j < k
          omega
        · exact h.1 _ (List.mem_map_of_mem he)

theorem tableWf_iff [DecidableEq α] (d : α) (t : List (Nat × α)) :
    tableWf d t = true ↔ (t.map Prod.fst).Pairwise (· < ·) ∧ ∀ e ∈ t, e.2 ≠ d := by
  simp [tableWf]

theorem tableWf_nil [DecidableEq α] (d : α) : tableWf d ([] : List (Nat × α)) = true := by simp [tableWf]

/-- A write keeps the canonical form. -/
theorem tableWf_tput [DecidableEq α] (d : α) (t : List (Nat × α)) (k : Nat) (v : α) (h : tableWf d t = true) :
    tableWf d (tput d t k v) = true := by
  rw [tableWf_iff] at h ⊢
  unfold tput
  split
  · exact ⟨tdel_sorted k h.1, fun e he => h.2 e (List.mem_of_mem_filter he)⟩
  · rename_i hv
    refine ⟨tins_sorted k v t h.1, fun e he => ?_⟩
    rcases mem_tins k v e t he with rfl | he
    · exact hv
    · exact h.2 e he

/-- Leaving entries out keeps the canonical form. -/
theorem tableWf_filter [DecidableEq α] (d : α) (t : List (Nat × α)) (p : Nat × α → Bool) (h : tableWf d t = true) :
    tableWf d (t.filter p) = true := by
  rw [tableWf_iff] at h ⊢
  exact ⟨h.1.sublist (List.Sublist.map _ List.filter_sublist), fun e he => h.2 e (List.mem_of_mem_filter he)⟩

/-- A run of writes keeps the canonical form. -/
theorem tableWf_foldl [DecidableEq α] {β : Type} (d : α) (f : β → Nat) (g : β → α) (l : List β) :
    ∀ t : List (Nat × α), tableWf d t = true → tableWf d (l.foldl (fun t e => tput d t (f e) (g e)) t) = true := by
  induction l with
  | nil => exact fun _ h => h
  | cons e l ih => exact fun t h => ih _ (tableWf_tput d t _ _ h)

end Sys2Proof.Machine
end

