-- ==== Sys2Proof/Laws/Frame.lean ====
section
/-!
SUPPORT. `Keeps m s t`: what lies between two states. The parts whose bits are not in the mask `m` are the same, the queue is the same,
the cache DRAM keeps its canonical form, and the Bog-oak row loses no bit.
-/

namespace Sys2Proof.Machine

/-- The bit of a part in a mask. -/
def Part.bit : Part → Nat
  | .spn => 0x1 | .img => 0x2 | .evr => 0x4 | .ifc => 0x8 | .hlk => 0x10 | .wrp => 0x20 | .gst => 0x40 | .nrg => 0x80
  | .aos => 0x100 | .sig => 0x200 | .pwr => 0x400 | .vlt => 0x800 | .vch => 0x1000 | .shd => 0x2000 | .dmp => 0x4000
  | .kor => 0x8000 | .cwy => 0x10000 | .cip => 0x20000 | .tsk => 0x40000 | .qdc => 0x80000 | .raised => 0x100000
  | .out => 0x200000 | .free => 0x400000 | .mode => 0x800000 | .dram => 0x1000000 | .bog => 0x2000000

/-- What every shared operation keeps: all parts but those of the mask, the queue, the canonical DRAM, and the Bog-oak bits. -/
structure Keeps (m : Nat) (s t : State) : Prop where
  same : ∀ p : Part, m &&& p.bit = 0 → Part.same s t p
  pending : t.pending = s.pending
  dram : MemoryCanonical s → MemoryCanonical t
  row : RowKept s t

theorem Part.same_refl (s : State) (p : Part) : Part.same s s p := by cases p <;> simp [Part.same]

theorem Part.same_trans {s t u : State} {p : Part} (h : Part.same s t p) (k : Part.same t u p) : Part.same s u p := by
  cases p <;> simp only [Part.same] at * <;> first | exact h.trans k | exact ⟨h.1.trans k.1, h.2.trans k.2⟩

theorem RowKept.refl (s : State) : RowKept s s := ⟨fun _ _ h => h, fun _ h => h⟩

theorem RowKept.trans {s t u : State} (h : RowKept s t) (k : RowKept t u) : RowKept s u :=
  ⟨fun w b hb => k.1 w b (h.1 w b hb), fun w hb => k.2 w (h.2 w hb)⟩

theorem RowKept.of_eq {s t : State} (h : t.ifc.bog = s.ifc.bog) (k : t.ifc.bogLocks = s.ifc.bogLocks) : RowKept s t :=
  ⟨fun w b => by rw [h]; exact id, fun w => by rw [k]; exact id⟩

@[simp] theorem Keeps.refl (m : Nat) (s : State) : Keeps m s s :=
  ⟨fun p _ => Part.same_refl s p, rfl, id, RowKept.refl s⟩

theorem Keeps.mono {m n : Nat} {s t : State} (h : Keeps m s t) (hm : m &&& n = m) : Keeps n s t :=
  ⟨fun p hp => h.same p (by
      have e : m &&& p.bit = m &&& (n &&& p.bit) := by rw [← Nat.and_assoc, hm]
      rw [e, hp, Nat.and_zero]), h.pending, h.dram, h.row⟩

theorem Keeps.trans {m : Nat} {s t u : State} (h : Keeps m s t) (k : Keeps m t u) : Keeps m s u :=
  ⟨fun p hp => Part.same_trans (h.same p hp) (k.same p hp), k.pending.trans h.pending, fun x => k.dram (h.dram x), h.row.trans k.row⟩

/-- A step of an operation with its own mask, after what came before it. -/
theorem Keeps.step {m n : Nat} {s t u : State} (k : Keeps n t u) (hm : n &&& m = n) (h : Keeps m s t) : Keeps m s u :=
  h.trans (k.mono hm)

theorem Keeps.onlyIn {m : Nat} {s t : State} (h : Keeps m s t) {l : List Part} (hl : ∀ p, p ∉ l → m &&& p.bit = 0) : OnlyIn l s t :=
  ⟨fun p hp => h.same p (hl p hp), h.pending⟩

/-- A record update of the state: each unit is the base's or in the mask. -/
@[simp] theorem Keeps.upd {m : Nat} {s t : State} {spn : Spn} {img : Img} {evr : Evr} {ifc : Ifc} {hlk : Hlk} {wrp : Wrp} {gst : Gst} {nrg : Nrg} {aos : Aos} {sig : Sig} {pwr : Pwr} {vlt : Vlt} {vch : List Vch} {shd : Shd} {dmp : Dmp} {kor : Kor} {cwy : Cwy} {cip : Cip} {tsk : Tsk} {qdc : List Qdc} {raised : List Event} {out : List Output} {free : Nat}
    (h0 : if m &&& 0x1 = 0x1 then True else { spn with mode := .boot } = { t.spn with mode := .boot })
    (h1 : if m &&& 0x2 = 0x2 then True else img = t.img)
    (h2 : if m &&& 0x4 = 0x4 then True else evr = t.evr)
    (h3 : if m &&& 0x8 = 0x8 then True else { ifc with bog := [], bogLocks := 0 } = { t.ifc with bog := [], bogLocks := 0 })
    (h4 : if m &&& 0x10 = 0x10 then True else hlk = t.hlk)
    (h5 : if m &&& 0x20 = 0x20 then True else wrp = t.wrp)
    (h6 : if m &&& 0x40 = 0x40 then True else { gst with dram := [] } = { t.gst with dram := [] })
    (h7 : if m &&& 0x80 = 0x80 then True else nrg = t.nrg)
    (h8 : if m &&& 0x100 = 0x100 then True else aos = t.aos)
    (h9 : if m &&& 0x200 = 0x200 then True else sig = t.sig)
    (h10 : if m &&& 0x400 = 0x400 then True else pwr = t.pwr)
    (h11 : if m &&& 0x800 = 0x800 then True else vlt = t.vlt)
    (h12 : if m &&& 0x1000 = 0x1000 then True else vch = t.vch)
    (h13 : if m &&& 0x2000 = 0x2000 then True else shd = t.shd)
    (h14 : if m &&& 0x4000 = 0x4000 then True else dmp = t.dmp)
    (h15 : if m &&& 0x8000 = 0x8000 then True else kor = t.kor)
    (h16 : if m &&& 0x10000 = 0x10000 then True else cwy = t.cwy)
    (h17 : if m &&& 0x20000 = 0x20000 then True else cip = t.cip)
    (h18 : if m &&& 0x40000 = 0x40000 then True else tsk = t.tsk)
    (h19 : if m &&& 0x80000 = 0x80000 then True else qdc = t.qdc)
    (h20 : if m &&& 0x100000 = 0x100000 then True else raised = t.raised)
    (h21 : if m &&& 0x200000 = 0x200000 then True else out = t.out)
    (h22 : if m &&& 0x400000 = 0x400000 then True else free = t.free)
    (h23 : if m &&& 0x800000 = 0x800000 then True else spn.mode = t.spn.mode)
    (h24 : gst.dram = t.gst.dram)
    (h25 : ifc.bog = t.ifc.bog)
    (h26 : ifc.bogLocks = t.ifc.bogLocks)
    (h : Keeps m s t) :
    Keeps m s (State.mk spn img evr ifc hlk wrp gst nrg aos sig pwr vlt vch shd dmp kor cwy cip tsk qdc raised out free t.pending) := by
  refine h.trans ⟨?_, rfl, ?_, RowKept.of_eq h25 h26⟩
  · intro p hp
    cases p <;> simp only [Part.bit] at hp <;> simp only [Part.same, h24, h25, h26, and_self] <;> simp_all
  · intro hw
    simpa only [MemoryCanonical, h24] using hw

@[simp] theorem Keeps.ite {m : Nat} {s a b : State} {c : Prop} [Decidable c] (ha : Keeps m s a) (hb : Keeps m s b) :
    Keeps m s (if c then a else b) := by split <;> assumption

/-- A write of the granule tables, the cache DRAM kept canonical. -/
theorem Keeps.gst {m : Nat} {s t : State} (g : Gst) (hm : 0x1000000 &&& m = 0x1000000)
    (h6 : if m &&& 0x40 = 0x40 then True else { g with dram := [] } = { t.gst with dram := [] })
    (hw : Memory.wf t.gst.dram = true → Memory.wf g.dram = true) (h : Keeps m s t) : Keeps m s { t with gst := g } := by
  refine h.trans ⟨?_, rfl, hw, RowKept.of_eq rfl rfl⟩
  intro p hp
  cases p <;> simp only [Part.bit] at hp <;> simp only [Part.same] <;> simp_all [Nat.and_comm]

/-- A program of the Bog-oak row: no bit and no lock is lost. -/
theorem Keeps.bogRow {m : Nat} {s t : State} (b : List (Nat × Nat)) (k : Nat) (hm : 0x2000000 &&& m = 0x2000000)
    (hr : RowKept t { t with ifc := { t.ifc with bog := b, bogLocks := k } }) (h : Keeps m s t) :
    Keeps m s { t with ifc := { t.ifc with bog := b, bogLocks := k } } := by
  refine h.trans ⟨?_, rfl, id, hr⟩
  intro p hp
  cases p <;> simp only [Part.bit] at hp <;> simp only [Part.same] <;> simp_all [Nat.and_comm]

/-- A run of an operation over a list. -/
@[simp] theorem Keeps.foldl {α : Type} {m : Nat} {s t : State} {f : State → α → State} {l : List α} (hf : ∀ u a, Keeps m u (f u a))
    (h : Keeps m s t) : Keeps m s (l.foldl f t) := by
  induction l generalizing t with
  | nil => exact h
  | cons a l ih => exact ih (h.trans (hf t a))

/-- A run that carries a result beside the state. -/
theorem Keeps.foldlSnd {α β : Type} {m : Nat} {s : State} {f : β × State → α → β × State} {l : List α} {a : β × State}
    (hf : ∀ u x, Keeps m u.2 (f u x).2) (h : Keeps m s a.2) : Keeps m s (l.foldl f a).2 := by
  induction l generalizing a with
  | nil => exact h
  | cons x l ih => exact ih (h.trans (hf a x))

/-- Taking the next state of an outcome that has one. -/
@[simp] theorem run_next (t u : State) : run (.next t) u = t := rfl

/-- OR-ing bits into words of the row loses none. -/
theorem rowBits_or (t : List (Nat × Nat)) (k d w b : Nat) (h : (tget 0 t w).testBit b = true) :
    (tget 0 (tput 0 t k (tget 0 t k ||| d)) w).testBit b = true := by
  rw [tget_tput]
  split
  · subst_vars
    simp [h]
  · exact h

end Sys2Proof.Machine
end

