-- ==== Sys2Proof/Laws/KeepsBase.lean ====
section
/-!
SUPPORT. What every operation of these files keeps: Ops MailOps PowerOps FlashOps VaultGeom RegionOps KorricSend CipherOps Code PageFormat StructPages TussockOps. One lemma per operation: it changes only the parts of its mask,
leaves the queue alone, keeps the cache DRAM canonical, and loses no bit of the Bog-oak row.
-/

namespace Sys2Proof.Machine

set_option maxRecDepth 8000
set_option linter.unusedTactic false
set_option linter.unreachableTactic false

/-! ### Ops -/

@[simp] theorem raise_keeps {m : Nat} {s t : State} (id : _) (source : _) (detail : _) (hm : 0x100000 &&& m = 0x100000) (h : Keeps m s t) :
    Keeps m s (raise id source detail t) :=
  .step (by
    unfold raise
    simp (maxDischargeDepth := 60)) hm h

@[simp] theorem send_keeps {m : Nat} {s t : State} (o : _) (hm : 0x200000 &&& m = 0x200000) (h : Keeps m s t) :
    Keeps m s (send o t) :=
  .step (by
    unfold send
    simp (maxDischargeDepth := 60)) hm h

@[simp] theorem msix_keeps {m : Nat} {s t : State} (v : _) (hm : 0x200000 &&& m = 0x200000) (h : Keeps m s t) :
    Keeps m s (msix v t) :=
  .step (by
    unfold msix
    simp (maxDischargeDepth := 60)) hm h

@[simp] theorem changeRole_keeps {m : Nat} {s t : State} (u : _) (func : _) (cover : _) (st : _) (hm : 0x100001 &&& m = 0x100001) (h : Keeps m s t) :
    Keeps m s (changeRole u func cover st t) :=
  .step (by
    unfold changeRole
    simp (maxDischargeDepth := 60)) hm h

@[simp] theorem setUnitState_keeps {m : Nat} {s t : State} (u : _) (st : _) (hm : 0x100001 &&& m = 0x100001) (h : Keeps m s t) :
    Keeps m s (setUnitState u st t) :=
  .step (by
    unfold setUnitState
    simp (maxDischargeDepth := 60)) hm h

@[simp] theorem useFree_keeps {m : Nat} {s t : State} (hm : 0x400000 &&& m = 0x400000) (h : Keeps m s t) :
    Keeps m s (useFree t) :=
  .step (by
    unfold useFree
    simp (maxDischargeDepth := 60)) hm h

@[simp] theorem setMode_keeps {m : Nat} {s t : State} (m' : _) (cause : _) (hm : 0xa04021 &&& m = 0xa04021) (h : Keeps m s t) :
    Keeps m s (setMode m' cause t) :=
  .step (by
    unfold setMode
    simp (maxDischargeDepth := 60)) hm h

@[simp] theorem clampWrite_keeps {m : Nat} {s t : State} (unit : _) (lo : _) (hi : _) (v : _) (hm : 0x100000 &&& m = 0x100000) (h : Keeps m s t) :
    Keeps m s (clampWrite unit lo hi v t).2 :=
  .step (by
    unfold clampWrite
    repeat' first | (simp (maxDischargeDepth := 60); done) | split | (dsimp only; split) | (refine Keeps.foldl (fun u a => ?_) ?_) | dsimp only) hm h

@[simp] theorem dropHalf_keeps {m : Nat} {s t : State} (p : _) (hm : 0x10001 &&& m = 0x10001) (h : Keeps m s t) :
    Keeps m s (dropHalf p t) :=
  .step (by
    unfold dropHalf
    simp (maxDischargeDepth := 60)) hm h

/-! ### MailOps -/

@[simp] theorem reply_keeps {m : Nat} {s t : State} (via : _) (op : _) (ret : _) (ext : _) (payload : _) (hm : 0x200000 &&& m = 0x200000) (h : Keeps m s t) :
    Keeps m s (reply via op ret ext payload t) :=
  .step (by
    unfold reply
    simp (maxDischargeDepth := 60)) hm h

@[simp] theorem bgEnd_keeps {m : Nat} {s t : State} (op : _) (ret : _) (ext : _) (payload : _) (hm : 0x300010 &&& m = 0x300010) (h : Keeps m s t) :
    Keeps m s (bgEnd op ret ext payload t) :=
  .step (by
    unfold bgEnd
    repeat' first | (simp (maxDischargeDepth := 60); done) | split | (dsimp only; split) | (refine Keeps.foldl (fun u a => ?_) ?_) | dsimp only) hm h

@[simp] theorem bgStart_keeps {m : Nat} {s t : State} (via : _) (op : _) (hm : 0x200010 &&& m = 0x200010) (h : Keeps m s t) :
    Keeps m s (bgStart via op t) :=
  .step (by
    unfold bgStart
    simp (maxDischargeDepth := 60)) hm h

@[simp] theorem vendorRefuse_keeps {m : Nat} {s t : State} (via : _) (op : _) (ret : _) (ext : _) (hm : 0x300000 &&& m = 0x300000) (h : Keeps m s t) :
    Keeps m s (vendorRefuse via op ret ext t) :=
  .step (by
    unfold vendorRefuse
    simp (maxDischargeDepth := 60)) hm h

@[simp] theorem vendor_keeps {m : Nat} {s t : State} (via : Via) (op : Nat) (modes : List Mode) (overMctp bg : Bool) (k : State → State) (hm : 0x300000 &&& m = 0x300000) (hk : ∀ u, Keeps m u (k u))
    (h : Keeps m s t) : Keeps m s (vendor via op modes overMctp bg k t) :=
  h.trans (by
    unfold vendor
    try dsimp only
    repeat' split
    all_goals first
      | (exact (show Keeps 0x300000 t _ by simp (maxDischargeDepth := 60)).mono hm)
      | (refine Keeps.trans (Keeps.mono (m := 0x300000) ?_ hm) (hk _); (repeat' first | (simp (maxDischargeDepth := 60); done) | split | (dsimp only; split) | (refine Keeps.foldl (fun u a => ?_) ?_) | dsimp only)))

@[simp] theorem standard_keeps {m : Nat} {s t : State} (via : Via) (op : Nat) (inDump : Bool) (k : State → State) (hm : 0x200000 &&& m = 0x200000) (hk : ∀ u, Keeps m u (k u))
    (h : Keeps m s t) : Keeps m s (standard via op inDump k t) :=
  h.trans (by
    unfold standard
    try dsimp only
    repeat' split
    all_goals first
      | (exact (show Keeps 0x200000 t _ by simp (maxDischargeDepth := 60)).mono hm)
      | (refine Keeps.trans (Keeps.mono (m := 0x200000) ?_ hm) (hk _); (repeat' first | (simp (maxDischargeDepth := 60); done) | split | (dsimp only; split) | (refine Keeps.foldl (fun u a => ?_) ?_) | dsimp only)))

/-! ### PowerOps -/

@[simp] theorem setPstate_keeps {m : Nat} {s t : State} (p : _) (cause : _) (hm : 0x100400 &&& m = 0x100400) (h : Keeps m s t) :
    Keeps m s (setPstate p cause t) :=
  .step (by
    unfold setPstate
    simp (maxDischargeDepth := 60)) hm h

@[simp] theorem quadRoles_keeps {m : Nat} {s t : State} (us : _) (st : _) (hm : 0x100001 &&& m = 0x100001) (h : Keeps m s t) :
    Keeps m s (quadRoles us st t) :=
  .step (by
    unfold quadRoles
    simp (maxDischargeDepth := 60)) hm h

@[simp] theorem wakeDomain_keeps {m : Nat} {s t : State} (d : _) (hm : 0x400 &&& m = 0x400) (h : Keeps m s t) :
    Keeps m s (wakeDomain d t) :=
  .step (by
    unfold wakeDomain
    simp (maxDischargeDepth := 60)) hm h

@[simp] theorem replayWake_keeps {m : Nat} {s t : State} (hm : 0x100500 &&& m = 0x100500) (h : Keeps m s t) :
    Keeps m s (replayWake t) :=
  .step (by
    unfold replayWake
    simp (maxDischargeDepth := 60)) hm h

@[simp] theorem p2Back_keeps {m : Nat} {s t : State} (hm : 0x100400 &&& m = 0x100400) (h : Keeps m s t) :
    Keeps m s (p2Back t) :=
  .step (by
    unfold p2Back
    simp (maxDischargeDepth := 60)) hm h

@[simp] theorem p2Refuse_keeps {m : Nat} {s t : State} (unit : _) (cause : _) (hm : 0x300510 &&& m = 0x300510) (h : Keeps m s t) :
    Keeps m s (p2Refuse unit cause t) :=
  .step (by
    unfold p2Refuse
    simp (maxDischargeDepth := 60)) hm h

@[simp] theorem latchWake_keeps {m : Nat} {s t : State} (kind : _) (domains : _) (hm : 0x700510 &&& m = 0x700510) (h : Keeps m s t) :
    Keeps m s (latchWake kind domains t) :=
  .step (by
    unfold latchWake
    simp (maxDischargeDepth := 60)) hm h

@[simp] theorem needDomains_keeps {m : Nat} {s t : State} (kind : _) (mask : _) (hm : 0x700510 &&& m = 0x700510) (h : Keeps m s t) :
    Keeps m s (needDomains kind mask t) :=
  .step (by
    unfold needDomains
    simp (maxDischargeDepth := 60)) hm h

@[simp] theorem p2Withdraw_keeps {m : Nat} {s t : State} (hm : 0x100500 &&& m = 0x100500) (h : Keeps m s t) :
    Keeps m s (p2Withdraw t) :=
  .step (by
    unfold p2Withdraw
    simp (maxDischargeDepth := 60)) hm h

@[simp] theorem engRoles_keeps {m : Nat} {s t : State} (q : _) (st : _) (hm : 0x100001 &&& m = 0x100001) (h : Keeps m s t) :
    Keeps m s (engRoles q st t) :=
  .step (by
    unfold engRoles
    simp (maxDischargeDepth := 60)) hm h

/-! ### FlashOps -/

@[simp] theorem modBank_keeps {m : Nat} {s t : State} (b : _) (f : _) (hm : 0x8 &&& m = 0x8) (h : Keeps m s t) :
    Keeps m s (modBank b f t) :=
  .step (by
    unfold modBank
    simp (maxDischargeDepth := 60)) hm h

@[simp] theorem journalPut_keeps {m : Nat} {s t : State} (type : _) (bank : _) (sector : _) (aux : _) (hm : 0x8 &&& m = 0x8) (h : Keeps m s t) :
    Keeps m s (journalPut type bank sector aux t) :=
  .step (by
    unfold journalPut
    simp (maxDischargeDepth := 60)) hm h

@[simp] theorem countErase_keeps {m : Nat} {s t : State} (sector : _) (pulses : _) (hm : 0x8 &&& m = 0x8) (h : Keeps m s t) :
    Keeps m s (countErase sector pulses t) :=
  .step (by
    unfold countErase
    simp (maxDischargeDepth := 60)) hm h

@[simp] theorem clearSector_keeps {m : Nat} {s t : State} (sector : _) (hm : 0xc &&& m = 0xc) (h : Keeps m s t) :
    Keeps m s (clearSector sector t) :=
  .step (by
    unfold clearSector
    simp (maxDischargeDepth := 60)) hm h

@[simp] theorem journalAppend_keeps {m : Nat} {s t : State} (type : _) (bank : _) (sector : _) (aux : _) (hm : 0xc &&& m = 0xc) (h : Keeps m s t) :
    Keeps m s (journalAppend type bank sector aux t) :=
  .step (by
    unfold journalAppend
    simp (maxDischargeDepth := 60)) hm h

@[simp] theorem ifcKick_keeps {m : Nat} {s t : State} (b : _) (hm : 0xc &&& m = 0xc) (h : Keeps m s t) :
    Keeps m s (ifcKick b t) :=
  .step (by
    unfold ifcKick
    repeat' first | (simp (maxDischargeDepth := 60); done) | split | (dsimp only; split) | (refine Keeps.foldl (fun u a => ?_) ?_) | dsimp only) hm h

@[simp] theorem ifcAsk_keeps {m : Nat} {s t : State} (o : _) (hm : 0xc &&& m = 0xc) (h : Keeps m s t) :
    Keeps m s (ifcAsk o t) :=
  .step (by
    unfold ifcAsk
    simp (maxDischargeDepth := 60)) hm h

@[simp] theorem dropUnstarted_keeps {m : Nat} {s t : State} (a : _) (hm : 0x8 &&& m = 0x8) (h : Keeps m s t) :
    Keeps m s (dropUnstarted a t) :=
  .step (by
    unfold dropUnstarted
    simp (maxDischargeDepth := 60)) hm h

@[simp] theorem deferNonce_keeps {m : Nat} {s t : State} (o : _) (hm : 0x100108 &&& m = 0x100108) (h : Keeps m s t) :
    Keeps m s (deferNonce t o) :=
  .step (by
    unfold deferNonce
    repeat' first | (simp (maxDischargeDepth := 60); done) | split | (dsimp only; split) | (refine Keeps.foldl (fun u a => ?_) ?_) | dsimp only) hm h

@[simp] theorem loseSector_keeps {m : Nat} {s t : State} (sector : _) (hm : 0xc &&& m = 0xc) (h : Keeps m s t) :
    Keeps m s (loseSector sector t) :=
  .step (by
    unfold loseSector
    simp (maxDischargeDepth := 60)) hm h

@[simp] theorem spoilWord_keeps {m : Nat} {s t : State} (o : _) (hm : 0x8 &&& m = 0x8) (h : Keeps m s t) :
    Keeps m s (spoilWord o t) :=
  .step (by
    unfold spoilWord
    simp (maxDischargeDepth := 60)) hm h

@[simp] theorem quagFalls_keeps {m : Nat} {s t : State} (hm : 0x100188 &&& m = 0x100188) (h : Keeps m s t) :
    Keeps m s (quagFalls t) :=
  .step (by
    unfold quagFalls
    simp (maxDischargeDepth := 60)) hm h

@[simp] theorem copySector_keeps {m : Nat} {s t : State} (src : _) (dst : _) (hm : 0x8 &&& m = 0x8) (h : Keeps m s t) :
    Keeps m s (copySector src dst t) :=
  .step (by
    unfold copySector
    simp (maxDischargeDepth := 60)) hm h

@[simp] theorem replayEntry_keeps {m : Nat} {s t : State} (e : _) (hm : 0x10000c &&& m = 0x10000c) (h : Keeps m s t) :
    Keeps m s (replayEntry t e) :=
  .step (by
    unfold replayEntry
    repeat' first | (simp (maxDischargeDepth := 60); done) | split | (dsimp only; split) | (refine Keeps.foldl (fun u a => ?_) ?_) | dsimp only) hm h

@[simp] theorem journalReplay_keeps {m : Nat} {s t : State} (hm : 0x10000c &&& m = 0x10000c) (h : Keeps m s t) :
    Keeps m s (journalReplay t) :=
  .step (by
    unfold journalReplay
    simp (maxDischargeDepth := 60)) hm h

@[simp] theorem putWord_keeps {m : Nat} {s t : State} (o : _) (hm : 0x8 &&& m = 0x8) (h : Keeps m s t) :
    Keeps m s (putWord o t) :=
  .step (by
    unfold putWord
    simp (maxDischargeDepth := 60)) hm h

@[simp] theorem dropWords_keeps {m : Nat} {s t : State} (o : _) (hm : 0x8 &&& m = 0x8) (h : Keeps m s t) :
    Keeps m s (dropWords o t) :=
  .step (by
    unfold dropWords
    simp (maxDischargeDepth := 60)) hm h

@[simp] theorem ifcKickAll_keeps {m : Nat} {s t : State} (hm : 0xc &&& m = 0xc) (h : Keeps m s t) :
    Keeps m s (ifcKickAll t) :=
  .step (by
    unfold ifcKickAll
    simp (maxDischargeDepth := 60)) hm h

/-! ### VaultGeom -/

@[simp] theorem setSeg_keeps {m : Nat} {s t : State} (n : _) (g : _) (hm : 0x800 &&& m = 0x800) (h : Keeps m s t) :
    Keeps m s (setSeg n g t) :=
  .step (by
    unfold setSeg
    simp (maxDischargeDepth := 60)) hm h

@[simp] theorem drawTokens_keeps {m : Nat} {s t : State} (p : _) (hm : 0x102000 &&& m = 0x102000) (h : Keeps m s t) :
    Keeps m s (drawTokens p t) :=
  .step (by
    unfold drawTokens
    simp (maxDischargeDepth := 60)) hm h

@[simp] theorem closeRow_keeps {m : Nat} {s t : State} (r : _) (hm : 0x102000 &&& m = 0x102000) (h : Keeps m s t) :
    Keeps m s (closeRow r t).2 :=
  .step (by
    unfold closeRow
    repeat' first | (simp (maxDischargeDepth := 60); done) | split | (dsimp only; split) | (refine Keeps.foldl (fun u a => ?_) ?_) | dsimp only) hm h

@[simp] theorem closeRows_keeps {m : Nat} {s t : State} (p : Row → Bool) (hm : 0x102000 &&& m = 0x102000) (h : Keeps m s t) :
    Keeps m s (closeRows p t) :=
  .step (by
    unfold closeRows
    have k := Keeps.foldlSnd (m := 0x102000) (s := t) (l := t.shd.rows) (a := ([], t)) (f := fun (a : List Row × State) r =>
      if p r then ((a.1 ++ [(closeRow r a.2).1], (closeRow r a.2).2)) else (a.1 ++ [r], a.2))
      (fun u r => by (repeat' first | (simp (maxDischargeDepth := 60); done) | split | (dsimp only; split) | (refine Keeps.foldl (fun u a => ?_) ?_) | dsimp only)) (Keeps.refl _ t)
    exact Keeps.upd (by simp) (by simp) (by simp) (by simp) (by simp) (by simp) (by simp) (by simp) (by simp) (by simp) (by simp) (by simp) (by simp) (by simp) (by simp) (by simp) (by simp) (by simp) (by simp) (by simp) (by simp) (by simp) (by simp) (by simp) rfl rfl rfl k) hm h

@[simp] theorem modVch_keeps {m : Nat} {s t : State} (c : _) (f : _) (hm : 0x1000 &&& m = 0x1000) (h : Keeps m s t) :
    Keeps m s (modVch c f t) :=
  .step (by
    unfold modVch
    simp (maxDischargeDepth := 60)) hm h

@[simp] theorem savePage_keeps {m : Nat} {s t : State} (hm : 0x2000 &&& m = 0x2000) (h : Keeps m s t) :
    Keeps m s (savePage t) :=
  .step (by
    unfold savePage
    simp (maxDischargeDepth := 60)) hm h

/-! ### RegionOps -/

@[simp] theorem setRing_keeps {m : Nat} {s t : State} (q : _) (l : _) (hm : 0x2000 &&& m = 0x2000) (h : Keeps m s t) :
    Keeps m s (setRing q l t) :=
  .step (by
    unfold setRing
    simp (maxDischargeDepth := 60)) hm h

@[simp] theorem joinRing_keeps {m : Nat} {s t : State} (g : _) (hm : 0x2000 &&& m = 0x2000) (h : Keeps m s t) :
    Keeps m s (joinRing g t) :=
  .step (by
    unfold joinRing
    simp (maxDischargeDepth := 60)) hm h

@[simp] theorem planted_keeps {m : Nat} {s t : State} (q : _) (t' : _) (hm : 0x180000 &&& m = 0x180000) (h : Keeps m s t) :
    Keeps m s (planted q t' t) :=
  .step (by
    unfold planted
    simp (maxDischargeDepth := 60)) hm h

@[simp] theorem plantSram_keeps {m : Nat} {s t : State} (q : _) (t' : _) (array : _) (addr : _) (hm : 0x180000 &&& m = 0x180000) (h : Keeps m s t) :
    Keeps m s (plantSram q t' array addr t) :=
  .step (by
    unfold plantSram
    simp (maxDischargeDepth := 60)) hm h

@[simp] theorem setWord_keeps {m : Nat} {s t : State} (g : _) (w : _) (hm : 0x180040 &&& m = 0x180040) (h : Keeps m s t) :
    Keeps m s (setWord g w t) :=
  .step (by
    unfold setWord
    simp (maxDischargeDepth := 60)) hm h

@[simp] theorem setGState_keeps {m : Nat} {s t : State} (g : _) (st : _) (hm : 0x180040 &&& m = 0x180040) (h : Keeps m s t) :
    Keeps m s (setGState g st t) :=
  .step (by
    unfold setGState
    simp (maxDischargeDepth := 60)) hm h

@[simp] theorem modRegion_keeps {m : Nat} {s t : State} (r : _) (f : _) (hm : 0x20 &&& m = 0x20) (h : Keeps m s t) :
    Keeps m s (modRegion r f t) :=
  .step (by
    unfold modRegion
    simp (maxDischargeDepth := 60)) hm h

@[simp] theorem refreshLeases_keeps {m : Nat} {s t : State} (hm : 0x20 &&& m = 0x20) (h : Keeps m s t) :
    Keeps m s (refreshLeases t) :=
  .step (by
    unfold refreshLeases
    simp (maxDischargeDepth := 60)) hm h

@[simp] theorem refreshRegime_keeps {m : Nat} {s t : State} (hm : 0x102000 &&& m = 0x102000) (h : Keeps m s t) :
    Keeps m s (refreshRegime t) :=
  .step (by
    unfold refreshRegime
    simp (maxDischargeDepth := 60)) hm h

@[simp] theorem refreshConditions_keeps {m : Nat} {s t : State} (bFell : _) (hm : 0x302020 &&& m = 0x302020) (h : Keeps m s t) :
    Keeps m s (refreshConditions bFell t) :=
  .step (by
    unfold refreshConditions
    simp (maxDischargeDepth := 60)) hm h

@[simp] theorem dropRsv_keeps {m : Nat} {s t : State} (g : _) (hm : 0x302060 &&& m = 0x302060) (h : Keeps m s t) :
    Keeps m s (dropRsv g t) :=
  .step (by
    unfold dropRsv
    simp (maxDischargeDepth := 60)) hm h

@[simp] theorem refreshCdat_keeps {m : Nat} {s t : State} (hm : 0x200010 &&& m = 0x200010) (h : Keeps m s t) :
    Keeps m s (refreshCdat t) :=
  .step (by
    unfold refreshCdat
    simp (maxDischargeDepth := 60)) hm h

@[simp] theorem setLife_keeps {m : Nat} {s t : State} (r : _) (l : _) (hm : 0x300030 &&& m = 0x300030) (h : Keeps m s t) :
    Keeps m s (setLife r l t) :=
  .step (by
    unfold setLife
    simp (maxDischargeDepth := 60)) hm h

@[simp] theorem failStart_keeps {m : Nat} {s t : State} (r : _) (code : _) (hm : 0x300030 &&& m = 0x300030) (h : Keeps m s t) :
    Keeps m s (failStart r code t) :=
  .step (by
    unfold failStart
    simp (maxDischargeDepth := 60)) hm h

@[simp] theorem stopRegion_keeps {m : Nat} {s t : State} (r : _) (hm : 0x300030 &&& m = 0x300030) (h : Keeps m s t) :
    Keeps m s (stopRegion r t) :=
  .step (by
    unfold stopRegion
    simp (maxDischargeDepth := 60)) hm h

@[simp] theorem refreshShadowPtr_keeps {m : Nat} {s t : State} (r : _) (hm : 0x20 &&& m = 0x20) (h : Keeps m s t) :
    Keeps m s (refreshShadowPtr r t) :=
  .step (by
    unfold refreshShadowPtr
    simp (maxDischargeDepth := 60)) hm h

@[simp] theorem drawLease_keeps {m : Nat} {s t : State} (q : _) (hm : 0x20 &&& m = 0x20) (h : Keeps m s t) :
    Keeps m s (drawLease q t) :=
  .step (by
    unfold drawLease
    simp (maxDischargeDepth := 60)) hm h

@[simp] theorem takeRsv_keeps {m : Nat} {s t : State} (g : _) (hm : 0x302060 &&& m = 0x302060) (h : Keeps m s t) :
    Keeps m s (takeRsv g t) :=
  .step (by
    unfold takeRsv
    repeat' first | (simp (maxDischargeDepth := 60); done) | split | (dsimp only; split) | (refine Keeps.foldl (fun u a => ?_) ?_) | dsimp only) hm h

@[simp] theorem beatCount_keeps {m : Nat} {s t : State} (u : _) (two : _) (hm : 0x80000 &&& m = 0x80000) (h : Keeps m s t) :
    Keeps m s (beatCount u two t) :=
  .step (by
    unfold beatCount
    simp (maxDischargeDepth := 60)) hm h

@[simp] theorem setStale_keeps {m : Nat} {s t : State} (g : _) (b : _) (hm : 0x180040 &&& m = 0x180040) (h : Keeps m s t) :
    Keeps m s (setStale g b t) :=
  .step (by
    unfold setStale
    simp (maxDischargeDepth := 60)) hm h

@[simp] theorem touchGranule_keeps {m : Nat} {s t : State} (g : _) (hm : 0x60 &&& m = 0x60) (h : Keeps m s t) :
    Keeps m s (touchGranule g t) :=
  .step (by
    unfold touchGranule
    repeat' first | (simp (maxDischargeDepth := 60); done) | split | (dsimp only; split) | (refine Keeps.foldl (fun u a => ?_) ?_) | dsimp only) hm h

@[simp] theorem takeTwin_keeps {m : Nat} {s t : State} (g : _) (hm : 0x40 &&& m = 0x40) (h : Keeps m s t) :
    Keeps m s (takeTwin g t) :=
  .step (by
    unfold takeTwin
    simp (maxDischargeDepth := 60)) hm h

@[simp] theorem refreshEff1_keeps {m : Nat} {s t : State} (r : _) (hm : 0x300020 &&& m = 0x300020) (h : Keeps m s t) :
    Keeps m s (refreshEff1 r t) :=
  .step (by
    unfold refreshEff1
    simp (maxDischargeDepth := 60)) hm h

@[simp] theorem refreshEff_keeps {m : Nat} {s t : State} (hm : 0x300020 &&& m = 0x300020) (h : Keeps m s t) :
    Keeps m s (refreshEff t) :=
  .step (by
    unfold refreshEff
    simp (maxDischargeDepth := 60)) hm h

@[simp] theorem plantStaging_keeps {m : Nat} {s t : State} (q : _) (hm : 0x580000 &&& m = 0x580000) (h : Keeps m s t) :
    Keeps m s (plantStaging q t) :=
  .step (by
    unfold plantStaging
    simp (maxDischargeDepth := 60)) hm h

@[simp] theorem shareFell_keeps {m : Nat} {s t : State} (before : _) (hm : 0x100000 &&& m = 0x100000) (h : Keeps m s t) :
    Keeps m s (shareFell before t) :=
  .step (by
    unfold shareFell
    simp (maxDischargeDepth := 60)) hm h

/-! ### KorricSend -/

@[simp] theorem sendSequenced_keeps {m : Nat} {s t : State} (b : _) (hm : 0x208000 &&& m = 0x208000) (h : Keeps m s t) :
    Keeps m s (sendSequenced b t) :=
  .step (by
    unfold sendSequenced
    simp (maxDischargeDepth := 60)) hm h

@[simp] theorem sendFlit_keeps {m : Nat} {s t : State} (b : _) (hm : 0x208000 &&& m = 0x208000) (h : Keeps m s t) :
    Keeps m s (sendFlit b t) :=
  .step (by
    unfold sendFlit
    repeat' first | (simp (maxDischargeDepth := 60); done) | split | (dsimp only; split) | (refine Keeps.foldl (fun u a => ?_) ?_) | dsimp only) hm h

@[simp] theorem sendMsg_keeps {m : Nat} {s t : State} (m' : _) (hm : 0x208000 &&& m = 0x208000) (h : Keeps m s t) :
    Keeps m s (sendMsg m' t) :=
  .step (by
    unfold sendMsg
    simp (maxDischargeDepth := 60)) hm h

@[simp] theorem sendLine_keeps {m : Nat} {s t : State} (line : _) (mask : _) (data : _) (poisoned : _) (hm : 0x208000 &&& m = 0x208000) (h : Keeps m s t) :
    Keeps m s (sendLine line mask data poisoned t) :=
  .step (by
    unfold sendLine
    simp (maxDischargeDepth := 60)) hm h

@[simp] theorem setPair_keeps {m : Nat} {s t : State} (p : _) (cause : _) (hm : 0x308020 &&& m = 0x308020) (h : Keeps m s t) :
    Keeps m s (setPair p cause t) :=
  .step (by
    unfold setPair
    simp (maxDischargeDepth := 60)) hm h

@[simp] theorem sendNotice_keeps {m : Nat} {s t : State} (r : _) (m' : _) (hm : 0x208000 &&& m = 0x208000) (h : Keeps m s t) :
    Keeps m s (sendNotice r m' t) :=
  .step (by
    unfold sendNotice
    simp (maxDischargeDepth := 60)) hm h

@[simp] theorem drainQueue_keeps {m : Nat} {s t : State} (hm : 0x208000 &&& m = 0x208000) (h : Keeps m s t) :
    Keeps m s (drainQueue t) :=
  .step (by
    unfold drainQueue
    simp (maxDischargeDepth := 60)) hm h

/-! ### CipherOps -/

@[simp] theorem modSlot_keeps {m : Nat} {s t : State} (i : _) (f : _) (hm : 0x20000 &&& m = 0x20000) (h : Keeps m s t) :
    Keeps m s (modSlot i f t) :=
  .step (by
    unfold modSlot
    simp (maxDischargeDepth := 60)) hm h

@[simp] theorem setSlot_keeps {m : Nat} {s t : State} (i : _) (st : _) (hm : 0x120000 &&& m = 0x120000) (h : Keeps m s t) :
    Keeps m s (setSlot i st t) :=
  .step (by
    unfold setSlot
    simp (maxDischargeDepth := 60)) hm h

@[simp] theorem claspRelease_keeps {m : Nat} {s t : State} (hm : 0x120000 &&& m = 0x120000) (h : Keeps m s t) :
    Keeps m s (claspRelease t) :=
  .step (by
    unfold claspRelease
    simp (maxDischargeDepth := 60)) hm h

@[simp] theorem refreshSlot_keeps {m : Nat} {s t : State} (i : _) (hm : 0x120000 &&& m = 0x120000) (h : Keeps m s t) :
    Keeps m s (refreshSlot i t) :=
  .step (by
    unfold refreshSlot
    simp (maxDischargeDepth := 60)) hm h

@[simp] theorem cipEncrypt_keeps {m : Nat} {s t : State} (i : _) (cls : _) (hm : 0x120000 &&& m = 0x120000) (h : Keeps m s t) :
    Keeps m s (cipEncrypt i cls t).2 :=
  .step (by
    unfold cipEncrypt
    repeat' first | (simp (maxDischargeDepth := 60); done) | split | (dsimp only; split) | (refine Keeps.foldl (fun u a => ?_) ?_) | dsimp only) hm h

@[simp] theorem regionEncrypt_keeps {m : Nat} {s t : State} (r : _) (cls : _) (hm : 0x120000 &&& m = 0x120000) (h : Keeps m s t) :
    Keeps m s (regionEncrypt r cls t).2 :=
  .step (by
    unfold regionEncrypt
    repeat' first | (simp (maxDischargeDepth := 60); done) | split | (dsimp only; split) | (refine Keeps.foldl (fun u a => ?_) ?_) | dsimp only) hm h

@[simp] theorem cipSubmit_keeps {m : Nat} {s t : State} (o : _) (hm : 0x20000 &&& m = 0x20000) (h : Keeps m s t) :
    Keeps m s (cipSubmit o t) :=
  .step (by
    unfold cipSubmit
    repeat' first | (simp (maxDischargeDepth := 60); done) | split | (dsimp only; split) | (refine Keeps.foldl (fun u a => ?_) ?_) | dsimp only) hm h

@[simp] theorem nonceAsk_keeps {m : Nat} {s t : State} (type : _) (slot : _) (root : _) (mark : _) (kcv : _) (hm : 0x2000c &&& m = 0x2000c) (h : Keeps m s t) :
    Keeps m s (nonceAsk type slot root mark kcv t) :=
  .step (by
    unfold nonceAsk
    simp (maxDischargeDepth := 60)) hm h

@[simp] theorem askArm_keeps {m : Nat} {s t : State} (hm : 0x12010c &&& m = 0x12010c) (h : Keeps m s t) :
    Keeps m s (askArm t) :=
  .step (by
    unfold askArm
    simp (maxDischargeDepth := 60)) hm h

@[simp] theorem startRekey_keeps {m : Nat} {s t : State} (i : _) (hm : 0x120000 &&& m = 0x120000) (h : Keeps m s t) :
    Keeps m s (startRekey i t) :=
  .step (by
    unfold startRekey
    simp (maxDischargeDepth := 60)) hm h

@[simp] theorem armAll_keeps {m : Nat} {s t : State} (hm : 0x120000 &&& m = 0x120000) (h : Keeps m s t) :
    Keeps m s (armAll t) :=
  .step (by
    unfold armAll
    simp (maxDischargeDepth := 60)) hm h

@[simp] theorem applyEntry_keeps {m : Nat} {s t : State} (e : _) (hm : 0x120000 &&& m = 0x120000) (h : Keeps m s t) :
    Keeps m s (applyEntry e t) :=
  .step (by
    unfold applyEntry
    simp (maxDischargeDepth := 60)) hm h

@[simp] theorem compactStart_keeps {m : Nat} {s t : State} (hm : 0x2000c &&& m = 0x2000c) (h : Keeps m s t) :
    Keeps m s (compactStart t) :=
  .step (by
    unfold compactStart
    simp (maxDischargeDepth := 60)) hm h

@[simp] theorem claspRefuse_keeps {m : Nat} {s t : State} (p : _) (hm : 0x120000 &&& m = 0x120000) (h : Keeps m s t) :
    Keeps m s (claspRefuse p t) :=
  .step (by
    unfold claspRefuse
    simp (maxDischargeDepth := 60)) hm h

@[simp] theorem zeroize_keeps {m : Nat} {s t : State} (i : _) (hm : 0x20000 &&& m = 0x20000) (h : Keeps m s t) :
    Keeps m s (zeroize i t) :=
  .step (by
    unfold zeroize
    simp (maxDischargeDepth := 60)) hm h

@[simp] theorem slotStopCheck_keeps {m : Nat} {s t : State} (i : _) (hm : 0x120000 &&& m = 0x120000) (h : Keeps m s t) :
    Keeps m s (slotStopCheck i t) :=
  .step (by
    unfold slotStopCheck
    simp (maxDischargeDepth := 60)) hm h

@[simp] theorem coreFail_keeps {m : Nat} {s t : State} (core : _) (hm : 0x120000 &&& m = 0x120000) (h : Keeps m s t) :
    Keeps m s (coreFail core t) :=
  .step (by
    unfold coreFail
    repeat' first | (simp (maxDischargeDepth := 60); done) | split | (dsimp only; split) | (refine Keeps.foldl (fun u a => ?_) ?_) | dsimp only) hm h

@[simp] theorem cipNext_keeps {m : Nat} {s t : State} (c : _) (hm : 0x20000 &&& m = 0x20000) (h : Keeps m s t) :
    Keeps m s (cipNext c t) :=
  .step (by
    unfold cipNext
    repeat' first | (simp (maxDischargeDepth := 60); done) | split | (dsimp only; split) | (refine Keeps.foldl (fun u a => ?_) ?_) | dsimp only) hm h

@[simp] theorem cipFinish_keeps {m : Nat} {s t : State} (c : _) (hm : 0x120000 &&& m = 0x120000) (h : Keeps m s t) :
    Keeps m s (cipFinish c t) :=
  .step (by
    unfold cipFinish
    repeat' first | (simp (maxDischargeDepth := 60); done) | split | (dsimp only; split) | (refine Keeps.foldl (fun u a => ?_) ?_) | dsimp only) hm h

@[simp] theorem topUp_keeps {m : Nat} {s t : State} (i : _) (hm : 0x12010c &&& m = 0x12010c) (h : Keeps m s t) :
    Keeps m s (topUp i t) :=
  .step (by
    unfold topUp
    simp (maxDischargeDepth := 60)) hm h

@[simp] theorem tagFailed_keeps {m : Nat} {s t : State} (vpa : _) (hm : 0x120000 &&& m = 0x120000) (h : Keeps m s t) :
    Keeps m s (tagFailed vpa t) :=
  .step (by
    unfold tagFailed
    simp (maxDischargeDepth := 60)) hm h

@[simp] theorem cipEndOp_keeps {m : Nat} {s t : State} (kind : _) (g : _) (hm : 0x120000 &&& m = 0x120000) (h : Keeps m s t) :
    Keeps m s (cipEndOp kind g t) :=
  .step (by
    unfold cipEndOp
    repeat' first | (simp (maxDischargeDepth := 60); done) | split | (dsimp only; split) | (refine Keeps.foldl (fun u a => ?_) ?_) | dsimp only) hm h

/-! ### Code -/

@[simp] theorem modQdc_keeps {m : Nat} {s t : State} (q : _) (f : _) (hm : 0x80000 &&& m = 0x80000) (h : Keeps m s t) :
    Keeps m s (modQdc q f t) :=
  .step (by
    unfold modQdc
    simp (maxDischargeDepth := 60)) hm h

@[simp] theorem poisonLine_keeps {m : Nat} {s t : State} (line : _) (deliberate : _) (hm : 0x40 &&& m = 0x40) (h : Keeps m s t) :
    Keeps m s (poisonLine line deliberate t) :=
  .step (by
    unfold poisonLine
    simp (maxDischargeDepth := 60)) hm h

@[simp] theorem zeroGranule_keeps {m : Nat} {s t : State} (g : Nat) (hm : 0x1000040 &&& m = 0x1000040) (h : Keeps m s t) :
    Keeps m s (zeroGranule g t) :=
  .step (Keeps.gst _ (by decide) (by simp) (fun w => tableWf_filter 0 _ _ w) (Keeps.refl _ t)) hm h

@[simp] theorem poisonGranule_keeps {m : Nat} {s t : State} (g : _) (hm : 0x40 &&& m = 0x40) (h : Keeps m s t) :
    Keeps m s (poisonGranule g t) :=
  .step (by
    unfold poisonGranule
    simp (maxDischargeDepth := 60)) hm h

@[simp] theorem setByte_keeps {m : Nat} {s t : State} (a : Nat) (b : BitVec 8) (hm : 0x1000000 &&& m = 0x1000000) (h : Keeps m s t) :
    Keeps m s (setByte a b t) :=
  .step (Keeps.gst _ (by decide) (by simp) (fun w => tableWf_tput 0 _ a b w) (Keeps.refl _ t)) hm h

@[simp] theorem storeLine_keeps {m : Nat} {s t : State} (line : _) (data : _) (mask : _) (hm : 0x1000040 &&& m = 0x1000040) (h : Keeps m s t) :
    Keeps m s (storeLine line data mask t) :=
  .step (by
    unfold storeLine
    simp (maxDischargeDepth := 60)) hm h

@[simp] theorem loadGranule_keeps {m : Nat} {s t : State} (g : Nat) (d : GranuleData) (hm : 0x1000040 &&& m = 0x1000040) (h : Keeps m s t) :
    Keeps m s (loadGranule g d t) :=
  .step (Keeps.gst _ (by decide) (by simp) (fun w => tableWf_foldl 0 _ _ _ _ w) (zeroGranule_keeps g (by decide) (Keeps.refl _ t))) hm h

/-! ### PageFormat -/

@[simp] theorem putParity_keeps {m : Nat} {s t : State} (v : _) (seq : _) (width : _) (draw : _) (dump : _) (sum : _) (hm : 0x800 &&& m = 0x800) (h : Keeps m s t) :
    Keeps m s (putParity v seq width draw dump sum t) :=
  .step (by
    unfold putParity
    simp (maxDischargeDepth := 60)) hm h

/-! ### StructPages -/

@[simp] theorem putMeta_keeps {m : Nat} {s t : State} (ps : _) (hm : 0x800 &&& m = 0x800) (h : Keeps m s t) :
    Keeps m s (putMeta ps t) :=
  .step (by
    unfold putMeta
    apply Keeps.upd <;> simp) hm h

@[simp] theorem putOther_keeps {m : Nat} {s t : State} (v : _) (bytes : _) (hm : 0x800 &&& m = 0x800) (h : Keeps m s t) :
    Keeps m s (putOther v bytes t) :=
  .step (by
    unfold putOther
    simp (maxDischargeDepth := 60)) hm h

@[simp] theorem manifestRoom_keeps {m : Nat} {s t : State} (hm : 0x800 &&& m = 0x800) (h : Keeps m s t) :
    Keeps m s (manifestRoom t) :=
  .step (by
    unfold manifestRoom
    simp (maxDischargeDepth := 60)) hm h

@[simp] theorem manifestPut_keeps {m : Nat} {s t : State} (m' : _) (hm : 0x800 &&& m = 0x800) (h : Keeps m s t) :
    Keeps m s (manifestPut m' t) :=
  .step (by
    unfold manifestPut
    simp (maxDischargeDepth := 60)) hm h

/-! ### TussockOps -/

@[simp] theorem tskEmpty_keeps {m : Nat} {s t : State} (r : _) (i : _) (hm : 0x340000 &&& m = 0x340000) (h : Keeps m s t) :
    Keeps m s (tskEmpty r i t) :=
  .step (by
    unfold tskEmpty
    simp (maxDischargeDepth := 60)) hm h

@[simp] theorem setDesc_keeps {m : Nat} {s t : State} (p : _) (d : _) (hm : 0x40000 &&& m = 0x40000) (h : Keeps m s t) :
    Keeps m s (setDesc p d t) :=
  .step (by
    unfold setDesc
    simp (maxDischargeDepth := 60)) hm h

@[simp] theorem tskGrant_keeps {m : Nat} {s t : State} (r : _) (p : _) (hm : 0x640000 &&& m = 0x640000) (h : Keeps m s t) :
    Keeps m s (tskGrant r p t) :=
  .step (by
    unfold tskGrant
    simp (maxDischargeDepth := 60)) hm h

@[simp] theorem tskRelease_keeps {m : Nat} {s t : State} (r : _) (p : _) (hm : 0x40000 &&& m = 0x40000) (h : Keeps m s t) :
    Keeps m s (tskRelease r p t) :=
  .step (by
    unfold tskRelease
    simp (maxDischargeDepth := 60)) hm h

@[simp] theorem tskCarve_keeps {m : Nat} {s t : State} (c : _) (hm : 0x40000 &&& m = 0x40000) (h : Keeps m s t) :
    Keeps m s (tskCarve c t) :=
  .step (by
    unfold tskCarve
    simp (maxDischargeDepth := 60)) hm h

@[simp] theorem quarantine_keeps {m : Nat} {s t : State} (p : _) (d : _) (cause : _) (hm : 0x140000 &&& m = 0x140000) (h : Keeps m s t) :
    Keeps m s (quarantine p d cause t) :=
  .step (by
    unfold quarantine
    simp (maxDischargeDepth := 60)) hm h

@[simp] theorem tskReleaseAll_keeps {m : Nat} {s t : State} (r : _) (hm : 0x40000 &&& m = 0x40000) (h : Keeps m s t) :
    Keeps m s (tskReleaseAll r t) :=
  .step (by
    unfold tskReleaseAll
    simp (maxDischargeDepth := 60)) hm h

@[simp] theorem descCheck_keeps {m : Nat} {s t : State} (p : _) (hm : 0x140000 &&& m = 0x140000) (h : Keeps m s t) :
    Keeps m s (descCheck p t) :=
  .step (by
    unfold descCheck
    simp (maxDischargeDepth := 60)) hm h

@[simp] theorem tskReject_keeps {m : Nat} {s t : State} (requester : _) (pointer : _) (cause : _) (hm : 0x340000 &&& m = 0x340000) (h : Keeps m s t) :
    Keeps m s (tskReject requester pointer cause t) :=
  .step (by
    unfold tskReject
    simp (maxDischargeDepth := 60)) hm h

@[simp] theorem spillSearch_keeps {m : Nat} {s t : State} (r : AllocReq) (first n i : Nat) (hm : 0x740000 &&& m = 0x740000) (h : Keeps m s t) :
    Keeps m s (spillSearch r first n i t) :=
  .step (by
    clear h
    induction n generalizing i with
    | zero => simp [spillSearch]
    | succ n ih =>
      unfold spillSearch
      repeat' split
      all_goals first | exact ih _ | (repeat' first | (simp (maxDischargeDepth := 60); done) | split | (dsimp only; split) | (refine Keeps.foldl (fun u a => ?_) ?_) | dsimp only)) hm h

end Sys2Proof.Machine
end

