-- ==== Sys2Proof/Laws/KeepsData.lean ====
section
/-!
SUPPORT. What every operation of these files keeps: VaultOps Cipher Causeway IntegrityOps MirrorOps DataOps. One lemma per operation: it changes only the parts of its mask,
leaves the queue alone, keeps the cache DRAM canonical, and loses no bit of the Bog-oak row.
-/

namespace Sys2Proof.Machine

set_option maxRecDepth 8000
set_option linter.unusedTactic false
set_option linter.unreachableTactic false

/-! ### VaultOps -/

@[simp] theorem granuleFailed_keeps {m : Nat} {s t : State} (g : _) (hm : 0x182040 &&& m = 0x182040) (h : Keeps m s t) :
    Keeps m s (granuleFailed g t) :=
  .step (by
    unfold granuleFailed
    simp (maxDischargeDepth := 60)) hm h

@[simp] theorem takeSeq_keeps {m : Nat} {s t : State} (hm : 0x800 &&& m = 0x800) (h : Keeps m s t) :
    Keeps m s (takeSeq t).2 :=
  .step (by
    unfold takeSeq
    simp (maxDischargeDepth := 60)) hm h

@[simp] theorem ckptStart_keeps {m : Nat} {s t : State} (hm : 0x800 &&& m = 0x800) (h : Keeps m s t) :
    Keeps m s (ckptStart t) :=
  .step (by
    unfold ckptStart
    simp (maxDischargeDepth := 60)) hm h

@[simp] theorem flushLog_keeps {m : Nat} {s t : State} (hm : 0x102800 &&& m = 0x102800) (h : Keeps m s t) :
    Keeps m s (flushLog t) :=
  .step (by
    unfold flushLog
    simp (maxDischargeDepth := 60)) hm h

@[simp] theorem appendLog_keeps {m : Nat} {s t : State} (w : _) (hm : 0x102800 &&& m = 0x102800) (h : Keeps m s t) :
    Keeps m s (appendLog w t) :=
  .step (by
    unfold appendLog
    simp (maxDischargeDepth := 60)) hm h

@[simp] theorem setMap_keeps {m : Nat} {s t : State} (g : _) (e : _) (hm : 0x800 &&& m = 0x800) (h : Keeps m s t) :
    Keeps m s (setMap g e t) :=
  .step (by
    unfold setMap
    simp (maxDischargeDepth := 60)) hm h

@[simp] theorem beforeVault_keeps {m : Nat} {s t : State} (hm : 0x102800 &&& m = 0x102800) (h : Keeps m s t) :
    Keeps m s (beforeVault t) :=
  .step (by
    unfold beforeVault
    simp (maxDischargeDepth := 60)) hm h

@[simp] theorem putPage_keeps {m : Nat} {s t : State} (v : _) (p : _) (hm : 0x800 &&& m = 0x800) (h : Keeps m s t) :
    Keeps m s (putPage v p t) :=
  .step (by
    unfold putPage
    simp (maxDischargeDepth := 60)) hm h

@[simp] theorem ckptDone_keeps {m : Nat} {s t : State} (hm : 0x102800 &&& m = 0x102800) (h : Keeps m s t) :
    Keeps m s (ckptDone t) :=
  .step (by
    unfold ckptDone
    repeat' first | (simp (maxDischargeDepth := 60); done) | split | (dsimp only; split) | (refine Keeps.foldl (fun u a => ?_) ?_) | dsimp only) hm h

@[simp] theorem assignSeg_keeps {m : Nat} {s t : State} (n : _) (k : _) (hm : 0x102800 &&& m = 0x102800) (h : Keeps m s t) :
    Keeps m s (assignSeg n k t) :=
  .step (by
    unfold assignSeg
    simp (maxDischargeDepth := 60)) hm h

@[simp] theorem ensureTwin_keeps {m : Nat} {s t : State} (hm : 0x102800 &&& m = 0x102800) (h : Keeps m s t) :
    Keeps m s (ensureTwin t) :=
  .step (by
    unfold ensureTwin
    repeat' first | (simp (maxDischargeDepth := 60); done) | split | (dsimp only; split) | (refine Keeps.foldl (fun u a => ?_) ?_) | dsimp only) hm h

@[simp] theorem stageTake_keeps {m : Nat} {s t : State} (q : _) (hm : 0x740000 &&& m = 0x740000) (h : Keeps m s t) :
    Keeps m s (stageTake q t).2 :=
  .step (by
    unfold stageTake
    repeat' first | (simp (maxDischargeDepth := 60); done) | split | (dsimp only; split) | (refine Keeps.foldl (fun u a => ?_) ?_) | dsimp only) hm h

@[simp] theorem stageGive_keeps {m : Nat} {s t : State} (buf : _) (hm : 0x40000 &&& m = 0x40000) (h : Keeps m s t) :
    Keeps m s (stageGive buf t) :=
  .step (by
    unfold stageGive
    repeat' first | (simp (maxDischargeDepth := 60); done) | split | (dsimp only; split) | (refine Keeps.foldl (fun u a => ?_) ?_) | dsimp only) hm h

@[simp] theorem refreshGc_keeps {m : Nat} {s t : State} (hm : 0x102000 &&& m = 0x102000) (h : Keeps m s t) :
    Keeps m s (refreshGc t) :=
  .step (by
    unfold refreshGc
    simp (maxDischargeDepth := 60)) hm h

@[simp] theorem startTwin_keeps {m : Nat} {s t : State} (g r : Nat) (hm : 0x7e2d50 &&& m = 0x7e2d50) (h : Keeps m s t) : Keeps m s (startTwin g r t) :=
  .step (by
    have e : Keeps 0x7e2d50 t (ensureTwin (beforeVault t)) := by simp (maxDischargeDepth := 60)
    unfold startTwin
    dsimp only
    split
    · exact Keeps.refl _ t
    · split
      · (repeat' first | (simp (maxDischargeDepth := 60); done) | split | (dsimp only; split) | (refine Keeps.foldl (fun u a => ?_) ?_) | dsimp only)
      · generalize ensureTwin (beforeVault t) = s0 at e ⊢
        split
        · exact e
        · have e0 : Keeps 0x7e2d50 t (stageTake (quadOf s0 g) s0).2 := stageTake_keeps _ (by decide) e
          split
          · rename_i t1 he
            rw [he] at e0
            exact e0
          · rename_i buf t1 _ he
            rw [he] at e0
            have e1 : Keeps 0x7e2d50 t (regionEncrypt r .twin t1).2 := regionEncrypt_keeps _ _ (by decide) e0
            generalize regionEncrypt r .twin t1 = x at e1 ⊢
            obtain ⟨res, s1⟩ := x
            dsimp only at e1 ⊢
            split
            · exact stageGive_keeps _ (by decide) e1
            · refine e1.trans ?_
              (repeat' first | (simp (maxDischargeDepth := 60); done) | split | (dsimp only; split) | (refine Keeps.foldl (fun u a => ?_) ?_) | dsimp only)) hm h

@[simp] theorem twinKick_keeps {m : Nat} {s t : State} (hm : 0x7e2d50 &&& m = 0x7e2d50) (h : Keeps m s t) :
    Keeps m s (twinKick t) :=
  .step (by
    unfold twinKick
    repeat' first | (simp (maxDischargeDepth := 60); done) | split | (dsimp only; split) | (refine Keeps.foldl (fun u a => ?_) ?_) | dsimp only) hm h

@[simp] theorem fillReserve_keeps {m : Nat} {s t : State} (n : Nat) (hm : 0x102800 &&& m = 0x102800) (h : Keeps m s t) :
    Keeps m s (fillReserve n t) :=
  .step (by
    clear h
    induction n generalizing t with
    | zero => simp [fillReserve]
    | succ n ih =>
      have ih' : ∀ {s t}, Keeps 0x102800 s t → Keeps 0x102800 s (fillReserve n t) := fun k => k.trans ih
      unfold fillReserve
      dsimp only
      repeat' split
      all_goals simp (maxDischargeDepth := 60) [ih']) hm h

@[simp] theorem refillReserve_keeps {m : Nat} {s t : State} (hm : 0x102800 &&& m = 0x102800) (h : Keeps m s t) :
    Keeps m s (refillReserve t) :=
  .step (by
    unfold refillReserve
    simp (maxDischargeDepth := 60)) hm h

@[simp] theorem manifestWrite_keeps {m : Nat} {s t : State} (cause : _) (hm : 0x102800 &&& m = 0x102800) (h : Keeps m s t) :
    Keeps m s (manifestWrite cause t) :=
  .step (by
    unfold manifestWrite
    simp (maxDischargeDepth := 60)) hm h

@[simp] theorem ensureRow_keeps {m : Nat} {s t : State} (d : _) (hm : 0x102800 &&& m = 0x102800) (h : Keeps m s t) :
    Keeps m s (ensureRow d t) :=
  .step (by
    unfold ensureRow
    repeat' first | (simp (maxDischargeDepth := 60); done) | split | (dsimp only; split) | (refine Keeps.foldl (fun u a => ?_) ?_) | dsimp only) hm h

@[simp] theorem closeFull_keeps {m : Nat} {s t : State} (hm : 0x102000 &&& m = 0x102000) (h : Keeps m s t) :
    Keeps m s (closeFull t) :=
  .step (by
    unfold closeFull
    simp (maxDischargeDepth := 60)) hm h

@[simp] theorem placePage_keeps {m : Nat} {s t : State} (q : _) (w : _) (buf : _) (hm : 0x502800 &&& m = 0x502800) (h : Keeps m s t) :
    Keeps m s (placePage q w buf t) :=
  .step (by
    unfold placePage
    repeat' first | (simp (maxDischargeDepth := 60); done) | split | (dsimp only; split) | (refine Keeps.foldl (fun u a => ?_) ?_) | dsimp only) hm h

@[simp] theorem channelFailed_keeps {m : Nat} {s t : State} (c : _) (hm : 0x103801 &&& m = 0x103801) (h : Keeps m s t) :
    Keeps m s (channelFailed c t) :=
  .step (by
    unfold channelFailed
    simp (maxDischargeDepth := 60)) hm h

@[simp] theorem startRebuild_keeps {m : Nat} {s t : State} (c : _) (d : _) (hm : 0x100800 &&& m = 0x100800) (h : Keeps m s t) :
    Keeps m s (startRebuild c d t) :=
  .step (by
    unfold startRebuild
    simp (maxDischargeDepth := 60)) hm h

@[simp] theorem dieFailed_keeps {m : Nat} {s t : State} (c : _) (d : _) (cause : _) (hm : 0x103801 &&& m = 0x103801) (h : Keeps m s t) :
    Keeps m s (dieFailed c d cause t) :=
  .step (by
    unfold dieFailed
    simp (maxDischargeDepth := 60)) hm h

@[simp] theorem countProgram_keeps {m : Nat} {s t : State} (v : _) (hm : 0x1000 &&& m = 0x1000) (h : Keeps m s t) :
    Keeps m s (countProgram v t) :=
  .step (by
    unfold countProgram
    simp (maxDischargeDepth := 60)) hm h

@[simp] theorem granulePassed_keeps {m : Nat} {s t : State} (g : _) (r : _) (mseq : _) (hm : 0x38a060 &&& m = 0x38a060) (h : Keeps m s t) :
    Keeps m s (granulePassed g r mseq t) :=
  .step (by
    unfold granulePassed
    simp (maxDischargeDepth := 60)) hm h

@[simp] theorem recordCopy_keeps {m : Nat} {s t : State} (g : _) (r : _) (vpa : _) (width : _) (twin : _) (x : _) (hm : 0x102800 &&& m = 0x102800) (h : Keeps m s t) :
    Keeps m s (recordCopy g r vpa width twin x t) :=
  .step (by
    unfold recordCopy
    simp (maxDischargeDepth := 60)) hm h

@[simp] theorem programFailure_keeps {m : Nat} {s t : State} (v : _) (hm : 0x101800 &&& m = 0x101800) (h : Keeps m s t) :
    Keeps m s (programFailure v t) :=
  .step (by
    unfold programFailure
    simp (maxDischargeDepth := 60)) hm h

@[simp] theorem rowParity_keeps {m : Nat} {s t : State} (r : _) (hm : 0x800 &&& m = 0x800) (h : Keeps m s t) :
    Keeps m s (rowParity r t) :=
  .step (by
    unfold rowParity
    simp (maxDischargeDepth := 60)) hm h

@[simp] theorem retireBlock_keeps {m : Nat} {s t : State} (v : _) (hm : 0x103801 &&& m = 0x103801) (h : Keeps m s t) :
    Keeps m s (retireBlock v t) :=
  .step (by
    unfold retireBlock
    simp (maxDischargeDepth := 60)) hm h

/-! ### Cipher -/

@[simp] theorem deriveBound_keeps {m : Nat} {s t : State} (root : _) (hm : 0x120000 &&& m = 0x120000) (h : Keeps m s t) :
    Keeps m s (deriveBound root t) :=
  .step (by
    unfold deriveBound
    simp (maxDischargeDepth := 60)) hm h

@[simp] theorem loadOtpRoot_keeps {m : Nat} {s t : State} (hm : 0x120000 &&& m = 0x120000) (h : Keeps m s t) :
    Keeps m s (loadOtpRoot t) :=
  .step (by
    unfold loadOtpRoot
    simp (maxDischargeDepth := 60)) hm h

@[simp] theorem execClaspTimeout_keeps {m : Nat} {s t : State} (hm : 0x120000 &&& m = 0x120000) (h : Keeps m s t) :
    Keeps m s (run (execClaspTimeout t) t) :=
  .step (by
    simp only [execClaspTimeout, run]
    simp (maxDischargeDepth := 60)) hm h

@[simp] theorem keyRefuse_keeps {m : Nat} {s t : State} (i : _) (result : _) (hm : 0x120000 &&& m = 0x120000) (h : Keeps m s t) :
    Keeps m s (keyRefuse i result t) :=
  .step (by
    unfold keyRefuse
    simp (maxDischargeDepth := 60)) hm h

@[simp] theorem refuseWith_keeps {m : Nat} {s t : State} (path : _) (i : _) (c : _) (hm : 0x120000 &&& m = 0x120000) (h : Keeps m s t) :
    Keeps m s (refuseWith path i c t) :=
  .step (by
    unfold refuseWith
    simp (maxDischargeDepth := 60)) hm h

@[simp] theorem acceptKey_keeps {m : Nat} {s t : State} (i : _) (st : _) (hm : 0x120000 &&& m = 0x120000) (h : Keeps m s t) :
    Keeps m s (acceptKey i st t) :=
  .step (by
    unfold acceptKey
    simp (maxDischargeDepth := 60)) hm h

@[simp] theorem execDerive_keeps {m : Nat} {s t : State} (path : _) (root : _) (hm : 0x130001 &&& m = 0x130001) (h : Keeps m s t) :
    Keeps m s (run (execDerive path root t) t) :=
  .step (by
    simp only [execDerive, run]
    repeat' first | (simp (maxDischargeDepth := 60); done) | split | (dsimp only; split) | (refine Keeps.foldl (fun u a => ?_) ?_) | dsimp only) hm h

@[simp] theorem execClaspWrite_keeps {m : Nat} {s t : State} (path : _) (v : _) (hm : 0x130001 &&& m = 0x130001) (h : Keeps m s t) :
    Keeps m s (run (execClaspWrite path v t) t) :=
  .step (by
    simp only [execClaspWrite, run]
    simp (maxDischargeDepth := 60)) hm h

@[simp] theorem execKeyDataWrite_keeps {m : Nat} {s t : State} (path : _) (k : _) (width : _) (value : _) (hm : 0x130001 &&& m = 0x130001) (h : Keeps m s t) :
    Keeps m s (run (execKeyDataWrite path k width value t) t) :=
  .step (by
    simp only [execKeyDataWrite, run]
    simp (maxDischargeDepth := 60)) hm h

@[simp] theorem execUnload_keeps {m : Nat} {s t : State} (path : _) (hm : 0x130001 &&& m = 0x130001) (h : Keeps m s t) :
    Keeps m s (run (execUnload path t) t) :=
  .step (by
    simp only [execUnload, run]
    repeat' first | (simp (maxDischargeDepth := 60); done) | split | (dsimp only; split) | (refine Keeps.foldl (fun u a => ?_) ?_) | dsimp only) hm h

@[simp] theorem rekeyEnd_keeps {m : Nat} {s t : State} (i : _) (hm : 0x12000c &&& m = 0x12000c) (h : Keeps m s t) :
    Keeps m s (rekeyEnd i t) :=
  .step (by
    unfold rekeyEnd
    simp (maxDischargeDepth := 60)) hm h

@[simp] theorem execLoad_keeps {m : Nat} {s t : State} (path : _) (hm : 0x130001 &&& m = 0x130001) (h : Keeps m s t) :
    Keeps m s (run (execLoad path t) t) :=
  .step (by
    simp only [execLoad, run]
    repeat' first | (simp (maxDischargeDepth := 60); done) | split | (dsimp only; split) | (refine Keeps.foldl (fun u a => ?_) ?_) | dsimp only) hm h

@[simp] theorem execCompact_keeps {m : Nat} {s t : State} (hm : 0x2000c &&& m = 0x2000c) (h : Keeps m s t) :
    Keeps m s (run (execCompact t) t) :=
  .step (by
    simp only [execCompact, run]
    simp (maxDischargeDepth := 60)) hm h

@[simp] theorem execCoreFault_keeps {m : Nat} {s t : State} (core : _) (hm : 0x120000 &&& m = 0x120000) (h : Keeps m s t) :
    Keeps m s (run (execCoreFault core t) t) :=
  .step (by
    simp only [execCoreFault, run]
    simp (maxDischargeDepth := 60)) hm h

@[simp] theorem execRekeyDone_keeps {m : Nat} {s t : State} (slot : _) (hm : 0x12000c &&& m = 0x12000c) (h : Keeps m s t) :
    Keeps m s (run (execRekeyDone slot t) t) :=
  .step (by
    simp only [execRekeyDone, run]
    repeat' first | (simp (maxDischargeDepth := 60); done) | split | (dsimp only; split) | (refine Keeps.foldl (fun u a => ?_) ?_) | dsimp only) hm h

@[simp] theorem execTopup_keeps {m : Nat} {s t : State} (hm : 0x12010c &&& m = 0x12010c) (h : Keeps m s t) :
    Keeps m s (run (execTopup t) t) :=
  .step (by
    simp only [execTopup, run]
    simp (maxDischargeDepth := 60)) hm h

@[simp] theorem execClearStaging_keeps {m : Nat} {s t : State} (path : _) (hm : 0x130001 &&& m = 0x130001) (h : Keeps m s t) :
    Keeps m s (run (execClearStaging path t) t) :=
  .step (by
    simp only [execClearStaging, run]
    simp (maxDischargeDepth := 60)) hm h

@[simp] theorem execCipherOpComplete_keeps {m : Nat} {s t : State} (core : _) (tagOk : _) (vpa : _) (hm : 0x120000 &&& m = 0x120000) (h : Keeps m s t) :
    Keeps m s (run (execCipherOpComplete core tagOk vpa t) t) :=
  .step (by
    simp only [execCipherOpComplete, run]
    repeat' first | (simp (maxDischargeDepth := 60); done) | split | (dsimp only; split) | (refine Keeps.foldl (fun u a => ?_) ?_) | dsimp only) hm h

/-! ### Causeway -/

@[simp] theorem frameSend_keeps {m : Nat} {s t : State} (dst : _) (tag : _) (b : _) (hm : 0x200000 &&& m = 0x200000) (h : Keeps m s t) :
    Keeps m s (frameSend dst tag b t) :=
  .step (by
    unfold frameSend
    simp (maxDischargeDepth := 60)) hm h

@[simp] theorem updateFollow_keeps {m : Nat} {s t : State} (hm : 0x300100 &&& m = 0x300100) (h : Keeps m s t) :
    Keeps m s (updateFollow t) :=
  .step (by
    unfold updateFollow
    repeat' first | (simp (maxDischargeDepth := 60); done) | split | (dsimp only; split) | (refine Keeps.foldl (fun u a => ?_) ?_) | dsimp only) hm h

@[simp] theorem frameBad_keeps {m : Nat} {s t : State} (f : _) (hm : 0x210000 &&& m = 0x210000) (h : Keeps m s t) :
    Keeps m s (frameBad f t) :=
  .step (by
    unfold frameBad
    simp (maxDischargeDepth := 60)) hm h

@[simp] theorem frameOn_keeps {m : Nat} {s t : State} (f : _) (hm : 0x210000 &&& m = 0x210000) (h : Keeps m s t) :
    Keeps m s (frameOn f t) :=
  .step (by
    unfold frameOn
    simp (maxDischargeDepth := 60)) hm h

@[simp] theorem frameArrive_keeps {m : Nat} {s t : State} (f : Frame) (good : Bool) (k : State → State) (hm : 0x210000 &&& m = 0x210000) (hk : ∀ u, Keeps m u (k u))
    (h : Keeps m s t) : Keeps m s (frameArrive f good k t) :=
  h.trans (by
    unfold frameArrive
    try dsimp only
    repeat' split
    all_goals first
      | (exact (show Keeps 0x210000 t _ by simp (maxDischargeDepth := 60)).mono hm)
      | (refine Keeps.trans (Keeps.mono (m := 0x210000) ?_ hm) (hk _); (repeat' first | (simp (maxDischargeDepth := 60); done) | split | (dsimp only; split) | (refine Keeps.foldl (fun u a => ?_) ?_) | dsimp only)))

@[simp] theorem cwyStart_keeps {m : Nat} {s t : State} (hm : 0x210000 &&& m = 0x210000) (h : Keeps m s t) :
    Keeps m s (cwyStart t) :=
  .step (by
    unfold cwyStart
    simp (maxDischargeDepth := 60)) hm h

@[simp] theorem execWitnessQ_keeps {m : Nat} {s t : State} (src dst hops tag target : Nat) (good : Bool) (hm : 0x210000 &&& m = 0x210000) (h : Keeps m s t) :
    Keeps m s (run (execWitnessQ src dst hops tag target good t) t) :=
  .step (by
    simp only [execWitnessQ, run]
    refine frameArrive_keeps _ _ _ (by decide) (fun u => ?_) (Keeps.refl _ t)
    (repeat' first | (simp (maxDischargeDepth := 60); done) | split | (dsimp only; split) | (refine Keeps.foldl (fun u a => ?_) ?_) | dsimp only)) hm h

@[simp] theorem execJoin_keeps {m : Nat} {s t : State} (src : _) (hops : _) (tag : _) (serial : _) (good : _) (hm : 0x310000 &&& m = 0x310000) (h : Keeps m s t) :
    Keeps m s (run (execJoin src hops tag serial good t) t) :=
  .step (by
    simp only [execJoin, run]
    simp (maxDischargeDepth := 60)) hm h

@[simp] theorem sendRoll_keeps {m : Nat} {s t : State} (hm : 0x200000 &&& m = 0x200000) (h : Keeps m s t) :
    Keeps m s (sendRoll t) :=
  .step (by
    unfold sendRoll
    simp (maxDischargeDepth := 60)) hm h

@[simp] theorem memberChanges_keeps {m : Nat} {s t : State} (old : _) (new : _) (hm : 0x100000 &&& m = 0x100000) (h : Keeps m s t) :
    Keeps m s (memberChanges old new t) :=
  .step (by
    unfold memberChanges
    simp (maxDischargeDepth := 60)) hm h

@[simp] theorem copyRoll_keeps {m : Nat} {s t : State} (live : _) (dumping : _) (headcap : _) (hm : 0x110000 &&& m = 0x110000) (h : Keeps m s t) :
    Keeps m s (copyRoll live dumping headcap t) :=
  .step (by
    unfold copyRoll
    simp (maxDischargeDepth := 60)) hm h

@[simp] theorem ringRise_keeps {m : Nat} {s t : State} (hm : 0x110000 &&& m = 0x110000) (h : Keeps m s t) :
    Keeps m s (ringRise t) :=
  .step (by
    unfold ringRise
    simp (maxDischargeDepth := 60)) hm h

@[simp] theorem claimHead_keeps {m : Nat} {s t : State} (hm : 0x210000 &&& m = 0x210000) (h : Keeps m s t) :
    Keeps m s (claimHead t) :=
  .step (by
    unfold claimHead
    simp (maxDischargeDepth := 60)) hm h

@[simp] theorem execRingStartElection_keeps {m : Nat} {s t : State} (hm : 0x210000 &&& m = 0x210000) (h : Keeps m s t) :
    Keeps m s (run (execRingStartElection t) t) :=
  .step (by
    simp only [execRingStartElection, run]
    simp (maxDischargeDepth := 60)) hm h

@[simp] theorem execRingRelock_keeps {m : Nat} {s t : State} (hm : 0x10000 &&& m = 0x10000) (h : Keeps m s t) :
    Keeps m s (run (execRingRelock t) t) :=
  .step (by
    simp only [execRingRelock, run]
    simp (maxDischargeDepth := 60)) hm h

@[simp] theorem learnHead_keeps {m : Nat} {s t : State} (h' : _) (hm : 0x110000 &&& m = 0x110000) (h : Keeps m s t) :
    Keeps m s (learnHead h' t) :=
  .step (by
    unfold learnHead
    simp (maxDischargeDepth := 60)) hm h

@[simp] theorem execRingDownTimeout_keeps {m : Nat} {s t : State} (hm : 0x110000 &&& m = 0x110000) (h : Keeps m s t) :
    Keeps m s (run (execRingDownTimeout t) t) :=
  .step (by
    simp only [execRingDownTimeout, run]
    simp (maxDischargeDepth := 60)) hm h

@[simp] theorem execElectionTimeout_keeps {m : Nat} {s t : State} (hm : 0x210000 &&& m = 0x210000) (h : Keeps m s t) :
    Keeps m s (run (execElectionTimeout t) t) :=
  .step (by
    simp only [execElectionTimeout, run]
    simp (maxDischargeDepth := 60)) hm h

@[simp] theorem execRollCall_keeps {m : Nat} {s t : State} (src : _) (hops : _) (tag : _) (live : _) (dumping : _) (headcap : _) (good : _) (hm : 0x310000 &&& m = 0x310000) (h : Keeps m s t) :
    Keeps m s (run (execRollCall src hops tag live dumping headcap good t) t) :=
  .step (by
    simp only [execRollCall, run]
    simp (maxDischargeDepth := 60)) hm h

@[simp] theorem execClaim_keeps {m : Nat} {s t : State} (src : _) (hops : _) (tag : _) (good : _) (hm : 0x310000 &&& m = 0x310000) (h : Keeps m s t) :
    Keeps m s (run (execClaim src hops tag good t) t) :=
  .step (by
    simp only [execClaim, run]
    simp (maxDischargeDepth := 60)) hm h

@[simp] theorem execRollCallTimer_keeps {m : Nat} {s t : State} (hm : 0x200000 &&& m = 0x200000) (h : Keeps m s t) :
    Keeps m s (run (execRollCallTimer t) t) :=
  .step (by
    simp only [execRollCallTimer, run]
    simp (maxDischargeDepth := 60)) hm h

/-! ### IntegrityOps -/

@[simp] theorem modDumpQuad_keeps {m : Nat} {s t : State} (q : _) (f : _) (hm : 0x4000 &&& m = 0x4000) (h : Keeps m s t) :
    Keeps m s (modDumpQuad q f t) :=
  .step (by
    unfold modDumpQuad
    simp (maxDischargeDepth := 60)) hm h

@[simp] theorem countShutdown_keeps {m : Nat} {s t : State} (seq : _) (hm : 0x104000 &&& m = 0x104000) (h : Keeps m s t) :
    Keeps m s (countShutdown seq t) :=
  .step (by
    unfold countShutdown
    simp (maxDischargeDepth := 60)) hm h

@[simp] theorem hostEvent_keeps {m : Nat} {s t : State} (log : _) (memoryModule : _) (id : _) (arg : _) (hm : 0x200010 &&& m = 0x200010) (h : Keeps m s t) :
    Keeps m s (hostEvent log memoryModule id arg t) :=
  .step (by
    unfold hostEvent
    simp (maxDischargeDepth := 60)) hm h

@[simp] theorem chipMark_keeps {m : Nat} {s t : State} (q : _) (slot : _) (m' : _) (hm : 0x380010 &&& m = 0x380010) (h : Keeps m s t) :
    Keeps m s (chipMark q slot m' t) :=
  .step (by
    unfold chipMark
    repeat' first | (simp (maxDischargeDepth := 60); done) | split | (dsimp only; split) | (refine Keeps.foldl (fun u a => ?_) ?_) | dsimp only) hm h

@[simp] theorem symbolFixed_keeps {m : Nat} {s t : State} (q : _) (cl : _) (m' : _) (host : _) (visible : _) (persistent : _) (hm : 0x380010 &&& m = 0x380010) (h : Keeps m s t) :
    Keeps m s (symbolFixed q cl m' host visible persistent t) :=
  .step (by
    unfold symbolFixed
    simp (maxDischargeDepth := 60)) hm h

@[simp] theorem askPartner_keeps {m : Nat} {s t : State} (g : _) (line : _) (hm : 0x208000 &&& m = 0x208000) (h : Keeps m s t) :
    Keeps m s (askPartner g line t) :=
  .step (by
    unfold askPartner
    simp (maxDischargeDepth := 60)) hm h

@[simp] theorem repairOutcome_keeps {m : Nat} {s t : State} (line : _) (source : _) (ok : _) (hm : 0x180000 &&& m = 0x180000) (h : Keeps m s t) :
    Keeps m s (repairOutcome line source ok t) :=
  .step (by
    unfold repairOutcome
    simp (maxDischargeDepth := 60)) hm h

@[simp] theorem lineRepair_keeps {m : Nat} {s t : State} (line : _) (hm : 0x38c010 &&& m = 0x38c010) (h : Keeps m s t) :
    Keeps m s (lineRepair line t) :=
  .step (by
    unfold lineRepair
    simp (maxDischargeDepth := 60)) hm h

@[simp] theorem dumpChannelLost_keeps {m : Nat} {s t : State} (q : _) (hm : 0x104000 &&& m = 0x104000) (h : Keeps m s t) :
    Keeps m s (dumpChannelLost q t) :=
  .step (by
    unfold dumpChannelLost
    simp (maxDischargeDepth := 60)) hm h

@[simp] theorem korOff_keeps {m : Nat} {s t : State} (hm : 0x8000 &&& m = 0x8000) (h : Keeps m s t) :
    Keeps m s (korOff t) :=
  .step (by
    unfold korOff
    simp (maxDischargeDepth := 60)) hm h

@[simp] theorem granuleLost_keeps {m : Nat} {s t : State} (g : _) (hm : 0x382860 &&& m = 0x382860) (h : Keeps m s t) :
    Keeps m s (granuleLost g t) :=
  .step (by
    unfold granuleLost
    simp (maxDischargeDepth := 60)) hm h

@[simp] theorem fenceQuad_keeps {m : Nat} {s t : State} (q : _) (cause : _) (hm : 0x38ec71 &&& m = 0x38ec71) (h : Keeps m s t) :
    Keeps m s (fenceQuad q cause t) :=
  .step (by
    unfold fenceQuad
    simp (maxDischargeDepth := 60)) hm h

@[simp] theorem readEffects_keeps {m : Nat} {s t : State} (line : _) (host : _) (again : _) (r : _) (hm : 0x38ec71 &&& m = 0x38ec71) (h : Keeps m s t) :
    Keeps m s (readEffects line host again r t) :=
  .step (by
    unfold readEffects
    simp (maxDischargeDepth := 60)) hm h

/-! ### MirrorOps -/

@[simp] theorem dropAsk_keeps {m : Nat} {s t : State} (a : _) (hm : 0x8000 &&& m = 0x8000) (h : Keeps m s t) :
    Keeps m s (dropAsk a t) :=
  .step (by
    unfold dropAsk
    simp (maxDischargeDepth := 60)) hm h

@[simp] theorem applyLines_keeps {m : Nat} {s t : State} (a : _) (l : _) (hm : 0x1188040 &&& m = 0x1188040) (h : Keeps m s t) :
    Keeps m s (applyLines a l t) :=
  .step (by
    unfold applyLines
    simp (maxDischargeDepth := 60)) hm h

@[simp] theorem retryEnd_keeps {m : Nat} {s t : State} (g : _) (result : _) (hm : 0x304010 &&& m = 0x304010) (h : Keeps m s t) :
    Keeps m s (retryEnd g result t) :=
  .step (by
    unfold retryEnd
    simp (maxDischargeDepth := 60)) hm h

@[simp] theorem repairRefused_keeps {m : Nat} {s t : State} (a : _) (hm : 0x38c010 &&& m = 0x38c010) (h : Keeps m s t) :
    Keeps m s (repairRefused a t) :=
  .step (by
    unfold repairRefused
    repeat' first | (simp (maxDischargeDepth := 60); done) | split | (dsimp only; split) | (refine Keeps.foldl (fun u a => ?_) ?_) | dsimp only) hm h

@[simp] theorem applyRepair_keeps {m : Nat} {s t : State} (a : _) (hm : 0x138e070 &&& m = 0x138e070) (h : Keeps m s t) :
    Keeps m s (applyRepair a t) :=
  .step (by
    unfold applyRepair
    simp (maxDischargeDepth := 60)) hm h

@[simp] theorem repairTry_keeps {m : Nat} {s t : State} (a : _) (hm : 0x138e070 &&& m = 0x138e070) (h : Keeps m s t) :
    Keeps m s (repairTry a t) :=
  .step (by
    unfold repairTry
    repeat' first | (simp (maxDischargeDepth := 60); done) | split | (dsimp only; split) | (refine Keeps.foldl (fun u a => ?_) ?_) | dsimp only) hm h

@[simp] theorem repairKick_keeps {m : Nat} {s t : State} (hm : 0x138e070 &&& m = 0x138e070) (h : Keeps m s t) :
    Keeps m s (repairKick t) :=
  .step (by
    unfold repairKick
    simp (maxDischargeDepth := 60)) hm h

@[simp] theorem ackFollow_keeps {m : Nat} {s t : State} (hm : 0x208000 &&& m = 0x208000) (h : Keeps m s t) : Keeps m s (ackFollow t) :=
  .step (by
    have k : ∀ x : Kor, Keeps 0x208000 t { t with kor := x } := fun x => by simp
    exact Keeps.ite (Keeps.refl _ t) (sendFlit_keeps (m := 0x208000) _ (by decide) (k _))) hm h

@[simp] theorem mirrorApply_keeps {m : Nat} {s t : State} (sl : _) (poison : _) (hm : 0x138a060 &&& m = 0x138a060) (h : Keeps m s t) :
    Keeps m s (mirrorApply sl poison t) :=
  .step (by
    unfold mirrorApply
    simp (maxDischargeDepth := 60)) hm h

@[simp] theorem mirrorLoop_keeps {m : Nat} {s t : State} (x0 : _) (hm : 0x138a060 &&& m = 0x138a060) (h : Keeps m s t) :
    Keeps m s (mirrorLoop x0 t) :=
  .step (by clear h; induction x0 generalizing t  with
    | zero => simp [mirrorLoop]
    | succ n ih =>
      have ih' : ∀ {s t}, Keeps 0x138a060 s t → Keeps 0x138a060 s (mirrorLoop n t) := fun  k => k.trans (ih )
      unfold mirrorLoop; (repeat' first | (simp (maxDischargeDepth := 60) [ih']; done) | split | (dsimp only; split) | (refine Keeps.foldl (fun u a => ?_) ?_) | dsimp only)) hm h

@[simp] theorem mirrorKick_keeps {m : Nat} {s t : State} (hm : 0x138a060 &&& m = 0x138a060) (h : Keeps m s t) :
    Keeps m s (mirrorKick t) :=
  .step (by
    unfold mirrorKick
    simp (maxDischargeDepth := 60)) hm h

@[simp] theorem setPressure_keeps {m : Nat} {s t : State} (on : _) (hm : 0x208000 &&& m = 0x208000) (h : Keeps m s t) :
    Keeps m s (setPressure on t) :=
  .step (by
    unfold setPressure
    simp (maxDischargeDepth := 60)) hm h

@[simp] theorem mirrorIn_keeps {m : Nat} {s t : State} (sl : _) (poison : _) (hm : 0x178a570 &&& m = 0x178a570) (h : Keeps m s t) :
    Keeps m s (mirrorIn sl poison t) :=
  .step (by
    unfold mirrorIn
    simp (maxDischargeDepth := 60)) hm h

/-! ### DataOps -/

@[simp] theorem refreshUnprotected_keeps {m : Nat} {s t : State} (hm : 0x102820 &&& m = 0x102820) (h : Keeps m s t) :
    Keeps m s (refreshUnprotected t) :=
  .step (by
    unfold refreshUnprotected
    simp (maxDischargeDepth := 60)) hm h

@[simp] theorem wakeEngines_keeps {m : Nat} {s t : State} (hm : 0x700510 &&& m = 0x700510) (h : Keeps m s t) :
    Keeps m s (wakeEngines t) :=
  .step (by
    unfold wakeEngines
    simp (maxDischargeDepth := 60)) hm h

@[simp] theorem sendDrs_keeps {m : Nat} {s t : State} (tag : _) (data : _) (poison : _) (hm : 0x200010 &&& m = 0x200010) (h : Keeps m s t) :
    Keeps m s (sendDrs tag data poison t) :=
  .step (by
    unfold sendDrs
    simp (maxDischargeDepth := 60)) hm h

@[simp] theorem sendBeats_keeps {m : Nat} {s t : State} (q : _) (tag : _) (data : _) (poison : _) (hm : 0x380010 &&& m = 0x380010) (h : Keeps m s t) :
    Keeps m s (sendBeats q tag data poison t) :=
  .step (by
    unfold sendBeats
    simp (maxDischargeDepth := 60)) hm h

@[simp] theorem answerRead_keeps {m : Nat} {s t : State} (r : _) (hm : 0x38ec71 &&& m = 0x38ec71) (h : Keeps m s t) :
    Keeps m s (answerRead r t) :=
  .step (by
    unfold answerRead
    repeat' first | (simp (maxDischargeDepth := 60); done) | split | (dsimp only; split) | (refine Keeps.foldl (fun u a => ?_) ?_) | dsimp only) hm h

@[simp] theorem answerLoop_keeps {m : Nat} {s t : State} (x0 : _) (hm : 0x38ec71 &&& m = 0x38ec71) (h : Keeps m s t) :
    Keeps m s (answerLoop x0 t) :=
  .step (by clear h; induction x0 generalizing t  with
    | zero => simp [answerLoop]
    | succ n ih =>
      have ih' : ∀ {s t}, Keeps 0x38ec71 s t → Keeps 0x38ec71 s (answerLoop n t) := fun  k => k.trans (ih )
      unfold answerLoop; (repeat' first | (simp (maxDischargeDepth := 60) [ih']; done) | split | (dsimp only; split) | (refine Keeps.foldl (fun u a => ?_) ?_) | dsimp only)) hm h

@[simp] theorem staleAfter_keeps {m : Nat} {s t : State} (w : _) (hm : 0x188040 &&& m = 0x188040) (h : Keeps m s t) :
    Keeps m s (staleAfter w t) :=
  .step (by
    unfold staleAfter
    simp (maxDischargeDepth := 60)) hm h

@[simp] theorem noteLatency_keeps {m : Nat} {s t : State} (w : _) (hm : 0x400020 &&& m = 0x400020) (h : Keeps m s t) :
    Keeps m s (noteLatency w t) :=
  .step (by
    unfold noteLatency
    repeat' first | (simp (maxDischargeDepth := 60); done) | split | (dsimp only; split) | (refine Keeps.foldl (fun u a => ?_) ?_) | dsimp only) hm h

@[simp] theorem noteHold_keeps {m : Nat} {s t : State} (h' : _) (hm : 0x400010 &&& m = 0x400010) (h : Keeps m s t) :
    Keeps m s (noteHold h' t) :=
  .step (by
    unfold noteHold
    simp (maxDischargeDepth := 60)) hm h

@[simp] theorem creditBack_keeps {m : Nat} {s t : State} (hm : 0x10 &&& m = 0x10) (h : Keeps m s t) :
    Keeps m s (creditBack t) :=
  .step (by
    unfold creditBack
    simp (maxDischargeDepth := 60)) hm h

@[simp] theorem completeWrite_keeps {m : Nat} {s t : State} (w : _) (hm : 0x788070 &&& m = 0x788070) (h : Keeps m s t) :
    Keeps m s (completeWrite w t) :=
  .step (by
    unfold completeWrite
    simp (maxDischargeDepth := 60)) hm h

@[simp] theorem completeLoop_keeps {m : Nat} {s t : State} (x0 : _) (hm : 0x788070 &&& m = 0x788070) (h : Keeps m s t) :
    Keeps m s (completeLoop x0 t) :=
  .step (by clear h; induction x0 generalizing t  with
    | zero => simp [completeLoop]
    | succ n ih =>
      have ih' : ∀ {s t}, Keeps 0x788070 s t → Keeps 0x788070 s (completeLoop n t) := fun  k => k.trans (ih )
      unfold completeLoop; (repeat' first | (simp (maxDischargeDepth := 60) [ih']; done) | split | (dsimp only; split) | (refine Keeps.foldl (fun u a => ?_) ?_) | dsimp only)) hm h

@[simp] theorem modWrite_keeps {m : Nat} {s t : State} (tag : _) (f : _) (hm : 0x10 &&& m = 0x10) (h : Keeps m s t) :
    Keeps m s (modWrite tag f t) :=
  .step (by
    unfold modWrite
    simp (maxDischargeDepth := 60)) hm h

@[simp] theorem writeState_keeps {m : Nat} {s t : State} (g : _) (r : _) (c : _) (hm : 0x138a870 &&& m = 0x138a870) (h : Keeps m s t) :
    Keeps m s (writeState g r c t) :=
  .step (by
    unfold writeState
    repeat' first | (simp (maxDischargeDepth := 60); done) | split | (dsimp only; split) | (refine Keeps.foldl (fun u a => ?_) ?_) | dsimp only) hm h

@[simp] theorem admitNow_keeps {m : Nat} {s t : State} (w : _) (c : _) (leg : _) (sent : _) (hm : 0x138a870 &&& m = 0x138a870) (h : Keeps m s t) :
    Keeps m s (admitNow w c leg sent t) :=
  .step (by
    unfold admitNow
    simp (maxDischargeDepth := 60)) hm h

@[simp] theorem queueFetch_keeps {m : Nat} {s t : State} (g : _) (hm : 0x704510 &&& m = 0x704510) (h : Keeps m s t) :
    Keeps m s (queueFetch g t) :=
  .step (by
    unfold queueFetch
    simp (maxDischargeDepth := 60)) hm h

@[simp] theorem tryAdmit_keeps {m : Nat} {s t : State} (w : _) (hm : 0x178ed70 &&& m = 0x178ed70) (h : Keeps m s t) :
    Keeps m s (tryAdmit w t) :=
  .step (by
    unfold tryAdmit
    repeat' first | (simp (maxDischargeDepth := 60); done) | split | (dsimp only; split) | (refine Keeps.foldl (fun u a => ?_) ?_) | dsimp only) hm h

@[simp] theorem offlineAccess_keeps {m : Nat} {s t : State} (idx : _) (isWrite : _) (hm : 0x300010 &&& m = 0x300010) (h : Keeps m s t) :
    Keeps m s (offlineAccess idx isWrite t) :=
  .step (by
    unfold offlineAccess
    simp (maxDischargeDepth := 60)) hm h

@[simp] theorem releaseLoop_keeps {m : Nat} {s t : State} (freed : _) (x1 : _) (hm : 0x178ed70 &&& m = 0x178ed70) (h : Keeps m s t) :
    Keeps m s (releaseLoop freed x1 t) :=
  .step (by clear h; induction x1 generalizing t freed with
    | zero => simp [releaseLoop]
    | succ n ih =>
      have ih' : ∀ {s t} freed, Keeps 0x178ed70 s t → Keeps 0x178ed70 s (releaseLoop freed n t) := fun freed k => k.trans (ih _)
      unfold releaseLoop; (repeat' first | (simp (maxDischargeDepth := 60) [ih']; done) | split | (dsimp only; split) | (refine Keeps.foldl (fun u a => ?_) ?_) | dsimp only)) hm h

@[simp] theorem relabel_keeps {m : Nat} {s t : State} (hm : 0x178ed70 &&& m = 0x178ed70) (h : Keeps m s t) :
    Keeps m s (relabel t) :=
  .step (by
    unfold relabel
    repeat' first | (simp (maxDischargeDepth := 60); done) | split | (dsimp only; split) | (refine Keeps.foldl (fun u a => ?_) ?_) | dsimp only) hm h

@[simp] theorem settleFor_keeps {m : Nat} {s t : State} (freed : _) (hm : 0x17eed71 &&& m = 0x17eed71) (h : Keeps m s t) :
    Keeps m s (settleFor freed t) :=
  .step (by
    unfold settleFor
    simp (maxDischargeDepth := 60)) hm h

@[simp] theorem settle_keeps {m : Nat} {s t : State} (hm : 0x17eed71 &&& m = 0x17eed71) (h : Keeps m s t) :
    Keeps m s (settle t) :=
  .step (by
    unfold settle
    simp (maxDischargeDepth := 60)) hm h

end Sys2Proof.Machine
end

