-- ==== Sys2Proof/Laws/KeepsLinks.lean ====
section
/-!
SUPPORT. What every operation of these files keeps: EnergyOps Budget LifeOps KorricOps Korric. One lemma per operation: it changes only the parts of its mask,
leaves the queue alone, keeps the cache DRAM canonical, and loses no bit of the Bog-oak row.
-/

namespace Sys2Proof.Machine

set_option maxRecDepth 8000
set_option linter.unusedTactic false
set_option linter.unreachableTactic false

/-! ### EnergyOps -/

@[simp] theorem sendInput_keeps {m : Nat} {s t : State} (hm : 0x20 &&& m = 0x20) (h : Keeps m s t) :
    Keeps m s (sendInput t) :=
  .step (by
    unfold sendInput
    simp (maxDischargeDepth := 60)) hm h

@[simp] theorem gaugeIssue_keeps {m : Nat} {s t : State} (hm : 0xc &&& m = 0xc) (h : Keeps m s t) :
    Keeps m s (gaugeIssue t) :=
  .step (by
    unfold gaugeIssue
    repeat' first | (simp (maxDischargeDepth := 60); done) | split | (dsimp only; split) | (refine Keeps.foldl (fun u a => ?_) ?_) | dsimp only) hm h

@[simp] theorem gaugeWrite_keeps {m : Nat} {s t : State} (hm : 0x10018c &&& m = 0x10018c) (h : Keeps m s t) :
    Keeps m s (gaugeWrite t) :=
  .step (by
    unfold gaugeWrite
    simp (maxDischargeDepth := 60)) hm h

@[simp] theorem actFollow_keeps {m : Nat} {s t : State} (hm : 0x4000 &&& m = 0x4000) (h : Keeps m s t) :
    Keeps m s (actFollow t) :=
  .step (by
    unfold actFollow
    simp (maxDischargeDepth := 60)) hm h

@[simp] theorem assertHoldup_keeps {m : Nat} {s t : State} (r : _) (hm : 0x104188 &&& m = 0x104188) (h : Keeps m s t) :
    Keeps m s (assertHoldup r t) :=
  .step (by
    unfold assertHoldup
    simp (maxDischargeDepth := 60)) hm h

@[simp] theorem refreshCharge_keeps {m : Nat} {s t : State} (hm : 0x500080 &&& m = 0x500080) (h : Keeps m s t) :
    Keeps m s (refreshCharge t) :=
  .step (by
    unfold refreshCharge
    simp (maxDischargeDepth := 60)) hm h

@[simp] theorem releaseHoldup_keeps {m : Nat} {s t : State} (hm : 0x504080 &&& m = 0x504080) (h : Keeps m s t) :
    Keeps m s (releaseHoldup t) :=
  .step (by
    unfold releaseHoldup
    simp (maxDischargeDepth := 60)) hm h

@[simp] theorem gaugeAfter_keeps {m : Nat} {s t : State} (old : _) (hm : 0x30018c &&& m = 0x30018c) (h : Keeps m s t) :
    Keeps m s (gaugeAfter old t) :=
  .step (by
    unfold gaugeAfter
    simp (maxDischargeDepth := 60)) hm h

@[simp] theorem refreshEstimates_keeps {m : Nat} {s t : State} (hm : 0x500080 &&& m = 0x500080) (h : Keeps m s t) :
    Keeps m s (refreshEstimates t) :=
  .step (by
    unfold refreshEstimates
    simp (maxDischargeDepth := 60)) hm h

@[simp] theorem storeInserted_keeps {m : Nat} {s t : State} (hm : 0x7001ac &&& m = 0x7001ac) (h : Keeps m s t) :
    Keeps m s (storeInserted t) :=
  .step (by
    unfold storeInserted
    simp (maxDischargeDepth := 60)) hm h

@[simp] theorem endLearnCmd_keeps {m : Nat} {s t : State} (accepted : _) (hm : 0x300010 &&& m = 0x300010) (h : Keeps m s t) :
    Keeps m s (endLearnCmd accepted t) :=
  .step (by
    unfold endLearnCmd
    repeat' first | (simp (maxDischargeDepth := 60); done) | split | (dsimp only; split) | (refine Keeps.foldl (fun u a => ?_) ?_) | dsimp only) hm h

@[simp] theorem releaseLearnHoldup_keeps {m : Nat} {s t : State} (hm : 0x504080 &&& m = 0x504080) (h : Keeps m s t) :
    Keeps m s (releaseLearnHoldup t) :=
  .step (by
    unfold releaseLearnHoldup
    simp (maxDischargeDepth := 60)) hm h

@[simp] theorem learnDisqualify_keeps {m : Nat} {s t : State} (cause : _) (hm : 0x7041bc &&& m = 0x7041bc) (h : Keeps m s t) :
    Keeps m s (learnDisqualify cause t) :=
  .step (by
    unfold learnDisqualify
    simp (maxDischargeDepth := 60)) hm h

@[simp] theorem storeRemoved_keeps {m : Nat} {s t : State} (hm : 0x7041bc &&& m = 0x7041bc) (h : Keeps m s t) :
    Keeps m s (storeRemoved t) :=
  .step (by
    unfold storeRemoved
    simp (maxDischargeDepth := 60)) hm h

@[simp] theorem storeFollow_keeps {m : Nat} {s t : State} (hm : 0x7045bc &&& m = 0x7045bc) (h : Keeps m s t) :
    Keeps m s (storeFollow t) :=
  .step (by
    unfold storeFollow
    simp (maxDischargeDepth := 60)) hm h

@[simp] theorem learnToBudget_keeps {m : Nat} {s t : State} (hm : 0x1001ac &&& m = 0x1001ac) (h : Keeps m s t) :
    Keeps m s (learnToBudget t) :=
  .step (by
    unfold learnToBudget
    simp (maxDischargeDepth := 60)) hm h

@[simp] theorem learnStart_keeps {m : Nat} {s t : State} (hm : 0x1001ac &&& m = 0x1001ac) (h : Keeps m s t) :
    Keeps m s (learnStart t) :=
  .step (by
    unfold learnStart
    simp (maxDischargeDepth := 60)) hm h

@[simp] theorem storeKnown_keeps {m : Nat} {s t : State} (hm : 0x30018c &&& m = 0x30018c) (h : Keeps m s t) :
    Keeps m s (storeKnown t) :=
  .step (by
    unfold storeKnown
    simp (maxDischargeDepth := 60)) hm h

@[simp] theorem esrJudge_keeps {m : Nat} {s t : State} (hm : 0x100080 &&& m = 0x100080) (h : Keeps m s t) :
    Keeps m s (esrJudge t) :=
  .step (by
    unfold esrJudge
    simp (maxDischargeDepth := 60)) hm h

@[simp] theorem foldEsr_keeps {m : Nat} {s t : State} (c : _) (hm : 0x100080 &&& m = 0x100080) (h : Keeps m s t) :
    Keeps m s (foldEsr c t) :=
  .step (by
    unfold foldEsr
    repeat' first | (simp (maxDischargeDepth := 60); done) | split | (dsimp only; split) | (refine Keeps.foldl (fun u a => ?_) ?_) | dsimp only) hm h

@[simp] theorem learnAccept_keeps {m : Nat} {s t : State} (c : _) (k : _) (hm : 0x7041bc &&& m = 0x7041bc) (h : Keeps m s t) :
    Keeps m s (learnAccept c k t) :=
  .step (by
    unfold learnAccept
    simp (maxDischargeDepth := 60)) hm h

@[simp] theorem learnEnd_keeps {m : Nat} {s t : State} (hm : 0x7041bc &&& m = 0x7041bc) (h : Keeps m s t) :
    Keeps m s (learnEnd t) :=
  .step (by
    unfold learnEnd
    simp (maxDischargeDepth := 60)) hm h

@[simp] theorem releaseInputHoldup_keeps {m : Nat} {s t : State} (hm : 0x504080 &&& m = 0x504080) (h : Keeps m s t) :
    Keeps m s (releaseInputHoldup t) :=
  .step (by
    unfold releaseInputHoldup
    simp (maxDischargeDepth := 60)) hm h

/-! ### Budget -/

@[simp] theorem rejectInDump_keeps {m : Nat} {s t : State} (hm : 0x100000 &&& m = 0x100000) (h : Keeps m s t) :
    Keeps m s (rejectInDump t) :=
  .step (by
    unfold rejectInDump
    simp (maxDischargeDepth := 60)) hm h

@[simp] theorem lackStart_keeps {m : Nat} {s t : State} (before : _) (hm : 0x20 &&& m = 0x20) (h : Keeps m s t) :
    Keeps m s (lackStart before t) :=
  .step (by
    unfold lackStart
    simp (maxDischargeDepth := 60)) hm h

@[simp] theorem setBudget_keeps {m : Nat} {s t : State} (b : _) (hm : 0x17eed71 &&& m = 0x17eed71) (h : Keeps m s t) :
    Keeps m s (setBudget b t) :=
  .step (by
    unfold setBudget
    simp (maxDischargeDepth := 60)) hm h

@[simp] theorem takeRaw_keeps {m : Nat} {s t : State} (raw : _) (cause : _) (hm : 0x17eed71 &&& m = 0x17eed71) (h : Keeps m s t) :
    Keeps m s (takeRaw raw cause t) :=
  .step (by
    unfold takeRaw
    simp (maxDischargeDepth := 60)) hm h

@[simp] theorem execForceZeroWrite_keeps {m : Nat} {s t : State} (v : _) (hm : 0x17eed71 &&& m = 0x17eed71) (h : Keeps m s t) :
    Keeps m s (run (execForceZeroWrite v t) t) :=
  .step (by
    simp only [execForceZeroWrite, run]
    simp (maxDischargeDepth := 60)) hm h

@[simp] theorem execRecompute_keeps {m : Nat} {s t : State} (hm : 0x100020 &&& m = 0x100020) (h : Keeps m s t) :
    Keeps m s (run (execRecompute t) t) :=
  .step (by
    simp only [execRecompute, run]
    simp (maxDischargeDepth := 60)) hm h

@[simp] theorem execInputSet_keeps {m : Nat} {s t : State} (hm : 0x17eed71 &&& m = 0x17eed71) (h : Keeps m s t) :
    Keeps m s (run (execInputSet t) t) :=
  .step (by
    simp only [execInputSet, run]
    repeat' first | (simp (maxDischargeDepth := 60); done) | split | (dsimp only; split) | (refine Keeps.foldl (fun u a => ?_) ?_) | dsimp only) hm h

@[simp] theorem budgetTick_keeps {m : Nat} {s t : State} (hm : 0x17eed71 &&& m = 0x17eed71) (h : Keeps m s t) :
    Keeps m s (budgetTick t) :=
  .step (by
    unfold budgetTick
    simp (maxDischargeDepth := 60)) hm h

/-! ### LifeOps -/

@[simp] theorem bulkFollow_keeps {m : Nat} {s t : State} (hm : 0xf04021 &&& m = 0xf04021) (h : Keeps m s t) :
    Keeps m s (bulkFollow t) :=
  .step (by
    unfold bulkFollow
    simp (maxDischargeDepth := 60)) hm h

@[simp] theorem stopReq_keeps {m : Nat} {s t : State} (r : _) (hm : 0x308030 &&& m = 0x308030) (h : Keeps m s t) :
    Keeps m s (stopReq r t) :=
  .step (by
    unfold stopReq
    repeat' first | (simp (maxDischargeDepth := 60); done) | split | (dsimp only; split) | (refine Keeps.foldl (fun u a => ?_) ?_) | dsimp only) hm h

@[simp] theorem beginChecks_keeps {m : Nat} {s t : State} (r : _) (hm : 0x308030 &&& m = 0x308030) (h : Keeps m s t) :
    Keeps m s (beginChecks r t) :=
  .step (by
    unfold beginChecks
    simp (maxDischargeDepth := 60)) hm h

@[simp] theorem startRegion_keeps {m : Nat} {s t : State} (r : _) (hm : 0x308030 &&& m = 0x308030) (h : Keeps m s t) :
    Keeps m s (startRegion r t) :=
  .step (by
    unfold startRegion
    repeat' first | (simp (maxDischargeDepth := 60); done) | split | (dsimp only; split) | (refine Keeps.foldl (fun u a => ?_) ?_) | dsimp only) hm h

@[simp] theorem resumeWrites_keeps {m : Nat} {s t : State} (hm : 0x178ed70 &&& m = 0x178ed70) (h : Keeps m s t) :
    Keeps m s (resumeWrites t) :=
  .step (by
    unfold resumeWrites
    simp (maxDischargeDepth := 60)) hm h

@[simp] theorem releasePtrs_keeps {m : Nat} {s t : State} (r : _) (x : _) (y : _) (hm : 0x20 &&& m = 0x20) (h : Keeps m s t) :
    Keeps m s (releasePtrs r x y t) :=
  .step (by
    unfold releasePtrs
    simp (maxDischargeDepth := 60)) hm h

@[simp] theorem releaseGranule_keeps {m : Nat} {s t : State} (g : _) (hm : 0x3ae070 &&& m = 0x3ae070) (h : Keeps m s t) :
    Keeps m s (releaseGranule g t) :=
  .step (by
    unfold releaseGranule
    simp (maxDischargeDepth := 60)) hm h

@[simp] theorem releaseRange_keeps {m : Nat} {s t : State} (r : _) (first : _) (count : _) (hm : 0x17aed70 &&& m = 0x17aed70) (h : Keeps m s t) :
    Keeps m s (releaseRange r first count t) :=
  .step (by
    unfold releaseRange
    simp (maxDischargeDepth := 60)) hm h

@[simp] theorem releaseSpan_keeps {m : Nat} {s t : State} (r : _) (hm : 0x17aed70 &&& m = 0x17aed70) (h : Keeps m s t) :
    Keeps m s (releaseSpan r t) :=
  .step (by
    unfold releaseSpan
    simp (maxDischargeDepth := 60)) hm h

@[simp] theorem endStart_keeps {m : Nat} {s t : State} (r : _) (code : _) (hm : 0x308030 &&& m = 0x308030) (h : Keeps m s t) :
    Keeps m s (endStart r code t) :=
  .step (by
    unfold endStart
    simp (maxDischargeDepth := 60)) hm h

@[simp] theorem goOnline_keeps {m : Nat} {s t : State} (r : _) (hm : 0x300030 &&& m = 0x300030) (h : Keeps m s t) :
    Keeps m s (goOnline r t) :=
  .step (by
    unfold goOnline
    simp (maxDischargeDepth := 60)) hm h

/-! ### KorricOps -/

@[simp] theorem resendLine_keeps {m : Nat} {s t : State} (g : _) (k : _) (hm : 0x208000 &&& m = 0x208000) (h : Keeps m s t) :
    Keeps m s (resendLine g k t) :=
  .step (by
    unfold resendLine
    simp (maxDischargeDepth := 60)) hm h

@[simp] theorem resendLoop_keeps {m : Nat} {s t : State} (x0 : _) (hm : 0x20c000 &&& m = 0x20c000) (h : Keeps m s t) :
    Keeps m s (resendLoop x0 t) :=
  .step (by clear h; induction x0 generalizing t  with
    | zero => simp [resendLoop]
    | succ n ih =>
      have ih' : ∀ {s t}, Keeps 0x20c000 s t → Keeps 0x20c000 s (resendLoop n t) := fun  k => k.trans (ih )
      unfold resendLoop; (repeat' first | (simp (maxDischargeDepth := 60) [ih']; done) | split | (dsimp only; split) | (refine Keeps.foldl (fun u a => ?_) ?_) | dsimp only)) hm h

@[simp] theorem pairIssue_keeps {m : Nat} {s t : State} (hm : 0xc &&& m = 0xc) (h : Keeps m s t) :
    Keeps m s (pairIssue t) :=
  .step (by
    unfold pairIssue
    repeat' first | (simp (maxDischargeDepth := 60); done) | split | (dsimp only; split) | (refine Keeps.foldl (fun u a => ?_) ?_) | dsimp only) hm h

@[simp] theorem pairWrite_keeps {m : Nat} {s t : State} (adopted : _) (mepoch : _) (hm : 0x10c &&& m = 0x10c) (h : Keeps m s t) :
    Keeps m s (pairWrite adopted mepoch t) :=
  .step (by
    unfold pairWrite
    simp (maxDischargeDepth := 60)) hm h

@[simp] theorem reachMirrored_keeps {m : Nat} {s t : State} (hm : 0x17eed7d &&& m = 0x17eed7d) (h : Keeps m s t) :
    Keeps m s (reachMirrored t) :=
  .step (by
    unfold reachMirrored
    simp (maxDischargeDepth := 60)) hm h

@[simp] theorem resendKick_keeps {m : Nat} {s t : State} (hm : 0x17eed7d &&& m = 0x17eed7d) (h : Keeps m s t) :
    Keeps m s (resendKick t) :=
  .step (by
    unfold resendKick
    simp (maxDischargeDepth := 60)) hm h

@[simp] theorem fullResyncRegion_keeps {m : Nat} {s t : State} (r : _) (hm : 0x388040 &&& m = 0x388040) (h : Keeps m s t) :
    Keeps m s (fullResyncRegion r t) :=
  .step (by
    unfold fullResyncRegion
    simp (maxDischargeDepth := 60)) hm h

@[simp] theorem shadowMaps_keeps {m : Nat} {s t : State} (r : _) (hm : 0x208000 &&& m = 0x208000) (h : Keeps m s t) :
    Keeps m s (shadowMaps r t) :=
  .step (by
    unfold shadowMaps
    simp (maxDischargeDepth := 60)) hm h

@[simp] theorem rejoin_keeps {m : Nat} {s t : State} (hm : 0x17eed7d &&& m = 0x17eed7d) (h : Keeps m s t) :
    Keeps m s (rejoin t) :=
  .step (by
    unfold rejoin
    simp (maxDischargeDepth := 60)) hm h

@[simp] theorem noteDigests_keeps {m : Nat} {s t : State} (hm : 0x8000 &&& m = 0x8000) (h : Keeps m s t) :
    Keeps m s (noteDigests t) :=
  .step (by
    unfold noteDigests
    simp (maxDischargeDepth := 60)) hm h

@[simp] theorem compareDigests_keeps {m : Nat} {s t : State} (hm : 0x17eed7d &&& m = 0x17eed7d) (h : Keeps m s t) :
    Keeps m s (compareDigests t) :=
  .step (by
    unfold compareDigests
    simp (maxDischargeDepth := 60)) hm h

@[simp] theorem sendDigests_keeps {m : Nat} {s t : State} (hm : 0x208000 &&& m = 0x208000) (h : Keeps m s t) :
    Keeps m s (sendDigests t) :=
  .step (by
    unfold sendDigests
    simp (maxDischargeDepth := 60)) hm h

@[simp] theorem pressWrites_keeps {m : Nat} {s t : State} (hm : 0x30 &&& m = 0x30) (h : Keeps m s t) :
    Keeps m s (pressWrites t) :=
  .step (by
    unfold pressWrites
    simp (maxDischargeDepth := 60)) hm h

@[simp] theorem takePressure_keeps {m : Nat} {s t : State} (on : _) (hm : 0x10a030 &&& m = 0x10a030) (h : Keeps m s t) :
    Keeps m s (takePressure on t) :=
  .step (by
    unfold takePressure
    simp (maxDischargeDepth := 60)) hm h

@[simp] theorem releaseOver_keeps {m : Nat} {s t : State} (e : _) (hm : 0x300000 &&& m = 0x300000) (h : Keeps m s t) :
    Keeps m s (releaseOver e t) :=
  .step (by
    unfold releaseOver
    simp (maxDischargeDepth := 60)) hm h

@[simp] theorem pendRelease_keeps {m : Nat} {s t : State} (first : _) (count : _) (hm : 0x108000 &&& m = 0x108000) (h : Keeps m s t) :
    Keeps m s (pendRelease first count t) :=
  .step (by
    unfold pendRelease
    simp (maxDischargeDepth := 60)) hm h

@[simp] theorem releaseAlone_keeps {m : Nat} {s t : State} (hm : 0x308000 &&& m = 0x308000) (h : Keeps m s t) :
    Keeps m s (releaseAlone t) :=
  .step (by
    unfold releaseAlone
    simp (maxDischargeDepth := 60)) hm h

@[simp] theorem dropLegs_keeps {m : Nat} {s t : State} (hm : 0x180050 &&& m = 0x180050) (h : Keeps m s t) :
    Keeps m s (dropLegs t) :=
  .step (by
    unfold dropLegs
    simp (maxDischargeDepth := 60)) hm h

@[simp] theorem enterSolo_keeps {m : Nat} {s t : State} (cause : _) (live : _) (hm : 0x17eed71 &&& m = 0x17eed71) (h : Keeps m s t) :
    Keeps m s (enterSolo cause live t) :=
  .step (by
    unfold enterSolo
    simp (maxDischargeDepth := 60)) hm h

@[simp] theorem decisionEnd_keeps {m : Nat} {s t : State} (p : _) (hm : 0x508000 &&& m = 0x508000) (h : Keeps m s t) :
    Keeps m s (decisionEnd p t) :=
  .step (by
    unfold decisionEnd
    simp (maxDischargeDepth := 60)) hm h

@[simp] theorem decideSolo_keeps {m : Nat} {s t : State} (cause : _) (live : _) (hm : 0x17eed71 &&& m = 0x17eed71) (h : Keeps m s t) :
    Keeps m s (decideSolo cause live t) :=
  .step (by
    unfold decideSolo
    simp (maxDischargeDepth := 60)) hm h

@[simp] theorem ownDump_keeps {m : Nat} {s t : State} (hm : 0x17eed71 &&& m = 0x17eed71) (h : Keeps m s t) :
    Keeps m s (ownDump t) :=
  .step (by
    unfold ownDump
    simp (maxDischargeDepth := 60)) hm h

@[simp] theorem takeoverEnd_keeps {m : Nat} {s t : State} (force : _) (ret : _) (ext : _) (count : _) (hm : 0x308010 &&& m = 0x308010) (h : Keeps m s t) :
    Keeps m s (takeoverEnd force ret ext count t) :=
  .step (by
    unfold takeoverEnd
    simp (maxDischargeDepth := 60)) hm h

@[simp] theorem takeOwnership_keeps {m : Nat} {s t : State} (rs : _) (hm : 0x30a860 &&& m = 0x30a860) (h : Keeps m s t) :
    Keeps m s (takeOwnership rs t) :=
  .step (by
    unfold takeOwnership
    simp (maxDischargeDepth := 60)) hm h

@[simp] theorem adoptRegions_keeps {m : Nat} {s t : State} (rs : _) (forced : _) (hm : 0x30a870 &&& m = 0x30a870) (h : Keeps m s t) :
    Keeps m s (adoptRegions rs forced t) :=
  .step (by
    unfold adoptRegions
    simp (maxDischargeDepth := 60)) hm h

@[simp] theorem takeoverDone_keeps {m : Nat} {s t : State} (hm : 0x17eed71 &&& m = 0x17eed71) (h : Keeps m s t) :
    Keeps m s (takeoverDone t) :=
  .step (by
    unfold takeoverDone
    repeat' first | (simp (maxDischargeDepth := 60); done) | split | (dsimp only; split) | (refine Keeps.foldl (fun u a => ?_) ?_) | dsimp only) hm h

@[simp] theorem noteWitness_keeps {m : Nat} {s t : State} (r : _) (hm : 0x118000 &&& m = 0x118000) (h : Keeps m s t) :
    Keeps m s (noteWitness r t) :=
  .step (by
    unfold noteWitness
    simp (maxDischargeDepth := 60)) hm h

@[simp] theorem soloSeven_keeps {m : Nat} {s t : State} (hm : 0x17eed71 &&& m = 0x17eed71) (h : Keeps m s t) :
    Keeps m s (soloSeven t) :=
  .step (by
    unfold soloSeven
    simp (maxDischargeDepth := 60)) hm h

@[simp] theorem takeoverAdopt_keeps {m : Nat} {s t : State} (t' : _) (hm : 0x810c &&& m = 0x810c) (h : Keeps m s t) :
    Keeps m s (takeoverAdopt t' t) :=
  .step (by
    unfold takeoverAdopt
    simp (maxDischargeDepth := 60)) hm h

@[simp] theorem takeoverAnswer_keeps {m : Nat} {s t : State} (t' : _) (r : _) (hm : 0x30811c &&& m = 0x30811c) (h : Keeps m s t) :
    Keeps m s (takeoverAnswer t' r t) :=
  .step (by
    unfold takeoverAnswer
    simp (maxDischargeDepth := 60)) hm h

@[simp] theorem witnessResult_keeps {m : Nat} {s t : State} (why : _) (r : _) (hm : 0x17fed7d &&& m = 0x17fed7d) (h : Keeps m s t) :
    Keeps m s (witnessResult why r t) :=
  .step (by
    unfold witnessResult
    repeat' first | (simp (maxDischargeDepth := 60); done) | split | (dsimp only; split) | (refine Keeps.foldl (fun u a => ?_) ?_) | dsimp only) hm h

@[simp] theorem askWitness_keeps {m : Nat} {s t : State} (why : _) (hm : 0x17fed7d &&& m = 0x17fed7d) (h : Keeps m s t) :
    Keeps m s (askWitness why t) :=
  .step (by
    unfold askWitness
    repeat' first | (simp (maxDischargeDepth := 60); done) | split | (dsimp only; split) | (refine Keeps.foldl (fun u a => ?_) ?_) | dsimp only) hm h

@[simp] theorem takeoverRun_keeps {m : Nat} {s t : State} (t' : _) (hm : 0x17fed7d &&& m = 0x17fed7d) (h : Keeps m s t) :
    Keeps m s (takeoverRun t' t) :=
  .step (by
    unfold takeoverRun
    simp (maxDischargeDepth := 60)) hm h

@[simp] theorem takeoverResume_keeps {m : Nat} {s t : State} (hm : 0x17fed7d &&& m = 0x17fed7d) (h : Keeps m s t) :
    Keeps m s (takeoverResume t) :=
  .step (by
    unfold takeoverResume
    repeat' first | (simp (maxDischargeDepth := 60); done) | split | (dsimp only; split) | (refine Keeps.foldl (fun u a => ?_) ?_) | dsimp only) hm h

@[simp] theorem partnerDumping_keeps {m : Nat} {s t : State} (hm : 0x17fed7d &&& m = 0x17fed7d) (h : Keeps m s t) :
    Keeps m s (partnerDumping t) :=
  .step (by
    unfold partnerDumping
    repeat' first | (simp (maxDischargeDepth := 60); done) | split | (dsimp only; split) | (refine Keeps.foldl (fun u a => ?_) ?_) | dsimp only) hm h

@[simp] theorem takeMack_keeps {m : Nat} {s t : State} (m' : _) (hm : 0x17eed7d &&& m = 0x17eed7d) (h : Keeps m s t) :
    Keeps m s (takeMack m' t) :=
  .step (by
    unfold takeMack
    simp (maxDischargeDepth := 60)) hm h

@[simp] theorem replayAll_keeps {m : Nat} {s t : State} (hm : 0x308000 &&& m = 0x308000) (h : Keeps m s t) :
    Keeps m s (replayAll t) :=
  .step (by
    unfold replayAll
    simp (maxDischargeDepth := 60)) hm h

@[simp] theorem sendRepairLine_keeps {m : Nat} {s t : State} (g : _) (tag : _) (k : _) (hm : 0x208000 &&& m = 0x208000) (h : Keeps m s t) :
    Keeps m s (sendRepairLine g tag k t) :=
  .step (by
    unfold sendRepairLine
    simp (maxDischargeDepth := 60)) hm h

@[simp] theorem repairLoop_keeps {m : Nat} {s t : State} (x0 : _) (hm : 0x208000 &&& m = 0x208000) (h : Keeps m s t) :
    Keeps m s (repairLoop x0 t) :=
  .step (by clear h; induction x0 generalizing t  with
    | zero => simp [repairLoop]
    | succ n ih =>
      have ih' : ∀ {s t}, Keeps 0x208000 s t → Keeps 0x208000 s (repairLoop n t) := fun  k => k.trans (ih )
      unfold repairLoop; (repeat' first | (simp (maxDischargeDepth := 60) [ih']; done) | split | (dsimp only; split) | (refine Keeps.foldl (fun u a => ?_) ?_) | dsimp only)) hm h

@[simp] theorem repairSend_keeps {m : Nat} {s t : State} (hm : 0x208000 &&& m = 0x208000) (h : Keeps m s t) :
    Keeps m s (repairSend t) :=
  .step (by
    unfold repairSend
    simp (maxDischargeDepth := 60)) hm h

@[simp] theorem takeHeader_keeps {m : Nat} {s t : State} (h' : _) (hm : 0x17fed7d &&& m = 0x17fed7d) (h : Keeps m s t) :
    Keeps m s (takeHeader h' t) :=
  .step (by
    unfold takeHeader
    simp (maxDischargeDepth := 60)) hm h

@[simp] theorem takeMsg_keeps {m : Nat} {s t : State} (hd : FlitHdr) (idx : Nat) (k : State → State) (hm : 0x17fed7d &&& m = 0x17fed7d) (hk : ∀ u, Keeps m u (k u))
    (h : Keeps m s t) : Keeps m s (takeMsg hd idx k t) :=
  h.trans (by
    unfold takeMsg
    split
    · exact Keeps.refl m t
    · split
      · exact Keeps.refl m t
      · exact Keeps.trans ((show Keeps 0x17fed7d t _ by (repeat' first | (simp (maxDischargeDepth := 60); done) | split | (dsimp only; split) | (refine Keeps.foldl (fun u a => ?_) ?_) | dsimp only)).mono hm) (hk _))

@[simp] theorem linkUpKorric_keeps {m : Nat} {s t : State} (hm : 0x17eed7d &&& m = 0x17eed7d) (h : Keeps m s t) :
    Keeps m s (linkUpKorric t) :=
  .step (by
    unfold linkUpKorric
    simp (maxDischargeDepth := 60)) hm h

@[simp] theorem releaseNotices_keeps {m : Nat} {s t : State} (hm : 0x208000 &&& m = 0x208000) (h : Keeps m s t) :
    Keeps m s (releaseNotices t) :=
  .step (by
    unfold releaseNotices
    simp (maxDischargeDepth := 60)) hm h

@[simp] theorem copyShadowed_keeps {m : Nat} {s t : State} (g : _) (hm : 0x382060 &&& m = 0x382060) (h : Keeps m s t) :
    Keeps m s (copyShadowed g t) :=
  .step (by
    unfold copyShadowed
    simp (maxDischargeDepth := 60)) hm h

@[simp] theorem beginDecision_keeps {m : Nat} {s t : State} (hm : 0x308030 &&& m = 0x308030) (h : Keeps m s t) :
    Keeps m s (beginDecision t) :=
  .step (by
    unfold beginDecision
    simp (maxDischargeDepth := 60)) hm h

@[simp] theorem sendExchange_keeps {m : Nat} {s t : State} (hm : 0x208000 &&& m = 0x208000) (h : Keeps m s t) :
    Keeps m s (sendExchange t) :=
  .step (by
    unfold sendExchange
    simp (maxDischargeDepth := 60)) hm h

/-! ### Korric -/

@[simp] theorem exchangeCheck_keeps {m : Nat} {s t : State} (hm : 0x17eed7d &&& m = 0x17eed7d) (h : Keeps m s t) :
    Keeps m s (exchangeCheck t) :=
  .step (by
    unfold exchangeCheck
    simp (maxDischargeDepth := 60)) hm h

@[simp] theorem execDigest_keeps {m : Nat} {s t : State} (h' : _) (idx : _) (part : _) (value : _) (hm : 0x17fed7d &&& m = 0x17fed7d) (h : Keeps m s t) :
    Keeps m s (run (execDigest h' idx part value t) t) :=
  .step (by
    simp only [execDigest, run]
    simp (maxDischargeDepth := 60)) hm h

@[simp] theorem execWitnessRequery_keeps {m : Nat} {s t : State} (hm : 0x17fed7d &&& m = 0x17fed7d) (h : Keeps m s t) :
    Keeps m s (run (execWitnessRequery t) t) :=
  .step (by
    simp only [execWitnessRequery, run]
    simp (maxDischargeDepth := 60)) hm h

@[simp] theorem whenUp_keeps {m : Nat} {s t : State} (k : State → State) (hk : ∀ u, Keeps m u (k u)) (h : Keeps m s t) :
    Keeps m s (whenUp k t) :=
  h.trans (by
    unfold whenUp
    split
    · exact hk t
    · exact Keeps.refl m t)

@[simp] theorem execResyncEnd_keeps {m : Nat} {s t : State} (h' : _) (idx : _) (hm : 0x17fed7d &&& m = 0x17fed7d) (h : Keeps m s t) :
    Keeps m s (run (execResyncEnd h' idx t) t) :=
  .step (by
    simp only [execResyncEnd, run]
    simp (maxDischargeDepth := 60)) hm h

@[simp] theorem execTakeover_keeps {m : Nat} {s t : State} (via : _) (hm : 0x17fed7d &&& m = 0x17fed7d) (h : Keeps m s t) :
    Keeps m s (run (execTakeover via t) t) :=
  .step (by
    simp only [execTakeover, run]
    simp (maxDischargeDepth := 60)) hm h

@[simp] theorem execReleaseDone_keeps {m : Nat} {s t : State} (hd : FlitHdr) (idx first : Nat) (hm : 0x17fed7d &&& m = 0x17fed7d) (h : Keeps m s t) :
    Keeps m s (run (execReleaseDone hd idx first t) t) :=
  .step (by
    simp only [execReleaseDone, run]
    refine takeMsg_keeps _ _ _ (by decide) (fun u => whenUp_keeps _ (fun v => ?_) (Keeps.refl _ u)) (Keeps.refl _ t)
    (repeat' first | (simp (maxDischargeDepth := 60); done) | split | (dsimp only; split) | (refine Keeps.foldl (fun u a => ?_) ?_) | dsimp only)) hm h

@[simp] theorem endQuery_keeps {m : Nat} {s t : State} (r : _) (hm : 0x17fed7d &&& m = 0x17fed7d) (h : Keeps m s t) :
    Keeps m s (endQuery r t) :=
  .step (by
    unfold endQuery
    repeat' first | (simp (maxDischargeDepth := 60); done) | split | (dsimp only; split) | (refine Keeps.foldl (fun u a => ?_) ?_) | dsimp only) hm h

@[simp] theorem resyncRegion_keeps {m : Nat} {s t : State} (r : _) (hm : 0x17eed7d &&& m = 0x17eed7d) (h : Keeps m s t) :
    Keeps m s (resyncRegion r t) :=
  .step (by
    unfold resyncRegion
    simp (maxDischargeDepth := 60)) hm h

@[simp] theorem execReplayTimeout_keeps {m : Nat} {s t : State} (hm : 0x308000 &&& m = 0x308000) (h : Keeps m s t) :
    Keeps m s (run (execReplayTimeout t) t) :=
  .step (by
    simp only [execReplayTimeout, run]
    simp (maxDischargeDepth := 60)) hm h

@[simp] theorem execHeartbeat_keeps {m : Nat} {s t : State} (h' : _) (hm : 0x17fed7d &&& m = 0x17fed7d) (h : Keeps m s t) :
    Keeps m s (run (execHeartbeat h' t) t) :=
  .step (by
    simp only [execHeartbeat, run]
    simp (maxDischargeDepth := 60)) hm h

@[simp] theorem execRepair_keeps {m : Nat} {s t : State} (h' : _) (slots : _) (hm : 0x17fed7d &&& m = 0x17fed7d) (h : Keeps m s t) :
    Keeps m s (run (execRepair h' slots t) t) :=
  .step (by
    simp only [execRepair, run]
    simp (maxDischargeDepth := 60)) hm h

@[simp] theorem execCorruptFlit_keeps {m : Nat} {s t : State} (uncorrectable : _) (hm : 0x8000 &&& m = 0x8000) (h : Keeps m s t) :
    Keeps m s (run (execCorruptFlit uncorrectable t) t) :=
  .step (by
    simp only [execCorruptFlit, run]
    simp (maxDischargeDepth := 60)) hm h

@[simp] theorem execLaneSwitch_keeps {m : Nat} {s t : State} (tx : _) (hm : 0x308000 &&& m = 0x308000) (h : Keeps m s t) :
    Keeps m s (run (execLaneSwitch tx t) t) :=
  .step (by
    simp only [execLaneSwitch, run]
    repeat' first | (simp (maxDischargeDepth := 60); done) | split | (dsimp only; split) | (refine Keeps.foldl (fun u a => ?_) ?_) | dsimp only) hm h

@[simp] theorem execSoloStart_keeps {m : Nat} {s t : State} (hm : 0x17eed71 &&& m = 0x17eed71) (h : Keeps m s t) :
    Keeps m s (run (execSoloStart t) t) :=
  .step (by
    simp only [execSoloStart, run]
    simp (maxDischargeDepth := 60)) hm h

@[simp] theorem execFastRetrainDone_keeps {m : Nat} {s t : State} (ok : _) (hm : 0x17fed7d &&& m = 0x17fed7d) (h : Keeps m s t) :
    Keeps m s (run (execFastRetrainDone ok t) t) :=
  .step (by
    simp only [execFastRetrainDone, run]
    simp (maxDischargeDepth := 60)) hm h

@[simp] theorem execRepairReq_keeps {m : Nat} {s t : State} (h' : _) (idx : _) (g : _) (tag : _) (hm : 0x17fed7d &&& m = 0x17fed7d) (h : Keeps m s t) :
    Keeps m s (run (execRepairReq h' idx g tag t) t) :=
  .step (by
    simp only [execRepairReq, run]
    simp (maxDischargeDepth := 60)) hm h

@[simp] theorem execPressure_keeps {m : Nat} {s t : State} (h' : _) (idx : _) (on : _) (hm : 0x17fed7d &&& m = 0x17fed7d) (h : Keeps m s t) :
    Keeps m s (run (execPressure h' idx on t) t) :=
  .step (by
    simp only [execPressure, run]
    simp (maxDischargeDepth := 60)) hm h

@[simp] theorem execPairRecordQuagTimeout_keeps {m : Nat} {s t : State} (hm : 0x308118 &&& m = 0x308118) (h : Keeps m s t) :
    Keeps m s (run (execPairRecordQuagTimeout t) t) :=
  .step (by
    simp only [execPairRecordQuagTimeout, run]
    repeat' first | (simp (maxDischargeDepth := 60); done) | split | (dsimp only; split) | (refine Keeps.foldl (fun u a => ?_) ?_) | dsimp only) hm h

@[simp] theorem execOpenQuery_keeps {m : Nat} {s t : State} (h' : _) (idx : _) (r : _) (hm : 0x17fed7d &&& m = 0x17fed7d) (h : Keeps m s t) :
    Keeps m s (run (execOpenQuery h' idx r t) t) :=
  .step (by
    simp only [execOpenQuery, run]
    simp (maxDischargeDepth := 60)) hm h

@[simp] theorem execReleaseNotice_keeps {m : Nat} {s t : State} (h' : _) (idx : _) (first : _) (count : _) (hm : 0x17fed7d &&& m = 0x17fed7d) (h : Keeps m s t) :
    Keeps m s (run (execReleaseNotice h' idx first count t) t) :=
  .step (by
    simp only [execReleaseNotice, run]
    simp (maxDischargeDepth := 60)) hm h

@[simp] theorem execRepairReply_keeps {m : Nat} {s t : State} (hd : FlitHdr) (idx g answer tag : Nat) (hm : 0x17fed7d &&& m = 0x17fed7d) (h : Keeps m s t) :
    Keeps m s (run (execRepairReply hd idx g answer tag t) t) :=
  .step (by
    simp only [execRepairReply, run]
    refine takeMsg_keeps _ _ _ (by decide) (fun u => whenUp_keeps _ (fun v => ?_) (Keeps.refl _ u)) (Keeps.refl _ t)
    (repeat' first | (simp (maxDischargeDepth := 60); done) | split | (dsimp only; split) | (refine Keeps.foldl (fun u a => ?_) ?_) | dsimp only)) hm h

@[simp] theorem execShadowNotice_keeps {m : Nat} {s t : State} (h' : _) (idx : _) (g : _) (mseq : _) (hm : 0x17fed7d &&& m = 0x17fed7d) (h : Keeps m s t) :
    Keeps m s (run (execShadowNotice h' idx g mseq t) t) :=
  .step (by
    simp only [execShadowNotice, run]
    simp (maxDischargeDepth := 60)) hm h

@[simp] theorem execState_keeps {m : Nat} {s t : State} (hd : FlitHdr) (idx : Nat) (sideB tiebreakB : Bool) (cwyId mepoch mseqNext : Nat) (hm : 0x17fed7d &&& m = 0x17fed7d) (h : Keeps m s t) :
    Keeps m s (run (execState hd idx sideB tiebreakB cwyId mepoch mseqNext t) t) :=
  .step (by
    simp only [execState, run]
    refine takeMsg_keeps _ _ _ (by decide) (fun u => ?_) (Keeps.refl _ t)
    have k : ∀ x : Kor, Keeps 0x17fed7d u { u with kor := x } := fun x => by simp
    split
    · exact k _
    · exact exchangeCheck_keeps (m := 0x17fed7d) (by decide) (k _)) hm h

@[simp] theorem execMirror_keeps {m : Nat} {s t : State} (h' : _) (slots : _) (hm : 0x17fed7d &&& m = 0x17fed7d) (h : Keeps m s t) :
    Keeps m s (run (execMirror h' slots t) t) :=
  .step (by
    simp only [execMirror, run]
    simp (maxDischargeDepth := 60)) hm h

@[simp] theorem execSilenceTimeout_keeps {m : Nat} {s t : State} (hm : 0x17eed71 &&& m = 0x17eed71) (h : Keeps m s t) :
    Keeps m s (run (execSilenceTimeout t) t) :=
  .step (by
    simp only [execSilenceTimeout, run]
    repeat' first | (simp (maxDischargeDepth := 60); done) | split | (dsimp only; split) | (refine Keeps.foldl (fun u a => ?_) ?_) | dsimp only) hm h

@[simp] theorem execHeartbeatTimer_keeps {m : Nat} {s t : State} (hm : 0x208000 &&& m = 0x208000) (h : Keeps m s t) :
    Keeps m s (run (execHeartbeatTimer t) t) :=
  .step (by
    simp only [execHeartbeatTimer, run]
    simp (maxDischargeDepth := 60)) hm h

@[simp] theorem execLaneSwapAck_keeps {m : Nat} {s t : State} (hd : FlitHdr) (idx lane codeword : Nat) (hm : 0x17fed7d &&& m = 0x17fed7d) (h : Keeps m s t) :
    Keeps m s (run (execLaneSwapAck hd idx lane codeword t) t) :=
  .step (by
    simp only [execLaneSwapAck, run]
    refine takeMsg_keeps _ _ _ (by decide) (fun u => ?_) (Keeps.refl _ t)
    (repeat' first | (simp (maxDischargeDepth := 60); done) | split | (dsimp only; split) | (refine Keeps.foldl (fun u a => ?_) ?_) | dsimp only)) hm h

@[simp] theorem setConflict_keeps {m : Nat} {s t : State} (r : _) (on : _) (hm : 0x308020 &&& m = 0x308020) (h : Keeps m s t) :
    Keeps m s (setConflict r on t) :=
  .step (by
    unfold setConflict
    simp (maxDischargeDepth := 60)) hm h

@[simp] theorem execAdopted_keeps {m : Nat} {s t : State} (h' : _) (idx : _) (r : _) (hm : 0x17fed7d &&& m = 0x17fed7d) (h : Keeps m s t) :
    Keeps m s (run (execAdopted h' idx r t) t) :=
  .step (by
    simp only [execAdopted, run]
    simp (maxDischargeDepth := 60)) hm h

@[simp] theorem execLaneSwap_keeps {m : Nat} {s t : State} (h' : _) (idx : _) (cause : _) (lane : _) (codeword : _) (sent : _) (hm : 0x17fed7d &&& m = 0x17fed7d) (h : Keeps m s t) :
    Keeps m s (run (execLaneSwap h' idx cause lane codeword sent t) t) :=
  .step (by
    simp only [execLaneSwap, run]
    simp (maxDischargeDepth := 60)) hm h

@[simp] theorem execForceTakeover_keeps {m : Nat} {s t : State} (via : _) (confirm : _) (hm : 0x17fed7d &&& m = 0x17fed7d) (h : Keeps m s t) :
    Keeps m s (run (execForceTakeover via confirm t) t) :=
  .step (by
    simp only [execForceTakeover, run]
    simp (maxDischargeDepth := 60)) hm h

@[simp] theorem execPoisonLine_keeps {m : Nat} {s t : State} (h' : _) (idx : _) (line : _) (mseq : _) (hm : 0x17fed7d &&& m = 0x17fed7d) (h : Keeps m s t) :
    Keeps m s (run (execPoisonLine h' idx line mseq t) t) :=
  .step (by
    simp only [execPoisonLine, run]
    simp (maxDischargeDepth := 60)) hm h

@[simp] theorem execTrainingRetry_keeps {m : Nat} {s t : State} (hm : 0x8000 &&& m = 0x8000) (h : Keeps m s t) :
    Keeps m s (run (execTrainingRetry t) t) :=
  .step (by
    simp only [execTrainingRetry, run]
    simp (maxDischargeDepth := 60)) hm h

@[simp] theorem execKorricTrainingDone_keeps {m : Nat} {s t : State} (ok : Bool) (width : Nat) (hm : 0x208000 &&& m = 0x208000) (h : Keeps m s t) :
    Keeps m s (run (execKorricTrainingDone ok width t) t) :=
  .step (by
    simp only [execKorricTrainingDone, run]
    have k : ∀ x : Kor, Keeps 0x208000 t { t with kor := x } := fun x => by simp
    split
    · exact sendExchange_keeps (m := 0x208000) (by decide) (k _)
    · split
      · exact Keeps.refl _ t
      · split
        · exact k _
        · exact sendExchange_keeps (m := 0x208000) (by decide) (k _)) hm h

@[simp] theorem execDumpNotice_keeps {m : Nat} {s t : State} (h' : _) (idx : _) (kind : _) (seq : _) (hm : 0x17fed7d &&& m = 0x17fed7d) (h : Keeps m s t) :
    Keeps m s (run (execDumpNotice h' idx kind seq t) t) :=
  .step (by
    simp only [execDumpNotice, run]
    simp (maxDischargeDepth := 60)) hm h

@[simp] theorem execWitnessTimeout_keeps {m : Nat} {s t : State} (hm : 0x17fed7d &&& m = 0x17fed7d) (h : Keeps m s t) :
    Keeps m s (run (execWitnessTimeout t) t) :=
  .step (by
    simp only [execWitnessTimeout, run]
    simp (maxDischargeDepth := 60)) hm h

@[simp] theorem execOwnCopyDone_keeps {m : Nat} {s t : State} (h' : _) (idx : _) (r : _) (hm : 0x17fed7d &&& m = 0x17fed7d) (h : Keeps m s t) :
    Keeps m s (run (execOwnCopyDone h' idx r t) t) :=
  .step (by
    simp only [execOwnCopyDone, run]
    simp (maxDischargeDepth := 60)) hm h

@[simp] theorem execReturn_keeps {m : Nat} {s t : State} (h' : _) (idx : _) (r : _) (hm : 0x17fed7d &&& m = 0x17fed7d) (h : Keeps m s t) :
    Keeps m s (run (execReturn h' idx r t) t) :=
  .step (by
    simp only [execReturn, run]
    simp (maxDischargeDepth := 60)) hm h

@[simp] theorem countSymbols_keeps {m : Nat} {s t : State} (n : _) (hm : 0x8000 &&& m = 0x8000) (h : Keeps m s t) :
    Keeps m s (countSymbols n t) :=
  .step (by
    unfold countSymbols
    simp (maxDischargeDepth := 60)) hm h

@[simp] theorem execLaneFault_keeps {m : Nat} {s t : State} (lane : _) (lockLost : _) (symbols : _) (received : _) (hm : 0x208000 &&& m = 0x208000) (h : Keeps m s t) :
    Keeps m s (run (execLaneFault lane lockLost symbols received t) t) :=
  .step (by
    simp only [execLaneFault, run]
    simp (maxDischargeDepth := 60)) hm h

@[simp] theorem execWitnessA_keeps {m : Nat} {s t : State} (src dst hops tag target result : Nat) (good : Bool) (hm : 0x17fed7d &&& m = 0x17fed7d) (h : Keeps m s t) :
    Keeps m s (run (execWitnessA src dst hops tag target result good t) t) :=
  .step (by
    simp only [execWitnessA, run]
    refine frameArrive_keeps _ _ _ (by decide) (fun u => ?_) (Keeps.refl _ t)
    (repeat' first | (simp (maxDischargeDepth := 60); done) | split | (dsimp only; split) | (refine Keeps.foldl (fun u a => ?_) ?_) | dsimp only)) hm h

@[simp] theorem execOpenReply_keeps {m : Nat} {s t : State} (h' : _) (idx : _) (r : _) (answer : _) (hm : 0x1ffed7d &&& m = 0x1ffed7d) (h : Keeps m s t) :
    Keeps m s (run (execOpenReply h' idx r answer t) t) :=
  .step (by
    simp only [execOpenReply, run]
    simp (maxDischargeDepth := 60)) hm h

@[simp] theorem execPressureOffTimer_keeps {m : Nat} {s t : State} (hm : 0x208000 &&& m = 0x208000) (h : Keeps m s t) :
    Keeps m s (run (execPressureOffTimer t) t) :=
  .step (by
    simp only [execPressureOffTimer, run]
    simp (maxDischargeDepth := 60)) hm h

@[simp] theorem execShadowMap_keeps {m : Nat} {s t : State} (h' : _) (idx : _) (first : _) (bits : _) (hm : 0x17fed7d &&& m = 0x17fed7d) (h : Keeps m s t) :
    Keeps m s (run (execShadowMap h' idx first bits t) t) :=
  .step (by
    simp only [execShadowMap, run]
    simp (maxDischargeDepth := 60)) hm h

@[simp] theorem execTrainingTimeout_keeps {m : Nat} {s t : State} (hm : 0x17fed7d &&& m = 0x17fed7d) (h : Keeps m s t) :
    Keeps m s (run (execTrainingTimeout t) t) :=
  .step (by
    simp only [execTrainingTimeout, run]
    simp (maxDischargeDepth := 60)) hm h

@[simp] theorem execAdoptReply_keeps {m : Nat} {s t : State} (h' : _) (idx : _) (r : _) (answer : _) (hm : 0x17fed7d &&& m = 0x17fed7d) (h : Keeps m s t) :
    Keeps m s (run (execAdoptReply h' idx r answer t) t) :=
  .step (by
    simp only [execAdoptReply, run]
    simp (maxDischargeDepth := 60)) hm h

end Sys2Proof.Machine
end

