-- ==== Sys2Proof/Laws/KeepsStream.lean ====
section
/-!
SUPPORT. What every operation of these files keeps: Energy Flash PeatOps Trust ArrayOps EvrOps ResetOps. One lemma per operation: it changes only the parts of its mask,
leaves the queue alone, keeps the cache DRAM canonical, and loses no bit of the Bog-oak row.
-/

namespace Sys2Proof.Machine

set_option maxRecDepth 8000
set_option linter.unusedTactic false
set_option linter.unreachableTactic false

/-! ### Energy -/

@[simp] theorem gaugeWake_keeps {m : Nat} {s t : State} (hm : 0x100080 &&& m = 0x100080) (h : Keeps m s t) :
    Keeps m s (gaugeWake t) :=
  .step (by
    unfold gaugeWake
    simp (maxDischargeDepth := 60)) hm h

@[simp] theorem emptyAnchor_keeps {m : Nat} {s t : State} (hm : 0x500080 &&& m = 0x500080) (h : Keeps m s t) :
    Keeps m s (emptyAnchor t) :=
  .step (by
    unfold emptyAnchor
    simp (maxDischargeDepth := 60)) hm h

@[simp] theorem countCharge_keeps {m : Nat} {s t : State} (dq : _) (hm : 0x7041bc &&& m = 0x7041bc) (h : Keeps m s t) :
    Keeps m s (countCharge dq t) :=
  .step (by
    unfold countCharge
    simp (maxDischargeDepth := 60)) hm h

@[simp] theorem takeSample_keeps {m : Nat} {s t : State} (m' : _) (hm : 0x100080 &&& m = 0x100080) (h : Keeps m s t) :
    Keeps m s (takeSample m' t) :=
  .step (by
    unfold takeSample
    simp (maxDischargeDepth := 60)) hm h

@[simp] theorem execLearnAnchorTimeout_keeps {m : Nat} {s t : State} (hm : 0x7041bc &&& m = 0x7041bc) (h : Keeps m s t) :
    Keeps m s (run (execLearnAnchorTimeout t) t) :=
  .step (by
    simp only [execLearnAnchorTimeout, run]
    simp (maxDischargeDepth := 60)) hm h

@[simp] theorem cmbCells_keeps {m : Nat} {s t : State} (cells : _) (hm : 0x100080 &&& m = 0x100080) (h : Keeps m s t) :
    Keeps m s (cmbCells cells t) :=
  .step (by
    unfold cmbCells
    simp (maxDischargeDepth := 60)) hm h

@[simp] theorem execHibernateEnter_keeps {m : Nat} {s t : State} (hm : 0x100080 &&& m = 0x100080) (h : Keeps m s t) :
    Keeps m s (run (execHibernateEnter t) t) :=
  .step (by
    simp only [execHibernateEnter, run]
    simp (maxDischargeDepth := 60)) hm h

@[simp] theorem cmbMiss_keeps {m : Nat} {s t : State} (hm : 0x500080 &&& m = 0x500080) (h : Keeps m s t) :
    Keeps m s (cmbMiss t) :=
  .step (by
    unfold cmbMiss
    simp (maxDischargeDepth := 60)) hm h

@[simp] theorem execCmbPoll_keeps {m : Nat} {s t : State} (resp : _) (hm : 0x7001ac &&& m = 0x7001ac) (h : Keeps m s t) :
    Keeps m s (run (execCmbPoll resp t) t) :=
  .step (by
    simp only [execCmbPoll, run]
    simp (maxDischargeDepth := 60)) hm h

@[simp] theorem setParam_keeps {m : Nat} {s t : State} (id : _) (v : _) (hm : 0x80 &&& m = 0x80) (h : Keeps m s t) :
    Keeps m s (setParam id v t) :=
  .step (by
    unfold setParam
    simp (maxDischargeDepth := 60)) hm h

@[simp] theorem execParamWrite_keeps {m : Nat} {s t : State} (value : _) (hm : 0x5000a0 &&& m = 0x5000a0) (h : Keeps m s t) :
    Keeps m s (run (execParamWrite value t) t) :=
  .step (by
    simp only [execParamWrite, run]
    repeat' first | (simp (maxDischargeDepth := 60); done) | split | (dsimp only; split) | (refine Keeps.foldl (fun u a => ?_) ?_) | dsimp only) hm h

@[simp] theorem execLearnBudgetTimeout_keeps {m : Nat} {s t : State} (hm : 0x7041bc &&& m = 0x7041bc) (h : Keeps m s t) :
    Keeps m s (run (execLearnBudgetTimeout t) t) :=
  .step (by
    simp only [execLearnBudgetTimeout, run]
    simp (maxDischargeDepth := 60)) hm h

@[simp] theorem execLearningAutoStart_keeps {m : Nat} {s t : State} (hm : 0x1001ac &&& m = 0x1001ac) (h : Keeps m s t) :
    Keeps m s (run (execLearningAutoStart t) t) :=
  .step (by
    simp only [execLearningAutoStart, run]
    simp (maxDischargeDepth := 60)) hm h

@[simp] theorem execFullAnchor_keeps {m : Nat} {s t : State} (hm : 0x7001ac &&& m = 0x7001ac) (h : Keeps m s t) :
    Keeps m s (run (execFullAnchor t) t) :=
  .step (by
    simp only [execFullAnchor, run]
    simp (maxDischargeDepth := 60)) hm h

@[simp] theorem execLearnHoldupStart_keeps {m : Nat} {s t : State} (c : _) (hm : 0x30418c &&& m = 0x30418c) (h : Keeps m s t) :
    Keeps m s (run (execLearnHoldupStart c t) t) :=
  .step (by
    simp only [execLearnHoldupStart, run]
    simp (maxDischargeDepth := 60)) hm h

@[simp] theorem execLearnDurationExpiry_keeps {m : Nat} {s t : State} (hm : 0x7041bc &&& m = 0x7041bc) (h : Keeps m s t) :
    Keeps m s (run (execLearnDurationExpiry t) t) :=
  .step (by
    simp only [execLearnDurationExpiry, run]
    simp (maxDischargeDepth := 60)) hm h

@[simp] theorem learnSample_keeps {m : Nat} {s t : State} (dq : _) (hm : 0x7041bc &&& m = 0x7041bc) (h : Keeps m s t) :
    Keeps m s (learnSample dq t) :=
  .step (by
    unfold learnSample
    simp (maxDischargeDepth := 60)) hm h

@[simp] theorem execEnergyEstimate_keeps {m : Nat} {s t : State} (x : Sample) (step : Option CurrentStep) (hm : 0x7041bc &&& m = 0x7041bc) (h : Keeps m s t) :
    Keeps m s (run (execEnergyEstimate x step t) t) :=
  .step (by
    unfold execEnergyEstimate
    extract_lets dq n0 s1 s2 s3 s4 src s5 s6
    have k2 : Keeps 0x7041bc t s2 := by
      unfold s2 s1
      split <;> simp (maxDischargeDepth := 60)
    have k4 : Keeps 0x7041bc t s4 := countCharge_keeps _ (by decide) (refreshEstimates_keeps (by decide) k2)
    have k5 : Keeps 0x7041bc t s5 := by
      refine emptyAnchor_keeps (by decide) (refreshEstimates_keeps (by decide) ?_)
      clear_value s4
      refine k4.trans ?_
      simp
    clear_value s5
    rw [run_next]
    exact gaugeAfter_keeps _ (by decide) (sendInput_keeps (by decide) (refreshEstimates_keeps (by decide) (learnSample_keeps _ (by decide) k5)))) hm h

@[simp] theorem execOffsetZero_keeps {m : Nat} {s t : State} (hm : 0x80 &&& m = 0x80) (h : Keeps m s t) :
    Keeps m s (run (execOffsetZero t) t) :=
  .step (by
    simp only [execOffsetZero, run]
    simp (maxDischargeDepth := 60)) hm h

@[simp] theorem execReportUpdate_keeps {m : Nat} {s t : State} (hm : 0x200080 &&& m = 0x200080) (h : Keeps m s t) :
    Keeps m s (run (execReportUpdate t) t) :=
  .step (by
    simp only [execReportUpdate, run]
    simp (maxDischargeDepth := 60)) hm h

@[simp] theorem execLearnCtrlStart_keeps {m : Nat} {s t : State} (hm : 0x1001ac &&& m = 0x1001ac) (h : Keeps m s t) :
    Keeps m s (run (execLearnCtrlStart t) t) :=
  .step (by
    simp only [execLearnCtrlStart, run]
    simp (maxDischargeDepth := 60)) hm h

@[simp] theorem execLearnCtrlAbort_keeps {m : Nat} {s t : State} (hm : 0x7041bc &&& m = 0x7041bc) (h : Keeps m s t) :
    Keeps m s (run (execLearnCtrlAbort t) t) :=
  .step (by
    simp only [execLearnCtrlAbort, run]
    simp (maxDischargeDepth := 60)) hm h

@[simp] theorem execHibernateWake_keeps {m : Nat} {s t : State} (hm : 0x100080 &&& m = 0x100080) (h : Keeps m s t) :
    Keeps m s (run (execHibernateWake t) t) :=
  .step (by
    simp only [execHibernateWake, run]
    simp (maxDischargeDepth := 60)) hm h

/-! ### Flash -/

@[simp] theorem flashIgnored_keeps {m : Nat} {s t : State} (hm : 0x100008 &&& m = 0x100008) (h : Keeps m s t) :
    Keeps m s (flashIgnored t) :=
  .step (by
    unfold flashIgnored
    simp (maxDischargeDepth := 60)) hm h

@[simp] theorem flashRefuse_keeps {m : Nat} {s t : State} (b : _) (r : _) (off : _) (hm : 0x8 &&& m = 0x8) (h : Keeps m s t) :
    Keeps m s (flashRefuse b r off t) :=
  .step (by
    unfold flashRefuse
    simp (maxDischargeDepth := 60)) hm h

@[simp] theorem enterMode_keeps {m : Nat} {s t : State} (b : _) (m' : _) (hm : 0x8 &&& m = 0x8) (h : Keeps m s t) :
    Keeps m s (enterMode b m' t) :=
  .step (by
    unfold enterMode
    simp (maxDischargeDepth := 60)) hm h

@[simp] theorem seqBreak_keeps {m : Nat} {s t : State} (b : _) (hm : 0x100008 &&& m = 0x100008) (h : Keeps m s t) :
    Keeps m s (seqBreak b t) :=
  .step (by
    unfold seqBreak
    simp (maxDischargeDepth := 60)) hm h

@[simp] theorem startFirmwareOp_keeps {m : Nat} {s t : State} (b : _) (op : _) (off : _) (o : _) (hm : 0x8 &&& m = 0x8) (h : Keeps m s t) :
    Keeps m s (startFirmwareOp b op off o t) :=
  .step (by
    unfold startFirmwareOp
    simp (maxDischargeDepth := 60)) hm h

@[simp] theorem programBog_keeps {m : Nat} {s t : State} (off : _) (data : _) (hm : 0x8 &&& m = 0x8) (h : Keeps m s t) :
    Keeps m s (programBog off data t) :=
  .step (by
    unfold programBog
    repeat' first | (simp (maxDischargeDepth := 60); done) | split | (dsimp only; split) | (refine Keeps.foldl (fun u a => ?_) ?_) | dsimp only) hm h

@[simp] theorem programWord_keeps {m : Nat} {s t : State} (off : _) (data : _) (hm : 0x8 &&& m = 0x8) (h : Keeps m s t) :
    Keeps m s (programWord off data t) :=
  .step (by
    unfold programWord
    simp (maxDischargeDepth := 60)) hm h

@[simp] theorem execProgramWord_keeps {m : Nat} {s t : State} (path : _) (off : _) (data : _) (hm : 0x110009 &&& m = 0x110009) (h : Keeps m s t) :
    Keeps m s (run (execProgramWord path off data t) t) :=
  .step (by
    simp only [execProgramWord, run]
    simp (maxDischargeDepth := 60)) hm h

@[simp] theorem execReturnToRead_keeps {m : Nat} {s t : State} (path : _) (bank : _) (hm : 0x110009 &&& m = 0x110009) (h : Keeps m s t) :
    Keeps m s (run (execReturnToRead path bank t) t) :=
  .step (by
    simp only [execReturnToRead, run]
    simp (maxDischargeDepth := 60)) hm h

@[simp] theorem eraseSector_keeps {m : Nat} {s t : State} (off : _) (hm : 0x8 &&& m = 0x8) (h : Keeps m s t) :
    Keeps m s (eraseSector off t) :=
  .step (by
    unfold eraseSector
    simp (maxDischargeDepth := 60)) hm h

@[simp] theorem flashCycle_keeps {m : Nat} {s t : State} (path : _) (off : _) (width : _) (value : _) (hm : 0x100008 &&& m = 0x100008) (h : Keeps m s t) :
    Keeps m s (flashCycle path off width value t) :=
  .step (by
    unfold flashCycle
    simp (maxDischargeDepth := 60)) hm h

@[simp] theorem flashRead_keeps {m : Nat} {s t : State} (path : _) (off : _) (width : _) (bad : _) (hm : 0x700008 &&& m = 0x700008) (h : Keeps m s t) :
    Keeps m s (flashRead path off width bad t) :=
  .step (by
    unfold flashRead
    simp (maxDischargeDepth := 60)) hm h

@[simp] theorem execFlashWindowRead_keeps {m : Nat} {s t : State} (path : _) (off : _) (width : _) (bad : _) (hm : 0x710009 &&& m = 0x710009) (h : Keeps m s t) :
    Keeps m s (run (execFlashWindowRead path off width bad t) t) :=
  .step (by
    simp only [execFlashWindowRead, run]
    simp (maxDischargeDepth := 60)) hm h

@[simp] theorem execJournalAppend_keeps {m : Nat} {s t : State} (path : _) (type : _) (bank : _) (sector : _) (aux : _) (ok : _) (hm : 0x51000d &&& m = 0x51000d) (h : Keeps m s t) :
    Keeps m s (run (execJournalAppend path type bank sector aux ok t) t) :=
  .step (by
    simp only [execJournalAppend, run]
    simp (maxDischargeDepth := 60)) hm h

@[simp] theorem execEnterBogOakRow_keeps {m : Nat} {s t : State} (path : _) (bank : _) (hm : 0x110009 &&& m = 0x110009) (h : Keeps m s t) :
    Keeps m s (run (execEnterBogOakRow path bank t) t) :=
  .step (by
    simp only [execEnterBogOakRow, run]
    simp (maxDischargeDepth := 60)) hm h

@[simp] theorem execSequenceTimeout_keeps {m : Nat} {s t : State} (bank : _) (hm : 0x100008 &&& m = 0x100008) (h : Keeps m s t) :
    Keeps m s (run (execSequenceTimeout bank t) t) :=
  .step (by
    simp only [execSequenceTimeout, run]
    simp (maxDischargeDepth := 60)) hm h

@[simp] theorem execReadEraseCounter_keeps {m : Nat} {s t : State} (path : _) (bank : _) (hm : 0x110009 &&& m = 0x110009) (h : Keeps m s t) :
    Keeps m s (run (execReadEraseCounter path bank t) t) :=
  .step (by
    simp only [execReadEraseCounter, run]
    simp (maxDischargeDepth := 60)) hm h

@[simp] theorem execEraseSector_keeps {m : Nat} {s t : State} (path : _) (off : _) (hm : 0x110009 &&& m = 0x110009) (h : Keeps m s t) :
    Keeps m s (run (execEraseSector path off t) t) :=
  .step (by
    simp only [execEraseSector, run]
    simp (maxDischargeDepth := 60)) hm h

@[simp] theorem execStatusAndIdentity_keeps {m : Nat} {s t : State} (path : _) (bank : _) (hm : 0x110009 &&& m = 0x110009) (h : Keeps m s t) :
    Keeps m s (run (execStatusAndIdentity path bank t) t) :=
  .step (by
    simp only [execStatusAndIdentity, run]
    simp (maxDischargeDepth := 60)) hm h

/-! ### PeatOps -/

@[simp] theorem captureRead_keeps {m : Nat} {s t : State} (g : _) (bad : _) (hm : 0x38ec71 &&& m = 0x38ec71) (h : Keeps m s t) :
    Keeps m s (captureRead g bad t) :=
  .step (by
    unfold captureRead
    simp (maxDischargeDepth := 60)) hm h

@[simp] theorem stagePage_keeps {m : Nat} {s t : State} (g r : Nat) (mark : State → State) (w : Nat → Nat → State → ColWhat)
    (hm : 0x7e2800 &&& m = 0x7e2800) (hk : ∀ u, Keeps m u (mark u)) (h : Keeps m s t) :
    Keeps m s (stagePage g r mark w t) :=
  h.trans (by
    have e0 : Keeps 0x7e2800 t (stageTake (quadOf t g) t).2 := by simp
    unfold stagePage
    dsimp only
    split
    · rename_i t1 he
      rw [he] at e0
      exact e0.mono hm
    · rename_i buf t1 _ he
      rw [he] at e0
      have e1 : Keeps 0x7e2800 t (regionEncrypt r .service t1).2 := regionEncrypt_keeps _ _ (by decide) e0
      generalize regionEncrypt r .service t1 = x at e1 ⊢
      obtain ⟨res, s1⟩ := x
      dsimp only at e1 ⊢
      split
      · exact (stageGive_keeps _ (by decide) e1).mono hm
      · have x : Keeps 0x7e2800 t (if encrypted s1 r then cipSubmit ⟨.encrypt, .service, r, quadOf t g, g⟩ s1 else s1) := by
          split
          · exact cipSubmit_keeps _ (by decide) e1
          · exact e1
        generalize (if encrypted s1 r = true then _ else _) = u at x ⊢
        have y := (x.mono hm).trans (hk u)
        generalize mark u = v at y ⊢
        exact y.trans (Keeps.mono (m := 0x7e2800) (by simp (maxDischargeDepth := 60)) hm))

@[simp] theorem capture_keeps {m : Nat} {s t : State} (g : _) (hm : 0x7e2840 &&& m = 0x7e2840) (h : Keeps m s t) :
    Keeps m s (capture g t) :=
  .step (by
    unfold capture
    repeat' first | (simp (maxDischargeDepth := 60); done) | split | (dsimp only; split) | (refine Keeps.foldl (fun u a => ?_) ?_) | dsimp only) hm h

@[simp] theorem ownCopiesFollow_keeps {m : Nat} {s t : State} (hm : 0x208000 &&& m = 0x208000) (h : Keeps m s t) :
    Keeps m s (ownCopiesFollow t) :=
  .step (by
    unfold ownCopiesFollow
    simp (maxDischargeDepth := 60)) hm h

@[simp] theorem eraseStart_keeps {m : Nat} {s t : State} (n : _) (hm : 0x102800 &&& m = 0x102800) (h : Keeps m s t) :
    Keeps m s (eraseStart n t) :=
  .step (by
    unfold eraseStart
    repeat' first | (simp (maxDischargeDepth := 60); done) | split | (dsimp only; split) | (refine Keeps.foldl (fun u a => ?_) ?_) | dsimp only) hm h

@[simp] theorem eraseReady_keeps {m : Nat} {s t : State} (hm : 0x102800 &&& m = 0x102800) (h : Keeps m s t) :
    Keeps m s (eraseReady t) :=
  .step (by
    unfold eraseReady
    simp (maxDischargeDepth := 60)) hm h

@[simp] theorem twinProgramEnd_keeps {m : Nat} {s t : State} (p : _) (vpa : _) (ok : _) (hm : 0x3ea870 &&& m = 0x3ea870) (h : Keeps m s t) :
    Keeps m s (twinProgramEnd p vpa ok t) :=
  .step (by
    unfold twinProgramEnd
    simp (maxDischargeDepth := 60)) hm h

@[simp] theorem endRows_keeps {m : Nat} {s t : State} (hm : 0x2800 &&& m = 0x2800) (h : Keeps m s t) :
    Keeps m s (endRows t) :=
  .step (by
    unfold endRows
    simp (maxDischargeDepth := 60)) hm h

@[simp] theorem colPassed_keeps {m : Nat} {s t : State} (w : _) (vpa : _) (width : _) (hm : 0x3aa860 &&& m = 0x3aa860) (h : Keeps m s t) :
    Keeps m s (colPassed w vpa width t) :=
  .step (by
    unfold colPassed
    repeat' first | (simp (maxDischargeDepth := 60); done) | split | (dsimp only; split) | (refine Keeps.foldl (fun u a => ?_) ?_) | dsimp only) hm h

@[simp] theorem colFailed_keeps {m : Nat} {s t : State} (w : _) (hm : 0x1a2040 &&& m = 0x1a2040) (h : Keeps m s t) :
    Keeps m s (colFailed w t) :=
  .step (by
    unfold colFailed
    repeat' first | (simp (maxDischargeDepth := 60); done) | split | (dsimp only; split) | (refine Keeps.foldl (fun u a => ?_) ?_) | dsimp only) hm h

@[simp] theorem putRow_keeps {m : Nat} {s t : State} (old : _) (new : _) (hm : 0x2000 &&& m = 0x2000) (h : Keeps m s t) :
    Keeps m s (putRow old new t) :=
  .step (by
    unfold putRow
    simp (maxDischargeDepth := 60)) hm h

@[simp] theorem rowProgramEnd_keeps {m : Nat} {s t : State} (r : _) (vpa : _) (ok : _) (hm : 0x3ea860 &&& m = 0x3ea860) (h : Keeps m s t) :
    Keeps m s (rowProgramEnd r vpa ok t) :=
  .step (by
    unfold rowProgramEnd
    repeat' first | (simp (maxDischargeDepth := 60); done) | split | (dsimp only; split) | (refine Keeps.foldl (fun u a => ?_) ?_) | dsimp only) hm h

@[simp] theorem programEnd_keeps {m : Nat} {s t : State} (vpa : _) (ok : _) (mark : _) (hm : 0x3eb870 &&& m = 0x3eb870) (h : Keeps m s t) :
    Keeps m s (programEnd vpa ok mark t) :=
  .step (by
    unfold programEnd
    repeat' first | (simp (maxDischargeDepth := 60); done) | split | (dsimp only; split) | (refine Keeps.foldl (fun u a => ?_) ?_) | dsimp only) hm h

@[simp] theorem dieProgramsFail_keeps {m : Nat} {s t : State} (pages : _) (hm : 0x3eb870 &&& m = 0x3eb870) (h : Keeps m s t) :
    Keeps m s (dieProgramsFail pages t) :=
  .step (by
    unfold dieProgramsFail
    simp (maxDischargeDepth := 60)) hm h

@[simp] theorem ownershipCopy_keeps {m : Nat} {s t : State} (q : _) (hm : 0x7e2800 &&& m = 0x7e2800) (h : Keeps m s t) :
    Keeps m s (ownershipCopy q t) :=
  .step (by
    unfold ownershipCopy
    repeat' first | (simp (maxDischargeDepth := 60); done) | split | (dsimp only; split) | (refine Keeps.foldl (fun u a => ?_) ?_) | dsimp only) hm h

@[simp] theorem retireWorn_keeps {m : Nat} {s t : State} (v : _) (hm : 0x103801 &&& m = 0x103801) (h : Keeps m s t) :
    Keeps m s (retireWorn v t) :=
  .step (by
    unfold retireWorn
    simp (maxDischargeDepth := 60)) hm h

@[simp] theorem eraseDone_keeps {m : Nat} {s t : State} (n : _) (hm : 0x103801 &&& m = 0x103801) (h : Keeps m s t) :
    Keeps m s (eraseDone n t) :=
  .step (by
    unfold eraseDone
    simp (maxDischargeDepth := 60)) hm h

@[simp] theorem markWorn_keeps {m : Nat} {s t : State} (v : _) (cause : _) (hm : 0x100800 &&& m = 0x100800) (h : Keeps m s t) :
    Keeps m s (markWorn v cause t) :=
  .step (by
    unfold markWorn
    simp (maxDischargeDepth := 60)) hm h

@[simp] theorem relocatePage_keeps {m : Nat} {s t : State} (g : _) (hm : 0x7e2800 &&& m = 0x7e2800) (h : Keeps m s t) :
    Keeps m s (relocatePage g t) :=
  .step (by
    unfold relocatePage
    repeat' first | (simp (maxDischargeDepth := 60); done) | split | (dsimp only; split) | (refine Keeps.foldl (fun u a => ?_) ?_) | dsimp only) hm h

@[simp] theorem callSegment_keeps {m : Nat} {s t : State} (n : _) (hm : 0x800 &&& m = 0x800) (h : Keeps m s t) :
    Keeps m s (callSegment n t) :=
  .step (by
    unfold callSegment
    simp (maxDischargeDepth := 60)) hm h

@[simp] theorem collect_keeps {m : Nat} {s t : State} (n : _) (skip : _) (hm : 0x7e2800 &&& m = 0x7e2800) (h : Keeps m s t) :
    Keeps m s (collect n skip t) :=
  .step (by
    unfold collect
    simp (maxDischargeDepth := 60)) hm h

/-! ### Trust -/

@[simp] theorem romBegins_keeps {m : Nat} {s t : State} (hm : 0x200 &&& m = 0x200) (h : Keeps m s t) :
    Keeps m s (romBegins t) :=
  .step (by
    unfold romBegins
    simp (maxDischargeDepth := 60)) hm h

@[simp] theorem noteDigest_keeps {m : Nat} {s t : State} (i : _) (v : _) (hm : 0x200 &&& m = 0x200) (h : Keeps m s t) :
    Keeps m s (noteDigest i v t) :=
  .step (by
    unfold noteDigest
    simp (maxDischargeDepth := 60)) hm h

@[simp] theorem extendSignet_keeps {m : Nat} {s t : State} (i : _) (v : _) (hm : 0x200 &&& m = 0x200) (h : Keeps m s t) :
    Keeps m s (extendSignet i v t) :=
  .step (by
    unfold extendSignet
    simp (maxDischargeDepth := 60)) hm h

@[simp] theorem sealDevId_keeps {m : Nat} {s t : State} (certOk : _) (hm : 0x100200 &&& m = 0x100200) (h : Keeps m s t) :
    Keeps m s (sealDevId certOk t) :=
  .step (by
    unfold sealDevId
    simp (maxDischargeDepth := 60)) hm h

@[simp] theorem raiseThermo_keeps {m : Nat} {s t : State} (group count : Nat) (hm : 0x2000000 &&& m = 0x2000000) (h : Keeps m s t) :
    Keeps m s (raiseThermo group count t) :=
  .step (Keeps.foldl (fun u w => Keeps.bogRow _ u.ifc.bogLocks (by decide)
    ⟨fun v b hb => rowBits_or _ _ _ _ _ hb, fun _ hb => hb⟩ (Keeps.refl _ u)) (Keeps.refl _ t)) hm h

@[simp] theorem execAdvance_keeps {m : Nat} {s t : State} (path : _) (certOk : _) (hm : 0x110201 &&& m = 0x110201) (h : Keeps m s t) :
    Keeps m s (run (execAdvance path certOk t) t) :=
  .step (by
    simp only [execAdvance, run]
    simp (maxDischargeDepth := 60)) hm h

@[simp] theorem execExtend_keeps {m : Nat} {s t : State} (path : _) (reg : _) (hm : 0x110201 &&& m = 0x110201) (h : Keeps m s t) :
    Keeps m s (run (execExtend path reg t) t) :=
  .step (by
    simp only [execExtend, run]
    simp (maxDischargeDepth := 60)) hm h

@[simp] theorem commitThermo_keeps {m : Nat} {s t : State} (group : _) (count : _) (hm : 0x2100000 &&& m = 0x2100000) (h : Keeps m s t) :
    Keeps m s (commitThermo group count t) :=
  .step (by
    unfold commitThermo
    simp (maxDischargeDepth := 60)) hm h

@[simp] theorem execCommit_keeps {m : Nat} {s t : State} (path : _) (hm : 0x2110201 &&& m = 0x2110201) (h : Keeps m s t) :
    Keeps m s (run (execCommit path t) t) :=
  .step (by
    simp only [execCommit, run]
    simp (maxDischargeDepth := 60)) hm h

@[simp] theorem spdmRefuse_keeps {m : Nat} {s t : State} (t' : _) (code : _) (hm : 0x300200 &&& m = 0x300200) (h : Keeps m s t) :
    Keeps m s (spdmRefuse t' code t) :=
  .step (by
    unfold spdmRefuse
    simp (maxDischargeDepth := 60)) hm h

@[simp] theorem countSpdm_keeps {m : Nat} {s t : State} (t' : _) (hm : 0x200 &&& m = 0x200) (h : Keeps m s t) :
    Keeps m s (countSpdm t' t) :=
  .step (by
    unfold countSpdm
    repeat' first | (simp (maxDischargeDepth := 60); done) | split | (dsimp only; split) | (refine Keeps.foldl (fun u a => ?_) ?_) | dsimp only) hm h

@[simp] theorem spdmServe_keeps {m : Nat} {s t : State} (tr : Transport) (k : State → State) (hm : 0x300200 &&& m = 0x300200) (hk : ∀ u, Keeps m u (k u))
    (h : Keeps m s t) : Keeps m s (spdmServe tr k t) :=
  h.trans (by
    unfold spdmServe
    try dsimp only
    repeat' split
    all_goals first
      | (exact (show Keeps 0x300200 t _ by simp (maxDischargeDepth := 60)).mono hm)
      | (refine Keeps.trans (Keeps.mono (m := 0x300200) ?_ hm) (hk _); (repeat' first | (simp (maxDischargeDepth := 60); done) | split | (dsimp only; split) | (refine Keeps.foldl (fun u a => ?_) ?_) | dsimp only)))

@[simp] theorem setConn_keeps {m : Nat} {s t : State} (t' : _) (c : _) (hm : 0x200 &&& m = 0x200) (h : Keeps m s t) :
    Keeps m s (setConn t' c t) :=
  .step (by
    unfold setConn
    repeat' first | (simp (maxDischargeDepth := 60); done) | split | (dsimp only; split) | (refine Keeps.foldl (fun u a => ?_) ?_) | dsimp only) hm h

@[simp] theorem execNegotiateAlgorithms_keeps {m : Nat} {s t : State} (t' : _) (offersP384 : _) (offersSha384 : _) (hm : 0x300200 &&& m = 0x300200) (h : Keeps m s t) :
    Keeps m s (run (execNegotiateAlgorithms t' offersP384 offersSha384 t) t) :=
  .step (by
    simp only [execNegotiateAlgorithms, run]
    simp (maxDischargeDepth := 60)) hm h

@[simp] theorem execRespondIfReady_keeps {m : Nat} {s t : State} (t' : _) (hm : 0x700200 &&& m = 0x700200) (h : Keeps m s t) :
    Keeps m s (run (execRespondIfReady t' t) t) :=
  .step (by
    simp only [execRespondIfReady, run]
    simp (maxDischargeDepth := 60)) hm h

@[simp] theorem execGetVersion_keeps {m : Nat} {s t : State} (t' : _) (hm : 0x300200 &&& m = 0x300200) (h : Keeps m s t) :
    Keeps m s (run (execGetVersion t' t) t) :=
  .step (by
    simp only [execGetVersion, run]
    simp (maxDischargeDepth := 60)) hm h

@[simp] theorem signOnce_keeps {m : Nat} {s t : State} (hm : 0x200 &&& m = 0x200) (h : Keeps m s t) :
    Keeps m s (signOnce t) :=
  .step (by
    unfold signOnce
    simp (maxDischargeDepth := 60)) hm h

@[simp] theorem execGetMeasurements_keeps {m : Nat} {s t : State} (t' : _) (index : _) (nonce : _) (signed_ : _) (hm : 0x700200 &&& m = 0x700200) (h : Keeps m s t) :
    Keeps m s (run (execGetMeasurements t' index nonce signed_ t) t) :=
  .step (by
    simp only [execGetMeasurements, run]
    simp (maxDischargeDepth := 60)) hm h

@[simp] theorem execSpdmUnsupported_keeps {m : Nat} {s t : State} (t' : _) (hm : 0x300200 &&& m = 0x300200) (h : Keeps m s t) :
    Keeps m s (run (execSpdmUnsupported t' t) t) :=
  .step (by
    simp only [execSpdmUnsupported, run]
    simp (maxDischargeDepth := 60)) hm h

@[simp] theorem execGetCapabilities_keeps {m : Nat} {s t : State} (t' : _) (hm : 0x300200 &&& m = 0x300200) (h : Keeps m s t) :
    Keeps m s (run (execGetCapabilities t' t) t) :=
  .step (by
    simp only [execGetCapabilities, run]
    simp (maxDischargeDepth := 60)) hm h

@[simp] theorem execGetCertificate_keeps {m : Nat} {s t : State} (t' : _) (slot : _) (off : _) (len : _) (hm : 0x700200 &&& m = 0x700200) (h : Keeps m s t) :
    Keeps m s (run (execGetCertificate t' slot off len t) t) :=
  .step (by
    simp only [execGetCertificate, run]
    simp (maxDischargeDepth := 60)) hm h

@[simp] theorem execGetDigests_keeps {m : Nat} {s t : State} (t' : _) (hm : 0x700200 &&& m = 0x700200) (h : Keeps m s t) :
    Keeps m s (run (execGetDigests t' t) t) :=
  .step (by
    simp only [execGetDigests, run]
    simp (maxDischargeDepth := 60)) hm h

@[simp] theorem execDoeAbort_keeps {m : Nat} {s t : State} (hm : 0x200 &&& m = 0x200) (h : Keeps m s t) :
    Keeps m s (run (execDoeAbort t) t) :=
  .step (by
    simp only [execDoeAbort, run]
    simp (maxDischargeDepth := 60)) hm h

@[simp] theorem execChallenge_keeps {m : Nat} {s t : State} (t' : _) (slot : _) (nonce : _) (hm : 0x700200 &&& m = 0x700200) (h : Keeps m s t) :
    Keeps m s (run (execChallenge t' slot nonce t) t) :=
  .step (by
    simp only [execChallenge, run]
    simp (maxDischargeDepth := 60)) hm h

/-! ### ArrayOps -/

@[simp] theorem arrayFinish_keeps {m : Nat} {s t : State} (hm : 0x310010 &&& m = 0x310010) (h : Keeps m s t) :
    Keeps m s (arrayFinish t) :=
  .step (by
    unfold arrayFinish
    repeat' first | (simp (maxDischargeDepth := 60); done) | split | (dsimp only; split) | (refine Keeps.foldl (fun u a => ?_) ?_) | dsimp only) hm h

@[simp] theorem arrayAnswer_keeps {m : Nat} {s t : State} (m' : _) (sub : _) (status : _) (f : _) (hm : 0x310010 &&& m = 0x310010) (h : Keeps m s t) :
    Keeps m s (arrayAnswer m' sub status f t) :=
  .step (by
    unfold arrayAnswer
    repeat' first | (simp (maxDischargeDepth := 60); done) | split | (dsimp only; split) | (refine Keeps.foldl (fun u a => ?_) ?_) | dsimp only) hm h

@[simp] theorem answerHead_keeps {m : Nat} {s t : State} (head : _) (tag : _) (sub : _) (status : _) (f : _) (hm : 0x310010 &&& m = 0x310010) (h : Keeps m s t) :
    Keeps m s (answerHead head tag sub status f t) :=
  .step (by
    unfold answerHead
    simp (maxDischargeDepth := 60)) hm h

@[simp] theorem barrierReply_keeps {m : Nat} {s t : State} (status : _) (n : _) (hm : 0x310010 &&& m = 0x310010) (h : Keeps m s t) :
    Keeps m s (barrierReply status n t) :=
  .step (by
    unfold barrierReply
    repeat' first | (simp (maxDischargeDepth := 60); done) | split | (dsimp only; split) | (refine Keeps.foldl (fun u a => ?_) ?_) | dsimp only) hm h

/-! ### EvrOps -/

@[simp] theorem buildRecord_keeps {m : Nat} {s t : State} (r : _) (hm : 0x4 &&& m = 0x4) (h : Keeps m s t) :
    Keeps m s (buildRecord r t).2 :=
  .step (by
    unfold buildRecord
    simp (maxDischargeDepth := 60)) hm h

@[simp] theorem toAos_keeps {m : Nat} {s t : State} (r : _) (hm : 0x100 &&& m = 0x100) (h : Keeps m s t) :
    Keeps m s (toAos r t) :=
  .step (by
    unfold toAos
    simp (maxDischargeDepth := 60)) hm h

@[simp] theorem leaveSlot_keeps {m : Nat} {s t : State} (hm : 0x4 &&& m = 0x4) (h : Keeps m s t) :
    Keeps m s (leaveSlot t) :=
  .step (by
    unfold leaveSlot
    simp (maxDischargeDepth := 60)) hm h

@[simp] theorem requeue_keeps {m : Nat} {s t : State} (r : _) (hm : 0x104 &&& m = 0x104) (h : Keeps m s t) :
    Keeps m s (requeue r t) :=
  .step (by
    unfold requeue
    simp (maxDischargeDepth := 60)) hm h

@[simp] theorem evrYield_keeps {m : Nat} {s t : State} (hm : 0x10c &&& m = 0x10c) (h : Keeps m s t) :
    Keeps m s (evrYield t) :=
  .step (by
    unfold evrYield
    repeat' first | (simp (maxDischargeDepth := 60); done) | split | (dsimp only; split) | (refine Keeps.foldl (fun u a => ?_) ?_) | dsimp only) hm h

@[simp] theorem memOnlyAlert_keeps {m : Nat} {s t : State} (hm : 0x300014 &&& m = 0x300014) (h : Keeps m s t) :
    Keeps m s (memOnlyAlert t) :=
  .step (by
    unfold memOnlyAlert
    simp (maxDischargeDepth := 60)) hm h

@[simp] theorem evrStart_keeps {m : Nat} {s t : State} (hm : 0x300114 &&& m = 0x300114) (h : Keeps m s t) :
    Keeps m s (evrStart t) :=
  .step (by
    unfold evrStart
    simp (maxDischargeDepth := 60)) hm h

@[simp] theorem recordAlert_keeps {m : Nat} {s t : State} (bits : _) (r : _) (hm : 0x200014 &&& m = 0x200014) (h : Keeps m s t) :
    Keeps m s (recordAlert bits r t) :=
  .step (by
    unfold recordAlert
    repeat' first | (simp (maxDischargeDepth := 60); done) | split | (dsimp only; split) | (refine Keeps.foldl (fun u a => ?_) ?_) | dsimp only) hm h

@[simp] theorem dropEvents_keeps {m : Nat} {s t : State} (n : _) (hm : 0x104 &&& m = 0x104) (h : Keeps m s t) :
    Keeps m s (dropEvents n t) :=
  .step (by
    unfold dropEvents
    simp (maxDischargeDepth := 60)) hm h

@[simp] theorem closeFold_keeps {m : Nat} {s t : State} (f : _) (hm : 0x104 &&& m = 0x104) (h : Keeps m s t) :
    Keeps m s (closeFold f t) :=
  .step (by
    unfold closeFold
    repeat' first | (simp (maxDischargeDepth := 60); done) | split | (dsimp only; split) | (refine Keeps.foldl (fun u a => ?_) ?_) | dsimp only) hm h

@[simp] theorem openFold_keeps {m : Nat} {s t : State} (id : _) (hm : 0x104 &&& m = 0x104) (h : Keeps m s t) :
    Keeps m s (openFold id t) :=
  .step (by
    unfold openFold
    repeat' first | (simp (maxDischargeDepth := 60); done) | split | (dsimp only; split) | (refine Keeps.foldl (fun u a => ?_) ?_) | dsimp only) hm h

@[simp] theorem memWrite_keeps {m : Nat} {s t : State} (x0 : _) (hm : 0x200114 &&& m = 0x200114) (h : Keeps m s t) :
    Keeps m s (memWrite x0 t) :=
  .step (by clear h; induction x0 generalizing t  with
    | zero => simp [memWrite]
    | succ n ih =>
      have ih' : ∀ {s t}, Keeps 0x200114 s t → Keeps 0x200114 s (memWrite n t) := fun  k => k.trans (ih )
      unfold memWrite; (repeat' first | (simp (maxDischargeDepth := 60) [ih']; done) | split | (dsimp only; split) | (refine Keeps.foldl (fun u a => ?_) ?_) | dsimp only)) hm h

@[simp] theorem eraseRing_keeps {m : Nat} {s t : State} (k : _) (hm : 0xc &&& m = 0xc) (h : Keeps m s t) :
    Keeps m s (eraseRing k t) :=
  .step (by
    unfold eraseRing
    simp (maxDischargeDepth := 60)) hm h

@[simp] theorem evrKick_keeps {m : Nat} {s t : State} (hm : 0x20011c &&& m = 0x20011c) (h : Keeps m s t) :
    Keeps m s (evrKick t) :=
  .step (by
    unfold evrKick
    repeat' first | (simp (maxDischargeDepth := 60); done) | split | (dsimp only; split) | (refine Keeps.foldl (fun u a => ?_) ?_) | dsimp only) hm h

@[simp] theorem retireSector_keeps {m : Nat} {s t : State} (k : _) (cause : _) (hm : 0x300114 &&& m = 0x300114) (h : Keeps m s t) :
    Keeps m s (retireSector k cause t) :=
  .step (by
    unfold retireSector
    simp (maxDischargeDepth := 60)) hm h

@[simp] theorem sedgeWritten_keeps {m : Nat} {s t : State} (r : _) (ok : _) (hm : 0x30011c &&& m = 0x30011c) (h : Keeps m s t) :
    Keeps m s (sedgeWritten r ok t) :=
  .step (by
    unfold sedgeWritten
    simp (maxDischargeDepth := 60)) hm h

@[simp] theorem ringErased_keeps {m : Nat} {s t : State} (ok : _) (hm : 0x30011c &&& m = 0x30011c) (h : Keeps m s t) :
    Keeps m s (ringErased ok t) :=
  .step (by
    unfold ringErased
    repeat' first | (simp (maxDischargeDepth := 60); done) | split | (dsimp only; split) | (refine Keeps.foldl (fun u a => ?_) ?_) | dsimp only) hm h

@[simp] theorem takeEvent_keeps {m : Nat} {s t : State} (e : _) (hm : 0x20011c &&& m = 0x20011c) (h : Keeps m s t) :
    Keeps m s (takeEvent e t) :=
  .step (by
    unfold takeEvent
    repeat' first | (simp (maxDischargeDepth := 60); done) | split | (dsimp only; split) | (refine Keeps.foldl (fun u a => ?_) ?_) | dsimp only) hm h

/-! ### ResetOps -/

@[simp] theorem freshState_keeps {m : Nat} {s t : State} (hm : 0x3ffffff &&& m = 0x3ffffff) (h : Keeps m s t) : Keeps m s (freshState t) :=
  Keeps.step (m := m) (n := 0x3ffffff) (t := t) ⟨fun p hp => by cases p <;> simp [Part.bit] at hp, rfl, fun _ => by simp [MemoryCanonical, freshState, tableWf_nil],
    RowKept.of_eq rfl rfl⟩ hm h

@[simp] theorem deferNonces_keeps {m : Nat} {s t : State} (hm : 0x100108 &&& m = 0x100108) (h : Keeps m s t) :
    Keeps m s (deferNonces t) :=
  .step (by
    unfold deferNonces
    simp (maxDischargeDepth := 60)) hm h

@[simp] theorem cutFlash_keeps {m : Nat} {s t : State} (b : _) (hm : 0xc &&& m = 0xc) (h : Keeps m s t) :
    Keeps m s (cutFlash b t) :=
  .step (by
    unfold cutFlash
    repeat' first | (simp (maxDischargeDepth := 60); done) | split | (dsimp only; split) | (refine Keeps.foldl (fun u a => ?_) ?_) | dsimp only) hm h

@[simp] theorem coreLost_keeps {m : Nat} {s t : State} (hm : 0x3ffffff &&& m = 0x3ffffff) (h : Keeps m s t) :
    Keeps m s (coreLost t) :=
  .step (by
    unfold coreLost
    simp (maxDischargeDepth := 60)) hm h

@[simp] theorem powerDown_keeps {m : Nat} {s t : State} (hm : 0x3ffffff &&& m = 0x3ffffff) (h : Keeps m s t) :
    Keeps m s (powerDown t) :=
  .step (by
    unfold powerDown
    simp (maxDischargeDepth := 60)) hm h

@[simp] theorem powerOff_keeps {m : Nat} {s t : State} (hm : 0x3ffffff &&& m = 0x3ffffff) (h : Keeps m s t) :
    Keeps m s (powerOff t) :=
  .step (by
    unfold powerOff
    simp (maxDischargeDepth := 60)) hm h

@[simp] theorem domainsDown_keeps {m : Nat} {s t : State} (mask : _) (hm : 0x400 &&& m = 0x400) (h : Keeps m s t) :
    Keeps m s (domainsDown mask t) :=
  .step (by
    unfold domainsDown
    simp (maxDischargeDepth := 60)) hm h

@[simp] theorem noteReset_keeps {m : Nat} {s t : State} (kind : _) (hm : 0x100400 &&& m = 0x100400) (h : Keeps m s t) :
    Keeps m s (noteReset kind t) :=
  .step (by
    unfold noteReset
    simp (maxDischargeDepth := 60)) hm h

@[simp] theorem noteRtc_keeps {m : Nat} {s t : State} (hm : 0x100400 &&& m = 0x100400) (h : Keeps m s t) :
    Keeps m s (noteRtc t) :=
  .step (by
    unfold noteRtc
    simp (maxDischargeDepth := 60)) hm h

@[simp] theorem gaugeLoad_keeps {m : Nat} {s t : State} (hm : 0x100080 &&& m = 0x100080) (h : Keeps m s t) :
    Keeps m s (gaugeLoad t) :=
  .step (by
    unfold gaugeLoad
    repeat' first | (simp (maxDischargeDepth := 60); done) | split | (dsimp only; split) | (refine Keeps.foldl (fun u a => ?_) ?_) | dsimp only) hm h

@[simp] theorem coreStart_keeps {m : Nat} {s t : State} (hm : 0x100680 &&& m = 0x100680) (h : Keeps m s t) :
    Keeps m s (coreStart t) :=
  .step (by
    unfold coreStart
    simp (maxDischargeDepth := 60)) hm h

@[simp] theorem structLost_keeps {m : Nat} {s t : State} (hm : 0x3ffffff &&& m = 0x3ffffff) (h : Keeps m s t) :
    Keeps m s (structLost t) :=
  .step (by
    unfold structLost
    simp (maxDischargeDepth := 60)) hm h

@[simp] theorem domainsOn_keeps {m : Nat} {s t : State} (mask : _) (hm : 0x400 &&& m = 0x400) (h : Keeps m s t) :
    Keeps m s (domainsOn mask t) :=
  .step (by
    unfold domainsOn
    simp (maxDischargeDepth := 60)) hm h

end Sys2Proof.Machine
end

