-- ==== Sys2Proof/Laws/KeepsBoot.lean ====
section
/-!
SUPPORT. What every operation of these files keeps: DumpOps CmdOps FirmwareUpdate FlashDone HostLink RegWrite Tap. One lemma per operation: it changes only the parts of its mask,
leaves the queue alone, keeps the cache DRAM canonical, and loses no bit of the Bog-oak row.
-/

namespace Sys2Proof.Machine

set_option maxRecDepth 8000
set_option linter.unusedTactic false
set_option linter.unreachableTactic false

/-! ### DumpOps -/

@[simp] theorem entryLost_keeps {m : Nat} {s t : State} (q : _) (g : _) (hm : 0x4000 &&& m = 0x4000) (h : Keeps m s t) :
    Keeps m s (entryLost q g t) :=
  .step (by
    unfold entryLost
    simp (maxDischargeDepth := 60)) hm h

@[simp] theorem setAlarmLoss_keeps {m : Nat} {s t : State} (hm : 0x104000 &&& m = 0x104000) (h : Keeps m s t) :
    Keeps m s (setAlarmLoss t) :=
  .step (by
    unfold setAlarmLoss
    simp (maxDischargeDepth := 60)) hm h

@[simp] theorem setFloored_keeps {m : Nat} {s t : State} (hm : 0x104000 &&& m = 0x104000) (h : Keeps m s t) :
    Keeps m s (setFloored t) :=
  .step (by
    unfold setFloored
    simp (maxDischargeDepth := 60)) hm h

@[simp] theorem closeDumpRow_keeps {m : Nat} {s t : State} (hm : 0x4800 &&& m = 0x4800) (h : Keeps m s t) :
    Keeps m s (closeDumpRow t) :=
  .step (by
    unfold closeDumpRow
    repeat' first | (simp (maxDischargeDepth := 60); done) | split | (dsimp only; split) | (refine Keeps.foldl (fun u a => ?_) ?_) | dsimp only) hm h

@[simp] theorem setTruncated_keeps {m : Nat} {s t : State} (hm : 0x104000 &&& m = 0x104000) (h : Keeps m s t) :
    Keeps m s (setTruncated t) :=
  .step (by
    unfold setTruncated
    simp (maxDischargeDepth := 60)) hm h

@[simp] theorem tailReached_keeps {m : Nat} {s t : State} (hm : 0x104800 &&& m = 0x104800) (h : Keeps m s t) :
    Keeps m s (tailReached t) :=
  .step (by
    unfold tailReached
    simp (maxDischargeDepth := 60)) hm h

@[simp] theorem markReached_keeps {m : Nat} {s t : State} (r : _) (hm : 0x104000 &&& m = 0x104000) (h : Keeps m s t) :
    Keeps m s (markReached r t) :=
  .step (by
    unfold markReached
    simp (maxDischargeDepth := 60)) hm h

@[simp] theorem drawRow_keeps {m : Nat} {s t : State} (hm : 0x4800 &&& m = 0x4800) (h : Keeps m s t) :
    Keeps m s (drawRow t) :=
  .step (by
    unfold drawRow
    repeat' first | (simp (maxDischargeDepth := 60); done) | split | (dsimp only; split) | (refine Keeps.foldl (fun u a => ?_) ?_) | dsimp only) hm h

theorem placeDump_keeps {m : Nat} {s t u : State} (q v : Nat) (hu : placeDump q t = some (v, u)) (hm : 0x4800 &&& m = 0x4800)
    (h : Keeps m s t) : Keeps m s u :=
  .step (by
    unfold placeDump at hu
    have k : Keeps 0x4800 t (if (match t.dmp.row with
      | none => true
      | some r => decide (rowFree t r = [])) then drawRow (closeDumpRow t) else t) := by (repeat' first | (simp (maxDischargeDepth := 60); done) | split | (dsimp only; split) | (refine Keeps.foldl (fun u a => ?_) ?_) | dsimp only)
    dsimp only at hu
    generalize (if (match t.dmp.row with
      | none => true
      | some r => decide (rowFree t r = [])) then drawRow (closeDumpRow t) else t) = w at hu k
    repeat' split at hu
    all_goals first | (cases hu; done) | (cases hu; refine k.trans ?_; (repeat' first | (simp (maxDischargeDepth := 60); done) | split | (dsimp only; split) | (refine Keeps.foldl (fun u a => ?_) ?_) | dsimp only))) hm h

@[simp] theorem startedPage_keeps {m : Nat} {s t : State} (bytes : _) (hm : 0x4800 &&& m = 0x4800) (h : Keeps m s t) :
    Keeps m s (startedPage bytes t) :=
  .step (by
    unfold startedPage
    repeat' first | (simp (maxDischargeDepth := 60); done) | split | (dsimp only; split) | (refine Keeps.foldl (fun u a => ?_) ?_) | dsimp only) hm h

@[simp] theorem startData_keeps {m : Nat} {s t : State} (q g r : Nat) (hm : 0x3aec71 &&& m = 0x3aec71) (h : Keeps m s t) :
    Keeps m s (startData q g r t).2 :=
  .step (by
    have e : Keeps 0x3aec71 t (regionEncrypt r .save t).2 := by (repeat' first | (simp (maxDischargeDepth := 60); done) | split | (dsimp only; split) | (refine Keeps.foldl (fun u a => ?_) ?_) | dsimp only)
    unfold startData
    split
    · (repeat' first | (simp (maxDischargeDepth := 60); done) | split | (dsimp only; split) | (refine Keeps.foldl (fun u a => ?_) ?_) | dsimp only)
    · dsimp only
      generalize regionEncrypt r .save t = x at e ⊢
      obtain ⟨res, s1⟩ := x
      dsimp only at e ⊢
      split
      · refine e.trans ?_; (repeat' first | (simp (maxDischargeDepth := 60); done) | split | (dsimp only; split) | (refine Keeps.foldl (fun u a => ?_) ?_) | dsimp only)
      · split
        · (repeat' first | (simp (maxDischargeDepth := 60); done) | split | (dsimp only; split) | (refine Keeps.foldl (fun u a => ?_) ?_) | dsimp only)
        · rename_i hv
          refine (placeDump_keeps _ _ hv (by decide) (captureRead_keeps _ _ (by decide) e)).trans ?_
          (repeat' first | (simp (maxDischargeDepth := 60); done) | split | (dsimp only; split) | (refine Keeps.foldl (fun u a => ?_) ?_) | dsimp only)
      · refine e.trans ?_; (repeat' first | (simp (maxDischargeDepth := 60); done) | split | (dsimp only; split) | (refine Keeps.foldl (fun u a => ?_) ?_) | dsimp only)) hm h

theorem placeTwinDump_keeps {m : Nat} {s t u : State} (v : Nat × Nat) (hu : placeTwinDump t = some (v, u)) (hm : 0x800 &&& m = 0x800)
    (h : Keeps m s t) : Keeps m s u :=
  .step (by
    unfold placeTwinDump at hu
    repeat' split at hu
    all_goals first | (cases hu; done) | (cases hu; (repeat' first | (simp (maxDischargeDepth := 60); done) | split | (dsimp only; split) | (refine Keeps.foldl (fun u a => ?_) ?_) | dsimp only))) hm h

@[simp] theorem startStruct_keeps {m : Nat} {s t : State} (q : Nat) (p : DumpPage) (hm : 0x504800 &&& m = 0x504800) (h : Keeps m s t) :
    Keeps m s (startStruct q p t).2 :=
  .step (by
    unfold startStruct
    extract_lets bg tw
    have hb : ∀ l u, Keeps 0x504800 t u → Keeps 0x504800 t (bg l u) := fun l u k => modDumpQuad_keeps _ _ (by decide) k
    have ht : ∀ u, Keeps 0x504800 t u → Keeps 0x504800 t (tw u).2 := fun u k => by
      unfold tw
      split
      · exact setFloored_keeps (by decide) k
      · rename_i hv
        exact putOther_keeps _ _ (by decide) (hb _ _ (placeTwinDump_keeps _ hv (by decide) k))
    clear_value tw bg
    split
    · exact ht _ (Keeps.refl _ t)
    · exact ht _ (by simp)
    · exact ht _ (Keeps.refl _ t)
    · split
      · exact setFloored_keeps (by decide) (Keeps.refl _ t)
      · rename_i hv
        exact putOther_keeps _ _ (by decide) (startedPage_keeps _ (by decide) (hb _ _ (placeDump_keeps _ _ hv (by decide) (Keeps.refl _ t))))) hm h

@[simp] theorem nextPart_keeps {m : Nat} {s t : State} (q : _) (hm : 0x504800 &&& m = 0x504800) (h : Keeps m s t) :
    Keeps m s (nextPart q t).2 :=
  .step (by
    unfold nextPart
    repeat' first | (simp (maxDischargeDepth := 60); done) | split | (dsimp only; split) | (refine Keeps.foldl (fun u a => ?_) ?_) | dsimp only) hm h

@[simp] theorem quadStep_keeps {m : Nat} {s t : State} (q : _) (hm : 0x7aec71 &&& m = 0x7aec71) (h : Keeps m s t) :
    Keeps m s (quadStep q t).2 :=
  .step (by
    unfold quadStep
    repeat' first | (simp (maxDischargeDepth := 60); done) | split | (dsimp only; split) | (refine Keeps.foldl (fun u a => ?_) ?_) | dsimp only) hm h

@[simp] theorem dumpLoop_keeps {m : Nat} {s t : State} (n : Nat) (hm : 0x7aec71 &&& m = 0x7aec71) (h : Keeps m s t) : Keeps m s (dumpLoop n t) :=
  .step (by
    clear h
    induction n generalizing t with
    | zero => simp [dumpLoop]
    | succ n ih =>
      have k := Keeps.foldlSnd (m := 0x7aec71) (s := t) (l := quadList t) (a := (false, t)) (f := fun (a : Bool × State) q =>
        (a.1 || (quadStep q a.2).1, (quadStep q a.2).2)) (fun u q => by dsimp only; (repeat' first | (simp (maxDischargeDepth := 60); done) | split | (dsimp only; split) | (refine Keeps.foldl (fun u a => ?_) ?_) | dsimp only)) (Keeps.refl _ t)
      unfold dumpLoop
      dsimp only
      split
      · exact k.trans ih
      · exact k) hm h

@[simp] theorem closeDump_keeps {m : Nat} {s t : State} (hm : 0x404004 &&& m = 0x404004) (h : Keeps m s t) :
    Keeps m s (closeDump t).2 :=
  .step (by
    unfold closeDump
    simp (maxDischargeDepth := 60)) hm h

@[simp] theorem takeCalibration_keeps {m : Nat} {s t : State} (hm : 0x1001ac &&& m = 0x1001ac) (h : Keeps m s t) :
    Keeps m s (takeCalibration t) :=
  .step (by
    unfold takeCalibration
    simp (maxDischargeDepth := 60)) hm h

@[simp] theorem warmState_keeps {m : Nat} {s t : State} (d : _) (i : _) (e : _) (hm : 0x382860 &&& m = 0x382860) (h : Keeps m s t) :
    Keeps m s (warmState d i e t) :=
  .step (by
    unfold warmState
    repeat' first | (simp (maxDischargeDepth := 60); done) | split | (dsimp only; split) | (refine Keeps.foldl (fun u a => ?_) ?_) | dsimp only) hm h

@[simp] theorem warmQuad_keeps {m : Nat} {s t : State} (q : _) (hm : 0x382860 &&& m = 0x382860) (h : Keeps m s t) :
    Keeps m s (warmQuad t q) :=
  .step (by
    unfold warmQuad
    repeat' first | (simp (maxDischargeDepth := 60); done) | split | (dsimp only; split) | (refine Keeps.foldl (fun u a => ?_) ?_) | dsimp only) hm h

@[simp] theorem recordDump_keeps {m : Nat} {s t : State} (hm : 0x800 &&& m = 0x800) (h : Keeps m s t) :
    Keeps m s (recordDump t) :=
  .step (by
    unfold recordDump
    simp (maxDischargeDepth := 60)) hm h

@[simp] theorem tailBack_keeps {m : Nat} {s t : State} (hm : 0x4800 &&& m = 0x4800) (h : Keeps m s t) :
    Keeps m s (tailBack t) :=
  .step (by
    unfold tailBack
    simp (maxDischargeDepth := 60)) hm h

@[simp] theorem lineFollow_keeps {m : Nat} {s t : State} (hm : 0x110000 &&& m = 0x110000) (h : Keeps m s t) :
    Keeps m s (lineFollow t) :=
  .step (by
    unfold lineFollow
    simp (maxDischargeDepth := 60)) hm h

@[simp] theorem setInput_keeps {m : Nat} {s t : State} (i : _) (hm : 0x110080 &&& m = 0x110080) (h : Keeps m s t) :
    Keeps m s (setInput i t) :=
  .step (by
    unfold setInput
    simp (maxDischargeDepth := 60)) hm h

@[simp] theorem setPreflush_keeps {m : Nat} {s t : State} (hm : 0x106000 &&& m = 0x106000) (h : Keeps m s t) :
    Keeps m s (setPreflush t) :=
  .step (by
    unfold setPreflush
    simp (maxDischargeDepth := 60)) hm h

@[simp] theorem warnAccepted_keeps {m : Nat} {s t : State} (hm : 0x116188 &&& m = 0x116188) (h : Keeps m s t) :
    Keeps m s (warnAccepted t) :=
  .step (by
    unfold warnAccepted
    simp (maxDischargeDepth := 60)) hm h

@[simp] theorem actLatched_keeps {m : Nat} {s t : State} (hm : 0x116188 &&& m = 0x116188) (h : Keeps m s t) :
    Keeps m s (actLatched t) :=
  .step (by
    unfold actLatched
    simp (maxDischargeDepth := 60)) hm h

@[simp] theorem endDumpCmd_keeps {m : Nat} {s t : State} (parked : _) (hm : 0x300010 &&& m = 0x300010) (h : Keeps m s t) :
    Keeps m s (endDumpCmd parked t) :=
  .step (by
    unfold endDumpCmd
    repeat' first | (simp (maxDischargeDepth := 60); done) | split | (dsimp only; split) | (refine Keeps.foldl (fun u a => ?_) ?_) | dsimp only) hm h

@[simp] theorem dumpRelease_keeps {m : Nat} {s t : State} (hm : 0x53419c &&& m = 0x53419c) (h : Keeps m s t) :
    Keeps m s (dumpRelease t) :=
  .step (by
    unfold dumpRelease
    simp (maxDischargeDepth := 60)) hm h

@[simp] theorem emptyVault_keeps {m : Nat} {s t : State} (hm : 0x102c00 &&& m = 0x102c00) (h : Keeps m s t) :
    Keeps m s (emptyVault t) :=
  .step (by
    unfold emptyVault
    simp (maxDischargeDepth := 60)) hm h

@[simp] theorem enterParked_keeps {m : Nat} {s t : State} (hm : 0x3ffffff &&& m = 0x3ffffff) (h : Keeps m s t) :
    Keeps m s (enterParked t) :=
  .step (by
    unfold enterParked
    repeat' first | (simp (maxDischargeDepth := 60); done) | split | (dsimp only; split) | (refine Keeps.foldl (fun u a => ?_) ?_) | dsimp only) hm h

@[simp] theorem resumeRegion_keeps {m : Nat} {s t : State} (r : _) (hm : 0x308030 &&& m = 0x308030) (h : Keeps m s t) :
    Keeps m s (resumeRegion t r) :=
  .step (by
    unfold resumeRegion
    repeat' first | (simp (maxDischargeDepth := 60); done) | split | (dsimp only; split) | (refine Keeps.foldl (fun u a => ?_) ?_) | dsimp only) hm h

@[simp] theorem warmRestore_keeps {m : Nat} {s t : State} (hm : 0x1ffedfd &&& m = 0x1ffedfd) (h : Keeps m s t) :
    Keeps m s (warmRestore t) :=
  .step (by
    unfold warmRestore
    simp (maxDischargeDepth := 60)) hm h

@[simp] theorem dumpEnd_keeps {m : Nat} {s t : State} (hm : 0x3ffffff &&& m = 0x3ffffff) (h : Keeps m s t) :
    Keeps m s (dumpEnd t) :=
  .step (by
    unfold dumpEnd
    simp (maxDischargeDepth := 60)) hm h

@[simp] theorem dumpFinal_keeps {m : Nat} {s t : State} (hm : 0x3ffffff &&& m = 0x3ffffff) (h : Keeps m s t) :
    Keeps m s (dumpFinal t) :=
  .step (by
    unfold dumpFinal
    simp (maxDischargeDepth := 60)) hm h

@[simp] theorem dumpKick_keeps {m : Nat} {s t : State} (hm : 0x3ffffff &&& m = 0x3ffffff) (h : Keeps m s t) :
    Keeps m s (dumpKick t) :=
  .step (by
    unfold dumpKick
    simp (maxDischargeDepth := 60)) hm h

@[simp] theorem liveAbort_keeps {m : Nat} {s t : State} (cause : _) (hm : 0x308022 &&& m = 0x308022) (h : Keeps m s t) :
    Keeps m s (liveAbort cause t) :=
  .step (by
    unfold liveAbort
    simp (maxDischargeDepth := 60)) hm h

@[simp] theorem abortBg_keeps {m : Nat} {s t : State} (own : _) (hm : 0x314010 &&& m = 0x314010) (h : Keeps m s t) :
    Keeps m s (abortBg own t) :=
  .step (by
    unfold abortBg
    repeat' first | (simp (maxDischargeDepth := 60); done) | split | (dsimp only; split) | (refine Keeps.foldl (fun u a => ?_) ?_) | dsimp only) hm h

@[simp] theorem coastStale_keeps {m : Nat} {s t : State} (hm : 0x180040 &&& m = 0x180040) (h : Keeps m s t) :
    Keeps m s (coastStale t) :=
  .step (by
    unfold coastStale
    simp (maxDischargeDepth := 60)) hm h

@[simp] theorem dropRunning_keeps {m : Nat} {s t : State} (hm : 0x2000 &&& m = 0x2000) (h : Keeps m s t) :
    Keeps m s (dropRunning t) :=
  .step (by
    unfold dropRunning
    simp (maxDischargeDepth := 60)) hm h

@[simp] theorem forceAdmit_keeps {m : Nat} {s t : State} (w : _) (hm : 0x138e870 &&& m = 0x138e870) (h : Keeps m s t) :
    Keeps m s (forceAdmit w t) :=
  .step (by
    unfold forceAdmit
    simp (maxDischargeDepth := 60)) hm h

@[simp] theorem commitDump_keeps {m : Nat} {s t : State} (trigger : _) (own : _) (hm : 0x1ffedff &&& m = 0x1ffedff) (h : Keeps m s t) :
    Keeps m s (commitDump trigger own t) :=
  .step (by
    unfold commitDump
    simp (maxDischargeDepth := 60)) hm h

@[simp] theorem dumpRefuse_keeps {m : Nat} {s t : State} (via : _) (op : _) (cond : _) (hm : 0x300000 &&& m = 0x300000) (h : Keeps m s t) :
    Keeps m s (dumpRefuse via op cond t) :=
  .step (by
    unfold dumpRefuse
    simp (maxDischargeDepth := 60)) hm h

@[simp] theorem fixGates_keeps {m : Nat} {s t : State} (hm : 0x4000 &&& m = 0x4000) (h : Keeps m s t) :
    Keeps m s (fixGates t) :=
  .step (by
    unfold fixGates
    simp (maxDischargeDepth := 60)) hm h

@[simp] theorem quadDieLost_keeps {m : Nat} {s t : State} (c : _) (d : _) (q : _) (hm : 0x4800 &&& m = 0x4800) (h : Keeps m s t) :
    Keeps m s (quadDieLost c d q t).2 :=
  .step (by
    unfold quadDieLost
    simp (maxDischargeDepth := 60)) hm h

@[simp] theorem dumpDieLost_keeps {m : Nat} {s t : State} (c d : Nat) (hm : 0x104800 &&& m = 0x104800) (h : Keeps m s t) :
    Keeps m s (dumpDieLost c d t) :=
  .step (by
    unfold dumpDieLost
    split
    · exact Keeps.refl _ t
    · dsimp only
      refine raise_keeps _ _ _ (by decide) (Keeps.foldlSnd (fun u q => ?_) ?_) <;> dsimp only <;> (repeat' first | (simp (maxDischargeDepth := 60); done) | split | (dsimp only; split) | (refine Keeps.foldl (fun u a => ?_) ?_) | dsimp only)) hm h

/-! ### CmdOps -/

@[simp] theorem cmdEnd_keeps {m : Nat} {s t : State} (c : _) (hm : 0x1ffedff &&& m = 0x1ffedff) (h : Keeps m s t) :
    Keeps m s (cmdEnd c t) :=
  .step (by
    unfold cmdEnd
    simp (maxDischargeDepth := 60)) hm h

@[simp] theorem cmdCapture_keeps {m : Nat} {s t : State} (g : _) (hm : 0x7eec71 &&& m = 0x7eec71) (h : Keeps m s t) :
    Keeps m s (cmdCapture g t) :=
  .step (by
    unfold cmdCapture
    simp (maxDischargeDepth := 60)) hm h

@[simp] theorem cmdKick_keeps {m : Nat} {s t : State} (hm : 0x7eec71 &&& m = 0x7eec71) (h : Keeps m s t) :
    Keeps m s (cmdKick t) :=
  .step (by
    unfold cmdKick
    simp (maxDischargeDepth := 60)) hm h

@[simp] theorem cmdFollow_keeps {m : Nat} {s t : State} (before : _) (hm : 0x1ffedff &&& m = 0x1ffedff) (h : Keeps m s t) :
    Keeps m s (cmdFollow before t) :=
  .step (by
    unfold cmdFollow
    simp (maxDischargeDepth := 60)) hm h

@[simp] theorem cmdStart_keeps {m : Nat} {s t : State} (op : _) (p : _) (hm : 0x1ffedff &&& m = 0x1ffedff) (h : Keeps m s t) :
    Keeps m s (cmdStart op p t) :=
  .step (by
    unfold cmdStart
    simp (maxDischargeDepth := 60)) hm h

@[simp] theorem streamFollow_keeps {m : Nat} {s t : State} (before : _) (hm : 0x1ffedff &&& m = 0x1ffedff) (h : Keeps m s t) :
    Keeps m s (streamFollow before t) :=
  .step (by
    unfold streamFollow
    simp (maxDischargeDepth := 60)) hm h

/-! ### FirmwareUpdate -/

@[simp] theorem activateHeld_keeps {m : Nat} {s t : State} (hm : 0x100108 &&& m = 0x100108) (h : Keeps m s t) :
    Keeps m s (activateHeld t) :=
  .step (by
    unfold activateHeld
    simp (maxDischargeDepth := 60)) hm h

@[simp] theorem journalledErase_keeps {m : Nat} {s t : State} (g : _) (hm : 0x40000c &&& m = 0x40000c) (h : Keeps m s t) :
    Keeps m s (journalledErase g t) :=
  .step (by
    unfold journalledErase
    simp (maxDischargeDepth := 60)) hm h

@[simp] theorem packageEvent_keeps {m : Nat} {s t : State} (l : _) (hm : 0x100000 &&& m = 0x100000) (h : Keeps m s t) :
    Keeps m s (packageEvent l t) :=
  .step (by
    unfold packageEvent
    simp (maxDischargeDepth := 60)) hm h

@[simp] theorem writeComp_keeps {m : Nat} {s t : State} (slot : _) (c : _) (hm : 0x108 &&& m = 0x108) (h : Keeps m s t) :
    Keeps m s (writeComp slot t c) :=
  .step (by
    unfold writeComp
    simp (maxDischargeDepth := 60)) hm h

@[simp] theorem packageWritten_keeps {m : Nat} {s t : State} (slot : _) (l : _) (ok : _) (hm : 0x300118 &&& m = 0x300118) (h : Keeps m s t) :
    Keeps m s (packageWritten slot l ok t) :=
  .step (by
    unfold packageWritten
    simp (maxDischargeDepth := 60)) hm h

@[simp] theorem abortPackage_keeps {m : Nat} {s t : State} (hm : 0x10000c &&& m = 0x10000c) (h : Keeps m s t) :
    Keeps m s (abortPackage t) :=
  .step (by
    unfold abortPackage
    repeat' first | (simp (maxDischargeDepth := 60); done) | split | (dsimp only; split) | (refine Keeps.foldl (fun u a => ?_) ?_) | dsimp only) hm h

@[simp] theorem execActivateFw_keeps {m : Nat} {s t : State} (via : _) (online : _) (hm : 0x300108 &&& m = 0x300108) (h : Keeps m s t) :
    Keeps m s (run (execActivateFw via online t) t) :=
  .step (by
    simp only [execActivateFw, run]
    simp (maxDischargeDepth := 60)) hm h

@[simp] theorem eraseComp_keeps {m : Nat} {s t : State} (slot : _) (c : _) (hm : 0x40010c &&& m = 0x40010c) (h : Keeps m s t) :
    Keeps m s (eraseComp slot t c) :=
  .step (by
    unfold eraseComp
    simp (maxDischargeDepth := 60)) hm h

@[simp] theorem erasePackage_keeps {m : Nat} {s t : State} (slot : _) (l : _) (hm : 0x40010c &&& m = 0x40010c) (h : Keeps m s t) :
    Keeps m s (erasePackage slot l t) :=
  .step (by
    unfold erasePackage
    simp (maxDischargeDepth := 60)) hm h

@[simp] theorem transferPackage_keeps {m : Nat} {s t : State} (l : _) (hm : 0x50010c &&& m = 0x50010c) (h : Keeps m s t) :
    Keeps m s (transferPackage l t) :=
  .step (by
    unfold transferPackage
    simp (maxDischargeDepth := 60)) hm h

@[simp] theorem execTransferFw_keeps {m : Nat} {s t : State} (via : _) (slot : _) (l : _) (hm : 0x70011c &&& m = 0x70011c) (h : Keeps m s t) :
    Keeps m s (run (execTransferFw via slot l t) t) :=
  .step (by
    simp only [execTransferFw, run]
    simp (maxDischargeDepth := 60)) hm h

/-! ### FlashDone -/

@[simp] theorem bankFree_keeps {m : Nat} {s t : State} (b : _) (hm : 0x3ffffff &&& m = 0x3ffffff) (h : Keeps m s t) :
    Keeps m s (bankFree b t) :=
  .step (by
    unfold bankFree
    simp (maxDischargeDepth := 60)) hm h

@[simp] theorem gaugeWritten_keeps {m : Nat} {s t : State} (r : _) (ok : _) (hm : 0x10018c &&& m = 0x10018c) (h : Keeps m s t) :
    Keeps m s (gaugeWritten r ok t) :=
  .step (by
    unfold gaugeWritten
    simp (maxDischargeDepth := 60)) hm h

@[simp] theorem useNonceSlot_keeps {m : Nat} {s t : State} (hm : 0x8 &&& m = 0x8) (h : Keeps m s t) :
    Keeps m s (useNonceSlot t) :=
  .step (by
    unfold useNonceSlot
    simp (maxDischargeDepth := 60)) hm h

@[simp] theorem putNonce_keeps {m : Nat} {s t : State} (r : _) (hm : 0x8 &&& m = 0x8) (h : Keeps m s t) :
    Keeps m s (putNonce r t) :=
  .step (by
    unfold putNonce
    simp (maxDischargeDepth := 60)) hm h

@[simp] theorem nonceWritten_keeps {m : Nat} {s t : State} (r : _) (ok : _) (hm : 0x12000c &&& m = 0x12000c) (h : Keeps m s t) :
    Keeps m s (nonceWritten r ok t) :=
  .step (by
    unfold nonceWritten
    simp (maxDischargeDepth := 60)) hm h

@[simp] theorem snapWritten_keeps {m : Nat} {s t : State} (half : _) (r : _) (ok : _) (hm : 0x12000c &&& m = 0x12000c) (h : Keeps m s t) :
    Keeps m s (snapWritten half r ok t) :=
  .step (by
    unfold snapWritten
    repeat' first | (simp (maxDischargeDepth := 60); done) | split | (dsimp only; split) | (refine Keeps.foldl (fun u a => ?_) ?_) | dsimp only) hm h

@[simp] theorem jumpWritten_keeps {m : Nat} {s t : State} (ok : _) (hm : 0x212000c &&& m = 0x212000c) (h : Keeps m s t) :
    Keeps m s (jumpWritten ok t) :=
  .step (by
    unfold jumpWritten
    simp (maxDischargeDepth := 60)) hm h

@[simp] theorem pairWritten_keeps {m : Nat} {s t : State} (r : _) (ok : _) (hm : 0x17eed7d &&& m = 0x17eed7d) (h : Keeps m s t) :
    Keeps m s (pairWritten r ok t) :=
  .step (by
    unfold pairWritten
    repeat' first | (simp (maxDischargeDepth := 60); done) | split | (dsimp only; split) | (refine Keeps.foldl (fun u a => ?_) ?_) | dsimp only) hm h

@[simp] theorem appendDone_keeps {m : Nat} {s t : State} (hm : 0xc &&& m = 0xc) (h : Keeps m s t) :
    Keeps m s (appendDone t) :=
  .step (by
    unfold appendDone
    simp (maxDischargeDepth := 60)) hm h

@[simp] theorem halfErased_keeps {m : Nat} {s t : State} (g : _) (ok : _) (hm : 0x2000c &&& m = 0x2000c) (h : Keeps m s t) :
    Keeps m s (halfErased g ok t) :=
  .step (by
    unfold halfErased
    simp (maxDischargeDepth := 60)) hm h

@[simp] theorem agentErased_keeps {m : Nat} {s t : State} (a : _) (g : _) (ok : _) (hm : 0x32011c &&& m = 0x32011c) (h : Keeps m s t) :
    Keeps m s (agentErased a g ok t) :=
  .step (by
    unfold agentErased
    repeat' first | (simp (maxDischargeDepth := 60); done) | split | (dsimp only; split) | (refine Keeps.foldl (fun u a => ?_) ?_) | dsimp only) hm h

@[simp] theorem agentEnd_keeps {m : Nat} {s t : State} (o : _) (ok : _) (hm : 0x3ffffff &&& m = 0x3ffffff) (h : Keeps m s t) :
    Keeps m s (agentEnd o ok t) :=
  .step (by
    unfold agentEnd
    repeat' first | (simp (maxDischargeDepth := 60); done) | split | (dsimp only; split) | (refine Keeps.foldl (fun u a => ?_) ?_) | dsimp only) hm h

@[simp] theorem eraseEnded_keeps {m : Nat} {s t : State} (b : _) (g : _) (ok : _) (pulses : _) (hm : 0x10000c &&& m = 0x10000c) (h : Keeps m s t) :
    Keeps m s (eraseEnded b g ok pulses t) :=
  .step (by
    unfold eraseEnded
    simp (maxDischargeDepth := 60)) hm h

@[simp] theorem bankDone_keeps {m : Nat} {s t : State} (b : _) (r : _) (off : _) (hm : 0x8 &&& m = 0x8) (h : Keeps m s t) :
    Keeps m s (bankDone b r off t) :=
  .step (by
    unfold bankDone
    simp (maxDischargeDepth := 60)) hm h

@[simp] theorem agentWord_keeps {m : Nat} {s t : State} (o : _) (ok : _) (hm : 0x3ffffff &&& m = 0x3ffffff) (h : Keeps m s t) :
    Keeps m s (agentWord o ok t) :=
  .step (by
    unfold agentWord
    simp (maxDischargeDepth := 60)) hm h

@[simp] theorem wordEnded_keeps {m : Nat} {s t : State} (o : FlashOp) (ok : Bool) (hm : 0x2100008 &&& m = 0x2100008) (h : Keeps m s t) :
    Keeps m s (wordEnded o ok t) :=
  .step (by
    unfold wordEnded
    split
    · (repeat' first | (simp (maxDischargeDepth := 60); done) | split | (dsimp only; split) | (refine Keeps.foldl (fun u a => ?_) ?_) | dsimp only)
    · split
      · (repeat' first | (simp (maxDischargeDepth := 60); done) | split | (dsimp only; split) | (refine Keeps.foldl (fun u a => ?_) ?_) | dsimp only)
      · refine raise_keeps _ _ _ (by decide) (Keeps.bogRow _ t.ifc.bogLocks (by decide) ⟨?_, fun _ hb => hb⟩ (Keeps.refl _ t))
        intro v b hb
        dsimp only
        split
        · simp only [List.foldl_cons, List.foldl_nil]
          exact rowBits_or _ _ _ _ _ (rowBits_or _ _ _ _ _ (rowBits_or _ _ _ _ _ hb))
        · exact rowBits_or _ _ _ _ _ hb
    · split
      · refine raise_keeps _ _ _ (by decide) (Keeps.bogRow t.ifc.bog _ (by decide) ⟨fun _ _ hb => hb, ?_⟩ (Keeps.refl _ t))
        intro w hw
        simp [hw]
      · exact Keeps.refl _ t
    · exact Keeps.refl _ t) hm h

@[simp] theorem flashDone_keeps {m : Nat} {s t : State} (b : _) (o : _) (ok : _) (readBack : _) (pulses : _) (hm : 0x3ffffff &&& m = 0x3ffffff) (h : Keeps m s t) :
    Keeps m s (flashDone b o ok readBack pulses t) :=
  .step (by
    unfold flashDone
    repeat' first | (simp (maxDischargeDepth := 60); done) | split | (dsimp only; split) | (refine Keeps.foldl (fun u a => ?_) ?_) | dsimp only) hm h

@[simp] theorem execPendingWriteback_keeps {m : Nat} {s t : State} (hm : 0x32019c &&& m = 0x32019c) (h : Keeps m s t) :
    Keeps m s (run (execPendingWriteback t) t) :=
  .step (by
    simp only [execPendingWriteback, run]
    simp (maxDischargeDepth := 60)) hm h

@[simp] theorem execFlashOpComplete_keeps {m : Nat} {s t : State} (bank : _) (ok : _) (readBack : _) (pulses : _) (hm : 0x3ffffff &&& m = 0x3ffffff) (h : Keeps m s t) :
    Keeps m s (run (execFlashOpComplete bank ok readBack pulses t) t) :=
  .step (by
    simp only [execFlashOpComplete, run]
    repeat' first | (simp (maxDischargeDepth := 60); done) | split | (dsimp only; split) | (refine Keeps.foldl (fun u a => ?_) ?_) | dsimp only) hm h

@[simp] theorem abortWord_keeps {m : Nat} {s t : State} (w : _) (hm : 0x400008 &&& m = 0x400008) (h : Keeps m s t) :
    Keeps m s (abortWord w t) :=
  .step (by
    unfold abortWord
    simp (maxDischargeDepth := 60)) hm h

@[simp] theorem abortSector_keeps {m : Nat} {s t : State} (g : _) (hm : 0x40000c &&& m = 0x40000c) (h : Keeps m s t) :
    Keeps m s (abortSector g t) :=
  .step (by
    unfold abortSector
    simp (maxDischargeDepth := 60)) hm h

@[simp] theorem brownOut_keeps {m : Nat} {s t : State} (b : _) (hm : 0x3ffffff &&& m = 0x3ffffff) (h : Keeps m s t) :
    Keeps m s (brownOut b t) :=
  .step (by
    unfold brownOut
    repeat' first | (simp (maxDischargeDepth := 60); done) | split | (dsimp only; split) | (refine Keeps.foldl (fun u a => ?_) ?_) | dsimp only) hm h

@[simp] theorem execBrownOut_keeps {m : Nat} {s t : State} (hm : 0x3ffffff &&& m = 0x3ffffff) (h : Keeps m s t) :
    Keeps m s (run (execBrownOut t) t) :=
  .step (by
    simp only [execBrownOut, run]
    simp (maxDischargeDepth := 60)) hm h

/-! ### HostLink -/

@[simp] theorem execGpfPhase1_keeps {m : Nat} {s t : State} (hm : 0x200000 &&& m = 0x200000) (h : Keeps m s t) :
    Keeps m s (run (execGpfPhase1 t) t) :=
  .step (by
    simp only [execGpfPhase1, run]
    simp (maxDischargeDepth := 60)) hm h

@[simp] theorem decoderRefuse_keeps {m : Nat} {s t : State} (hm : 0x100010 &&& m = 0x100010) (h : Keeps m s t) :
    Keeps m s (decoderRefuse t) :=
  .step (by
    unfold decoderRefuse
    simp (maxDischargeDepth := 60)) hm h

@[simp] theorem execLinkUp_keeps {m : Nat} {s t : State} (speed : _) (width : _) (hm : 0x100010 &&& m = 0x100010) (h : Keeps m s t) :
    Keeps m s (run (execLinkUp speed width t) t) :=
  .step (by
    simp only [execLinkUp, run]
    simp (maxDischargeDepth := 60)) hm h

@[simp] theorem execEcrcError_keeps {m : Nat} {s t : State} (correctable : _) (hm : 0x300010 &&& m = 0x300010) (h : Keeps m s t) :
    Keeps m s (run (execEcrcError correctable t) t) :=
  .step (by
    simp only [execEcrcError, run]
    simp (maxDischargeDepth := 60)) hm h

@[simp] theorem linkDown_keeps {m : Nat} {s t : State} (hm : 0x10 &&& m = 0x10) (h : Keeps m s t) :
    Keeps m s (linkDown t) :=
  .step (by
    unfold linkDown
    simp (maxDischargeDepth := 60)) hm h

@[simp] theorem warmBoot_keeps {m : Nat} {s t : State} (hm : 0xa04233 &&& m = 0xa04233) (h : Keeps m s t) :
    Keeps m s (warmBoot t) :=
  .step (by
    unfold warmBoot
    simp (maxDischargeDepth := 60)) hm h

@[simp] theorem resetBg_keeps {m : Nat} {s t : State} (hm : 0x31e51c &&& m = 0x31e51c) (h : Keeps m s t) :
    Keeps m s (resetBg t) :=
  .step (by
    unfold resetBg
    repeat' first | (simp (maxDischargeDepth := 60); done) | split | (dsimp only; split) | (refine Keeps.foldl (fun u a => ?_) ?_) | dsimp only) hm h

@[simp] theorem putDecoder_keeps {m : Nat} {s t : State} (n : _) (d : _) (hm : 0x10 &&& m = 0x10) (h : Keeps m s t) :
    Keeps m s (putDecoder n d t) :=
  .step (by
    unfold putDecoder
    repeat' first | (simp (maxDischargeDepth := 60); done) | split | (dsimp only; split) | (refine Keeps.foldl (fun u a => ?_) ?_) | dsimp only) hm h

@[simp] theorem execHdmDecoderUncommit_keeps {m : Nat} {s t : State} (n : _) (hm : 0x100010 &&& m = 0x100010) (h : Keeps m s t) :
    Keeps m s (run (execHdmDecoderUncommit n t) t) :=
  .step (by
    simp only [execHdmDecoderUncommit, run]
    repeat' first | (simp (maxDischargeDepth := 60); done) | split | (dsimp only; split) | (refine Keeps.foldl (fun u a => ?_) ?_) | dsimp only) hm h

@[simp] theorem linkDrops_keeps {m : Nat} {s t : State} (hm : 0x10 &&& m = 0x10) (h : Keeps m s t) :
    Keeps m s (linkDrops t) :=
  .step (by
    unfold linkDrops
    simp (maxDischargeDepth := 60)) hm h

@[simp] theorem hostReset_keeps {m : Nat} {s t : State} (kind : _) (hm : 0x73e7bc &&& m = 0x73e7bc) (h : Keeps m s t) :
    Keeps m s (hostReset kind t) :=
  .step (by
    unfold hostReset
    simp (maxDischargeDepth := 60)) hm h

@[simp] theorem execFunctionReset_keeps {m : Nat} {s t : State} (hm : 0x17feffd &&& m = 0x17feffd) (h : Keeps m s t) :
    Keeps m s (run (execFunctionReset t) t) :=
  .step (by
    simp only [execFunctionReset, run]
    simp (maxDischargeDepth := 60)) hm h

@[simp] theorem execGpfPhase2_keeps {m : Nat} {s t : State} (hm : 0x200000 &&& m = 0x200000) (h : Keeps m s t) :
    Keeps m s (run (execGpfPhase2 t) t) :=
  .step (by
    simp only [execGpfPhase2, run]
    simp (maxDischargeDepth := 60)) hm h

@[simp] theorem execPerstNDeassert_keeps {m : Nat} {s t : State} (hm : 0x10 &&& m = 0x10) (h : Keeps m s t) :
    Keeps m s (run (execPerstNDeassert t) t) :=
  .step (by
    simp only [execPerstNDeassert, run]
    simp (maxDischargeDepth := 60)) hm h

@[simp] theorem uncommitAll_keeps {m : Nat} {s t : State} (hm : 0x10 &&& m = 0x10) (h : Keeps m s t) :
    Keeps m s (uncommitAll t) :=
  .step (by
    unfold uncommitAll
    simp (maxDischargeDepth := 60)) hm h

@[simp] theorem execPerstNAssert_keeps {m : Nat} {s t : State} (hm : 0x1ffefff &&& m = 0x1ffefff) (h : Keeps m s t) :
    Keeps m s (run (execPerstNAssert t) t) :=
  .step (by
    simp only [execPerstNAssert, run]
    simp (maxDischargeDepth := 60)) hm h

@[simp] theorem execHdmDecoderCommit_keeps {m : Nat} {s t : State} (n : _) (base : _) (size : _) (ways : _) (skip : _) (hm : 0x100010 &&& m = 0x100010) (h : Keeps m s t) :
    Keeps m s (run (execHdmDecoderCommit n base size ways skip t) t) :=
  .step (by
    simp only [execHdmDecoderCommit, run]
    repeat' first | (simp (maxDischargeDepth := 60); done) | split | (dsimp only; split) | (refine Keeps.foldl (fun u a => ?_) ?_) | dsimp only) hm h

@[simp] theorem execLinkDown_keeps {m : Nat} {s t : State} (hm : 0x17eed71 &&& m = 0x17eed71) (h : Keeps m s t) :
    Keeps m s (run (execLinkDown t) t) :=
  .step (by
    simp only [execLinkDown, run]
    simp (maxDischargeDepth := 60)) hm h

/-! ### RegWrite -/

@[simp] theorem storeFront_keeps {m : Nat} {s t : State} (w : _) (a : _) (hm : 0x13 &&& m = 0x13) (h : Keeps m s t) :
    Keeps m s (storeFront w a t) :=
  .step (by
    unfold storeFront
    repeat' first | (simp (maxDischargeDepth := 60); done) | split | (dsimp only; split) | (refine Keeps.foldl (fun u a => ?_) ?_) | dsimp only) hm h

@[simp] theorem storeWrite_keeps {m : Nat} {s t : State} (w : _) (a : _) (hm : 0x102020 &&& m = 0x102020) (h : Keeps m s t) :
    Keeps m s (storeWrite w a t) :=
  .step (by
    unfold storeWrite
    repeat' first | (simp (maxDischargeDepth := 60); done) | split | (dsimp only; split) | (refine Keeps.foldl (fun u a => ?_) ?_) | dsimp only) hm h

@[simp] theorem storeEnergy_keeps {m : Nat} {s t : State} (w : _) (a : _) (hm : 0x504080 &&& m = 0x504080) (h : Keeps m s t) :
    Keeps m s (storeEnergy w a t) :=
  .step (by
    unfold storeEnergy
    repeat' first | (simp (maxDischargeDepth := 60); done) | split | (dsimp only; split) | (refine Keeps.foldl (fun u a => ?_) ?_) | dsimp only) hm h

@[simp] theorem storeLinks_keeps {m : Nat} {s t : State} (w : _) (a : _) (hm : 0x118400 &&& m = 0x118400) (h : Keeps m s t) :
    Keeps m s (storeLinks w a t) :=
  .step (by
    unfold storeLinks
    repeat' first | (simp (maxDischargeDepth := 60); done) | split | (dsimp only; split) | (refine Keeps.foldl (fun u a => ?_) ?_) | dsimp only) hm h

@[simp] theorem storeUnits_keeps {m : Nat} {s t : State} (w : _) (a : _) (hm : 0x16020c &&& m = 0x16020c) (h : Keeps m s t) :
    Keeps m s (storeUnits w a t) :=
  .step (by
    unfold storeUnits
    repeat' first | (simp (maxDischargeDepth := 60); done) | split | (dsimp only; split) | (refine Keeps.foldl (fun u a => ?_) ?_) | dsimp only) hm h

@[simp] theorem storeQdc_keeps {m : Nat} {s t : State} (w : _) (q : _) (off : _) (hm : 0x80000 &&& m = 0x80000) (h : Keeps m s t) :
    Keeps m s (storeQdc w q off t) :=
  .step (by
    unfold storeQdc
    repeat' first | (simp (maxDischargeDepth := 60); done) | split | (dsimp only; split) | (refine Keeps.foldl (fun u a => ?_) ?_) | dsimp only) hm h

@[simp] theorem storeVch_keeps {m : Nat} {s t : State} (w : _) (c : _) (off : _) (hm : 0x1000 &&& m = 0x1000) (h : Keeps m s t) :
    Keeps m s (storeVch w c off t) :=
  .step (by
    unfold storeVch
    repeat' first | (simp (maxDischargeDepth := 60); done) | split | (dsimp only; split) | (refine Keeps.foldl (fun u a => ?_) ?_) | dsimp only) hm h

@[simp] theorem regStore_keeps {m : Nat} {s t : State} (w : _) (a : _) (hm : 0x5ff6bf &&& m = 0x5ff6bf) (h : Keeps m s t) :
    Keeps m s (regStore w a t) :=
  .step (by
    unfold regStore
    simp (maxDischargeDepth := 60)) hm h

@[simp] theorem clearSpine_keeps {m : Nat} {s t : State} (m' : _) (a : _) (hm : 0x7e6bd &&& m = 0x7e6bd) (h : Keeps m s t) :
    Keeps m s (clearSpine m' a t) :=
  .step (by
    unfold clearSpine
    repeat' first | (simp (maxDischargeDepth := 60); done) | split | (dsimp only; split) | (refine Keeps.foldl (fun u a => ?_) ?_) | dsimp only) hm h

@[simp] theorem clearQuad_keeps {m : Nat} {s t : State} (m' : _) (a : _) (hm : 0x81000 &&& m = 0x81000) (h : Keeps m s t) :
    Keeps m s (clearQuad m' a t) :=
  .step (by
    unfold clearQuad
    repeat' first | (simp (maxDischargeDepth := 60); done) | split | (dsimp only; split) | (refine Keeps.foldl (fun u a => ?_) ?_) | dsimp only) hm h

@[simp] theorem readClear_keeps {m : Nat} {s t : State} (p : _) (m' : _) (a : _) (hm : 0x1ff6bd &&& m = 0x1ff6bd) (h : Keeps m s t) :
    Keeps m s (readClear p m' a t) :=
  .step (by
    unfold readClear
    simp (maxDischargeDepth := 60)) hm h

@[simp] theorem regRead_keeps {m : Nat} {s t : State} (p : _) (addr : _) (width : _) (hm : 0x1ff6bd &&& m = 0x1ff6bd) (h : Keeps m s t) :
    Keeps m s (regRead p addr width t).2 :=
  .step (by
    unfold regRead
    repeat' first | (simp (maxDischargeDepth := 60); done) | split | (dsimp only; split) | (refine Keeps.foldl (fun u a => ?_) ?_) | dsimp only) hm h

/-! ### Tap -/

@[simp] theorem releaseTap_keeps {m : Nat} {s t : State} (hm : 0x400 &&& m = 0x400) (h : Keeps m s t) :
    Keeps m s (releaseTap t) :=
  .step (by
    unfold releaseTap
    simp (maxDischargeDepth := 60)) hm h

end Sys2Proof.Machine
end

