-- ==== Sys2Proof/Laws/KeepsHost.lean ====
section
/-!
SUPPORT. What every operation of these files keeps: BootOps Boot EventLog Mailbox Peat Restore. One lemma per operation: it changes only the parts of its mask,
leaves the queue alone, keeps the cache DRAM canonical, and loses no bit of the Bog-oak row.
-/

namespace Sys2Proof.Machine

set_option maxRecDepth 8000
set_option linter.unusedTactic false
set_option linter.unreachableTactic false

/-! ### BootOps -/

@[simp] theorem measure_keeps {m : Nat} {s t : State} (i : _) (v : _) (hm : 0x100200 &&& m = 0x100200) (h : Keeps m s t) :
    Keeps m s (measure i v t) :=
  .step (by
    unfold measure
    simp (maxDischargeDepth := 60)) hm h

@[simp] theorem bootEnds_keeps {m : Nat} {s t : State} (m' : _) (hm : 0x100212 &&& m = 0x100212) (h : Keeps m s t) :
    Keeps m s (bootEnds m' t) :=
  .step (by
    unfold bootEnds
    simp (maxDischargeDepth := 60)) hm h

@[simp] theorem warnPin_keeps {m : Nat} {s t : State} (hm : 0x400 &&& m = 0x400) (h : Keeps m s t) :
    Keeps m s (warnPin t) :=
  .step (by
    unfold warnPin
    simp (maxDischargeDepth := 60)) hm h

@[simp] theorem rolesOff_keeps {m : Nat} {s t : State} (hm : 0x100001 &&& m = 0x100001) (h : Keeps m s t) :
    Keeps m s (rolesOff t) :=
  .step (by
    unfold rolesOff
    simp (maxDischargeDepth := 60)) hm h

@[simp] theorem unapply_keeps {m : Nat} {s t : State} (hm : 0x7fbcb3 &&& m = 0x7fbcb3) (h : Keeps m s t) :
    Keeps m s (unapply t) :=
  .step (by
    unfold unapply
    simp (maxDischargeDepth := 60)) hm h

@[simp] theorem toRecovery_keeps {m : Nat} {s t : State} (event : _) (hm : 0xfffeb3 &&& m = 0xfffeb3) (h : Keeps m s t) :
    Keeps m s (toRecovery event t) :=
  .step (by
    unfold toRecovery
    simp (maxDischargeDepth := 60)) hm h

@[simp] theorem recoveryService_keeps {m : Nat} {s t : State} (hm : 0xfffeb3 &&& m = 0xfffeb3) (h : Keeps m s t) :
    Keeps m s (recoveryService t) :=
  .step (by
    unfold recoveryService
    simp (maxDischargeDepth := 60)) hm h

@[simp] theorem logStart_keeps {m : Nat} {s t : State} (hm : 0x300114 &&& m = 0x300114) (h : Keeps m s t) :
    Keeps m s (logStart t) :=
  .step (by
    unfold logStart
    simp (maxDischargeDepth := 60)) hm h

@[simp] theorem refuseSlot_keeps {m : Nat} {s t : State} (stage : _) (slot : _) (c : _) (hm : 0x100000 &&& m = 0x100000) (h : Keeps m s t) :
    Keeps m s (refuseSlot stage slot c t) :=
  .step (by
    unfold refuseSlot
    simp (maxDischargeDepth := 60)) hm h

@[simp] theorem romStage_keeps {m : Nat} {s t : State} (certOk : _) (hm : 0xffffb7 &&& m = 0xffffb7) (h : Keeps m s t) :
    Keeps m s (romStage certOk t) :=
  .step (by
    unfold romStage
    repeat' first | (simp (maxDischargeDepth := 60); done) | split | (dsimp only; split) | (refine Keeps.foldl (fun u a => ?_) ?_) | dsimp only) hm h

theorem chooseFirmware_keeps {m : Nat} {s t u : State} (hu : chooseFirmware t = some u)
    (hm : 0x100200 &&& m = 0x100200) (h : Keeps m s t) : Keeps m s u :=
  .step (by
    unfold chooseFirmware at hu
    dsimp only at hu
    split at hu
    · cases hu
    · cases hu
      simp (maxDischargeDepth := 60)) hm h

@[simp] theorem refuseImage_keeps {m : Nat} {s t : State} (slot : _) (cause : _) (index : _) (hm : 0xfffeb3 &&& m = 0xfffeb3) (h : Keeps m s t) :
    Keeps m s (refuseImage slot cause index t) :=
  .step (by
    unfold refuseImage
    simp (maxDischargeDepth := 60)) hm h

@[simp] theorem noteSlot_keeps {m : Nat} {s t : State} (slot : _) (c : _) (hm : 0x100000 &&& m = 0x100000) (h : Keeps m s t) :
    Keeps m s (noteSlot slot c t) :=
  .step (by
    unfold noteSlot
    simp (maxDischargeDepth := 60)) hm h

@[simp] theorem slotFails_keeps {m : Nat} {s t : State} (slot : _) (c : _) (hm : 0x100002 &&& m = 0x100002) (h : Keeps m s t) :
    Keeps m s (slotFails slot c t) :=
  .step (by
    unfold slotFails
    simp (maxDischargeDepth := 60)) hm h

@[simp] theorem startTraining_keeps {m : Nat} {s t : State} (hm : 0x1a050e &&& m = 0x1a050e) (h : Keeps m s t) :
    Keeps m s (startTraining t) :=
  .step (by
    unfold startTraining
    simp (maxDischargeDepth := 60)) hm h

@[simp] theorem bootClear_keeps {m : Nat} {s t : State} (hm : 0x1006870 &&& m = 0x1006870) (h : Keeps m s t) : Keeps m s (bootClear t) :=
  .step (by
    unfold bootClear
    apply Keeps.upd (t := State.mk t.spn t.img t.evr t.ifc t.hlk t.wrp (Gst.mk [] [] [] [] [] 0 [] [] [] []) t.nrg t.aos t.sig t.pwr t.vlt t.vch t.shd t.dmp t.kor
      t.cwy t.cip t.tsk t.qdc t.raised t.out t.free t.pending)
    case h => exact Keeps.gst (Gst.mk [] [] [] [] [] 0 [] [] [] []) (by decide) (by simp) (fun _ => by simp [Memory.wf, tableWf_nil]) (Keeps.refl _ t)
    all_goals simp) hm h

@[simp] theorem loadEntry_keeps {m : Nat} {s t : State} (e : _) (hm : 0x20000 &&& m = 0x20000) (h : Keeps m s t) :
    Keeps m s (loadEntry t e) :=
  .step (by
    unfold loadEntry
    simp (maxDischargeDepth := 60)) hm h

@[simp] theorem nonceLoad_keeps {m : Nat} {s t : State} (hm : 0x2000c &&& m = 0x2000c) (h : Keeps m s t) :
    Keeps m s (nonceLoad t) :=
  .step (by
    unfold nonceLoad
    repeat' first | (simp (maxDischargeDepth := 60); done) | split | (dsimp only; split) | (refine Keeps.foldl (fun u a => ?_) ?_) | dsimp only) hm h

@[simp] theorem applyFront_keeps {m : Nat} {s t : State} (img : _) (slot : _) (arb : _) (vlh : _) (hm : 0x1127e7f &&& m = 0x1127e7f) (h : Keeps m s t) :
    Keeps m s (applyFront img slot arb vlh t) :=
  .step (by
    unfold applyFront
    simp (maxDischargeDepth := 60)) hm h

@[simp] theorem loaderStage_keeps {m : Nat} {s t : State} (hm : 0x1ffffff &&& m = 0x1ffffff) (h : Keeps m s t) :
    Keeps m s (loaderStage t) :=
  .step (by
    unfold loaderStage
    extract_lets s1
    have k1 : Keeps 0x1ffffff t s1 := by unfold s1; simp (maxDischargeDepth := 60)
    clear_value s1
    refine k1.trans ?_
    split
    · simp (maxDischargeDepth := 60)
    · rename_i s2 hu
      refine (chooseFirmware_keeps hu (by decide) (Keeps.refl _ _)).trans ?_
      extract_lets a b force g0 s3 pick
      have k3 : Keeps 0x1ffffff s2 s3 := by unfold s3; simp (maxDischargeDepth := 60)
      clear_value s3 pick
      refine k3.trans ?_
      split
      · simp (maxDischargeDepth := 60)
      · extract_lets c
        split
        split
        · simp (maxDischargeDepth := 60)
        · exact startTraining_keeps (by decide) (applyFront_keeps _ _ _ _ (by decide)
            (Keeps.foldl (fun _ _ => raise_keeps _ _ _ (by decide) (Keeps.refl _ _)) (measure_keeps _ _ (by decide) (Keeps.refl _ _))))) hm h

@[simp] theorem cutDump_keeps {m : Nat} {s t : State} (hm : 0x800 &&& m = 0x800) (h : Keeps m s t) :
    Keeps m s (cutDump t) :=
  .step (by
    unfold cutDump
    simp (maxDischargeDepth := 60)) hm h

@[simp] theorem powerGone_keeps {m : Nat} {s t : State} (hm : 0x3ffffff &&& m = 0x3ffffff) (h : Keeps m s t) :
    Keeps m s (powerGone t) :=
  .step (by
    unfold powerGone
    simp (maxDischargeDepth := 60)) hm h

@[simp] theorem dropArea_keeps {m : Nat} {s t : State} (a : _) (hm : 0x104100 &&& m = 0x104100) (h : Keeps m s t) :
    Keeps m s (dropArea t a) :=
  .step (by
    unfold dropArea
    simp (maxDischargeDepth := 60)) hm h

@[simp] theorem checkAos_keeps {m : Nat} {s t : State} (headerOk : _) (badAreas : _) (hm : 0x104100 &&& m = 0x104100) (h : Keeps m s t) :
    Keeps m s (checkAos headerOk badAreas t) :=
  .step (by
    unfold checkAos
    simp (maxDischargeDepth := 60)) hm h

@[simp] theorem coldStart_keeps {m : Nat} {s t : State} (headerOk : _) (badAreas : _) (hm : 0x3ffffff &&& m = 0x3ffffff) (h : Keeps m s t) :
    Keeps m s (coldStart headerOk badAreas t) :=
  .step (by
    unfold coldStart
    simp (maxDischargeDepth := 60)) hm h

@[simp] theorem structReset_keeps {m : Nat} {s t : State} (hm : 0x3ffffff &&& m = 0x3ffffff) (h : Keeps m s t) :
    Keeps m s (structReset t) :=
  .step (by
    unfold structReset
    simp (maxDischargeDepth := 60)) hm h

/-! ### Boot -/

@[simp] theorem korBefore_keeps {m : Nat} {s t : State} (hm : 0x8000 &&& m = 0x8000) (h : Keeps m s t) :
    Keeps m s (korBefore t) :=
  .step (by
    unfold korBefore
    simp (maxDischargeDepth := 60)) hm h

@[simp] theorem withdraw_keeps {m : Nat} {s t : State} (event : _) (cause : _) (ty : _) (detail : _) (hm : 0xfffeb3 &&& m = 0xfffeb3) (h : Keeps m s t) :
    Keeps m s (withdraw event cause ty detail t) :=
  .step (by
    unfold withdraw
    simp (maxDischargeDepth := 60)) hm h

@[simp] theorem stepArray_keeps {m : Nat} {s t : State} (img : _) (hm : 0x210000 &&& m = 0x210000) (h : Keeps m s t) :
    Keeps m s (stepArray img t) :=
  .step (by
    unfold stepArray
    simp (maxDischargeDepth := 60)) hm h

@[simp] theorem stepPair_keeps {m : Nat} {s t : State} (img : _) (hm : 0x308020 &&& m = 0x308020) (h : Keeps m s t) :
    Keeps m s (stepPair img t) :=
  .step (by
    unfold stepPair
    repeat' first | (simp (maxDischargeDepth := 60); done) | split | (dsimp only; split) | (refine Keeps.foldl (fun u a => ?_) ?_) | dsimp only) hm h

@[simp] theorem stepEnergy_keeps {m : Nat} {s t : State} (img : _) (hm : 0x5000a0 &&& m = 0x5000a0) (h : Keeps m s t) :
    Keeps m s (stepEnergy img t) :=
  .step (by
    unfold stepEnergy
    repeat' first | (simp (maxDischargeDepth := 60); done) | split | (dsimp only; split) | (refine Keeps.foldl (fun u a => ?_) ?_) | dsimp only) hm h

@[simp] theorem stepsSeven_keeps {m : Nat} {s t : State} (hm : 0x75a0a2 &&& m = 0x75a0a2) (h : Keeps m s t) :
    Keeps m s (stepsSeven t) :=
  .step (by
    unfold stepsSeven
    simp (maxDischargeDepth := 60)) hm h

@[simp] theorem factoryBlock_keeps {m : Nat} {s t : State} (v : _) (hm : 0x1800 &&& m = 0x1800) (h : Keeps m s t) :
    Keeps m s (factoryBlock v t) :=
  .step (by
    unfold factoryBlock
    repeat' first | (simp (maxDischargeDepth := 60); done) | split | (dsimp only; split) | (refine Keeps.foldl (fun u a => ?_) ?_) | dsimp only) hm h

@[simp] theorem formatVault_keeps {m : Nat} {s t : State} (factory : _) (hm : 0x503802 &&& m = 0x503802) (h : Keeps m s t) :
    Keeps m s (formatVault factory t) :=
  .step (by
    unfold formatVault
    simp (maxDischargeDepth := 60)) hm h

@[simp] theorem compareVault_keeps {m : Nat} {s t : State} (readable : _) (factory : _) (hm : 0xfffeb3 &&& m = 0xfffeb3) (h : Keeps m s t) :
    Keeps m s (compareVault readable factory t) :=
  .step (by
    unfold compareVault
    simp (maxDischargeDepth := 60)) hm h

@[simp] theorem channelsUp_keeps {m : Nat} {s t : State} (hm : 0x101000 &&& m = 0x101000) (h : Keeps m s t) :
    Keeps m s (channelsUp t) :=
  .step (by
    unfold channelsUp
    simp (maxDischargeDepth := 60)) hm h

@[simp] theorem initFailures_keeps {m : Nat} {s t : State} (badDies : _) (badCh : _) (hm : 0x103801 &&& m = 0x103801) (h : Keeps m s t) :
    Keeps m s (initFailures badDies badCh t) :=
  .step (by
    unfold initFailures
    simp (maxDischargeDepth := 60)) hm h

@[simp] theorem manifestFailures_keeps {m : Nat} {s t : State} (hm : 0x1000 &&& m = 0x1000) (h : Keeps m s t) :
    Keeps m s (manifestFailures t) :=
  .step (by
    unfold manifestFailures
    repeat' first | (simp (maxDischargeDepth := 60); done) | split | (dsimp only; split) | (refine Keeps.foldl (fun u a => ?_) ?_) | dsimp only) hm h

@[simp] theorem execVaultInitDone_keeps {m : Nat} {s t : State} (badDies : _) (badCh : _) (factory : _) (readable : _) (fresh : _) (hm : 0xfffeb3 &&& m = 0xfffeb3) (h : Keeps m s t) :
    Keeps m s (run (execVaultInitDone badDies badCh factory readable fresh t) t) :=
  .step (by
    simp only [execVaultInitDone, run]
    simp (maxDischargeDepth := 60)) hm h

@[simp] theorem execRtcDegraded_keeps {m : Nat} {s t : State} (hm : 0x100400 &&& m = 0x100400) (h : Keeps m s t) :
    Keeps m s (run (execRtcDegraded t) t) :=
  .step (by
    simp only [execRtcDegraded, run]
    simp (maxDischargeDepth := 60)) hm h

@[simp] theorem execImageApply_keeps {m : Nat} {s t : State} (certOk : _) (hm : 0x1ffffff &&& m = 0x1ffffff) (h : Keeps m s t) :
    Keeps m s (run (execImageApply certOk t) t) :=
  .step (by
    simp only [execImageApply, run]
    simp (maxDischargeDepth := 60)) hm h

@[simp] theorem execStrapSample_keeps {m : Nat} {s t : State} (id : _) (headcap : _) (test : _) (hm : 0x10400 &&& m = 0x10400) (h : Keeps m s t) :
    Keeps m s (run (execStrapSample id headcap test t) t) :=
  .step (by
    simp only [execStrapSample, run]
    simp (maxDischargeDepth := 60)) hm h

@[simp] theorem presets_keeps {m : Nat} {s t : State} (hm : 0x5ff6bf &&& m = 0x5ff6bf) (h : Keeps m s t) :
    Keeps m s (presets t) :=
  .step (by
    unfold presets
    simp (maxDischargeDepth := 60)) hm h

@[simp] theorem regionStep_keeps {m : Nat} {s t : State} (hm : 0xfffebf &&& m = 0xfffebf) (h : Keeps m s t) :
    Keeps m s (regionStep t) :=
  .step (by
    unfold regionStep
    repeat' first | (simp (maxDischargeDepth := 60); done) | split | (dsimp only; split) | (refine Keeps.foldl (fun u a => ?_) ?_) | dsimp only) hm h

@[simp] theorem execArmEntryPassed_keeps {m : Nat} {s t : State} (hm : 0x3ffffff &&& m = 0x3ffffff) (h : Keeps m s t) :
    Keeps m s (run (execArmEntryPassed t) t) :=
  .step (by
    simp only [execArmEntryPassed, run]
    repeat' first | (simp (maxDischargeDepth := 60); done) | split | (dsimp only; split) | (refine Keeps.foldl (fun u a => ?_) ?_) | dsimp only) hm h

@[simp] theorem channelsTrained_keeps {m : Nat} {s t : State} (okMask : _) (hm : 0x38ec71 &&& m = 0x38ec71) (h : Keeps m s t) :
    Keeps m s (channelsTrained okMask t) :=
  .step (by
    unfold channelsTrained
    simp (maxDischargeDepth := 60)) hm h

@[simp] theorem execVddAonLost_keeps {m : Nat} {s t : State} (hm : 0x3ffffff &&& m = 0x3ffffff) (h : Keeps m s t) :
    Keeps m s (run (execVddAonLost t) t) :=
  .step (by
    simp only [execVddAonLost, run]
    simp (maxDischargeDepth := 60)) hm h

@[simp] theorem finishBoot_keeps {m : Nat} {s t : State} (m' : _) (cause : _) (hm : 0xb04233 &&& m = 0xb04233) (h : Keeps m s t) :
    Keeps m s (finishBoot m' cause t) :=
  .step (by
    unfold finishBoot
    simp (maxDischargeDepth := 60)) hm h

@[simp] theorem execCoreEnRetry_keeps {m : Nat} {s t : State} (hm : 0x400 &&& m = 0x400) (h : Keeps m s t) :
    Keeps m s (run (execCoreEnRetry t) t) :=
  .step (by
    simp only [execCoreEnRetry, run]
    simp (maxDischargeDepth := 60)) hm h

@[simp] theorem execCorePgTimeout_keeps {m : Nat} {s t : State} (hm : 0x100400 &&& m = 0x100400) (h : Keeps m s t) :
    Keeps m s (run (execCorePgTimeout t) t) :=
  .step (by
    simp only [execCorePgTimeout, run]
    simp (maxDischargeDepth := 60)) hm h

@[simp] theorem execDramTrainingDone_keeps {m : Nat} {s t : State} (okMask : Nat) (hm : 0x178fc73 &&& m = 0x178fc73) (h : Keeps m s t) :
    Keeps m s (run (execDramTrainingDone okMask t) t) :=
  .step (by
    simp only [execDramTrainingDone, run]
    have k : Keeps 0x178fc73 t (useFree { channelsTrained okMask t with
        gst := { (channelsTrained okMask t).gst with dram := [], poison := [], deliberate := [] }
        kor := { (channelsTrained okMask t).kor with mepoch := Config.random (channelsTrained okMask t).free % 2 ^ 32 }
        pwr := { (channelsTrained okMask t).pwr with vltEn := !(channelsTrained okMask t).pwr.vaultOff } }) := by
      have c : Keeps 0x178fc73 t (channelsTrained okMask t) := by simp
      generalize channelsTrained okMask t = u at c ⊢
      refine useFree_keeps (m := 0x178fc73) (by decide) ?_
      refine Keeps.trans (Keeps.gst (m := 0x178fc73) { u.gst with dram := [], poison := [], deliberate := [] } (by decide) (by simp)
        (fun _ => by simp [tableWf_nil]) c) ?_
      apply Keeps.upd (t := { u with gst := { u.gst with dram := [], poison := [], deliberate := [] } }) <;> simp
    dsimp only at k ⊢
    split
    · exact Keeps.refl _ t
    · generalize useFree _ = v at k ⊢
      refine k.trans ?_
      (repeat' first | (simp (maxDischargeDepth := 60); done) | split | (dsimp only; split) | (refine Keeps.foldl (fun u a => ?_) ?_) | dsimp only)) hm h

@[simp] theorem execInputReturn_keeps {m : Nat} {s t : State} (headerOk : _) (badAreas : _) (hm : 0x3ffffff &&& m = 0x3ffffff) (h : Keeps m s t) :
    Keeps m s (run (execInputReturn headerOk badAreas t) t) :=
  .step (by
    simp only [execInputReturn, run]
    simp (maxDischargeDepth := 60)) hm h

@[simp] theorem execCorePgRise_keeps {m : Nat} {s t : State} (hm : 0x3ffffff &&& m = 0x3ffffff) (h : Keeps m s t) :
    Keeps m s (run (execCorePgRise t) t) :=
  .step (by
    simp only [execCorePgRise, run]
    simp (maxDischargeDepth := 60)) hm h

@[simp] theorem execPowerOn_keeps {m : Nat} {s t : State} (hm : 0x3ffffff &&& m = 0x3ffffff) (h : Keeps m s t) :
    Keeps m s (run (execPowerOn t) t) :=
  .step (by
    simp only [execPowerOn, run]
    simp (maxDischargeDepth := 60)) hm h

@[simp] theorem execClockDegraded_keeps {m : Nat} {s t : State} (hm : 0x100001 &&& m = 0x100001) (h : Keeps m s t) :
    Keeps m s (run (execClockDegraded t) t) :=
  .step (by
    simp only [execClockDegraded, run]
    simp (maxDischargeDepth := 60)) hm h

/-! ### EventLog -/

@[simp] theorem execEventReport_keeps {m : Nat} {s t : State} (hm : 0x30011c &&& m = 0x30011c) (h : Keeps m s t) :
    Keeps m s (run (execEventReport t) t) :=
  .step (by
    simp only [execEventReport, run]
    repeat' first | (simp (maxDischargeDepth := 60); done) | split | (dsimp only; split) | (refine Keeps.foldl (fun u a => ?_) ?_) | dsimp only) hm h

@[simp] theorem modCursor_keeps {m : Nat} {s t : State} (p : _) (f : _) (hm : 0x4 &&& m = 0x4) (h : Keeps m s t) :
    Keeps m s (modCursor p f t) :=
  .step (by
    unfold modCursor
    repeat' first | (simp (maxDischargeDepth := 60); done) | split | (dsimp only; split) | (refine Keeps.foldl (fun u a => ?_) ?_) | dsimp only) hm h

@[simp] theorem execCursorLoad_keeps {m : Nat} {s t : State} (path : _) (seq : _) (hm : 0x10005 &&& m = 0x10005) (h : Keeps m s t) :
    Keeps m s (run (execCursorLoad path seq t) t) :=
  .step (by
    simp only [execCursorLoad, run]
    simp (maxDischargeDepth := 60)) hm h

@[simp] theorem execCounterCheckpoint_keeps {m : Nat} {s t : State} (hm : 0x100000 &&& m = 0x100000) (h : Keeps m s t) :
    Keeps m s (run (execCounterCheckpoint t) t) :=
  .step (by
    simp only [execCounterCheckpoint, run]
    simp (maxDischargeDepth := 60)) hm h

@[simp] theorem execCursorNext_keeps {m : Nat} {s t : State} (path : _) (hm : 0x10005 &&& m = 0x10005) (h : Keeps m s t) :
    Keeps m s (run (execCursorNext path t) t) :=
  .step (by
    simp only [execCursorNext, run]
    simp (maxDischargeDepth := 60)) hm h

@[simp] theorem execOpSecTick_keeps {m : Nat} {s t : State} (hm : 0x104 &&& m = 0x104) (h : Keeps m s t) :
    Keeps m s (run (execOpSecTick t) t) :=
  .step (by
    simp only [execOpSecTick, run]
    simp (maxDischargeDepth := 60)) hm h

@[simp] theorem execCursorLoadDone_keeps {m : Nat} {s t : State} (path : _) (hm : 0x4 &&& m = 0x4) (h : Keeps m s t) :
    Keeps m s (run (execCursorLoadDone path t) t) :=
  .step (by
    simp only [execCursorLoadDone, run]
    simp (maxDischargeDepth := 60)) hm h

@[simp] theorem execFoldExpiry_keeps {m : Nat} {s t : State} (id : _) (hm : 0x20011c &&& m = 0x20011c) (h : Keeps m s t) :
    Keeps m s (run (execFoldExpiry id t) t) :=
  .step (by
    simp only [execFoldExpiry, run]
    repeat' first | (simp (maxDischargeDepth := 60); done) | split | (dsimp only; split) | (refine Keeps.foldl (fun u a => ?_) ?_) | dsimp only) hm h

/-! ### Mailbox -/

@[simp] theorem answer_keeps {m : Nat} {s t : State} (via : _) (op : _) (inDump : _) (f : _) (hm : 0x200000 &&& m = 0x200000) (h : Keeps m s t) :
    Keeps m s (answer via op inDump f t) :=
  .step (by
    unfold answer
    simp (maxDischargeDepth := 60)) hm h

@[simp] theorem execIdentifyMemoryDevice_keeps {m : Nat} {s t : State} (via : _) (hm : 0x200000 &&& m = 0x200000) (h : Keeps m s t) :
    Keeps m s (run (execIdentifyMemoryDevice via t) t) :=
  .step (by
    simp only [execIdentifyMemoryDevice, run]
    simp (maxDischargeDepth := 60)) hm h

@[simp] theorem setHostLog_keeps {m : Nat} {s t : State} (i : _) (l : _) (hm : 0x10 &&& m = 0x10) (h : Keeps m s t) :
    Keeps m s (setHostLog i l t) :=
  .step (by
    unfold setHostLog
    repeat' first | (simp (maxDischargeDepth := 60); done) | split | (dsimp only; split) | (refine Keeps.foldl (fun u a => ?_) ?_) | dsimp only) hm h

@[simp] theorem execClearEventRecords_keeps {m : Nat} {s t : State} (via : _) (log : _) (count : _) (all : _) (hm : 0x200010 &&& m = 0x200010) (h : Keeps m s t) :
    Keeps m s (run (execClearEventRecords via log count all t) t) :=
  .step (by
    simp only [execClearEventRecords, run]
    simp (maxDischargeDepth := 60)) hm h

@[simp] theorem execSetAlertConfiguration_keeps {m : Nat} {s t : State} (via : _) (life : _) (hot : _) (cold : _) (corrected : _) (hm : 0x200010 &&& m = 0x200010) (h : Keeps m s t) :
    Keeps m s (run (execSetAlertConfiguration via life hot cold corrected t) t) :=
  .step (by
    simp only [execSetAlertConfiguration, run]
    simp (maxDischargeDepth := 60)) hm h

@[simp] theorem execSetEventInterruptPolicy_keeps {m : Nat} {s t : State} (via : _) (info : _) (warn : _) (fail : _) (fatal : _) (hm : 0x200010 &&& m = 0x200010) (h : Keeps m s t) :
    Keeps m s (run (execSetEventInterruptPolicy via info warn fail fatal t) t) :=
  .step (by
    simp only [execSetEventInterruptPolicy, run]
    simp (maxDischargeDepth := 60)) hm h

@[simp] theorem execVaultInfo_keeps {m : Nat} {s t : State} (via : _) (hm : 0x300000 &&& m = 0x300000) (h : Keeps m s t) :
    Keeps m s (run (execVaultInfo via t) t) :=
  .step (by
    simp only [execVaultInfo, run]
    simp (maxDischargeDepth := 60)) hm h

@[simp] theorem execGetHealthInfo_keeps {m : Nat} {s t : State} (via : _) (temp : _) (hm : 0x600000 &&& m = 0x600000) (h : Keeps m s t) :
    Keeps m s (run (execGetHealthInfo via temp t) t) :=
  .step (by
    simp only [execGetHealthInfo, run]
    simp (maxDischargeDepth := 60)) hm h

@[simp] theorem execDoeDiscovery_keeps {m : Nat} {s t : State} (index : _) (hm : 0x200000 &&& m = 0x200000) (h : Keeps m s t) :
    Keeps m s (run (execDoeDiscovery index t) t) :=
  .step (by
    simp only [execDoeDiscovery, run]
    repeat' first | (simp (maxDischargeDepth := 60); done) | split | (dsimp only; split) | (refine Keeps.foldl (fun u a => ?_) ?_) | dsimp only) hm h

@[simp] theorem execSetShutdownState_keeps {m : Nat} {s t : State} (via : _) (v : _) (hm : 0x200100 &&& m = 0x200100) (h : Keeps m s t) :
    Keeps m s (run (execSetShutdownState via v t) t) :=
  .step (by
    simp only [execSetShutdownState, run]
    simp (maxDischargeDepth := 60)) hm h

@[simp] theorem execUnsupportedOpcode_keeps {m : Nat} {s t : State} (via : _) (op : _) (hm : 0x200000 &&& m = 0x200000) (h : Keeps m s t) :
    Keeps m s (run (execUnsupportedOpcode via op t) t) :=
  .step (by
    simp only [execUnsupportedOpcode, run]
    simp (maxDischargeDepth := 60)) hm h

@[simp] theorem forwardRelease_keeps {m : Nat} {s t : State} (r : _) (first : _) (count : _) (n : _) (via : _) (hm : 0x308000 &&& m = 0x308000) (h : Keeps m s t) :
    Keeps m s (forwardRelease r first count n via t).2 :=
  .step (by
    unfold forwardRelease
    repeat' first | (simp (maxDischargeDepth := 60); done) | split | (dsimp only; split) | (refine Keeps.foldl (fun u a => ?_) ?_) | dsimp only) hm h

@[simp] theorem execReleaseRange_keeps {m : Nat} {s t : State} (via : Via) (dpa len : Nat) (hm : 0x17eed71 &&& m = 0x17eed71) (h : Keeps m s t) :
    Keeps m s (run (execReleaseRange via dpa len t) t) :=
  .step (by
    simp only [execReleaseRange, run]
    refine vendor_keeps _ _ _ _ _ _ (by decide) (fun u => ?_) (Keeps.refl _ t)
    (repeat' first | (simp (maxDischargeDepth := 60); done) | split | (dsimp only; split) | (refine Keeps.foldl (fun u a => ?_) ?_) | dsimp only)) hm h

@[simp] theorem execSetTimestamp_keeps {m : Nat} {s t : State} (via : _) (v : _) (hm : 0x200010 &&& m = 0x200010) (h : Keeps m s t) :
    Keeps m s (run (execSetTimestamp via v t) t) :=
  .step (by
    simp only [execSetTimestamp, run]
    simp (maxDischargeDepth := 60)) hm h

@[simp] theorem execCdatRead_keeps {m : Nat} {s t : State} (entry : _) (hm : 0x200000 &&& m = 0x200000) (h : Keeps m s t) :
    Keeps m s (run (execCdatRead entry t) t) :=
  .step (by
    simp only [execCdatRead, run]
    simp (maxDischargeDepth := 60)) hm h

@[simp] theorem execGetTimestamp_keeps {m : Nat} {s t : State} (via : _) (hm : 0x600000 &&& m = 0x600000) (h : Keeps m s t) :
    Keeps m s (run (execGetTimestamp via t) t) :=
  .step (by
    simp only [execGetTimestamp, run]
    simp (maxDischargeDepth := 60)) hm h

@[simp] theorem execGetPoisonList_keeps {m : Nat} {s t : State} (via : _) (dpa : _) (len : _) (hm : 0x200000 &&& m = 0x200000) (h : Keeps m s t) :
    Keeps m s (run (execGetPoisonList via dpa len t) t) :=
  .step (by
    simp only [execGetPoisonList, run]
    simp (maxDischargeDepth := 60)) hm h

@[simp] theorem execGetSupportedLogs_keeps {m : Nat} {s t : State} (via : _) (hm : 0x200000 &&& m = 0x200000) (h : Keeps m s t) :
    Keeps m s (run (execGetSupportedLogs via t) t) :=
  .step (by
    simp only [execGetSupportedLogs, run]
    simp (maxDischargeDepth := 60)) hm h

@[simp] theorem execGetEventRecords_keeps {m : Nat} {s t : State} (via : _) (log : _) (hm : 0x200000 &&& m = 0x200000) (h : Keeps m s t) :
    Keeps m s (run (execGetEventRecords via log t) t) :=
  .step (by
    simp only [execGetEventRecords, run]
    simp (maxDischargeDepth := 60)) hm h

@[simp] theorem execRegionStateQuery_keeps {m : Nat} {s t : State} (via : _) (r : _) (hm : 0x300000 &&& m = 0x300000) (h : Keeps m s t) :
    Keeps m s (run (execRegionStateQuery via r t) t) :=
  .step (by
    simp only [execRegionStateQuery, run]
    simp (maxDischargeDepth := 60)) hm h

@[simp] theorem execGetAlertConfiguration_keeps {m : Nat} {s t : State} (via : _) (hm : 0x200000 &&& m = 0x200000) (h : Keeps m s t) :
    Keeps m s (run (execGetAlertConfiguration via t) t) :=
  .step (by
    simp only [execGetAlertConfiguration, run]
    simp (maxDischargeDepth := 60)) hm h

@[simp] theorem execGetShutdownState_keeps {m : Nat} {s t : State} (via : _) (hm : 0x200000 &&& m = 0x200000) (h : Keeps m s t) :
    Keeps m s (run (execGetShutdownState via t) t) :=
  .step (by
    simp only [execGetShutdownState, run]
    simp (maxDischargeDepth := 60)) hm h

@[simp] theorem execGetEventInterruptPolicy_keeps {m : Nat} {s t : State} (via : _) (hm : 0x200000 &&& m = 0x200000) (h : Keeps m s t) :
    Keeps m s (run (execGetEventInterruptPolicy via t) t) :=
  .step (by
    simp only [execGetEventInterruptPolicy, run]
    simp (maxDischargeDepth := 60)) hm h

@[simp] theorem execInjectPoison_keeps {m : Nat} {s t : State} (via : _) (dpa : _) (hm : 0x200050 &&& m = 0x200050) (h : Keeps m s t) :
    Keeps m s (run (execInjectPoison via dpa t) t) :=
  .step (by
    simp only [execInjectPoison, run]
    simp (maxDischargeDepth := 60)) hm h

@[simp] theorem execGetFwInfo_keeps {m : Nat} {s t : State} (via : _) (hm : 0x200000 &&& m = 0x200000) (h : Keeps m s t) :
    Keeps m s (run (execGetFwInfo via t) t) :=
  .step (by
    simp only [execGetFwInfo, run]
    simp (maxDischargeDepth := 60)) hm h

@[simp] theorem execGetLog_keeps {m : Nat} {s t : State} (via : _) (uuid : _) (off : _) (len : _) (hm : 0x600000 &&& m = 0x600000) (h : Keeps m s t) :
    Keeps m s (run (execGetLog via uuid off len t) t) :=
  .step (by
    simp only [execGetLog, run]
    simp (maxDischargeDepth := 60)) hm h

@[simp] theorem execClearPoison_keeps {m : Nat} {s t : State} (via : _) (dpa : _) (data : _) (hm : 0x1200050 &&& m = 0x1200050) (h : Keeps m s t) :
    Keeps m s (run (execClearPoison via dpa data t) t) :=
  .step (by
    simp only [execClearPoison, run]
    simp (maxDischargeDepth := 60)) hm h

/-! ### Peat -/

@[simp] theorem rebuildRing_keeps {m : Nat} {s t : State} (q : _) (hm : 0x102000 &&& m = 0x102000) (h : Keeps m s t) :
    Keeps m s (rebuildRing q t) :=
  .step (by
    unfold rebuildRing
    simp (maxDischargeDepth := 60)) hm h

@[simp] theorem touchRewrite_keeps {m : Nat} {s t : State} (g : _) (hm : 0x100040 &&& m = 0x100040) (h : Keeps m s t) :
    Keeps m s (touchRewrite g t) :=
  .step (by
    unfold touchRewrite
    simp (maxDischargeDepth := 60)) hm h

@[simp] theorem execEpochTick_keeps {m : Nat} {s t : State} (bad : _) (hm : 0x100040 &&& m = 0x100040) (h : Keeps m s t) :
    Keeps m s (run (execEpochTick bad t) t) :=
  .step (by
    simp only [execEpochTick, run]
    simp (maxDischargeDepth := 60)) hm h

@[simp] theorem ringDrop_keeps {m : Nat} {s t : State} (q : _) (g : _) (hm : 0x2000 &&& m = 0x2000) (h : Keeps m s t) :
    Keeps m s (ringDrop q g t) :=
  .step (by
    unfold ringDrop
    simp (maxDischargeDepth := 60)) hm h

@[simp] theorem ringTail_keeps {m : Nat} {s t : State} (q : _) (g : _) (hm : 0x2000 &&& m = 0x2000) (h : Keeps m s t) :
    Keeps m s (ringTail q g t) :=
  .step (by
    unfold ringTail
    simp (maxDischargeDepth := 60)) hm h

@[simp] theorem captureReady_keeps {m : Nat} {s t : State} (g : _) (bad : _) (hm : 0x7eec71 &&& m = 0x7eec71) (h : Keeps m s t) :
    Keeps m s (captureReady g bad t) :=
  .step (by
    unfold captureReady
    simp (maxDischargeDepth := 60)) hm h

@[simp] theorem examine_keeps {m : Nat} {s t : State} (q : _) (g : _) (bad : _) (hm : 0x7eed71 &&& m = 0x7eed71) (h : Keeps m s t) :
    Keeps m s (examine q g bad t) :=
  .step (by
    unfold examine
    simp (maxDischargeDepth := 60)) hm h

@[simp] theorem rateCompute_keeps {m : Nat} {s t : State} (hm : 0x2000 &&& m = 0x2000) (h : Keeps m s t) :
    Keeps m s (rateCompute t) :=
  .step (by
    unfold rateCompute
    simp (maxDischargeDepth := 60)) hm h

@[simp] theorem execRingExamine_keeps {m : Nat} {s t : State} (q : _) (err : _) (bad : _) (hm : 0x1ffedff &&& m = 0x1ffedff) (h : Keeps m s t) :
    Keeps m s (run (execRingExamine q err bad t) t) :=
  .step (by
    simp only [execRingExamine, run]
    repeat' first | (simp (maxDischargeDepth := 60); done) | split | (dsimp only; split) | (refine Keeps.foldl (fun u a => ?_) ?_) | dsimp only) hm h

@[simp] theorem execRowCloseTimeout_keeps {m : Nat} {s t : State} (die : _) (hm : 0x102000 &&& m = 0x102000) (h : Keeps m s t) :
    Keeps m s (run (execRowCloseTimeout die t) t) :=
  .step (by
    simp only [execRowCloseTimeout, run]
    simp (maxDischargeDepth := 60)) hm h

@[simp] theorem waRoll_keeps {m : Nat} {s t : State} (hm : 0x2000 &&& m = 0x2000) (h : Keeps m s t) :
    Keeps m s (waRoll t) :=
  .step (by
    unfold waRoll
    simp (maxDischargeDepth := 60)) hm h

@[simp] theorem lifeConditions_keeps {m : Nat} {s t : State} (hm : 0x302010 &&& m = 0x302010) (h : Keeps m s t) :
    Keeps m s (lifeConditions t) :=
  .step (by
    unfold lifeConditions
    simp (maxDischargeDepth := 60)) hm h

@[simp] theorem execRateRecompute_keeps {m : Nat} {s t : State} (hm : 0x302010 &&& m = 0x302010) (h : Keeps m s t) :
    Keeps m s (run (execRateRecompute t) t) :=
  .step (by
    simp only [execRateRecompute, run]
    simp (maxDischargeDepth := 60)) hm h

@[simp] theorem execProgramComplete_keeps {m : Nat} {s t : State} (vpa : _) (ok : _) (hm : 0x3ffffff &&& m = 0x3ffffff) (h : Keeps m s t) :
    Keeps m s (run (execProgramComplete vpa ok t) t) :=
  .step (by
    simp only [execProgramComplete, run]
    simp (maxDischargeDepth := 60)) hm h

@[simp] theorem execTokenTick_keeps {m : Nat} {s t : State} (hm : 0x17eed71 &&& m = 0x17eed71) (h : Keeps m s t) :
    Keeps m s (run (execTokenTick t) t) :=
  .step (by
    simp only [execTokenTick, run]
    simp (maxDischargeDepth := 60)) hm h

@[simp] theorem execSequentialWalk_keeps {m : Nat} {s t : State} (r : _) (hm : 0x1ffedff &&& m = 0x1ffedff) (h : Keeps m s t) :
    Keeps m s (run (execSequentialWalk r t) t) :=
  .step (by
    simp only [execSequentialWalk, run]
    simp (maxDischargeDepth := 60)) hm h

/-! ### Restore -/

@[simp] theorem pairFollows_keeps {m : Nat} {s t : State} (hm : 0x17eed7d &&& m = 0x17eed7d) (h : Keeps m s t) :
    Keeps m s (pairFollows t) :=
  .step (by
    unfold pairFollows
    simp (maxDischargeDepth := 60)) hm h

@[simp] theorem lateFailures_keeps {m : Nat} {s t : State} (hm : 0x102800 &&& m = 0x102800) (h : Keeps m s t) :
    Keeps m s (lateFailures t) :=
  .step (by
    unfold lateFailures
    repeat' first | (simp (maxDischargeDepth := 60); done) | split | (dsimp only; split) | (refine Keeps.foldl (fun u a => ?_) ?_) | dsimp only) hm h

@[simp] theorem loadReserve_keeps {m : Nat} {s t : State} (hm : 0x800 &&& m = 0x800) (h : Keeps m s t) :
    Keeps m s (loadReserve t) :=
  .step (by
    unfold loadReserve
    simp (maxDischargeDepth := 60)) hm h

@[simp] theorem vaultReady_keeps {m : Nat} {s t : State} (hm : 0x102800 &&& m = 0x102800) (h : Keeps m s t) :
    Keeps m s (vaultReady t) :=
  .step (by
    unfold vaultReady
    simp (maxDischargeDepth := 60)) hm h

@[simp] theorem loadAccounts_keeps {m : Nat} {s t : State} (scan : _) (hm : 0x2000 &&& m = 0x2000) (h : Keeps m s t) :
    Keeps m s (loadAccounts scan t) :=
  .step (by
    unfold loadAccounts
    simp (maxDischargeDepth := 60)) hm h

@[simp] theorem shutdownAtBoot_keeps {m : Nat} {s t : State} (u : _) (hm : 0x104000 &&& m = 0x104000) (h : Keeps m s t) :
    Keeps m s (shutdownAtBoot u t) :=
  .step (by
    unfold shutdownAtBoot
    simp (maxDischargeDepth := 60)) hm h

@[simp] theorem readopt_keeps {m : Nat} {s t : State} (hm : 0x20 &&& m = 0x20) (h : Keeps m s t) :
    Keeps m s (readopt t) :=
  .step (by
    unfold readopt
    simp (maxDischargeDepth := 60)) hm h

@[simp] theorem dumpRegsLoad_keeps {m : Nat} {s t : State} (hm : 0x4000 &&& m = 0x4000) (h : Keeps m s t) :
    Keeps m s (dumpRegsLoad t) :=
  .step (by
    unfold dumpRegsLoad
    repeat' first | (simp (maxDischargeDepth := 60); done) | split | (dsimp only; split) | (refine Keeps.foldl (fun u a => ?_) ?_) | dsimp only) hm h

@[simp] theorem reportLost_keeps {m : Nat} {s t : State} (m' : _) (hm : 0x100000 &&& m = 0x100000) (h : Keeps m s t) :
    Keeps m s (reportLost m' t) :=
  .step (by
    unfold reportLost
    simp (maxDischargeDepth := 60)) hm h

@[simp] theorem buildStates_keeps {m : Nat} {s t : State} (m' : _) (hm : 0x860 &&& m = 0x860) (h : Keeps m s t) :
    Keeps m s (buildStates m' t) :=
  .step (by
    unfold buildStates
    simp (maxDischargeDepth := 60)) hm h

@[simp] theorem scanLoss_keeps {m : Nat} {s t : State} (hm : 0x800 &&& m = 0x800) (h : Keeps m s t) :
    Keeps m s (scanLoss t) :=
  .step (by
    unfold scanLoss
    simp (maxDischargeDepth := 60)) hm h

@[simp] theorem restoreBegins_keeps {m : Nat} {s t : State} (kind : _) (scan : _) (u : _) (m' : _) (hm : 0x506860 &&& m = 0x506860) (h : Keeps m s t) :
    Keeps m s (restoreBegins kind scan u m' t) :=
  .step (by
    unfold restoreBegins
    simp (maxDischargeDepth := 60)) hm h

@[simp] theorem unparkRegion_keeps {m : Nat} {s t : State} (r : _) (hm : 0x308030 &&& m = 0x308030) (h : Keeps m s t) :
    Keeps m s (unparkRegion t r) :=
  .step (by
    unfold unparkRegion
    repeat' first | (simp (maxDischargeDepth := 60); done) | split | (dsimp only; split) | (refine Keeps.foldl (fun u a => ?_) ?_) | dsimp only) hm h

@[simp] theorem unparkEnds_keeps {m : Nat} {s t : State} (hm : 0x1feed7d &&& m = 0x1feed7d) (h : Keeps m s t) :
    Keeps m s (unparkEnds t) :=
  .step (by
    unfold unparkEnds
    simp (maxDischargeDepth := 60)) hm h

@[simp] theorem execMapLoaded_keeps {m : Nat} {s t : State} (ckptOk : _) (scanOk : _) (noMark : _) (noHeader : _) (unread : _) (hm : 0x1ffffff &&& m = 0x1ffffff) (h : Keeps m s t) :
    Keeps m s (run (execMapLoaded ckptOk scanOk noMark noHeader unread t) t) :=
  .step (by
    simp only [execMapLoaded, run]
    simp (maxDischargeDepth := 60)) hm h

@[simp] theorem mergePage_keeps {m : Nat} {s t : State} (g : _) (d : _) (tagOk : _) (hm : 0x3ffffff &&& m = 0x3ffffff) (h : Keeps m s t) :
    Keeps m s (mergePage g d tagOk t) :=
  .step (by
    unfold mergePage
    simp (maxDischargeDepth := 60)) hm h

@[simp] theorem noteRead_keeps {m : Nat} {s t : State} (v : _) (rebuilt : _) (hm : 0x101000 &&& m = 0x101000) (h : Keeps m s t) :
    Keeps m s (noteRead v rebuilt t) :=
  .step (by
    unfold noteRead
    simp (maxDischargeDepth := 60)) hm h

@[simp] theorem fixLines_keeps {m : Nat} {s t : State} (g : _) (d : _) (tagOk : _) (hm : 0x1184040 &&& m = 0x1184040) (h : Keeps m s t) :
    Keeps m s (fixLines g d tagOk t) :=
  .step (by
    unfold fixLines
    simp (maxDischargeDepth := 60)) hm h

@[simp] theorem fetchPoison_keeps {m : Nat} {s t : State} (g : _) (v : _) (hm : 0x3ac040 &&& m = 0x3ac040) (h : Keeps m s t) :
    Keeps m s (fetchPoison g v t) :=
  .step (by
    unfold fetchPoison
    simp (maxDischargeDepth := 60)) hm h

@[simp] theorem execFetchComplete_keeps {m : Nat} {s t : State} (g : _) (tagOk : _) (rebuilt : _) (us : _) (hm : 0x3ffffff &&& m = 0x3ffffff) (h : Keeps m s t) :
    Keeps m s (run (execFetchComplete g tagOk rebuilt us t) t) :=
  .step (by
    simp only [execFetchComplete, run]
    repeat' first | (simp (maxDischargeDepth := 60); done) | split | (dsimp only; split) | (refine Keeps.foldl (fun u a => ?_) ?_) | dsimp only) hm h

@[simp] theorem retryRebuilt_keeps {m : Nat} {s t : State} (g : _) (p : _) (hm : 0x17e2850 &&& m = 0x17e2850) (h : Keeps m s t) :
    Keeps m s (retryRebuilt g p t) :=
  .step (by
    unfold retryRebuilt
    simp (maxDischargeDepth := 60)) hm h

@[simp] theorem execRetryGranule_keeps {m : Nat} {s t : State} (via : Via) (dpa : Nat) (rebuilt : Bool) (hm : 0x17efd71 &&& m = 0x17efd71) (h : Keeps m s t) :
    Keeps m s (run (execRetryGranule via dpa rebuilt t) t) :=
  .step (by
    simp only [execRetryGranule, run]
    refine vendor_keeps _ _ _ _ _ _ (by decide) (fun u => ?_) (Keeps.refl _ t)
    (repeat' first | (simp (maxDischargeDepth := 60); done) | split | (dsimp only; split) | (refine Keeps.foldl (fun u a => ?_) ?_) | dsimp only)) hm h

@[simp] theorem execBulkRestoreIssue_keeps {m : Nat} {s t : State} (q : _) (hm : 0x704510 &&& m = 0x704510) (h : Keeps m s t) :
    Keeps m s (run (execBulkRestoreIssue q t) t) :=
  .step (by
    simp only [execBulkRestoreIssue, run]
    repeat' first | (simp (maxDischargeDepth := 60); done) | split | (dsimp only; split) | (refine Keeps.foldl (fun u a => ?_) ?_) | dsimp only) hm h

end Sys2Proof.Machine
end

