-- ==== Sys2Proof/Laws/KeepsUnits.lean ====
section
/-!
SUPPORT. What every operation of these files keeps: Regions AlarmCipher Background ArrayCommands Datapath InputWatch Dump Vault RoleOps Power. One lemma per operation: it changes only the parts of its mask,
leaves the queue alone, keeps the cache DRAM canonical, and loses no bit of the Bog-oak row.
-/

namespace Sys2Proof.Machine

set_option maxRecDepth 8000
set_option linter.unusedTactic false
set_option linter.unreachableTactic false

/-! ### Regions -/

@[simp] theorem regionHandled_keeps {m : Nat} {s t : State} (r : _) (hm : 0x100002 &&& m = 0x100002) (h : Keeps m s t) :
    Keeps m s (regionHandled r t) :=
  .step (by
    unfold regionHandled
    simp (maxDischargeDepth := 60)) hm h

@[simp] theorem replaceEntry_keeps {m : Nat} {s t : State} (r : _) (e : _) (empty : _) (hm : 0x302830 &&& m = 0x302830) (h : Keeps m s t) :
    Keeps m s (replaceEntry r e empty t) :=
  .step (by
    unfold replaceEntry
    simp (maxDischargeDepth := 60)) hm h

@[simp] theorem takeUp_keeps {m : Nat} {s t : State} (r : _) (img : _) (hm : 0x30a832 &&& m = 0x30a832) (h : Keeps m s t) :
    Keeps m s (takeUp r img t) :=
  .step (by
    unfold takeUp
    simp (maxDischargeDepth := 60)) hm h

@[simp] theorem handleStopped_keeps {m : Nat} {s t : State} (r : _) (img : _) (hm : 0x17eed7f &&& m = 0x17eed7f) (h : Keeps m s t) :
    Keeps m s (handleStopped r img t) :=
  .step (by
    unfold handleStopped
    simp (maxDischargeDepth := 60)) hm h

@[simp] theorem liveDone_keeps {m : Nat} {s t : State} (img : _) (hm : 0x17eef7f &&& m = 0x17eef7f) (h : Keeps m s t) :
    Keeps m s (liveDone img t) :=
  .step (by
    unfold liveDone
    simp (maxDischargeDepth := 60)) hm h

@[simp] theorem setSlice_keeps {m : Nat} {s t : State} (q : _) (st : _) (hm : 0x140000 &&& m = 0x140000) (h : Keeps m s t) :
    Keeps m s (setSlice q st t) :=
  .step (by
    unfold setSlice
    simp (maxDischargeDepth := 60)) hm h

@[simp] theorem carveNext_keeps {m : Nat} {s t : State} (c : _) (hm : 0x140000 &&& m = 0x140000) (h : Keeps m s t) :
    Keeps m s (carveNext c t) :=
  .step (by
    unfold carveNext
    repeat' first | (simp (maxDischargeDepth := 60); done) | split | (dsimp only; split) | (refine Keeps.foldl (fun u a => ?_) ?_) | dsimp only) hm h

@[simp] theorem carveStart_keeps {m : Nat} {s t : State} (c : _) (hm : 0x140000 &&& m = 0x140000) (h : Keeps m s t) :
    Keeps m s (carveStart c t) :=
  .step (by
    unfold carveStart
    simp (maxDischargeDepth := 60)) hm h

theorem liveStep_keeps {m : Nat} {s t u : State} (hu : liveStep t = some u) (hm : 0x17eef7f &&& m = 0x17eef7f) (h : Keeps m s t) :
    Keeps m s u :=
  .step (by
    unfold liveStep at hu
    repeat' split at hu
    all_goals first | (cases hu; done) | (cases hu; (repeat' first | (simp (maxDischargeDepth := 60); done) | split | (dsimp only; split) | (refine Keeps.foldl (fun u a => ?_) ?_) | dsimp only))) hm h

@[simp] theorem liveLoop_keeps {m : Nat} {s t : State} (n : Nat) (hm : 0x17eef7f &&& m = 0x17eef7f) (h : Keeps m s t) : Keeps m s (liveLoop n t) :=
  .step (by
    clear h
    induction n generalizing t with
    | zero => simp [liveLoop]
    | succ n ih =>
      unfold liveLoop
      split
      · exact Keeps.refl _ t
      · rename_i hu
        exact (liveStep_keeps hu (by decide) (Keeps.refl _ t)).trans ih) hm h

@[simp] theorem lifeFollow_keeps {m : Nat} {s t : State} (hm : 0x1feef7f &&& m = 0x1feef7f) (h : Keeps m s t) :
    Keeps m s (lifeFollow t) :=
  .step (by
    unfold lifeFollow
    simp (maxDischargeDepth := 60)) hm h

@[simp] theorem liveRefuse_keeps {m : Nat} {s t : State} (cause : _) (r : _) (hm : 0x300002 &&& m = 0x300002) (h : Keeps m s t) :
    Keeps m s (liveRefuse cause r t) :=
  .step (by
    unfold liveRefuse
    simp (maxDischargeDepth := 60)) hm h

@[simp] theorem liveRequest_keeps {m : Nat} {s t : State} (slot : _) (op : _) (hm : 0x300002 &&& m = 0x300002) (h : Keeps m s t) :
    Keeps m s (liveRequest slot op t) :=
  .step (by
    unfold liveRequest
    simp (maxDischargeDepth := 60)) hm h

@[simp] theorem execRegionStop_keeps {m : Nat} {s t : State} (hm : 0x1feef7f &&& m = 0x1feef7f) (h : Keeps m s t) :
    Keeps m s (run (execRegionStop t) t) :=
  .step (by
    simp only [execRegionStop, run]
    simp (maxDischargeDepth := 60)) hm h

@[simp] theorem execImageChecksDone_keeps {m : Nat} {s t : State} (hm : 0x1feef7f &&& m = 0x1feef7f) (h : Keeps m s t) :
    Keeps m s (run (execImageChecksDone t) t) :=
  .step (by
    unfold execImageChecksDone
    rw [run_next]
    split
    · exact Keeps.refl _ t
    · extract_lets slot c g0
      split
      extract_lets cause reg s0 s1 g1 img changed empty
      have k0 : Keeps 0x1feef7f t s0 := by unfold s0; simp
      have k1 : Keeps 0x1feef7f t s1 := by
        unfold s1
        split
        · exact Keeps.foldl (fun _ _ => raise_keeps _ _ _ (by decide) (Keeps.refl _ _)) k0
        · exact k0
      clear_value img
      clear_value s1
      refine k1.trans ?_
      split
      · simp
      · clear_value changed empty
        (repeat' first | (simp (maxDischargeDepth := 60); done) | split | (dsimp only; split) | (refine Keeps.foldl (fun u a => ?_) ?_) | dsimp only)) hm h

@[simp] theorem execLiveApply_keeps {m : Nat} {s t : State} (slot : _) (hm : 0x300002 &&& m = 0x300002) (h : Keeps m s t) :
    Keeps m s (run (execLiveApply slot t) t) :=
  .step (by
    simp only [execLiveApply, run]
    simp (maxDischargeDepth := 60)) hm h

@[simp] theorem execRegionStart_keeps {m : Nat} {s t : State} (hm : 0x1feef7f &&& m = 0x1feef7f) (h : Keeps m s t) :
    Keeps m s (run (execRegionStart t) t) :=
  .step (by
    simp only [execRegionStart, run]
    simp (maxDischargeDepth := 60)) hm h

@[simp] theorem recarve_keeps {m : Nat} {s t : State} (q : _) (c : _) (hm : 0x40000 &&& m = 0x40000) (h : Keeps m s t) :
    Keeps m s (recarve q c t) :=
  .step (by
    unfold recarve
    simp (maxDischargeDepth := 60)) hm h

@[simp] theorem yieldConflict_keeps {m : Nat} {s t : State} (r : _) (hm : 0x17aed7c &&& m = 0x17aed7c) (h : Keeps m s t) :
    Keeps m s (yieldConflict r t) :=
  .step (by
    unfold yieldConflict
    simp (maxDischargeDepth := 60)) hm h

@[simp] theorem execSliceDrained_keeps {m : Nat} {s t : State} (q : _) (hm : 0x17eef7f &&& m = 0x17eef7f) (h : Keeps m s t) :
    Keeps m s (run (execSliceDrained q t) t) :=
  .step (by
    simp only [execSliceDrained, run]
    repeat' first | (simp (maxDischargeDepth := 60); done) | split | (dsimp only; split) | (refine Keeps.foldl (fun u a => ?_) ?_) | dsimp only) hm h

@[simp] theorem execStartCheckTimeout_keeps {m : Nat} {s t : State} (r : _) (hm : 0x1feef7f &&& m = 0x1feef7f) (h : Keeps m s t) :
    Keeps m s (run (execStartCheckTimeout r t) t) :=
  .step (by
    simp only [execStartCheckTimeout, run]
    simp (maxDischargeDepth := 60)) hm h

@[simp] theorem execStartChecksComplete_keeps {m : Nat} {s t : State} (r : _) (hm : 0x1feef7f &&& m = 0x1feef7f) (h : Keeps m s t) :
    Keeps m s (run (execStartChecksComplete r t) t) :=
  .step (by
    simp only [execStartChecksComplete, run]
    repeat' first | (simp (maxDischargeDepth := 60); done) | split | (dsimp only; split) | (refine Keeps.foldl (fun u a => ?_) ?_) | dsimp only) hm h

@[simp] theorem giveCopies_keeps {m : Nat} {s t : State} (r : _) (hm : 0x382060 &&& m = 0x382060) (h : Keeps m s t) :
    Keeps m s (giveCopies r t) :=
  .step (by
    unfold giveCopies
    simp (maxDischargeDepth := 60)) hm h

@[simp] theorem giveBack_keeps {m : Nat} {s t : State} (r : _) (hm : 0x38a16c &&& m = 0x38a16c) (h : Keeps m s t) :
    Keeps m s (giveBack r t) :=
  .step (by
    unfold giveBack
    simp (maxDischargeDepth := 60)) hm h

@[simp] theorem execRegionDrained_keeps {m : Nat} {s t : State} (r : _) (hm : 0x1feef7f &&& m = 0x1feef7f) (h : Keeps m s t) :
    Keeps m s (run (execRegionDrained r t) t) :=
  .step (by
    simp only [execRegionDrained, run]
    simp (maxDischargeDepth := 60)) hm h

@[simp] theorem execLiveCheck_keeps {m : Nat} {s t : State} (slot : _) (hm : 0x300002 &&& m = 0x300002) (h : Keeps m s t) :
    Keeps m s (run (execLiveCheck slot t) t) :=
  .step (by
    simp only [execLiveCheck, run]
    simp (maxDischargeDepth := 60)) hm h

/-! ### AlarmCipher -/

@[simp] theorem dropCapture_keeps {m : Nat} {s t : State} (g : _) (hm : 0x2000 &&& m = 0x2000) (h : Keeps m s t) :
    Keeps m s (dropCapture g t) :=
  .step (by
    unfold dropCapture
    simp (maxDischargeDepth := 60)) hm h

@[simp] theorem abortEncrypt_keeps {m : Nat} {s t : State} (o : _) (hm : 0x186840 &&& m = 0x186840) (h : Keeps m s t) :
    Keeps m s (abortEncrypt o t) :=
  .step (by
    unfold abortEncrypt
    repeat' first | (simp (maxDischargeDepth := 60); done) | split | (dsimp only; split) | (refine Keeps.foldl (fun u a => ?_) ?_) | dsimp only) hm h

@[simp] theorem dumpKeysLost_keeps {m : Nat} {s t : State} (rs : _) (hm : 0x104020 &&& m = 0x104020) (h : Keeps m s t) :
    Keeps m s (dumpKeysLost rs t) :=
  .step (by
    unfold dumpKeysLost
    simp (maxDischargeDepth := 60)) hm h

@[simp] theorem eraseKeys_keeps {m : Nat} {s t : State} (hm : 0x120000 &&& m = 0x120000) (h : Keeps m s t) :
    Keeps m s (eraseKeys t) :=
  .step (by
    unfold eraseKeys
    simp (maxDischargeDepth := 60)) hm h

@[simp] theorem abortOps_keeps {m : Nat} {s t : State} (hm : 0x1a6840 &&& m = 0x1a6840) (h : Keeps m s t) :
    Keeps m s (abortOps t) :=
  .step (by
    unfold abortOps
    simp (maxDischargeDepth := 60)) hm h

@[simp] theorem alarmFire_keeps {m : Nat} {s t : State} (src : _) (hm : 0x3ffffff &&& m = 0x3ffffff) (h : Keeps m s t) :
    Keeps m s (alarmFire src t) :=
  .step (by
    unfold alarmFire
    simp (maxDischargeDepth := 60)) hm h

@[simp] theorem execAlarm_keeps {m : Nat} {s t : State} (src : _) (hm : 0x3ffffff &&& m = 0x3ffffff) (h : Keeps m s t) :
    Keeps m s (run (execAlarm src t) t) :=
  .step (by
    simp only [execAlarm, run]
    simp (maxDischargeDepth := 60)) hm h

@[simp] theorem execAlarmAck_keeps {m : Nat} {s t : State} (cool : _) (hm : 0x120000 &&& m = 0x120000) (h : Keeps m s t) :
    Keeps m s (run (execAlarmAck cool t) t) :=
  .step (by
    simp only [execAlarmAck, run]
    simp (maxDischargeDepth := 60)) hm h

/-! ### Background -/

@[simp] theorem wakeScope_keeps {m : Nat} {s t : State} (kind : _) (p : _) (hm : 0x700510 &&& m = 0x700510) (h : Keeps m s t) :
    Keeps m s (wakeScope kind p t) :=
  .step (by
    unfold wakeScope
    simp (maxDischargeDepth := 60)) hm h

@[simp] theorem powerDone_keeps {m : Nat} {s t : State} (p : _) (hm : 0x300010 &&& m = 0x300010) (h : Keeps m s t) :
    Keeps m s (powerDone p t) :=
  .step (by
    unfold powerDone
    simp (maxDischargeDepth := 60)) hm h

@[simp] theorem exitDone_keeps {m : Nat} {s t : State} (hm : 0x300410 &&& m = 0x300410) (h : Keeps m s t) :
    Keeps m s (exitDone t) :=
  .step (by
    unfold exitDone
    simp (maxDischargeDepth := 60)) hm h

@[simp] theorem execBarrier_keeps {m : Nat} {s t : State} (via : _) (scope : _) (hm : 0x1ffedff &&& m = 0x1ffedff) (h : Keeps m s t) :
    Keeps m s (run (execBarrier via scope t) t) :=
  .step (by
    simp only [execBarrier, run]
    repeat' first | (simp (maxDischargeDepth := 60); done) | split | (dsimp only; split) | (refine Keeps.foldl (fun u a => ?_) ?_) | dsimp only) hm h

@[simp] theorem execStartLearning_keeps {m : Nat} {s t : State} (via : _) (hm : 0x3001bc &&& m = 0x3001bc) (h : Keeps m s t) :
    Keeps m s (run (execStartLearning via t) t) :=
  .step (by
    simp only [execStartLearning, run]
    simp (maxDischargeDepth := 60)) hm h

@[simp] theorem execPark_keeps {m : Nat} {s t : State} (via : _) (hm : 0x1ffedff &&& m = 0x1ffedff) (h : Keeps m s t) :
    Keeps m s (run (execPark via t) t) :=
  .step (by
    simp only [execPark, run]
    simp (maxDischargeDepth := 60)) hm h

@[simp] theorem execCalibrationDump_keeps {m : Nat} {s t : State} (via : _) (hm : 0x1ffedff &&& m = 0x1ffedff) (h : Keeps m s t) :
    Keeps m s (run (execCalibrationDump via t) t) :=
  .step (by
    simp only [execCalibrationDump, run]
    simp (maxDischargeDepth := 60)) hm h

@[simp] theorem execUnpark_keeps {m : Nat} {s t : State} (via : _) (hm : 0x388411 &&& m = 0x388411) (h : Keeps m s t) :
    Keeps m s (run (execUnpark via t) t) :=
  .step (by
    simp only [execUnpark, run]
    simp (maxDischargeDepth := 60)) hm h

@[simp] theorem execSetPowerStateP3_keeps {m : Nat} {s t : State} (via : _) (hm : 0x1ffedff &&& m = 0x1ffedff) (h : Keeps m s t) :
    Keeps m s (run (execSetPowerStateP3 via t) t) :=
  .step (by
    simp only [execSetPowerStateP3, run]
    simp (maxDischargeDepth := 60)) hm h

@[simp] theorem execSetPowerStateP0_keeps {m : Nat} {s t : State} (via : _) (hm : 0x7045bc &&& m = 0x7045bc) (h : Keeps m s t) :
    Keeps m s (run (execSetPowerStateP0 via t) t) :=
  .step (by
    simp only [execSetPowerStateP0, run]
    simp (maxDischargeDepth := 60)) hm h

@[simp] theorem execShadowRange_keeps {m : Nat} {s t : State} (via : Via) (dpa len : Nat) (hm : 0x1ffedff &&& m = 0x1ffedff) (h : Keeps m s t) :
    Keeps m s (run (execShadowRange via dpa len t) t) :=
  .step (by
    simp only [execShadowRange, run]
    refine vendor_keeps _ _ _ _ _ _ (by decide) (fun u => ?_) (Keeps.refl _ t)
    (repeat' first | (simp (maxDischargeDepth := 60); done) | split | (dsimp only; split) | (refine Keeps.foldl (fun u a => ?_) ?_) | dsimp only)) hm h

@[simp] theorem execSetPowerStateP2_keeps {m : Nat} {s t : State} (via : _) (hm : 0x7045bc &&& m = 0x7045bc) (h : Keeps m s t) :
    Keeps m s (run (execSetPowerStateP2 via t) t) :=
  .step (by
    simp only [execSetPowerStateP2, run]
    simp (maxDischargeDepth := 60)) hm h

/-! ### ArrayCommands -/

@[simp] theorem memberBarrier_keeps {m : Nat} {s t : State} (tag : _) (head : _) (hm : 0x1ffedff &&& m = 0x1ffedff) (h : Keeps m s t) :
    Keeps m s (memberBarrier tag head t) :=
  .step (by
    unfold memberBarrier
    simp (maxDischargeDepth := 60)) hm h

@[simp] theorem updateStep_keeps {m : Nat} {s t : State} (m' : _) (status : _) (hm : 0x100000 &&& m = 0x100000) (h : Keeps m s t) :
    Keeps m s (updateStep m' status t) :=
  .step (by
    unfold updateStep
    simp (maxDischargeDepth := 60)) hm h

@[simp] theorem updateRefuse_keeps {m : Nat} {s t : State} (tag : _) (head : _) (status : _) (hm : 0x310010 &&& m = 0x310010) (h : Keeps m s t) :
    Keeps m s (updateRefuse tag head status t) :=
  .step (by
    unfold updateRefuse
    simp (maxDischargeDepth := 60)) hm h

@[simp] theorem memberUpdate_keeps {m : Nat} {s t : State} (tag : _) (head : _) (hm : 0x1ffedff &&& m = 0x1ffedff) (h : Keeps m s t) :
    Keeps m s (memberUpdate tag head t) :=
  .step (by
    unfold memberUpdate
    simp (maxDischargeDepth := 60)) hm h

@[simp] theorem memberRun_keeps {m : Nat} {s t : State} (sub : _) (tag : _) (head : _) (hm : 0x1ffedff &&& m = 0x1ffedff) (h : Keeps m s t) :
    Keeps m s (memberRun sub tag head t) :=
  .step (by
    unfold memberRun
    simp (maxDischargeDepth := 60)) hm h

@[simp] theorem sendSub_keeps {m : Nat} {s t : State} (sub : _) (m' : _) (hm : 0x1ffedff &&& m = 0x1ffedff) (h : Keeps m s t) :
    Keeps m s (sendSub sub m' t) :=
  .step (by
    unfold sendSub
    simp (maxDischargeDepth := 60)) hm h

@[simp] theorem sendImage_keeps {m : Nat} {s t : State} (m' : _) (tag : _) (hm : 0x200000 &&& m = 0x200000) (h : Keeps m s t) :
    Keeps m s (sendImage m' tag t) :=
  .step (by
    unfold sendImage
    simp (maxDischargeDepth := 60)) hm h

@[simp] theorem updateLoop_keeps {m : Nat} {s t : State} (x0 : _) (hm : 0x1ffedff &&& m = 0x1ffedff) (h : Keeps m s t) :
    Keeps m s (updateLoop x0 t) :=
  .step (by clear h; induction x0 generalizing t  with
    | zero => simp [updateLoop]
    | succ n ih =>
      have ih' : ∀ {s t}, Keeps 0x1ffedff s t → Keeps 0x1ffedff s (updateLoop n t) := fun  k => k.trans (ih )
      unfold updateLoop; (repeat' first | (simp (maxDischargeDepth := 60) [ih']; done) | split | (dsimp only; split) | (refine Keeps.foldl (fun u a => ?_) ?_) | dsimp only)) hm h

@[simp] theorem updateAnswer_keeps {m : Nat} {s t : State} (m' : _) (status : _) (f : _) (hm : 0x1ffedff &&& m = 0x1ffedff) (h : Keeps m s t) :
    Keeps m s (updateAnswer m' status f t) :=
  .step (by
    unfold updateAnswer
    simp (maxDischargeDepth := 60)) hm h

@[simp] theorem execCmdA_keeps {m : Nat} {s t : State} (src : _) (dst : _) (hops : _) (tag : _) (sub : _) (status : _) (result : _) (good : _) (hm : 0x1ffedff &&& m = 0x1ffedff) (h : Keeps m s t) :
    Keeps m s (run (execCmdA src dst hops tag sub status result good t) t) :=
  .step (by
    simp only [execCmdA, run]
    simp (maxDischargeDepth := 60)) hm h

@[simp] theorem execCmd_keeps {m : Nat} {s t : State} (src : _) (dst : _) (hops : _) (tag : _) (sub : _) (payload : _) (good : _) (hm : 0x1ffedff &&& m = 0x1ffedff) (h : Keeps m s t) :
    Keeps m s (run (execCmd src dst hops tag sub payload good t) t) :=
  .step (by
    simp only [execCmd, run]
    simp (maxDischargeDepth := 60)) hm h

@[simp] theorem execRollUpdateTimeout_keeps {m : Nat} {s t : State} (m' : _) (hm : 0x1ffedff &&& m = 0x1ffedff) (h : Keeps m s t) :
    Keeps m s (run (execRollUpdateTimeout m' t) t) :=
  .step (by
    simp only [execRollUpdateTimeout, run]
    simp (maxDischargeDepth := 60)) hm h

@[simp] theorem arrayAll_keeps {m : Nat} {s t : State} (via : _) (sub : _) (mask : _) (hm : 0x1ffedff &&& m = 0x1ffedff) (h : Keeps m s t) :
    Keeps m s (arrayAll via sub mask t) :=
  .step (by
    unfold arrayAll
    simp (maxDischargeDepth := 60)) hm h

@[simp] theorem arrayBegin_keeps {m : Nat} {s t : State} (via : Via) (k : State → State) (hm : 0x300000 &&& m = 0x300000) (hk : ∀ u, Keeps m u (k u))
    (h : Keeps m s t) : Keeps m s (arrayBegin via k t) :=
  h.trans (vendor_keeps _ _ _ _ _ _ hm (fun u => by
    split
    · exact (show Keeps 0x300000 u _ by simp).mono hm
    · exact hk u) (Keeps.refl m t))

@[simp] theorem execArrayUnknownSubopcode_keeps {m : Nat} {s t : State} (via : _) (hm : 0x300000 &&& m = 0x300000) (h : Keeps m s t) :
    Keeps m s (run (execArrayUnknownSubopcode via t) t) :=
  .step (by
    simp only [execArrayUnknownSubopcode, run]
    simp (maxDischargeDepth := 60)) hm h

@[simp] theorem execMctpFrame_keeps {m : Nat} {s t : State} (outside : _) (src : _) (dst : _) (hops : _) (tag : _) (packet : _) (good : _) (hm : 0x210000 &&& m = 0x210000) (h : Keeps m s t) :
    Keeps m s (run (execMctpFrame outside src dst hops tag packet good t) t) :=
  .step (by
    simp only [execMctpFrame, run]
    simp (maxDischargeDepth := 60)) hm h

@[simp] theorem execArrayBarrier_keeps {m : Nat} {s t : State} (via : _) (mask : _) (hm : 0x1ffedff &&& m = 0x1ffedff) (h : Keeps m s t) :
    Keeps m s (run (execArrayBarrier via mask t) t) :=
  .step (by
    simp only [execArrayBarrier, run]
    simp (maxDischargeDepth := 60)) hm h

@[simp] theorem execRollUpdate_keeps {m : Nat} {s t : State} (via : _) (mask : _) (hm : 0x1ffedff &&& m = 0x1ffedff) (h : Keeps m s t) :
    Keeps m s (run (execRollUpdate via mask t) t) :=
  .step (by
    simp only [execRollUpdate, run]
    simp (maxDischargeDepth := 60)) hm h

@[simp] theorem execArrayStatus_keeps {m : Nat} {s t : State} (via : _) (mask : _) (hm : 0x1ffedff &&& m = 0x1ffedff) (h : Keeps m s t) :
    Keeps m s (run (execArrayStatus via mask t) t) :=
  .step (by
    simp only [execArrayStatus, run]
    simp (maxDischargeDepth := 60)) hm h

@[simp] theorem execArrayStatusTimeout_keeps {m : Nat} {s t : State} (hm : 0x310010 &&& m = 0x310010) (h : Keeps m s t) :
    Keeps m s (run (execArrayStatusTimeout t) t) :=
  .step (by
    simp only [execArrayStatusTimeout, run]
    simp (maxDischargeDepth := 60)) hm h

@[simp] theorem writeChunk_keeps {m : Nat} {s t : State} (off : _) (data : _) (hm : 0x40010c &&& m = 0x40010c) (h : Keeps m s t) :
    Keeps m s (writeChunk off data t) :=
  .step (by
    unfold writeChunk
    simp (maxDischargeDepth := 60)) hm h

@[simp] theorem execFwData_keeps {m : Nat} {s t : State} (src : _) (dst : _) (hops : _) (tag : _) (off : _) (data : _) (good : _) (hm : 0x61010c &&& m = 0x61010c) (h : Keeps m s t) :
    Keeps m s (run (execFwData src dst hops tag off data good t) t) :=
  .step (by
    simp only [execFwData, run]
    simp (maxDischargeDepth := 60)) hm h

/-! ### Datapath -/

@[simp] theorem lineLands_keeps {m : Nat} {s t : State} (g : _) (hm : 0x180040 &&& m = 0x180040) (h : Keeps m s t) :
    Keeps m s (lineLands g t) :=
  .step (by
    unfold lineLands
    simp (maxDischargeDepth := 60)) hm h

@[simp] theorem plantOnWrite_keeps {m : Nat} {s t : State} (q : _) (line : _) (hm : 0x180000 &&& m = 0x180000) (h : Keeps m s t) :
    Keeps m s (plantOnWrite q line t) :=
  .step (by
    unfold plantOnWrite
    simp (maxDischargeDepth := 60)) hm h

@[simp] theorem execLineWritten_keeps {m : Nat} {s t : State} (tag : _) (hm : 0x17eed71 &&& m = 0x17eed71) (h : Keeps m s t) :
    Keeps m s (run (execLineWritten tag t) t) :=
  .step (by
    simp only [execLineWritten, run]
    repeat' first | (simp (maxDischargeDepth := 60); done) | split | (dsimp only; split) | (refine Keeps.foldl (fun u a => ?_) ?_) | dsimp only) hm h

@[simp] theorem memReadAt_keeps {m : Nat} {s t : State} (tag : _) (line : _) (errs : _) (again : _) (hm : 0x17eed71 &&& m = 0x17eed71) (h : Keeps m s t) :
    Keeps m s (memReadAt tag line errs again t) :=
  .step (by
    unfold memReadAt
    simp (maxDischargeDepth := 60)) hm h

@[simp] theorem execMemRead_keeps {m : Nat} {s t : State} (tag : _) (line : _) (errs : _) (again : _) (hm : 0x17eed71 &&& m = 0x17eed71) (h : Keeps m s t) :
    Keeps m s (run (execMemRead tag line errs again t) t) :=
  .step (by
    simp only [execMemRead, run]
    repeat' first | (simp (maxDischargeDepth := 60); done) | split | (dsimp only; split) | (refine Keeps.foldl (fun u a => ?_) ?_) | dsimp only) hm h

@[simp] theorem memWriteAt_keeps {m : Nat} {s t : State} (tag : _) (line : _) (mask : _) (data : _) (bad : _) (hm : 0x17eed71 &&& m = 0x17eed71) (h : Keeps m s t) :
    Keeps m s (memWriteAt tag line mask data bad t) :=
  .step (by
    unfold memWriteAt
    repeat' first | (simp (maxDischargeDepth := 60); done) | split | (dsimp only; split) | (refine Keeps.foldl (fun u a => ?_) ?_) | dsimp only) hm h

@[simp] theorem execMemWrite_keeps {m : Nat} {s t : State} (tag : _) (line : _) (mask : _) (data : _) (bad : _) (hm : 0x17eed71 &&& m = 0x17eed71) (h : Keeps m s t) :
    Keeps m s (run (execMemWrite tag line mask data bad t) t) :=
  .step (by
    simp only [execMemWrite, run]
    repeat' first | (simp (maxDischargeDepth := 60); done) | split | (dsimp only; split) | (refine Keeps.foldl (fun u a => ?_) ?_) | dsimp only) hm h

@[simp] theorem execWriteHoldTimeout_keeps {m : Nat} {s t : State} (tag : _) (hm : 0x100000 &&& m = 0x100000) (h : Keeps m s t) :
    Keeps m s (run (execWriteHoldTimeout tag t) t) :=
  .step (by
    simp only [execWriteHoldTimeout, run]
    repeat' first | (simp (maxDischargeDepth := 60); done) | split | (dsimp only; split) | (refine Keeps.foldl (fun u a => ?_) ?_) | dsimp only) hm h

/-! ### InputWatch -/

@[simp] theorem execPreflushClear_keeps {m : Nat} {s t : State} (hm : 0x106000 &&& m = 0x106000) (h : Keeps m s t) :
    Keeps m s (run (execPreflushClear t) t) :=
  .step (by
    simp only [execPreflushClear, run]
    simp (maxDischargeDepth := 60)) hm h

@[simp] theorem qualified_keeps {m : Nat} {s t : State} (hm : 0x110080 &&& m = 0x110080) (h : Keeps m s t) :
    Keeps m s (qualified t) :=
  .step (by
    unfold qualified
    simp (maxDischargeDepth := 60)) hm h

@[simp] theorem inputCommit_keeps {m : Nat} {s t : State} (trigger : _) (hm : 0x3ffffff &&& m = 0x3ffffff) (h : Keeps m s t) :
    Keeps m s (inputCommit trigger t) :=
  .step (by
    unfold inputCommit
    repeat' first | (simp (maxDischargeDepth := 60); done) | split | (dsimp only; split) | (refine Keeps.foldl (fun u a => ?_) ?_) | dsimp only) hm h

@[simp] theorem execRideThroughExpiry_keeps {m : Nat} {s t : State} (hm : 0x3ffffff &&& m = 0x3ffffff) (h : Keeps m s t) :
    Keeps m s (run (execRideThroughExpiry t) t) :=
  .step (by
    simp only [execRideThroughExpiry, run]
    simp (maxDischargeDepth := 60)) hm h

@[simp] theorem execInputAbovePfail_keeps {m : Nat} {s t : State} (hm : 0x110080 &&& m = 0x110080) (h : Keeps m s t) :
    Keeps m s (run (execInputAbovePfail t) t) :=
  .step (by
    simp only [execInputAbovePfail, run]
    simp (maxDischargeDepth := 60)) hm h

@[simp] theorem execEarlyCommit_keeps {m : Nat} {s t : State} (hm : 0x3ffffff &&& m = 0x3ffffff) (h : Keeps m s t) :
    Keeps m s (run (execEarlyCommit t) t) :=
  .step (by
    simp only [execEarlyCommit, run]
    simp (maxDischargeDepth := 60)) hm h

@[simp] theorem execInputBelowQuag_keeps {m : Nat} {s t : State} (hm : 0x100188 &&& m = 0x100188) (h : Keeps m s t) :
    Keeps m s (run (execInputBelowQuag t) t) :=
  .step (by
    simp only [execInputBelowQuag, run]
    simp (maxDischargeDepth := 60)) hm h

@[simp] theorem execPfailQualified_keeps {m : Nat} {s t : State} (hm : 0x110080 &&& m = 0x110080) (h : Keeps m s t) :
    Keeps m s (run (execPfailQualified t) t) :=
  .step (by
    simp only [execPfailQualified, run]
    simp (maxDischargeDepth := 60)) hm h

@[simp] theorem execSettleRecovered_keeps {m : Nat} {s t : State} (hm : 0x514080 &&& m = 0x514080) (h : Keeps m s t) :
    Keeps m s (run (execSettleRecovered t) t) :=
  .step (by
    simp only [execSettleRecovered, run]
    simp (maxDischargeDepth := 60)) hm h

@[simp] theorem execInputBelowPfail_keeps {m : Nat} {s t : State} (hm : 0x114188 &&& m = 0x114188) (h : Keeps m s t) :
    Keeps m s (run (execInputBelowPfail t) t) :=
  .step (by
    simp only [execInputBelowPfail, run]
    repeat' first | (simp (maxDischargeDepth := 60); done) | split | (dsimp only; split) | (refine Keeps.foldl (fun u a => ?_) ?_) | dsimp only) hm h

@[simp] theorem execSettleLimitExpiry_keeps {m : Nat} {s t : State} (hm : 0x110080 &&& m = 0x110080) (h : Keeps m s t) :
    Keeps m s (run (execSettleLimitExpiry t) t) :=
  .step (by
    simp only [execSettleLimitExpiry, run]
    simp (maxDischargeDepth := 60)) hm h

@[simp] theorem execRideThroughSurvived_keeps {m : Nat} {s t : State} (hm : 0x514080 &&& m = 0x514080) (h : Keeps m s t) :
    Keeps m s (run (execRideThroughSurvived t) t) :=
  .step (by
    simp only [execRideThroughSurvived, run]
    simp (maxDischargeDepth := 60)) hm h

/-! ### Dump -/

@[simp] theorem windowSum_keeps {m : Nat} {s t : State} (drawn : _) (hm : 0x80 &&& m = 0x80) (h : Keeps m s t) :
    Keeps m s (windowSum drawn t) :=
  .step (by
    unfold windowSum
    simp (maxDischargeDepth := 60)) hm h

@[simp] theorem execDirtyListReady_keeps {m : Nat} {s t : State} (q : _) (hm : 0x3ffffff &&& m = 0x3ffffff) (h : Keeps m s t) :
    Keeps m s (run (execDirtyListReady q t) t) :=
  .step (by
    simp only [execDirtyListReady, run]
    simp (maxDischargeDepth := 60)) hm h

@[simp] theorem execTestDump_keeps {m : Nat} {s t : State} (hm : 0x1ffedff &&& m = 0x1ffedff) (h : Keeps m s t) :
    Keeps m s (run (execTestDump t) t) :=
  .step (by
    simp only [execTestDump, run]
    simp (maxDischargeDepth := 60)) hm h

@[simp] theorem coastLine_keeps {m : Nat} {s t : State} (w : _) (hm : 0x1000050 &&& m = 0x1000050) (h : Keeps m s t) :
    Keeps m s (coastLine w t) :=
  .step (by
    unfold coastLine
    simp (maxDischargeDepth := 60)) hm h

@[simp] theorem execCoastEnd_keeps {m : Nat} {s t : State} (hm : 0x1504070 &&& m = 0x1504070) (h : Keeps m s t) :
    Keeps m s (run (execCoastEnd t) t) :=
  .step (by
    simp only [execCoastEnd, run]
    simp (maxDischargeDepth := 60)) hm h

@[simp] theorem execDumpEnergySample_keeps {m : Nat} {s t : State} (m' : _) (hm : 0x3ffffff &&& m = 0x3ffffff) (h : Keeps m s t) :
    Keeps m s (run (execDumpEnergySample m' t) t) :=
  .step (by
    simp only [execDumpEnergySample, run]
    repeat' first | (simp (maxDischargeDepth := 60); done) | split | (dsimp only; split) | (refine Keeps.foldl (fun u a => ?_) ?_) | dsimp only) hm h

@[simp] theorem execDumpBounce_keeps {m : Nat} {s t : State} (hm : 0x104000 &&& m = 0x104000) (h : Keeps m s t) :
    Keeps m s (run (execDumpBounce t) t) :=
  .step (by
    simp only [execDumpBounce, run]
    simp (maxDischargeDepth := 60)) hm h

@[simp] theorem tailPassed_keeps {m : Nat} {s t : State} (q : _) (p : _) (hm : 0x800 &&& m = 0x800) (h : Keeps m s t) :
    Keeps m s (tailPassed q p t) :=
  .step (by
    unfold tailPassed
    repeat' first | (simp (maxDischargeDepth := 60); done) | split | (dsimp only; split) | (refine Keeps.foldl (fun u a => ?_) ?_) | dsimp only) hm h

@[simp] theorem dumpPassed_keeps {m : Nat} {s t : State} (q : _) (vpa : _) (hm : 0x127800 &&& m = 0x127800) (h : Keeps m s t) :
    Keeps m s (dumpPassed q vpa t) :=
  .step (by
    unfold dumpPassed
    repeat' first | (simp (maxDischargeDepth := 60); done) | split | (dsimp only; split) | (refine Keeps.foldl (fun u a => ?_) ?_) | dsimp only) hm h

@[simp] theorem execDumpProgramComplete_keeps {m : Nat} {s t : State} (vpa : _) (ok : _) (hm : 0x3ffffff &&& m = 0x3ffffff) (h : Keeps m s t) :
    Keeps m s (run (execDumpProgramComplete vpa ok t) t) :=
  .step (by
    simp only [execDumpProgramComplete, run]
    repeat' first | (simp (maxDischargeDepth := 60); done) | split | (dsimp only; split) | (refine Keeps.foldl (fun u a => ?_) ?_) | dsimp only) hm h

/-! ### Vault -/

@[simp] theorem channelDown_keeps {m : Nat} {s t : State} (c : _) (hm : 0x3ffffff &&& m = 0x3ffffff) (h : Keeps m s t) :
    Keeps m s (channelDown c t) :=
  .step (by
    unfold channelDown
    simp (maxDischargeDepth := 60)) hm h

@[simp] theorem execVaultForceFail_keeps {m : Nat} {s t : State} (c : _) (hm : 0x3ffffff &&& m = 0x3ffffff) (h : Keeps m s t) :
    Keeps m s (run (execVaultForceFail c t) t) :=
  .step (by
    simp only [execVaultForceFail, run]
    simp (maxDischargeDepth := 60)) hm h

@[simp] theorem wakeVault_keeps {m : Nat} {s t : State} (hm : 0x700510 &&& m = 0x700510) (h : Keeps m s t) :
    Keeps m s (wakeVault t) :=
  .step (by
    unfold wakeVault
    simp (maxDischargeDepth := 60)) hm h

@[simp] theorem rebuildsFailed_keeps {m : Nat} {s t : State} (n : _) (failed : _) (hm : 0x100000 &&& m = 0x100000) (h : Keeps m s t) :
    Keeps m s (rebuildsFailed n failed t) :=
  .step (by
    unfold rebuildsFailed
    simp (maxDischargeDepth := 60)) hm h

@[simp] theorem collectSeg_keeps {m : Nat} {s t : State} (n : _) (failed : _) (hm : 0x1ffedff &&& m = 0x1ffedff) (h : Keeps m s t) :
    Keeps m s (collectSeg n failed t) :=
  .step (by
    unfold collectSeg
    simp (maxDischargeDepth := 60)) hm h

@[simp] theorem execTwinCompaction_keeps {m : Nat} {s t : State} (n : _) (failed : _) (hm : 0x1ffedff &&& m = 0x1ffedff) (h : Keeps m s t) :
    Keeps m s (run (execTwinCompaction n failed t) t) :=
  .step (by
    simp only [execTwinCompaction, run]
    simp (maxDischargeDepth := 60)) hm h

@[simp] theorem execVaultEraseComplete_keeps {m : Nat} {s t : State} (n : _) (failed : _) (slow : _) (hm : 0x1fffdff &&& m = 0x1fffdff) (h : Keeps m s t) :
    Keeps m s (run (execVaultEraseComplete n failed slow t) t) :=
  .step (by
    simp only [execVaultEraseComplete, run]
    simp (maxDischargeDepth := 60)) hm h

@[simp] theorem execLogFlush_keeps {m : Nat} {s t : State} (hm : 0x102800 &&& m = 0x102800) (h : Keeps m s t) :
    Keeps m s (run (execLogFlush t) t) :=
  .step (by
    simp only [execLogFlush, run]
    simp (maxDischargeDepth := 60)) hm h

@[simp] theorem execGcRelocate_keeps {m : Nat} {s t : State} (failed : _) (hm : 0x1ffedff &&& m = 0x1ffedff) (h : Keeps m s t) :
    Keeps m s (run (execGcRelocate failed t) t) :=
  .step (by
    simp only [execGcRelocate, run]
    repeat' first | (simp (maxDischargeDepth := 60); done) | split | (dsimp only; split) | (refine Keeps.foldl (fun u a => ?_) ?_) | dsimp only) hm h

@[simp] theorem execVaultTraining_keeps {m : Nat} {s t : State} (c : _) (ok : _) (hm : 0x3ffffff &&& m = 0x3ffffff) (h : Keeps m s t) :
    Keeps m s (run (execVaultTraining c ok t) t) :=
  .step (by
    simp only [execVaultTraining, run]
    simp (maxDischargeDepth := 60)) hm h

@[simp] theorem execDieTimeout_keeps {m : Nat} {s t : State} (c : _) (d : _) (hm : 0x3ffffff &&& m = 0x3ffffff) (h : Keeps m s t) :
    Keeps m s (run (execDieTimeout c d t) t) :=
  .step (by
    simp only [execDieTimeout, run]
    simp (maxDischargeDepth := 60)) hm h

@[simp] theorem execVaultScrub_keeps {m : Nat} {s t : State} (n : _) (hm : 0x700d10 &&& m = 0x700d10) (h : Keeps m s t) :
    Keeps m s (run (execVaultScrub n t) t) :=
  .step (by
    simp only [execVaultScrub, run]
    simp (maxDischargeDepth := 60)) hm h

@[simp] theorem execRedundancyRebuild_keeps {m : Nat} {s t : State} (failed : _) (hm : 0x1ffedff &&& m = 0x1ffedff) (h : Keeps m s t) :
    Keeps m s (run (execRedundancyRebuild failed t) t) :=
  .step (by
    simp only [execRedundancyRebuild, run]
    repeat' first | (simp (maxDischargeDepth := 60); done) | split | (dsimp only; split) | (refine Keeps.foldl (fun u a => ?_) ?_) | dsimp only) hm h

@[simp] theorem execWearLevelMove_keeps {m : Nat} {s t : State} (failed : _) (hm : 0x1ffedff &&& m = 0x1ffedff) (h : Keeps m s t) :
    Keeps m s (run (execWearLevelMove failed t) t) :=
  .step (by
    simp only [execWearLevelMove, run]
    repeat' first | (simp (maxDischargeDepth := 60); done) | split | (dsimp only; split) | (refine Keeps.foldl (fun u a => ?_) ?_) | dsimp only) hm h

@[simp] theorem blockRead_keeps {m : Nat} {s t : State} (v : _) (load : _) (last : _) (hm : 0x100800 &&& m = 0x100800) (h : Keeps m s t) :
    Keeps m s (blockRead v load last t) :=
  .step (by
    unfold blockRead
    simp (maxDischargeDepth := 60)) hm h

@[simp] theorem execVaultReadComplete_keeps {m : Nat} {s t : State} (v : _) (words : _) (ones : _) (hard : _) (decoded : _) (rebuilt : _) (last : _) (hm : 0x101800 &&& m = 0x101800) (h : Keeps m s t) :
    Keeps m s (run (execVaultReadComplete v words ones hard decoded rebuilt last t) t) :=
  .step (by
    simp only [execVaultReadComplete, run]
    simp (maxDischargeDepth := 60)) hm h

/-! ### RoleOps -/

@[simp] theorem dumpResume_keeps {m : Nat} {s t : State} (q : _) (hm : 0x4800 &&& m = 0x4800) (h : Keeps m s t) :
    Keeps m s (dumpResume q t) :=
  .step (by
    unfold dumpResume
    simp (maxDischargeDepth := 60)) hm h

@[simp] theorem sdeFail_keeps {m : Nat} {s t : State} (q : _) (hm : 0x3ffffff &&& m = 0x3ffffff) (h : Keeps m s t) :
    Keeps m s (sdeFail q t) :=
  .step (by
    unfold sdeFail
    repeat' first | (simp (maxDischargeDepth := 60); done) | split | (dsimp only; split) | (refine Keeps.foldl (fun u a => ?_) ?_) | dsimp only) hm h

@[simp] theorem engineFail_keeps {m : Nat} {s t : State} (q : _) (hm : 0x3ffffff &&& m = 0x3ffffff) (h : Keeps m s t) :
    Keeps m s (engineFail q t) :=
  .step (by
    unfold engineFail
    simp (maxDischargeDepth := 60)) hm h

/-! ### Power -/

@[simp] theorem execDomainWake_keeps {m : Nat} {s t : State} (kind : _) (d : _) (hm : 0x700510 &&& m = 0x700510) (h : Keeps m s t) :
    Keeps m s (run (execDomainWake kind d t) t) :=
  .step (by
    simp only [execDomainWake, run]
    simp (maxDischargeDepth := 60)) hm h

@[simp] theorem setFilter_keeps {m : Nat} {s t : State} (p : _) (f : _) (hm : 0x400 &&& m = 0x400) (h : Keeps m s t) :
    Keeps m s (setFilter p f t) :=
  .step (by
    unfold setFilter
    repeat' first | (simp (maxDischargeDepth := 60); done) | split | (dsimp only; split) | (refine Keeps.foldl (fun u a => ?_) ?_) | dsimp only) hm h

@[simp] theorem execDomainReady_keeps {m : Nat} {s t : State} (d : _) (us : _) (hm : 0x1ffedff &&& m = 0x1ffedff) (h : Keeps m s t) :
    Keeps m s (run (execDomainReady d us t) t) :=
  .step (by
    simp only [execDomainReady, run]
    simp (maxDischargeDepth := 60)) hm h

@[simp] theorem pinAsserted_keeps {m : Nat} {s t : State} (p : _) (hm : 0x3ffffff &&& m = 0x3ffffff) (h : Keeps m s t) :
    Keeps m s (pinAsserted p t) :=
  .step (by
    unfold pinAsserted
    repeat' first | (simp (maxDischargeDepth := 60); done) | split | (dsimp only; split) | (refine Keeps.foldl (fun u a => ?_) ?_) | dsimp only) hm h

@[simp] theorem pinReleased_keeps {m : Nat} {s t : State} (p : _) (hm : 0x7045bc &&& m = 0x7045bc) (h : Keeps m s t) :
    Keeps m s (pinReleased p t) :=
  .step (by
    unfold pinReleased
    simp (maxDischargeDepth := 60)) hm h

@[simp] theorem execFilterTimer_keeps {m : Nat} {s t : State} (p : _) (hm : 0x3ffffff &&& m = 0x3ffffff) (h : Keeps m s t) :
    Keeps m s (run (execFilterTimer p t) t) :=
  .step (by
    simp only [execFilterTimer, run]
    repeat' first | (simp (maxDischargeDepth := 60); done) | split | (dsimp only; split) | (refine Keeps.foldl (fun u a => ?_) ?_) | dsimp only) hm h

@[simp] theorem execRailFault_keeps {m : Nat} {s t : State} (rail : _) (mv : _) (hm : 0x3ffffff &&& m = 0x3ffffff) (h : Keeps m s t) :
    Keeps m s (run (execRailFault rail mv t) t) :=
  .step (by
    simp only [execRailFault, run]
    simp (maxDischargeDepth := 60)) hm h

@[simp] theorem execFilterInputEdge_keeps {m : Nat} {s t : State} (p : _) (level : _) (short : _) (hm : 0x17eed71 &&& m = 0x17eed71) (h : Keeps m s t) :
    Keeps m s (run (execFilterInputEdge p level short t) t) :=
  .step (by
    simp only [execFilterInputEdge, run]
    simp (maxDischargeDepth := 60)) hm h

@[simp] theorem execVaultOff_keeps {m : Nat} {s t : State} (hm : 0x100400 &&& m = 0x100400) (h : Keeps m s t) :
    Keeps m s (run (execVaultOff t) t) :=
  .step (by
    simp only [execVaultOff, run]
    simp (maxDischargeDepth := 60)) hm h

@[simp] theorem p2Advance_keeps {m : Nat} {s t : State} (hm : 0x302511 &&& m = 0x302511) (h : Keeps m s t) :
    Keeps m s (p2Advance t) :=
  .step (by
    unfold p2Advance
    simp (maxDischargeDepth := 60)) hm h

@[simp] theorem execStallTimeout_keeps {m : Nat} {s t : State} (d : _) (hm : 0x3ffffff &&& m = 0x3ffffff) (h : Keeps m s t) :
    Keeps m s (run (execStallTimeout d t) t) :=
  .step (by
    simp only [execStallTimeout, run]
    simp (maxDischargeDepth := 60)) hm h

@[simp] theorem gateDomain_keeps {m : Nat} {s t : State} (d : _) (hm : 0x400 &&& m = 0x400) (h : Keeps m s t) :
    Keeps m s (gateDomain d t) :=
  .step (by
    unfold gateDomain
    simp (maxDischargeDepth := 60)) hm h

@[simp] theorem execTempRange_keeps {m : Nat} {s t : State} (k : _) (out : _) (temp : _) (hm : 0x100400 &&& m = 0x100400) (h : Keeps m s t) :
    Keeps m s (run (execTempRange k out temp t) t) :=
  .step (by
    simp only [execTempRange, run]
    simp (maxDischargeDepth := 60)) hm h

@[simp] theorem execIdleTimer_keeps {m : Nat} {s t : State} (d : _) (hm : 0x100401 &&& m = 0x100401) (h : Keeps m s t) :
    Keeps m s (run (execIdleTimer d t) t) :=
  .step (by
    simp only [execIdleTimer, run]
    simp (maxDischargeDepth := 60)) hm h

@[simp] theorem execP2StepDone_keeps {m : Nat} {s t : State} (refusals : _) (hm : 0x17eed71 &&& m = 0x17eed71) (h : Keeps m s t) :
    Keeps m s (run (execP2StepDone refusals t) t) :=
  .step (by
    simp only [execP2StepDone, run]
    repeat' first | (simp (maxDischargeDepth := 60); done) | split | (dsimp only; split) | (refine Keeps.foldl (fun u a => ?_) ?_) | dsimp only) hm h

@[simp] theorem execP2StopTimeout_keeps {m : Nat} {s t : State} (unit : _) (hm : 0x17eed71 &&& m = 0x17eed71) (h : Keeps m s t) :
    Keeps m s (run (execP2StopTimeout unit t) t) :=
  .step (by
    simp only [execP2StopTimeout, run]
    simp (maxDischargeDepth := 60)) hm h

end Sys2Proof.Machine
end

