-- ==== Sys2Proof/Laws/KeepsSystem.lean ====
section
/-!
SUPPORT. What every operation of these files keeps: Reset Integrity Roles Registers Tussock. One lemma per operation: it changes only the parts of its mask,
leaves the queue alone, keeps the cache DRAM canonical, and loses no bit of the Bog-oak row.
-/

namespace Sys2Proof.Machine

set_option maxRecDepth 8000
set_option linter.unusedTactic false
set_option linter.unreachableTactic false

/-! ### Reset -/

@[simp] theorem firmwareReset_keeps {m : Nat} {s t : State} (trigger : _) (hm : 0x17fedfd &&& m = 0x17fedfd) (h : Keeps m s t) :
    Keeps m s (firmwareReset trigger t) :=
  .step (by
    unfold firmwareReset
    simp (maxDischargeDepth := 60)) hm h

@[simp] theorem lockstepReset_keeps {m : Nat} {s t : State} (hm : 0x17fedfd &&& m = 0x17fedfd) (h : Keeps m s t) :
    Keeps m s (lockstepReset t) :=
  .step (by
    unfold lockstepReset
    simp (maxDischargeDepth := 60)) hm h

@[simp] theorem execStructReset_keeps {m : Nat} {s t : State} (hm : 0x3ffffff &&& m = 0x3ffffff) (h : Keeps m s t) :
    Keeps m s (run (execStructReset t) t) :=
  .step (by
    simp only [execStructReset, run]
    simp (maxDischargeDepth := 60)) hm h

@[simp] theorem execFwRestart_keeps {m : Nat} {s t : State} (hm : 0x17fedfd &&& m = 0x17fedfd) (h : Keeps m s t) :
    Keeps m s (run (execFwRestart t) t) :=
  .step (by
    simp only [execFwRestart, run]
    simp (maxDischargeDepth := 60)) hm h

@[simp] theorem execKick_keeps {m : Nat} {s t : State} (path : _) (hm : 0x400 &&& m = 0x400) (h : Keeps m s t) :
    Keeps m s (run (execKick path t) t) :=
  .step (by
    simp only [execKick, run]
    simp (maxDischargeDepth := 60)) hm h

@[simp] theorem execReboot_keeps {m : Nat} {s t : State} (hm : 0x3ffffff &&& m = 0x3ffffff) (h : Keeps m s t) :
    Keeps m s (run (execReboot t) t) :=
  .step (by
    simp only [execReboot, run]
    simp (maxDischargeDepth := 60)) hm h

@[simp] theorem execWatchdogExpiry_keeps {m : Nat} {s t : State} (hm : 0x17fedfd &&& m = 0x17fedfd) (h : Keeps m s t) :
    Keeps m s (run (execWatchdogExpiry t) t) :=
  .step (by
    simp only [execWatchdogExpiry, run]
    simp (maxDischargeDepth := 60)) hm h

@[simp] theorem execLockstepMismatch_keeps {m : Nat} {s t : State} (hm : 0x17fedfd &&& m = 0x17fedfd) (h : Keeps m s t) :
    Keeps m s (run (execLockstepMismatch t) t) :=
  .step (by
    simp only [execLockstepMismatch, run]
    simp (maxDischargeDepth := 60)) hm h

/-! ### Integrity -/

@[simp] theorem unknownGranule_keeps {m : Nat} {s t : State} (g : _) (hm : 0x382060 &&& m = 0x382060) (h : Keeps m s t) :
    Keeps m s (unknownGranule g t) :=
  .step (by
    unfold unknownGranule
    simp (maxDischargeDepth := 60)) hm h

@[simp] theorem gstWordLost_keeps {m : Nat} {s t : State} (q : _) (addr : _) (hm : 0x17eed71 &&& m = 0x17eed71) (h : Keeps m s t) :
    Keeps m s (gstWordLost q addr t) :=
  .step (by
    unfold gstWordLost
    simp (maxDischargeDepth := 60)) hm h

@[simp] theorem aosWordLost_keeps {m : Nat} {s t : State} (addr : _) (hm : 0x104100 &&& m = 0x104100) (h : Keeps m s t) :
    Keeps m s (aosWordLost addr t) :=
  .step (by
    unfold aosWordLost
    simp (maxDischargeDepth := 60)) hm h

@[simp] theorem sramOwner_keeps {m : Nat} {s t : State} (w : _) (hm : 0x17fedfd &&& m = 0x17fedfd) (h : Keeps m s t) :
    Keeps m s (sramOwner w t) :=
  .step (by
    unfold sramOwner
    repeat' first | (simp (maxDischargeDepth := 60); done) | split | (dsimp only; split) | (refine Keeps.foldl (fun u a => ?_) ?_) | dsimp only) hm h

@[simp] theorem sramCount_keeps {m : Nat} {s t : State} (w : _) (hm : 0x80000 &&& m = 0x80000) (h : Keeps m s t) :
    Keeps m s (sramCount w t) :=
  .step (by
    unfold sramCount
    simp (maxDischargeDepth := 60)) hm h

@[simp] theorem sramFinding_keeps {m : Nat} {s t : State} (w : _) (hm : 0x17fedfd &&& m = 0x17fedfd) (h : Keeps m s t) :
    Keeps m s (sramFinding w t) :=
  .step (by
    unfold sramFinding
    simp (maxDischargeDepth := 60)) hm h

@[simp] theorem execSramScrub_keeps {m : Nat} {s t : State} (found : _) (hm : 0x17fedfd &&& m = 0x17fedfd) (h : Keeps m s t) :
    Keeps m s (run (execSramScrub found t) t) :=
  .step (by
    simp only [execSramScrub, run]
    simp (maxDischargeDepth := 60)) hm h

@[simp] theorem execMarkSet_keeps {m : Nat} {s t : State} (q : _) (hm : 0x380010 &&& m = 0x380010) (h : Keeps m s t) :
    Keeps m s (run (execMarkSet q t) t) :=
  .step (by
    simp only [execMarkSet, run]
    simp (maxDischargeDepth := 60)) hm h

@[simp] theorem execSdeStallTimeout_keeps {m : Nat} {s t : State} (q : _) (hm : 0x3ffffff &&& m = 0x3ffffff) (h : Keeps m s t) :
    Keeps m s (run (execSdeStallTimeout q t) t) :=
  .step (by
    simp only [execSdeStallTimeout, run]
    simp (maxDischargeDepth := 60)) hm h

@[simp] theorem patrolNext_keeps {m : Nat} {s t : State} (q : _) (hm : 0x80000 &&& m = 0x80000) (h : Keeps m s t) :
    Keeps m s (patrolNext q t) :=
  .step (by
    unfold patrolNext
    simp (maxDischargeDepth := 60)) hm h

@[simp] theorem reservedLost_keeps {m : Nat} {s t : State} (q : _) (r : _) (hm : 0x17eed71 &&& m = 0x17eed71) (h : Keeps m s t) :
    Keeps m s (reservedLost q r t) :=
  .step (by
    unfold reservedLost
    repeat' first | (simp (maxDischargeDepth := 60); done) | split | (dsimp only; split) | (refine Keeps.foldl (fun u a => ?_) ?_) | dsimp only) hm h

@[simp] theorem patrolReserved_keeps {m : Nat} {s t : State} (q cl : Nat) (errs again : List SymErr) (r : ReservedWord)
    (hm : 0x3ffffff &&& m = 0x3ffffff) (h : Keeps m s t) : Keeps m s (patrolReserved q cl errs again r t) :=
  .step (by
    unfold patrolReserved
    dsimp only
    generalize List.map _ (List.range 8) = rs
    have k : ∀ l : List WordRead, Keeps 0x3ffffff t (l.foldl (fun t x => match x with
      | .corrected m => symbolFixed q cl m false false (again.any (fun e => e.sym = m)) t
      | _ => t) t) := fun l => Keeps.foldl (fun u x => by split <;> simp (maxDischargeDepth := 60)) (Keeps.refl _ t)
    have k' := k rs
    generalize rs.foldl _ t = s1 at k' ⊢
    refine k'.trans ?_
    (repeat' first | (simp (maxDischargeDepth := 60); done) | split | (dsimp only; split) | (refine Keeps.foldl (fun u a => ?_) ?_) | dsimp only)) hm h

@[simp] theorem execSdeParityError_keeps {m : Nat} {s t : State} (q : _) (hm : 0x3ffffff &&& m = 0x3ffffff) (h : Keeps m s t) :
    Keeps m s (run (execSdeParityError q t) t) :=
  .step (by
    simp only [execSdeParityError, run]
    simp (maxDischargeDepth := 60)) hm h

@[simp] theorem execPatrolRead_keeps {m : Nat} {s t : State} (q : _) (errs : _) (again : _) (r : _) (hm : 0x3ffffff &&& m = 0x3ffffff) (h : Keeps m s t) :
    Keeps m s (run (execPatrolRead q errs again r t) t) :=
  .step (by
    simp only [execPatrolRead, run]
    simp (maxDischargeDepth := 60)) hm h

@[simp] theorem execInjectArm_keeps {m : Nat} {s t : State} (q : _) (hm : 0x3ffffff &&& m = 0x3ffffff) (h : Keeps m s t) :
    Keeps m s (run (execInjectArm q t) t) :=
  .step (by
    simp only [execInjectArm, run]
    simp (maxDischargeDepth := 60)) hm h

/-! ### Roles -/

@[simp] theorem execRoleDataWrite_keeps {m : Nat} {s t : State} (func : _) (cover : _) (hm : 0x100001 &&& m = 0x100001) (h : Keeps m s t) :
    Keeps m s (run (execRoleDataWrite func cover t) t) :=
  .step (by
    simp only [execRoleDataWrite, run]
    simp (maxDischargeDepth := 60)) hm h

@[simp] theorem dumpMessageLost_keeps {m : Nat} {s t : State} (target : _) (hm : 0x3ffffff &&& m = 0x3ffffff) (h : Keeps m s t) :
    Keeps m s (dumpMessageLost target t) :=
  .step (by
    unfold dumpMessageLost
    simp (maxDischargeDepth := 60)) hm h

@[simp] theorem setBounces_keeps {m : Nat} {s t : State} (m' : _) (n : _) (hm : 0x1 &&& m = 0x1) (h : Keeps m s t) :
    Keeps m s (setBounces m' n t) :=
  .step (by
    unfold setBounces
    simp (maxDischargeDepth := 60)) hm h

@[simp] theorem execStaleRole_keeps {m : Nat} {s t : State} (m' : _) (hm : 0x3ffffff &&& m = 0x3ffffff) (h : Keeps m s t) :
    Keeps m s (run (execStaleRole m' t) t) :=
  .step (by
    simp only [execStaleRole, run]
    simp (maxDischargeDepth := 60)) hm h

@[simp] theorem execMessageArrival_keeps {m : Nat} {s t : State} (m' : _) (bad : _) (hm : 0x380001 &&& m = 0x380001) (h : Keeps m s t) :
    Keeps m s (run (execMessageArrival m' bad t) t) :=
  .step (by
    simp only [execMessageArrival, run]
    simp (maxDischargeDepth := 60)) hm h

/-! ### Registers -/

@[simp] theorem localRead_keeps {m : Nat} {s t : State} (path : _) (addr : _) (width : _) (hm : 0x7ff6bd &&& m = 0x7ff6bd) (h : Keeps m s t) :
    Keeps m s (localRead path addr width t) :=
  .step (by
    unfold localRead
    simp (maxDischargeDepth := 60)) hm h

@[simp] theorem RegWr.onOne_keeps {m : Nat} {s t : State} (w : RegWr) (i : Nat) (f : State → Result) (hf : ∀ u, Keeps m u (run (f u) u))
    (h : Keeps m s t) : Keeps m s (w.onOne i f t) :=
  h.trans (by
    unfold RegWr.onOne
    split
    · exact hf t
    · exact Keeps.refl m t)

@[simp] theorem keyCommand_keeps {m : Nat} {s t : State} (path : _) (op : _) (hm : 0x130001 &&& m = 0x130001) (h : Keeps m s t) :
    Keeps m s (keyCommand path op t) :=
  .step (by
    unfold keyCommand
    repeat' first | (simp (maxDischargeDepth := 60); done) | split | (dsimp only; split) | (refine Keeps.foldl (fun u a => ?_) ?_) | dsimp only) hm h

@[simp] theorem actUnits_keeps {m : Nat} {s t : State} (w : _) (a : _) (fact : _) (hm : 0x3ffffff &&& m = 0x3ffffff) (h : Keeps m s t) :
    Keeps m s (actUnits w a fact t) :=
  .step (by
    unfold actUnits
    repeat' first | (simp (maxDischargeDepth := 60); done) | split | (dsimp only; split) | (refine Keeps.foldl (fun u a => ?_) ?_) | dsimp only) hm h

@[simp] theorem liveCommand_keeps {m : Nat} {s t : State} (hm : 0x300002 &&& m = 0x300002) (h : Keeps m s t) :
    Keeps m s (liveCommand t) :=
  .step (by
    unfold liveCommand
    repeat' first | (simp (maxDischargeDepth := 60); done) | split | (dsimp only; split) | (refine Keeps.foldl (fun u a => ?_) ?_) | dsimp only) hm h

@[simp] theorem actFront_keeps {m : Nat} {s t : State} (w : RegWr) (a : Nat) (hm : 0x1ffefff &&& m = 0x1ffefff) (h : Keeps m s t) :
    Keeps m s (actFront w a t) :=
  .step (by
    unfold actFront
    split
    · simp (maxDischargeDepth := 60)
    · split
      · simp (maxDischargeDepth := 60)
      · simp (maxDischargeDepth := 60) [RegWr.onOne_keeps]
    all_goals try split
    all_goals first
      | (simp (maxDischargeDepth := 60); done)
      | (refine RegWr.onOne_keeps _ _ _ (fun u => ?_) (Keeps.refl _ t); simp)) hm h

@[simp] theorem actQuad_keeps {m : Nat} {s t : State} (w : _) (a : _) (hm : 0x3ffffff &&& m = 0x3ffffff) (h : Keeps m s t) :
    Keeps m s (actQuad w a t) :=
  .step (by
    unfold actQuad
    simp (maxDischargeDepth := 60)) hm h

@[simp] theorem regWrite_keeps {m : Nat} {s t : State} (w : _) (a : _) (fact : _) (hm : 0x3ffffff &&& m = 0x3ffffff) (h : Keeps m s t) :
    Keeps m s (regWrite w a fact t) :=
  .step (by
    unfold regWrite
    simp (maxDischargeDepth := 60)) hm h

@[simp] theorem localWrite_keeps {m : Nat} {s t : State} (path : _) (addr : _) (width : _) (value : _) (fact : _) (hm : 0x3ffffff &&& m = 0x3ffffff) (h : Keeps m s t) :
    Keeps m s (localWrite path addr width value fact t) :=
  .step (by
    unfold localWrite
    simp (maxDischargeDepth := 60)) hm h

@[simp] theorem badRead_keeps {m : Nat} {s t : State} (path : _) (hm : 0x200000 &&& m = 0x200000) (h : Keeps m s t) :
    Keeps m s (badRead path t) :=
  .step (by
    unfold badRead
    simp (maxDischargeDepth := 60)) hm h

@[simp] theorem windowFail_keeps {m : Nat} {s t : State} (m' : _) (off : _) (hm : 0x110000 &&& m = 0x110000) (h : Keeps m s t) :
    Keeps m s (windowFail m' off t) :=
  .step (by
    unfold windowFail
    simp (maxDischargeDepth := 60)) hm h

@[simp] theorem windowRead_keeps {m : Nat} {s t : State} (path : _) (addr : _) (width : _) (hm : 0x7ff6bd &&& m = 0x7ff6bd) (h : Keeps m s t) :
    Keeps m s (windowRead path addr width t) :=
  .step (by
    unfold windowRead
    repeat' first | (simp (maxDischargeDepth := 60); done) | split | (dsimp only; split) | (refine Keeps.foldl (fun u a => ?_) ?_) | dsimp only) hm h

@[simp] theorem execRcRead_keeps {m : Nat} {s t : State} (path : _) (addr : _) (width : _) (hm : 0x7ff6bd &&& m = 0x7ff6bd) (h : Keeps m s t) :
    Keeps m s (run (execRcRead path addr width t) t) :=
  .step (by
    simp only [execRcRead, run]
    simp (maxDischargeDepth := 60)) hm h

@[simp] theorem windowWrite_keeps {m : Nat} {s t : State} (path : _) (addr : _) (width : _) (value : _) (fact : _) (hm : 0x3ffffff &&& m = 0x3ffffff) (h : Keeps m s t) :
    Keeps m s (windowWrite path addr width value fact t) :=
  .step (by
    unfold windowWrite
    simp (maxDischargeDepth := 60)) hm h

@[simp] theorem windowGone_keeps {m : Nat} {s t : State} (a : _) (hm : 0x310000 &&& m = 0x310000) (h : Keeps m s t) :
    Keeps m s (windowGone a t) :=
  .step (by
    unfold windowGone
    simp (maxDischargeDepth := 60)) hm h

@[simp] theorem execWindowReadTimeout_keeps {m : Nat} {s t : State} (tag : _) (hm : 0x310000 &&& m = 0x310000) (h : Keeps m s t) :
    Keeps m s (run (execWindowReadTimeout tag t) t) :=
  .step (by
    simp only [execWindowReadTimeout, run]
    repeat' first | (simp (maxDischargeDepth := 60); done) | split | (dsimp only; split) | (refine Keeps.foldl (fun u a => ?_) ?_) | dsimp only) hm h

@[simp] theorem execWinRdA_keeps {m : Nat} {s t : State} (src dst hops tag status data : Nat) (good : Bool) (hm : 0x310001 &&& m = 0x310001) (h : Keeps m s t) :
    Keeps m s (run (execWinRdA src dst hops tag status data good t) t) :=
  .step (by
    simp only [execWinRdA, run]
    refine frameArrive_keeps _ _ _ (by decide) (fun u => ?_) (Keeps.refl _ t)
    (repeat' first | (simp (maxDischargeDepth := 60); done) | split | (dsimp only; split) | (refine Keeps.foldl (fun u a => ?_) ?_) | dsimp only)) hm h

@[simp] theorem execWinRd_keeps {m : Nat} {s t : State} (src : _) (dst : _) (hops : _) (tag : _) (off : _) (good : _) (hm : 0x3ff6bd &&& m = 0x3ff6bd) (h : Keeps m s t) :
    Keeps m s (run (execWinRd src dst hops tag off good t) t) :=
  .step (by
    simp only [execWinRd, run]
    simp (maxDischargeDepth := 60)) hm h

@[simp] theorem execWindowWrite_keeps {m : Nat} {s t : State} (path : _) (addr : _) (width : _) (value : _) (fact : _) (hm : 0x3ffffff &&& m = 0x3ffffff) (h : Keeps m s t) :
    Keeps m s (run (execWindowWrite path addr width value fact t) t) :=
  .step (by
    simp only [execWindowWrite, run]
    simp (maxDischargeDepth := 60)) hm h

@[simp] theorem execRegisterWrite_keeps {m : Nat} {s t : State} (path : _) (addr : _) (width : _) (value : _) (fact : _) (hm : 0x3ffffff &&& m = 0x3ffffff) (h : Keeps m s t) :
    Keeps m s (run (execRegisterWrite path addr width value fact t) t) :=
  .step (by
    simp only [execRegisterWrite, run]
    simp (maxDischargeDepth := 60)) hm h

@[simp] theorem execWinWr_keeps {m : Nat} {s t : State} (src : _) (dst : _) (hops : _) (tag : _) (off : _) (be : _) (data : _) (fact : _) (good : _) (hm : 0x3ffffff &&& m = 0x3ffffff) (h : Keeps m s t) :
    Keeps m s (run (execWinWr src dst hops tag off be data fact good t) t) :=
  .step (by
    simp only [execWinWr, run]
    simp (maxDischargeDepth := 60)) hm h

@[simp] theorem execWindowRead_keeps {m : Nat} {s t : State} (path : _) (addr : _) (width : _) (hm : 0x7ff6bd &&& m = 0x7ff6bd) (h : Keeps m s t) :
    Keeps m s (run (execWindowRead path addr width t) t) :=
  .step (by
    simp only [execWindowRead, run]
    simp (maxDischargeDepth := 60)) hm h

/-! ### Tussock -/

@[simp] theorem execShare_keeps {m : Nat} {s t : State} (by_ : _) (dest : _) (pointer : _) (hm : 0x340000 &&& m = 0x340000) (h : Keeps m s t) :
    Keeps m s (run (execShare by_ dest pointer t) t) :=
  .step (by
    simp only [execShare, run]
    repeat' first | (simp (maxDischargeDepth := 60); done) | split | (dsimp only; split) | (refine Keeps.foldl (fun u a => ?_) ?_) | dsimp only) hm h

@[simp] theorem allocFirst_keeps {m : Nat} {s t : State} (l : List AllocReq) (hm : 0x740000 &&& m = 0x740000) (h : Keeps m s t) :
    Keeps m s (allocFirst l t).1 :=
  .step (by
    clear h
    induction l generalizing t with
    | nil => simp [allocFirst]
    | cons r l ih =>
      have ih' : ∀ {s t}, Keeps 0x740000 s t → Keeps 0x740000 s (allocFirst l t).1 := fun k => k.trans ih
      unfold allocFirst
      repeat' split
      all_goals simp (maxDischargeDepth := 60) [ih']) hm h

@[simp] theorem execAlloc_keeps {m : Nat} {s t : State} (reqs : _) (hm : 0x740000 &&& m = 0x740000) (h : Keeps m s t) :
    Keeps m s (run (execAlloc reqs t) t) :=
  .step (by
    simp only [execAlloc, run]
    simp (maxDischargeDepth := 60)) hm h

@[simp] theorem execRelease_keeps {m : Nat} {s t : State} (requester : _) (pointer : _) (hm : 0x340000 &&& m = 0x340000) (h : Keeps m s t) :
    Keeps m s (run (execRelease requester pointer t) t) :=
  .step (by
    simp only [execRelease, run]
    repeat' first | (simp (maxDischargeDepth := 60); done) | split | (dsimp only; split) | (refine Keeps.foldl (fun u a => ?_) ?_) | dsimp only) hm h

end Sys2Proof.Machine
end

