-- ==== Sys2Proof/Laws/Access.lean ====
section
/-!
SUPPORT. Readings of `Keeps` and of the shared operations that proofs cite: a frame by computation on masks, each unit outside a mask
unchanged, a mailbox command that is served, the marks of a poisoned line, and a commit's mode.
-/

namespace Sys2Proof.Machine

set_option maxRecDepth 8000

/-- Every part, for checks of a frame by computation. -/
def allParts : List Part := [.spn, .img, .evr, .ifc, .hlk, .wrp, .gst, .nrg, .aos, .sig, .pwr, .vlt, .vch, .shd, .dmp, .kor, .cwy, .cip, .tsk, .qdc, .raised, .out, .free, .mode, .dram, .bog]

/-- A frame from what was kept: each part outside the list has its bit outside the mask. -/
theorem fr {s t : State} {l : List Part} {m : Nat} (h : Keeps m s t)
    (hl : (allParts.all (fun p => l.contains p || m &&& p.bit == 0)) = true) : OnlyIn l s t := by
  refine h.onlyIn ?_
  intro p hp
  have : p ∈ allParts := by cases p <;> simp [allParts]
  have := List.all_eq_true.1 hl p this
  simpa [hp] using this

/-- A state differs from itself nowhere. -/
theorem onlyIn_rfl (l : List Part) (s : State) : OnlyIn l s s := ⟨fun p _ => Part.same_refl s p, rfl⟩

/-- A last update of the state after what came before it. -/
theorem Keeps.direct {m : Nat} {s t u : State} (h : Keeps m s t) (hs : ∀ p : Part, m &&& p.bit = 0 → Part.same t u p)
    (hp : u.pending = t.pending := by rfl) (hd : u.gst.dram = t.gst.dram := by rfl) (hb : u.ifc.bog = t.ifc.bog := by rfl)
    (hl : u.ifc.bogLocks = t.ifc.bogLocks := by rfl) : Keeps m s u :=
  h.trans ⟨hs, hp, fun x => by simpa [MemoryCanonical, hd] using x, RowKept.of_eq hb hl⟩

/-- A unit outside the mask is unchanged whole. -/
theorem Keeps.gstEq {m : Nat} {s t : State} (h : Keeps m s t) (h1 : m &&& 0x40 = 0) (h2 : m &&& 0x1000000 = 0) : t.gst = s.gst := by
  have a : { s.gst with dram := [] } = { t.gst with dram := [] } := h.same .gst h1
  have b : s.gst.dram = t.gst.dram := h.same .dram h2
  have : t.gst = { { t.gst with dram := [] } with dram := t.gst.dram } := rfl
  rw [this, ← a, ← b]

theorem Keeps.spnEq {m : Nat} {s t : State} (h : Keeps m s t) (h1 : m &&& 0x1 = 0) (h2 : m &&& 0x800000 = 0) : t.spn = s.spn := by
  have a : { s.spn with mode := .boot } = { t.spn with mode := .boot } := h.same .spn h1
  have b : s.spn.mode = t.spn.mode := h.same .mode h2
  have : t.spn = { { t.spn with mode := .boot } with mode := t.spn.mode } := rfl
  rw [this, ← a, ← b]

theorem Keeps.imgEq {m : Nat} {s t : State} (h : Keeps m s t) (hm : m &&& 2 = 0) : t.img = s.img := (h.same .img hm : s.img = t.img).symm
theorem Keeps.evrEq {m : Nat} {s t : State} (h : Keeps m s t) (hm : m &&& 4 = 0) : t.evr = s.evr := (h.same .evr hm : s.evr = t.evr).symm
theorem Keeps.hlkEq {m : Nat} {s t : State} (h : Keeps m s t) (hm : m &&& 16 = 0) : t.hlk = s.hlk := (h.same .hlk hm : s.hlk = t.hlk).symm
theorem Keeps.wrpEq {m : Nat} {s t : State} (h : Keeps m s t) (hm : m &&& 32 = 0) : t.wrp = s.wrp := (h.same .wrp hm : s.wrp = t.wrp).symm
theorem Keeps.nrgEq {m : Nat} {s t : State} (h : Keeps m s t) (hm : m &&& 128 = 0) : t.nrg = s.nrg := (h.same .nrg hm : s.nrg = t.nrg).symm
theorem Keeps.aosEq {m : Nat} {s t : State} (h : Keeps m s t) (hm : m &&& 256 = 0) : t.aos = s.aos := (h.same .aos hm : s.aos = t.aos).symm
theorem Keeps.sigEq {m : Nat} {s t : State} (h : Keeps m s t) (hm : m &&& 512 = 0) : t.sig = s.sig := (h.same .sig hm : s.sig = t.sig).symm
theorem Keeps.pwrEq {m : Nat} {s t : State} (h : Keeps m s t) (hm : m &&& 1024 = 0) : t.pwr = s.pwr := (h.same .pwr hm : s.pwr = t.pwr).symm
theorem Keeps.vltEq {m : Nat} {s t : State} (h : Keeps m s t) (hm : m &&& 2048 = 0) : t.vlt = s.vlt := (h.same .vlt hm : s.vlt = t.vlt).symm
theorem Keeps.vchEq {m : Nat} {s t : State} (h : Keeps m s t) (hm : m &&& 4096 = 0) : t.vch = s.vch := (h.same .vch hm : s.vch = t.vch).symm
theorem Keeps.shdEq {m : Nat} {s t : State} (h : Keeps m s t) (hm : m &&& 8192 = 0) : t.shd = s.shd := (h.same .shd hm : s.shd = t.shd).symm
theorem Keeps.dmpEq {m : Nat} {s t : State} (h : Keeps m s t) (hm : m &&& 16384 = 0) : t.dmp = s.dmp := (h.same .dmp hm : s.dmp = t.dmp).symm
theorem Keeps.korEq {m : Nat} {s t : State} (h : Keeps m s t) (hm : m &&& 32768 = 0) : t.kor = s.kor := (h.same .kor hm : s.kor = t.kor).symm
theorem Keeps.cwyEq {m : Nat} {s t : State} (h : Keeps m s t) (hm : m &&& 65536 = 0) : t.cwy = s.cwy := (h.same .cwy hm : s.cwy = t.cwy).symm
theorem Keeps.cipEq {m : Nat} {s t : State} (h : Keeps m s t) (hm : m &&& 131072 = 0) : t.cip = s.cip := (h.same .cip hm : s.cip = t.cip).symm
theorem Keeps.tskEq {m : Nat} {s t : State} (h : Keeps m s t) (hm : m &&& 262144 = 0) : t.tsk = s.tsk := (h.same .tsk hm : s.tsk = t.tsk).symm
theorem Keeps.qdcEq {m : Nat} {s t : State} (h : Keeps m s t) (hm : m &&& 524288 = 0) : t.qdc = s.qdc := (h.same .qdc hm : s.qdc = t.qdc).symm
theorem Keeps.raisedEq {m : Nat} {s t : State} (h : Keeps m s t) (hm : m &&& 1048576 = 0) : t.raised = s.raised := (h.same .raised hm : s.raised = t.raised).symm
theorem Keeps.outEq {m : Nat} {s t : State} (h : Keeps m s t) (hm : m &&& 2097152 = 0) : t.out = s.out := (h.same .out hm : s.out = t.out).symm
theorem Keeps.freeEq {m : Nat} {s t : State} (h : Keeps m s t) (hm : m &&& 4194304 = 0) : t.free = s.free := (h.same .free hm : s.free = t.free).symm
theorem Keeps.modeEq {m : Nat} {s t : State} (h : Keeps m s t) (hm : m &&& 0x800000 = 0) : t.spn.mode = s.spn.mode := (h.same .mode hm : s.spn.mode = t.spn.mode).symm

/-- A standard command that is served runs its body. -/
theorem standard_serves {via : Via} {op : Nat} {inDump : Bool} {k : State → State} {s : State} (h : Serves s)
    (hm : s.spn.mode = .dump → inDump = true) : standard via op inDump k s = k s := by
  obtain ⟨h1, h2, h3, h4⟩ := h
  by_cases hd : s.spn.mode = .dump <;> simp [standard, h1, h2, h3, h4, hd, hm]

/-- A vendor command that is served runs its body. -/
theorem vendor_serves {via : Via} {op : Nat} {modes : List Mode} {m b : Bool} {k : State → State} {s : State}
    (h : VendorServes via modes m b s) : vendor via op modes m b k s = k s := by
  obtain ⟨⟨h1, h2, h3, h4⟩, h5, h6, h7, h8⟩ := h
  have h6' : modes.contains s.spn.mode = true := by simpa using h6
  have a : ¬ (via = .mctp ∧ ((!m) = true ∨ (!s.hlk.mctpVendorEn) = true)) := by rintro ⟨a, b⟩; simp [h7 a] at b
  have c : ¬ (b = true ∧ s.hlk.bg.isSome = true) := by rintro ⟨a, b⟩; simp [h8 a] at b
  unfold vendor
  rw [if_neg (by simp [h1]), if_neg (by simp [h2]), if_neg (by simp [h3, h4, h5]), if_neg (by rw [h6']; simp), if_neg a, if_neg c]

/-- Membership after an insertion into a sorted list. -/
theorem mem_sins (k x : Nat) : ∀ l : List Nat, x ∈ sins k l ↔ x = k ∨ x ∈ l
  | [] => by simp [sins]
  | j :: r => by
    unfold sins
    split
    · simp
    · split
      · rename_i h; subst h; simp
      · simp [mem_sins k x r]; tauto

/-- Membership after a run of insertions. -/
theorem mem_fold_sins (f : Nat → Nat) (x : Nat) : ∀ (ks : List Nat) (l : List Nat), x ∈ ks.foldl (fun t k => sins (f k) t) l ↔ (∃ k ∈ ks, x = f k) ∨ x ∈ l
  | [], l => by simp
  | k :: ks, l => by
    rw [List.foldl_cons, mem_fold_sins f x ks, mem_sins, List.exists_mem_cons_iff]
    constructor
    · rintro (h | h | h)
      exacts [.inl (.inr h), .inl (.inl h), .inr h]
    · rintro ((h | h) | h)
      exacts [.inr (.inl h), .inl h, .inr (.inr h)]

/-- The words marked after a line is poisoned. -/
theorem mem_poisonLine (line : Nat) (d : Bool) (s : State) (p : Nat) : p ∈ (poisonLine line d s).gst.poison ↔ p / 8 = line ∨ p ∈ s.gst.poison := by
  simp only [poisonLine]
  rw [mem_fold_sins (fun w => line * 8 + w)]
  constructor
  · rintro (⟨k, hk, rfl⟩ | h)
    · left; simp at hk; omega
    · exact .inr h
  · rintro (rfl | h)
    · left; exact ⟨p % 8, by simp; omega, by omega⟩
    · exact .inr h

/-- A line carries the mark in some word. -/
theorem linePoisoned_iff (s : State) (l : Nat) : linePoisoned s l = true ↔ ∃ p ∈ s.gst.poison, p / 8 = l := by
  simp [linePoisoned]

/-- A commit that is taken enters DUMP. -/
theorem commitDump_mode (tr own : Nat) (s : State) (h : serving s = true) : (commitDump tr own s).spn.mode = .dump := by
  unfold commitDump
  rw [if_neg (by simp [h])]
  extract_lets
  generalize takeSeq _ = qw
  obtain ⟨q, w⟩ := qw
  dsimp only
  have key : ∀ y : State, (setMode .dump 0x0601 y).spn.mode = .dump := fun _ => rfl
  have hm := key { w with dmp := { freshDump tr q w with tail := w.vlt.pendLog }, vlt := { w.vlt with pendLog := [] } }
  generalize setMode .dump 0x0601 { w with dmp := { freshDump tr q w with tail := w.vlt.pendLog }, vlt := { w.vlt with pendLog := [] } } = x at hm ⊢
  have k : ∀ (l : List WriteRec) (y : State), (l.foldl (fun t w => forceAdmit w t) y).spn.mode = y.spn.mode := by
    intro l
    induction l with
    | nil => intro y; rfl
    | cons a l ih =>
      intro y; rw [List.foldl_cons, ih]
      exact (forceAdmit_keeps (m := 0x138e870) (w := a) (by decide) (Keeps.refl _ y)).modeEq (by decide)
  have e1 : ∀ y : State, (ownDump y).spn.mode = y.spn.mode := fun y => (ownDump_keeps (m := 0x17eed71) (by decide) (Keeps.refl _ y)).modeEq (by decide)
  have e2 : ∀ y : State, (lineFollow y).spn.mode = y.spn.mode := fun y => (lineFollow_keeps (m := 0x110000) (by decide) (Keeps.refl _ y)).modeEq (by decide)
  have e3 : ∀ p c (y : State), (setPstate p c y).spn.mode = y.spn.mode := fun p c y => (setPstate_keeps (m := 0x100400) (p := p) (cause := c) (by decide) (Keeps.refl _ y)).modeEq (by decide)
  have e4 : ∀ n (y : State), (domainsOn n y).spn.mode = y.spn.mode := fun n y => (domainsOn_keeps (m := 0x400) (mask := n) (by decide) (Keeps.refl _ y)).modeEq (by decide)
  have e5 : ∀ (y : State), (coastStale y).spn.mode = y.spn.mode := fun y => (coastStale_keeps (m := 0x180040) (by decide) (Keeps.refl _ y)).modeEq (by decide)
  have e6 : ∀ p (y : State), (closeRows p y).spn.mode = y.spn.mode := fun p y => (closeRows_keeps (m := 0x102000) (p := p) (by decide) (Keeps.refl _ y)).modeEq (by decide)
  have e7 : ∀ (y : State), (replayWake y).spn.mode = y.spn.mode := fun y => (replayWake_keeps (m := 0x100500) (by decide) (Keeps.refl _ y)).modeEq (by decide)
  rw [e1, e2, e7, e3, e4]
  show (coastStale _).spn.mode = _
  rw [e5, e6]
  refine Eq.trans (k _ _) hm

end Sys2Proof.Machine
end

