-- ==== Sys2Proof/Laws/State.lean ====
section
/-!
SUPPORT. What each elementary update does to each part of the state: one equation for each part, true by unfolding.
-/

namespace Sys2Proof.Machine

/-! ### raise -/

@[simp] theorem raise_spn (id source : Nat) (detail : Fields) (s : State) : (raise id source detail s).spn = s.spn := rfl
@[simp] theorem raise_img (id source : Nat) (detail : Fields) (s : State) : (raise id source detail s).img = s.img := rfl
@[simp] theorem raise_evr (id source : Nat) (detail : Fields) (s : State) : (raise id source detail s).evr = s.evr := rfl
@[simp] theorem raise_ifc (id source : Nat) (detail : Fields) (s : State) : (raise id source detail s).ifc = s.ifc := rfl
@[simp] theorem raise_hlk (id source : Nat) (detail : Fields) (s : State) : (raise id source detail s).hlk = s.hlk := rfl
@[simp] theorem raise_wrp (id source : Nat) (detail : Fields) (s : State) : (raise id source detail s).wrp = s.wrp := rfl
@[simp] theorem raise_gst (id source : Nat) (detail : Fields) (s : State) : (raise id source detail s).gst = s.gst := rfl
@[simp] theorem raise_nrg (id source : Nat) (detail : Fields) (s : State) : (raise id source detail s).nrg = s.nrg := rfl
@[simp] theorem raise_aos (id source : Nat) (detail : Fields) (s : State) : (raise id source detail s).aos = s.aos := rfl
@[simp] theorem raise_sig (id source : Nat) (detail : Fields) (s : State) : (raise id source detail s).sig = s.sig := rfl
@[simp] theorem raise_pwr (id source : Nat) (detail : Fields) (s : State) : (raise id source detail s).pwr = s.pwr := rfl
@[simp] theorem raise_vlt (id source : Nat) (detail : Fields) (s : State) : (raise id source detail s).vlt = s.vlt := rfl
@[simp] theorem raise_vch (id source : Nat) (detail : Fields) (s : State) : (raise id source detail s).vch = s.vch := rfl
@[simp] theorem raise_shd (id source : Nat) (detail : Fields) (s : State) : (raise id source detail s).shd = s.shd := rfl
@[simp] theorem raise_dmp (id source : Nat) (detail : Fields) (s : State) : (raise id source detail s).dmp = s.dmp := rfl
@[simp] theorem raise_kor (id source : Nat) (detail : Fields) (s : State) : (raise id source detail s).kor = s.kor := rfl
@[simp] theorem raise_cwy (id source : Nat) (detail : Fields) (s : State) : (raise id source detail s).cwy = s.cwy := rfl
@[simp] theorem raise_cip (id source : Nat) (detail : Fields) (s : State) : (raise id source detail s).cip = s.cip := rfl
@[simp] theorem raise_tsk (id source : Nat) (detail : Fields) (s : State) : (raise id source detail s).tsk = s.tsk := rfl
@[simp] theorem raise_qdc (id source : Nat) (detail : Fields) (s : State) : (raise id source detail s).qdc = s.qdc := rfl
@[simp] theorem raise_raised (id source : Nat) (detail : Fields) (s : State) : (raise id source detail s).raised = s.raised ++ [⟨id, source, detail⟩] := rfl
@[simp] theorem raise_out (id source : Nat) (detail : Fields) (s : State) : (raise id source detail s).out = s.out := rfl
@[simp] theorem raise_free (id source : Nat) (detail : Fields) (s : State) : (raise id source detail s).free = s.free := rfl
@[simp] theorem raise_pending (id source : Nat) (detail : Fields) (s : State) : (raise id source detail s).pending = s.pending := rfl

/-! ### send -/

@[simp] theorem send_spn (o : Output) (s : State) : (send o s).spn = s.spn := rfl
@[simp] theorem send_img (o : Output) (s : State) : (send o s).img = s.img := rfl
@[simp] theorem send_evr (o : Output) (s : State) : (send o s).evr = s.evr := rfl
@[simp] theorem send_ifc (o : Output) (s : State) : (send o s).ifc = s.ifc := rfl
@[simp] theorem send_hlk (o : Output) (s : State) : (send o s).hlk = s.hlk := rfl
@[simp] theorem send_wrp (o : Output) (s : State) : (send o s).wrp = s.wrp := rfl
@[simp] theorem send_gst (o : Output) (s : State) : (send o s).gst = s.gst := rfl
@[simp] theorem send_nrg (o : Output) (s : State) : (send o s).nrg = s.nrg := rfl
@[simp] theorem send_aos (o : Output) (s : State) : (send o s).aos = s.aos := rfl
@[simp] theorem send_sig (o : Output) (s : State) : (send o s).sig = s.sig := rfl
@[simp] theorem send_pwr (o : Output) (s : State) : (send o s).pwr = s.pwr := rfl
@[simp] theorem send_vlt (o : Output) (s : State) : (send o s).vlt = s.vlt := rfl
@[simp] theorem send_vch (o : Output) (s : State) : (send o s).vch = s.vch := rfl
@[simp] theorem send_shd (o : Output) (s : State) : (send o s).shd = s.shd := rfl
@[simp] theorem send_dmp (o : Output) (s : State) : (send o s).dmp = s.dmp := rfl
@[simp] theorem send_kor (o : Output) (s : State) : (send o s).kor = s.kor := rfl
@[simp] theorem send_cwy (o : Output) (s : State) : (send o s).cwy = s.cwy := rfl
@[simp] theorem send_cip (o : Output) (s : State) : (send o s).cip = s.cip := rfl
@[simp] theorem send_tsk (o : Output) (s : State) : (send o s).tsk = s.tsk := rfl
@[simp] theorem send_qdc (o : Output) (s : State) : (send o s).qdc = s.qdc := rfl
@[simp] theorem send_raised (o : Output) (s : State) : (send o s).raised = s.raised := rfl
@[simp] theorem send_out (o : Output) (s : State) : (send o s).out = s.out ++ [o] := rfl
@[simp] theorem send_free (o : Output) (s : State) : (send o s).free = s.free := rfl
@[simp] theorem send_pending (o : Output) (s : State) : (send o s).pending = s.pending := rfl

/-! ### msix -/

@[simp] theorem msix_spn (v : Nat) (s : State) : (msix v s).spn = s.spn := rfl
@[simp] theorem msix_img (v : Nat) (s : State) : (msix v s).img = s.img := rfl
@[simp] theorem msix_evr (v : Nat) (s : State) : (msix v s).evr = s.evr := rfl
@[simp] theorem msix_ifc (v : Nat) (s : State) : (msix v s).ifc = s.ifc := rfl
@[simp] theorem msix_hlk (v : Nat) (s : State) : (msix v s).hlk = s.hlk := rfl
@[simp] theorem msix_wrp (v : Nat) (s : State) : (msix v s).wrp = s.wrp := rfl
@[simp] theorem msix_gst (v : Nat) (s : State) : (msix v s).gst = s.gst := rfl
@[simp] theorem msix_nrg (v : Nat) (s : State) : (msix v s).nrg = s.nrg := rfl
@[simp] theorem msix_aos (v : Nat) (s : State) : (msix v s).aos = s.aos := rfl
@[simp] theorem msix_sig (v : Nat) (s : State) : (msix v s).sig = s.sig := rfl
@[simp] theorem msix_pwr (v : Nat) (s : State) : (msix v s).pwr = s.pwr := rfl
@[simp] theorem msix_vlt (v : Nat) (s : State) : (msix v s).vlt = s.vlt := rfl
@[simp] theorem msix_vch (v : Nat) (s : State) : (msix v s).vch = s.vch := rfl
@[simp] theorem msix_shd (v : Nat) (s : State) : (msix v s).shd = s.shd := rfl
@[simp] theorem msix_dmp (v : Nat) (s : State) : (msix v s).dmp = s.dmp := rfl
@[simp] theorem msix_kor (v : Nat) (s : State) : (msix v s).kor = s.kor := rfl
@[simp] theorem msix_cwy (v : Nat) (s : State) : (msix v s).cwy = s.cwy := rfl
@[simp] theorem msix_cip (v : Nat) (s : State) : (msix v s).cip = s.cip := rfl
@[simp] theorem msix_tsk (v : Nat) (s : State) : (msix v s).tsk = s.tsk := rfl
@[simp] theorem msix_qdc (v : Nat) (s : State) : (msix v s).qdc = s.qdc := rfl
@[simp] theorem msix_raised (v : Nat) (s : State) : (msix v s).raised = s.raised := rfl
@[simp] theorem msix_out (v : Nat) (s : State) : (msix v s).out = s.out ++ [.msix v] := rfl
@[simp] theorem msix_free (v : Nat) (s : State) : (msix v s).free = s.free := rfl
@[simp] theorem msix_pending (v : Nat) (s : State) : (msix v s).pending = s.pending := rfl

/-! ### useFree -/

@[simp] theorem useFree_spn (s : State) : (useFree s).spn = s.spn := rfl
@[simp] theorem useFree_img (s : State) : (useFree s).img = s.img := rfl
@[simp] theorem useFree_evr (s : State) : (useFree s).evr = s.evr := rfl
@[simp] theorem useFree_ifc (s : State) : (useFree s).ifc = s.ifc := rfl
@[simp] theorem useFree_hlk (s : State) : (useFree s).hlk = s.hlk := rfl
@[simp] theorem useFree_wrp (s : State) : (useFree s).wrp = s.wrp := rfl
@[simp] theorem useFree_gst (s : State) : (useFree s).gst = s.gst := rfl
@[simp] theorem useFree_nrg (s : State) : (useFree s).nrg = s.nrg := rfl
@[simp] theorem useFree_aos (s : State) : (useFree s).aos = s.aos := rfl
@[simp] theorem useFree_sig (s : State) : (useFree s).sig = s.sig := rfl
@[simp] theorem useFree_pwr (s : State) : (useFree s).pwr = s.pwr := rfl
@[simp] theorem useFree_vlt (s : State) : (useFree s).vlt = s.vlt := rfl
@[simp] theorem useFree_vch (s : State) : (useFree s).vch = s.vch := rfl
@[simp] theorem useFree_shd (s : State) : (useFree s).shd = s.shd := rfl
@[simp] theorem useFree_dmp (s : State) : (useFree s).dmp = s.dmp := rfl
@[simp] theorem useFree_kor (s : State) : (useFree s).kor = s.kor := rfl
@[simp] theorem useFree_cwy (s : State) : (useFree s).cwy = s.cwy := rfl
@[simp] theorem useFree_cip (s : State) : (useFree s).cip = s.cip := rfl
@[simp] theorem useFree_tsk (s : State) : (useFree s).tsk = s.tsk := rfl
@[simp] theorem useFree_qdc (s : State) : (useFree s).qdc = s.qdc := rfl
@[simp] theorem useFree_raised (s : State) : (useFree s).raised = s.raised := rfl
@[simp] theorem useFree_out (s : State) : (useFree s).out = s.out := rfl
@[simp] theorem useFree_free (s : State) : (useFree s).free = s.free + 1 := rfl
@[simp] theorem useFree_pending (s : State) : (useFree s).pending = s.pending := rfl

/-! ### reply -/

@[simp] theorem reply_spn (via : Via) (op : Nat) (ret : Ret) (ext : Nat) (payload : Fields) (s : State) : (reply via op ret ext payload s).spn = s.spn := rfl
@[simp] theorem reply_img (via : Via) (op : Nat) (ret : Ret) (ext : Nat) (payload : Fields) (s : State) : (reply via op ret ext payload s).img = s.img := rfl
@[simp] theorem reply_evr (via : Via) (op : Nat) (ret : Ret) (ext : Nat) (payload : Fields) (s : State) : (reply via op ret ext payload s).evr = s.evr := rfl
@[simp] theorem reply_ifc (via : Via) (op : Nat) (ret : Ret) (ext : Nat) (payload : Fields) (s : State) : (reply via op ret ext payload s).ifc = s.ifc := rfl
@[simp] theorem reply_hlk (via : Via) (op : Nat) (ret : Ret) (ext : Nat) (payload : Fields) (s : State) : (reply via op ret ext payload s).hlk = s.hlk := rfl
@[simp] theorem reply_wrp (via : Via) (op : Nat) (ret : Ret) (ext : Nat) (payload : Fields) (s : State) : (reply via op ret ext payload s).wrp = s.wrp := rfl
@[simp] theorem reply_gst (via : Via) (op : Nat) (ret : Ret) (ext : Nat) (payload : Fields) (s : State) : (reply via op ret ext payload s).gst = s.gst := rfl
@[simp] theorem reply_nrg (via : Via) (op : Nat) (ret : Ret) (ext : Nat) (payload : Fields) (s : State) : (reply via op ret ext payload s).nrg = s.nrg := rfl
@[simp] theorem reply_aos (via : Via) (op : Nat) (ret : Ret) (ext : Nat) (payload : Fields) (s : State) : (reply via op ret ext payload s).aos = s.aos := rfl
@[simp] theorem reply_sig (via : Via) (op : Nat) (ret : Ret) (ext : Nat) (payload : Fields) (s : State) : (reply via op ret ext payload s).sig = s.sig := rfl
@[simp] theorem reply_pwr (via : Via) (op : Nat) (ret : Ret) (ext : Nat) (payload : Fields) (s : State) : (reply via op ret ext payload s).pwr = s.pwr := rfl
@[simp] theorem reply_vlt (via : Via) (op : Nat) (ret : Ret) (ext : Nat) (payload : Fields) (s : State) : (reply via op ret ext payload s).vlt = s.vlt := rfl
@[simp] theorem reply_vch (via : Via) (op : Nat) (ret : Ret) (ext : Nat) (payload : Fields) (s : State) : (reply via op ret ext payload s).vch = s.vch := rfl
@[simp] theorem reply_shd (via : Via) (op : Nat) (ret : Ret) (ext : Nat) (payload : Fields) (s : State) : (reply via op ret ext payload s).shd = s.shd := rfl
@[simp] theorem reply_dmp (via : Via) (op : Nat) (ret : Ret) (ext : Nat) (payload : Fields) (s : State) : (reply via op ret ext payload s).dmp = s.dmp := rfl
@[simp] theorem reply_kor (via : Via) (op : Nat) (ret : Ret) (ext : Nat) (payload : Fields) (s : State) : (reply via op ret ext payload s).kor = s.kor := rfl
@[simp] theorem reply_cwy (via : Via) (op : Nat) (ret : Ret) (ext : Nat) (payload : Fields) (s : State) : (reply via op ret ext payload s).cwy = s.cwy := rfl
@[simp] theorem reply_cip (via : Via) (op : Nat) (ret : Ret) (ext : Nat) (payload : Fields) (s : State) : (reply via op ret ext payload s).cip = s.cip := rfl
@[simp] theorem reply_tsk (via : Via) (op : Nat) (ret : Ret) (ext : Nat) (payload : Fields) (s : State) : (reply via op ret ext payload s).tsk = s.tsk := rfl
@[simp] theorem reply_qdc (via : Via) (op : Nat) (ret : Ret) (ext : Nat) (payload : Fields) (s : State) : (reply via op ret ext payload s).qdc = s.qdc := rfl
@[simp] theorem reply_raised (via : Via) (op : Nat) (ret : Ret) (ext : Nat) (payload : Fields) (s : State) : (reply via op ret ext payload s).raised = s.raised := rfl
@[simp] theorem reply_out (via : Via) (op : Nat) (ret : Ret) (ext : Nat) (payload : Fields) (s : State) : (reply via op ret ext payload s).out = s.out ++ [.mbox via op ret ext payload] := rfl
@[simp] theorem reply_free (via : Via) (op : Nat) (ret : Ret) (ext : Nat) (payload : Fields) (s : State) : (reply via op ret ext payload s).free = s.free := rfl
@[simp] theorem reply_pending (via : Via) (op : Nat) (ret : Ret) (ext : Nat) (payload : Fields) (s : State) : (reply via op ret ext payload s).pending = s.pending := rfl

/-! ### vendorRefuse -/

@[simp] theorem vendorRefuse_spn (via : Via) (op : Nat) (ret : Ret) (ext : Nat) (s : State) : (vendorRefuse via op ret ext s).spn = s.spn := rfl
@[simp] theorem vendorRefuse_img (via : Via) (op : Nat) (ret : Ret) (ext : Nat) (s : State) : (vendorRefuse via op ret ext s).img = s.img := rfl
@[simp] theorem vendorRefuse_evr (via : Via) (op : Nat) (ret : Ret) (ext : Nat) (s : State) : (vendorRefuse via op ret ext s).evr = s.evr := rfl
@[simp] theorem vendorRefuse_ifc (via : Via) (op : Nat) (ret : Ret) (ext : Nat) (s : State) : (vendorRefuse via op ret ext s).ifc = s.ifc := rfl
@[simp] theorem vendorRefuse_hlk (via : Via) (op : Nat) (ret : Ret) (ext : Nat) (s : State) : (vendorRefuse via op ret ext s).hlk = s.hlk := rfl
@[simp] theorem vendorRefuse_wrp (via : Via) (op : Nat) (ret : Ret) (ext : Nat) (s : State) : (vendorRefuse via op ret ext s).wrp = s.wrp := rfl
@[simp] theorem vendorRefuse_gst (via : Via) (op : Nat) (ret : Ret) (ext : Nat) (s : State) : (vendorRefuse via op ret ext s).gst = s.gst := rfl
@[simp] theorem vendorRefuse_nrg (via : Via) (op : Nat) (ret : Ret) (ext : Nat) (s : State) : (vendorRefuse via op ret ext s).nrg = s.nrg := rfl
@[simp] theorem vendorRefuse_aos (via : Via) (op : Nat) (ret : Ret) (ext : Nat) (s : State) : (vendorRefuse via op ret ext s).aos = s.aos := rfl
@[simp] theorem vendorRefuse_sig (via : Via) (op : Nat) (ret : Ret) (ext : Nat) (s : State) : (vendorRefuse via op ret ext s).sig = s.sig := rfl
@[simp] theorem vendorRefuse_pwr (via : Via) (op : Nat) (ret : Ret) (ext : Nat) (s : State) : (vendorRefuse via op ret ext s).pwr = s.pwr := rfl
@[simp] theorem vendorRefuse_vlt (via : Via) (op : Nat) (ret : Ret) (ext : Nat) (s : State) : (vendorRefuse via op ret ext s).vlt = s.vlt := rfl
@[simp] theorem vendorRefuse_vch (via : Via) (op : Nat) (ret : Ret) (ext : Nat) (s : State) : (vendorRefuse via op ret ext s).vch = s.vch := rfl
@[simp] theorem vendorRefuse_shd (via : Via) (op : Nat) (ret : Ret) (ext : Nat) (s : State) : (vendorRefuse via op ret ext s).shd = s.shd := rfl
@[simp] theorem vendorRefuse_dmp (via : Via) (op : Nat) (ret : Ret) (ext : Nat) (s : State) : (vendorRefuse via op ret ext s).dmp = s.dmp := rfl
@[simp] theorem vendorRefuse_kor (via : Via) (op : Nat) (ret : Ret) (ext : Nat) (s : State) : (vendorRefuse via op ret ext s).kor = s.kor := rfl
@[simp] theorem vendorRefuse_cwy (via : Via) (op : Nat) (ret : Ret) (ext : Nat) (s : State) : (vendorRefuse via op ret ext s).cwy = s.cwy := rfl
@[simp] theorem vendorRefuse_cip (via : Via) (op : Nat) (ret : Ret) (ext : Nat) (s : State) : (vendorRefuse via op ret ext s).cip = s.cip := rfl
@[simp] theorem vendorRefuse_tsk (via : Via) (op : Nat) (ret : Ret) (ext : Nat) (s : State) : (vendorRefuse via op ret ext s).tsk = s.tsk := rfl
@[simp] theorem vendorRefuse_qdc (via : Via) (op : Nat) (ret : Ret) (ext : Nat) (s : State) : (vendorRefuse via op ret ext s).qdc = s.qdc := rfl
@[simp] theorem vendorRefuse_raised (via : Via) (op : Nat) (ret : Ret) (ext : Nat) (s : State) : (vendorRefuse via op ret ext s).raised = s.raised ++ [⟨0x0207, 0x01, [(2, op), (2, ext)]⟩] := rfl
@[simp] theorem vendorRefuse_out (via : Via) (op : Nat) (ret : Ret) (ext : Nat) (s : State) : (vendorRefuse via op ret ext s).out = s.out ++ [.mbox via op ret ext []] := rfl
@[simp] theorem vendorRefuse_free (via : Via) (op : Nat) (ret : Ret) (ext : Nat) (s : State) : (vendorRefuse via op ret ext s).free = s.free := rfl
@[simp] theorem vendorRefuse_pending (via : Via) (op : Nat) (ret : Ret) (ext : Nat) (s : State) : (vendorRefuse via op ret ext s).pending = s.pending := rfl

/-! ### setMode -/

@[simp] theorem setMode_spn (m : Mode) (cause : Nat) (s : State) : (setMode m cause s).spn = { s.spn with mode := m, prevMode := s.spn.mode, modeSeq := wrapAdd 16 s.spn.modeSeq 1, cause := cause } := rfl
@[simp] theorem setMode_img (m : Mode) (cause : Nat) (s : State) : (setMode m cause s).img = s.img := rfl
@[simp] theorem setMode_evr (m : Mode) (cause : Nat) (s : State) : (setMode m cause s).evr = s.evr := rfl
@[simp] theorem setMode_ifc (m : Mode) (cause : Nat) (s : State) : (setMode m cause s).ifc = s.ifc := rfl
@[simp] theorem setMode_hlk (m : Mode) (cause : Nat) (s : State) : (setMode m cause s).hlk = s.hlk := rfl
@[simp] theorem setMode_wrp (m : Mode) (cause : Nat) (s : State) : (setMode m cause s).wrp = { s.wrp with zeroSec := if m = .service then s.evr.opSec else s.wrp.zeroSec } := rfl
@[simp] theorem setMode_gst (m : Mode) (cause : Nat) (s : State) : (setMode m cause s).gst = s.gst := rfl
@[simp] theorem setMode_nrg (m : Mode) (cause : Nat) (s : State) : (setMode m cause s).nrg = s.nrg := rfl
@[simp] theorem setMode_aos (m : Mode) (cause : Nat) (s : State) : (setMode m cause s).aos = s.aos := rfl
@[simp] theorem setMode_sig (m : Mode) (cause : Nat) (s : State) : (setMode m cause s).sig = s.sig := rfl
@[simp] theorem setMode_pwr (m : Mode) (cause : Nat) (s : State) : (setMode m cause s).pwr = s.pwr := rfl
@[simp] theorem setMode_vlt (m : Mode) (cause : Nat) (s : State) : (setMode m cause s).vlt = s.vlt := rfl
@[simp] theorem setMode_vch (m : Mode) (cause : Nat) (s : State) : (setMode m cause s).vch = s.vch := rfl
@[simp] theorem setMode_shd (m : Mode) (cause : Nat) (s : State) : (setMode m cause s).shd = s.shd := rfl
@[simp] theorem setMode_dmp (m : Mode) (cause : Nat) (s : State) : (setMode m cause s).dmp = { s.dmp with done := s.dmp.done && decide (m ≠ .service) } := rfl
@[simp] theorem setMode_kor (m : Mode) (cause : Nat) (s : State) : (setMode m cause s).kor = s.kor := rfl
@[simp] theorem setMode_cwy (m : Mode) (cause : Nat) (s : State) : (setMode m cause s).cwy = s.cwy := rfl
@[simp] theorem setMode_cip (m : Mode) (cause : Nat) (s : State) : (setMode m cause s).cip = s.cip := rfl
@[simp] theorem setMode_tsk (m : Mode) (cause : Nat) (s : State) : (setMode m cause s).tsk = s.tsk := rfl
@[simp] theorem setMode_qdc (m : Mode) (cause : Nat) (s : State) : (setMode m cause s).qdc = s.qdc := rfl
@[simp] theorem setMode_raised (m : Mode) (cause : Nat) (s : State) : (setMode m cause s).raised = s.raised := rfl
@[simp] theorem setMode_out (m : Mode) (cause : Nat) (s : State) : (setMode m cause s).out = s.out ++ [.msix 7] := rfl
@[simp] theorem setMode_free (m : Mode) (cause : Nat) (s : State) : (setMode m cause s).free = s.free := rfl
@[simp] theorem setMode_pending (m : Mode) (cause : Nat) (s : State) : (setMode m cause s).pending = s.pending := rfl

/-! ### poisonLine -/

@[simp] theorem poisonLine_spn (line : Nat) (deliberate : Bool) (s : State) : (poisonLine line deliberate s).spn = s.spn := rfl
@[simp] theorem poisonLine_img (line : Nat) (deliberate : Bool) (s : State) : (poisonLine line deliberate s).img = s.img := rfl
@[simp] theorem poisonLine_evr (line : Nat) (deliberate : Bool) (s : State) : (poisonLine line deliberate s).evr = s.evr := rfl
@[simp] theorem poisonLine_ifc (line : Nat) (deliberate : Bool) (s : State) : (poisonLine line deliberate s).ifc = s.ifc := rfl
@[simp] theorem poisonLine_hlk (line : Nat) (deliberate : Bool) (s : State) : (poisonLine line deliberate s).hlk = s.hlk := rfl
@[simp] theorem poisonLine_wrp (line : Nat) (deliberate : Bool) (s : State) : (poisonLine line deliberate s).wrp = s.wrp := rfl
@[simp] theorem poisonLine_nrg (line : Nat) (deliberate : Bool) (s : State) : (poisonLine line deliberate s).nrg = s.nrg := rfl
@[simp] theorem poisonLine_aos (line : Nat) (deliberate : Bool) (s : State) : (poisonLine line deliberate s).aos = s.aos := rfl
@[simp] theorem poisonLine_sig (line : Nat) (deliberate : Bool) (s : State) : (poisonLine line deliberate s).sig = s.sig := rfl
@[simp] theorem poisonLine_pwr (line : Nat) (deliberate : Bool) (s : State) : (poisonLine line deliberate s).pwr = s.pwr := rfl
@[simp] theorem poisonLine_vlt (line : Nat) (deliberate : Bool) (s : State) : (poisonLine line deliberate s).vlt = s.vlt := rfl
@[simp] theorem poisonLine_vch (line : Nat) (deliberate : Bool) (s : State) : (poisonLine line deliberate s).vch = s.vch := rfl
@[simp] theorem poisonLine_shd (line : Nat) (deliberate : Bool) (s : State) : (poisonLine line deliberate s).shd = s.shd := rfl
@[simp] theorem poisonLine_dmp (line : Nat) (deliberate : Bool) (s : State) : (poisonLine line deliberate s).dmp = s.dmp := rfl
@[simp] theorem poisonLine_kor (line : Nat) (deliberate : Bool) (s : State) : (poisonLine line deliberate s).kor = s.kor := rfl
@[simp] theorem poisonLine_cwy (line : Nat) (deliberate : Bool) (s : State) : (poisonLine line deliberate s).cwy = s.cwy := rfl
@[simp] theorem poisonLine_cip (line : Nat) (deliberate : Bool) (s : State) : (poisonLine line deliberate s).cip = s.cip := rfl
@[simp] theorem poisonLine_tsk (line : Nat) (deliberate : Bool) (s : State) : (poisonLine line deliberate s).tsk = s.tsk := rfl
@[simp] theorem poisonLine_qdc (line : Nat) (deliberate : Bool) (s : State) : (poisonLine line deliberate s).qdc = s.qdc := rfl
@[simp] theorem poisonLine_raised (line : Nat) (deliberate : Bool) (s : State) : (poisonLine line deliberate s).raised = s.raised := rfl
@[simp] theorem poisonLine_out (line : Nat) (deliberate : Bool) (s : State) : (poisonLine line deliberate s).out = s.out := rfl
@[simp] theorem poisonLine_free (line : Nat) (deliberate : Bool) (s : State) : (poisonLine line deliberate s).free = s.free := rfl
@[simp] theorem poisonLine_pending (line : Nat) (deliberate : Bool) (s : State) : (poisonLine line deliberate s).pending = s.pending := rfl

/-! ### zeroGranule -/

@[simp] theorem zeroGranule_spn (g : Nat) (s : State) : (zeroGranule g s).spn = s.spn := rfl
@[simp] theorem zeroGranule_img (g : Nat) (s : State) : (zeroGranule g s).img = s.img := rfl
@[simp] theorem zeroGranule_evr (g : Nat) (s : State) : (zeroGranule g s).evr = s.evr := rfl
@[simp] theorem zeroGranule_ifc (g : Nat) (s : State) : (zeroGranule g s).ifc = s.ifc := rfl
@[simp] theorem zeroGranule_hlk (g : Nat) (s : State) : (zeroGranule g s).hlk = s.hlk := rfl
@[simp] theorem zeroGranule_wrp (g : Nat) (s : State) : (zeroGranule g s).wrp = s.wrp := rfl
@[simp] theorem zeroGranule_nrg (g : Nat) (s : State) : (zeroGranule g s).nrg = s.nrg := rfl
@[simp] theorem zeroGranule_aos (g : Nat) (s : State) : (zeroGranule g s).aos = s.aos := rfl
@[simp] theorem zeroGranule_sig (g : Nat) (s : State) : (zeroGranule g s).sig = s.sig := rfl
@[simp] theorem zeroGranule_pwr (g : Nat) (s : State) : (zeroGranule g s).pwr = s.pwr := rfl
@[simp] theorem zeroGranule_vlt (g : Nat) (s : State) : (zeroGranule g s).vlt = s.vlt := rfl
@[simp] theorem zeroGranule_vch (g : Nat) (s : State) : (zeroGranule g s).vch = s.vch := rfl
@[simp] theorem zeroGranule_shd (g : Nat) (s : State) : (zeroGranule g s).shd = s.shd := rfl
@[simp] theorem zeroGranule_dmp (g : Nat) (s : State) : (zeroGranule g s).dmp = s.dmp := rfl
@[simp] theorem zeroGranule_kor (g : Nat) (s : State) : (zeroGranule g s).kor = s.kor := rfl
@[simp] theorem zeroGranule_cwy (g : Nat) (s : State) : (zeroGranule g s).cwy = s.cwy := rfl
@[simp] theorem zeroGranule_cip (g : Nat) (s : State) : (zeroGranule g s).cip = s.cip := rfl
@[simp] theorem zeroGranule_tsk (g : Nat) (s : State) : (zeroGranule g s).tsk = s.tsk := rfl
@[simp] theorem zeroGranule_qdc (g : Nat) (s : State) : (zeroGranule g s).qdc = s.qdc := rfl
@[simp] theorem zeroGranule_raised (g : Nat) (s : State) : (zeroGranule g s).raised = s.raised := rfl
@[simp] theorem zeroGranule_out (g : Nat) (s : State) : (zeroGranule g s).out = s.out := rfl
@[simp] theorem zeroGranule_free (g : Nat) (s : State) : (zeroGranule g s).free = s.free := rfl
@[simp] theorem zeroGranule_pending (g : Nat) (s : State) : (zeroGranule g s).pending = s.pending := rfl

end Sys2Proof.Machine
end

