-- ==== Sys2Proof/Machine/Wire.lean ====
section
/-!
DEFINITION. What is sent byte for byte: a flit of the Korric link (11), with header, line slots, control messages and CRC-64, and a frame
of the Causeway ring (12).
-/

namespace Sys2Proof.Machine

/-- One bit of CRC-64 with the polynomial of ECMA-182, highest bit first. -/
def crc64Bit (c : Nat) : Nat := if c.testBit 63 then ((2 * c) % 2 ^ 64) ^^^ 0x42F0E1EBA9EA3693 else (2 * c) % 2 ^ 64

/-- CRC-64 over a list of bytes, initial value 0 (R374). The bits of a byte enter highest first, and nothing is reflected or inverted.
DESIGN CHOICE (log 142). -/
def crc64 (l : List Nat) : Nat :=
  l.foldl (fun c b => (List.range 8).foldl (fun x _ => crc64Bit x) (c ^^^ ((b % 256) * 2 ^ 56))) 0

/-- The 80 bytes of a line slot (R376). -/
def slotBytes (sl : LineSlot) : List Nat := leBytes 4 sl.mseq ++ leBytes 4 sl.line ++ leBytes 8 sl.mask ++ leBytes 64 sl.data.toNat

/-- A control message by its fields: `MTYPE`, `MFLAGS`, `REGION`, `ARG0`, `ARG1` (R377). -/
def msgFields : KMsg → Nat × Nat × Nat × Nat × Nat
  | .state b t id e m p => (0x01, b.toNat + 2 * t.toNat, id, e, m + p * 2 ^ 32)
  | .digest k v => (0x02, k, 0, v % 2 ^ 32, v / 2 ^ 32)
  | .openQuery r => (0x03, 0, r, 0, 0)
  | .openReply r a => (0x04, a, r, 0, 0)
  | .shadowNotice g m => (0x05, 0, 0, g, m)
  | .shadowMap f b => (0x06, 0, 0, f, b)
  | .releaseNotice f n => (0x07, 0, 0, f, n)
  | .releaseDone f n => (0x08, 0, 0, f, n)
  | .pressure on d b => (0x09, on.toNat, 0, d, b)
  | .dumpNotice k q => (0x0A, k, 0, 0, q)
  | .poisonLine l m => (0x0B, 0, 0, l, m)
  | .repairReq g t => (0x0C, 0, 0, g, t)
  | .repairReply g a t => (0x0D, a, 0, g, t)
  | .resyncEnd n => (0x0E, 0, 0, n, 0)
  | .adopted r => (0x0F, 0, r, 0, 0)
  | .adoptReply r a => (0x10, a, r, 0, 0)
  | .giveBack r => (0x11, 0, r, 0, 0)
  | .ownCopyDone r => (0x12, 0, r, 0, 0)
  | .laneSwap c l w => (0x13, c, l, w, 0)
  | .laneSwapAck l w => (0x14, 0, l, w, 0)

/-- The 16 bytes of a control message (R377). -/
def msgBytes (m : KMsg) : List Nat :=
  let (t, f, r, a, b) := msgFields m
  [t, f % 256, r % 256, 0] ++ leBytes 4 a ++ leBytes 8 b

/-- `FTYPE` of a flit (R375). -/
def flitType : FlitBody → Nat
  | .heartbeat => 0
  | .mirror _ => 1
  | .control _ => 2
  | .repair _ => 3

/-- The payload of a flit: three slots, fifteen messages, or zeros; what it does not fill is empty. -/
def flitPayload : FlitBody → List Nat
  | .heartbeat => []
  | .mirror l => (l.take 3).flatMap slotBytes
  | .control l => (l.take 15).flatMap msgBytes
  | .repair l => (l.take 3).flatMap slotBytes

/-- The 256 bytes of a flit (R374). -/
def flitBytes (h : FlitHdr) (b : FlitBody) : List Nat :=
  let pay := flitPayload b
  let x := [flitType b + 16 * h.nak.toNat + 32 * h.pressure.toNat + 64 * h.swapReq.toNat + 128 * h.dumping.toNat] ++ leBytes 2 h.fseq
    ++ leBytes 2 h.fack ++ leBytes 3 h.mackLo ++ pay ++ List.replicate (240 - pay.length) 0
  x ++ leBytes 8 (crc64 x)

/-! ## Causeway frames (R412, R413) -/

/-- `CTYPE` of a frame (R413). -/
def frameType : FrameBody → Nat
  | .rollCall _ _ _ => 0x01
  | .claim => 0x02
  | .join _ => 0x03
  | .witnessQ _ => 0x04
  | .witnessA _ _ => 0x05
  | .winRd _ => 0x06
  | .winRdA _ _ => 0x07
  | .winWr _ _ _ => 0x08
  | .mctp _ => 0x09
  | .cmd _ _ => 0x0A
  | .cmdA _ _ _ => 0x0B
  | .fwData _ _ => 0x0C

/-- The payload of a frame (R413); bytes between its fields are 0. -/
def framePayload : FrameBody → List Nat
  | .rollCall l d h => fieldBytes [(8, l), (8, d), (8, h)]
  | .claim => []
  | .join n => fieldBytes [(8, n)]
  | .witnessQ t => [t]
  | .witnessA t r => [t, r]
  | .winRd o => fieldBytes [(4, o)]
  | .winRdA a d => fieldBytes [(1, a), (7, 0), (8, d)]
  | .winWr o b d => fieldBytes [(4, o), (1, b), (3, 0), (8, d)]
  | .mctp l => l
  | .cmd c l => fieldBytes [(2, c), (6, 0)] ++ l
  | .cmdA c a r => fieldBytes [(2, c), (1, a), (5, 0)] ++ fieldBytes r
  | .fwData o l => fieldBytes [(4, o), (4, 0)] ++ l

/-- The bytes of a frame between its commas (R412). -/
def frameBytes (f : Frame) : List Nat :=
  let pay := framePayload f.body
  let x := [f.dst, f.src, frameType f.body, f.hops] ++ leBytes 2 f.tag ++ leBytes 2 pay.length ++ pay
  x ++ leBytes 4 (crc32c x)

end Sys2Proof.Machine
end

