-- ==== Sys2Proof/WellFormed.lean ====
section
/-!
DEFINITION. Which commands the outside world can send: every operand fits the field that carries it. The meanings are total and take
the other terms as well; nothing of theirs depends on this check.
-/

namespace Sys2Proof

/-- A ring frame's `DST` (R412): a member or the broadcast address. -/
def ringDst (dst : Nat) : Bool := decide (dst < 64) || dst == 255

/-- A flit header's fields fit (R374). -/
def flitOk (h : FlitHdr) : Bool := decide (h.fseq < 65536) && decide (h.fack < 65536) && decide (h.mackLo < 2 ^ 24)

/-- A line slot's fields fit (R376). -/
def slotOk (x : LineSlot) : Bool := decide (x.mseq < 2 ^ 32) && decide (x.line < 2 ^ 32) && decide (x.mask < 2 ^ 64)

/-- An error names a symbol of a codeword of eighty bits (R592). -/
def symOk (e : SymErr) : Bool := decide (e.sym < 10) && decide (e.err < 256)

/-- A crossbar message's fields fit (R28, R29). -/
def msgOk (m : XMsg) : Bool := decide (m.source < 64) && decide (m.target < 64) && decide (m.role < 64) && decide (m.gen < 65536)

/-- Every operand of the command fits its field. -/
def Instr.wellFormed (i : Instr) : Bool :=
  match i with
  | .strapSample id _ _ => decide (id < 64)
  | .imageApply _ => true
  | .dramTrainingDone okMask => decide (okMask < 16)
  | .vaultInitDone _ _ _ _ _ => true
  | .mapLoaded _ _ _ _ _ => true
  | .messageArrival m _ => msgOk m
  | .staleRole m => msgOk m
  | .roleDataWrite func cover => decide (func < 64) && decide (cover < 16)
  | .registerWrite _ addr width value _ => decide (addr < 2 ^ 24) && decide (width ≤ 8) && decide (value < 2 ^ 64)
  | .rcRead _ addr width => decide (addr < 2 ^ 24) && decide (width ≤ 8)
  | .linkUp _ _ => true
  | .hdmDecoderCommit n base size ways skip =>
    decide (n < 4) && decide (base < 2 ^ 64) && decide (size < 2 ^ 64) && decide (ways < 16) && decide (skip < 2 ^ 64)
  | .hdmDecoderUncommit n => decide (n < 4)
  | .memWrite tag line mask _ _ => decide (tag < 65536) && decide (line < 2 ^ 46) && decide (mask < 2 ^ 64)
  | .memRead tag line errs again => decide (tag < 65536) && decide (line < 2 ^ 46) && errs.all symOk && again.all symOk
  | .lineWritten tag => decide (tag < 65536)
  | .ecrcError _ => true
  | .identifyMemoryDevice _ => true
  | .getHealthInfo _ _ => true
  | .getAlertConfiguration _ => true
  | .setAlertConfiguration _ _ _ _ _ => true
  | .getShutdownState _ => true
  | .setShutdownState _ v => decide (v < 256)
  | .getPoisonList _ dpa len => decide (dpa < 2 ^ 64) && decide (len < 2 ^ 64)
  | .injectPoison _ dpa => decide (dpa < 2 ^ 64)
  | .clearPoison _ dpa _ => decide (dpa < 2 ^ 64)
  | .getSupportedLogs _ => true
  | .getLog _ uuid off len => decide (uuid < 2 ^ 128) && decide (off < 2 ^ 32) && decide (len < 2 ^ 32)
  | .getEventRecords _ log => decide (log < 256)
  | .clearEventRecords _ log count _ => decide (log < 256) && decide (count < 256)
  | .getEventInterruptPolicy _ => true
  | .setEventInterruptPolicy _ _ _ _ _ => true
  | .getFwInfo _ => true
  | .transferFw _ slot _ => decide (slot < 256)
  | .activateFw _ _ => true
  | .getTimestamp _ => true
  | .setTimestamp _ v => decide (v < 2 ^ 64)
  | .unsupportedOpcode _ op => decide (op < 65536)
  | .regionStateQuery _ r => decide (r < 65536)
  | .releaseRange _ dpa len => decide (dpa < 2 ^ 64) && decide (len < 2 ^ 64)
  | .shadowRange _ dpa len => decide (dpa < 2 ^ 64) && decide (len < 2 ^ 64)
  | .barrier _ _ => true
  | .park _ => true
  | .unpark _ => true
  | .takeover _ => true
  | .forceTakeover _ confirm => decide (confirm < 2 ^ 32)
  | .setPowerStateP0 _ => true
  | .setPowerStateP2 _ => true
  | .setPowerStateP3 _ => true
  | .startLearning _ => true
  | .calibrationDump _ => true
  | .vaultInfo _ => true
  | .retryGranule _ dpa _ => decide (dpa < 2 ^ 64)
  | .arrayStatus _ mask => decide (mask < 2 ^ 64)
  | .arrayBarrier _ mask => decide (mask < 2 ^ 64)
  | .rollUpdate _ mask => decide (mask < 2 ^ 64)
  | .arrayUnknownSubopcode _ => true
  | .rollUpdateTimeout m => decide (m < 64)
  | .doeDiscovery _ => true
  | .cdatRead _ => true
  | .getVersion _ => true
  | .getCapabilities _ => true
  | .negotiateAlgorithms _ _ _ => true
  | .getDigests _ => true
  | .getCertificate _ slot off len => decide (slot < 256) && decide (off < 65536) && decide (len < 65536)
  | .challenge _ slot nonce => decide (slot < 256) && decide (nonce < 2 ^ 256)
  | .getMeasurements _ index nonce _ => decide (index < 256) && decide (nonce < 2 ^ 256)
  | .respondIfReady _ => true
  | .spdmUnsupported _ => true
  | .startChecksComplete r => decide (r < 256)
  | .startCheckTimeout r => decide (r < 256)
  | .regionDrained r => decide (r < 256)
  | .liveCheck slot => decide (slot < 2)
  | .liveApply slot => decide (slot < 2)
  | .forceZeroWrite _ => true
  | .writeHoldTimeout tag => decide (tag < 65536)
  | .dirtyListReady q => decide (q < 4)
  | .dumpProgramComplete _ _ => true
  | .dumpEnergySample _ => true
  | .cmbPoll resp => resp.all (fun b => b < 256)
  | .energyEstimate _ _ => true
  | .learnHoldupStart _ => true
  | .paramWrite value => decide (value < 2 ^ 32)
  | .epochTick _ => true
  | .ringExamine q _ _ => decide (q < 4)
  | .sequentialWalk r => decide (r < 256)
  | .rowCloseTimeout _ => true
  | .programComplete _ _ => true
  | .dieTimeout c d => decide (c < 16) && decide (d < 8)
  | .gcRelocate _ => true
  | .wearLevelMove _ => true
  | .vaultScrub _ => true
  | .redundancyRebuild _ => true
  | .twinCompaction _ _ => true
  | .vaultTraining c _ => decide (c < 16)
  | .vaultForceFail c => decide (c < 16)
  | .fetchComplete g _ _ _ => decide (g < 2 ^ 24)
  | .bulkRestoreIssue q => decide (q < 4)
  | .heartbeat h => flitOk h
  | .corruptFlit _ => true
  | .mirror h slots => flitOk h && slots.length ≤ 3 && slots.all slotOk
  | .repair h slots => flitOk h && slots.length ≤ 3 && slots.all slotOk
  | .state h idx _ _ cwyId mepoch mseqNext => flitOk h && decide (idx < 15) && decide (cwyId < 64) && decide (mepoch < 2 ^ 32) && decide (mseqNext < 2 ^ 32)
  | .digest h idx part value => flitOk h && decide (idx < 15) && decide (part < 4) && decide (value < 2 ^ 96)
  | .openQuery h idx r => flitOk h && decide (idx < 15) && decide (r < 256)
  | .openReply h idx r answer => flitOk h && decide (idx < 15) && decide (r < 256) && decide (answer < 256)
  | .shadowNotice h idx g mseq => flitOk h && decide (idx < 15) && decide (g < 2 ^ 32) && decide (mseq < 2 ^ 32)
  | .shadowMap h idx first bits => flitOk h && decide (idx < 15) && decide (first < 2 ^ 32) && decide (bits < 2 ^ 64)
  | .releaseNotice h idx first count => flitOk h && decide (idx < 15) && decide (first < 2 ^ 32) && decide (count < 2 ^ 64)
  | .releaseDone h idx first => flitOk h && decide (idx < 15) && decide (first < 2 ^ 32)
  | .pressure h idx _ => flitOk h && decide (idx < 15)
  | .dumpNotice h idx kind seq => flitOk h && decide (idx < 15) && decide (kind < 256) && decide (seq < 2 ^ 64)
  | .poisonLine h idx line mseq => flitOk h && decide (idx < 15) && decide (line < 2 ^ 32) && decide (mseq < 2 ^ 32)
  | .repairReq h idx g tag => flitOk h && decide (idx < 15) && decide (g < 2 ^ 32) && decide (tag < 256)
  | .repairReply h idx g answer tag => flitOk h && decide (idx < 15) && decide (g < 2 ^ 32) && decide (answer < 256) && decide (tag < 256)
  | .resyncEnd h idx => flitOk h && decide (idx < 15)
  | .adopted h idx r => flitOk h && decide (idx < 15) && decide (r < 256)
  | .adoptReply h idx r answer => flitOk h && decide (idx < 15) && decide (r < 256) && decide (answer < 256)
  | .return h idx r => flitOk h && decide (idx < 15) && decide (r < 256)
  | .ownCopyDone h idx r => flitOk h && decide (idx < 15) && decide (r < 256)
  | .laneSwap h idx cause lane codeword _ =>
    flitOk h && decide (idx < 15) && decide (cause < 2) && decide (lane < 16) && decide (codeword < 2 ^ 32)
  | .laneSwapAck h idx lane codeword => flitOk h && decide (idx < 15) && decide (lane < 16) && decide (codeword < 2 ^ 32)
  | .laneFault lane _ _ _ => decide (lane < 9)
  | .laneSwitch _ => true
  | .korricTrainingDone _ _ => true
  | .fastRetrainDone _ => true
  | .rollCall src hops tag live dumping headcap _ => decide (src < 64) && decide (hops ≤ 64) && decide (tag < 65536) && decide (live < 2 ^ 64) && decide (dumping < 2 ^ 64) && decide (headcap < 2 ^ 64)
  | .claim src hops tag _ => decide (src < 64) && decide (hops ≤ 64) && decide (tag < 65536)
  | .join src hops tag serial _ => decide (src < 64) && decide (hops ≤ 64) && decide (tag < 65536) && decide (serial < 2 ^ 64)
  | .witnessQ src dst hops tag target _ => decide (src < 64) && ringDst dst && decide (hops ≤ 64) && decide (tag < 65536) && decide (target < 64)
  | .witnessA src dst hops tag target result _ => decide (src < 64) && ringDst dst && decide (hops ≤ 64) && decide (tag < 65536) && decide (target < 64) && decide (result < 256)
  | .winRd src dst hops tag off _ => decide (src < 64) && ringDst dst && decide (hops ≤ 64) && decide (tag < 65536) && decide (off < 2 ^ 32)
  | .winRdA src dst hops tag status data _ => decide (src < 64) && ringDst dst && decide (hops ≤ 64) && decide (tag < 65536) && decide (status < 256) && decide (data < 2 ^ 64)
  | .winWr src dst hops tag off be data _ _ => decide (src < 64) && ringDst dst && decide (hops ≤ 64) && decide (tag < 65536) && decide (off < 2 ^ 32) && decide (be < 256) && decide (data < 2 ^ 64)
  | .mctpFrame _ src dst hops tag packet _ => decide (src < 64) && ringDst dst && decide (hops ≤ 64) && decide (tag < 65536) && decide (packet.length ≤ 256)
  | .cmd src dst hops tag sub payload _ => decide (src < 64) && ringDst dst && decide (hops ≤ 64) && decide (tag < 65536) && decide (sub < 65536) && decide (payload.length ≤ 248)
  | .cmdA src dst hops tag sub status _ _ => decide (src < 64) && ringDst dst && decide (hops ≤ 64) && decide (tag < 65536) && decide (sub < 65536) && decide (status < 256)
  | .fwData src dst hops tag off data _ => decide (src < 64) && ringDst dst && decide (hops ≤ 64) && decide (tag < 65536) && decide (off < 2 ^ 32) && decide (data.length ≤ 248)
  | .windowRead _ addr width => decide (addr < 2 ^ 24) && decide (width ≤ 8)
  | .windowWrite _ addr width value _ => decide (addr < 2 ^ 24) && decide (width ≤ 8) && decide (value < 2 ^ 64)
  | .windowReadTimeout tag => decide (tag < 65536)
  | .claspWrite _ v => decide (v < 4)
  | .keyDataWrite _ k width value => decide (k < 12) && decide (width ≤ 8) && decide (value < 2 ^ 64)
  | .load _ => true
  | .derive _ root => decide (root < 8)
  | .unload _ => true
  | .clearStaging _ => true
  | .rekeyDone slot => decide (slot < 264)
  | .cipherOpComplete core _ _ => decide (core < 8)
  | .coreFault core => decide (core < 8)
  | .alarm _ => true
  | .alarmAck _ => true
  | .alloc reqs => reqs.all (fun x => x.requester < 256)
  | .share _ _ pointer => decide (pointer < 2 ^ 24)
  | .release _ pointer => decide (pointer < 2 ^ 24)
  | .sliceDrained q => decide (q < 4)
  | .programWord _ off data => decide (off < 2 ^ 23) && decide (data < 2 ^ 64)
  | .eraseSector _ off => decide (off < 2 ^ 23)
  | .readEraseCounter _ bank => decide (bank < 2)
  | .statusAndIdentity _ bank => decide (bank < 2)
  | .enterBogOakRow _ bank => decide (bank < 2)
  | .returnToRead _ bank => decide (bank < 2)
  | .sequenceTimeout bank => decide (bank < 2)
  | .flashWindowRead _ off width bad => decide (off < 2 ^ 23) && decide (width ≤ 8) && decide (bad ≤ 10)
  | .flashOpComplete bank _ _ _ => decide (bank < 2)
  | .journalAppend _ type bank sector aux _ => decide (type < 4) && decide (bank < 2) && decide (sector < 1024) && decide (aux < 1024)
  | .foldExpiry _ => true
  | .cursorLoad _ seq => decide (seq < 2 ^ 64)
  | .cursorNext _ => true
  | .cursorLoadDone _ => true
  | .extend _ reg => decide (reg < 8)
  | .advance _ _ => true
  | .commit _ => true
  | .kick _ => true
  | .idleTimer _ => true
  | .domainWake _ _ => true
  | .domainReady _ _ => true
  | .stallTimeout _ => true
  | .p2StepDone _ => true
  | .p2StopTimeout _ => true
  | .filterInputEdge _ _ _ => true
  | .filterTimer _ => true
  | .railFault _ _ => true
  | .inputReturn _ _ => true
  | .tempRange _ _ _ => true
  | .sramScrub _ => true
  | .patrolRead q errs again _ => decide (q < 4) && errs.all symOk && again.all symOk
  | .sdeStallTimeout q => decide (q < 4)
  | .markSet q => decide (q < 4)
  | .injectArm q => decide (q < 4)
  | .vaultEraseComplete _ _ _ => true
  | .vaultReadComplete _ words _ _ _ _ _ => decide (words.length = 4)
  | .imageChecksDone => true
  | .sdeParityError q => decide (q < 4)
  | .powerOn => true
  | .corePgRise => true
  | .corePgTimeout => true
  | .coreEnRetry => true
  | .clockDegraded => true
  | .rtcDegraded => true
  | .armEntryPassed => true
  | .linkDown => true
  | .perstNAssert => true
  | .perstNDeassert => true
  | .functionReset => true
  | .gpfPhase1 => true
  | .gpfPhase2 => true
  | .arrayStatusTimeout => true
  | .doeAbort => true
  | .regionStart => true
  | .regionStop => true
  | .inputSet => true
  | .recompute => true
  | .inputBelowPfail => true
  | .inputAbovePfail => true
  | .pfailQualified => true
  | .settleRecovered => true
  | .settleLimitExpiry => true
  | .rideThroughSurvived => true
  | .rideThroughExpiry => true
  | .earlyCommit => true
  | .testDump => true
  | .coastEnd => true
  | .preflushClear => true
  | .offsetZero => true
  | .fullAnchor => true
  | .reportUpdate => true
  | .hibernateEnter => true
  | .hibernateWake => true
  | .pendingWriteback => true
  | .learningAutoStart => true
  | .learnCtrlStart => true
  | .learnCtrlAbort => true
  | .learnBudgetTimeout => true
  | .learnDurationExpiry => true
  | .learnAnchorTimeout => true
  | .tokenTick => true
  | .rateRecompute => true
  | .logFlush => true
  | .heartbeatTimer => true
  | .replayTimeout => true
  | .pressureOffTimer => true
  | .trainingRetry => true
  | .trainingTimeout => true
  | .witnessRequery => true
  | .soloStart => true
  | .silenceTimeout => true
  | .witnessTimeout => true
  | .rollCallTimer => true
  | .electionTimeout => true
  | .ringStartElection => true
  | .ringDownTimeout => true
  | .ringRelock => true
  | .claspTimeout => true
  | .topup => true
  | .compact => true
  | .eventReport => true
  | .opSecTick => true
  | .counterCheckpoint => true
  | .reboot => true
  | .structReset => true
  | .fwRestart => true
  | .watchdogExpiry => true
  | .lockstepMismatch => true
  | .vaultOff => true
  | .brownOut => true
  | .inputBelowQuag => true
  | .dumpBounce => true
  | .vddAonLost => true
  | .pairRecordQuagTimeout => true

end Sys2Proof
end

