-- ==== Sys2Proof/Tests/Slice0.lean ====
section
/-!
SUPPORT. The model's own tests: every check of WellFormed refuses an ill-formed command, small steps, and a witness for the hypotheses
of every statement.
-/

namespace Sys2Proof.Tests

open Sys2Proof.Machine

set_option Elab.async false

/-- Whether every command of the list is ill formed. -/
def allIll (l : List Instr) : Bool := l.all (fun i => !i.wellFormed)

/-- Whether every command of the list is well formed. -/
def allWell (l : List Instr) : Bool := l.all (fun i => i.wellFormed)

theorem test_refuses_strapSample_to_staleRole : allIll [
    .strapSample 64 false false,
    .dramTrainingDone 16,
    .messageArrival ⟨64, 0, 0, 0, 0, 0, 0, false, false⟩ 0,
    .messageArrival ⟨0, 64, 0, 0, 0, 0, 0, false, false⟩ 0,
    .messageArrival ⟨0, 0, 64, 0, 0, 0, 0, false, false⟩ 0,
    .messageArrival ⟨0, 0, 0, 65536, 0, 0, 0, false, false⟩ 0,
    .staleRole ⟨64, 0, 0, 0, 0, 0, 0, false, false⟩,
    .staleRole ⟨0, 64, 0, 0, 0, 0, 0, false, false⟩,
    .staleRole ⟨0, 0, 64, 0, 0, 0, 0, false, false⟩,
    .staleRole ⟨0, 0, 0, 65536, 0, 0, 0, false, false⟩] = true := by decide

theorem test_refuses_roleDataWrite_to_hdmDecoderCommit : allIll [
    .roleDataWrite 64 0,
    .roleDataWrite 0 16,
    .registerWrite .firmware (2 ^ 24) 0 0 false,
    .registerWrite .firmware 0 9 0 false,
    .registerWrite .firmware 0 0 (2 ^ 64) false,
    .rcRead .firmware (2 ^ 24) 0,
    .rcRead .firmware 0 9,
    .hdmDecoderCommit 4 0 0 0 0,
    .hdmDecoderCommit 0 (2 ^ 64) 0 0 0,
    .hdmDecoderCommit 0 0 (2 ^ 64) 0 0,
    .hdmDecoderCommit 0 0 0 16 0,
    .hdmDecoderCommit 0 0 0 0 (2 ^ 64)] = true := by decide

theorem test_refuses_hdmDecoderUncommit_to_memRead : allIll [
    .hdmDecoderUncommit 4,
    .memWrite 65536 0 0 0 false,
    .memWrite 0 (2 ^ 46) 0 0 false,
    .memWrite 0 0 (2 ^ 64) 0 false,
    .memRead 65536 0 [] [],
    .memRead 0 (2 ^ 46) [] [],
    .memRead 0 0 [⟨0, 10, 0⟩] [],
    .memRead 0 0 [⟨0, 0, 256⟩] [],
    .memRead 0 0 [] [⟨0, 10, 0⟩],
    .memRead 0 0 [] [⟨0, 0, 256⟩]] = true := by decide

theorem test_refuses_lineWritten_to_getEventRecords : allIll [
    .lineWritten 65536,
    .setShutdownState .primary 256,
    .getPoisonList .primary (2 ^ 64) 0,
    .getPoisonList .primary 0 (2 ^ 64),
    .injectPoison .primary (2 ^ 64),
    .clearPoison .primary (2 ^ 64) 0,
    .getLog .primary (2 ^ 128) 0 0,
    .getLog .primary 0 (2 ^ 32) 0,
    .getLog .primary 0 0 (2 ^ 32),
    .getEventRecords .primary 256] = true := by decide

theorem test_refuses_clearEventRecords_to_shadowRange : allIll [
    .clearEventRecords .primary 256 0 false,
    .clearEventRecords .primary 0 256 false,
    .transferFw .primary 256 [],
    .setTimestamp .primary (2 ^ 64),
    .unsupportedOpcode .primary 65536,
    .regionStateQuery .primary 65536,
    .releaseRange .primary (2 ^ 64) 0,
    .releaseRange .primary 0 (2 ^ 64),
    .shadowRange .primary (2 ^ 64) 0,
    .shadowRange .primary 0 (2 ^ 64)] = true := by decide

theorem test_refuses_forceTakeover_to_challenge : allIll [
    .forceTakeover .primary (2 ^ 32),
    .retryGranule .primary (2 ^ 64) false,
    .arrayStatus .primary (2 ^ 64),
    .arrayBarrier .primary (2 ^ 64),
    .rollUpdate .primary (2 ^ 64),
    .rollUpdateTimeout 64,
    .getCertificate .doe 256 0 0,
    .getCertificate .doe 0 65536 0,
    .getCertificate .doe 0 0 65536,
    .challenge .doe 256 0,
    .challenge .doe 0 (2 ^ 256)] = true := by decide

theorem test_refuses_getMeasurements_to_cmbPoll : allIll [
    .getMeasurements .doe 256 0 false,
    .getMeasurements .doe 0 (2 ^ 256) false,
    .startChecksComplete 256,
    .startCheckTimeout 256,
    .regionDrained 256,
    .liveCheck 2,
    .liveApply 2,
    .writeHoldTimeout 65536,
    .dirtyListReady 4,
    .cmbPoll [256]] = true := by decide

theorem test_refuses_paramWrite_to_heartbeat : allIll [
    .paramWrite (2 ^ 32),
    .ringExamine 4 false [],
    .sequentialWalk 256,
    .dieTimeout 16 0,
    .dieTimeout 0 8,
    .vaultTraining 16 false,
    .vaultForceFail 16,
    .fetchComplete (2 ^ 24) false false 0,
    .bulkRestoreIssue 4,
    .heartbeat ⟨65536, 0, 0, false, false, false, false⟩,
    .heartbeat ⟨0, 65536, 0, false, false, false, false⟩,
    .heartbeat ⟨0, 0, 16777216, false, false, false, false⟩] = true := by decide

theorem test_refuses_mirror_to_repair : allIll [
    .mirror ⟨65536, 0, 0, false, false, false, false⟩ [],
    .mirror ⟨0, 0, 0, false, false, false, false⟩ (List.replicate 4 ⟨0, 0, 0, 0⟩),
    .mirror ⟨0, 0, 0, false, false, false, false⟩ [⟨2 ^ 32, 0, 0, 0⟩],
    .mirror ⟨0, 0, 0, false, false, false, false⟩ [⟨0, 2 ^ 32, 0, 0⟩],
    .mirror ⟨0, 0, 0, false, false, false, false⟩ [⟨0, 0, 2 ^ 64, 0⟩],
    .repair ⟨65536, 0, 0, false, false, false, false⟩ [],
    .repair ⟨0, 0, 0, false, false, false, false⟩ (List.replicate 4 ⟨0, 0, 0, 0⟩),
    .repair ⟨0, 0, 0, false, false, false, false⟩ [⟨2 ^ 32, 0, 0, 0⟩],
    .repair ⟨0, 0, 0, false, false, false, false⟩ [⟨0, 2 ^ 32, 0, 0⟩],
    .repair ⟨0, 0, 0, false, false, false, false⟩ [⟨0, 0, 2 ^ 64, 0⟩]] = true := by decide

theorem test_refuses_state_to_openQuery : allIll [
    .state ⟨65536, 0, 0, false, false, false, false⟩ 0 false false 0 0 0,
    .state ⟨0, 0, 0, false, false, false, false⟩ 15 false false 0 0 0,
    .state ⟨0, 0, 0, false, false, false, false⟩ 0 false false 64 0 0,
    .state ⟨0, 0, 0, false, false, false, false⟩ 0 false false 0 (2 ^ 32) 0,
    .state ⟨0, 0, 0, false, false, false, false⟩ 0 false false 0 0 (2 ^ 32),
    .digest ⟨65536, 0, 0, false, false, false, false⟩ 0 0 0,
    .digest ⟨0, 0, 0, false, false, false, false⟩ 15 0 0,
    .digest ⟨0, 0, 0, false, false, false, false⟩ 0 4 0,
    .digest ⟨0, 0, 0, false, false, false, false⟩ 0 0 (2 ^ 96),
    .openQuery ⟨65536, 0, 0, false, false, false, false⟩ 0 0,
    .openQuery ⟨0, 0, 0, false, false, false, false⟩ 15 0,
    .openQuery ⟨0, 0, 0, false, false, false, false⟩ 0 256] = true := by decide

theorem test_refuses_openReply_to_shadowMap : allIll [
    .openReply ⟨65536, 0, 0, false, false, false, false⟩ 0 0 0,
    .openReply ⟨0, 0, 0, false, false, false, false⟩ 15 0 0,
    .openReply ⟨0, 0, 0, false, false, false, false⟩ 0 256 0,
    .openReply ⟨0, 0, 0, false, false, false, false⟩ 0 0 256,
    .shadowNotice ⟨65536, 0, 0, false, false, false, false⟩ 0 0 0,
    .shadowNotice ⟨0, 0, 0, false, false, false, false⟩ 15 0 0,
    .shadowNotice ⟨0, 0, 0, false, false, false, false⟩ 0 (2 ^ 32) 0,
    .shadowNotice ⟨0, 0, 0, false, false, false, false⟩ 0 0 (2 ^ 32),
    .shadowMap ⟨65536, 0, 0, false, false, false, false⟩ 0 0 0,
    .shadowMap ⟨0, 0, 0, false, false, false, false⟩ 15 0 0,
    .shadowMap ⟨0, 0, 0, false, false, false, false⟩ 0 (2 ^ 32) 0,
    .shadowMap ⟨0, 0, 0, false, false, false, false⟩ 0 0 (2 ^ 64)] = true := by decide

theorem test_refuses_releaseNotice_to_dumpNotice : allIll [
    .releaseNotice ⟨65536, 0, 0, false, false, false, false⟩ 0 0 0,
    .releaseNotice ⟨0, 0, 0, false, false, false, false⟩ 15 0 0,
    .releaseNotice ⟨0, 0, 0, false, false, false, false⟩ 0 (2 ^ 32) 0,
    .releaseNotice ⟨0, 0, 0, false, false, false, false⟩ 0 0 (2 ^ 64),
    .releaseDone ⟨65536, 0, 0, false, false, false, false⟩ 0 0,
    .releaseDone ⟨0, 0, 0, false, false, false, false⟩ 15 0,
    .releaseDone ⟨0, 0, 0, false, false, false, false⟩ 0 (2 ^ 32),
    .pressure ⟨65536, 0, 0, false, false, false, false⟩ 0 false,
    .pressure ⟨0, 0, 0, false, false, false, false⟩ 15 false,
    .dumpNotice ⟨65536, 0, 0, false, false, false, false⟩ 0 0 0,
    .dumpNotice ⟨0, 0, 0, false, false, false, false⟩ 15 0 0,
    .dumpNotice ⟨0, 0, 0, false, false, false, false⟩ 0 256 0,
    .dumpNotice ⟨0, 0, 0, false, false, false, false⟩ 0 0 (2 ^ 64)] = true := by decide

theorem test_refuses_poisonLine_to_repairReply : allIll [
    .poisonLine ⟨65536, 0, 0, false, false, false, false⟩ 0 0 0,
    .poisonLine ⟨0, 0, 0, false, false, false, false⟩ 15 0 0,
    .poisonLine ⟨0, 0, 0, false, false, false, false⟩ 0 (2 ^ 32) 0,
    .poisonLine ⟨0, 0, 0, false, false, false, false⟩ 0 0 (2 ^ 32),
    .repairReq ⟨65536, 0, 0, false, false, false, false⟩ 0 0 0,
    .repairReq ⟨0, 0, 0, false, false, false, false⟩ 15 0 0,
    .repairReq ⟨0, 0, 0, false, false, false, false⟩ 0 (2 ^ 32) 0,
    .repairReq ⟨0, 0, 0, false, false, false, false⟩ 0 0 256,
    .repairReply ⟨65536, 0, 0, false, false, false, false⟩ 0 0 0 0,
    .repairReply ⟨0, 0, 0, false, false, false, false⟩ 15 0 0 0,
    .repairReply ⟨0, 0, 0, false, false, false, false⟩ 0 (2 ^ 32) 0 0,
    .repairReply ⟨0, 0, 0, false, false, false, false⟩ 0 0 256 0,
    .repairReply ⟨0, 0, 0, false, false, false, false⟩ 0 0 0 256] = true := by decide

theorem test_refuses_resyncEnd_to_return : allIll [
    .resyncEnd ⟨65536, 0, 0, false, false, false, false⟩ 0,
    .resyncEnd ⟨0, 0, 0, false, false, false, false⟩ 15,
    .adopted ⟨65536, 0, 0, false, false, false, false⟩ 0 0,
    .adopted ⟨0, 0, 0, false, false, false, false⟩ 15 0,
    .adopted ⟨0, 0, 0, false, false, false, false⟩ 0 256,
    .adoptReply ⟨65536, 0, 0, false, false, false, false⟩ 0 0 0,
    .adoptReply ⟨0, 0, 0, false, false, false, false⟩ 15 0 0,
    .adoptReply ⟨0, 0, 0, false, false, false, false⟩ 0 256 0,
    .adoptReply ⟨0, 0, 0, false, false, false, false⟩ 0 0 256,
    .return ⟨65536, 0, 0, false, false, false, false⟩ 0 0,
    .return ⟨0, 0, 0, false, false, false, false⟩ 15 0,
    .return ⟨0, 0, 0, false, false, false, false⟩ 0 256] = true := by decide

theorem test_refuses_ownCopyDone_to_laneSwapAck : allIll [
    .ownCopyDone ⟨65536, 0, 0, false, false, false, false⟩ 0 0,
    .ownCopyDone ⟨0, 0, 0, false, false, false, false⟩ 15 0,
    .ownCopyDone ⟨0, 0, 0, false, false, false, false⟩ 0 256,
    .laneSwap ⟨65536, 0, 0, false, false, false, false⟩ 0 0 0 0 0,
    .laneSwap ⟨0, 0, 0, false, false, false, false⟩ 15 0 0 0 0,
    .laneSwap ⟨0, 0, 0, false, false, false, false⟩ 0 2 0 0 0,
    .laneSwap ⟨0, 0, 0, false, false, false, false⟩ 0 0 16 0 0,
    .laneSwap ⟨0, 0, 0, false, false, false, false⟩ 0 0 0 (2 ^ 32) 0,
    .laneSwapAck ⟨65536, 0, 0, false, false, false, false⟩ 0 0 0,
    .laneSwapAck ⟨0, 0, 0, false, false, false, false⟩ 15 0 0,
    .laneSwapAck ⟨0, 0, 0, false, false, false, false⟩ 0 16 0,
    .laneSwapAck ⟨0, 0, 0, false, false, false, false⟩ 0 0 (2 ^ 32)] = true := by decide

theorem test_refuses_laneFault_to_claim : allIll [
    .laneFault 9 false 0 0,
    .rollCall 64 0 0 0 0 0 false,
    .rollCall 0 65 0 0 0 0 false,
    .rollCall 0 0 65536 0 0 0 false,
    .rollCall 0 0 0 (2 ^ 64) 0 0 false,
    .rollCall 0 0 0 0 (2 ^ 64) 0 false,
    .rollCall 0 0 0 0 0 (2 ^ 64) false,
    .claim 64 0 0 false,
    .claim 0 65 0 false,
    .claim 0 0 65536 false] = true := by decide

theorem test_refuses_join_to_witnessA : allIll [
    .join 64 0 0 0 false,
    .join 0 65 0 0 false,
    .join 0 0 65536 0 false,
    .join 0 0 0 (2 ^ 64) false,
    .witnessQ 64 0 0 0 0 false,
    .witnessQ 0 64 0 0 0 false,
    .witnessQ 0 0 65 0 0 false,
    .witnessQ 0 0 0 65536 0 false,
    .witnessQ 0 0 0 0 64 false,
    .witnessA 64 0 0 0 0 0 false,
    .witnessA 0 64 0 0 0 0 false,
    .witnessA 0 0 65 0 0 0 false,
    .witnessA 0 0 0 65536 0 0 false,
    .witnessA 0 0 0 0 64 0 false,
    .witnessA 0 0 0 0 0 256 false] = true := by decide

theorem test_refuses_winRd_to_winRdA : allIll [
    .winRd 64 0 0 0 0 false,
    .winRd 0 64 0 0 0 false,
    .winRd 0 0 65 0 0 false,
    .winRd 0 0 0 65536 0 false,
    .winRd 0 0 0 0 (2 ^ 32) false,
    .winRdA 64 0 0 0 0 0 false,
    .winRdA 0 64 0 0 0 0 false,
    .winRdA 0 0 65 0 0 0 false,
    .winRdA 0 0 0 65536 0 0 false,
    .winRdA 0 0 0 0 256 0 false,
    .winRdA 0 0 0 0 0 (2 ^ 64) false] = true := by decide

theorem test_refuses_winWr_to_mctpFrame : allIll [
    .winWr 64 0 0 0 0 0 0 false false,
    .winWr 0 64 0 0 0 0 0 false false,
    .winWr 0 0 65 0 0 0 0 false false,
    .winWr 0 0 0 65536 0 0 0 false false,
    .winWr 0 0 0 0 (2 ^ 32) 0 0 false false,
    .winWr 0 0 0 0 0 256 0 false false,
    .winWr 0 0 0 0 0 0 (2 ^ 64) false false,
    .mctpFrame false 64 0 0 0 [] false,
    .mctpFrame false 0 64 0 0 [] false,
    .mctpFrame false 0 0 65 0 [] false,
    .mctpFrame false 0 0 0 65536 [] false,
    .mctpFrame false 0 0 0 0 (List.replicate 257 0) false] = true := by decide +kernel

theorem test_refuses_cmd_to_cmdA : allIll [
    .cmd 64 0 0 0 0 [] false,
    .cmd 0 64 0 0 0 [] false,
    .cmd 0 0 65 0 0 [] false,
    .cmd 0 0 0 65536 0 [] false,
    .cmd 0 0 0 0 65536 [] false,
    .cmd 0 0 0 0 0 (List.replicate 249 0) false,
    .cmdA 64 0 0 0 0 0 [] false,
    .cmdA 0 64 0 0 0 0 [] false,
    .cmdA 0 0 65 0 0 0 [] false,
    .cmdA 0 0 0 65536 0 0 [] false,
    .cmdA 0 0 0 0 65536 0 [] false,
    .cmdA 0 0 0 0 0 256 [] false] = true := by decide +kernel

theorem test_refuses_fwData_to_windowWrite : allIll [
    .fwData 64 0 0 0 0 [] false,
    .fwData 0 64 0 0 0 [] false,
    .fwData 0 0 65 0 0 [] false,
    .fwData 0 0 0 65536 0 [] false,
    .fwData 0 0 0 0 (2 ^ 32) [] false,
    .fwData 0 0 0 0 0 (List.replicate 249 0) false,
    .windowRead .firmware (2 ^ 24) 0,
    .windowRead .firmware 0 9,
    .windowWrite .firmware (2 ^ 24) 0 0 false,
    .windowWrite .firmware 0 9 0 false,
    .windowWrite .firmware 0 0 (2 ^ 64) false] = true := by decide +kernel

theorem test_refuses_windowReadTimeout_to_alloc : allIll [
    .windowReadTimeout 65536,
    .claspWrite .firmware 4,
    .keyDataWrite .firmware 12 0 0,
    .keyDataWrite .firmware 0 9 0,
    .keyDataWrite .firmware 0 0 (2 ^ 64),
    .derive .firmware 8,
    .rekeyDone 264,
    .cipherOpComplete 8 false 0,
    .coreFault 8,
    .alloc [⟨256, .dump, 0⟩]] = true := by decide

theorem test_refuses_share_to_returnToRead : allIll [
    .share 0 0 (2 ^ 24),
    .release 0 (2 ^ 24),
    .sliceDrained 4,
    .programWord .firmware (2 ^ 23) 0,
    .programWord .firmware 0 (2 ^ 64),
    .eraseSector .firmware (2 ^ 23),
    .readEraseCounter .firmware 2,
    .statusAndIdentity .firmware 2,
    .enterBogOakRow .firmware 2,
    .returnToRead .firmware 2] = true := by decide

theorem test_refuses_sequenceTimeout_to_cursorLoad : allIll [
    .sequenceTimeout 2,
    .flashWindowRead .firmware (2 ^ 23) 0 0,
    .flashWindowRead .firmware 0 9 0,
    .flashWindowRead .firmware 0 0 11,
    .flashOpComplete 2 false false 0,
    .journalAppend .firmware 4 0 0 0 false,
    .journalAppend .firmware 0 2 0 0 false,
    .journalAppend .firmware 0 0 1024 0 false,
    .journalAppend .firmware 0 0 0 1024 false,
    .cursorLoad .firmware (2 ^ 64)] = true := by decide

theorem test_refuses_extend_to_vaultReadComplete : allIll [
    .extend .firmware 8,
    .patrolRead 4 [] [] .none,
    .patrolRead 0 [⟨0, 10, 0⟩] [] .none,
    .patrolRead 0 [⟨0, 0, 256⟩] [] .none,
    .patrolRead 0 [] [⟨0, 10, 0⟩] .none,
    .patrolRead 0 [] [⟨0, 0, 256⟩] .none,
    .sdeStallTimeout 4,
    .markSet 4,
    .injectArm 4,
    .vaultReadComplete 0 [0, 0, 0] 0 false false false false] = true := by decide

theorem test_refuses_sdeParityError_to_sdeParityError : allIll [
    .sdeParityError 4] = true := by decide

theorem test_zero_operands_fit_0 : allWell [
    .strapSample 0 false false,
    .dramTrainingDone 0,
    .messageArrival ⟨0, 0, 0, 0, 0, 0, 0, false, false⟩ 0,
    .staleRole ⟨0, 0, 0, 0, 0, 0, 0, false, false⟩,
    .roleDataWrite 0 0,
    .registerWrite .firmware 0 0 0 false,
    .rcRead .firmware 0 0,
    .hdmDecoderCommit 0 0 0 0 0,
    .hdmDecoderUncommit 0,
    .memWrite 0 0 0 0 false,
    .memRead 0 0 [] [],
    .lineWritten 0,
    .setShutdownState .primary 0,
    .getPoisonList .primary 0 0,
    .injectPoison .primary 0,
    .clearPoison .primary 0 0,
    .getLog .primary 0 0 0,
    .getEventRecords .primary 0,
    .clearEventRecords .primary 0 0 false,
    .transferFw .primary 0 [],
    .setTimestamp .primary 0,
    .unsupportedOpcode .primary 0,
    .regionStateQuery .primary 0,
    .releaseRange .primary 0 0] = true := by decide

theorem test_zero_operands_fit_1 : allWell [
    .shadowRange .primary 0 0,
    .forceTakeover .primary 0,
    .retryGranule .primary 0 false,
    .arrayStatus .primary 0,
    .arrayBarrier .primary 0,
    .rollUpdate .primary 0,
    .rollUpdateTimeout 0,
    .getCertificate .doe 0 0 0,
    .challenge .doe 0 0,
    .getMeasurements .doe 0 0 false,
    .startChecksComplete 0,
    .startCheckTimeout 0,
    .regionDrained 0,
    .liveCheck 0,
    .liveApply 0,
    .writeHoldTimeout 0,
    .dirtyListReady 0,
    .cmbPoll [],
    .paramWrite 0,
    .ringExamine 0 false [],
    .sequentialWalk 0,
    .dieTimeout 0 0,
    .vaultTraining 0 false,
    .vaultForceFail 0] = true := by decide

theorem test_zero_operands_fit_2 : allWell [
    .fetchComplete 0 false false 0,
    .bulkRestoreIssue 0,
    .heartbeat ⟨0, 0, 0, false, false, false, false⟩,
    .mirror ⟨0, 0, 0, false, false, false, false⟩ [],
    .repair ⟨0, 0, 0, false, false, false, false⟩ [],
    .state ⟨0, 0, 0, false, false, false, false⟩ 0 false false 0 0 0,
    .digest ⟨0, 0, 0, false, false, false, false⟩ 0 0 0,
    .openQuery ⟨0, 0, 0, false, false, false, false⟩ 0 0,
    .openReply ⟨0, 0, 0, false, false, false, false⟩ 0 0 0,
    .shadowNotice ⟨0, 0, 0, false, false, false, false⟩ 0 0 0,
    .shadowMap ⟨0, 0, 0, false, false, false, false⟩ 0 0 0,
    .releaseNotice ⟨0, 0, 0, false, false, false, false⟩ 0 0 0,
    .releaseDone ⟨0, 0, 0, false, false, false, false⟩ 0 0,
    .pressure ⟨0, 0, 0, false, false, false, false⟩ 0 false,
    .dumpNotice ⟨0, 0, 0, false, false, false, false⟩ 0 0 0,
    .poisonLine ⟨0, 0, 0, false, false, false, false⟩ 0 0 0,
    .repairReq ⟨0, 0, 0, false, false, false, false⟩ 0 0 0,
    .repairReply ⟨0, 0, 0, false, false, false, false⟩ 0 0 0 0,
    .resyncEnd ⟨0, 0, 0, false, false, false, false⟩ 0,
    .adopted ⟨0, 0, 0, false, false, false, false⟩ 0 0,
    .adoptReply ⟨0, 0, 0, false, false, false, false⟩ 0 0 0,
    .return ⟨0, 0, 0, false, false, false, false⟩ 0 0,
    .ownCopyDone ⟨0, 0, 0, false, false, false, false⟩ 0 0,
    .laneSwap ⟨0, 0, 0, false, false, false, false⟩ 0 0 0 0 0] = true := by decide

theorem test_zero_operands_fit_3 : allWell [
    .laneSwapAck ⟨0, 0, 0, false, false, false, false⟩ 0 0 0,
    .laneFault 0 false 0 0,
    .rollCall 0 0 0 0 0 0 false,
    .claim 0 0 0 false,
    .join 0 0 0 0 false,
    .witnessQ 0 0 0 0 0 false,
    .witnessA 0 0 0 0 0 0 false,
    .winRd 0 0 0 0 0 false,
    .winRdA 0 0 0 0 0 0 false,
    .winWr 0 0 0 0 0 0 0 false false,
    .mctpFrame false 0 0 0 0 [] false,
    .cmd 0 0 0 0 0 [] false,
    .cmdA 0 0 0 0 0 0 [] false,
    .fwData 0 0 0 0 0 [] false,
    .windowRead .firmware 0 0,
    .windowWrite .firmware 0 0 0 false,
    .windowReadTimeout 0,
    .claspWrite .firmware 0,
    .keyDataWrite .firmware 0 0 0,
    .derive .firmware 0,
    .rekeyDone 0,
    .cipherOpComplete 0 false 0,
    .coreFault 0,
    .alloc []] = true := by decide

theorem test_zero_operands_fit_4 : allWell [
    .share 0 0 0,
    .release 0 0,
    .sliceDrained 0,
    .programWord .firmware 0 0,
    .eraseSector .firmware 0,
    .readEraseCounter .firmware 0,
    .statusAndIdentity .firmware 0,
    .enterBogOakRow .firmware 0,
    .returnToRead .firmware 0,
    .sequenceTimeout 0,
    .flashWindowRead .firmware 0 0 0,
    .flashOpComplete 0 false false 0,
    .journalAppend .firmware 0 0 0 0 false,
    .cursorLoad .firmware 0,
    .extend .firmware 0,
    .patrolRead 0 [] [] .none,
    .sdeStallTimeout 0,
    .markSet 0,
    .injectArm 0,
    .vaultReadComplete 0 [0, 0, 0, 0] 0 false false false false,
    .sdeParityError 0] = true := by decide


/-- A state with the core running in a mode. -/
def up (m : Mode) : State :=
  { State.reset with
    spn := { State.reset.spn with mode := m }
    pwr := { State.reset.pwr with aonUp := true, coreEn := true, corePg := true } }

/-- A state that serves region 0 of one quadrant, 16,384 granules, with a linked host. -/
def serving0 : State :=
  { up .service with
    spn := { mode := .service, dramGib := 1, quadEn := 1 }
    img := { active := { structureRec := some ⟨1, [], []⟩ } }
    hlk := { linkUp := true, presented := true, dec0 := ⟨0, 0x10000000, 1, 0, true, false⟩ }
    wrp := { regions := (List.range 256).map (fun r =>
      if r = 0 then { entry := ⟨0, 16384, false, .loc, .plain, false, 0, 0, 0, 1024, 0⟩, life := .online } else {}) } }

/-- The same with region 0 OFFLINE. -/
def offline0 : State := { serving0 with wrp := {} }


/-! ### The spec's worked cases, and the published vectors of the standards it names -/

/-- The reference build's cache: four quadrants of 64 GiB. -/
def reference0 : State := { State.reset with spn := { State.reset.spn with dramGib := 64, quadEn := 15 } }

/-- The address of R20 to R22: HDM offset 0x1_2345_6780 lies in quadrant 1, local granule 74,565. -/
theorem test_address_decode : granuleOf (0x123456780 / 64) = 298261 ∧ quadOf reference0 298261 = 1 ∧ localOf reference0 298261 = 74565 ∧
    granuleAt reference0 1 74565 = 298261 ∧ hdmGranules reference0 * 16384 = 261632 * 1048576 := by decide +kernel

/-- The store of chapter 05's worked case: E_V, B and the threshold of HIGH. -/
theorem test_worked_budget : energyV 352 39600 22000 = 190812 ∧ rawBudget false false 2097152 187400 25 14000 4100 = 2022824 ∧
    highNext false 1820541 2022824 = false ∧ highNext false 1820542 2022824 = true := by decide +kernel

/-- The recharge of R201: no granule below the fixed energy, 573,440 at 56.0 J, the cap at 155.2 J and above. -/
theorem test_recharge_budget : rawBudget false false 2097152 0 25 14000 3200 = 0 ∧ rawBudget false false 2097152 56000 25 14000 3200 = 573440 ∧
    rawBudget false false 2097152 155200 25 14000 3200 = 2097152 ∧ rawBudget false false 2097152 456000 25 14000 3200 = 2097152 := by
  decide +kernel

/-- FIPS 180-4's SHA-384 of "abc": its first eight bytes. -/
theorem test_sha384 : (sha384 [0x61, 0x62, 0x63]).take 8 = [0xcb, 0x00, 0x75, 0x3f, 0x45, 0xa3, 0x5e, 0x8b] := by decide +kernel

/-- FIPS 197's example of AES-256. -/
theorem test_aes256 : (aesEncrypt (List.range 32) ((List.range 16).map (fun k => 17 * k))).take 8 =
    [0x8e, 0xa2, 0xb7, 0xca, 0x51, 0x67, 0x45, 0xbf] := by decide +kernel

/-- IEEE 1619's AES-256-XTS vector for data unit 0xFF: the first block. -/
theorem test_xts : (xtsEncrypt [0x27,0x18,0x28,0x18,0x28,0x45,0x90,0x45,0x23,0x53,0x60,0x28,0x74,0x71,0x35,0x26,0x62,0x49,0x77,0x57,0x24,0x70,0x93,0x69,0x99,0x59,0x57,0x49,0x66,0x96,0x76,0x27]
    [0x31,0x41,0x59,0x26,0x53,0x58,0x97,0x93,0x23,0x84,0x62,0x64,0x33,0x83,0x27,0x95,0x02,0x88,0x41,0x97,0x16,0x93,0x99,0x37,0x51,0x05,0x82,0x09,0x74,0x94,0x45,0x92]
    0xFF (List.range 16)).take 8 = [0x1c, 0x3b, 0x3a, 0x10, 0x2f, 0x77, 0x03, 0x86] := by decide +kernel

/-- RFC 4231's second case of HMAC-SHA-384. -/
theorem test_hmac384 : (hmac384 [0x4a, 0x65, 0x66, 0x65] [0x77, 0x68, 0x61, 0x74, 0x20, 0x64, 0x6f, 0x20, 0x79, 0x61, 0x20, 0x77, 0x61, 0x6e, 0x74, 0x20,
    0x66, 0x6f, 0x72, 0x20, 0x6e, 0x6f, 0x74, 0x68, 0x69, 0x6e, 0x67, 0x3f]).take 8 = [0xaf, 0x45, 0xd2, 0xe3, 0x76, 0x48, 0x40, 0x31] := by
  decide +kernel

/-- Twice the base point of P-384, and the check value of CRC-32C. -/
theorem test_p384_crc32c : (ecPublic 2).1 =
      0x08D999057BA3D2D969260045C55B97F089025959A6F434D651D207D19FB96E9E4FE0E86EBE0E64F85B96A9C75295DF61 ∧
    crc32c [0x31, 0x32, 0x33, 0x34, 0x35, 0x36, 0x37, 0x38, 0x39] = 0xE3069283 := by decide +kernel

theorem witness_StepRunsFrontCommand : State.reset.pending = [] := rfl



theorem witness_StepKeepsMemoryCanonical :
    MemoryCanonical State.reset ∧ step State.reset = .next State.reset ∧
    MemoryCanonical { State.reset with gst := { State.reset.gst with dram := [(0, 1), (7, 255)] } } := by
  refine ⟨by decide, rfl, by decide⟩

theorem witness_StepLosesNoRowBit : step State.reset = .next State.reset := rfl





theorem witness_RailsStrapsAndClocks :
    (let s := { State.reset with pwr := { State.reset.pwr with coreEn := true } }
     s.pwr.coreEn = true ∧ s.pwr.corePg = false ∧ s.pwr.railReset = false ∧ s.pwr.railTries < 3) ∧
    (let s := { State.reset with pwr := { State.reset.pwr with coreEn := true, railReset := true } }
     s.pwr.coreEn = true ∧ s.pwr.corePg = false ∧ s.pwr.railReset = true) ∧
    (let s := { State.reset with pwr := { State.reset.pwr with coreEn := true, railTries := 3 } }
     s.pwr.coreEn = true ∧ s.pwr.corePg = false ∧ s.pwr.railReset = false ∧ 3 ≤ s.pwr.railTries) ∧
    (let s := { State.reset with pwr := { State.reset.pwr with retryWait := true } }
     s.pwr.retryWait = true) ∧
    ((up .boot).pwr.corePg = true ∧ (up .boot).pwr.strapped = false ∧ (up .boot).spn.clockDegraded = false ∧
      (up .boot).spn.mode = .boot ∧ (up .boot).img.bootStep = 0 ∧ (up .boot).pwr.aonUp = true ∧ (up .boot).pwr.rtcDegraded = false) ∧
    (let s := { up .boot with pwr := { (up .boot).pwr with lastKind := 1 } }
     s.pwr.corePg = true ∧ s.spn.clockDegraded = false ∧ s.pwr.lastKind = 1 ∧ s.spn.mode = .boot ∧ s.img.bootStep = 0) ∧
    (let s := { State.reset with pwr := { State.reset.pwr with aonUp := true } }
     s.pwr.aonUp = true ∧ s.pwr.rtcDegraded = false ∧ s.pwr.corePg = false) := by decide

theorem witness_ResetKindsByTheirCommands :
    ((up .service).pwr.corePg = true ∧ (up .service).pwr.halted = false ∧ (up .service).spn.mode ≠ .dump ∧ (up .service).pwr.wdtMs ≠ 0) ∧
    ((up .dump).pwr.halted = false ∧ (up .dump).spn.mode = .dump) ∧ ((up .parked).spn.mode = .parked) ∧
    ((up .recovery).spn.mode = .recovery) ∧ State.reset.pwr.aonUp = false ∧
    (let s := { State.reset with pwr := { State.reset.pwr with aonUp := true, poweredDown := true }, aos := { valid := true } }
     s.pwr.aonUp = true ∧ s.pwr.poweredDown = true ∧ s.aos.valid = true) := by decide

/-- A vault whose map holds a copy of granule 0, of a region of one granule. -/
def vaultWithData : Vlt :=
  { blank := false
    manifest := some ⟨1, 0, 1, 7, [], [(0, 0, 1, 0)]⟩
    ckpt := some ⟨1, [(0, ⟨1, 5, false, false, false⟩)], [], 0, 0, 0, 0, 0, 0, 0⟩ }

theorem witness_BootStepsInOrder :
    ((up .boot).pwr.corePg = true ∧ (up .boot).img.bootStep = 0 ∧ (up .boot).sig.stage = 0 ∧ (up .boot).spn.mode = .boot) ∧
    ((qdcOf { up .boot with qdc := [{ state := 1 }], img := { bootStep := 5 } } 0).state = 1) ∧
    (let s := { up .boot with img := { bootStep := 6 } }
     s.spn.mode = .boot ∧ s.img.bootStep = 6 ∧ s.vlt.manifest = none ∧ s.vlt.blank = true) ∧
    (let s := { up .boot with img := { bootStep := 6 }, vlt := { manifest := some ⟨1, 0, 1, 7, [], []⟩ } }
     s.vlt.manifest = some ⟨1, 0, 1, 7, [], []⟩ ∧ (7 : Digest) ≠ s.img.vlh ∧ s.vlt.ckpt = none) ∧
    (let s := { up .boot with img := { bootStep := 13 }, cip := { armed := true } }
     s.img.bootStep = 13 ∧ s.cip.armed = true ∧ regionMismatch s s.img.active.regions = none) ∧
    (let s := { up .boot with img := { bootStep := 15 } }
     s.img.bootStep = 15 ∧ vaultLive s = false ∧ s.pwr.testStrap = false) ∧
    (let s := { up .boot with img := { bootStep := 15 }, vlt := vaultWithData }
     s.img.bootStep = 15 ∧ vaultLive s = true ∧ s.vlt.ckpt.isSome = true) ∧
    (let s := { up .parked with hlk := { bg := some ⟨.primary, 0xC005⟩ }, pwr := { (up .parked).pwr with memEn := true },
                                vlt := vaultWithData }
     s.spn.mode = .parked ∧ bgRuns s 0xC005 = true ∧ s.pwr.memEn = true ∧ s.qdc.any (fun d => d.state = 1) = false ∧
       s.vlt.ckpt.isSome = true) := by decide

theorem witness_BootStepsInOrder_mismatch :
    (let s := { up .boot with img := { bootStep := 13 }, cip := { armed := true }, vlt := vaultWithData }
     s.img.bootStep = 13 ∧ s.cip.armed = true ∧ regionMismatch s s.img.active.regions = some 0) := by decide +kernel

theorem witness_MessagesFollowTheRoleTable :
    (let m : XMsg := ⟨1, 2, 2, 1, 0, 0, 5, false, true⟩
     m.target < 48 ∧ m.source < 48 ∧ m.role = (roleOf (up .service) m.target).func ∧ m.gen = (roleOf (up .service) m.target).gen ∧
     (⟨1, 2, 2, 9, 0, 0, 5, false, false⟩ : XMsg).gen ≠ (roleOf (up .service) 2).gen ∧
     bounceCount { up .service with spn := { bounces := [((1, 5), 2)] } } m = 2 ∧
     bounceCount { up .service with spn := { bounces := [((1, 5), 3)] } } m = 3 ∧ m.forDump = false ∧ m.forHost = true) ∧
    (let s := up .test
     s.pwr.corePg = true ∧ s.spn.mode = .test ∧ s.spn.roleIdx < 48 ∧ s.spn.roles.length = 48 ∧
       (roleOf s s.spn.roleIdx).func ≠ 5 % 64 ∧ (roleOf s s.spn.roleIdx).func = 0 % 64 ∧ (roleOf s s.spn.roleIdx).cover = 15 % 16) ∧
    ((up .dump).spn.mode = .dump) ∧ ((up .service).spn.mode ≠ .dump ∧ (up .service).spn.mode ≠ .test) := by decide +kernel

theorem witness_RegisterAccesses :
    (up .service).pwr.corePg = true ∧ (up .service).evr.foldMs < 65536 ∧ (up .service).spn.roleIdx < 64 ∧
    (up .dump).pwr.corePg = true ∧ (up .dump).spn.mode = .dump ∧ (up .service).spn.roleChanges = 0 ∧
    (up .service).spn.unresolved = 0 ∧ (up .service).spn.staleBounces = 0 := by decide

theorem witness_HostLinkEvents :
    (let s := { up .service with hlk := { presented := true } }
     s.hlk.presented = true ∧ s.hlk.perst = false ∧ s.pwr.corePg = true ∧ s.spn.mode ≠ .boot ∧ s.spn.mode ≠ .recovery ∧ s.spn.mode ≠ .test ∧
       (decoders s)[0]? = some ⟨0, 0, 1, 0, false, false⟩ ∧ commitOk 0 0 0 1 0 s = true ∧ commitOk 0 1 0 1 0 s = false) ∧
    (let s := { up .service with hlk := { linkUp := true } }
     s.hlk.linkUp = true) ∧
    ((up .recovery).hlk.perst = false ∧ (up .recovery).spn.mode = .recovery) ∧
    (let d : Decoder := ⟨0, 0x10000000, 1, 0, true, false⟩
     let s := { up .service with hlk := { dec0 := d } }
     (decoders s)[0]? = some d ∧ d.committed = true ∧ ((decoders s)[1]?).any Decoder.committed = false ∧
     (let u := { up .service with hlk := { dec0 := d, dec1 := d } }
      (decoders u)[0]? = some d ∧ ((decoders u)[1]?).any Decoder.committed = true)) := by decide

theorem witness_HostAccessesByRegionState :
    (serving0.hlk.linkUp = true ∧ dpaLine serving0 3 = some 3 ∧ 0 < serving0.hlk.rwdFree ∧ serving0.hlk.writes = [] ∧
      serving0.hlk.ingressClosed = false ∧ accessServed serving0 (granuleOf 3) = true ∧ regionOf serving0 (granuleOf 3) = some 0 ∧
      0 < serving0.hlk.reqFree ∧ serving0.hlk.reads = [] ∧ gstate serving0 (granuleOf 3) ≠ .pending ∧
      memReady serving0 (quadOf serving0 (granuleOf 3)) = true) ∧
    (dpaLine offline0 3 = some 3 ∧ accessServed offline0 (granuleOf 3) = false) ∧
    (admitHold { serving0 with wrp := { serving0.wrp with b := 1 }, gst := { rsv := [5] } } (newWrite 1 3 1 0 0 false) = .budget ∧ (newWrite 1 3 1 0 0 false).hold = .none) ∧
    (let s := { serving0 with wrp := { serving0.wrp with b := 10 } }
     admitHold s (newWrite 1 3 1 0 0 false) = .none ∧
       effFor s 0 (granuleOf 3) = some (.loc, false, false)) ∧
    (let s := { serving0 with hlk := { serving0.hlk with writes := [newWrite 1 3 1 0 0 false] } }
     s.hlk.writes.find? (fun x => x.tag = 1) = some (newWrite 1 3 1 0 0 false)) ∧
    (let w := { newWrite 1 3 1 0 0 false with hold := Hold.share }
     let s := { serving0 with hlk := { serving0.hlk with writes := [w] } }
     s.hlk.writes.find? (fun x => x.tag = 1) = some w ∧ holdNow s w = .share) := by decide +kernel

theorem witness_WriteRowsOfStateTable :
    0 < hdmGranules serving0 ∧ isDirty serving0 0 = false ∧ 0 ∉ serving0.gst.rsv ∧
    gstate { serving0 with gst := { states := [(0, ⟨.poison, false⟩)] } } 0 = .poison := by decide +kernel

theorem witness_ReportingCommandsAnswer :
    Serves (up .service) ∧ (up .service).spn.mode ≠ .dump ∧
    VendorServes .primary [.restore, .service, .parked, .test] true false (up .service) ∧
    VendorServes .mctp runningModes true false { up .service with hlk := { mctpVendorEn := true } } ∧ 4096 ≤ 4096 ∧ 4096 < 4097 ∧ 255 < 256 ∧ ¬ 256 < 256 ∧
    ({ up .service with hlk := { presented := true } } : State).hlk.presented = true := by decide

theorem witness_SettingsEventLogsAndUnlisted :
    Serves (up .service) ∧ (up .service).spn.mode ≠ .dump ∧ 3 < 4 ∧ 4 ≤ 4 ∧ 0x7777 ∉ listedOpcodes ∧
    hostLog { up .service with hlk := { logFatal := [⟨true, 1, 2⟩] } } 3 ≠ [] := by decide

theorem witness_PoisonAndReleaseCommands :
    (Serves serving0 ∧ serving0.spn.mode ≠ .dump ∧ serving0.spn.mode ≠ .test) ∧
    (let s : State := { serving0 with spn := { mode := .test, dramGib := 1, quadEn := 1 } }
     let u := poisonLine 3 true s
     Serves s ∧ s.spn.mode = .test ∧ (192 : Nat) % 64 = 0 ∧ 192 < hdmGranules s * 16384 ∧ s.hlk.injected.length < 16 ∧
       linePoisoned u 3 = true ∧ Serves u ∧ u.spn.mode = .test ∧ 192 < hdmGranules u * 16384) ∧
    VendorServes .primary [.restore, .service, .test] false false serving0 ∧ rangeRegion serving0 0 16384 = .inl 0 ∧
    serving0.kor.state = .unpaired ∧ 0 < hdmGranules serving0 ∧ (64 : Nat) % 16384 ≠ 0 := by decide +kernel

theorem witness_MailboxDoorbells :
    mailboxOp (.barrier .mctp none) = some (.mctp, 0xC003, false) ∧ mailboxOp (.getFwInfo .primary) = some (.primary, 0x0200, true) ∧
    State.reset.pwr.corePg = false ∧
    (let s : State := { up .service with pwr := { (up .service).pwr with fwBusy := true } }
     s.pwr.corePg = true ∧ s.sig.recoverySvc = false ∧ s.pwr.fwBusy = true) ∧
    Serves (up .dump) ∧ (up .dump).spn.mode = .dump ∧ Serves (up .service) ∧ (up .service).spn.mode ≠ .dump ∧
    vendorRow 0xC005 = some ([.parked], true, true) ∧ (up .service).spn.mode ∉ [Mode.parked] ∧
    vendorRow 0xC003 = some ([.restore, .service, .test], true, true) ∧ ({ up .service with hlk := { mctpVendorEn := false } } : State).hlk.mctpVendorEn = false ∧
    (let s : State := { up .service with hlk := { bg := some ⟨.primary, 0xC002⟩ } }
     VendorServes .primary [.restore, .service, .test] true false s ∧ s.hlk.bg.isSome = true) := by decide

/-- A firmware component of no code, signed with ECDSA P-384 outside the model, and a device whose key hash is that of its key. -/
def tinyFirmware : Component :=
  { kind := .firmware, words := [0x131525746, 0x100000108] ++ List.replicate 6 0 ++ [
    0x153495844, 0x5b96a9c75295df61, 0x4fe0e86ebe0e64f8, 0x51d207d19fb96e9e, 0x89025959a6f434d6, 0x69260045c55b97f0, 0x8d999057ba3d2d9,
    0x61501e700a940e80, 0x5ffd43e94d39e22d, 0x904e505f256ab425, 0xb275d875bc6cc43e, 0xb7bfe8dffd6dba74, 0x8e80f1fa5b1b3ced,
    0x2d7e5c70500c831, 0xb408bbae5026580d, 0xbea4f240d3566da6, 0xcb9d3910202dcd06, 0x64793c7e5fdc7d98, 0x77a41d4606ffa14,
    0x25886ef81ee2a95, 0x9849f48a1be5f0a, 0x5810a1100effe192, 0xb4bde5b70531546b, 0xa2f94c17596b01d3, 0x1608c9ebe0797ea0] }

def keyed : State :=
  { serving0 with
    nrg := { quagOk := true }
    ifc := { bog := (List.range 6).map (fun i =>
      (6 + i, (sha384Digest (((compBytes tinyFirmware).drop 72).take 96)).toNat / 2 ^ (64 * i) % 2 ^ 64)) } }

theorem witness_UpdateAndBackgroundCommands_transfer :
    Serves keyed ∧ keyed.spn.mode ≠ .dump ∧ packageOk [tinyFirmware] = true ∧
    compOk (inactiveSlot keyed) keyed tinyFirmware = true ∧ keyed.nrg.quagOk = true ∧ keyed.hlk.bg = none := by decide +kernel

theorem witness_UpdateAndBackgroundCommands :
    Serves serving0 ∧ serving0.spn.mode ≠ .dump ∧ packageOk [] = false ∧ serving0.aos.scratch.held = [] ∧
    VendorServes .primary [.restore, .service, .test] false true serving0 ∧ defined serving0 0 = true ∧
    VendorServes .primary [.service, .restore] true true serving0 ∧ VendorServes .primary [.service] true true serving0 ∧
    dumpUnmet serving0 ≠ 0 ∧ serving0.nrg.lstate ≠ .waitBudget ∧ serving0.nrg.lstate ≠ .running := by decide +kernel

theorem witness_UpdateAndBackgroundCommands_energy :
    rangeRegion serving0 0 16384 = .inl 0 ∧ VendorServes .primary [.restore, .service, .test] true true serving0 ∧
    Serves { keyed with aos := { scratch := { held := [⟨.firmware, 0, 5, 1⟩] } } } ∧
    (let s : State := { serving0 with nrg := { input := .good, storePresent := true, anchor := .full }, wrp := { b := 5 } }
     VendorServes .primary [.service] true true s ∧ dumpUnmet s = 0 ∧ calibrationUnmet s = 0) ∧
    (let s : State := { serving0 with nrg := { lstate := .running } }
     VendorServes .primary [.service] true true s ∧ s.nrg.lstate = .running) := by decide +kernel

theorem witness_PowerStatesAndDomains :
    VendorServes .primary [.service] true true (up .service) ∧ (up .service).pwr.pstate = 0 ∧
    VendorServes .primary [.parked] true true (up .parked) ∧ (up .parked).kor.state = .unpaired ∧
    (let s : State := { up .service with pwr := { entry := 1, entryStep := 1 } }
     s.pwr.entry = 1 ∧ p2Refusals s 1 = [] ∧ blockOf s s.pwr.entryStep 2 = true) ∧
    (let s : State := { up .service with pwr := { entry := 1, entryStep := 6 } }
     s.pwr.entry = 1 ∧ s.pwr.entryStep = 6 ∧ s.aos.wake = [] ∧ s.hlk.bg = none) ∧
    (let s : State := { serving0 with pwr := { entry := 1, entryStep := 5 } }
     s.pwr.entry = 1 ∧ lowestRefusal (p2Refusals s s.pwr.entryStep ++ [(0x14, 6)].filter (blockRefusal s s.pwr.entryStep)) = some (0x14, 6)) := by
  decide +kernel

theorem witness_PowerStatesAndDomains_idle :
    (let s : State := { serving0 with pwr := { pstate := 2, on := 0x40 } }
     s.pwr.entry = 0 ∧ domainIdle s 6 = true ∧ s.spn.quadEn.testBit (6 - 6) = true ∧ memBusy s (6 - 6) = false) ∧
    (let s : State := { serving0 with pwr := { p1En := true, on := 0x400 } }
     s.pwr.entry = 0 ∧ domainIdle s 10 = true ∧ s.spn.quadEn.testBit (10 - 10) = true ∧ sdeBusy s (10 - 10) = false ∧ s.pwr.pstate = 0 ∧
       s.pwr.p1En = true ∧ serving s = true) ∧
    (let s : State := { serving0 with pwr := { pstate := 2, down := 0x40 } }
     serving s = true ∧ s.pwr.entry = 0 ∧ s.pwr.pstate = 2 ∧ s.pwr.down.testBit 6 = true) ∧
    (let s : State := { serving0 with pwr := { waking := 0x40 } }
     s.pwr.waking.testBit 6 = true ∧ 5 ≤ s.pwr.stallUs) := by decide +kernel

theorem witness_FiltersRailsAndSensors :
    (let s := up .service
     s.pwr.aonUp = true ∧ s.pwr.corePg = true ∧ (filterOf .pfailOd s).st = .idle ∧ pinUsed .pfailOd s = true ∧
       coreRail .core = true ∧ coreRail .mem = false ∧ s.pwr.tempOut.testBit 3 ≠ true ∧ s.spn.mode ≠ .dump ∧ s.spn.mode ≠ .parked) ∧
    (let s := { up .service with pwr := { aonUp := true, odFilter := { st := .qualify, level := false } } }
     s.pwr.aonUp = true ∧ (filterOf .pfailOd s).st = .qualify ∧ (filterOf .pfailOd s).level = decide (FilterPin.pfailOd = .storePres)) ∧
    (let s := { up .service with pwr := { aonUp := true, odFilter := { st := .asserted, level := true },
                                          tamperFilter := { st := .stuck, level := true } } }
     s.pwr.aonUp = true ∧ (filterOf .pfailOd s).level = decide (FilterPin.pfailOd ≠ .storePres) ∧ (filterOf .pfailOd s).st = .asserted ∧
       (filterOf .tamper s).st = .stuck ∧ (filterOf .tamper s).level = decide (FilterPin.tamper ≠ .storePres)) ∧
    (let s := { up .service with pwr := { aonUp := true, odFilter := { st := .asserted, level := false } } }
     s.pwr.odFilter.level = false ∧ s.pwr.odFilter.st = .asserted) ∧
    (let s := { up .parked with pwr := { (up .parked).pwr with vaultEmpty := true } }
     s.pwr.corePg = true ∧ s.spn.mode = .parked ∧ s.pwr.vaultEmpty = true) := by decide +kernel

theorem witness_RingFrames :
    (let s : State := { up .service with cwy := { unit := .on, myId := 3, isHead := true, history := [5, 7], ringUp := true, claiming := true } }
     s.cwy.unit = .on ∧ s.cwy.dupId = false ∧ 2 ≠ s.cwy.myId ∧ 2 < s.cwy.myId ∧ s.cwy.myId < 4 ∧ s.cwy.isHead = true ∧
       s.cwy.claiming = true ∧ s.cwy.lowerSeen = false ∧ s.cwy.electing = false ∧ s.cwy.history = 5 :: 7 :: [] ∧ s.cwy.ringUp = true ∧
       1 ≠ serialOf s ∧ (9 : Nat) ≠ 0xFF ∧ 9 ≠ s.cwy.myId) ∧
    (let s : State := { up .service with cwy := { unit := .on, headCapable := true } }
     s.cwy.unit = .on ∧ s.cwy.dupId = false ∧ s.cwy.headCapable = true ∧ s.cwy.isHead = false ∧ s.cwy.ringUp = false) := by decide

theorem witness_ArrayWindow :
    (let s : State := { up .service with cwy := { unit := .on, isHead := true, live := 2, winAsks := [⟨.bar0, 1, 8, 0x304008, 8, 5, false⟩], remoteWrEn := true } }
     s.pwr.corePg = true ∧ 0x304000 % 8 = 0 ∧ s.cwy.isHead = true ∧ s.cwy.unit = .on ∧ s.cwy.dupId = false ∧
       (0x304000 - 0x300000) / 0x4000 ≠ s.cwy.myId ∧ s.cwy.live.testBit ((0x304000 - 0x300000) / 0x4000) = true ∧
       (0x308000 - 0x300000) / 0x4000 ≠ s.cwy.myId ∧ s.cwy.live.testBit ((0x308000 - 0x300000) / 0x4000) = false ∧
       hasWo (0 / 8 * 8) = false ∧ s.cwy.remoteWrEn = true ∧ s.spn.mode ≠ .dump) ∧
    (up .service).cwy.isHead = false ∧ ({ up .service with cwy := { unit := .on, remoteWrEn := false } } : State).cwy.remoteWrEn = false := by decide +kernel

theorem witness_ArrayCommandsAndBridge :
    (let s : State := { up .service with cwy := { unit := .on, isHead := true, live := 3, rollEn := true, eidBase := 8 }, nrg := { quagOk := true } }
     VendorServes .primary runningModes true true s ∧ s.cwy.isHead = true ∧ addressed s 3 ≠ [] ∧ s.cwy.unit = .on ∧ s.cwy.dupId = false ∧
       1 ≠ s.cwy.myId ∧ s.cwy.rollEn = true ∧ s.nrg.quagOk = true ∧ s.spn.mode ≠ .dump ∧ [0, 8].getD 1 0 = s.cwy.eidBase + s.cwy.myId ∧
       [0, 9].getD 1 0 = s.cwy.eidBase + 1 ∧ s.cwy.live.testBit 1 = true ∧ inactiveSlot s = 1) ∧
    (let s := up .service
     VendorServes .primary runningModes true true s ∧ s.cwy.isHead = false ∧ s.nrg.quagOk = false) ∧
    (let a : ArrayCmd := ⟨.primary, 1, [1, 2], [], [], 3⟩
     let s : State := { up .parked with cwy := { unit := .on, array := some a }, hlk := { bg := some ⟨.primary, 0xC00D⟩ } }
     s.cwy.array = some a ∧ a.sub = 1 ∧ s.hlk.bg = some ⟨a.via, 0xC00D⟩ ∧ a.waiting = [1, 2] ∧ s.cwy.dupId = false ∧ s.spn.mode = .parked) ∧
    (let a : ArrayCmd := ⟨.primary, 3, [1], [], [], 3⟩
     let s : State := { up .service with cwy := { array := some a } }
     s.cwy.array = some a ∧ a.sub = 3 ∧ 1 ∈ a.waiting) ∧
    ([1, 2, 3, 4, 5, 6, 7, 8] : List Nat).length = 8 ∧ 8 % 4096 ≠ 0 := by decide

theorem witness_SpdmRequestsAnswered :
    (let s : State := { up .service with sig := { certValid := true } }
     s.pwr.corePg = true ∧ s.sig.recoverySvc = false ∧ s.sig.certValid = true) ∧
    (let s : State := { up .recovery with sig := { recoverySvc := true } }
     s.pwr.corePg = true ∧ s.sig.recoverySvc = true ∧ s.sig.stage = 0) ∧ Transport.vdm ≠ .doe ∧ 16 < 17 ∧ 17 ≠ 0xFF ∧ (1 : Nat) ≠ 0 := by decide

theorem witness_SignetsStagesAndCommit :
    (let s := up .boot
     s.sig.signets.length = 8 ∧ stageWrites s.sig.stage (2 % 8) = true ∧ stageWrites s.sig.stage (7 % 8) = false ∧ s.sig.stage = 0) ∧
    ({ up .boot with sig := { stage := 1 } } : State).sig.stage = 1 ∧ 2 ≤ ({ up .boot with sig := { stage := 2 } } : State).sig.stage ∧
    (let s : State := { up .service with nrg := { quagOk := true } }
     Path.bar0 ≠ .firmware ∧ Path.bar0 ≠ .array ∧ s.spn.mode = .service ∧ s.nrg.quagOk = true) ∧ (up .service).nrg.quagOk = false := by decide

theorem witness_ArrivingEventFirstCase :
    (let r : SedgeRec := (bareRecord ⟨0x0203, 1, []⟩ State.reset)
     let s : State := { up .service with raised := [⟨0x0203, 1, []⟩], evr := { queue := [r] } }
     s.raised = [⟨0x0203, 1, []⟩] ∧ ∃ q ∈ s.evr.queue, q.id = 0x0203 ∧ q.rep < 65535) ∧
    (let s : State := { up .service with raised := [⟨0x0203, 1, []⟩], evr := { folds := [⟨0x0203, 5, 0, none⟩] } }
     (∀ q ∈ s.evr.queue, q.id = 0x0203 → 65535 ≤ q.rep) ∧ s.evr.folds = [⟨0x0203, 5, 0, none⟩]) ∧
    (let s : State := { up .service with raised := [⟨0x0203, 1, []⟩] }
     (∀ q ∈ s.evr.queue, q.id = 0x0203 → 65535 ≤ q.rep) ∧ (∀ f ∈ s.evr.folds, f.id = 0x0203 → 65535 ≤ f.count) ∧ s.evr.queue.length < 32) ∧
    (let r : SedgeRec := (bareRecord ⟨0x0204, 1, []⟩ State.reset)
     let s : State := { up .service with raised := [⟨0x0203, 1, []⟩], evr := { queue := List.replicate 32 r } }
     (∀ q ∈ s.evr.queue, q.id = 0x0203 → 65535 ≤ q.rep) ∧ 32 ≤ s.evr.queue.length) ∧
    (let r : SedgeRec := (bareRecord ⟨0x0204, 1, []⟩ State.reset)
     let s : State := { up .service with evr := { queue := [r] }, nrg := { quagOk := true } }
     s.evr.memOnly = false ∧ s.evr.queue = [r] ∧ s.evr.writing = none ∧ s.nrg.quagOk = true ∧ agentBusy .sedge s = false ∧
       slotErased s s.evr.wslot = true ∧ s.evr.retired.testBit (s.evr.wslot / 16) = false ∧ s.evr.folds.length < 16) := by decide +kernel

theorem witness_FlashWindowWriters :
    Path.bar0 ≠ .firmware ∧ (up .service).pwr.corePg = true ∧ 0x5558 < 0x800000 ∧ 0x5558 % 8 = 0 ∧ (up .service).ifc.bank0.seqStep = 0 ∧
    0x6C % 256 = 0x6C ∧ (bankOf (up .service) (0x400008 / 0x400000)).busy = false := by decide

theorem witness_FlashOperations :
    (let s : State := { up .service with nrg := { quagOk := true } }
     0x500000 % 8 = 0 ∧ 0x500000 < 0x800000 ∧ firmwareBlocked (0x500000 / 0x400000) s = false ∧ (bankOf s (0x500000 / 0x400000)).mode ≠ .row ∧
       programLocked 0x500000 (5 % 2 ^ 64) s = false ∧ s.nrg.quagOk = true ∧ arrayWord 0x500000 s = erasedWord ∧
       eraseLocked (sectorOf 0x500000) s = false ∧ 5 % 4 = 1) ∧ (up .service).nrg.quagOk = false ∧
    (let s : State := { up .service with nrg := { quagOk := true }, ifc := { words := [(655360, 7)] } }
     arrayWord 0x500000 s ≠ erasedWord ∧ programLocked 0x500000 (5 % 2 ^ 64) s = false ∧ firmwareBlocked (0x500000 / 0x400000) s = false) ∧
    (let s : State := { up .service with ifc := { bank0 := { busy := true, seqStep := 2, running := some (.program 8 5), startMode := .boot } } }
     firmwareBlocked 0 s = true ∧ (bankOf s (0 % 2)).seqStep ≠ 0 ∧ (bankOf s (0 % 2)).running = some (.program 8 5) ∧
       s.pwr.downPending = false ∧ s.ifc.waiting = [] ∧ s.ifc.bank1.running = none ∧ s.ifc.bank0.startMode = .boot) ∧
    quagConditions { up .service with nrg := { input := .good } } = true := by decide +kernel

/-- A state with a fold entry and records of SEQ 3 and 5 in memory-only mode. -/
def folded0 : State :=
  let r : SedgeRec := bareRecord ⟨0x0203, 1, []⟩ (up .service)
  { up .service with evr := { (up .service).evr with folds := [⟨0x0203, 2, 7, some r⟩], memOnly := true, memRing := [{ r with seq := 3 }, { r with seq := 5 }] } }

theorem test_w30_folds : ((folded0.evr.folds.find? (fun x => x.id = 0x0203)).isSome = true ∧ ((folded0.evr.folds.find? (fun x => x.id = 0x0203)).bind FoldEntry.first).isSome = true ∧ folded0.evr.queue.length < 32) ∧
    ({ folded0 with evr := { folded0.evr with queue := List.replicate 32 (bareRecord ⟨1, 1, []⟩ folded0) } } : State).evr.queue.length = 32 ∧
    (∀ f ∈ folded0.evr.folds, f.id ≠ 9) ∧ folded0.pwr.poweredDown = false := by decide +kernel
theorem test_w30_cursor : ((∀ r ∈ readable folded0, r.seq < 6) ∧ (∃ r ∈ readable folded0, 4 ≤ r.seq)) ∧
    (∃ t, exec (.cursorLoad .bar0 4) folded0 = .next t ∧ (cursorOf .bar0 t).loading = some 4) ∧ (cursorOf .bar0 folded0).loading = none := by
  refine ⟨?_, ⟨_, rfl, by decide +kernel⟩, by decide +kernel⟩
  simp [readable, folded0]
theorem test_w30_first : ({ folded0 with evr := { folded0.evr with folds := [⟨0x0203, 0, 0, none⟩] } } : State).evr.folds.map FoldEntry.first = [none] ∧
    ({ folded0 with pwr := { folded0.pwr with poweredDown := true } } : State).pwr.poweredDown = true := by decide +kernel

/-- A state in service with the input watch in a state. -/
def watch0 (i : InputState) : State := { serving0 with nrg := { serving0.nrg with input := i } }

theorem test_w31_watch : (watch0 .good).nrg.input = .good ∧ (watch0 .settle).nrg.input = .settle ∧ (watch0 .ride).spn.mode = .service ∧
    (watch0 .committed).nrg.input = .committed ∧ eUsable (watch0 .ride) ≤ eNeed (watch0 .ride) ∧ (watch0 .qualify).nrg.lstate ≠ .running ∧
    (watch0 .qualify).nrg.reason ≠ .calibration ∧ (watch0 .qualify).nrg.input = .qualify := by decide +kernel
theorem test_w31_modes : ({ watch0 .ride with spn := (up .parked).spn } : State).spn.mode = .parked ∧
    ({ watch0 .ride with spn := (up .recovery).spn } : State).spn.mode = .recovery ∧
    ({ watch0 .settle with nrg := { (watch0 .settle).nrg with lstate := .running } } : State).nrg.lstate = .running ∧
    ({ watch0 .settle with nrg := { (watch0 .settle).nrg with reason := .calibration } } : State).nrg.lstate ≠ .running := by decide +kernel
theorem test_w31_preflush : ({ serving0 with dmp := { serving0.dmp with preflush := true } } : State).dmp.preflush = true ∧
    filterHolds serving0.pwr.warnFilter = false ∧ filterHolds serving0.pwr.odFilter = false ∧
    filterHolds { st := .asserted } = true := by decide +kernel

/-- A state with a store of 16 cells, hold-up down. -/
def gauge0 : State := { serving0 with nrg := { serving0.nrg with storePresent := true, cells := 16, anchor := .full, paramIdx := 1 } }

theorem test_w32_gauge : cmbGood gauge0 [] = false ∧ gauge0.nrg.lstate = .idle ∧ gauge0.nrg.anchor ≠ .unanchored ∧ gauge0.nrg.holdupEn = false ∧
    gauge0.nrg.cells ≠ 0 ∧ gauge0.nrg.hibernate = false ∧ gauge0.nrg.input = .good ∧ gauge0.spn.mode ≠ .dump ∧ gauge0.nrg.pctValid = false := by decide +kernel
theorem test_w32_frame : cmbGood gauge0 ((16 :: List.replicate 44 0) ++ [crc8 (16 :: List.replicate 44 0)]) = true := by decide +kernel
theorem test_w32_param : (gauge0.nrg.params.find? (fun p => p.id = gauge0.nrg.paramIdx)).isSome = true ∧ (⟨1, 2500, 2500, 2500⟩ : Param).lo ≤ 2500 ∧
    gauge0.nrg.params.find? (fun p => p.id = 0) = none ∧ ({ gauge0 with nrg := { gauge0.nrg with hibernate := true } } : State).nrg.hibernate = true ∧
    ({ gauge0 with nrg := { gauge0.nrg with holdupEn := true } } : State).nrg.holdupEn = true ∧ State.reset.nrg.storePresent = false := by decide +kernel
theorem test_w32_unanchored : ({ gauge0 with nrg := { gauge0.nrg with anchor := .unanchored } } : State).nrg.anchor = .unanchored ∧
    ({ gauge0 with nrg := { gauge0.nrg with missRun := 2 } } : State).nrg.missRun = 2 ∧ gauge0.nrg.cmbFail = false := by decide +kernel

/-- A state in which a cycle may start, and one with a cycle in a state. -/
def ready0 : State :=
  { serving0 with nrg := { serving0.nrg with storePresent := true, cells := 16, anchor := .full, quagOk := true, relearn := true, tNtc0 := 250, tNtc1 := 250 } }
def cycle0 (l : LState) : State := { ready0 with nrg := { ready0.nrg with lstate := l }, wrp := { ready0.wrp with learning := true } }

theorem test_w33_start : learning ready0 = false ∧ learnConditions ready0 = true ∧ learnDue ready0 = true ∧ retryDue ready0 = true ∧ ready0.spn.mode = .service ∧
    learnConditions serving0 = false ∧ learning serving0 = false := by decide +kernel
theorem test_w33_holdup : (cycle0 .waitBudget).nrg.lstate = .waitBudget ∧ (cycle0 .waitBudget).wrp.learning = true ∧ dCount (cycle0 .waitBudget) ≤ (cycle0 .waitBudget).wrp.b ∧
    (cycle0 .waitBudget).aos.gauge = none ∧ agentBusy .energy (cycle0 .waitBudget) = false ∧ (cycle0 .waitBudget).nrg.holdupEn = false := by decide +kernel
theorem test_w33_end : learning (cycle0 .running) = true ∧ (cycle0 .running).nrg.input = .good ∧ learning (cycle0 .waitFull) = true ∧
    (let s := { cycle0 .waitBudget with gst := { (cycle0 .waitBudget).gst with rsv := [5] } }
     s.wrp.b < dCount s ∧ s.nrg.lstate = .waitBudget) ∧
    ({ cycle0 .running with nrg := { (cycle0 .running).nrg with input := .ride } } : State).nrg.input ≠ .good := by decide +kernel
theorem test_w33_cmd : ({ cycle0 .running with hlk := { (cycle0 .running).hlk with bg := some ⟨.primary, 0xC009⟩ } } : State).hlk.bg = some ⟨.primary, 0xC009⟩ := by
  decide +kernel

/-- A state whose stream runs: quadrant 0, its ring, state words, a vault of one die position. -/
def stream0 (ring : List Nat) (w : List (Nat × GWord)) : State :=
  { serving0 with
    shd := { serving0.shd with ring0 := ring }
    img := { serving0.img with active := { serving0.img.active with vault := some ⟨1, 2, 16384, 0, 64, 64, 0, 0, 60000, []⟩ } }
    gst := { serving0.gst with states := w } }

theorem test_w34_runs : serving (stream0 [] []) = true ∧ serving State.reset = false ∧ streamRuns (stream0 [5] []) = true ∧
    (stream0 [5] []).spn.quadEn.testBit 0 = true ∧ ringOf (stream0 [5] []) 0 = [5] ∧ isDirty (stream0 [5] []) 5 = false ∧
    (stream0 [5] []).spn.quadEn.testBit 1 = false := by decide +kernel
/-- Granule 5 of it ready, with 16 buffers of pool 3 carved. -/
def readyGranule : State :=
  let s := stream0 [5] [(5, ⟨.dirty, false⟩)]
  { s with gst := { s.gst with epoch := 30 }, tsk := { unit := .on, slices := [.on, .off, .off, .off], carvings := [⟨[0, 0, 0, 16], []⟩] } }

theorem test_w34_capture : readyNow readyGranule 5 = true ∧ streamRuns readyGranule = true ∧ serving readyGranule = true ∧
    memReady readyGranule 0 = true ∧ engReady readyGranule 0 = true ∧ canCapture readyGranule 5 = true ∧ regionOf readyGranule 5 = some 0 ∧
    encrypted readyGranule 0 = false ∧ 5 < hdmGranules readyGranule ∧ (qdcOf readyGranule (quadOf readyGranule 5)).planted = [] ∧
    quadOf readyGranule 5 = 0 := by decide +kernel
theorem test_stage_some (s : State) (q : Nat) (h1 : s.tsk.unit ≠ .off) (h2 : shadowHeld s q < 64)
    (h3 : ((sliceOrder s ⟨q, .shadow, 16384⟩ 3).find? (fun k => !(takePtrs s .shadow k 3).isEmpty)).isSome = true) :
    (stageTake q s).1.isSome = true := by
  unfold stageTake
  obtain ⟨k, hk⟩ := Option.isSome_iff_exists.1 h3
  have hp := List.find?_some hk
  have hl : 0 < (takePtrs s .shadow k 3).length := by
    rw [List.length_pos_iff]; intro e; rw [e] at hp; simp at hp
  have hf : ∃ p, findBuffer s ⟨q, .shadow, 16384⟩ 3 = some p := by
    unfold findBuffer; rw [hk]; exact ⟨_, List.getElem?_eq_getElem (Nat.mod_lt _ hl)⟩
  obtain ⟨p, hp⟩ := hf
  simp only [h1, if_false, Nat.not_le.2 h2, hp]; rfl
theorem test_w34_buffer : (stageTake (quadOf readyGranule 5) readyGranule).1.isSome = true :=
  test_stage_some _ _ (by decide +kernel) (by decide +kernel) (by decide +kernel)
theorem test_w34_first : (let s := { stream0 [5] [(5, ⟨.dirty, false⟩)] with gst := { (stream0 [5] [(5, ⟨.dirty, false⟩)]).gst with epoch := 30 } }
    ringFirst s 0 = none) := by
  have h : ∀ s : State, (ringOf s 0).filter (fun g => captureClass s g < 4 && readyNow s g) = [] → ringFirst s 0 = none := by
    intro s h; unfold ringFirst; rw [h]; simp [captureOrder]
  exact h _ (by decide +kernel)
theorem test_w34_unsettled : isDirty (stream0 [5] [(5, ⟨.dirty, false⟩)]) 5 = true ∧ settled (stream0 [5] [(5, ⟨.dirty, false⟩)]) 20000 = false ∧
    (let s := { stream0 [] [] with shd := { (stream0 [] []).shd with regime := .deferrable } }; deferred s = true) := by decide +kernel
theorem test_w34_walk : (let s := { stream0 [] [] with wrp := { serving0.wrp with regions := (List.range 256).map (fun r =>
      if r = 0 then { entry := ⟨0, 16384, true, .loc, .plain, false, 0, 0, 0, 1024, 0⟩, life := .online } else {}) } }
    streamRuns s = true ∧ (region s 0).entry.sequential = true ∧ defined s 0 = true ∧ serves s 0 = true) ∧ (region (stream0 [] []) 0).entry.sequential = false := by decide +kernel
/-- A row with one column of granule 5 running and its parity page passed. -/
def rowed0 : State :=
  let s := stream0 [] [(5, ⟨.inflight, false⟩)]
  { s with shd := { s.shd with rows := [⟨0, vpaSeg 0, vpaRow s 0, 3, [⟨(vchOf s (vpaCh 0)).column, .granule 5 0 0 ⟨0, false, [], [], none⟩, none, none⟩], some true, true⟩] } }

theorem test_w34_program : (rowed0.shd.rows.find? (fun r => r.seg = vpaSeg 0 && r.row = vpaRow rowed0 0)).isSome = true ∧
    (rowed0.shd.rows.map (fun r => (r.cols.find? (fun c => c.col = (vchOf rowed0 (vpaCh 0)).column && c.passed.isNone)).isSome)) = [true] ∧
    gstate rowed0 5 = .inflight ∧ 5 < hdmGranules rowed0 ∧ rowed0.shd.twins.find? (fun t => t.left.contains 0) = none ∧
    rowed0.spn.mode ≠ .dump ∧ rowed0.hlk.writes = [] ∧
    rowed0.shd.rows.find? (fun r => r.seg = vpaSeg 0x10000000 && r.row = vpaRow rowed0 0x10000000) = none := by decide +kernel
/-- The same with a line of granule 5 on its way to DRAM. -/
def rowedLine0 : State :=
  { rowed0 with hlk := { rowed0.hlk with writes := [⟨1, 5 * 256, 0, 1, 0, .loc, .none, false, .none, false, false, false, false, false, false, true⟩] } }
theorem test_w34_line : lineComing rowedLine0 5 = true ∧ gstate rowedLine0 5 = .inflight ∧ rowedLine0.shd = rowed0.shd ∧
    rowedLine0.spn.mode ≠ .dump := by decide +kernel

theorem test_w35_budget : rawBudget false false 100 1000000 25 14000 3200 = 100 ∧ rawBudget false false 2097152 100000 25 14000 3200 = 1249280 ∧
    rawBudget true false 100 1000000 25 14000 3200 = 0 ∧ (0 : Int) < (100000 : Int) * (100 - 25) / 100 - 14000 := by decide +kernel
theorem test_w35_state : serving0.wrp.inbox = none ∧ serving0.spn.mode ≠ .dump ∧ (up .dump).spn.mode = .dump ∧ serving0.vlt.mapValid = false ∧
    ({ serving0 with vlt := { serving0.vlt with mapValid := true } } : State).vlt.mapValid = true ∧ serving0.wrp.valid = false ∧
    serving0.pwr.corePg = true ∧ serving0.spn.mode ≠ .parked := by decide +kernel
theorem test_w35_inbox : (∃ t, exec .recompute serving0 = .next t ∧ t.wrp.inbox.isSome = true) ∧
    ({ serving0 with vlt := { serving0.vlt with pendLog := [⟨1, .boot 0⟩] } } : State).vlt.pendLog ≠ [] := by
  refine ⟨⟨_, rfl, rfl⟩, by decide +kernel⟩

/-- A serving state with a vault of one die position and some segments. -/
def vaulted0 (segs : List (Nat × Seg)) (map : List (Nat × MapEntry)) : State :=
  { serving0 with
    img := { serving0.img with active := { serving0.img.active with vault := some ⟨1, 2, 16384, 0, 64, 64, 0, 0, 60000, []⟩ } }
    vlt := { serving0.vlt with segs := segs, map := map, bootEntry := true, relocate := segs.map Prod.fst, rebuildSegs := segs.map Prod.fst } }

theorem test_w36_awake : vaultAwake (vaulted0 [] []) = true ∧ vaultAwake State.reset = false ∧ serving (vaulted0 [] []) = true ∧ (vaulted0 [] []).shd.gc = .idle ∧
    (let s := { vaulted0 [] [] with pwr := { (vaulted0 [] []).pwr with down := 2 ^ 10 } }; vaultAwake s = false ∧ serving s = true) ∧
    ({ vaulted0 [] [] with shd := { (vaulted0 [] []).shd with gc := .background } } : State).shd.gc ≠ .idle := by decide +kernel
theorem test_w36_live : (let s := vaulted0 [(0, ⟨.peat, 5, 1, 0, 0⟩)] [(5, ⟨1, 0, false, false, false⟩)]
    liveIn s 0 = [5] ∧ movable s 0 = [5] ∧ unmovable 0 [] s = [] ∧ unmovable 0 [5] s = [5] ∧ liveIn s 7 = [] ∧ segBusy s 7 = false ∧ s.spn.mode ≠ .dump ∧
    s.vlt.relocate.find? (fun n => (movable s n).any (fun g => !((unmovable n [] s).contains g))) = some 0 ∧
    s.vlt.relocate.find? (fun n => (movable s n).any (fun g => !((unmovable n [5] s).contains g))) = none ∧ s.vlt.scrubbing = []) := by decide +kernel
theorem test_w36_twin : (let s := vaulted0 [(0, ⟨.twin, 5, 1000000, 0, 0⟩)] []
    twinFull s 0 = true ∧ s.vlt.erasing = [] ∧ segBusy s 0 = false ∧ twinFull s 1 = false) := by decide +kernel
/-- Granule 5 with a page in the vault, and 16 buffers of pool 3 carved. -/
def staged36 : State :=
  let s := vaulted0 [] [(5, ⟨1, 0, false, false, false⟩)]
  { s with vlt := { s.vlt with pages := [(0, ⟨5, 0, 1, 0, false, false, false, false, [], 0, []⟩)] }
           tsk := { unit := .on, slices := [.on, .off, .off, .off], carvings := [⟨[0, 0, 0, 16], []⟩] } }
theorem test_w36_encrypted : hasSpace staged36 = true ∧ (pageAt staged36 (mapOf staged36 5).vpa).isSome = true ∧
    (stageTake (quadOf staged36 5) staged36).1.isSome = true ∧ encrypted (stageTake (quadOf staged36 5) staged36).2 0 = false ∧
    programRuns staged36 5 = false := by
  have h : ∀ (q : Nat) (s : State) (r : Nat), encrypted (stageTake q s).2 r = encrypted s r := by
    intro q s r
    simp only [stageTake]
    rcases findBuffer s ⟨q, .shadow, 16384⟩ 3 with _ | p <;> (repeat' split) <;> rfl
  exact ⟨by decide +kernel, by decide +kernel, test_stage_some _ _ (by decide +kernel) (by decide +kernel) (by decide +kernel),
    by rw [h]; decide +kernel, by decide +kernel⟩
/-- Two segments far apart in erases, neither taking rows. -/
def spread0 : State := { vaulted0 [(0, ⟨.peat, 5, 0x100000, 0, 0⟩), (1, ⟨.free, 4000, 0, 0, 0⟩)] [] with shd := { serving0.shd with gc := .background } }

theorem test_w36_eligible : spread0.vlt.segs.filter (fun e => victimOk spread0 e.1 e.2) = [(0, ⟨.peat, 5, 0x100000, 0, 0⟩)] := by
  have h : peatSeg spread0 (segDie 0) = none := by
    unfold peatSeg
    have : (spread0.vlt.segs.filter (fun e => e.2.kind = .peat && segDie e.1 = segDie 0 && e.2.rows < segRows spread0
      && !(spread0.vlt.relocate.contains e.1) && !(spread0.vlt.erasing.contains e.1))) = [] := by decide +kernel
    rw [this]; simp
  have h0 : victimOk spread0 0 ⟨.peat, 5, 0x100000, 0, 0⟩ = true := by
    unfold victimOk; rw [h]; decide +kernel
  have h1 : victimOk spread0 1 ⟨.free, 4000, 0, 0, 0⟩ = false := by rfl
  show List.filter _ ([(0, ⟨.peat, 5, 0x100000, 0, 0⟩), (1, ⟨.free, 4000, 0, 0, 0⟩)] : List (Nat × Seg)) = _
  simp [h0, h1]
theorem test_w36_victim : victim spread0 = some 0 ∧ vaultAwake spread0 = true ∧ spread0.shd.gc ≠ .idle := by
  refine ⟨?_, by decide +kernel⟩
  unfold victim; rw [test_w36_eligible]; simp
theorem test_w36_spread : ((spread0.vlt.segs.filter (fun e => victimOk spread0 e.1 e.2)).mergeSort (fun a b => a.2.erases ≤ b.2.erases)).head? = some (0, ⟨.peat, 5, 0x100000, 0, 0⟩) ∧
    (vaultRec spread0).endurance < eraseSpread spread0 * 20 ∧ spread0.shd.wlSec = none ∧
    spread0.vlt.segs.length < (vaultRec spread0).diesPerCh * segGroups spread0 := by
  rw [test_w36_eligible]; exact ⟨by simp, by decide +kernel⟩

/-- A serving state with a vault whose channels are all in a state. -/
def vaulted37 (st : Nat) : State :=
  { serving0 with
    img := { serving0.img with active := { serving0.img.active with vault := some ⟨1, 2, 16384, 0, 64, 64, 0, 0, 60000, []⟩ } }
    vch := List.replicate 16 { state := st } }

theorem test_w37_channels : (let s := { vaulted37 2 with spn := { (vaulted37 2).spn with mode := .test } }
    (vchOf s 0).state = 2 ∧ 0 < s.vch.length ∧ (vchOf s 0).trainFails < 2 ∧ s.spn.mode = .test) ∧ (vchOf (vaulted37 0) 0).state ≠ 2 ∧
    dieOk (vaulted37 2) 0 0 = true ∧ populated (vaulted37 2) 0 = true ∧ 0 < (vaultRec (vaulted37 2)).diesPerCh ∧ dieOk (vaulted37 3) 0 0 = false ∧
    (vaulted37 2).vch.length = 16 ∧ (vaulted37 2).spn.mode ≠ .dump ∧ (vchOf (vaulted37 2) 0).missRun.getD 0 0 + 1 = 1 := by decide +kernel
theorem test_w37_misses : (let s := { vaulted37 2 with vch := (vaulted37 2).vch.map (fun v => { v with missRun := [1, 0, 0, 0, 0, 0, 0, 0], trainFails := 2 }) }
    2 ≤ (vchOf s 0).missRun.getD 0 0 + 1 ∧ 2 ≤ (vchOf s 0).trainFails ∧ (vchOf s 0).state = 2) ∧
    ({ vaulted37 2 with spn := { (vaulted37 2).spn with mode := .dump } } : State).spn.mode = .dump := by decide +kernel
theorem test_w37_erase : (let s := { vaulted37 2 with vlt := { (vaulted37 2).vlt with erasing := [0], scrubbing := [0] } }
    0 ∈ s.vlt.erasing ∧ vpaSeg 0 = 0 ∧ blockVpa 0 ∉ s.vlt.worn ∧ vpaSeg 0 ∈ s.vlt.scrubbing ∧ vpaSeg 0 ∉ s.vlt.relocate) ∧
    0 ∉ (vaulted37 2).vlt.erasing := by decide +kernel
theorem test_w37_read : (let s := { vaulted37 2 with vlt := { (vaulted37 2).vlt with pages := [(0, ⟨5, 0, 1, 0, false, false, false, false, [], 0, []⟩)] } }
    pageAt s 0 ≠ none ∧ serving s = true ∧ vpaCh 0 = 0 ∧ readsErased s 0 = false ∧ readsErased s 200000 = true ∧ correctionLoad s [1000] = correctionLoad s [3, 1000] ∧ 6000 ≤ correctionLoad s [1000]) ∧ pageAt (vaulted37 2) 0 = none := by decide +kernel

/-- A serving state whose granule 5 has a state and a page, its fetch wanted. -/
def fetched0 (st : GState) : State :=
  { serving0 with
    gst := { serving0.gst with states := [(5, ⟨st, false⟩)] }
    vlt := { serving0.vlt with map := [(5, ⟨1, 7, false, false, false⟩)], pages := [(7, ⟨5, 0, 1, 0, true, false, false, false, [], 0, []⟩)] }
    dmp := { serving0.dmp with fetching := [5], rphase := 3 } }

theorem test_w38_fetch : (pageAt (fetched0 .pending) (mapOf (fetched0 .pending) 5).vpa).isSome = true ∧ fetchWanted (fetched0 .pending) 5 = true ∧
    (fetched0 .pending).spn.mode ≠ .dump ∧ encrypted (fetched0 .pending) 0 = false ∧ (pageAt (fetched0 .pending) (mapOf (fetched0 .pending) 5).vpa).any (fun p => !p.enc && rebuildPasses (fetched0 .pending) 7 p) = true ∧ gstate (fetched0 .pending) 5 = .pending ∧
    5 < hdmGranules (fetched0 .pending) ∧ fetchWanted (fetched0 .pending) 6 = false ∧ pageAt (fetched0 .pending) 9 = none := by decide +kernel
theorem test_w38_bulk : serving (fetched0 .pending) = true ∧ 3 ≤ (fetched0 .pending).dmp.rphase ∧ bulkNext State.reset 0 = none := by
  refine ⟨by decide +kernel, by decide +kernel, ?_⟩
  unfold bulkNext
  have : (List.range 256).filter (fun r => (region State.reset r).life = .online) = [] := by decide +kernel
  rw [this]; simp
theorem test_w38_bulk_next : bulkNext { fetched0 .pending with dmp := { (fetched0 .pending).dmp with fetching := [] } } 0 = some 5 ∧
    dieWanted { fetched0 .pending with dmp := { (fetched0 .pending).dmp with fetching := [] } } 5 = false := by
  refine ⟨?_, by decide +kernel⟩
  unfold bulkNext
  have : (List.range 256).filter (fun r => (region { fetched0 .pending with dmp := { (fetched0 .pending).dmp with fetching := [] } } r).life = .online) = [0] := by decide +kernel
  rw [this]
  simp only [List.mergeSort_singleton]
  decide +kernel
theorem test_w38_retry : VendorServes .primary [.restore, .service, .test] false true (fetched0 .poison) ∧ rangeRegion (fetched0 .poison) (5 * 16384) 16384 = .inl 0 ∧
    rangeRegion (fetched0 .poison) 1 16384 = .inr 2 ∧ gstate (fetched0 .poison) 5 = .poison ∧ gstate (fetched0 .pending) 5 ≠ .poison ∧
    partnerRepairOk (fetched0 .poison) 5 = false := by decide +kernel

/-- A serving state whose pair is in a state, with a member on a ring that another member heads. -/
def paired39 (p : PairState) : State :=
  { serving0 with
    kor := { state := p, unitOn := true, trained := true }
    cwy := { unit := .on, ringUp := true, myId := 2, headId := 5 } }

theorem test_w39_commands : VendorServes .primary [.restore, .service] true true (paired39 .solo) ∧ VendorServes .primary [.restore, .service] false true (paired39 .solo) ∧
    (paired39 .unpaired).kor.state = .unpaired ∧ (paired39 .mirrored).kor.state = .mirrored ∧ ((paired39 .training).kor.state = .training ∧ (paired39 .training).kor.up = false) ∧
    (paired39 .deciding).kor.state = .deciding ∧ ((paired39 .solo).kor.state = .solo ∧ (paired39 .solo).kor.soloCause ≠ 6 ∧ forceOk (paired39 .solo) = false) ∧
    forceOk { paired39 .solo with evr := { (paired39 .solo).evr with opSec := 10 } } = true ∧
    (let s := { paired39 .solo with hlk := { (paired39 .solo).hlk with bg := some ⟨.primary, 0xC007⟩ } }; s.hlk.bg = some ⟨.primary, if true then 0xC007 else 0xC006⟩) := by decide +kernel
theorem test_w39_records : (paired39 .solo).nrg.quagOk = false ∧
    (let s := { paired39 .solo with kor := { (paired39 .solo).kor with takeover := some ⟨.primary, false, 2, 1⟩ }, aos := { (paired39 .solo).aos with pair := some ⟨1, [], 0⟩ } }
     s.kor.takeover = some ⟨.primary, false, 2, 1⟩ ∧ s.nrg.quagOk = false ∧ s.aos.pair ≠ none) ∧ (paired39 .solo).kor.takeover = none := by decide +kernel
theorem test_w39_queries : (paired39 .solo).kor.wrongId = false ∧ (paired39 .solo).cwy.unit = .on ∧ (paired39 .solo).cwy.ringUp = true ∧ (paired39 .solo).cwy.electing = false ∧
    (paired39 .solo).cwy.dupId = false ∧ (paired39 .solo).cwy.isHead = false ∧ serving0.cwy.unit ≠ .on ∧
    ({ paired39 .solo with kor := { (paired39 .solo).kor with wrongId := true } } : State).kor.wrongId = true ∧
    (let s := { paired39 .deciding with kor := { (paired39 .deciding).kor with asking := true }, cwy := { (paired39 .deciding).cwy with asking := some (.decision, 7) } }
     s.cwy.asking = some (.decision, 7) ∧ s.kor.state = .deciding ∧ s.kor.asking = true ∧ 3 = s.cwy.myId ^^^ 1) ∧
    (let s := { paired39 .solo with kor := { (paired39 .solo).kor with takeover := some ⟨.primary, false, 1, 0⟩ } }; s.kor.takeover = some ⟨.primary, false, 1, 0⟩) ∧
    ((paired39 .training).kor.unitOn = true ∧ (paired39 .training).cwy.asking = none ∧ (paired39 .training).spn.mode ≠ .dump) ∧ (paired39 .solo).kor.state ≠ .training ∧
    (paired39 .mirrored).kor.state ≠ .solo := by decide +kernel

/-- A state whose Korric unit is powered with trained lanes, the pair in a state. -/
def linked40 (p : PairState) : State :=
  { serving0 with kor := { state := p, unitOn := true, trained := true, up := true } }

theorem test_w40_link : (linked40 .mirrored).kor.unitOn = true ∧ (linked40 .mirrored).kor.trained = true ∧ korHears (linked40 .mirrored) = true ∧
    korHears serving0 = false ∧ serving0.kor.unitOn = false ∧ serving0.kor.trained = false ∧ FlitBody.control [] ≠ .heartbeat ∧
    (let s := { linked40 .training with kor := { (linked40 .training).kor with trainingOn := true, fromSolo := true } }
     s.kor.unitOn = true ∧ s.kor.trainingOn = true ∧ s.kor.state = .training ∧ s.kor.fromSolo = true ∧ s.kor.up = true) ∧
    (linked40 .solo).kor.state = .solo ∧ (linked40 .training).kor.fromSolo = false ∧ (linked40 .deciding).kor.state = .deciding ∧
    (linked40 .deciding).kor.asking = false ∧ (linked40 .mirrored).kor.state = .mirrored ∧ (linked40 .unpaired).kor.state = .unpaired ∧
    (let s := { linked40 .mirrored with kor := { (linked40 .mirrored).kor with replay := [(1, .heartbeat)], mack := 3 } }
     korHears s = true ∧ s.kor.replay ≠ [] ∧ 4 ≠ s.kor.mack) ∧ (linked40 .solo).kor.pressureIn ≠ true ∧ (linked40 .mirrored).kor.txQueue = [] ∧ (linked40 .mirrored).kor.replay.length < replaySlots ∧
    (linked40 .mirrored).kor.swapThresh < 300 := by decide +kernel
theorem test_w40_lanes : (linked40 .mirrored).kor.rxFailed.testBit 3 = false ∧ (linked40 .mirrored).kor.spareRx = false ∧ (linked40 .mirrored).kor.rxSwap = none ∧
    (let s := { linked40 .mirrored with kor := { (linked40 .mirrored).kor with txSwap := some (3, 0, 128), rxSwap := some (4, 1, 256), rxFailed := 8 } }
     s.kor.txSwap = some (3, 0, 128) ∧ s.kor.rxSwap = some (4, 1, 256) ∧ s.kor.spareRx = false ∧ s.kor.rxFailed.testBit 3 = true ∧ s.kor.rxSwap ≠ none) := by decide +kernel

/-- The header of the next flit of `linked40`. -/
def nextHdr : FlitHdr := ⟨1, 0, 0, false, false, false, false⟩

theorem test_w41_taken : korHears (linked40 .mirrored) = true ∧ inOrder (linked40 .mirrored) nextHdr 0 = true ∧ nextHdr.fseq = wrapAdd 16 (linked40 .mirrored).kor.rxSeq 1 ∧
    nextHdr.fseq ≠ (linked40 .mirrored).kor.rxSeq ∧ korHears serving0 = false ∧ inOrder (linked40 .mirrored) { nextHdr with fseq := 9 } 0 = false ∧
    (let s := { linked40 .mirrored with kor := { (linked40 .mirrored).kor with rxSeq := 1, rxIdx := 0 } }; nextHdr.fseq = s.kor.rxSeq ∧ s.kor.rxIdx < 1 ∧ inOrder s nextHdr 1 = true) := by decide +kernel
/-- The same with its first message taken, so that a second one leaves the header alone. -/
def second41 (p : PairState) (up : Bool) : State := { linked40 p with kor := { (linked40 p).kor with rxSeq := 1, rxIdx := 0, up := up } }

theorem test_w41_states : (let u := takeMsg nextHdr 1 (fun t => t) (second41 .mirrored true)
     u.kor.up = true ∧ u.spn.mode ≠ .dump ∧ (region u 0).adopted = false ∧ inConflict u 0 = false ∧ u.kor.state = .mirrored ∧ 0 ∉ u.kor.opening ∧ u.kor.spareTx = false ∧ u.kor.rxSwap = none) ∧
    (let u := takeMsg nextHdr 1 (fun t => t) (second41 .training false)
     u.kor.up = false ∧ u.kor.stateSeen = false ∧ u.kor.digestSeen.length < 4 ∧ u.kor.state ≠ .mirrored) ∧
    (let s := { second41 .training false with kor := { (second41 .training false).kor with stateSeen := true, digestSeen := [(0, 0), (1, 0), (2, 0), (3, 0)], rxSwap := some (2, 0, 128), opening := [0] } }
     let u := takeMsg nextHdr 1 (fun t => t) s
     u.kor.stateSeen = true ∧ 4 ≤ u.kor.digestSeen.length ∧ u.kor.rxSwap = some (2, 0, 128) ∧ 0 ∈ u.kor.opening) ∧
    serving (linked40 .training) = true ∧ mayRejoin (linked40 .training) = true ∧ mayRejoin serving0 = false ∧ seqLe 128 300 = true ∧ seqLe 300 128 = false := by decide +kernel

/-- A serving state whose region 0 is the partner's, a granule's copy in a state, the next message not the first of its flit. -/
def mirror42 (st : GState) : State :=
  { second41 .mirrored true with
    kor := { (second41 .mirrored true).kor with side := true, repairs := [⟨7, 3, none, [], [], []⟩], relWait := [⟨0, 16, 4, 4, .primary, true⟩] }
    gst := { states := [(5, ⟨st, false⟩)] } }

theorem test_w42_copies : (let u := takeMsg nextHdr 1 (fun t => t) (mirror42 .dirty)
     u.kor.up = true ∧ u.spn.mode ≠ .dump ∧ mirrorCopy u 5 = true ∧ gstate u 5 = .dirty ∧ 5 < hdmGranules u ∧ mirrorCopy u 999999999 = false ∧
     (∀ e ∈ u.kor.lastMseq, e.1 = 5 → seqLe e.2 0 = true) ∧ (∀ y ∈ u.kor.held, y.line / 256 ≠ 5) ∧ u.kor.relWait = [⟨0, 16, 4, 4, .primary, true⟩] ∧
     (∃ a ∈ u.kor.repairs, a.granule = 3 ∧ a.tag = 7)) ∧
    (let s := { mirror42 .dirty with kor := { (mirror42 .dirty).kor with rxIdx := 0 } }; inOrder s nextHdr 15 = true ∧ korHears s = true) ∧
    (let s := mirror42 .shadowed; mirrorCopy s 5 = true ∧ gstate s 5 = .shadowed ∧ s.wrp.b = 0 ∧ mirrorCopy serving0 5 = false) ∧
    (let s := { mirror42 .free with kor := { (mirror42 .free).kor with held := [⟨1, 1280, 1, 0⟩] } }; ∃ y ∈ s.kor.held, y.line = 1280) := by decide +kernel

theorem test_w43_rejoin : (linked40 .training).kor.state = .training ∧
    (let s := { linked40 .resync with kor := { (linked40 .resync).kor with endSent := true, endSeen := true } }
     s.kor.state = .resync ∧ s.spn.mode ≠ .dump ∧ s.kor.resend = [] ∧ s.kor.resendAt = none ∧ s.kor.endSent = true ∧ s.kor.resyncOut = [] ∧
     s.kor.endSeen = true ∧ s.kor.marks = []) ∧ (linked40 .resync).kor.endSeen = false := by decide +kernel
theorem test_w43_messages : (let u := takeMsg nextHdr 1 (fun t => t) (second41 .mirrored true)
     defined u 0 = true ∧ serves u 0 = true ∧ (region u 0).life = .online ∧ inConflict u 0 = false ∧ (region u 0).adopted = false ∧
     (region u 0).entry.sideB = u.kor.side ∧ (∀ g ∈ (takeOwnership [0] u).kor.ownCopies, inRegion (takeOwnership [0] u) 0 g = false) ∧ 0 ∉ u.kor.gaveBack) ∧
    (let u := takeMsg nextHdr 1 (fun t => t) (mirror42 .dirty); serves u 0 = false ∧ (region u 0).entry.sideB ≠ u.kor.side) ∧
    (let s := { mirror42 .dirty with
       wrp := { (mirror42 .dirty).wrp with regions := (mirror42 .dirty).wrp.regions.map (fun x => { x with adopted := true }) }
       kor := { (mirror42 .dirty).kor with gaveBack := [0], conflicts := [0], takeover := some ⟨.primary, false, 2, 1⟩ } }
     let u := takeMsg nextHdr 1 (fun t => t) s
     (region u 0).adopted = true ∧ inConflict u 0 = true ∧ 0 ∈ u.kor.gaveBack ∧ u.kor.takeover = some ⟨.primary, false, 2, 1⟩ ∧ 0 < u.wrp.regions.length) := by decide +kernel

/-- `serving0` with region 0 in a lifecycle state. -/
def life44 (l : Lifecycle) : State := { serving0 with wrp := { serving0.wrp with regions := serving0.wrp.regions.modify 0 (fun x => { x with life := l }) } }

theorem test_w44_lives : (region (life44 .starting) 0).life = .starting ∧ 0 < (life44 .starting).wrp.regions.length ∧ serving (life44 .starting) = true ∧
    startCode (life44 .starting) 0 = none ∧ serves (life44 .starting) 0 = true ∧ keyThere (life44 .starting) 0 = true ∧ partnerAbsent (life44 .starting) 0 = false ∧
    0 ∉ (life44 .starting).kor.opening ∧ encrypted (life44 .starting) 0 = false ∧
    ((region (life44 .offline) 0).life = .offline ∧ defined (life44 .offline) 0 = true) ∧ ((region (life44 .offline) 1).life = .offline ∧ defined (life44 .offline) 1 = false) ∧
    ((region (life44 .stopping) 0).life = .stopping ∧ regionDrained (life44 .stopping) 0 = true ∧ (region (life44 .stopping) 0).reArm = false ∧ (region (life44 .stopping) 0).liveStop = false) ∧
    (region (life44 .online) 0).life = .online ∧ (life44 .online).img.liveState ≠ 2 ∧ (up .dump).spn.mode = .dump ∧ (serving (up .parked) = false ∧ (up .parked).spn.mode ≠ .dump) ∧
    needsPartner (life44 .starting) 0 = false := by decide +kernel
theorem test_w44_pairs : (let s := { life44 .starting with kor := { (life44 .starting).kor with side := true } }; serves s 0 = false) ∧
    (let s := { life44 .starting with kor := { (life44 .starting).kor with opening := [0] } }; 0 ∈ s.kor.opening ∧ serving s = true) ∧
    (let s := { life44 .stopping with wrp := { (life44 .stopping).wrp with regions := (life44 .stopping).wrp.regions.modify 0 (fun x => { x with reArm := true, entry := { x.entry with ack := .mirrored, key := .native } }) }, kor := { (life44 .stopping).kor with state := .mirrored, conflicts := [0] } }
     (region s 0).reArm = true ∧ inConflict s 0 = true ∧ keyThere s 0 = false ∧ serves s 0 = true ∧ s.kor.state = .mirrored ∧ encrypted s 0 = true) ∧
    (let s := { life44 .offline with wrp := { (life44 .offline).wrp with regions := (life44 .offline).wrp.regions.modify 0 (fun x => { x with entry := { x.entry with ack := .mirrored } }) }, kor := { (life44 .offline).kor with state := .mirrored } }
     needsPartner (setLife 0 .starting s) 0 = true) := by decide +kernel

theorem test_w45_requests : (up .service).pwr.corePg = true ∧ (up .service).spn.mode = .service ∧ (up .service).img.liveState = 0 ∧
    (up .parked).spn.mode = .parked ∧ ({ up .service with img := { (up .service).img with liveState := 2 } } : State).img.liveState = 2 := by decide

/-- An image that differs from the empty active one in region 1 alone. -/
def image46 : ActiveImage := { version := 2, regions := (List.range 256).map (fun r => if r = 1 then ⟨16384, 64, false, .loc, .plain, false, 0, 0, 0, 1024, 0⟩ else noEntry) }

/-- A device that is applying it, about to take up region 1, or region 0 in an entry's place. -/
def live46 (r cls : Nat) : State :=
  { serving0 with img := { serving0.img with liveState := 2, liveImage := some image46, liveLeft := [r], liveClass := cls } }

theorem test_w46_steps : (live46 1 0).img.liveState = 2 ∧ 1 < (live46 1 0).wrp.regions.length ∧ 2 ≤ changeClass (region (live46 0 0) 0).entry (newEntry image46 0) ∧
    (region (live46 0 0) 0).life = .online ∧ (region (live46 0 3) 0).entry ≠ newEntry image46 0 ∧ (live46 0 3).img.liveClass ≠ 0 ∧
    (let s := { live46 0 3 with wrp := (life44 .offline).wrp, gst := { states := [(5, ⟨.dirty, false⟩)] } }
     (region s 0).life = .offline ∧ spansFree s image46 0 = false ∧ defined s 0 = true) ∧
    changeClass ⟨0, 1, false, .loc, .plain, false, 0, 0, 0, 1024, 0⟩ ⟨0, 1, false, .loc, .plain, false, 0, 0, 7, 1024, 0⟩ = 1 ∧
    changeClass ⟨0, 1, false, .loc, .plain, false, 0, 0, 0, 1024, 0⟩ ⟨0, 1, false, .vaulted, .plain, false, 0, 0, 7, 1024, 0⟩ = 2 := by decide +kernel
theorem test_w46_checks : ({ up .service with img := { (up .service).img with liveState := 1, liveOp := 1 } } : State).img.liveState = 1 ∧ (up .service).img.liveState ≠ 1 ∧
    (let s := { live46 1 0 with img := { (live46 1 0).img with liveLeft := [], livePools := true } }; s.img.liveLeft = [] ∧ s.img.livePools = true ∧ s.tsk.unit ≠ .on) := by decide +kernel
/-- A device whose first slice stops for a carving. -/
def carved46 (c : Carving) : State := { serving0 with tsk := { serving0.tsk with next := some c, slices := [.stopping, .on, .on, .on] } }

theorem test_w46_slices : (carved46 {}).tsk.next = some {} ∧ (carved46 {}).tsk.slices.getD 0 .off = .stopping ∧
    (∀ e ∈ (carved46 {}).tsk.descs, e.1 / 0x400000 = 0 → e.2.dstate ≠ 1) ∧ 0 < (carved46 {}).tsk.slices.length ∧
    serving0.tsk.next = none := by decide +kernel

/-- A dump that runs, its quadrant 0 in a phase. -/
def dumping47 (ph : Nat) : State :=
  { serving0 with
    spn := { serving0.spn with mode := .dump }
    dmp := { serving0.dmp with phase := ph, q0 := { phase := ph } } }

theorem test_w47_phases : (dumping47 1).spn.mode = .dump ∧ (dumping47 1).dmp.phase = 1 ∧ (dumping47 2).dmp.phase ≠ 1 ∧ quadList (dumping47 2) = [0] ∧
    (dumpQuad (dumping47 2) 0).phase = 2 ∧ (dumpQuad (dumping47 2) 0).queue = [] ∧ (dumpQuad (dumping47 2) 0).running = [] ∧ (dumpQuad (dumping47 2) 0).placed = [] ∧
    (dumpQuad (dumping47 2) 0).channelLost = false ∧ (dumping47 1).dmp.inputGood = false ∧ 0 ∉ (dumping47 1).dmp.lostDies ∧ (dumping47 1).ifc.waiting = [] ∧
    (dumping47 1).dmp.floored = false ∧ (dumping47 1).dmp.tailStop = false ∧ (up .test).spn.mode = .test ∧ dumpUnmet (up .test) ≠ 0 ∧ (up .service).spn.mode ≠ .test := by decide +kernel
theorem test_w47_commit : (let s := { up .test with nrg := { (up .test).nrg with input := .good, storePresent := true }, wrp := { (up .test).wrp with b := 5 } }
    s.spn.mode = .test ∧ dumpUnmet s = 0) := by decide +kernel
theorem test_w47_programs : (let s := { dumping47 3 with dmp := { (dumping47 3).dmp with parity := [(9, [])], q0 := { phase := 3, running := [(.data 5, 7)], channelLost := true } } }
    (quadList s).find? (fun x => (dumpQuad s x).running.any (fun e => e.2 = 7)) = some 0 ∧ (∃ e ∈ s.dmp.parity, e.1 = 9) ∧
    (∀ q ∈ quadList s, ∀ e ∈ (dumpQuad s q).running, e.2 ≠ 9) ∧ (dumpQuad s 0).channelLost = true) := by decide +kernel

/-- A device whose firmware holds the Clasp, slot 1 selected for a NATIVE region with its key staged. -/
def keyed48 : State :=
  { up .service with
    wrp := { (up .service).wrp with regions := (up .service).wrp.regions.modify 1 (fun x => { x with entry := ⟨0, 64, false, .loc, .native, false, 0, 0, 0, 1024, 0⟩ }) }
    cip := { owner := 1, slotSel := 1, staging := (List.range 12).map (fun k => (k, k)) } }

theorem test_w48_load : ([(1, !holdsClasp keyed48 .firmware), (10, decide (keyed48.spn.mode = .dump)), (8, keyed48.cip.alarmLatch),
    (4, !defined keyed48 1 || decide ((region keyed48 1).entry.key ≠ .native)), (7, decide ((slotOf keyed48 1).st = .on)),
    (2, (List.range 12).any (fun k => !(keyed48.cip.staging.any (fun e => e.1 = k)))),
    (3, decide ((List.range 4).map (tget 0 keyed48.cip.staging ·) = (List.range 4).map (fun k => tget 0 keyed48.cip.staging (k + 4))))] : List (Nat × Bool)).find? (fun x => x.2) = none ∧
    keyed48.cip.slotSel = 1 ∧ (∀ e ∈ keyed48.cip.staging, e.2 < 0x10000000000000000) ∧ 1 < keyed48.cip.slots.length := by decide +kernel
theorem test_load_accepted : (match exec (.load .firmware) keyed48 with | .next t => ((slotOf t 1).st, t.cip.staging, t.raised) | _ => (.off, [], [])) =
    (.starting, [], [⟨0x0B01, 0x07, [(2, 1), (1, 0), (1, 1)]⟩]) := by decide +kernel
theorem test_load_refused : (match exec (.load .bar0) keyed48 with | .next t => t.raised | _ => []) =
    [⟨0x0B03, 0x07, [(1, 1)]⟩, ⟨0x0B02, 0x07, [(2, 1), (1, 1)]⟩] := by decide +kernel

theorem test_w49_unload : (let s := { keyed48 with cip := { keyed48.cip with slots := keyed48.cip.slots.map (fun k => { k with st := .on, key := [1] }) } }
    (holdsClasp s .firmware = true ∧ s.spn.mode ≠ .dump ∧ defined s 1 = true ∧ (region s 1).life = .offline ∧ (slotOf s 1).st = .on ∧ slotBusy s 1 = false ∧
     (slotOf s 1).reArm = false ∧ 257 < s.cip.slots.length)) ∧ (slotOf { keyed48 with cip := { keyed48.cip with slots := [{}, { st := .starting }] } } 1).st = .starting ∧
    (let s := { keyed48 with cip := { keyed48.cip with queue := [⟨.encrypt, .service, 1, 0, 0⟩] } }; slotBusy s 1 = true) ∧
    (let s := { keyed48 with wrp := { keyed48.wrp with regions := keyed48.wrp.regions.map (fun x => { x with life := .online }) } }; (region s 1).life ≠ .offline ∧ defined s 1 = true) := by decide +kernel

theorem test_w50_clasp : keyed48.spn.mode ≠ .dump ∧ keyed48.cip.owner ≠ 0 ∧ keyed48.cip.owner = ownerId .firmware ∧ (up .service).cip.owner = 0 ∧ ownerId .bar0 ≠ 0 ∧
    ownerId .array = 0 ∧ holdsClasp keyed48 .firmware = true ∧ holdsClasp keyed48 .bar0 = false ∧ commonRefusal keyed48 .firmware 1 true = none ∧
    (up .dump).spn.mode = .dump ∧ (slotOf keyed48 1).st = .off ∧ 1 < keyed48.cip.slots.length := by decide +kernel
theorem test_w50_accept : loadRefusal keyed48 1 = none ∧ (let s := { keyed48 with wrp := { keyed48.wrp with regions := keyed48.wrp.regions.modify 1 (fun x => { x with entry := { x.entry with key := .derived } }) }, cip := { keyed48.cip with slots := keyed48.cip.slots.modify 256 (fun k => { k with st := .on }) } }; deriveRefusal s 1 0 = none ∧ commonRefusal s .firmware 1 true = none) := by decide +kernel
theorem test_w50_cores : (let s := { keyed48 with cip := { keyed48.cip with cores := [some ⟨.rekey, .service, 1, 0, 0⟩, some ⟨.decrypt, .save, 0, 0, 5⟩, some ⟨.encrypt, .service, 0, 0, 6⟩, none, none, none, none, none], slots := keyed48.cip.slots.modify 1 (fun k => { k with st := .starting, stage := some (.native []) }) } }
    coreOf s (fun o => o.kind = .rekey && o.slot = 1) = some 0 ∧ (slotOf (cipFinish 0 s) 1).st = .starting ∧ (slotOf (cipFinish 0 s) 1).binding = none ∧
    (slotOf (cipFinish 0 s) 1).stage ≠ none ∧ s.cip.coresOk.testBit 2 = true ∧ s.cip.cores.getD 4 none = none ∧ coreFor s 0 = some 3) ∧
    coreFor { keyed48 with cip := { keyed48.cip with coresOk := 0 } } 0 = none := by decide +kernel
theorem test_w50_rest : (keyed48.cip.slotSel < 256 ∧ keyed48.cip.exhausted = false ∧ unusedRsv (slotOf keyed48 1) < 2 ^ 23 ∧ keyed48.nrg.quagOk = false ∧ keyed48.cip.compactBusy = false ∧
    keyed48.pwr.corePg = true ∧ alarmEnabled keyed48 3 = true) ∧ (up .parked).spn.mode ≠ .dump ∧ serving (up .parked) = false ∧ (∀ o ∈ (up .parked).cip.cores, o = none) ∧
    (let s := { up .parked with cip := { (up .parked).cip with alarmLatch := true } }; s.cip.alarmLatch = true ∧ s.cip.alarmNow.testBit 2 = false ∧ s.cip.alarmSrc.testBit 4 = false) := by decide +kernel

/-- An allocator that is ON, each slice carved with one buffer of each pool. -/
def carved51 : State :=
  { serving0 with tsk := { serving0.tsk with unit := .on, slices := [.on, .on, .on, .on], carvings := List.replicate 4 ⟨[1, 1, 1, 1], [true, true, true, false]⟩ } }

theorem test_w51_alloc : carved51.tsk.unit ≠ .off ∧ serving0.tsk.unit = .off ∧ mayRequest ⟨11, .firmware, 100⟩ = true ∧ mayRequest ⟨15, .firmware, 100⟩ = false ∧
    poolFor 100 = 0 ∧ ptrPool carved51 (16384 + 4096 + 1024) = some 0 ∧ ptrPool carved51 5 = none ∧ 4 ≤ 11 ∧
    (let s := { carved51 with tsk := { carved51.tsk with saveRsv := 1 } }; findBuffer s ⟨0, .shadow, 16384⟩ 3 = none ∧ (carvingOf s 0).spill.getD 3 false = false) := by decide +kernel
theorem test_w51_held : (let s := { carved51 with tsk := { carved51.tsk with descs := [(0, ⟨1, 1, 5, 2048⟩), (16384, ⟨1, 2, 5, 2048⟩)] } }
    ptrPool s 0 ≠ none ∧ (descOf s 0).refcnt = popCount 16 (descOf s 0).holders ∧ (descOf s 0).dstate ≠ 2 ∧ (descOf s 0).refcnt ≠ 0 ∧
    (descOf s 0).holders.testBit 11 = true ∧ (descOf s 0).holders.testBit 3 = false ∧ ptrPool s 16384 = some 2 ∧ (descOf s 16384).refcnt ≠ popCount 16 (descOf s 16384).holders) := by decide +kernel
theorem test_poolFor_bounds : poolFor 256 = 0 ∧ poolFor 257 = 1 ∧ poolFor 4096 = 2 ∧ poolFor 4097 = 3 := by decide

theorem test_w52_scrub : (up .service).pwr.corePg = true ∧ State.reset.pwr.corePg = false ∧ 0 < serving0.qdc.length ∧
    ptrPool carved51 0 = some 3 ∧ (descOf carved51 0).dstate ≠ 2 ∧ serving0.spn.mode ≠ .dump ∧ serving0.spn.quadEn.testBit 0 = true ∧
    granuleAt serving0 0 15 < hdmGranules serving0 := by decide +kernel
theorem test_w52_patrol : (let s := { serving0 with qdc := serving0.qdc.map (fun d => { d with state := 2 }), pwr := { serving0.pwr with pstate := 0 } }
    (qdcOf s 0).state = 2 ∧ granuleAt s 0 0 < hdmGranules s ∧ (qdcOf s 0).patrolLine + 1 < chLines s ∧ (readLine s 0 []).fixed = [] ∧ (readLine s 0 []).poisoned = false) ∧
    patrolRuns (up .parked) 0 = false := by decide +kernel
theorem test_w52_units : (roleOf serving0 (quadUnit 0 2)).state ≠ .failed ∧
    (let s := { up .test with spn := { (up .test).spn with quadEn := 1 } }
     s.spn.mode = .test ∧ s.pwr.corePg = true ∧ (qdcOf s 0).setChip ≤ 9 ∧ (∀ e ∈ (qdcOf s 0).marks, e.1 ≠ (qdcOf s 0).setSlot) ∧ 0 < s.qdc.length ∧
     s.spn.quadEn.testBit 0 = true ∧ (qdcOf s 0).target = 0) ∧
    (let s := { up .test with spn := { (up .test).spn with quadEn := 1 }, qdc := (up .test).qdc.map (fun d => { d with target := 6 }) }; (qdcOf s 0).target = 6) := by decide +kernel

theorem witness_CompleteBootLinkAndMemory_0 : (let s : State := up .boot; (s.pwr.corePg = true) ∧ ((s.pwr.strapped = false))) ∧
    (let s : State := { up .boot with sig := { (up .boot).sig with stage := 1 } }; (s.spn.mode = .boot) ∧ ((s.pwr.corePg = true) ∧
    ((s.img.bootStep = 0) ∧ ((s.sig.stage = 1) ∧ ((openStarts s = [] ∨ s.nrg.quagOk = true)))))) ∧
    (let s : State := { up .boot with img := { (up .boot).img with bootStep := 5 } }; let okMask : Nat := 15; (s.spn.mode = .boot) ∧
    ((s.img.bootStep = 5))) := by decide +kernel
theorem witness_CompleteBootLinkAndMemory_1 : (let s : State := { up .boot with img := { (up .boot).img with bootStep := 6 } };
    (s.spn.mode = .boot) ∧ ((s.img.bootStep = 6))) ∧
    (let s : State := { up .boot with img := { (up .boot).img with bootStep := 15 }, vlt := vaultWithData }; let ck : Bool := true;
    (s.spn.mode = .boot) ∧ ((s.img.bootStep = 15) ∧ ((vaultLive s = true) ∧ (((readopt (dumpRegsLoad s)).vlt.ckpt.isSome = true) ∧
    ((ck = true)))))) ∧ (let s : State := up .service; let m : XMsg := ⟨1, 2, 2, 1, 0, 0, 5, false, true⟩; let bad : Nat := 0;
    (s.pwr.corePg = true) ∧ ((m.target < 48) ∧ ((m.source < 48) ∧ ((roleMatches s m = true) ∧ ((bad = 0)))))) := by decide +kernel
theorem witness_CompleteBootLinkAndMemory_2 : (let s : State := { up .service with spn := { (up .service).spn with bounces := [((1, 5), 2)] } };
    let m : XMsg := ⟨1, 2, 2, 1, 0, 0, 5, false, true⟩; (bounceCount s m = 1 ∨ bounceCount s m = 2)) ∧ (let s : State := up .test;
    (s.pwr.corePg = true) ∧ ((s.spn.mode = .test) ∧ ((s.spn.roleIdx ≤ 0x2F)))) ∧ (let s : State := serving0; let addr : Nat := 0x28;
    let width : Nat := 8; (s.pwr.corePg = true) ∧ ((accessOk addr width = true) ∧
    ((addr < 0x300000 ∨ 0x400000 ≤ addr)))) := by decide +kernel
theorem witness_CompleteBootLinkAndMemory_3 : (let s : State := serving0; let addr : Nat := 0x28; let width : Nat := 8;
    (s.pwr.corePg = true) ∧ ((accessOk addr width = true) ∧ ((addr < 0x300000 ∨ 0x400000 ≤ addr)))) ∧ (let s : State := serving0;
    let speed : Nat := 5; let width : Nat := 8;
    let u : State := { serving0 with hlk := { serving0.hlk with linkUp := true, speed := 5, width := 8, degraded := false, retrains := satAdd 16 serving0.hlk.retrains 1, sris := false } };
    (s.hlk.presented = true) ∧ ((s.hlk.perst = false) ∧
    (({ s with hlk := { s.hlk with linkUp := true, speed := speed, width := width, degraded := decide (speed < 5) || decide (width < 8), retrains := satAdd 16 s.hlk.retrains (if s.hlk.linkUp then 1 else 0), sris := s.img.active.clocks.hostRef == 1 } } = u)))) ∧
    (let s : State := { serving0 with hlk := { serving0.hlk with dec0 := ⟨0, 0, 0, 0, false, false⟩ } }; let n : Nat := 0;
    let base : Nat := 0; let size : Nat := 0x10000000; let ways : Nat := 1; let skip : Nat := 0;
    let d : Decoder := ⟨0, 0, 0, 0, false, false⟩; ((decoders s)[n]? = some d) ∧ ((s.hlk.presented = true) ∧
    ((d.committed = false) ∧ ((commitOk n base size ways skip s = true))))) := by decide +kernel
theorem witness_CompleteBootLinkAndMemory_4 : (let s : State := serving0; let n : Nat := 0;
    let d : Decoder := ⟨0, 0x10000000, 1, 0, true, false⟩; ((decoders s)[n]? = some d) ∧ ((d.committed = true) ∧
    ((((decoders s)[n + 1]?).any Decoder.committed = false)))) ∧ (let s : State := serving0; let tag : Nat := 7; let hpa : Nat := 3;
    let line : Nat := 3; let mask : Nat := 1; let r : Nat := 0; let bad : Bool := false; (s.hlk.linkUp = true) ∧
    ((dpaLine s hpa = some line) ∧ ((0 < s.hlk.rwdFree) ∧ ((s.hlk.writes.any (fun w => w.tag = tag) = false) ∧
    ((s.hlk.ingressClosed = false) ∧ ((accessServed s (granuleOf line) = true) ∧ ((regionOf s (granuleOf line) = some r) ∧
    ((bad = false))))))))) ∧ (let s : State := { serving0 with qdc := serving0.qdc.map (fun d => { d with state := 2 }) };
    let tag : Nat := 7; let hpa : Nat := 3; let line : Nat := 3; (s.hlk.linkUp = true) ∧ ((dpaLine s hpa = some line) ∧
    ((0 < s.hlk.reqFree) ∧ ((s.hlk.reads.any (fun r => r.tag = tag) = false) ∧ ((s.hlk.ingressClosed = false) ∧
    ((accessServed s (granuleOf line) = true) ∧ ((gstate s (granuleOf line) ≠ .pending) ∧
    ((memReady s (quadOf s (granuleOf line)) = true))))))))) := by decide +kernel
theorem witness_CompleteBootLinkAndMemory_5 : (let s : State := { serving0 with hlk := { serving0.hlk with writes := [newWrite 7 3 1 0 5 false] } };
    let tag : Nat := 7; let w : WriteRec := newWrite 7 3 1 0 5 false; (s.hlk.writes.find? (fun x => x.tag = tag) = some w) ∧
    ((w.inDram = false) ∧ ((w.hold = .none) ∧ ((w.released = false) ∧
    (((s.hlk.writes.takeWhile (fun x => x.tag ≠ tag)).any (fun x => x.line = w.line && !x.inDram) = false)))))) ∧
    (let s : State := serving0; (s.hlk.linkUp = true)) ∧ (let s : State := serving0; (Serves s)) := by decide +kernel
theorem witness_CompleteBootLinkAndMemory_6 : (let s : State := serving0; (Serves s)) ∧ (let s : State := serving0; (Serves s) ∧
    ((s.spn.mode ≠ .dump))) ∧ (let s : State := serving0; (Serves s) ∧ ((s.spn.mode ≠ .dump))) := by decide +kernel
theorem witness_CompleteBootLinkAndMemory_7 : (let s : State := serving0; (Serves s) ∧ ((s.spn.mode ≠ .dump))) ∧
    (let s : State := serving0; (Serves s) ∧ ((s.spn.mode ≠ .dump))) ∧ (let s : State := serving0; (Serves s) ∧
    ((s.spn.mode ≠ .dump))) := by decide +kernel
theorem witness_CompleteBootLinkAndMemory_8 : (let s : State := { serving0 with spn := { serving0.spn with mode := .test } };
    let dpa : Nat := 64; (Serves s) ∧ ((s.spn.mode = .test) ∧ ((lineOk s dpa = true) ∧ ((s.hlk.injected.length < 16))))) ∧
    (let s : State := { serving0 with spn := { serving0.spn with mode := .test } }; let dpa : Nat := 64; (Serves s) ∧
    ((s.spn.mode = .test) ∧ ((lineOk s dpa = true)))) ∧ (let s : State := serving0; (Serves s) ∧
    ((s.spn.mode ≠ .dump))) := by decide +kernel
theorem witness_CompleteBootLinkAndMemory_9 : (let s : State := serving0; let len : Nat := 4096; let uuid : Nat := vendorLogUuid;
    (Serves s) ∧ ((len ≤ 4096) ∧ ((uuid = celUuid ∨ uuid = vendorLogUuid)))) ∧ (let s : State := serving0; let log : Nat := 3;
    (Serves s) ∧ ((log < 4))) ∧ (let s : State := serving0; let log : Nat := 3; (Serves s) ∧ ((s.spn.mode ≠ .dump) ∧
    ((log < 4)))) := by decide +kernel
theorem witness_CompleteBootLinkAndMemory_10 : (let s : State := serving0; (Serves s) ∧ ((s.spn.mode ≠ .dump))) ∧
    (let s : State := serving0; (Serves s) ∧ ((s.spn.mode ≠ .dump))) ∧ (let s : State := serving0; (Serves s)) := by decide +kernel
theorem witness_CompleteBootLinkAndMemory_11 : (let s : State := keyed; let via : Via := .primary;
    let slot : Nat := inactiveSlot keyed; let l : List Component := [tinyFirmware]; (Serves s) ∧ ((s.spn.mode ≠ .dump) ∧
    ((s.hlk.bg = none) ∧ ((slot = inactiveSlot s) ∧ ((packageOk l = true) ∧ ((l.all (compOk slot s) = true) ∧
    ((s.nrg.quagOk = true)))))))) := by decide +kernel

theorem witness_CompleteMailboxAndArray_0 : (let s : State := { serving0 with nrg := { serving0.nrg with quagOk := true }, aos := { serving0.aos with scratch := { serving0.aos.scratch with held := [⟨.loader, 0, 0, 0⟩] } } };
    let online : Bool := false; (Serves s) ∧ ((s.spn.mode ≠ .dump) ∧ ((online = false) ∧ ((s.aos.scratch.held ≠ []) ∧
    ((s.nrg.quagOk = true)))))) ∧ (let s : State := serving0; (Serves s) ∧ ((s.spn.mode ≠ .dump))) ∧ (let s : State := serving0;
    (Serves s) ∧ ((s.spn.mode ≠ .dump))) := by decide +kernel
theorem witness_CompleteMailboxAndArray_1 : (let s : State := serving0; let op : Nat := 0x9999; (Serves s) ∧ ((s.spn.mode ≠ .dump) ∧
    ((listedOpcodes.contains op = false)))) ∧ (let s : State := serving0; let via : Via := .primary; let r : Nat := 255;
    (VendorServes via [.restore, .service, .parked, .test] true false s) ∧ ((r < 256))) ∧ (let s : State := serving0;
    let via : Via := .primary; let dpa : Nat := 0; let len : Nat := 16384; let r : Nat := 0; let waits : Bool := false;
    let t : State := releaseRange 0 0 1 serving0; (VendorServes via [.restore, .service, .test] false false s) ∧
    ((rangeRegion s dpa len = .inl r) ∧
    ((forwardRelease r (dpa / 16384) (len / 16384) (rangeUsed s (dpa / 16384) (len / 16384)).length via (releaseRange r (dpa / 16384) (len / 16384) s) = (waits, t))))) := by decide +kernel
theorem witness_CompleteMailboxAndArray_2 : (let s : State := serving0; let via : Via := .primary; let dpa : Nat := 0;
    let len : Nat := 16384; let r : Nat := 0; (VendorServes via [.restore, .service, .test] false true s) ∧
    ((rangeRegion s dpa len = .inl r))) ∧ (let s : State := serving0; let via : Via := .primary;
    (VendorServes via [.restore, .service, .test] true true s)) ∧ (let s : State := serving0; let via : Via := .primary;
    let r : Nat := 0; (VendorServes via [.restore, .service, .test] true true s) ∧ ((defined s r = true))) := by decide +kernel
theorem witness_CompleteMailboxAndArray_3 : (let s : State := { serving0 with nrg := { serving0.nrg with input := .good, storePresent := true }, wrp := { serving0.wrp with b := 5 } };
    let via : Via := .primary; (VendorServes via [.service, .restore] true true s) ∧ ((dumpUnmet s = 0))) ∧
    (let s : State := { serving0 with spn := { serving0.spn with mode := .parked } }; let via : Via := .primary;
    (VendorServes via [.parked] true true s)) ∧ (let s : State := { serving0 with kor := { serving0.kor with state := .solo } };
    let via : Via := .primary; (VendorServes via [.restore, .service] true true s) ∧ ((s.kor.state = .solo) ∧
    ((s.kor.soloCause ≠ 6)))) := by decide +kernel
theorem witness_CompleteMailboxAndArray_4 : (let s : State := { paired39 .solo with evr := { (paired39 .solo).evr with opSec := 10 } };
    let via : Via := .primary; (VendorServes via [.restore, .service] false true s) ∧ ((s.kor.state = .solo) ∧
    ((s.kor.soloCause ≠ 6) ∧ ((forceOk (bgStart via 0xC007 (raise 0x0208 0x01 [] s)) = true))))) ∧ (let s : State := serving0;
    let via : Via := .primary; let u : State := learnDisqualify 0x06 (bgStart .primary 0xC008 serving0);
    (VendorServes via [.service] true true s) ∧ ((learnDisqualify 0x06 (bgStart via 0xC008 s) = u))) ∧ (let s : State := serving0;
    let via : Via := .primary; let u : State := bgStart .primary 0xC008 serving0; (VendorServes via [.service] true true s) ∧
    ((bgStart via 0xC008 s = u))) := by decide +kernel
theorem witness_CompleteMailboxAndArray_5 : (let s : State := serving0; let via : Via := .primary;
    (VendorServes via [.service] true true s)) ∧ (let s : State := serving0; let via : Via := .primary;
    (VendorServes via [.service] true true s) ∧ ((s.nrg.lstate ≠ .waitBudget) ∧ ((s.nrg.lstate ≠ .running)))) ∧
    (let s : State := { serving0 with nrg := { input := .good, storePresent := true, anchor := .full }, wrp := { b := 5 } };
    let via : Via := .primary; (VendorServes via [.service] true true s) ∧ ((calibrationUnmet s = 0))) := by decide +kernel
theorem witness_CompleteMailboxAndArray_6 : (let s : State := serving0; let via : Via := .primary;
    (VendorServes via runningModes true false s)) ∧ (let s : State := fetched0 .poison; let via : Via := .primary;
    let dpa : Nat := 81920; let rebuilt : Bool := true; let p : Page := ⟨5, 0, 1, 0, true, false, false, false, [], 0, []⟩;
    (VendorServes via [.restore, .service, .test] false true s) ∧ (((rangeRegion s dpa 16384).isLeft = true) ∧
    ((gstate s (dpa / 16384) = .poison) ∧ ((rebuilt = true) ∧ ((pageAt s (mapOf s (dpa / 16384)).vpa = some p) ∧
    ((encrypted s p.region = false) ∧ ((rebuildPasses s (mapOf s (dpa / 16384)).vpa p = true)))))))) ∧
    (let s : State := { serving0 with cwy := { serving0.cwy with isHead := true } }; let via : Via := .primary;
    (VendorServes via runningModes true true s) ∧ ((s.cwy.isHead = true))) := by decide +kernel
theorem witness_CompleteMailboxAndArray_7 : (let s : State := { serving0 with cwy := { serving0.cwy with isHead := true } };
    let via : Via := .primary; (VendorServes via runningModes true true s) ∧ ((s.cwy.isHead = true))) ∧
    (let s : State := { serving0 with cwy := { serving0.cwy with isHead := true, live := 2 } }; let via : Via := .primary;
    let mask : Nat := 2; (VendorServes via runningModes true true s) ∧ ((s.cwy.isHead = true) ∧ ((addressed s mask ≠ [])))) ∧
    (let s : State := { serving0 with cwy := { serving0.cwy with isHead := true } }; let via : Via := .primary;
    (VendorServes via runningModes true true s) ∧ ((s.cwy.isHead = true))) := by decide +kernel
theorem witness_CompleteMailboxAndArray_8 : (let s : State := serving0; (s.hlk.presented = true)) ∧ (let s : State := serving0;
    (s.hlk.presented = true)) ∧ (let s : State := serving0; (s.pwr.corePg = true) ∧
    ((s.sig.recoverySvc = false ∨ s.sig.stage ≠ 0))) := by decide +kernel
theorem witness_CompleteMailboxAndArray_9 : (let s : State := serving0; (s.pwr.corePg = true) ∧
    ((s.sig.recoverySvc = false ∨ s.sig.stage ≠ 0))) ∧ (let s : State := serving0; (s.pwr.corePg = true) ∧
    ((s.sig.recoverySvc = false ∨ s.sig.stage ≠ 0))) ∧ (let s : State := serving0; (s.pwr.corePg = true) ∧
    ((s.sig.recoverySvc = false ∨ s.sig.stage ≠ 0))) := by decide +kernel
theorem witness_CompleteMailboxAndArray_10 : (let s : State := serving0; (s.pwr.corePg = true) ∧
    ((s.sig.recoverySvc = false ∨ s.sig.stage ≠ 0))) ∧ (let s : State := serving0; (s.pwr.corePg = true) ∧
    ((s.sig.recoverySvc = false ∨ s.sig.stage ≠ 0))) ∧ (let s : State := serving0; (s.pwr.corePg = true) ∧
    ((s.sig.recoverySvc = false ∨ s.sig.stage ≠ 0))) := by decide +kernel
theorem witness_CompleteMailboxAndArray_11 : (let s : State := serving0; (s.pwr.corePg = true) ∧
    ((s.sig.recoverySvc = false ∨ s.sig.stage ≠ 0))) ∧ (let s : State := serving0; let index : Nat := 16; (s.pwr.corePg = true) ∧
    ((s.sig.recoverySvc = false ∨ s.sig.stage ≠ 0) ∧ ((1 ≤ index) ∧ ((index ≤ 16))))) := by decide +kernel

theorem witness_CompleteRegionsStreamAndVault_0 : (let s : State := serving0; (s.pwr.corePg = true) ∧
    ((s.sig.recoverySvc = false ∨ s.sig.stage ≠ 0))) ∧ (let s : State := serving0; (s.pwr.corePg = true) ∧
    ((s.sig.recoverySvc = false ∨ s.sig.stage ≠ 0))) ∧ (let s : State := life44 .starting; let r : Nat := 0; (serving s = true) ∧
    (((region s r).life = .starting) ∧ ((s.kor.opening.contains r = false) ∧
    ((encrypted s r = false ∨ (slotOf s r).st ≠ .starting) ∧ ((startCode s r = none)))))) := by decide +kernel
theorem witness_CompleteRegionsStreamAndVault_1 : (let s : State := { life44 .starting with kor := { (life44 .starting).kor with opening := [0] } };
    let r : Nat := 0; (serving s = true) ∧ (((region s r).life = .starting) ∧ ((s.kor.opening.contains r = true)))) ∧
    (let s : State := life44 .stopping; let r : Nat := 0;
    let u : State := setLife 0 .offline (modRegion 0 (fun x => { x with reArm := false, liveStop := false }) (life44 .stopping));
    (serving s = true) ∧ (((region s r).life = .stopping) ∧ ((regionDrained s r = true) ∧
    (((region s r).reArm = false ∨ (region s r).liveStop = true) ∧
    ((setLife r .offline (modRegion r (fun x => { x with reArm := false, liveStop := false }) s) = u)))))) ∧
    (let s : State := serving0; (s.pwr.corePg = true) ∧ ((s.img.liveState ≠ 1) ∧ ((s.img.liveState ≠ 2) ∧
    ((modeIn [.service, .test] s = true))))) := by decide +kernel
theorem witness_CompleteRegionsStreamAndVault_2 : (let s : State := serving0; (s.pwr.corePg = true) ∧ ((s.img.liveState ≠ 1) ∧
    ((s.img.liveState ≠ 2) ∧ ((modeIn [.service, .test] s = true))))) ∧ (let s : State := serving0; (s.spn.mode ≠ .dump)) ∧
    (let s : State := serving0; (s.spn.mode ≠ .dump)) := by decide +kernel
theorem witness_CompleteRegionsStreamAndVault_3 : (let s : State := { serving0 with hlk := { serving0.hlk with writes := [{ newWrite 7 3 1 0 5 false with hold := .share }] } };
    let tag : Nat := 7; let w : WriteRec := { newWrite 7 3 1 0 5 false with hold := .share };
    (s.hlk.writes.find? (fun x => x.tag = tag) = some w) ∧
    ((holdNow s w = .budget ∨ holdNow s w = .decision ∨ holdNow s w = .share))) ∧ (let s : State := dumping47 2; let q : Nat := 0;
    (s.spn.mode = .dump) ∧ (((quadList s).contains q = true) ∧ (((dumpQuad s q).phase = 2) ∧ (((dumpQuad s q).queue = []) ∧
    (((dumpQuad s q).running = []) ∧ (((dumpQuad s q).placed = []))))))) ∧
    (let s : State := { dumping47 3 with dmp := { (dumping47 3).dmp with q0 := { phase := 3, running := [(.data 5, 7)] } } };
    let vpa : Nat := 7; let q : Nat := 0; (s.spn.mode = .dump) ∧
    (((quadList s).find? (fun q => (dumpQuad s q).running.any (fun e => e.2 = vpa)) = some q))) := by decide +kernel
theorem witness_CompleteRegionsStreamAndVault_4 : (let s : State := { dumping47 3 with dmp := { (dumping47 3).dmp with q0 := { phase := 3, running := [(.data 5, 7)] } } };
    let vpa : Nat := 7; let q : Nat := 0; (s.spn.mode = .dump) ∧
    (((quadList s).find? (fun q => (dumpQuad s q).running.any (fun e => e.2 = vpa)) = some q))) ∧ (let s : State := dumping47 3;
    let m : Sample := ⟨500, 0, 12000, 0, 250, 250, 250, false, false, 0⟩; (s.spn.mode = .dump) ∧
    (let u : State := gaugeAfter s.nrg (emptyAnchor (refreshEstimates (countCharge m.dQ (takeSample m s))));
    let v : State := windowSum (u.nrg.vOcv * (-u.nrg.iStore).toNat / 100) u;
    (v.ifc.waiting.all (fun o => match o.work with | .finalSedge _ => false | _ => true) = true))) ∧ (let s : State := serving0;
    let resp : List Nat := []; (cmbGood s resp = false)) := by decide +kernel
theorem witness_CompleteRegionsStreamAndVault_5 : (let s : State := serving0;
    let m : Sample := ⟨500, 0, 12000, 0, 250, 250, 250, false, false, 0⟩; let step : Option CurrentStep := none; True) ∧
    (let s : State := cycle0 .waitBudget; let c : CurrentStep := ⟨1000, 900, 0, 1000⟩;
    let u : State := foldEsr ⟨1000, 900, 0, 1000⟩ (assertHoldup .learning (cycle0 .waitBudget)); (s.nrg.lstate = .waitBudget) ∧
    ((s.wrp.learning = true) ∧ ((dCount s ≤ s.wrp.b) ∧ ((s.aos.gauge = none) ∧ ((agentBusy .energy s = false) ∧
    ((foldEsr c (assertHoldup .learning s) = u))))))) ∧ (let s : State := gauge0; let value : Nat := 2500;
    let p : Param := ⟨1, 2500, 2500, 2500⟩; ((gaugeWake s).nrg.params.find? (fun p => p.id = (gaugeWake s).nrg.paramIdx) = some p) ∧
    (((gaugeWake s).nrg.input = .good) ∧ (((gaugeWake s).nrg.holdupEn = false) ∧
    (((gaugeWake s).spn.mode ≠ .dump))))) := by decide +kernel
theorem witness_CompleteRegionsStreamAndVault_6 : (let s : State := serving0; (serving s = true)) ∧ (let s : State := readyGranule;
    let q : Nat := 0; let err : Bool := false; let bad : List Nat := []; let u : State := readyGranule; let g : Nat := 5;
    (serving s = true) ∧ ((s.spn.quadEn.testBit q = true) ∧ ((streamRuns s = true ∨ engReady s q = true) ∧
    (((if err then rebuildRing q s else s) = u) ∧ (((ringFirst u q).or (ringOf u q).head? = some g)))))) ∧
    (let s : State := { readyGranule with wrp := { readyGranule.wrp with regions := readyGranule.wrp.regions.modify 0 (fun x => { x with entry := { x.entry with sequential := true } }) } };
    let r : Nat := 0; (streamRuns s = true) ∧ ((r < 256) ∧ (((region s r).entry.sequential = true) ∧ ((defined s r = true) ∧
    ((serves s r = true)))))) := by decide +kernel
theorem witness_CompleteRegionsStreamAndVault_7 : (let s : State := serving0; (s.spn.mode ≠ .dump)) ∧ (let s : State := serving0;
    let ok : Bool := true; (s.spn.mode ≠ .dump ∨ ok = true)) ∧ (let s : State := vaulted37 2; let c : Nat := 0; let d : Nat := 0;
    (c < 16) ∧ ((dieOk s c d = true) ∧ ((populated s c = true) ∧ ((d < (vaultRec s).diesPerCh) ∧ ((s.spn.mode ≠ .dump) ∧
    (((vchOf s c).missRun.getD d 0 = 0))))))) := by decide +kernel
theorem witness_CompleteRegionsStreamAndVault_8 : (let s : State := fetched0 .pending;
    let n : Nat := vpaSeg (mapOf (fetched0 .pending) 5).vpa; (serving s = true) ∧ (((liveIn s n).isEmpty = false) ∧
    ((s.vlt.scrubbing.contains n = false)))) ∧
    (let s : State := vaulted0 [(0, ⟨.peat, 5, 1, 0, 0⟩)] [(5, ⟨1, 0, false, false, false⟩)]; let failed : List Nat := [];
    let n : Nat := 0; (vaultAwake s = true) ∧
    ((s.vlt.rebuildSegs.find? (fun n => (movable s n).any (fun g => !((unmovable n failed s).contains g))) = some n))) ∧
    (let s : State := vaulted0 [(0, ⟨.twin, 5, 1000000, 0, 0⟩)] []; let n : Nat := 0; let failed : List Nat := [];
    (vaultAwake s = true) ∧ ((twinFull s n = true) ∧ ((s.vlt.erasing.contains n = false) ∧ ((segBusy s n = false) ∧
    ((s.vlt.compact.any (fun e => e.1 = n) = false)))))) := by decide +kernel
theorem witness_CompleteRegionsStreamAndVault_9 : (let s : State := vaulted37 2; let c : Nat := 0; (c < 16) ∧
    (((vchOf s c).state = 2) ∧ (((vchOf s c).trainFails < 2)))) ∧
    (let s : State := { vaulted37 2 with spn := { (vaulted37 2).spn with mode := .test } }; let c : Nat := 0; (s.spn.mode = .test) ∧
    ((c < 16) ∧ (((vchOf s c).state = 2)))) ∧
    (let s : State := { fetched0 .pending with dmp := { (fetched0 .pending).dmp with fetching := [], bulk := [5] } };
    let g : Nat := 5; let tagOk : Bool := true; let rebuilt : Bool := true; let us : Nat := 9;
    let p : Page := ⟨5, 0, 1, 0, true, false, false, false, [], 0, []⟩; (s.spn.mode ≠ .dump) ∧
    ((pageAt s (mapOf s g).vpa = some p) ∧ ((fetchWanted s g = true) ∧ ((s.dmp.fetching.contains g = false) ∧
    ((encrypted s p.region = false) ∧ ((tagOk = true) ∧ ((readPasses s (mapOf s g).vpa p rebuilt = true) ∧
    (let u : State := { noteRead (mapOf s g).vpa rebuilt s with dmp := { (noteRead (mapOf s g).vpa rebuilt s).dmp with fetching := (noteRead (mapOf s g).vpa rebuilt s).dmp.fetching.filter (· ≠ g), bulk := (noteRead (mapOf s g).vpa rebuilt s).dmp.bulk.filter (· ≠ g) } };
    (gstate u g = .pending))))))))) := by decide +kernel
theorem witness_CompleteRegionsStreamAndVault_10 : (let s : State := { fetched0 .pending with dmp := { (fetched0 .pending).dmp with rphase := 3, fetching := [], bulk := [] } };
    let q : Nat := 0; let g : Nat := 5; (serving s = true) ∧ ((3 ≤ s.dmp.rphase) ∧ ((q < 4) ∧ ((bulkNext s q = some g) ∧
    ((dieWanted s g = false)))))) ∧ (let s : State := linked40 .mirrored; (s.kor.unitOn = true) ∧ ((s.kor.trained = true))) ∧
    (let s : State := linked40 .mirrored; (s.kor.unitOn = true) ∧ ((s.kor.trained = true))) := by decide +kernel
theorem witness_CompleteRegionsStreamAndVault_victims : vaultAwake spread0 = true ∧ spread0.shd.gc ≠ .idle ∧ victim spread0 = some 0 ∧
    spread0.vlt.relocate.all (fun n => (movable spread0 n).all (fun g => (unmovable n [] spread0).contains g)) = true ∧
    ((spread0.vlt.segs.filter (fun e => victimOk spread0 e.1 e.2)).mergeSort (fun a b => a.2.erases ≤ b.2.erases)).head? = some (0, ⟨.peat, 5, 0x100000, 0, 0⟩) ∧
    (vaultRec spread0).endurance < eraseSpread spread0 * 20 ∧ spread0.shd.wlSec.any (fun t => spread0.evr.opSec < t + 3600) = false :=
  ⟨test_w36_victim.2.1, test_w36_victim.2.2, test_w36_victim.1, by decide +kernel, test_w36_spread.1, test_w36_spread.2.1, by decide +kernel⟩

theorem witness_CompleteKorricAndCauseway_0 : (let s : State := second41 .mirrored true; let h : FlitHdr := nextHdr;
    let u : State := takeMsg nextHdr 15 (fun t => t) (second41 .mirrored true); (korHears s = true) ∧ ((inOrder s h 15 = true) ∧
    ((takeMsg h 15 (fun t => t) s = u) ∧ ((u.kor.up = true) ∧ ((u.spn.mode ≠ .dump)))))) ∧
    (let s : State := second41 .mirrored true; let h : FlitHdr := nextHdr;
    let u : State := takeMsg nextHdr 15 (fun t => t) (second41 .mirrored true); (korHears s = true) ∧ ((inOrder s h 15 = true) ∧
    ((takeMsg h 15 (fun t => t) s = u) ∧ ((u.kor.up = true) ∧ ((u.spn.mode ≠ .dump)))))) ∧
    (let s : State := second41 .mirrored true; let h : FlitHdr := nextHdr; let idx : Nat := 1;
    let u : State := takeMsg nextHdr 1 (fun t => t) (second41 .mirrored true); (korHears s = true) ∧ ((inOrder s h idx = true) ∧
    ((takeMsg h idx (fun t => t) s = u)))) := by decide +kernel
theorem witness_CompleteKorricAndCauseway_1 : (let s : State := second41 .mirrored true; let h : FlitHdr := nextHdr;
    let idx : Nat := 1; let u : State := takeMsg nextHdr 1 (fun t => t) (second41 .mirrored true); let part : Nat := 3;
    let value : Nat := 7;
    let v : State := { takeMsg nextHdr 1 (fun t => t) (second41 .mirrored true) with kor := { (takeMsg nextHdr 1 (fun t => t) (second41 .mirrored true)).kor with digestSeen := tins 3 7 (takeMsg nextHdr 1 (fun t => t) (second41 .mirrored true)).kor.digestSeen } };
    (korHears s = true) ∧ ((inOrder s h idx = true) ∧ ((takeMsg h idx (fun t => t) s = u) ∧ ((part < 4) ∧
    (({ u with kor := { u.kor with digestSeen := tins part (value % 2 ^ 96) u.kor.digestSeen } } = v)))))) ∧
    (let s : State := second41 .mirrored true; let h : FlitHdr := nextHdr; let idx : Nat := 1;
    let u : State := takeMsg nextHdr 1 (fun t => t) (second41 .mirrored true); (korHears s = true) ∧ ((inOrder s h idx = true) ∧
    ((takeMsg h idx (fun t => t) s = u) ∧ ((u.kor.up = true) ∧ ((u.spn.mode ≠ .dump) ∧
    ((u.kor.state = .mirrored ∨ u.kor.state = .resync))))))) ∧
    (let s : State := { second41 .mirrored true with kor := { (second41 .mirrored true).kor with opening := [0] } };
    let h : FlitHdr := nextHdr; let idx : Nat := 1; let r : Nat := 0;
    let u : State := takeMsg nextHdr 1 (fun t => t) { second41 .mirrored true with kor := { (second41 .mirrored true).kor with opening := [0] } };
    (korHears s = true) ∧ ((inOrder s h idx = true) ∧ ((takeMsg h idx (fun t => t) s = u) ∧ ((u.kor.up = true) ∧
    ((u.spn.mode ≠ .dump) ∧ ((u.kor.opening.contains r = true))))))) := by decide +kernel
theorem witness_CompleteKorricAndCauseway_2 : (let s : State := second41 .mirrored true; let h : FlitHdr := nextHdr;
    let idx : Nat := 1; let u : State := takeMsg nextHdr 1 (fun t => t) (second41 .mirrored true); let g : Nat := 5;
    let mseq : Nat := 1; (korHears s = true) ∧ ((inOrder s h idx = true) ∧ ((takeMsg h idx (fun t => t) s = u) ∧
    ((u.kor.up = true) ∧ ((u.spn.mode ≠ .dump) ∧ ((u.kor.lastMseq.all (fun e => e.1 ≠ g || seqLe e.2 mseq) = true) ∧
    ((u.kor.held.any (fun sl => granuleOf sl.line = g) = false)))))))) ∧ (let s : State := second41 .mirrored true;
    let h : FlitHdr := nextHdr; let idx : Nat := 1; let u : State := takeMsg nextHdr 1 (fun t => t) (second41 .mirrored true);
    (korHears s = true) ∧ ((inOrder s h idx = true) ∧ ((takeMsg h idx (fun t => t) s = u) ∧ ((u.kor.up = true) ∧
    ((u.spn.mode ≠ .dump)))))) ∧ (let s : State := mirror42 .shadowed; let h : FlitHdr := nextHdr; let idx : Nat := 1;
    let first : Nat := 0; let count : Nat := 16; (korHears s = true) ∧ ((inOrder s h idx = true) ∧
    (let u : State := takeMsg h idx (fun t => t) s; (u.kor.up = true) ∧ ((u.spn.mode ≠ .dump))))) := by decide +kernel
theorem witness_CompleteKorricAndCauseway_3 : (let s : State := mirror42 .shadowed; let h : FlitHdr := nextHdr; let idx : Nat := 1;
    let first : Nat := 16; let e : RelWait := ⟨0, 16, 4, 4, .primary, true⟩; (korHears s = true) ∧ ((inOrder s h idx = true) ∧
    (let u : State := takeMsg h idx (fun t => t) s; (u.kor.up = true) ∧ ((u.spn.mode ≠ .dump) ∧
    ((u.kor.relWait.find? (fun e => e.first = first && e.sent) = some e)))))) ∧ (let s : State := second41 .mirrored true;
    let h : FlitHdr := nextHdr; let idx : Nat := 1; let u : State := takeMsg nextHdr 1 (fun t => t) (second41 .mirrored true);
    (korHears s = true) ∧ ((inOrder s h idx = true) ∧ ((takeMsg h idx (fun t => t) s = u) ∧ ((u.kor.up = true))))) ∧
    (let s : State := second41 .mirrored true; let h : FlitHdr := nextHdr; let idx : Nat := 1;
    let u : State := takeMsg nextHdr 1 (fun t => t) (second41 .mirrored true); let kind : Nat := 1; let seq : Nat := 9;
    let v : State := raise 0x090B 0x05 [(1, 1), (4, 9)] (takeMsg nextHdr 1 (fun t => t) (second41 .mirrored true));
    (korHears s = true) ∧ ((inOrder s h idx = true) ∧ ((takeMsg h idx (fun t => t) s = u) ∧ ((u.kor.up = true) ∧
    ((raise 0x090B 0x05 [(1, kind), (4, seq)] u = v)))))) := by decide +kernel
theorem witness_CompleteKorricAndCauseway_4 : (let s : State := second41 .mirrored true; let h : FlitHdr := nextHdr;
    let idx : Nat := 1; let u : State := takeMsg nextHdr 1 (fun t => t) (second41 .mirrored true); let line : Nat := 5;
    let mseq : Nat := 1; (korHears s = true) ∧ ((inOrder s h idx = true) ∧ ((takeMsg h idx (fun t => t) s = u) ∧
    ((u.kor.up = true) ∧ ((u.spn.mode ≠ .dump) ∧
    ((u.kor.repairs.any (fun a => a.granule = granuleOf line && a.tag = mseq) = false ∨ mirrorCopy u (granuleOf line) = true))))))) ∧
    (let s : State := second41 .mirrored true; let h : FlitHdr := nextHdr; let idx : Nat := 1;
    let u : State := takeMsg nextHdr 1 (fun t => t) (second41 .mirrored true); let g : Nat := 5; (korHears s = true) ∧
    ((inOrder s h idx = true) ∧ ((takeMsg h idx (fun t => t) s = u) ∧ ((u.kor.up = true) ∧ ((u.spn.mode ≠ .dump) ∧
    ((mirrorCopy u g = false))))))) ∧ (let s : State := mirror42 .dirty; let h : FlitHdr := nextHdr; let idx : Nat := 1;
    let g : Nat := 3; let tag : Nat := 7; let a : RepairAsk := ⟨7, 3, none, [], [], []⟩; (korHears s = true) ∧
    ((inOrder s h idx = true) ∧ (let u : State := takeMsg h idx (fun t => t) s; (u.kor.up = true) ∧ ((u.spn.mode ≠ .dump) ∧
    ((u.kor.repairs.find? (fun a => a.tag = tag && a.granule = g) = some a)))))) := by decide +kernel
theorem witness_CompleteKorricAndCauseway_5 : (let s : State := second41 .mirrored true; let h : FlitHdr := nextHdr;
    let idx : Nat := 1; let u : State := takeMsg nextHdr 1 (fun t => t) (second41 .mirrored true); (korHears s = true) ∧
    ((inOrder s h idx = true) ∧ ((takeMsg h idx (fun t => t) s = u) ∧ ((u.kor.up = true) ∧ ((u.spn.mode ≠ .dump)))))) ∧
    (let s : State := second41 .mirrored true; let h : FlitHdr := nextHdr; let idx : Nat := 1;
    let u : State := takeMsg nextHdr 1 (fun t => t) (second41 .mirrored true); let r : Nat := 0; (korHears s = true) ∧
    ((inOrder s h idx = true) ∧ ((takeMsg h idx (fun t => t) s = u) ∧ ((u.kor.up = true) ∧ ((u.spn.mode ≠ .dump) ∧
    ((defined u r = true) ∧ ((serves u r = true)))))))) ∧
    (let s : State := { second41 .mirrored true with wrp := { (second41 .mirrored true).wrp with regions := (second41 .mirrored true).wrp.regions.modify 0 (fun x => { x with adopted := true }) } };
    let h : FlitHdr := nextHdr; let idx : Nat := 1; let r : Nat := 0;
    let u : State := takeMsg nextHdr 1 (fun t => t) { second41 .mirrored true with wrp := { (second41 .mirrored true).wrp with regions := (second41 .mirrored true).wrp.regions.modify 0 (fun x => { x with adopted := true }) } };
    (korHears s = true) ∧ ((inOrder s h idx = true) ∧ ((takeMsg h idx (fun t => t) s = u) ∧ ((u.kor.up = true) ∧
    ((u.spn.mode ≠ .dump) ∧ (((region u r).adopted = true))))))) := by decide +kernel
theorem witness_CompleteKorricAndCauseway_6 : (let s : State := second41 .mirrored true; let h : FlitHdr := nextHdr;
    let idx : Nat := 1; let r : Nat := 0; (korHears s = true) ∧ ((inOrder s h idx = true) ∧
    (let u : State := takeMsg h idx (fun t => t) s; (u.kor.up = true) ∧ ((u.spn.mode ≠ .dump) ∧ ((defined u r = true) ∧
    (((region u r).entry.sideB = u.kor.side) ∧ ((inConflict u r = false)))))))) ∧
    (let s : State := { mirror42 .dirty with kor := { (mirror42 .dirty).kor with gaveBack := [0] } }; let h : FlitHdr := nextHdr;
    let idx : Nat := 1; let r : Nat := 0; (korHears s = true) ∧ ((inOrder s h idx = true) ∧
    (let u : State := takeMsg h idx (fun t => t) s; (u.kor.up = true) ∧ ((u.spn.mode ≠ .dump) ∧
    ((u.kor.gaveBack.contains r = true)))))) ∧ (let s : State := second41 .mirrored true; let h : FlitHdr := nextHdr;
    let idx : Nat := 1; let u : State := takeMsg nextHdr 1 (fun t => t) (second41 .mirrored true); (korHears s = true) ∧
    ((inOrder s h idx = true) ∧ ((takeMsg h idx (fun t => t) s = u) ∧ ((u.kor.up = true) ∧
    ((u.kor.spareTx = false)))))) := by decide +kernel
theorem witness_CompleteKorricAndCauseway_7 : (let s : State := { second41 .mirrored true with kor := { (second41 .mirrored true).kor with rxSwap := some (4, 1, 256) } };
    let h : FlitHdr := nextHdr; let idx : Nat := 1; let lane : Nat := 4; let cause : Nat := 1; let cw : Nat := 256;
    (korHears s = true) ∧ ((inOrder s h idx = true) ∧ (let u : State := takeMsg h idx (fun t => t) s;
    (u.kor.rxSwap = some (lane, cause, cw))))) ∧ (let s : State := linked40 .mirrored; let lane : Nat := 3; let symbols : Nat := 0;
    let lockLost : Bool := true; let u : State := countSymbols 0 (linked40 .mirrored); (korHears s = true) ∧
    ((countSymbols symbols s = u) ∧ ((korHears u = true) ∧ ((u.kor.rxFailed.testBit lane = false) ∧
    ((lockLost = true ∨ u.kor.swapThresh < symbols) ∧ ((u.kor.spareRx = false) ∧ ((u.kor.rxSwap = none)))))))) ∧
    (let s : State := { linked40 .mirrored with kor := { (linked40 .mirrored).kor with txSwap := some (3, 0, 128) } };
    let lane : Nat := 3; let cause : Nat := 0; let cw : Nat := 128; (s.kor.txSwap = some (lane, cause, cw))) := by decide +kernel
theorem witness_CompleteKorricAndCauseway_8 : (let s : State := { linked40 .mirrored with kor := { (linked40 .mirrored).kor with rxSwap := some (3, 0, 128) } };
    let lane : Nat := 3; let cause : Nat := 0; let cw : Nat := 128; (s.kor.rxSwap = some (lane, cause, cw)) ∧
    ((s.kor.spareRx = false))) ∧
    (let s : State := { linked40 .training with kor := { (linked40 .training).kor with trainingOn := true } };
    (s.kor.unitOn = true) ∧ ((s.kor.trainingOn = true) ∧ ((s.kor.state = .training ∨ s.kor.state = .solo)))) ∧
    (let s : State := linked40 .deciding; (s.kor.unitOn = true) ∧ ((s.kor.state = .deciding) ∧
    ((s.kor.asking = false)))) := by decide +kernel
theorem witness_CompleteKorricAndCauseway_9 : (let s : State := linked40 .deciding;
    let u : State := { linked40 .deciding with kor := { (linked40 .deciding).kor with retrain := 1, trained := true, up := true, width := retrainWidth (linked40 .deciding), nakOut := false } };
    (s.kor.state = .deciding) ∧ ((s.kor.asking = false) ∧
    (({ s with kor := { s.kor with retrain := 1, trained := true, up := true, width := retrainWidth s, nakOut := false } } = u)))) ∧
    (let s : State := linked40 .deciding; (s.kor.state = .deciding) ∧ ((s.kor.asking = false))) ∧
    (let s : State := ({ up .service with cwy := { unit := .on, myId := 3, isHead := true, history := [5, 7], ringUp := true, claiming := true } } : State);
    let src : Nat := 2; let live : Nat := 1; let dumping : Nat := 0; let headcap : Nat := 0; (s.cwy.unit = .on) ∧
    ((s.cwy.dupId = false) ∧ ((src ≠ s.cwy.myId)))) := by decide +kernel
theorem witness_CompleteKorricAndCauseway_10 : (let s : State := { serving0 with cwy := { serving0.cwy with unit := .on } };
    (s.cwy.unit = .on) ∧ ((s.cwy.dupId = false))) ∧
    (let s : State := ({ up .service with cwy := { unit := .on, myId := 3, isHead := true, history := [5, 7], ringUp := true, claiming := true } } : State);
    let src : Nat := 3;
    let serial : Nat := serialOf ({ up .service with cwy := { unit := .on, myId := 3, isHead := true, history := [5, 7], ringUp := true, claiming := true } } : State) + 1;
    (s.cwy.unit = .on) ∧ ((s.cwy.dupId = false) ∧ ((src = s.cwy.myId) ∧ ((serial ≠ serialOf s))))) ∧
    (let s : State := ({ up .service with cwy := { unit := .on, myId := 3, isHead := true, history := [5, 7], ringUp := true, claiming := true } } : State);
    let src : Nat := 4; let dst : Nat := 3; let target : Nat := 5; let a : Nat := 1; (s.cwy.unit = .on) ∧ ((s.cwy.dupId = false) ∧
    ((dst = s.cwy.myId) ∧ ((s.cwy.isHead = true) ∧ ((s.cwy.electing = false) ∧ ((target = src ^^^ 1) ∧
    ((witnessAnswer s target = some a)))))))) := by decide +kernel
theorem witness_CompleteKorricAndCauseway_11 : (let s : State := { ({ up .service with cwy := { unit := .on, myId := 3, isHead := true, history := [5, 7], ringUp := true, claiming := true } } : State) with cwy := { ({ up .service with cwy := { unit := .on, myId := 3, isHead := true, history := [5, 7], ringUp := true, claiming := true } } : State).cwy with asking := some (.training, 9) } };
    let dst : Nat := 3; let tag : Nat := 9; let target : Nat := 2; let result : Nat := 2; let why : WitnessFor := .training;
    (s.cwy.unit = .on) ∧ ((s.cwy.dupId = false) ∧ ((dst = s.cwy.myId) ∧ ((s.cwy.asking = some (why, tag)) ∧
    ((target = s.cwy.myId ^^^ 1) ∧ ((result = 1 ∨ result = 2))))))) ∧
    (let s : State := ({ up .service with cwy := { unit := .on, myId := 3, isHead := true, history := [5, 7], ringUp := true, claiming := true } } : State);
    let dst : Nat := 3; let off : Nat := 0x28; (s.cwy.unit = .on) ∧ ((s.cwy.dupId = false) ∧ ((dst = s.cwy.myId) ∧
    ((off < 0x200000) ∧ ((hasWo (off / 8 * 8) = false) ∧ ((off % 4 = 0))))))) ∧
    (let s : State := { ({ up .service with cwy := { unit := .on, myId := 3, isHead := true, history := [5, 7], ringUp := true, claiming := true } } : State) with cwy := { ({ up .service with cwy := { unit := .on, myId := 3, isHead := true, history := [5, 7], ringUp := true, claiming := true } } : State).cwy with winAsks := [⟨.bar0, 5, 0x28, 0x300028, 8, 9, false⟩] } };
    let src : Nat := 5; let dst : Nat := 3; let tag : Nat := 9; let a : WinAsk := ⟨.bar0, 5, 0x28, 0x300028, 8, 9, false⟩;
    (s.cwy.unit = .on) ∧ ((s.cwy.dupId = false) ∧ ((dst = s.cwy.myId) ∧
    ((s.cwy.winAsks.find? (fun x => x.tag = tag && x.member = src) = some a) ∧ ((a.latch = false)))))) := by decide +kernel
theorem witness_CompleteKorricAndCauseway_12 : (let s : State := { ({ up .service with cwy := { unit := .on, myId := 3, isHead := true, history := [5, 7], ringUp := true, claiming := true } } : State) with cwy := { ({ up .service with cwy := { unit := .on, myId := 3, isHead := true, history := [5, 7], ringUp := true, claiming := true } } : State).cwy with remoteWrEn := true } };
    let dst : Nat := 3; let off : Nat := 0x28; (s.cwy.unit = .on) ∧ ((s.cwy.dupId = false) ∧ ((dst = s.cwy.myId) ∧
    ((s.spn.mode ≠ .dump) ∧ ((off < 0x200000) ∧ ((hasWo (off / 8 * 8) = false) ∧ ((s.cwy.remoteWrEn = true) ∧
    ((off < 0x70000 ∨ 0x80000 ≤ off))))))))) ∧
    (let s : State := { serving0 with cwy := { serving0.cwy with unit := .on, isHead := true } }; let packet : List Nat := [0, 0];
    (s.cwy.unit = .on) ∧ ((s.cwy.isHead = true) ∧ ((s.cwy.eidBase ≤ packet.getD 1 0) ∧
    ((packet.getD 1 0 - s.cwy.eidBase = s.cwy.myId) ∧ ((s.cwy.myId ≤ 63)))))) ∧
    (let s : State := { serving0 with cwy := { serving0.cwy with unit := .on } }; let dst : Nat := 0; (s.cwy.unit = .on) ∧
    ((s.cwy.dupId = false) ∧ ((dst = s.cwy.myId)))) := by decide +kernel
theorem witness_CompleteKorricAndCauseway_13 : (let s : State := { serving0 with cwy := { serving0.cwy with unit := .on } };
    let dst : Nat := 0; let sub : Nat := 2; (s.cwy.unit = .on) ∧ ((s.cwy.dupId = false) ∧ ((dst = s.cwy.myId) ∧
    ((sub = 1 ∨ sub = 2 ∨ sub = 3))))) ∧ (let s : State := { serving0 with cwy := { serving0.cwy with unit := .on } };
    let dst : Nat := 0; (s.cwy.unit = .on) ∧ ((s.cwy.dupId = false) ∧ ((dst = s.cwy.myId)))) ∧
    (let s : State := { ({ up .service with cwy := { unit := .on, myId := 3, isHead := true, history := [5, 7], ringUp := true, claiming := true } } : State) with cwy := { ({ up .service with cwy := { unit := .on, myId := 3, isHead := true, history := [5, 7], ringUp := true, claiming := true } } : State).cwy with rollEn := true }, nrg := { ({ up .service with cwy := { unit := .on, myId := 3, isHead := true, history := [5, 7], ringUp := true, claiming := true } } : State).nrg with quagOk := true } };
    let dst : Nat := 3; (s.cwy.unit = .on) ∧ ((s.cwy.dupId = false) ∧ ((dst = s.cwy.myId) ∧ ((s.cwy.rollEn = true) ∧
    ((s.nrg.quagOk = true) ∧ ((s.spn.mode ≠ .dump))))))) := by decide +kernel

theorem witness_CompleteCipherFlashTrustAndPower_0 : (let s : State := serving0; let addr : Nat := 0x300000; let width : Nat := 8;
    (s.pwr.corePg = true) ∧ ((0x300000 ≤ addr) ∧ ((addr < 0x400000) ∧ ((accessOk addr width = true))))) ∧
    (let s : State := serving0; let addr : Nat := 0x300000; let width : Nat := 8; (s.pwr.corePg = true) ∧ ((0x300000 ≤ addr) ∧
    ((addr < 0x400000) ∧ ((accessOk addr width = true))))) ∧
    (let s : State := { ({ up .service with cwy := { unit := .on, myId := 3, isHead := true, history := [5, 7], ringUp := true, claiming := true } } : State) with cwy := { ({ up .service with cwy := { unit := .on, myId := 3, isHead := true, history := [5, 7], ringUp := true, claiming := true } } : State).cwy with winAsks := [⟨.bar0, 5, 0x28, 0x300028, 8, 9, false⟩] } };
    let tag : Nat := 9; let a : WinAsk := ⟨.bar0, 5, 0x28, 0x300028, 8, 9, false⟩;
    (s.cwy.winAsks.find? (fun x => x.tag = tag) = some a)) := by decide +kernel
theorem witness_CompleteCipherFlashTrustAndPower_1 : (let s : State := serving0; let path : Path := .bar0;
    let v : Nat := ownerId .bar0; (cipFrozen s = false) ∧ ((ownerId path ≠ 0) ∧ ((s.cip.owner = 0) ∧ ((v = ownerId path))))) ∧
    (let s : State := { serving0 with cip := { serving0.cip with owner := ownerId .bar0 } }; let path : Path := .bar0;
    (cipFrozen s = false) ∧ ((ownerId path ≠ 0) ∧ ((s.cip.owner = ownerId path)))) ∧
    (let s : State := { serving0 with cip := { serving0.cip with owner := ownerId .bar0 } }; let path : Path := .bar0;
    let k : Nat := 11; (cipFrozen s = false) ∧ ((k < 12) ∧ ((holdsClasp s path = true)))) := by decide +kernel
theorem witness_CompleteCipherFlashTrustAndPower_2 : (let s : State := keyed48; let path : Path := .firmware;
    (commonRefusal s path s.cip.slotSel true = none) ∧ ((loadRefusal s s.cip.slotSel = none))) ∧
    (let s : State := { keyed48 with wrp := { keyed48.wrp with regions := keyed48.wrp.regions.modify 1 (fun x => { x with entry := { x.entry with key := .derived } }) }, cip := { keyed48.cip with slots := keyed48.cip.slots.modify 256 (fun k => { k with st := .on }) } };
    let path : Path := .firmware; let root : Nat := 0; (holdsClasp s path = true) ∧ ((cipFrozen s = false) ∧
    (let u : State := { s with cip := { s.cip with cmdRoot := root % 8 } }; (commonRefusal u path u.cip.slotSel true = none) ∧
    ((deriveRefusal u u.cip.slotSel (root % 8) = none))))) ∧
    (let s : State := { serving0 with wrp := {}, cip := { serving0.cip with owner := ownerId .bar0 } }; let path : Path := .bar0;
    let u : State := modSlot 0 (fun k => { k with result := 0 }) { serving0 with wrp := {}, cip := { serving0.cip with owner := ownerId .bar0 } };
    (commonRefusal s path s.cip.slotSel false = none) ∧ ((256 ≤ s.cip.slotSel ∨ slotRegionOff s s.cip.slotSel = true) ∧
    ((modSlot s.cip.slotSel (fun k => { k with result := 0 }) s = u)))) := by decide +kernel
theorem witness_CompleteCipherFlashTrustAndPower_3 : (let s : State := { serving0 with cip := { serving0.cip with owner := ownerId .bar0 } };
    let path : Path := .bar0; (holdsClasp s path = true) ∧ ((s.spn.mode ≠ .dump))) ∧
    (let s : State := { keyed48 with cip := { keyed48.cip with cores := [some ⟨.rekey, .service, 1, 0, 0⟩, none, none, none, none, none, none, none], slots := keyed48.cip.slots.modify 1 (fun k => { k with st := .starting, stage := some (.native []) }) } };
    let slot : Nat := 1; let c : Nat := 0; (coreOf s (fun o => o.kind = .rekey && o.slot = slot) = some c) ∧
    (((slotOf (cipFinish c s) slot).st = .starting) ∧ (((slotOf (cipFinish c s) slot).binding = none) ∧
    (((slotOf (cipFinish c s) slot).stage.isSome = true))))) ∧
    (let s : State := { serving0 with cip := { serving0.cip with cores := some ⟨.encrypt, .save, 0, 0, 0⟩ :: serving0.cip.cores.drop 1 } };
    let core : Nat := 0; let o : CipOp := ⟨.encrypt, .save, 0, 0, 0⟩; (s.cip.cores.getD core none = some o) ∧
    ((o.kind = .decrypt ∨ o.kind = .encrypt))) := by decide +kernel
theorem witness_CompleteCipherFlashTrustAndPower_4 : (let s : State := serving0; let core : Nat := 7; (core < 8) ∧
    ((s.cip.coresOk.testBit core = true) ∧ ((s.cip.cores.getD core none = none)))) ∧ (let s : State := keyed48; let src : Nat := 3;
    (s.pwr.corePg = true) ∧ ((alarmEnabled s src = true))) ∧
    (let s : State := { serving0 with cip := { serving0.cip with alarmLatch := true } }; let cool : Bool := true;
    (s.pwr.corePg = true) ∧ ((s.cip.alarmLatch = true) ∧ ((alarmHolds cool s = false)))) := by decide +kernel
theorem witness_CompleteCipherFlashTrustAndPower_5 : (let s : State := carved51; let reqs : List AllocReq := [];
    let t : State × List AllocReq := allocFirst [] carved51; (s.tsk.unit ≠ .off) ∧
    ((allocFirst (reqs.mergeSort (fun a b => allocRank a ≤ allocRank b)) s = t))) ∧
    (let s : State := { carved51 with tsk := { carved51.tsk with descs := [(0, ⟨1, 1, 5, 2048⟩)] } }; let by_ : Nat := 11;
    let dest : Nat := 3; let pointer : Nat := 0; let u : State := (if (ptrPool s pointer).isSome then descCheck pointer s else s);
    (pointerCause u by_ pointer false = none) ∧ ((dest < 12) ∧ (((descOf u pointer).holders.testBit dest = false)))) ∧
    (let s : State := { carved51 with tsk := { carved51.tsk with descs := [(0, ⟨1, 1, 5, 2048⟩)] } }; let requester : Nat := 11;
    let pointer : Nat := 0; let u : State := (if (ptrPool s pointer).isSome then descCheck pointer s else s);
    (pointerCause u requester pointer true = none)) := by decide +kernel
theorem witness_CompleteCipherFlashTrustAndPower_6 : (let s : State := carved46 {}; let q : Nat := 0; let c : Carving := {};
    (s.tsk.next = some c) ∧ ((s.tsk.slices.getD q .off = .stopping) ∧
    ((s.tsk.descs.any (fun e => e.1 / 2 ^ 22 = q && e.2.dstate = 1) = false)))) ∧ (let s : State := serving0;
    let off : Nat := 0x7FFFF8; (off % 8 = 0) ∧ ((off < 0x800000))) ∧ (let s : State := serving0; let off : Nat := 0x7FFFF8;
    (off % 8 = 0) ∧ ((off < 0x800000))) := by decide +kernel
theorem witness_CompleteCipherFlashTrustAndPower_7 : (let bank : Nat := 0; (bank % 2 = 0)) ∧
    (let s : State := { serving0 with ifc := { serving0.ifc with bank0 := { seqStep := 2 } } }; let bank : Nat := 0;
    ((bankOf s (bank % 2)).seqStep ≠ 0)) ∧
    (let s : State := { serving0 with ifc := { serving0.ifc with bank0 := { busy := true, running := some (.program 8 5) } } };
    let bank : Nat := 0; let o : FlashOp := .program 8 5; ((bankOf s (bank % 2)).running = some o)) := by decide +kernel
theorem witness_CompleteCipherFlashTrustAndPower_8 : (let s : State := keyed; let type : Nat := 1; let bank : Nat := 0;
    let sector : Nat := 0; let aux : Nat := 0;
    let u : State := journalAppend 1 0 0 0 { keyed with ifc := { keyed.ifc with jType := 1, jBank := 0, jSector := 0, jAux := 0 } };
    (s.nrg.quagOk = true) ∧ ((type % 4 = 1 ∨ type % 4 = 3) ∧
    ((journalAppend (type % 4) (bank % 2) (sector % 1024) (if type % 4 = 3 then aux % 1024 else 0) { s with ifc := { s.ifc with jType := type % 4, jBank := bank % 2, jSector := sector % 1024, jAux := aux % 1024 } } = u)))) ∧
    (let s : State := folded0; let id : Nat := 0x0203; let f : FoldEntry := (folded0.evr.folds.headD ⟨0, 0, 0, none⟩);
    (s.evr.folds.find? (fun f => f.id = id) = some f)) ∧ (let s : State := up .boot; let reg : Nat := 2; let i : Nat := reg % 8;
    (i ≠ 7) ∧ ((stageWrites s.sig.stage i = true))) := by decide +kernel
theorem witness_CompleteCipherFlashTrustAndPower_9 : (let s : State := { serving0 with sig := { serving0.sig with stage := 0 } };
    (s.sig.stage = 0)) ∧ (let s : State := { serving0 with sig := { serving0.sig with stage := 1 } }; (s.sig.stage = 1)) ∧
    (let s : State := { up .service with nrg := { quagOk := true } }; let path : Path := .bar0; (path ≠ .firmware) ∧
    ((path ≠ .array) ∧ ((s.spn.mode = .service) ∧ ((s.nrg.quagOk = true))))) := by decide +kernel
theorem witness_CompleteCipherFlashTrustAndPower_10 : (let s : State := serving0; (fwRuns s = true)) ∧
    (let s : State := { serving0 with pwr := { serving0.pwr with pstate := 2, on := 0x3FFF } }; let d : Nat := 6;
    (s.pwr.entry = 0) ∧ ((domainIdle s d = true) ∧ ((6 ≤ d) ∧ ((d < 10) ∧ ((s.spn.quadEn.testBit (d - 6) = true) ∧
    ((s.pwr.pstate = 2) ∧ ((memBusy s (d - 6) = false)))))))) ∧
    (let s : State := { serving0 with pwr := { serving0.pwr with down := 2 ^ 10 } }; let kind : Nat := 10; let d : Nat := 10;
    (serving s = true) ∧ ((domainStopped s d = true) ∧ ((1 ≤ kind) ∧ ((kind ≤ 10))))) := by decide +kernel
theorem witness_CompleteCipherFlashTrustAndPower_11 : (let s : State := { serving0 with pwr := { serving0.pwr with waking := 2 } };
    let d : Nat := 1; let us : Nat := 0; (s.pwr.waking.testBit d = true) ∧ ((us ≤ s.pwr.stallUs))) ∧
    (let s : State := { serving0 with pwr := { serving0.pwr with waking := 2 } }; let d : Nat := 1;
    let u : State := raise 0x100A 0x04 [(1, 1)] { serving0 with pwr := { serving0.pwr with waking := clearBit 2 1, failed := setBit serving0.pwr.failed 1 } };
    (s.pwr.waking.testBit d = true) ∧
    ((raise 0x100A 0x04 [(1, d)] { s with pwr := { s.pwr with waking := clearBit s.pwr.waking d, failed := setBit s.pwr.failed d } } = u))) ∧
    (let s : State := { serving0 with pwr := { serving0.pwr with entry := 1, entryStep := 6 } };
    let refusals : List (Nat × Nat) := []; (s.pwr.entry = 1) ∧
    ((lowestRefusal (p2Refusals s s.pwr.entryStep ++ refusals.filter (blockRefusal s s.pwr.entryStep)) = none) ∧
    ((stepBusy s s.pwr.entryStep = false)))) := by decide +kernel
theorem witness_CompleteCipherFlashTrustAndPower_12 : (let s : State := { serving0 with pwr := { serving0.pwr with entry := 1, entryStep := 1 } };
    let unit : Nat := 0x02; (s.pwr.entry = 1) ∧ ((blockOf s s.pwr.entryStep unit = true))) ∧ (let s : State := up .service;
    let p : FilterPin := .pfailOd; let level : Bool := false; (s.pwr.aonUp = true) ∧ (((filterOf p s).st = .idle) ∧
    ((assertedLevel p level = true) ∧ ((pinUsed p s = true))))) ∧
    (let s : State := { up .service with pwr := { aonUp := true, odFilter := { st := .qualify, level := false } } };
    let p : FilterPin := .pfailOd; (s.pwr.aonUp = true) ∧ (((filterOf p s).st = .qualify) ∧
    ((assertedLevel p (filterOf p s).level = true)))) := by decide +kernel
theorem witness_CompleteCipherFlashTrustAndPower_13 : (let s : State := { up .service with pwr := { aonUp := true, odFilter := { st := .asserted, level := true } } };
    let p : FilterPin := .pfailOd; (s.pwr.aonUp = true) ∧ (((filterOf p s).st = .asserted) ∧
    ((assertedLevel p (filterOf p s).level = false)))) ∧ (let s : State := up .service; let rail : Rail := .mem;
    (s.pwr.aonUp = true) ∧ ((s.pwr.corePg = true) ∧ ((coreRail rail = false)))) ∧ (let s : State := up .service;
    let rail : Rail := .core; (s.pwr.aonUp = true) ∧ ((s.pwr.corePg = true) ∧ ((coreRail rail = true)))) := by decide +kernel

theorem witness_CompletePowerOnDumpAndGauge_0 : (let s : State := { State.reset with pwr := { State.reset.pwr with aonUp := true, poweredDown := true } };
    (s.pwr.aonUp = true) ∧ ((s.pwr.poweredDown = true))) ∧ (let s : State := serving0; let k : Nat := 8; let out : Bool := true;
    (s.pwr.corePg = true) ∧ ((k < 9) ∧ ((s.pwr.tempOut.testBit k ≠ out)))) ∧ (let s : State := serving0;
    (s.pwr.corePg = true)) := by decide +kernel
theorem witness_CompletePowerOnDumpAndGauge_1 : (let s : State := { serving0 with qdc := serving0.qdc.map (fun d => { d with state := 2 }), pwr := { serving0.pwr with pstate := 0 } };
    let q : Nat := 0; (patrolRuns s q = true) ∧ (let cl : Nat := (qdcOf s q).patrolLine; let g : Nat := granuleAt s q (cl / 256);
    let u : State := patrolNext q (if armedFor s q 2 then planted q 2 s else s); (g < hdmGranules s))) ∧ (let s : State := serving0;
    let q : Nat := 0; (s.pwr.corePg = true) ∧ ((s.spn.quadEn.testBit q = true) ∧ ((domainStopped s (dQeng q) = false)))) ∧
    (let s : State := up .test; let q : Nat := 3; (modeIn [.boot, .test] s = true) ∧ ((s.pwr.corePg = true) ∧ ((q < 4) ∧
    (((qdcOf s q).setChip ≤ 9) ∧ (((qdcOf s q).marks.any (fun e => e.1 = (qdcOf s q).setSlot) = false)))))) := by decide +kernel
theorem witness_CompletePowerOnDumpAndGauge_2 : (let s : State := { serving0 with spn := { serving0.spn with mode := .test }, qdc := serving0.qdc.map (fun d => { d with target := 5 }) };
    let q : Nat := 0; (s.spn.mode = .test) ∧ ((s.spn.quadEn.testBit q = true) ∧ ((1 ≤ (qdcOf s q).target) ∧
    (((qdcOf s q).target ≤ 5))))) ∧
    (let s : State := { serving0 with spn := { serving0.spn with mode := .test }, qdc := serving0.qdc.map (fun d => { d with target := 8 }) };
    let q : Nat := 0; (s.spn.mode = .test) ∧ ((s.spn.quadEn.testBit q = true) ∧ ((6 ≤ (qdcOf s q).target) ∧
    (((qdcOf s q).target ≤ 8))))) ∧ (let s : State := { serving0 with vlt := { serving0.vlt with erasing := [0] } };
    let n : Nat := 0; (s.vlt.erasing.contains n = true)) := by decide +kernel
theorem witness_CompletePowerOnDumpAndGauge_3 : (let s : State := { serving0 with vlt := { serving0.vlt with erasing := [0] } };
    let n : Nat := 0; let failed : List Nat := [0]; (s.vlt.erasing.contains n = true) ∧
    (let bad : List Nat := (failed.filter (fun v => vpaSeg v = n)).map blockVpa; (bad ≠ []))) ∧
    (let s : State := fetched0 .shadowed; let v : Nat := 7; let ones : Nat := 0; let words : List Nat := [];
    ((pageAt s v).isSome = true) ∧ ((serving s = true) ∧ ((readsErased s ones = false) ∧ ((correctionLoad s words < 6000))))) ∧
    (let s : State := serving0; let q : Nat := 0; (s.pwr.corePg = true) ∧ ((s.spn.quadEn.testBit q = true))) := by decide +kernel
theorem witness_CompletePowerOnDumpAndGauge_4 : (let s : State := State.reset; (s.pwr.aonUp = false)) ∧
    (let s : State := { State.reset with pwr := { State.reset.pwr with aonUp := true, coreEn := true } }; (s.pwr.coreEn = true) ∧
    ((s.pwr.corePg = false) ∧ ((s.pwr.railReset = false)))) ∧
    (let s : State := { State.reset with pwr := { State.reset.pwr with aonUp := true, coreEn := true, railReset := true } };
    (s.pwr.coreEn = true) ∧ ((s.pwr.corePg = false) ∧ ((s.pwr.railReset = true)))) := by decide +kernel
theorem witness_CompletePowerOnDumpAndGauge_5 : (let s : State := { State.reset with pwr := { State.reset.pwr with aonUp := true, coreEn := true } };
    (s.pwr.coreEn = true) ∧ ((s.pwr.corePg = false) ∧ ((s.pwr.railReset = false)))) ∧
    (let s : State := { State.reset with pwr := { State.reset.pwr with aonUp := true, retryWait := true } };
    (s.pwr.retryWait = true)) ∧ (let s : State := { up .boot with pwr := { (up .boot).pwr with lastKind := 1 } };
    (s.pwr.corePg = true) ∧ ((s.spn.clockDegraded = false) ∧ ((s.pwr.lastKind = 1) ∧ ((s.spn.mode = .boot) ∧
    ((s.img.bootStep = 0)))))) := by decide +kernel
theorem witness_CompletePowerOnDumpAndGauge_6 : (let s : State := serving0; (s.pwr.aonUp = true) ∧ ((s.pwr.rtcDegraded = false))) ∧
    (let s : State := { up .boot with img := { (up .boot).img with bootStep := 13 }, cip := { (up .boot).cip with armed := true } };
    (s.spn.mode = .boot) ∧ ((s.img.bootStep = 13) ∧ ((s.cip.armed = true ∨ s.cip.exhausted = true)))) ∧ (let s : State := serving0;
    (s.hlk.linkUp = true)) := by decide +kernel
theorem witness_CompletePowerOnDumpAndGauge_7 : (let s : State := serving0; (s.hlk.perst = false) ∧ ((s.pwr.corePg = true) ∧
    ((modeIn [.restore, .service, .dump, .parked] s = true)))) ∧ (let s : State := up .recovery; (s.hlk.perst = false) ∧
    ((s.pwr.corePg = true) ∧ ((modeIn [.boot, .recovery, .test] s = true)))) ∧ (let s : State := serving0;
    (s.hlk.presented = true)) := by decide +kernel
theorem witness_CompletePowerOnDumpAndGauge_8 : (let s : State := serving0; (s.hlk.linkUp = true)) ∧ (let s : State := serving0;
    (s.hlk.linkUp = true)) ∧
    (let s : State := { serving0 with cwy := { serving0.cwy with array := some ⟨.primary, 1, [], [], [], 0⟩ } };
    (s.cwy.array.any (fun a => a.sub = 1) = true)) := by decide +kernel
theorem witness_CompletePowerOnDumpAndGauge_9 : (let s : State := serving0; (serving s = true) ∧ ((s.spn.mode ≠ .dump))) ∧
    (let s : State := serving0; (serving s = true) ∧ ((s.spn.mode ≠ .dump))) ∧
    (let s : State := { serving0 with wrp := { serving0.wrp with inbox := some ⟨1000000, 25, 14000, 3200, 100, false, false, false⟩ } };
    let i : InputSet := ⟨1000000, 25, 14000, 3200, 100, false, false, false⟩; (s.wrp.inbox = some i)) := by decide +kernel
theorem witness_CompletePowerOnDumpAndGauge_10 : (let s : State := serving0; (s.spn.mode ≠ .dump)) ∧ (let s : State := watch0 .good;
    (s.nrg.input = .good)) ∧ (let s : State := watch0 .qualify; (s.nrg.input = .qualify)) := by decide +kernel
theorem witness_CompletePowerOnDumpAndGauge_11 : (let s : State := watch0 .qualify; (s.nrg.input = .qualify)) ∧
    (let s : State := watch0 .settle; (s.nrg.input = .settle)) ∧ (let s : State := watch0 .settle;
    (s.nrg.input = .settle)) := by decide +kernel
theorem witness_CompletePowerOnDumpAndGauge_12 : (let s : State := watch0 .ride; (s.nrg.input = .ride)) ∧
    (let s : State := watch0 .ride; (s.nrg.input = .ride)) ∧ (let s : State := watch0 .ride; (s.nrg.input = .ride) ∧
    ((eUsable s ≤ eNeed s))) := by decide +kernel
theorem witness_CompletePowerOnDumpAndGauge_13 : (let s : State := { up .test with nrg := { (up .test).nrg with input := .good, storePresent := true }, wrp := { (up .test).wrp with b := 5 } };
    (s.spn.mode = .test) ∧ ((dumpUnmet s = 0))) ∧ (let s : State := dumping47 1; (s.spn.mode = .dump) ∧ ((s.dmp.phase = 1))) ∧
    (let s : State := { serving0 with dmp := { serving0.dmp with preflush := true } }; (s.dmp.preflush = true) ∧
    ((filterHolds s.pwr.warnFilter = false) ∧ ((filterHolds s.pwr.odFilter = false)))) := by decide +kernel
theorem witness_CompletePowerOnDumpAndGauge_14 : (let s : State := serving0; (s.nrg.hibernate = false)) ∧ (let s : State := gauge0;
    let u : State := refreshEstimates s; (u.nrg.storePresent = true) ∧ ((u.nrg.cells ≠ 0))) ∧ (let s : State := gauge0;
    True) := by decide +kernel
theorem witness_CompletePowerOnDumpAndGauge_15 : (let s : State := serving0; (s.nrg.hibernate = false) ∧
    ((s.nrg.holdupEn = false))) ∧ (let s : State := serving0; (quagConditions s = true)) ∧ (let s : State := ready0;
    (learnDue s = true) ∧ ((retryDue s = true) ∧ ((learning s = false) ∧ ((learnConditions s = true))))) := by decide +kernel
theorem witness_CompletePowerOnDumpAndGauge_16 : (let s : State := { up .service with img := { (up .service).img with liveState := 1, liveOp := 1 } };
    (s.img.liveState = 1) ∧ ((s.img.liveOp = 1))) := by decide +kernel

theorem witness_CompleteTimersAndResets_0 : (let s : State := ready0; let u : State := gaugeWake ready0; (gaugeWake s = u) ∧
    ((learning u = false) ∧ ((u.spn.mode = .service)))) ∧
    (let s : State := { cycle0 .waitBudget with gst := { (cycle0 .waitBudget).gst with rsv := [5] } };
    (s.nrg.lstate = .waitBudget) ∧ ((s.wrp.b < dCount s))) ∧ (let s : State := cycle0 .running;
    (s.nrg.lstate = .running)) := by decide +kernel
theorem witness_CompleteTimersAndResets_1 : (let s : State := cycle0 .waitFull; (s.nrg.lstate = .waitFull)) ∧
    (let s : State := { serving0 with shd := { serving0.shd with balance := 0, rate := 1 } };
    let u : State := budgetTick { s with qdc := s.qdc.map (fun d => { d with ueRecent := 0 }) };
    let x : Int := min ((wearBurst u * 1073741824 : Nat) : Int) (u.shd.balance + ((u.shd.rate / 1000 : Nat) : Int));
    (-((u.shd.rate * 86400 : Nat) : Int) < x)) ∧ (let s : State := { serving0 with vlt := { serving0.vlt with mapValid := true } };
    (s.vlt.mapValid = true)) := by decide +kernel
theorem witness_CompleteTimersAndResets_2 : (let s : State := serving0; (s.spn.mode ≠ .dump) ∧ ((s.spn.mode ≠ .parked) ∧
    ((s.pwr.corePg = true)))) ∧ (let s : State := linked40 .mirrored; (s.kor.unitOn = true) ∧ ((s.kor.trained = true))) ∧
    (let s : State := linked40 .mirrored;
    (s.kor.held.any (fun sl => mirrorBlock s (granuleOf sl.line) = 1) = false)) := by decide +kernel
theorem witness_CompleteTimersAndResets_3 : (let s : State := linked40 .solo; (s.kor.unitOn = true) ∧ ((s.kor.state = .solo))) ∧
    (let s : State := paired39 .training; (s.kor.unitOn = true) ∧ ((s.kor.state = .training) ∧ ((s.kor.up = false) ∧
    ((s.cwy.asking = none))))) ∧ (let s : State := paired39 .training; (s.kor.unitOn = true) ∧ ((s.kor.state = .training) ∧
    ((s.kor.up = false) ∧ ((s.cwy.asking = none))))) := by decide +kernel
theorem witness_CompleteTimersAndResets_4 : (let s : State := paired39 .training; (s.spn.mode ≠ .dump) ∧
    ((s.kor.state = .training))) ∧ (let s : State := linked40 .mirrored; (s.kor.state = .mirrored ∨ s.kor.state = .resync)) ∧
    (let s : State := linked40 .solo; (s.kor.state = .solo)) := by decide +kernel
theorem witness_CompleteTimersAndResets_5 : (let s : State := { serving0 with cwy := { serving0.cwy with unit := .on, isHead := true } };
    (s.cwy.unit = .on) ∧ ((s.cwy.isHead = true) ∧ ((s.cwy.dupId = false)))) ∧ (let s : State := serving0; (s.cwy.ringUp = false)) ∧
    (let s : State := { serving0 with cwy := { serving0.cwy with unit := .on, ringUp := true } }; (s.cwy.unit = .on) ∧
    ((s.cwy.ringUp = true))) := by decide +kernel
theorem witness_CompleteTimersAndResets_6 : (let s : State := { serving0 with cwy := { serving0.cwy with unit := .on } };
    (s.cwy.unit = .on)) ∧ (let s : State := { serving0 with cip := { serving0.cip with owner := 2 } }; (s.cip.owner ≠ 0)) ∧
    (let s : State := serving0; (cipFrozen s = false) ∧ ((s.cip.slotSel < 256) ∧ ((s.cip.exhausted = false) ∧
    ((unusedRsv (slotOf s s.cip.slotSel) < 2 ^ 23))))) := by decide +kernel
theorem witness_CompleteTimersAndResets_7 : (let s : State := serving0; (cipFrozen s = false)) ∧
    (let s : State := { serving0 with raised := [⟨0x0203, 1, []⟩] }; let e : Event := ⟨0x0203, 1, []⟩; let r : List Event := [];
    (s.raised = e :: r)) ∧ (let s : State := serving0; (s.pwr.poweredDown = false)) := by decide +kernel
theorem witness_CompleteTimersAndResets_8 : (let s : State := serving0; (s.pwr.poweredDown = false)) ∧ (let s : State := up .parked;
    (s.pwr.corePg = true) ∧ ((s.spn.mode = .parked))) ∧ (let s : State := up .recovery; (s.pwr.corePg = true) ∧
    ((s.spn.mode = .recovery))) := by decide +kernel
theorem witness_CompleteTimersAndResets_9 : (let s : State := serving0; (fwRuns s = true) ∧ ((s.spn.mode ≠ .dump))) ∧
    (let s : State := { serving0 with pwr := { serving0.pwr with wdtMs := 1 } }; (fwRuns s = true) ∧ ((s.pwr.wdtMs ≠ 0))) ∧
    (let s : State := { up .parked with pwr := { (up .parked).pwr with vaultEmpty := true } }; (s.pwr.corePg = true) ∧
    ((s.spn.mode = .parked) ∧ ((s.pwr.vaultEmpty = true)))) := by decide +kernel
theorem witness_CompleteTimersAndResets_10 : (let s : State := dumping47 1; (s.spn.mode = .dump) ∧ ((s.dmp.phase < 7) ∧
    ((s.dmp.inputGood = false)))) ∧ (let s : State := serving0; (s.pwr.aonUp = true)) ∧
    (let s : State := { serving0 with kor := { serving0.kor with takeover := some ⟨.primary, false, 2, 1⟩ }, aos := { serving0.aos with pair := some ⟨1, [], 0⟩ } };
    let t : TakeoverCmd := ⟨.primary, false, 2, 1⟩; (s.kor.takeover = some t) ∧ ((t.wait = 2) ∧ ((s.nrg.quagOk = false) ∧
    ((s.aos.pair.isSome = true))))) := by decide +kernel

end Sys2Proof.Tests
end

section
/-!
PROOFS. The role table and the messages of the crossbar (R27 to R32, R44, R45): rules of the role table and of the operations on
crossbar messages, one equation for each case of MESSAGE_ARRIVAL, STALE_ROLE and ROLE_DATA_WRITE, and the statements of chapter 01.
-/

namespace Sys2Proof.Machine

/-! ### The role table of R27 -/

theorem roleTable_length (quadEn : Nat) : (roleTable quadEn).length = 48 := by simp [roleTable]

/-- Every entry starts at generation 1. -/
theorem gen_of_mem_roleTable {quadEn : Nat} {e : RoleEntry} (he : e ∈ roleTable quadEn) : e.gen = 1 := by
  obtain ⟨u, -, rfl⟩ := List.mem_map.1 he
  split
  · rfl
  · dsimp only
    split <;> rfl

/-- A spine unit covers all enabled quadrants. -/
theorem roleTable_cover_spine {quadEn u : Nat} (hu : u < 16) (d : RoleEntry) : ((roleTable quadEn).getD u d).cover = quadEn := by
  have h48 : u < 48 := by omega
  simp [roleTable, List.getD_eq_getElem?_getD, h48, hu]

/-- A quadrant unit covers its own quadrant, whether that is enabled or not. -/
theorem roleTable_cover_quadrant {quadEn u : Nat} (h16 : 16 ≤ u) (h48 : u < 48) (d : RoleEntry) :
    ((roleTable quadEn).getD u d).cover = 2 ^ ((u - 16) / 8) := by
  simp only [roleTable, List.getD_eq_getElem?_getD, List.getElem?_map, List.getElem?_range h48, Option.map_some, Option.getD_some,
    if_neg (Nat.not_lt.2 h16)]
  split <;> rfl

/-! ### A role change (R28, R32) -/

/-- Writing an entry's own values is no change (R45). -/
theorem changeRole_of_same {u func cover : Nat} {st : UnitState} {s : State} (hf : (roleOf s u).func = func)
    (hc : (roleOf s u).cover = cover) (hs : (roleOf s u).state = st) : changeRole u func cover st s = s :=
  if_pos ⟨hf, hc, hs⟩

/-- The generation that follows `g` (R28). -/
def nextGen (g : Nat) : Nat := if g = 0xFFFF then 1 else g + 1

/-- The entry of unit `u` after a change. -/
def changedEntry (u func cover : Nat) (st : UnitState) (s : State) : RoleEntry := ⟨func, cover, nextGen (roleOf s u).gen, st⟩

/-- A change of function or coverage is written, counted and logged. -/
theorem changeRole_of_changed {u func cover : Nat} {st : UnitState} {s : State}
    (h : (roleOf s u).func ≠ func ∨ (roleOf s u).cover ≠ cover) :
    changeRole u func cover st s =
      raise 0x1203 0x00 ([(1, u)] ++ roleFields (roleOf s u) ++ roleFields (changedEntry u func cover st s))
        { s with spn := { s.spn with
          roles := s.spn.roles.set u (changedEntry u func cover st s), roleChanges := satAdd 16 s.spn.roleChanges 1 } } :=
  if_neg fun ⟨hf, hc, _⟩ => h.elim (fun hn => hn hf) (fun hn => hn hc)

/-- A unit's entry after entry `u` of the table was written. -/
theorem roleOf_of_set {s t : State} {u : Nat} {e : RoleEntry} (ht : t.spn.roles = s.spn.roles.set u e)
    (hu : u < s.spn.roles.length) (v : Nat) : roleOf t v = if v = u then e else roleOf s v := by
  by_cases hv : v = u
  · subst hv
    simp [roleOf, ht, hu]
  · simp [roleOf, ht, hv, List.getElem?_set_ne (Ne.symm hv)]

/-! ### Operations on crossbar messages -/

/-- An update of the spine that leaves the device mode changes that unit alone. -/
theorem keeps_spn {s : State} {x : Spn} (hmode : x.mode = s.spn.mode) : Keeps 0x1 s { s with spn := x } :=
  (Keeps.refl _ s).direct (fun p hp => by cases p <;> simp_all [Part.bit, Part.same])

@[simp] theorem beatCount_raised (u : Nat) (two : Bool) (s : State) : (beatCount u two s).raised = s.raised :=
  (beatCount_keeps (m := 0x80000) u two (by decide) (Keeps.refl _ s)).raisedEq (by decide)

/-- What the crossbar stage of a quadrant unit counts of a beat with bad symbols (R601). -/
theorem beatCount_qdc {u : Nat} (hu : 16 ≤ u) (two : Bool) (s : State) :
    (beatCount u two s).qdc = s.qdc.modify ((u - 16) / 8) (fun d =>
      { d with sramUe := if two then satAdd 16 d.sramUe 1 else d.sramUe,
               sramCe := if two then d.sramCe else satAdd 32 d.sramCe 1 }) := by
  unfold beatCount
  rw [if_neg (Nat.not_lt.2 hu)]
  cases two <;> rfl

/-- The check of R29 reads the role table alone. -/
theorem roleMatches_of_spn {s t : State} (h : t.spn = s.spn) (m : XMsg) : roleMatches t m = roleMatches s m := by
  unfold roleMatches roleOf
  rw [h]

theorem roleMatches_iff {s : State} {m : XMsg} :
    roleMatches s m = true ↔ m.role = (roleOf s m.target).func ∧ m.gen = (roleOf s m.target).gen := by
  simp [roleMatches]

theorem roleMatches_eq_false_iff {s : State} {m : XMsg} :
    roleMatches s m = false ↔ m.role ≠ (roleOf s m.target).func ∨ m.gen ≠ (roleOf s m.target).gen := by
  rw [← Bool.not_eq_true, roleMatches_iff, not_and_or]

/-! ### MESSAGE_ARRIVAL (R19, R29, R30) -/

/-- The state once the symbols of an arriving beat are counted and, for two bad ones, logged (R19, R601). -/
def beatArrived (m : XMsg) (bad : Nat) (s : State) : State :=
  let counted := if bad = 0 then s else beatCount (if 16 ≤ m.target then m.target else m.source) (decide (2 ≤ bad)) s
  if 2 ≤ bad then raise 0x1101 m.target [(1, m.source), (1, m.target)] counted else counted

/-- One more bounce in `STALE_BOUNCES`, saturating. -/
def countStale (s : State) : State := { s with spn := { s.spn with staleBounces := satAdd 16 s.spn.staleBounces 1 } }

/-- A message bounces: STALE_ROLE to its sender, the bounce counted and logged (R30). -/
def staleAnswer (m : XMsg) (s : State) : State :=
  raise 0x1201 0x00 [(1, m.source), (1, m.target)] (send (.xbarStale m.source m.tag)
    (countStale (setBounces m (bounceCount s m + 1) s)))

theorem beatArrived_zero (m : XMsg) (s : State) : beatArrived m 0 s = s := rfl

/-- A beat with fewer than two bad symbols logs nothing. -/
theorem beatArrived_of_lt_two {m : XMsg} {bad : Nat} {s : State} (h : bad < 2) :
    beatArrived m bad s = if bad = 0 then s else beatCount (if 16 ≤ m.target then m.target else m.source) false s := by
  have h2 : ¬ 2 ≤ bad := Nat.not_le.2 h
  simp only [beatArrived, h2, if_false, decide_false]

/-- A beat with two bad symbols is counted as such and logs 0x1101. -/
theorem beatArrived_of_two_le {m : XMsg} {bad : Nat} {s : State} (h : 2 ≤ bad) :
    beatArrived m bad s = raise 0x1101 m.target [(1, m.source), (1, m.target)]
      (beatCount (if 16 ≤ m.target then m.target else m.source) true s) := by
  have h0 : bad ≠ 0 := by omega
  simp only [beatArrived, h, h0, if_true, if_false, decide_true]

theorem beatArrived_keeps (m : XMsg) (bad : Nat) (s : State) : Keeps 0x180000 s (beatArrived m bad s) := by
  have hcount (u : Nat) (two : Bool) : Keeps 0x180000 s (beatCount u two s) := beatCount_keeps u two (by decide) (Keeps.refl _ s)
  rcases Nat.lt_or_ge bad 2 with hbad | hbad
  · rw [beatArrived_of_lt_two hbad]
    exact .ite (Keeps.refl _ s) (hcount _ false)
  · rw [beatArrived_of_two_le hbad]
    exact raise_keeps _ _ _ (by decide) (hcount _ true)

@[simp] theorem beatArrived_spn (m : XMsg) (bad : Nat) (s : State) : (beatArrived m bad s).spn = s.spn :=
  (beatArrived_keeps m bad s).spnEq (by decide) (by decide)

@[simp] theorem beatArrived_out (m : XMsg) (bad : Nat) (s : State) : (beatArrived m bad s).out = s.out :=
  (beatArrived_keeps m bad s).outEq (by decide)

theorem countStale_keeps (s : State) : Keeps 0x1 s (countStale s) := keeps_spn rfl

@[simp] theorem staleAnswer_roles (m : XMsg) (s : State) : (staleAnswer m s).spn.roles = s.spn.roles := rfl
@[simp] theorem staleAnswer_staleBounces (m : XMsg) (s : State) :
    (staleAnswer m s).spn.staleBounces = satAdd 16 s.spn.staleBounces 1 := rfl
@[simp] theorem staleAnswer_raised (m : XMsg) (s : State) :
    (staleAnswer m s).raised = s.raised ++ [⟨0x1201, 0x00, [(1, m.source), (1, m.target)]⟩] := rfl
@[simp] theorem staleAnswer_out (m : XMsg) (s : State) : (staleAnswer m s).out = s.out ++ [.xbarStale m.source m.tag] := rfl

theorem staleAnswer_keeps (m : XMsg) (s : State) : Keeps 0x300001 s (staleAnswer m s) :=
  raise_keeps _ _ _ (by decide) (send_keeps _ (by decide)
    ((countStale_keeps _).step (by decide) (setBounces_keeps m _ (by decide) (Keeps.refl _ s))))

section Arrival

variable {s : State} {m : XMsg} (bad : Nat) (hcore : s.pwr.corePg = true) (htarget : m.target < 48) (hsource : m.source < 48)
include hcore htarget hsource

theorem exec_messageArrival : exec (.messageArrival m bad) s = .next (
    if roleMatches s m then send (.xbarAccept m (decide (2 ≤ bad))) (setBounces m 0 (beatArrived m bad s))
    else staleAnswer m (beatArrived m bad s)) := by
  rw [← roleMatches_of_spn (beatArrived_spn m bad s) m]
  have hport : ¬ ((!s.pwr.corePg) = true ∨ 48 ≤ m.target ∨ 48 ≤ m.source) := by
    rw [hcore]
    simp
    omega
  show Host.Outcome.next (if (!s.pwr.corePg) = true ∨ 48 ≤ m.target ∨ 48 ≤ m.source then s else _) = _
  rw [if_neg hport]
  rfl

/-- A header that agrees with the target's entry is accepted. -/
theorem messageArrival_accepts (hmatch : roleMatches s m = true) : exec (.messageArrival m bad) s =
    .next (send (.xbarAccept m (decide (2 ≤ bad))) (setBounces m 0 (beatArrived m bad s))) := by
  rw [exec_messageArrival bad hcore htarget hsource, if_pos hmatch]

/-- Any other bounces. -/
theorem messageArrival_bounces (hmatch : roleMatches s m = false) : exec (.messageArrival m bad) s =
    .next (staleAnswer m (beatArrived m bad s)) := by
  rw [exec_messageArrival bad hcore htarget hsource, if_neg (Bool.not_eq_true _ ▸ hmatch)]

end Arrival

/-! ### STALE_ROLE (R30, R31) -/

/-- The message as its sender sends it again, with the entry of the unit its role resolves to now. -/
def readdressed (s : State) (m : XMsg) : XMsg :=
  { m with target := resolveRole s m, role := (roleOf s (resolveRole s m)).func, gen := (roleOf s (resolveRole s m)).gen }

/-- One more message in `UNRESOLVED`, saturating. -/
def countUnresolved (s : State) : State := { s with spn := { s.spn with unresolved := satAdd 16 s.spn.unresolved 1 } }

/-- A message fails to its originator: ROLE_UNRESOLVED, counted and logged, and off the list of bounces. -/
def givenUp (m : XMsg) (s : State) : State :=
  setBounces m 0 (raise 0x1202 0x00 [(1, m.source), (1, m.target)] (send (.xbarUnresolved m.source m.tag) (countUnresolved s)))

theorem countUnresolved_keeps (s : State) : Keeps 0x1 s (countUnresolved s) := keeps_spn rfl

@[simp] theorem givenUp_roles (m : XMsg) (s : State) : (givenUp m s).spn.roles = s.spn.roles := rfl
@[simp] theorem givenUp_unresolved (m : XMsg) (s : State) : (givenUp m s).spn.unresolved = satAdd 16 s.spn.unresolved 1 := rfl
@[simp] theorem givenUp_raised (m : XMsg) (s : State) :
    (givenUp m s).raised = s.raised ++ [⟨0x1202, 0x00, [(1, m.source), (1, m.target)]⟩] := rfl
@[simp] theorem givenUp_out (m : XMsg) (s : State) : (givenUp m s).out = s.out ++ [.xbarUnresolved m.source m.tag] := rfl

theorem givenUp_keeps (m : XMsg) (s : State) : Keeps 0x300001 s (givenUp m s) :=
  setBounces_keeps m 0 (by decide) (raise_keeps _ _ _ (by decide) (send_keeps _ (by decide)
    ((countUnresolved_keeps s).mono (by decide))))

theorem staleRole_resends {s : State} {m : XMsg} (h1 : 1 ≤ bounceCount s m) (h3 : bounceCount s m < 3) :
    exec (.staleRole m) s = .next (send (.xbarResend (readdressed s m)) s) := by
  have h0 : bounceCount s m ≠ 0 := by omega
  show Host.Outcome.next (if bounceCount s m = 0 then s else if bounceCount s m < 3 then _ else _) = _
  rw [if_neg h0, if_pos h3]
  rfl

/-- The third bounce of a message that serves no dump: given up, and a host access sent once more. -/
theorem staleRole_givesUp {s : State} {m : XMsg} (h3 : 3 ≤ bounceCount s m) (hdump : m.forDump = false) :
    exec (.staleRole m) s =
      .next (if m.forHost then send (.xbarResend (readdressed s m)) (givenUp m s) else givenUp m s) := by
  have h0 : bounceCount s m ≠ 0 := by omega
  show execStaleRole m s = _
  simp [execStaleRole, readdressed, givenUp, countUnresolved, h0, Nat.not_lt.2 h3, hdump]

/-! ### ROLE_DATA_WRITE (R32, R44, R45) -/

theorem roleDataWrite_inTest {s : State} (func cover : Nat) (hcore : s.pwr.corePg = true) (htest : s.spn.mode = .test)
    (hidx : s.spn.roleIdx < 48) : exec (.roleDataWrite func cover) s =
      .next (changeRole s.spn.roleIdx (func % 64) (cover % 16) (roleOf s s.spn.roleIdx).state s) := by
  have hi : ¬ 0x2F < s.spn.roleIdx := by omega
  show execRoleDataWrite func cover s = _
  simp [execRoleDataWrite, hcore, htest, hi]

theorem roleDataWrite_inDump {s : State} (func cover : Nat) (hcore : s.pwr.corePg = true) (hdump : s.spn.mode = .dump) :
    exec (.roleDataWrite func cover) s = .next (raise 0x1006 0x00 [] s) := by
  show execRoleDataWrite func cover s = _
  simp [execRoleDataWrite, hcore, hdump, rejectInDump]

theorem roleDataWrite_ignored {s : State} (func cover : Nat) (hdump : s.spn.mode ≠ .dump) (htest : s.spn.mode ≠ .test) :
    exec (.roleDataWrite func cover) s = .next s := by
  show execRoleDataWrite func cover s = _
  simp [execRoleDataWrite, hdump, htest]

/-! ### The statements -/

/-- Settles O5: the fields by computation, the entries by the rules of R27's table (log 4, 15, 107). -/
theorem resetMeetsInvariants : Obligations.ResetMeetsInvariants := by
  refine ⟨tableWf_nil 0, rfl, rfl, rfl, rfl, rfl, rfl, rfl, rfl, roleTable_length 15, ?_, ?_, ?_⟩
  · exact fun e he => gen_of_mem_roleTable he
  · exact fun u hu => roleTable_cover_spine hu _
  · exact fun u h16 h48 => roleTable_cover_quadrant h16 h48 _

/-- A bounce answers STALE_ROLE, counts and logs it, and leaves the role table as it is (R30). -/
theorem messageArrival_bounce_effect {s : State} {m : XMsg} {bad : Nat} (hcore : s.pwr.corePg = true) (htarget : m.target < 48)
    (hsource : m.source < 48) (hbad : bad < 2) (hstale : roleMatches s m = false) :
    ∃ t, exec (.messageArrival m bad) s = .next t ∧ t.spn.staleBounces = satAdd 16 s.spn.staleBounces 1 ∧
      t.raised = s.raised ++ [⟨0x1201, 0x00, [(1, m.source), (1, m.target)]⟩] ∧ t.out = s.out ++ [.xbarStale m.source m.tag] ∧
      t.spn.roles = s.spn.roles ∧ OnlyIn [.spn, .qdc, .raised, .out] s t := by
  have hkeeps : Keeps 0x380001 s (staleAnswer m (beatArrived m bad s)) :=
    (staleAnswer_keeps m _).step (by decide) ((beatArrived_keeps m bad s).mono (by decide))
  have hraised : (beatArrived m bad s).raised = s.raised := by
    rw [beatArrived_of_lt_two hbad]
    split <;> simp
  exact ⟨_, messageArrival_bounces bad hcore htarget hsource hstale, by simp, by simp [hraised], by simp,
    by simp, fr hkeeps (by decide)⟩

/-- Two bad symbols: accepted as poisoned, or bounced as a clean header is, after the beat is counted and logged (R19). -/
theorem messageArrival_poisoned {s u : State} {m : XMsg} {bad : Nat} (hcore : s.pwr.corePg = true) (htarget : m.target < 48)
    (hsource : m.source < 48) (hbad : 2 ≤ bad) (hu : u = beatArrived m bad s) :
    (roleMatches s m = true → exec (.messageArrival m bad) s = .next (send (.xbarAccept m true) (setBounces m 0 u))) ∧
    (roleMatches s m = false → exec (.messageArrival m bad) s = exec (.messageArrival m 0) u) := by
  have hspn : u.spn = s.spn := by simp [hu]
  have hpwr : u.pwr = s.pwr := hu ▸ (beatArrived_keeps m bad s).pwrEq (by decide)
  refine ⟨fun hmatch => ?_, fun hstale => ?_⟩
  · rw [messageArrival_accepts bad hcore htarget hsource hmatch, decide_eq_true hbad, hu]
  · rw [messageArrival_bounces bad hcore htarget hsource hstale,
      messageArrival_bounces 0 (hpwr ▸ hcore) htarget hsource ((roleMatches_of_spn hspn m).trans hstale), beatArrived_zero, hu]

/-- A role change in TEST: the selected unit's entry, its count and event, and nothing else (R28, R32, R45). -/
theorem roleDataWrite_effect {s : State} {func cover : Nat} (hcore : s.pwr.corePg = true) (htest : s.spn.mode = .test)
    (hidx : s.spn.roleIdx < 48) (hlen : s.spn.roles.length = 48)
    (hnew : (roleOf s s.spn.roleIdx).func ≠ func % 64 ∨ (roleOf s s.spn.roleIdx).cover ≠ cover % 16) :
    ∃ t, exec (.roleDataWrite func cover) s = .next t ∧
      roleOf t s.spn.roleIdx =
        ⟨func % 64, cover % 16, nextGen (roleOf s s.spn.roleIdx).gen, (roleOf s s.spn.roleIdx).state⟩ ∧
      (∀ u, u ≠ s.spn.roleIdx → roleOf t u = roleOf s u) ∧ t.spn.roleChanges = satAdd 16 s.spn.roleChanges 1 ∧
      (t.raised.drop s.raised.length).map Event.id = [0x1203] ∧ OnlyIn [.spn, .raised] s t := by
  have hi : s.spn.roleIdx < s.spn.roles.length := hlen ▸ hidx
  have hframe := fr (changeRole_keeps s.spn.roleIdx (func % 64) (cover % 16) (roleOf s s.spn.roleIdx).state (m := 0x100001)
    (by decide) (Keeps.refl _ s)) (l := [.spn, .raised]) (by decide)
  refine ⟨_, roleDataWrite_inTest func cover hcore htest hidx, ?_, ?_, ?_, ?_, hframe⟩ <;> rw [changeRole_of_changed hnew]
  · rw [roleOf_of_set (by rfl) hi, if_pos rfl]
    rfl
  · intro u hu
    rw [roleOf_of_set (by rfl) hi, if_neg hu]
  · rfl
  · simp

/-- Settles O10: a clause for each case of the three commands (R19, R29 to R32, R44, R45; log 3, 100, 106, 121, 122). -/
theorem messagesFollowTheRoleTable : Obligations.MessagesFollowTheRoleTable := by
  refine ⟨?accepts, ?bounces, ?poisoned, ?counts, ?resends, ?givesUp, ?hostAccess, ?changes, ?same, ?inDump, ?ignored⟩
  case accepts =>
    intro s m bad hcore htarget hsource hbad hrole hgen
    rw [messageArrival_accepts bad hcore htarget hsource (roleMatches_iff.2 ⟨hrole, hgen⟩), decide_eq_false (Nat.not_le.2 hbad),
      beatArrived_of_lt_two hbad]
  case bounces =>
    intro s m bad hcore htarget hsource hbad hstale
    exact messageArrival_bounce_effect hcore htarget hsource hbad (roleMatches_eq_false_iff.2 hstale)
  case poisoned =>
    intro s u m bad hcore htarget hsource hbad hu
    exact messageArrival_poisoned hcore htarget hsource hbad (hu.trans (beatArrived_of_two_le hbad).symm)
  case counts => exact fun s u hu two => beatCount_qdc hu two s
  case resends => exact fun s m h1 h3 => staleRole_resends h1 h3
  case givesUp =>
    intro s m h3 hdump hhost
    exact ⟨givenUp m s, by rw [staleRole_givesUp h3 hdump, hhost]; rfl, givenUp_unresolved m s, givenUp_out m s,
      givenUp_raised m s, fr (givenUp_keeps m s) (by decide)⟩
  case hostAccess =>
    intro s m h3 hdump hhost
    have hkeeps : Keeps 0x300001 s (send (.xbarResend (readdressed s m)) (givenUp m s)) :=
      send_keeps _ (by decide) (givenUp_keeps m s)
    exact ⟨send (.xbarResend (readdressed s m)) (givenUp m s), by rw [staleRole_givesUp h3 hdump, hhost, if_pos rfl],
      givenUp_unresolved m s, givenUp_roles m s, by simp [readdressed], givenUp_raised m s, fr hkeeps (by decide)⟩
  case changes => exact fun s func cover hcore htest hidx hlen hnew => roleDataWrite_effect hcore htest hidx hlen hnew
  case same =>
    intro s func cover hcore htest hidx hfunc hcover
    rw [roleDataWrite_inTest func cover hcore htest hidx, changeRole_of_same hfunc hcover rfl]
  case inDump => exact fun s func cover hcore hdump => roleDataWrite_inDump func cover hcore hdump
  case ignored => exact fun s func cover hdump htest => roleDataWrite_ignored func cover hdump htest

end Sys2Proof.Machine
end

section
/-!
PROOFS. The Korric unit where a re-application ends (R101, R395, R401): what sends and start checks leave alone, a rejoin with nothing
to resend, and the entries of the regions, on which the digest rests.
-/

namespace Sys2Proof.Machine

/-- What every step of a run keeps, the run keeps. -/
theorem foldl_keeps_value {α β : Type} {φ : State → β} {f : State → α → State} (hf : ∀ t a, φ (f t a) = φ t) (l : List α)
    (s : State) : φ (l.foldl f s) = φ s := by
  induction l generalizing s with
  | nil => rfl
  | cons a l ih => exact (ih (f s a)).trans (hf s a)

/-- The Korric unit but for what sending flits, asking for starts and comparing digests write. -/
def pairView (k : Kor) : Kor :=
  { k with txSeq := 0, replay := [], txQueue := [], nakOut := false, opening := [], digestBad := false }

/-- A field that the view leaves alone is the same where the views are. -/
theorem eq_of_pairView {β : Type} {f : Kor → β} (hf : ∀ k, f (pairView k) = f k) {a b : Kor} (h : pairView a = pairView b) :
    f a = f b := by
  rw [← hf a, h, hf]

theorem sendFlit_pairView (b : FlitBody) (s : State) : pairView (sendFlit b s).kor = pairView s.kor := by
  unfold sendFlit
  split
  · rfl
  · split
    · rfl
    · split <;> rfl

theorem sendMsg_pairView (m : KMsg) (s : State) : pairView (sendMsg m s).kor = pairView s.kor := sendFlit_pairView _ s

theorem sendMsgs_pairView {α : Type} (m : State → α → KMsg) (l : List α) (s : State) :
    pairView (l.foldl (fun t a => sendMsg (m t a) t) s).kor = pairView s.kor :=
  foldl_keeps_value (φ := fun t => pairView t.kor) (fun t a => sendMsg_pairView (m t a) t) l s

theorem shadowMaps_pairView (r : Nat) (s : State) : pairView (shadowMaps r s).kor = pairView s.kor := sendMsgs_pairView _ _ s

theorem manyShadowMaps_pairView (l : List Nat) (s : State) :
    pairView (l.foldl (fun t r => shadowMaps r t) s).kor = pairView s.kor :=
  foldl_keeps_value (φ := fun t => pairView t.kor) (fun t r => shadowMaps_pairView r t) l s

theorem sendDigests_pairView (s : State) : pairView (sendDigests s).kor = pairView s.kor := by
  unfold sendDigests
  split
  · exact sendMsgs_pairView _ _ s
  · rfl

theorem noteDigests_pairView (s : State) : pairView (noteDigests s).kor = pairView s.kor := by
  unfold noteDigests
  split <;> rfl

theorem setLife_kor (r : Nat) (l : Lifecycle) (s : State) : (setLife r l s).kor = s.kor :=
  (setLife_keeps (m := 0x300030) r l (by decide) (Keeps.refl _ s)).korEq (by decide)

theorem beginChecks_pairView (r : Nat) (s : State) : pairView (beginChecks r s).kor = pairView s.kor := by
  unfold beginChecks
  extract_lets s1
  have h1 : pairView s1.kor = pairView s.kor := congrArg pairView (setLife_kor r .starting s)
  split
  · exact (sendMsg_pairView _ _).trans h1
  · exact h1

theorem liveAbort_pairView (cause : Nat) (s : State) : pairView (liveAbort cause s).kor = pairView s.kor := by
  unfold liveAbort
  split
  · exact (noteDigests_pairView _).trans (sendDigests_pairView _)
  · rfl

theorem setPair_kor (p : PairState) (cause : Nat) (s : State) : (setPair p cause s).kor = { s.kor with state := p } := by
  unfold setPair
  split
  · next h => rw [← h]
  · exact (refreshEff_keeps (m := 0x300020) (by decide) (Keeps.refl _ _)).korEq (by decide)

/-! ### A rejoin with nothing to resend (R401) -/

theorem resendLoop_idle {s : State} (hl : s.kor.resend = []) (ha : s.kor.resendAt = none) : ∀ n, resendLoop n s = s
  | 0 => rfl
  | n + 1 => by
    unfold resendLoop
    simp only [ha, hl, ite_self]

/-- RESYNC lasts until the partner's RESYNC_END has come (R401). -/
theorem resendKick_waits {s : State} (hs : s.kor.state = .resync) (hl : s.kor.resend = []) (ha : s.kor.resendAt = none)
    (he : s.kor.endSeen = false) : (resendKick s).kor.state = .resync := by
  unfold resendKick
  extract_lets s1 k s2
  have h1 : s1 = s := resendLoop_idle hl ha 449
  have h2 : s2.kor.state = .resync ∧ s2.kor.endSeen = false := by
    have hk : k.state = .resync ∧ k.endSeen = false := by unfold k; rw [h1]; exact ⟨hs, he⟩
    unfold s2
    split
    · exact ⟨(congrArg Kor.state (sendMsg_pairView _ _)).trans hk.1, (congrArg Kor.endSeen (sendMsg_pairView _ _)).trans hk.2⟩
    · exact hk
  split
  · exact hs
  · rw [if_neg (by rw [h1, hs]; simp), if_neg (by simp [h2.2])]
    exact h2.1

theorem setPair_gst (p : PairState) (cause : Nat) (s : State) : (setPair p cause s).gst = s.gst :=
  (setPair_keeps (m := 0x308020) p cause (by decide) (Keeps.refl _ s)).gstEq (by decide) (by decide)

theorem staleGranules_eq_nil {s : State} (h : ∀ e ∈ s.gst.states, e.2.stale = false) : staleGranules s = [] := by
  simp only [staleGranules, List.map_eq_nil_iff, List.filter_eq_nil_iff]
  intro e he
  simp [h e he]

/-- A rejoin that is not a full one, where no granule is stale, waits in RESYNC for the partner. -/
theorem rejoin_state {s : State} (hstale : ∀ e ∈ s.gst.states, e.2.stale = false) (hfull : s.kor.fullResync = false)
    (hknown : s.kor.pMepoch = s.kor.record.partnerMepoch) (hend : s.kor.endSeen = false) :
    (rejoin s).kor.state = .resync := by
  unfold rejoin
  extract_lets k s0 s1 g1 s2 full s3 st
  have hnot : full = false := by simp [full, k, hknown, hfull]
  have k0 : Keeps 0x308020 s s0 := setPair_keeps _ _ (by decide) (by simp)
  have k1 : Keeps 0x308020 s s1 := .foldl (fun u _ => sendMsg_keeps _ (by decide) (Keeps.refl _ u)) k0
  have k2 : Keeps 0x308020 s s2 := .foldl (fun u _ => sendMsg_keeps _ (by decide) (Keeps.refl _ u)) (by simp [k1])
  have h0 : s0.kor.endSeen = false := (congrArg Kor.endSeen (setPair_kor _ _ _)).trans hend
  have h1 : s1.kor.endSeen = false := (congrArg Kor.endSeen (sendMsgs_pairView _ _ s0)).trans h0
  have h2 : s2.kor.endSeen = false := (congrArg Kor.endSeen (sendMsgs_pairView _ _ _)).trans h1
  clear_value s2
  have e3 : s3 = (rejoinRegions s2).foldl (fun t r => shadowMaps r t) s2 := by simp [s3, hnot]
  have k3 : Keeps 0x308020 s s3 := e3 ▸ .foldl (fun u _ => shadowMaps_keeps _ (by decide) (Keeps.refl _ u)) k2
  have h3 : s3.kor.endSeen = false := by
    rw [e3]
    exact (congrArg Kor.endSeen (manyShadowMaps_pairView _ s2)).trans h2
  have hst : st = [] := staleGranules_eq_nil (by rw [k3.gstEq (by decide) (by decide)]; exact hstale)
  apply resendKick_waits
  · rw [setPair_kor]
  · rw [setPair_kor]; exact hst
  · rw [setPair_kor]; rfl
  · rw [setPair_kor]; exact h3

/-! ### What keeps the entries of the regions, and so the digest (R101) -/

theorem region_of_wrp {s t : State} (h : t.wrp = s.wrp) (r : Nat) : region t r = region s r := by
  unfold region
  rw [h]

theorem modRegion_entry {f : Region → Region} (hf : ∀ x, (f x).entry = x.entry) (r x : Nat) (s : State) :
    (region (modRegion r f s) x).entry = (region s x).entry := by
  simp only [region, modRegion, List.getD_eq_getElem?_getD, List.getElem?_modify]
  cases s.wrp.regions[x]? with
  | none => rfl
  | some y =>
    by_cases hx : r = x
    · simp [hx, hf]
    · simp [hx]

theorem setLife_entry (r x : Nat) (l : Lifecycle) (s : State) : (region (setLife r l s) x).entry = (region s x).entry := by
  unfold setLife
  extract_lets old s1 g1 s2
  split
  · rfl
  · have h2 : s2.wrp = s1.wrp := by unfold s2; split <;> rfl
    have h3 : (refreshCdat (msix 6 s2)).wrp = s2.wrp :=
      (refreshCdat_keeps (m := 0x200010) (by decide) (msix_keeps 6 (by decide) (Keeps.refl _ s2))).wrpEq (by decide)
    rw [region_of_wrp ((h3.trans h2).trans (raise_wrp _ _ _ _))]
    exact modRegion_entry (by intro; rfl) r x s

theorem beginChecks_entry (r x : Nat) (s : State) : (region (beginChecks r s) x).entry = (region s x).entry := by
  unfold beginChecks
  extract_lets s1
  split
  · rw [region_of_wrp ((sendMsg_keeps (m := 0x208000) _ (by decide) (Keeps.refl _ _)).wrpEq (by decide))]
    exact setLife_entry r x .starting s
  · exact setLife_entry r x .starting s

theorem liveAbort_entry (cause x : Nat) (s : State) : (region (liveAbort cause s) x).entry = (region s x).entry := by
  unfold liveAbort
  split
  · rw [region_of_wrp ((noteDigests_keeps (m := 0x208000) (by decide) (sendDigests_keeps (by decide) (Keeps.refl _ _))).wrpEq
      (by decide))]
    simp only [region, msix_wrp, raise_wrp, List.getD_eq_getElem?_getD, List.getElem?_map]
    cases s.wrp.regions[x]? <;> rfl
  · rfl

theorem digestPart_of_entries {s t : State} (h : ∀ r, (region t r).entry = (region s r).entry) (k : Nat) :
    digestPart t k = digestPart s k := by
  simp only [digestPart, regionDigest, h]

end Sys2Proof.Machine
end

section
/-!
PROOFS. Live re-application (R92 to R102): the requests, and the comparison of digests that follows an abort.
-/

namespace Sys2Proof.Machine

/-! ### Requests (R92) -/

theorem exec_live_request {s : State} {slot op : Nat} {c : Instr} (hcore : s.pwr.corePg = true)
    (hc : op = 1 ∧ c = .liveCheck slot ∨ op = 2 ∧ c = .liveApply slot) : exec c s = .next (liveRequest slot op s) := by
  rcases hc with ⟨rfl, rfl⟩ | ⟨rfl, rfl⟩
  · show execLiveCheck slot s = _
    rw [execLiveCheck, if_pos hcore]
  · show execLiveApply slot s = _
    rw [execLiveApply, if_pos hcore]

/-- While CHECKING or APPLYING runs, a request is refused and what runs goes on (R92; log 91). -/
theorem liveRequest_whileBusy {s : State} (slot op : Nat) (hbusy : s.img.liveState = 1 ∨ s.img.liveState = 2) :
    liveRequest slot op s = msix 12 (raise 0x0109 0x0C [(1, 0x13), (1, s.img.currentRegion)] s) := if_pos hbusy

section NoneRuns

variable {s : State} (slot op : Nat) (h1 : s.img.liveState ≠ 1) (h2 : s.img.liveState ≠ 2)
include h1 h2

theorem liveRequest_begins (hmode : s.spn.mode = .service ∨ s.spn.mode = .test) :
    liveRequest slot op s = { s with img := { s.img with
      liveSlot := slot % 2, liveOp := op, liveState := 1, liveCause := 0, liveGo := true, regionsTotal := 0, regionsDone := 0,
      currentRegion := 0 } } := by
  have hin : modeIn [.service, .test] s = true := by simpa [modeIn] using hmode
  simp [liveRequest, h1, h2, hin]

theorem liveRequest_inOtherMode (hs : s.spn.mode ≠ .service) (ht : s.spn.mode ≠ .test) :
    liveRequest slot op s = liveRefuse 0x13 0 { s with img := { s.img with liveSlot := slot % 2, liveOp := op } } := by
  have hin : modeIn [.service, .test] s = false := by simp [modeIn, hs, ht]
  simp [liveRequest, h1, h2, hin]

end NoneRuns

/-- Settles O45: a request goes by the state of the re-application, then by the mode (R92; log 30, 91). -/
theorem liveRequests : Obligations.LiveRequests := by
  intro s slot op c hcore hc
  rw [exec_live_request hcore hc]
  refine ⟨fun hmode h1 h2 => ?begins, fun hs ht h1 h2 => ?refused, fun hbusy => ?busy⟩
  case begins => rw [liveRequest_begins slot op h1 h2 hmode]
  case refused =>
    have hframe : Keeps 0x300002 s (liveRequest slot op s) := liveRequest_keeps slot op (by decide) (Keeps.refl _ s)
    refine ⟨_, rfl, ?_, ?_, ?_, ?_, ?_, ?_, fr hframe (by decide)⟩ <;> rw [liveRequest_inOtherMode slot op h1 h2 hs ht] <;> rfl
  case busy =>
    rw [liveRequest_whileBusy slot op hbusy]
    rfl

/-! ### The comparison that ends a re-application (R101, R395) -/

theorem digestsDiffer_eq_false {s : State} {part : Nat → Nat}
    (hseen : s.kor.digestSeen = (List.range 4).map (fun k => (k, part k))) (hpart : ∀ k, digestPart s k = part k) :
    digestsDiffer s = false := by
  simp [digestsDiffer, hseen, hpart, List.range_succ, tget]

/-- Digests that agree again end the SOLO that their difference caused: the pair rejoins. -/
theorem compareDigests_rejoins {s : State} (hup : s.kor.up = true) (hseen : 4 ≤ s.kor.digestSeen.length)
    (hcause : s.kor.soloCause = 5) (hsolo : s.kor.state = .solo) (hside : s.kor.sameSide = false) (hserving : serving s = true)
    (hagree : digestsDiffer s = false) : compareDigests s = rejoin (noteDigests s) := by
  have hnote : noteDigests s = { s with kor := { s.kor with digestBad := false } } := by
    simp [noteDigests, hup, Nat.not_lt.2 hseen, hagree]
  have hmay : mayRejoin (noteDigests s) = true := by
    rw [hnote]
    simp_all [mayRejoin, serving, modeIn]
  simp [compareDigests, hup, Nat.not_lt.2 hseen, hcause, hsolo, hmay]

/-- A stopped region whose Empty-class span is not FREE restarts with its old entry and ends the re-application; the pair's digests
are compared (R96, R101). -/
theorem liveStep_spanNotFree {s : State} {r : Nat} {l : List Nat} {img : ActiveImage} (hrun : s.img.liveState = 2)
    (himg : s.img.liveImage = some img) (hleft : s.img.liveLeft = r :: l) (hclass : s.img.liveClass = 3)
    (hnew : (region s r).entry ≠ newEntry img r) (hoff : (region s r).life = .offline) (hspan : spansFree s img r = false)
    (hdef : defined s r = true) : liveStep s = some (compareDigests (liveAbort 0x11 (beginChecks r s))) := by
  simp [liveStep, handleStopped, hrun, himg, hleft, hclass, hnew, hoff, hspan, hdef]

/-! ### The counterexample -/

/-- Region 0 is one unit of 256 MiB, and OFFLINE. -/
def oneRegion : Wrp := { regions := { entry := ⟨0, 1, false, .loc, .plain, false, 0, 0, 0, 1024, 0⟩ } :: List.replicate 255 {} }

/-- A pair in SOLO for its digests, the partner's digest now that of this side's region table, while a re-application takes region 0
away, which has stopped with granule 5 SHADOWED. -/
def soloReapplying : State :=
  { State.reset with
    spn := { State.reset.spn with mode := .service }
    img := { liveState := 2, liveImage := some {}, liveLeft := [0], liveClass := 3 }
    wrp := oneRegion
    gst := { states := [(5, ⟨.shadowed, false⟩)] }
    kor := { state := .solo, soloCause := 5, unitOn := true, trained := true, up := true, digestBad := true
             digestSeen := (List.range 4).map (fun k => (k, digestPart { State.reset with wrp := oneRegion } k)) } }

/-- The digests agree once the re-application has ended: the entry of region 0 was not replaced. -/
theorem soloReapplying_agrees : digestsDiffer (liveAbort 0x11 (beginChecks 0 soloReapplying)) = false := by
  have hseen : (liveAbort 0x11 (beginChecks 0 soloReapplying)).kor.digestSeen = soloReapplying.kor.digestSeen :=
    eq_of_pairView (f := Kor.digestSeen) (fun _ => rfl) ((liveAbort_pairView _ _).trans (beginChecks_pairView 0 _))
  have hpart (k : Nat) : digestPart (liveAbort 0x11 (beginChecks 0 soloReapplying)) k =
      digestPart { State.reset with wrp := oneRegion } k :=
    digestPart_of_entries (fun r => (liveAbort_entry _ r _).trans ((beginChecks_entry 0 r _).trans
      (congrArg Region.entry (region_of_wrp (s := { State.reset with wrp := oneRegion }) (t := soloReapplying) rfl r)))) k
  exact digestsDiffer_eq_false hseen hpart

theorem soloReapplying_rejoins :
    (compareDigests (liveAbort 0x11 (beginChecks 0 soloReapplying))).kor.state = .resync := by
  set t := liveAbort 0x11 (beginChecks 0 soloReapplying) with ht
  have hk : Keeps 0x308032 soloReapplying t := liveAbort_keeps _ (by decide) (beginChecks_keeps 0 (by decide) (Keeps.refl _ _))
  have hv : pairView t.kor = pairView soloReapplying.kor := (liveAbort_pairView _ _).trans (beginChecks_pairView 0 _)
  have hn : pairView (noteDigests t).kor = pairView soloReapplying.kor := (noteDigests_pairView t).trans hv
  have hmode : t.spn.mode = .service := hk.modeEq (by decide)
  have hup : t.kor.up = true := eq_of_pairView (f := Kor.up) (fun _ => rfl) hv
  have hseen : t.kor.digestSeen.length = 4 := eq_of_pairView (f := fun k => k.digestSeen.length) (fun _ => rfl) hv
  have hcause : t.kor.soloCause = 5 := eq_of_pairView (f := Kor.soloCause) (fun _ => rfl) hv
  have hsolo : t.kor.state = .solo := eq_of_pairView (f := Kor.state) (fun _ => rfl) hv
  have hside : t.kor.sameSide = false := eq_of_pairView (f := Kor.sameSide) (fun _ => rfl) hv
  have hgst : (noteDigests t).gst = soloReapplying.gst := (noteDigests_keeps (by decide) hk).gstEq (by decide) (by decide)
  rw [compareDigests_rejoins hup hseen.ge hcause hsolo hside (by simp [serving, modeIn, hmode]) soloReapplying_agrees]
  apply rejoin_state
  case hstale => simp [hgst, soloReapplying]
  case hfull => exact eq_of_pairView (f := Kor.fullResync) (fun _ => rfl) hn
  case hknown =>
    exact (eq_of_pairView (f := Kor.pMepoch) (fun _ => rfl) hn).trans
      (eq_of_pairView (f := fun k => k.record.partnerMepoch) (fun _ => rfl) hn).symm
  case hend => exact eq_of_pairView (f := Kor.endSeen) (fun _ => rfl) hn

/-- Refutes O46: where the Empty-class span of a stopped region is not FREE, the statement has nothing follow the abort, but the end of
every re-application compares the pair's digests (R101), and a pair in SOLO for a difference that is gone rejoins (R395): `liveStep`
answers `soloReapplying` with the pair in RESYNC, the statement with the pair in SOLO. -/
theorem not_liveReapplication : ¬ Obligations.LiveReapplication := by
  unfold Obligations.LiveReapplication
  rintro ⟨-, -, -, -, hsteps, -⟩
  obtain ⟨-, -, hblocked, -⟩ := hsteps soloReapplying 0 [] {} rfl rfl rfl (List.length_pos_iff.2 (List.cons_ne_nil _ _))
  have hnew : (region soloReapplying 0).entry ≠ newEntry {} 0 := by decide
  have hspan : spansFree soloReapplying {} 0 = false := by decide
  have hsays := hblocked rfl hnew rfl hspan rfl
  rw [liveStep_spanNotFree rfl rfl rfl rfl hnew rfl hspan rfl, Option.some.injEq] at hsays
  have hsolo : (liveAbort 0x11 (beginChecks 0 soloReapplying)).kor.state = .solo :=
    eq_of_pairView (f := Kor.state) (fun _ => rfl) ((liveAbort_pairView _ _).trans (beginChecks_pairView 0 _))
  have hstate := congrArg (fun t => t.kor.state) hsays
  rw [soloReapplying_rejoins, hsolo] at hstate
  cases hstate

end Sys2Proof.Machine
end

section
/-!
PROOFS. The boot (R83 to R91, R305, R311): what ends BOOT or refuses an image, the rules of each command from the image to the map
load, and the statement of the order in which they follow one another.
-/

namespace Sys2Proof.Machine

/-! ### The end of BOOT, and a refusal (R49, R84, R535) -/

@[simp] theorem bootEnds_img (m : Mode) (s : State) : (bootEnds m s).img = { s.img with bootStep := 16 } := by
  unfold bootEnds
  extract_lets s0 s1 t
  split
  · rfl
  · split <;> rfl

@[simp] theorem bootEnds_hlk (m : Mode) (s : State) : (bootEnds m s).hlk = { s.hlk with presented := true } := by
  unfold bootEnds
  extract_lets s0 s1 t
  split
  · rfl
  · split <;> rfl

/-- BOOT ends in the mode asked for, with the terminations detectable (R107). -/
theorem finishBoot_effect (m : Mode) (cause : Nat) (s : State) : (finishBoot m cause s).spn.mode = m ∧
    (finishBoot m cause s).img.bootStep = 16 ∧ (finishBoot m cause s).hlk.presented = true := by
  refine ⟨rfl, ?_, ?_⟩ <;> simp [finishBoot]

/-- What `unapply` does before it takes the records back, and after. -/
theorem unapply_before_keeps (s : State) : Keeps 0x108401 s (rolesOff (domainsDown (memDomains s) (korOff s))) :=
  rolesOff_keeps (by decide) (domainsDown_keeps _ (by decide) (korOff_keeps (by decide) (Keeps.refl _ s)))

theorem unapply_after_keeps (s : State) :
    Keeps 0x740490 s (warnPin (refreshCdat (refreshCharge (tskCarve (carvingFrom defaultPools) s)))) :=
  warnPin_keeps (by decide) (refreshCdat_keeps (by decide) (refreshCharge_keeps (by decide)
    (tskCarve_keeps _ (by decide) (Keeps.refl _ s))))

theorem unapply_img (s : State) :
    (unapply s).img = { s.img with active := {}, liveImage := none, imageValid := false, structApplied := false } := by
  rw [← (unapply_before_keeps s).imgEq (by decide)]
  exact (unapply_after_keeps _).imgEq (by decide)

theorem unapply_vlt (s : State) : (unapply s).vlt = { s.vlt with mapValid := false } := by
  rw [← (unapply_before_keeps s).vltEq (by decide)]
  exact (unapply_after_keeps _).vltEq (by decide)

/-- Once no record is applied, RECOVERY changes of the image loader the boot's step alone. -/
theorem toRecovery_img {s : State} (event : Nat) (hnone : s.img.active.structureRec = none) :
    (toRecovery event s).img = { s.img with bootStep := 16 } := by
  simp [toRecovery, hnone]

theorem toRecovery_vlt {s : State} (event : Nat) (hnone : s.img.active.structureRec = none) :
    (toRecovery event s).vlt = s.vlt := by
  simp only [toRecovery, hnone, Option.isSome_none, Bool.false_eq_true, if_false]
  exact (setMode_keeps (m := 0xb04233) _ _ (by decide) (bootEnds_keeps _ (by decide) (by simp))).vltEq (by decide)

/-- A refusal at step 6 or 13 withdraws every record (R84). -/
theorem withdraw_effect (event cause ty : Nat) (detail : Fields) (s : State) :
    (withdraw event cause ty detail s).spn.mode = .recovery ∧ (withdraw event cause ty detail s).spn.cause = event ∧
    (withdraw event cause ty detail s).img.cause = cause ∧ (withdraw event cause ty detail s).img.locked = false ∧
    (withdraw event cause ty detail s).img.structApplied = false ∧
    (withdraw event cause ty detail s).vlt = { s.vlt with mapValid := false } := by
  refine ⟨rfl, rfl, ?_⟩
  simp [withdraw, toRecovery_img, toRecovery_vlt, unapply_img, unapply_vlt]

/-! ### Image and training (R83, R85, R87) -/

theorem imageApply_inBoot {s : State} (cert : Bool) (hmode : s.spn.mode = .boot) (hcore : s.pwr.corePg = true)
    (hstep : s.img.bootStep = 0) : exec (.imageApply cert) s =
      .next (let r := if s.sig.stage = 0 then romStage cert s else s
        if r.spn.mode = .boot ∧ r.sig.stage = 1 ∧ (openStarts r = [] ∨ r.nrg.quagOk = true) then loaderStage r else r) := by
  show execImageApply cert s = _
  rw [execImageApply, if_neg (by simp [hmode, hcore, hstep])]

/-- Training begins with the channels powered, and leaves the cache and the spine as they are. -/
theorem startTraining_effect (s : State) : (startTraining s).img.bootStep = 5 ∧ (startTraining s).pwr.memEn = true ∧
    (startTraining s).gst = s.gst ∧ (startTraining s).spn = s.spn := by
  have k : Keeps 0x1a050e s (startTraining s) := startTraining_keeps (by decide) (Keeps.refl _ s)
  refine ⟨?_, ?_, k.gstEq (by decide) (by decide), k.spnEq (by decide) (by decide)⟩ <;> unfold startTraining
  · rw [(askArm_keeps (m := 0x12010c) (by decide) (Keeps.refl _ _)).imgEq (by decide)]
    rfl
  · rw [(askArm_keeps (m := 0x12010c) (by decide) (Keeps.refl _ _)).pwrEq (by decide)]
    rfl

/-- Steps 1 to 4 empty the cache (R584) and give each unit its role of R27. -/
theorem applyFront_effect (img : ActiveImage) (slot arb : Nat) (vlh : Digest) (s : State) :
    (applyFront img slot arb vlh s).gst = {} ∧
    (applyFront img slot arb vlh s).spn.roles = roleTable (img.structureRec.getD ⟨0, [], []⟩).quadEn := by
  have k (u : State) : Keeps 0x12040c u (domainsOn (coreDomains u) (nonceLoad (loadOtpRoot (releaseTap (warnPin u))))) :=
    domainsOn_keeps _ (by decide) (nonceLoad_keeps (by decide) (loadOtpRoot_keeps (by decide) (releaseTap_keeps (by decide)
      (warnPin_keeps (by decide) (Keeps.refl _ u)))))
  exact ⟨(k _).gstEq (by decide) (by decide), congrArg Spn.roles ((k _).spnEq (by decide) (by decide))⟩

/-- A run over quadrants that all trained takes each of them to ACTIVE. -/
theorem allTrained_state (q : Nat) : ∀ (l : List Nat) (s : State), q < s.qdc.length →
    (qdcOf (l.foldl (fun t p => modQdc p (fun d => { d with state := 2 }) t) s) q).state =
      if q ∈ l then 2 else (qdcOf s q).state
  | [], s, _ => rfl
  | p :: l, s, hq => by
    rw [List.foldl_cons, allTrained_state q l _ (by simpa [modQdc] using hq)]
    by_cases hl : q ∈ l
    · simp [hl]
    · by_cases hp : q = p
      · subst hp
        simp [qdcOf, modQdc, hq]
      · simp [hl, hp, Ne.symm hp, qdcOf, modQdc]

theorem channelsTrained_all {okMask : Nat} (hok : okMask % 16 = 15) (s : State) :
    channelsTrained okMask s = ((List.range 4).filter (fun q => (qdcOf s q).state = 1)).foldl
      (fun t q => modQdc q (fun d => { d with state := 2 }) t) s := by
  have hbit (q : Nat) (hq : q < 4) : okMask.testBit q = true := by
    have h := Nat.testBit_mod_two_pow okMask 4 q
    rw [show (2 : Nat) ^ 4 = 16 from rfl, hok, decide_eq_true hq, Bool.true_and] at h
    rw [← h]
    interval_cases q <;> rfl
  unfold channelsTrained
  refine List.foldl_ext _ _ _ fun t q hq => if_pos (hbit q ?_)
  exact List.mem_range.1 (List.mem_filter.1 hq).1

theorem channelsTrained_active {okMask q : Nat} {s : State} (hok : okMask % 16 = 15) (hq : q < 4) (hinit : (qdcOf s q).state = 1) :
    (qdcOf (channelsTrained okMask s) q).state = 2 := by
  have hlen : q < s.qdc.length := by
    by_contra hge
    simp [qdcOf, List.getElem?_eq_none (Nat.not_lt.1 hge)] at hinit
  rw [channelsTrained_all hok, allTrained_state q _ s hlen, if_pos (by simp [hq, hinit])]

/-- DRAM initialization, and step 6 begins (R85, R87, R401). -/
theorem dramTrainingDone_effect {s : State} {okMask : Nat} (hmode : s.spn.mode = .boot) (hstep : s.img.bootStep = 5)
    (hok : okMask % 16 = 15) :
    ∃ t, exec (.dramTrainingDone okMask) s = .next t ∧ t.img.bootStep = 6 ∧ t.gst.dram = [] ∧ t.gst.poison = [] ∧
      t.pwr.vltEn = !t.pwr.vaultOff ∧ (∀ q, q < 4 → (qdcOf s q).state = 1 → (qdcOf t q).state = 2) := by
  have hboot : decide (s.spn.mode = .boot ∧ s.img.bootStep = 5) = true := by simp [hmode, hstep]
  have hrun : ¬ (!decide (s.spn.mode = .boot ∧ s.img.bootStep = 5) &&
      !(decide (s.spn.mode = .parked) && bgRuns s 0xC005 && s.qdc.any (fun d => d.state = 1))) = true := by simp [hboot]
  exact ⟨_, congrArg Host.Outcome.next ((if_neg hrun).trans (if_pos hboot)), rfl, rfl, rfl, rfl,
    fun q hq hinit => channelsTrained_active hok hq hinit⟩

/-! ### The vault (R88, R89, R344) -/

/-- The state once the manifest's hash and the media's sequence are read. -/
def vaultCompared (s : State) : State :=
  { s with img := { s.img with mvlh := (s.vlt.manifest.map Manifest.vlh).getD 0 }
           vlt := { s.vlt with highSeq := mediaSeq s, epoch := (s.vlt.manifest.map Manifest.epoch).getD 0 } }

/-- The applied structure is the vault's. -/
def structureApplied (s : State) : State := { s with img := { s.img with structApplied := true } }

/-- A blank vault is formatted, and steps 7 to 12 follow. -/
theorem compareVault_blank {s : State} (factory : List Nat) (hman : s.vlt.manifest = none) (hblank : s.vlt.blank = true) :
    compareVault true factory s = stepsSeven (structureApplied (formatVault factory (vaultCompared s))) := by
  simp [compareVault, vaultLive, hman, hblank, vaultCompared, structureApplied]

/-- A vault with a manifest and no checkpoint holds live data; under another hash the image is refused. -/
theorem compareVault_otherHash {s : State} {m : Manifest} (factory : List Nat) (hman : s.vlt.manifest = some m)
    (hhash : m.vlh ≠ s.img.vlh) (hckpt : s.vlt.ckpt = none) :
    compareVault true factory s = withdraw 0x0103 0x0E 3 [] (vaultCompared s) := by
  simp [compareVault, vaultLive, hman, hhash, hckpt, vaultCompared]

theorem formatVault_reformat (factory : List Nat) (s : State) : (formatVault factory s).img.vaultReformat = true := by
  have hrefill (u : State) : (refillReserve u).img = u.img :=
    (refillReserve_keeps (m := 0x102800) (by decide) (Keeps.refl _ u)).imgEq (by decide)
  unfold formatVault
  dsimp only
  split <;> simp [hrefill]

/-- Steps 7 to 11, before the step is noted. -/
theorem stepsSeven_units_keep (img : ActiveImage) (c : Carving) (s : State) :
    Keeps 0x75a0a0 s (tskCarve c (stepArray img (stepPair img { stepEnergy img s with
      shd := { (stepEnergy img s).shd with life := withDefaults lifeDefaults img.life } }))) := by
  have henergy : Keeps 0x75a0a0 s (stepEnergy img s) := stepEnergy_keeps img (by decide) (Keeps.refl _ s)
  have hlife : Keeps 0x75a0a0 s { stepEnergy img s with
      shd := { (stepEnergy img s).shd with life := withDefaults lifeDefaults img.life } } := by simp [henergy]
  exact tskCarve_keeps c (by decide) (stepArray_keeps img (by decide) (stepPair_keeps img (by decide) hlife))

theorem stepsSeven_img (s : State) : (stepsSeven s).img =
    { s.img with active := { s.img.active with events := (s.img.liveImage.getD s.img.active).events }, bootStep := 13 } := by
  unfold stepsSeven
  dsimp only
  rw [(stepsSeven_units_keep _ _ s).imgEq (by decide)]

theorem channelsUp_manifestFailures_keeps (s : State) : Keeps 0x101000 s (channelsUp (manifestFailures s)) :=
  channelsUp_keeps (by decide) (manifestFailures_keeps (by decide) (Keeps.refl _ s))

section VaultInit

variable {s : State} (hmode : s.spn.mode = .boot) (hstep : s.img.bootStep = 6)
include hmode hstep

/-- Where no die and no channel fails, the channels come up and the hashes are compared. -/
theorem vaultInitDone_compares (readable : Bool) : exec (.vaultInitDone [] [] [] readable false) s =
    .next (compareVault readable [] (channelsUp (manifestFailures s))) := by
  show execVaultInitDone [] [] [] readable false s = _
  rw [execVaultInitDone, if_neg (by simp [hmode, hstep])]
  rfl

theorem vaultInitDone_formats (hman : s.vlt.manifest = none) (hblank : s.vlt.blank = true) :
    ∃ t, exec (.vaultInitDone [] [] [] true false) s = .next t ∧ t.spn.mode = .boot ∧ t.img.bootStep = 13 ∧
      t.img.structApplied = true ∧ t.img.vaultReformat = true := by
  have kup := channelsUp_manifestFailures_keeps s
  have hvlt := kup.vltEq (by decide)
  have hup := vaultInitDone_compares hmode hstep true
  generalize channelsUp (manifestFailures s) = u at kup hvlt hup
  rw [compareVault_blank [] (hvlt ▸ hman) (hvlt ▸ hblank)] at hup
  have hkeeps : Keeps 0x75b8a2 s (stepsSeven (structureApplied (formatVault [] (vaultCompared u)))) := by
    have hcompared : Keeps 0x75b8a2 s (vaultCompared u) := by
      unfold vaultCompared
      simp [kup.mono (show 0x101000 &&& 0x75b8a2 = 0x101000 by decide)]
    have hformatted : Keeps 0x75b8a2 s (formatVault [] (vaultCompared u)) := formatVault_keeps [] (by decide) hcompared
    exact stepsSeven_keeps (by decide) (by unfold structureApplied; simp [hformatted])
  refine ⟨_, hup, (hkeeps.modeEq (by decide)).trans hmode, ?_, ?_, ?_⟩ <;> rw [stepsSeven_img]
  · rfl
  · exact formatVault_reformat [] _

theorem vaultInitDone_refuses {m : Manifest} (hman : s.vlt.manifest = some m) (hhash : m.vlh ≠ s.img.vlh)
    (hckpt : s.vlt.ckpt = none) :
    ∃ t, exec (.vaultInitDone [] [] [] true false) s = .next t ∧ t.spn.mode = .recovery ∧ t.img.cause = 0x0E ∧
      t.spn.cause = 0x0103 ∧ t.img.structApplied = false ∧ t.vlt.mapValid = false ∧ t.vlt.manifest = some m := by
  have kup := channelsUp_manifestFailures_keeps s
  have hvlt := kup.vltEq (by decide)
  have himg := kup.imgEq (by decide)
  have hup := vaultInitDone_compares hmode hstep true
  generalize channelsUp (manifestFailures s) = u at kup hvlt himg hup
  rw [compareVault_otherHash [] (hvlt ▸ hman) (himg ▸ hhash) (hvlt ▸ hckpt)] at hup
  obtain ⟨hrecovery, hevent, hcause, -, hstruct, hvault⟩ := withdraw_effect 0x0103 0x0E 3 [] (vaultCompared u)
  exact ⟨_, hup, hrecovery, hcause, hevent, hstruct, congrArg Vlt.mapValid hvault,
    (congrArg Vlt.manifest hvault).trans ((congrArg Vlt.manifest hvlt).trans hman)⟩

end VaultInit

/-! ### Steps 13 and 14 (R90, R91, R456) -/

theorem armEntryPassed_runs {s : State} (hmode : s.spn.mode = .boot) (hstep : s.img.bootStep = 13) (harmed : s.cip.armed = true) :
    exec .armEntryPassed s = .next (regionStep s) := by
  show execArmEntryPassed s = _
  rw [execArmEntryPassed, if_neg (by simp [hmode, hstep]), if_pos (Or.inl harmed)]

/-- Step 14 locks the registers and logs the image last (R91). -/
theorem presets_effect (s : State) : (presets s).img.locked = true ∧ (presets s).img.imageValid = true ∧
    (presets s).img.bootStep = 15 ∧ (presets s).raised.getLast? =
      some ⟨0x0101, 0x0C, [(1, (presets s).img.activeSlot), (4, (presets s).img.active.version)]⟩ := by
  refine ⟨rfl, rfl, rfl, ?_⟩
  simp [presets]

theorem regionStep_ofMatch {s : State} (h : regionMismatch s s.img.active.regions = none) : ∃ u, regionStep s = presets u := by
  unfold regionStep
  simp only [h]
  exact ⟨_, rfl⟩

theorem regionStep_ofMismatch {s : State} {r : Nat} (h : regionMismatch s s.img.active.regions = some r) :
    regionStep s = withdraw 0x0104 0x0F 4 [(1, r)] s := by
  unfold regionStep
  simp only [h]

/-! ### The map load (R305, R311) -/

/-- Where a vault holds nothing live, the state as BOOT ends. -/
def nothingToRestore (u : Unread) (s : State) : State :=
  let ready := vaultReady (loadAccounts false (shutdownAtBoot u (readopt (dumpRegsLoad s))))
  { ready with dmp := { ready.dmp with kind := 0, rphase := 0 } }

theorem nothingToRestore_pwr (u : Unread) (s : State) : (nothingToRestore u s).pwr = s.pwr := by
  unfold nothingToRestore
  dsimp only
  exact (vaultReady_keeps (m := 0x106820) (by decide) (loadAccounts_keeps false (by decide) (shutdownAtBoot_keeps u (by decide)
    (readopt_keeps (by decide) (dumpRegsLoad_keeps (by decide) (Keeps.refl _ s)))))).pwrEq (by decide)

theorem readopt_dumpRegsLoad_vlt (s : State) : (readopt (dumpRegsLoad s)).vlt = s.vlt :=
  (readopt_keeps (m := 0x4020) (by decide) (dumpRegsLoad_keeps (by decide) (Keeps.refl _ s))).vltEq (by decide)

section MapLoad

variable {s : State} (ckptOk scanOk : Bool) (nm nh : List (Nat × Nat)) (un : List Nat)

theorem mapLoaded_nothingLive (hmode : s.spn.mode = .boot) (hstep : s.img.bootStep = 15) (hlive : vaultLive s = false)
    (htest : s.pwr.testStrap = false) : exec (.mapLoaded ckptOk scanOk nm nh un) s =
      .next (settle (pairFollows (finishBoot .service 0x0101 (nothingToRestore ⟨nm, nh, un⟩ s)))) := by
  have hservice : testBoot (nothingToRestore ⟨nm, nh, un⟩ s) = false := by
    rw [testBoot, nothingToRestore_pwr, htest, Bool.false_and, Bool.false_and]
  have hcalled : exec (.mapLoaded ckptOk scanOk nm nh un) s = .next (settle (pairFollows (finishBoot
      (if testBoot (nothingToRestore ⟨nm, nh, un⟩ s) then .test else .service) 0x0101 (nothingToRestore ⟨nm, nh, un⟩ s)))) := by
    have hrun : ¬ (!decide (s.spn.mode = .boot ∧ s.img.bootStep = 15) && !(decide (s.spn.mode = .parked) && bgRuns s 0xC005 &&
        s.pwr.memEn && !(s.qdc.any (fun d => d.state = 1)))) = true := by simp [hmode, hstep]
    have hnone : (decide (s.spn.mode = .boot ∧ s.img.bootStep = 15) && !vaultLive s) = true := by simp [hmode, hstep, hlive]
    exact congrArg Host.Outcome.next ((if_neg hrun).trans (if_pos hnone))
  rw [hcalled, if_neg (by simp [hservice])]

/-- The map comes from the checkpoint, and a cold restore begins. -/
theorem mapLoaded_live (hmode : s.spn.mode = .boot) (hstep : s.img.bootStep = 15) (hlive : vaultLive s = true)
    (hckpt : s.vlt.ckpt.isSome = true) : ∃ v, exec (.mapLoaded true scanOk nm nh un) s =
      .next (settle (bulkFollow (pairFollows (finishBoot .restore 0x0703 v)))) := by
  have hfound : (readopt (dumpRegsLoad s)).vlt.ckpt.isSome = true := by rw [readopt_dumpRegsLoad_vlt, hckpt]
  refine ⟨restoreBegins 1 false ⟨nm, nh, un⟩ (mergeFrom (readopt (dumpRegsLoad s)) ⟨nm, nh, un⟩
    (((readopt (dumpRegsLoad s)).vlt.ckpt.map Ckpt.seq).getD 0) (((readopt (dumpRegsLoad s)).vlt.ckpt.map Ckpt.map).getD []))
    (readopt (dumpRegsLoad s)), ?_⟩
  show execMapLoaded true scanOk nm nh un s = _
  simp [execMapLoaded, hmode, hstep, hlive, hfound]

/-- Neither checkpoint nor scan gives a map (R311). -/
theorem mapLoaded_noMap (hmode : s.spn.mode = .boot) (hstep : s.img.bootStep = 15) (hlive : vaultLive s = true) :
    exec (.mapLoaded false false nm nh un) s = .next (toRecovery 0x0702 (raise 0x0702 0x0E [] (readopt (dumpRegsLoad s)))) := by
  show execMapLoaded false false nm nh un s = _
  simp [execMapLoaded, hmode, hstep, hlive]

/-- The map load of UNPARK ends as a restore of kind 3. -/
theorem mapLoaded_unpark (hmode : s.spn.mode = .parked) (hbg : bgRuns s 0xC005 = true) (hmem : s.pwr.memEn = true)
    (hqdc : s.qdc.any (fun d => d.state = 1) = false) (hckpt : s.vlt.ckpt.isSome = true) :
    exec (.mapLoaded true scanOk nm nh un) s = .next (unparkEnds (restoreBegins 3 false ⟨nm, nh, un⟩
      (mergeFrom s ⟨nm, nh, un⟩ ((s.vlt.ckpt.map Ckpt.seq).getD 0) ((s.vlt.ckpt.map Ckpt.map).getD [])) s)) := by
  show execMapLoaded true scanOk nm nh un s = _
  unfold execMapLoaded
  rw [hqdc]
  simp [hmode, hbg, hmem, hckpt]

end MapLoad

/-! ### The statement -/

/-- Settles O9: a clause for each step of the boot in the order of R85 (log 1, 20, 32, 35, 36, 38, 41, 129, 139, 147). -/
theorem bootStepsInOrder : Obligations.BootStepsInOrder := by
  refine ⟨?image, ?front, ?training, ?format, ?otherHash, ?regions, ?mismatch, ?service, ?restore, ?noMap, ?unpark⟩
  case image =>
    rintro s r cert hmode hcore hstep rfl
    exact imageApply_inBoot cert hmode hcore hstep
  case front =>
    intro img slot arb vlh s
    obtain ⟨hstep, hmem, hgst, hspn⟩ := startTraining_effect (applyFront img slot arb vlh s)
    obtain ⟨hempty, hroles⟩ := applyFront_effect img slot arb vlh s
    exact ⟨hstep, hmem, hgst.trans hempty, (congrArg Spn.roles hspn).trans hroles⟩
  case training => exact fun s okMask hmode hstep hok => dramTrainingDone_effect hmode hstep hok
  case format =>
    rintro s readable hmode hstep hman hblank rfl
    exact vaultInitDone_formats hmode hstep hman hblank
  case otherHash => exact fun s m hmode hstep hman hhash hckpt => vaultInitDone_refuses hmode hstep hman hhash hckpt
  case regions =>
    intro s hmode hstep harmed hmatch
    obtain ⟨u, hu⟩ := regionStep_ofMatch hmatch
    exact ⟨presets u, hu ▸ armEntryPassed_runs hmode hstep harmed, presets_effect u⟩
  case mismatch =>
    intro s r hmode hstep harmed hmismatch
    obtain ⟨hrecovery, hevent, hcause, hlocked, -⟩ := withdraw_effect 0x0104 0x0F 4 [(1, r)] s
    exact ⟨_, regionStep_ofMismatch hmismatch ▸ armEntryPassed_runs hmode hstep harmed, hrecovery, hcause, hlocked, hevent⟩
  case service =>
    exact fun s ck sc nm nh un hmode hstep hlive htest =>
      ⟨_, mapLoaded_nothingLive ck sc nm nh un hmode hstep hlive htest, finishBoot_effect _ _ _⟩
  case restore =>
    intro s sc nm nh un hmode hstep hlive hckpt
    obtain ⟨v, hv⟩ := mapLoaded_live sc nm nh un hmode hstep hlive hckpt
    exact ⟨_, hv, finishBoot_effect _ _ _⟩
  case noMap =>
    exact fun s nm nh un hmode hstep hlive => ⟨_, mapLoaded_noMap nm nh un hmode hstep hlive, rfl, rfl, rfl⟩
  case unpark =>
    exact fun s nm nh un hmode hbg hmem hqdc hckpt => mapLoaded_unpark true nm nh un hmode hbg hmem hqdc hckpt

end Sys2Proof.Machine
end

section
/-!
PROOFS. The doorbell of the mailbox (R127 to R130, R585): what a standard and a vendor command answer in each case, which doorbell each
command of the mailbox rings, and the statement of the doorbells.
-/

namespace Sys2Proof.Machine

/-! ### The doorbell of a standard command -/

section Standard

variable {via : Via} {op : Nat} {inDump : Bool} {k : State → State} {s : State}

theorem standard_noCore (hcore : s.pwr.corePg = false) : standard via op inDump k s = s := by
  simp [standard, hcore]

theorem standard_restarting (hcore : s.pwr.corePg = true) (hsvc : s.sig.recoverySvc = false) (hbusy : s.pwr.fwBusy = true) :
    standard via op inDump k s = reply via op .busy 0 [] s := by
  simp [standard, hcore, hsvc, hbusy]

theorem standard_inDump (hserves : Serves s) (hdump : s.spn.mode = .dump) :
    standard via op false k s = reply via op .busy 0 [] s := by
  obtain ⟨hcore, hsvc, hbusy, hhalt⟩ := hserves
  simp [standard, hcore, hsvc, hbusy, hhalt, hdump]

end Standard

/-! ### The doorbell of a vendor command -/

section Vendor

variable {via : Via} {op : Nat} {modes : List Mode} {m b : Bool} {k : State → State} {s : State}

theorem vendor_noCore (hcore : s.pwr.corePg = false) : vendor via op modes m b k s = s := by
  simp [vendor, hcore]

theorem vendor_restarting (hcore : s.pwr.corePg = true) (hsvc : s.sig.recoverySvc = false) (hbusy : s.pwr.fwBusy = true) :
    vendor via op modes m b k s = reply via op .busy 0 [] s := by
  simp [vendor, hcore, hsvc, hbusy]

theorem vendor_inDump (hserves : Serves s) (hdump : s.spn.mode = .dump) :
    vendor via op modes m b k s = reply via op .busy 0 [] s := by
  obtain ⟨hcore, hsvc, hbusy, hhalt⟩ := hserves
  simp [vendor, hcore, hsvc, hbusy, hhalt, hdump]

/-- A mode or a CCI that the command's row does not allow (R129). -/
theorem vendor_notAllowed (hserves : Serves s) (hdump : s.spn.mode ≠ .dump)
    (hrow : s.spn.mode ∉ modes ∨ (via = .mctp ∧ (m = false ∨ s.hlk.mctpVendorEn = false))) :
    vendor via op modes m b k s = vendorRefuse via op .unsupported 0x0001 s := by
  obtain ⟨hcore, hsvc, hbusy, hhalt⟩ := hserves
  by_cases hmode : s.spn.mode ∈ modes
  · have hcci := hrow.resolve_left (not_not.2 hmode)
    simp [vendor, hcore, hsvc, hbusy, hhalt, hdump, hmode, hcci]
  · simp [vendor, hcore, hsvc, hbusy, hhalt, hdump, hmode]

/-- A background command while another runs (R127). -/
theorem vendor_whileAnother (hserves : VendorServes via modes m false s) (hbg : s.hlk.bg.isSome = true) :
    vendor via op modes m true k s = reply via op .busy 0 [] s := by
  obtain ⟨⟨hcore, hsvc, hbusy, hhalt⟩, hdump, hmode, hcci, -⟩ := hserves
  have hpass : ¬ (via = .mctp ∧ (m = false ∨ s.hlk.mctpVendorEn = false)) := by
    rintro ⟨hvia, hoff⟩
    simp [hcci hvia] at hoff
  simp [vendor, hcore, hsvc, hbusy, hhalt, hdump, hmode, hpass, hbg]

end Vendor

/-! ### Which doorbell a command rings -/

/-- The doorbell that a command rings with its CCI and opcode: that of a standard command, whose answer may read the clock, or that of
a vendor command with its row of R129's table. -/
inductive Rings (c : Instr) (s : State) (via : Via) (op : Nat) (inDump : Bool) : Prop
  | standard (k : State → State) (hrow : vendorRow op = none) (h : exec c s = .next (standard via op inDump k s))
  | clocked (k : State → State) (hrow : vendorRow op = none) (h : exec c s = .next (useFree (Machine.standard via op inDump k s)))
  | vendor (modes : List Mode) (m b : Bool) (k : State → State) (h : exec c s = .next (vendor via op modes m b k s))
      (hrow : vendorRow op = some (modes, m, b))

theorem rings_of_mailboxOp {c : Instr} {via : Via} {op : Nat} {d : Bool} (h : mailboxOp c = some (via, op, d)) (s : State) :
    Rings c s via op d := by
  cases c
  case identifyMemoryDevice | getAlertConfiguration | setAlertConfiguration | getShutdownState | setShutdownState | getPoisonList |
      injectPoison | clearPoison | getSupportedLogs | getLog | getEventRecords | clearEventRecords | getEventInterruptPolicy |
      setEventInterruptPolicy | getFwInfo | transferFw | activateFw | setTimestamp =>
    cases h
    exact .standard _ rfl rfl
  case getHealthInfo | getTimestamp =>
    cases h
    exact .clocked _ rfl rfl
  case regionStateQuery | releaseRange | shadowRange | barrier | park | unpark | takeover | setPowerStateP0 | setPowerStateP2 |
      setPowerStateP3 | startLearning | calibrationDump | vaultInfo | retryGranule | arrayStatus | arrayBarrier | rollUpdate |
      arrayUnknownSubopcode =>
    cases h
    exact .vendor _ _ _ _ rfl rfl
  all_goals cases h

section Rings

variable {c : Instr} {s : State} {via : Via} {op : Nat} {d : Bool} (hrings : Rings c s via op d)
include hrings

/-- Where every doorbell comes to the same state, that is the command's next state but for the counter of free values. -/
theorem Rings.exec_eq {u : State} (hstandard : ∀ k, Machine.standard via op d k s = u)
    (hvendor : ∀ modes m b k, Machine.vendor via op modes m b k s = u) :
    ∃ t, exec c s = .next t ∧ t.out = u.out ∧ Keeps 0x400000 u t := by
  rcases hrings with ⟨k, -, h⟩ | ⟨k, -, h⟩ | ⟨modes, m, b, k, h, -⟩
  · exact ⟨u, hstandard k ▸ h, rfl, Keeps.refl _ u⟩
  · exact ⟨useFree u, hstandard k ▸ h, rfl, useFree_keeps (by decide) (Keeps.refl _ u)⟩
  · exact ⟨u, hvendor modes m b k ▸ h, rfl, Keeps.refl _ u⟩

/-- Where every doorbell answers Busy, the command does, and changes nothing else. -/
theorem Rings.busy (hstandard : ∀ k, Machine.standard via op d k s = reply via op .busy 0 [] s)
    (hvendor : ∀ modes m b k, Machine.vendor via op modes m b k s = reply via op .busy 0 [] s) :
    ∃ t, exec c s = .next t ∧ t.out = s.out ++ [.mbox via op .busy 0 []] ∧ OnlyIn [.out, .free] s t := by
  obtain ⟨t, ht, hout, hkeeps⟩ := hrings.exec_eq hstandard hvendor
  have hreply : Keeps 0x600000 s (reply via op .busy 0 [] s) := reply_keeps _ _ _ _ _ (by decide) (Keeps.refl _ s)
  exact ⟨t, ht, hout, fr (hkeeps.step (by decide) hreply) (by decide)⟩

/-- An opcode of R129's table is that of a vendor command with the modes and the CCIs of its row. -/
theorem Rings.ofRow {modes : List Mode} {m b : Bool} (hrow : vendorRow op = some (modes, m, b)) :
    ∃ k, exec c s = .next (Machine.vendor via op modes m b k s) := by
  rcases hrings with ⟨k, hnone, -⟩ | ⟨k, hnone, -⟩ | ⟨modes', m', b', k, h, hrow'⟩
  · simp [hnone] at hrow
  · simp [hnone] at hrow
  · obtain ⟨rfl, rfl, rfl⟩ : modes' = modes ∧ m' = m ∧ b' = b := by simpa [hrow] using hrow'.symm
    exact ⟨k, h⟩

end Rings

/-! ### The commands that execute in DUMP (R128) -/

/-- A command has answered on its CCI with something else than Busy, and changed nothing else but the counter of free values. -/
def AnswersOnly (via : Via) (op : Nat) (s t : State) : Prop :=
  ∃ r p, r ≠ Ret.busy ∧ t.out = s.out ++ [.mbox via op r 0 p] ∧ Keeps 0x600000 s t

theorem answersOnly_reply {via : Via} {op : Nat} {r : Ret} {p : Fields} {s u : State} (hr : r ≠ .busy) (hout : u.out = s.out)
    (hkeeps : Keeps 0x600000 s u) : AnswersOnly via op s (reply via op r 0 p u) :=
  ⟨r, p, hr, congrArg (· ++ [Output.mbox via op r 0 p]) hout, reply_keeps _ _ _ _ _ (by decide) hkeeps⟩

/-- A command whose body is one answer. -/
theorem answersOnly_answer {via : Via} {op : Nat} {f : State → Fields} {s : State} (hserves : Serves s) :
    AnswersOnly via op s (answer via op true f s) := by
  rw [answer, standard_serves hserves fun _ => rfl]
  exact answersOnly_reply (by decide) rfl (Keeps.refl _ s)

theorem AnswersOnly.useFree {via : Via} {op : Nat} {s t : State} (h : AnswersOnly via op s t) :
    AnswersOnly via op s (useFree t) := by
  obtain ⟨r, p, hr, hout, hkeeps⟩ := h
  exact ⟨r, p, hr, hout, useFree_keeps (by decide) hkeeps⟩

theorem getLog_answersOnly {via : Via} {uuid off len : Nat} {s : State} (hserves : Serves s) :
    ∃ t, exec (.getLog via uuid off len) s = .next t ∧ AnswersOnly via 0x0401 s t := by
  refine ⟨_, congrArg Host.Outcome.next (standard_serves hserves fun _ => rfl), ?_⟩
  dsimp only
  split
  · exact answersOnly_reply (by decide) rfl (Keeps.refl _ s)
  · split
    · exact answersOnly_reply (by decide) rfl (by simp)
    · exact answersOnly_reply (by decide) rfl (Keeps.refl _ s)

theorem getEventRecords_answersOnly {via : Via} {log : Nat} {s : State} (hserves : Serves s) :
    ∃ t, exec (.getEventRecords via log) s = .next t ∧ AnswersOnly via 0x0100 s t := by
  refine ⟨_, congrArg Host.Outcome.next (standard_serves hserves fun _ => rfl), ?_⟩
  dsimp only
  split <;> exact answersOnly_reply (by decide) rfl (Keeps.refl _ s)

theorem answersOnly_of_mailboxOp {c : Instr} {via : Via} {op : Nat} {s : State} (h : mailboxOp c = some (via, op, true))
    (hserves : Serves s) : ∃ t, exec c s = .next t ∧ AnswersOnly via op s t := by
  cases c
  case identifyMemoryDevice | getFwInfo =>
    cases h
    exact ⟨_, rfl, answersOnly_answer hserves⟩
  case getHealthInfo =>
    cases h
    exact ⟨_, rfl, (answersOnly_answer hserves).useFree⟩
  case getLog =>
    cases h
    exact getLog_answersOnly hserves
  case getEventRecords =>
    cases h
    exact getEventRecords_answersOnly hserves
  all_goals cases h

/-! ### The statement -/

/-- Settles O18: a clause for each case of the doorbells, by which of them each command rings (R127 to R130, R585; log 21, 43, 126). -/
theorem mailboxDoorbells : Obligations.MailboxDoorbells := by
  refine ⟨?noCore, ?restarting, ?busyInDump, ?answersInDump, ?notAllowed, ?whileAnother⟩
  case noCore =>
    intro c s via op d hop hcore
    obtain ⟨t, ht, -, hkeeps⟩ := (rings_of_mailboxOp hop s).exec_eq (fun _ => standard_noCore hcore)
      (fun _ _ _ _ => vendor_noCore hcore)
    exact ⟨t, ht, fr hkeeps (by decide)⟩
  case restarting =>
    intro c s via op d hop hcore hsvc hbusy
    exact (rings_of_mailboxOp hop s).busy (fun _ => standard_restarting hcore hsvc hbusy)
      (fun _ _ _ _ => vendor_restarting hcore hsvc hbusy)
  case busyInDump =>
    intro c s via op hop hserves hdump
    exact (rings_of_mailboxOp hop s).busy (fun _ => standard_inDump hserves hdump) (fun _ _ _ _ => vendor_inDump hserves hdump)
  case answersInDump =>
    intro c s via op hop hserves _
    obtain ⟨t, ht, r, p, hr, hout, hkeeps⟩ := answersOnly_of_mailboxOp hop hserves
    exact ⟨t, r, p, ht, hr, hout, fr hkeeps (by decide)⟩
  case notAllowed =>
    intro c s via op d m b modes hop hrow hserves hdump hrefused
    obtain ⟨k, hk⟩ := (rings_of_mailboxOp hop s).ofRow hrow
    rw [hk, vendor_notAllowed hserves hdump hrefused]
    rfl
  case whileAnother =>
    intro c s via op d m modes hop hrow hserves hbg
    obtain ⟨k, hk⟩ := (rings_of_mailboxOp hop s).ofRow hrow
    rw [hk, vendor_whileAnother hserves hbg]
    rfl

end Sys2Proof.Machine
end

section
/-!
PROOFS. The standard commands that report and set (R124, R125, R128, R131, R557), the reporting vendor commands (R130), the DOE mailbox
(R133), and the statements about them.
-/

namespace Sys2Proof.Machine

/-! ### What a served command answers -/

/-- A command that only reports answers Success with its fields. -/
theorem answer_serves {via : Via} {op : Nat} {inDump : Bool} {f : State → Fields} {s : State} (hserves : Serves s)
    (hmode : s.spn.mode = .dump → inDump = true) : answer via op inDump f s = reply via op .success 0 (f s) s :=
  standard_serves hserves hmode

section Served

variable {s : State} (via : Via) (hserves : Serves s) (hdump : s.spn.mode ≠ .dump)
include hserves

theorem exec_getHealthInfo (temp : Nat) : exec (.getHealthInfo via temp) s = .next { (reply via 0x4200 .success 0
    [(1, healthBits s), (1, mediaStatus s), (1, min 255 ((s.shd.lifeUsed + 99) / 100)), (2, temp), (4, s.dmp.dsc), (4, 0),
      (4, s.hlk.correctedHost)] s) with free := s.free + 1 } :=
  congrArg (fun t => Host.Outcome.next (useFree t)) (answer_serves hserves fun _ => rfl)

theorem exec_getEventRecords {log : Nat} (hlog : log < 4) : exec (.getEventRecords via log) s = .next (reply via 0x0100 .success 0
    ([(1, flag (decide (31 < (hostLog s log).length))), (2, min 31 (hostLog s log).length)] ++
      ((hostLog s log).take 31).flatMap (fun e => [(1, flag e.memoryModule), (2, e.id), (8, e.seq)])) s) := by
  show Host.Outcome.next (standard via 0x0100 true _ s) = _
  rw [standard_serves hserves fun _ => rfl, if_neg (Nat.not_le.2 hlog)]

theorem exec_getEventRecords_noLog {log : Nat} (hlog : 4 ≤ log) :
    exec (.getEventRecords via log) s = .next (reply via 0x0100 .invalidInput 0 [] s) := by
  show Host.Outcome.next (standard via 0x0100 true _ s) = _
  rw [standard_serves hserves fun _ => rfl, if_pos hlog]

/-- GET_LOG of the vendor log: a portion of the Sedge ring's bytes, of 4 KiB at most. -/
theorem exec_getLog_vendor (off len : Nat) : exec (.getLog via vendorLogUuid off len) s = .next (
    if 4096 < len then reply via 0x0401 .invalidInput 0 [] s
    else reply via 0x0401 .success 0 (((sedgeLogBytes s).drop off |>.take len).map (fun x => (1, x))) s) := by
  have hother : vendorLogUuid ≠ celUuid := by decide
  show Host.Outcome.next (standard via 0x0401 true _ s) = _
  rw [standard_serves hserves fun _ => rfl]
  simp [hother]

include hdump

theorem exec_getTimestamp :
    exec (.getTimestamp via) s = .next { (reply via 0x0300 .success 0 [(8, deviceTime s)] s) with free := s.free + 1 } :=
  congrArg (fun t => Host.Outcome.next (useFree t)) (answer_serves hserves fun h => absurd h hdump)

theorem exec_clearEventRecords {log : Nat} (hlog : log < 4) (count : Nat) (all : Bool) : exec (.clearEventRecords via log count all) s =
    .next (reply via 0x0101 .success 0 [] (setHostLog log (if all then [] else (hostLog s log).drop count) s)) := by
  show Host.Outcome.next (standard via 0x0101 false _ s) = _
  rw [standard_serves hserves fun h => absurd h hdump, if_neg (Nat.not_le.2 hlog)]

theorem exec_clearEventRecords_noLog {log : Nat} (hlog : 4 ≤ log) (count : Nat) (all : Bool) :
    exec (.clearEventRecords via log count all) s = .next (reply via 0x0101 .invalidInput 0 [] s) := by
  show Host.Outcome.next (standard via 0x0101 false _ s) = _
  rw [standard_serves hserves fun h => absurd h hdump, if_pos hlog]

theorem exec_unsupportedOpcode {op : Nat} (hop : op ∉ listedOpcodes) :
    exec (.unsupportedOpcode via op) s = .next (reply via op .unsupported 0 [] s) := by
  have hlisted : ¬ listedOpcodes.contains op = true := by simpa using hop
  show Host.Outcome.next (if listedOpcodes.contains op then s else standard via op false _ s) = _
  rw [if_neg hlisted, standard_serves hserves fun h => absurd h hdump]

end Served

/-! ### The event logs of the host (R131) -/

theorem hostLog_setHostLog {log k : Nat} (hlog : log < 4) (hk : k < 4) (l : List HostEvent) (s : State) :
    hostLog (setHostLog log l s) k = if k = log then l else hostLog s k := by
  interval_cases log <;> interval_cases k <;> rfl

theorem setHostLog_out (log : Nat) (l : List HostEvent) (s : State) : (setHostLog log l s).out = s.out := by
  unfold setHostLog
  split <;> rfl

theorem clearEventRecords_effect {s : State} (via : Via) {log : Nat} (count : Nat) (all : Bool) (hserves : Serves s)
    (hdump : s.spn.mode ≠ .dump) (hlog : log < 4) : ∃ t, exec (.clearEventRecords via log count all) s = .next t ∧
      hostLog t log = (if all then [] else (hostLog s log).drop count) ∧ (∀ k, k < 4 → k ≠ log → hostLog t k = hostLog s k) ∧
      t.out = s.out ++ [.mbox via 0x0101 .success 0 []] ∧ OnlyIn [.hlk, .out] s t := by
  set l := if all then [] else (hostLog s log).drop count with hl
  have hreply (k : Nat) : hostLog (reply via 0x0101 .success 0 [] (setHostLog log l s)) k = hostLog (setHostLog log l s) k := rfl
  have hkeeps : Keeps 0x200010 s (reply via 0x0101 .success 0 [] (setHostLog log l s)) :=
    reply_keeps _ _ _ _ _ (by decide) (setHostLog_keeps log l (by decide) (Keeps.refl _ s))
  refine ⟨_, exec_clearEventRecords via hserves hdump hlog count all, ?_, fun k hk hne => ?_, ?_, fr hkeeps (by decide)⟩
  · rw [← hl, hreply, hostLog_setHostLog hlog hlog, if_pos rfl]
  · rw [← hl, hreply, hostLog_setHostLog hlog hk, if_neg hne]
  · exact congrArg (· ++ [Output.mbox via 0x0101 .success 0 []]) (setHostLog_out log l s)

/-! ### REGION_STATE_QUERY and VAULT_INFO (R130) -/

theorem exec_regionStateQuery {s : State} {via : Via} (r : Nat)
    (hserves : VendorServes via [.restore, .service, .parked, .test] true false s) : exec (.regionStateQuery via r) s = .next (
      if r < 256 then reply via 0xC000 .success 0 (regionReport s r) s else vendorRefuse via 0xC000 .invalidInput 0x0002 s) := by
  show Host.Outcome.next (vendor via 0xC000 _ true false _ s) = _
  rw [vendor_serves hserves]
  rcases Nat.lt_or_ge r 256 with hr | hr
  · rw [if_neg (Nat.not_le.2 hr), if_pos hr]
  · rw [if_pos hr, if_neg (Nat.not_lt.2 hr)]

/-! ### The DOE mailbox of a presented function (R133) -/

theorem exec_doe {c : Instr} {s t : State} (hpresented : s.hlk.presented = true)
    (h : exec c s = .next (if !s.hlk.presented then s else t)) : exec c s = .next t := by
  rw [h, hpresented]
  rfl

/-! ### The statements -/

/-- Settles O15: the reporting commands answer and change nothing else (R124, R125, R130, R133, R557; log 43). -/
theorem reportingCommandsAnswer : Obligations.ReportingCommandsAnswer := by
  refine ⟨?fields, ?logs, ?region, ?vault, ?doe⟩
  case fields =>
    intro s via hserves _
    exact ⟨congrArg Host.Outcome.next (answer_serves hserves fun _ => rfl), exec_getHealthInfo via hserves,
      congrArg Host.Outcome.next (answer_serves hserves fun _ => rfl)⟩
  case logs =>
    intro s via hserves hdump
    refine ⟨congrArg Host.Outcome.next (answer_serves hserves fun h => absurd h hdump), fun off len hlen => ?_, fun off len hlen => ?_⟩
    · exact (exec_getLog_vendor via hserves off len).trans (congrArg Host.Outcome.next (if_neg (Nat.not_lt.2 hlen)))
    · exact (exec_getLog_vendor via hserves off len).trans (congrArg Host.Outcome.next (if_pos hlen))
  case region => exact fun s via r hserves => exec_regionStateQuery r hserves
  case vault => exact fun s via hserves => ⟨_, rfl, congrArg Host.Outcome.next (vendor_serves hserves)⟩
  case doe =>
    intro s hpresented
    exact ⟨exec_doe hpresented rfl, exec_doe hpresented rfl, exec_doe hpresented rfl, exec_doe hpresented rfl⟩

/-- Settles O16: what is set is kept and read back, the logs and other opcodes answer by their number (R124, R128, R131; log 43). -/
theorem settingsEventLogsAndUnlisted : Obligations.SettingsEventLogsAndUnlisted := by
  refine ⟨?settings, ?records, ?cleared, ?noLog, ?unlisted⟩
  case settings =>
    intro s via hserves hdump
    have hmode {b : Bool} : s.spn.mode = .dump → b = true := fun h => absurd h hdump
    refine ⟨fun life hot cold corrected => ?alert, ?alertRead, fun v => ?shutdown, ?shutdownRead, fun info warn fail fatal => ?policy,
      ?policyRead, fun v => ?clock, exec_getTimestamp via hserves hdump⟩
    case alert | shutdown | policy | clock => exact congrArg Host.Outcome.next (standard_serves hserves hmode)
    case alertRead | shutdownRead | policyRead => exact congrArg Host.Outcome.next (answer_serves hserves hmode)
  case records => exact fun s via log hserves hlog => exec_getEventRecords via hserves hlog
  case cleared => exact fun s via log count all hserves hdump hlog => clearEventRecords_effect via count all hserves hdump hlog
  case noLog =>
    exact fun s via log count all hserves hdump hlog =>
      ⟨exec_getEventRecords_noLog via hserves hlog, exec_clearEventRecords_noLog via hserves hdump hlog count all⟩
  case unlisted => exact fun s via op hserves hdump hop => exec_unsupportedOpcode via hserves hdump hop

end Sys2Proof.Machine
end

section
/-!
PROOFS. Poison and released ranges (R124, R126, R130, R183, R185): a stored line's bytes and marks, the granule a release frees, one
equation for each case of the poison commands and of RELEASE_RANGE, and the statement about them.
-/

namespace Sys2Proof.Machine

/-- A write of the host link unit alone. -/
theorem keeps_hlk {s : State} (x : Hlk) : Keeps 0x10 s { s with hlk := x } :=
  (Keeps.refl _ s).direct (fun p hp => by cases p <;> simp_all [Part.bit, Part.same])

/-! ### The bytes and the marks of a stored line (R146, R603) -/

/-- A key that a run of writes to a table names reads as the run writes it. -/
theorem tget_foldl_tput {α : Type} [DecidableEq α] (d : α) {f : Nat → Nat} (hf : Function.Injective f) (v : Nat → α) (b : Nat) :
    ∀ (l : List Nat) (t : List (Nat × α)),
      tget d (l.foldl (fun t x => tput d t (f x) (v x)) t) (f b) = if b ∈ l then v b else tget d t (f b)
  | [], t => by simp
  | x :: l, t => by
    rw [List.foldl_cons, tget_foldl_tput d hf v b l, tget_tput]
    by_cases hx : b = x
    · simp [hx]
    · simp [hx, hf.ne hx]

/-- The DRAM after a run of byte writes. -/
theorem foldl_setByte_dram (f : Nat → Nat) (v : Nat → BitVec 8) (l : List Nat) (s : State) :
    (l.foldl (fun t b => setByte (f b) (v b) t) s).gst.dram = l.foldl (fun t b => tput 0 t (f b) (v b)) s.gst.dram := by
  induction l generalizing s with
  | nil => rfl
  | cons b l ih => exact ih _

/-- Byte `b` of a line after it is stored. -/
theorem dramByte_storeLine {b : Nat} (hb : b < 64) (line : Nat) (data : BitVec 512) (mask : Nat) (s : State) :
    dramByte (storeLine line data mask s) (line * 64 + b) =
      if mask.testBit b then BitVec.ofNat 8 (data.toNat >>> (8 * b)) else dramByte s (line * 64 + b) := by
  have hinj : Function.Injective (fun x => line * 64 + x) := add_right_injective _
  show tget 0 (((List.range 64).filter (fun b => mask.testBit b)).foldl
    (fun t b => setByte (line * 64 + b) (BitVec.ofNat 8 (data.toNat >>> (8 * b))) t) s).gst.dram (line * 64 + b) = _
  rw [foldl_setByte_dram, tget_foldl_tput 0 hinj]
  simp [hb, dramByte]

/-- The bytes of a number from the lowest give the number back. -/
theorem leValue_bytes (n : Nat) : ∀ k, leValue ((List.range k).map (fun b => n / 256 ^ b % 256)) = n % 256 ^ k
  | 0 => by simp [leValue, Nat.mod_one]
  | k + 1 => by
    have hrest : (List.range k).map ((fun b => n / 256 ^ b % 256) ∘ Nat.succ) = (List.range k).map (fun b => n / 256 / 256 ^ b % 256) :=
      List.map_congr_left fun b _ => by simp [Nat.pow_succ', Nat.div_div_eq_div_mul]
    rw [List.range_succ_eq_map, List.map_cons, List.map_map, hrest, leValue, leValue_bytes (n / 256) k, Nat.pow_succ',
      Nat.mod_mul]
    simp

/-- A line stored whole reads back. -/
theorem lineData_storeLine_whole (line : Nat) (data : BitVec 512) (s : State) :
    lineData (storeLine line data (2 ^ 64 - 1) s) line = data := by
  have hbyte : (List.range 64).map (fun b => (dramByte (storeLine line data (2 ^ 64 - 1) s) (line * 64 + b)).toNat) =
      (List.range 64).map (fun b => data.toNat / 256 ^ b % 256) := by
    refine List.map_congr_left fun b hb => ?_
    have hb : b < 64 := List.mem_range.1 hb
    rw [dramByte_storeLine hb, Nat.testBit_two_pow_sub_one, decide_eq_true hb, if_pos rfl, BitVec.toNat_ofNat,
      Nat.shiftRight_eq_div_pow, Nat.pow_mul]
  rw [lineData, hbyte, leValue_bytes]
  apply BitVec.eq_of_toNat_eq
  rw [BitVec.toNat_ofNat]
  have := data.isLt
  omega

theorem foldl_setByte_poison (f : Nat → Nat) (v : Nat → BitVec 8) (l : List Nat) (s : State) :
    (l.foldl (fun t b => setByte (f b) (v b) t) s).gst.poison = s.gst.poison :=
  foldl_keeps_value (φ := fun t => t.gst.poison) (f := fun t b => setByte (f b) (v b) t) (fun _ _ => rfl) l s

theorem lineData_of_gst {s t : State} (h : t.gst = s.gst) (line : Nat) : lineData t line = lineData s line := by
  simp only [lineData, dramByte, h]

/-- A line stored whole loses every mark, and no other line loses one. -/
theorem mem_poison_storeLine_whole (line : Nat) (data : BitVec 512) (s : State) (p : Nat) :
    p ∈ (storeLine line data (2 ^ 64 - 1) s).gst.poison ↔ p ∈ s.gst.poison ∧ p / 8 ≠ line := by
  have hclean : (List.range 8).filter (fun w => ((2 ^ 64 - 1) >>> (8 * w)) % 256 = 255) = List.range 8 := by decide
  have hword : p % 8 < 8 := Nat.mod_lt _ (by decide)
  simp only [storeLine, foldl_setByte_poison, hclean, List.mem_filter]
  simp [hword]

/-! ### A released granule (R183) -/

theorem hdmGranules_of_spn {s t : State} (h : t.spn = s.spn) : hdmGranules t = hdmGranules s := by
  unfold hdmGranules nQuads quadList
  rw [h]

/-- The granule tables after a state word is written: that word, below the end of the HDM range (R24). -/
theorem setWord_gst (g : Nat) (w : GWord) (s : State) : (setWord g w s).gst =
    if g < hdmGranules s then { s.gst with states := tput freeWord s.gst.states g w } else s.gst := by
  by_cases hg : g < hdmGranules s
  · rw [setWord, if_pos hg, if_pos hg]
    unfold plantSram
    split <;> rfl
  · rw [setWord, if_neg hg, if_neg hg]

theorem gword_setWord {g : Nat} {s : State} (hg : g < hdmGranules s) (w : GWord) (h : Nat) :
    gword (setWord g w s) h = if h = g then w else gword s h := by
  rw [gword, setWord_gst, if_pos hg, tget_tput, gword]

/-- Releasing a granule's reservation leaves the state words alone. -/
theorem dropRsv_states (g : Nat) (s : State) : (dropRsv g s).gst.states = s.gst.states := by
  have hkeeps (t : State) : (refreshLeases (refreshConditions false t)).gst = t.gst :=
    (refreshLeases_keeps (m := 0x302020) (by decide) (refreshConditions_keeps _ (by decide) (Keeps.refl _ t))).gstEq
      (by decide) (by decide)
  rw [dropRsv, hkeeps]

theorem releaseGranule_states (g : Nat) (s : State) :
    (releaseGranule g s).gst.states = (setWord g freeWord (dropRsv g (cipEndOp .decrypt g s))).gst.states := by
  -- a variable in place of the written state: comparing its fields would unfold the number of granules
  obtain ⟨t, ht⟩ : ∃ t, t = setWord g freeWord (dropRsv g (cipEndOp .decrypt g s)) := ⟨_, rfl⟩
  unfold releaseGranule
  rw [← ht]
  dsimp only
  split <;> rfl

/-- A released granule reads FREE with MIRROR_STALE clear, and every other granule as before. -/
theorem gword_releaseGranule {g : Nat} {s : State} (hg : g < hdmGranules s) (h : Nat) :
    gword (releaseGranule g s) h = if h = g then freeWord else gword s h := by
  have hcip : Keeps 0x120000 s (cipEndOp .decrypt g s) := cipEndOp_keeps _ _ (by decide) (Keeps.refl _ s)
  have hdrop : Keeps 0x322060 s (dropRsv g (cipEndOp .decrypt g s)) := dropRsv_keeps g (by decide) (hcip.mono (by decide))
  have hstates : (dropRsv g (cipEndOp .decrypt g s)).gst.states = s.gst.states :=
    (dropRsv_states g _).trans (congrArg Gst.states (hcip.gstEq (by decide) (by decide)))
  have hgranules : hdmGranules (dropRsv g (cipEndOp .decrypt g s)) = hdmGranules s :=
    hdmGranules_of_spn (hdrop.spnEq (by decide) (by decide))
  calc gword (releaseGranule g s) h
      = gword (setWord g freeWord (dropRsv g (cipEndOp .decrypt g s))) h :=
        congrArg (tget freeWord · h) (releaseGranule_states g s)
    _ = if h = g then freeWord else gword (dropRsv g (cipEndOp .decrypt g s)) h := gword_setWord (hg.trans_eq hgranules.symm) freeWord h
    _ = if h = g then freeWord else gword s h := by rw [gword, hstates, gword]

/-! ### The poison commands (R124, R126) -/

/-- The line with all its words marked, and its granule among the injected ones. -/
def poisonInjected (dpa : Nat) (s : State) : State :=
  { poisonLine (dpa / 64) true s with hlk := { s.hlk with injected := sins (dpa / 16384) s.hlk.injected } }

theorem poisonInjected_keeps (dpa : Nat) (s : State) : Keeps 0x50 s (poisonInjected dpa s) :=
  (keeps_hlk _).step (by decide) (poisonLine_keeps _ _ (by decide) (Keeps.refl _ s))

/-- The line stored whole with the data given; its granule leaves the injected ones, with vector 10, once no line of it is marked. -/
def poisonCleared (dpa : Nat) (data : BitVec 512) (s : State) : State :=
  let t := storeLine (dpa / 64) data (2 ^ 64 - 1) s
  if s.hlk.injected.contains (dpa / 16384) ∧ !(List.range 256).any (fun k => linePoisoned t (dpa / 16384 * 256 + k)) then
    msix 10 { t with hlk := { t.hlk with injected := sdel t.hlk.injected (dpa / 16384) } }
  else t

theorem poisonCleared_gst (dpa : Nat) (data : BitVec 512) (s : State) :
    (poisonCleared dpa data s).gst = (storeLine (dpa / 64) data (2 ^ 64 - 1) s).gst := by
  unfold poisonCleared
  extract_lets t
  split <;> rfl

theorem poisonCleared_keeps (dpa : Nat) (data : BitVec 512) (s : State) : Keeps 0x1200050 s (poisonCleared dpa data s) := by
  have hstore : Keeps 0x1200050 s (storeLine (dpa / 64) data (2 ^ 64 - 1) s) := storeLine_keeps _ _ _ (by decide) (Keeps.refl _ s)
  exact .ite (msix_keeps _ (by decide) ((keeps_hlk _).step (by decide) hstore)) hstore

section Poison

variable {s : State} (via : Via) (dpa : Nat) (hserves : Serves s)
include hserves

/-- In a mode other than TEST neither command does anything (R124). -/
theorem poisonCommands_unsupported (data : BitVec 512) (hdump : s.spn.mode ≠ .dump) (htest : s.spn.mode ≠ .test) :
    exec (.injectPoison via dpa) s = .next (reply via 0x4301 .unsupported 0x0001 [] s) ∧
    exec (.clearPoison via dpa data) s = .next (reply via 0x4302 .unsupported 0x0001 [] s) := by
  constructor
  · show Host.Outcome.next (standard via 0x4301 false _ s) = _
    rw [standard_serves hserves fun h => absurd h hdump, if_pos htest]
  · show Host.Outcome.next (standard via 0x4302 false _ s) = _
    rw [standard_serves hserves fun h => absurd h hdump, if_pos htest]

variable {dpa} (htest : s.spn.mode = .test) (halign : dpa % 64 = 0) (hrange : dpa < hdmGranules s * 16384)
include htest halign hrange

theorem exec_injectPoison (hlimit : s.hlk.injected.length < 16) :
    exec (.injectPoison via dpa) s = .next (reply via 0x4301 .success 0 [] (msix 10 (poisonInjected dpa s))) := by
  have hline : lineOk s dpa = true := by simp [lineOk, halign, hrange]
  show Host.Outcome.next (standard via 0x4301 false _ s) = _
  rw [standard_serves hserves fun h => by simp [htest] at h, if_neg (not_not.2 htest), if_neg (by simp [hline, hlimit])]
  rfl

theorem injectPoison_effect (hlimit : s.hlk.injected.length < 16) : ∃ t, exec (.injectPoison via dpa) s = .next t ∧
      (∀ p, p ∈ t.gst.poison ↔ p / 8 = dpa / 64 ∨ p ∈ s.gst.poison) ∧
      (∀ g, g ∈ t.hlk.injected ↔ g = dpa / 16384 ∨ g ∈ s.hlk.injected) ∧
      t.out = s.out ++ [.msix 10, .mbox via 0x4301 .success 0 []] ∧ OnlyIn [.gst, .hlk, .out] s t := by
  have hkeeps : Keeps 0x200050 s (reply via 0x4301 .success 0 [] (msix 10 (poisonInjected dpa s))) :=
    reply_keeps _ _ _ _ _ (by decide) (msix_keeps _ (by decide) ((poisonInjected_keeps dpa s).mono (by decide)))
  exact ⟨_, exec_injectPoison via hserves htest halign hrange hlimit, mem_poisonLine (dpa / 64) true s,
    fun g => mem_sins (dpa / 16384) g s.hlk.injected, List.append_assoc _ _ _, fr hkeeps (by decide)⟩

theorem exec_clearPoison (data : BitVec 512) (hmarked : linePoisoned s (dpa / 64) = true) :
    exec (.clearPoison via dpa data) s = .next (reply via 0x4302 .success 0 [] (poisonCleared dpa data s)) := by
  have hline : lineOk s dpa = true := by simp [lineOk, halign, hrange]
  show Host.Outcome.next (standard via 0x4302 false _ s) = _
  rw [standard_serves hserves fun h => by simp [htest] at h, if_neg (not_not.2 htest), if_neg (by simp [hline]), if_pos hmarked]
  rfl

theorem clearPoison_effect (data : BitVec 512) (hmarked : linePoisoned s (dpa / 64) = true) :
    ∃ t, exec (.clearPoison via dpa data) s = .next t ∧ lineData t (dpa / 64) = data ∧
      (∀ p, p ∈ t.gst.poison ↔ p ∈ s.gst.poison ∧ p / 8 ≠ dpa / 64) ∧ OnlyIn [.gst, .dram, .hlk, .out] s t := by
  have hgst : (reply via 0x4302 .success 0 [] (poisonCleared dpa data s)).gst = (storeLine (dpa / 64) data (2 ^ 64 - 1) s).gst :=
    poisonCleared_gst dpa data s
  refine ⟨_, exec_clearPoison via hserves htest halign hrange data hmarked, ?_, fun p => ?_,
    fr (reply_keeps _ _ _ _ _ (by decide) (poisonCleared_keeps dpa data s)) (by decide)⟩
  · rw [lineData_of_gst hgst, lineData_storeLine_whole]
  · rw [hgst, mem_poison_storeLine_whole]

end Poison

/-! ### RELEASE_RANGE (R130, R183, R185) -/

/-- A range of an ONLINE region is released; the command answers at once where no partner is told of it. -/
theorem exec_releaseRange {s : State} {dpa len r n : Nat} {u : State} {p : Bool × State}
    (hserves : VendorServes .primary [.restore, .service, .test] false false s) (hrange : rangeRegion s dpa len = .inl r)
    (hn : (rangeUsed s (dpa / 16384) (len / 16384)).length = n) (hu : releaseRange r (dpa / 16384) (len / 16384) s = u)
    (hp : forwardRelease r (dpa / 16384) (len / 16384) n .primary u = p) : exec (.releaseRange .primary dpa len) s =
      .next (settleFor (shareFreed s (if p.1 then p.2 else releaseOver ⟨r, dpa / 16384, len / 16384, n, .primary, true⟩ p.2))
        (if p.1 then p.2 else releaseOver ⟨r, dpa / 16384, len / 16384, n, .primary, true⟩ p.2)) := by
  show Host.Outcome.next (vendor .primary 0xC001 _ false false _ s) = _
  rw [vendor_serves hserves, hrange]
  dsimp only
  rw [hn, hu, hp]

theorem exec_releaseRange_refused {s : State} {dpa len e : Nat}
    (hserves : VendorServes .primary [.restore, .service, .test] false false s) (hrange : rangeRegion s dpa len = .inr e) :
    exec (.releaseRange .primary dpa len) s = .next (vendorRefuse .primary 0xC001 .invalidInput e s) := by
  show Host.Outcome.next (vendor .primary 0xC001 _ false false _ s) = _
  rw [vendor_serves hserves, hrange]

theorem rangeRegion_notAligned {s : State} {dpa : Nat} (len : Nat) (h : dpa % 16384 ≠ 0) : rangeRegion s dpa len = .inr 2 :=
  if_pos (.inl h)

theorem forwardRelease_unpaired {u : State} (r first count n : Nat) (via : Via) (h : u.kor.state = .unpaired) :
    forwardRelease r first count n via u = (false, u) :=
  if_pos (.inr h)

/-! ### The statement -/

/-- Settles O17: a clause for each case of the poison commands and of RELEASE_RANGE, and what a release does to the granule's state
(R124, R126, R130, R183, R185; log 44, 130). -/
theorem poisonAndReleaseCommands : Obligations.PoisonAndReleaseCommands := by
  refine ⟨?list, ?inject, ?clear, ?unsupported, ?release, ?answer, ?unpaired, ?granule, ?notAligned⟩
  case list => exact fun s via dpa len hserves hdump => congrArg Host.Outcome.next (standard_serves hserves fun h => absurd h hdump)
  case inject =>
    exact fun s via dpa hserves htest halign hrange hlimit => injectPoison_effect via hserves htest halign hrange hlimit
  case clear =>
    exact fun s via dpa data hserves htest halign hrange hmarked =>
      clearPoison_effect via hserves htest halign hrange data hmarked
  case unsupported =>
    exact fun s via dpa data hserves hdump htest => poisonCommands_unsupported via dpa hserves data hdump htest
  case release => exact fun s dpa len r hserves hrange => ⟨_, _, _, rfl, rfl, rfl, exec_releaseRange hserves hrange rfl rfl rfl⟩
  case answer => exact fun _ _ _ _ _ => rfl
  case unpaired => exact fun u r first count n hpair => forwardRelease_unpaired r first count n .primary hpair
  case granule =>
    intro s g hg
    refine ⟨?_, fun h hne => ?_⟩
    · rw [gword_releaseGranule hg, if_pos rfl, freeWord]
    · rw [gword_releaseGranule hg, if_neg hne]
  case notAligned =>
    exact fun s dpa len hserves halign => exec_releaseRange_refused hserves (rangeRegion_notAligned len halign)

end Sys2Proof.Machine
end

section
/-!
PROOFS. Host accesses (R115, R116, R122, R134, R144, R150, R157, R161, R191, R197): one equation for each way a write and a read go at
the ingress, what an attempt of admission does to the write it holds or admits, the end of a write's burst, and the statement about them.
-/

namespace Sys2Proof.Machine

/-! ### An access that no region serves (R122) -/

theorem hostEvent_raised (log : Nat) (memoryModule : Bool) (id arg : Nat) (s : State) :
    (hostEvent log memoryModule id arg s).raised = s.raised :=
  (hostEvent_keeps (m := 0x200010) log memoryModule id arg (by decide) (Keeps.refl _ s)).raisedEq (by decide)

/-- A Warning record goes into its log and leaves the rest of the host link unit alone. -/
theorem hostEvent_warning_hlk (memoryModule : Bool) (id arg : Nat) (s : State) :
    ∃ l, (hostEvent 1 memoryModule id arg s).hlk = { s.hlk with logWarn := l } := by
  unfold hostEvent
  extract_lets
  split <;> exact ⟨_, rfl⟩

/-- One more discarded write under its index. -/
def discardCounted (idx : Nat) (s : State) : State :=
  { s with hlk := { s.hlk with writesDiscarded := tput 0 s.hlk.writesDiscarded idx (satAdd 32 (tget 0 s.hlk.writesDiscarded idx) 1) } }

/-- An episode of accesses under an index has had its Warning record. -/
def episodeNoted (idx : Nat) (s : State) : State := { s with hlk := { s.hlk with warned := sins idx s.hlk.warned } }

theorem offlineAccess_write_warned {idx : Nat} {s : State} (h : idx ∈ s.hlk.warned) :
    offlineAccess idx true s = raise 0x0203 0x01 [(2, idx)] (discardCounted idx s) :=
  if_pos (List.contains_iff_mem.2 h)

theorem offlineAccess_write_first {idx : Nat} {s : State} (h : idx ∉ s.hlk.warned) : offlineAccess idx true s =
    hostEvent 1 true 0x0203 idx (episodeNoted idx (raise 0x0203 0x01 [(2, idx)] (discardCounted idx s))) :=
  if_neg (mt List.contains_iff_mem.1 h)

/-- A write that no region serves is counted under its index and logged, in an episode with its Warning record; writes and credits
stay. -/
theorem offlineAccess_write_effect (idx : Nat) (s : State) :
    tget 0 (offlineAccess idx true s).hlk.writesDiscarded idx = satAdd 32 (tget 0 s.hlk.writesDiscarded idx) 1 ∧
    (offlineAccess idx true s).hlk.rwdFree = s.hlk.rwdFree ∧ (offlineAccess idx true s).hlk.writes = s.hlk.writes ∧
    idx ∈ (offlineAccess idx true s).hlk.warned ∧
    (offlineAccess idx true s).raised = s.raised ++ [⟨0x0203, 0x01, [(2, idx)]⟩] := by
  by_cases hwarned : idx ∈ s.hlk.warned
  · rw [offlineAccess_write_warned hwarned]
    simp [discardCounted, hwarned]
  · obtain ⟨l, hl⟩ := hostEvent_warning_hlk true 0x0203 idx
      (episodeNoted idx (raise 0x0203 0x01 [(2, idx)] (discardCounted idx s)))
    rw [offlineAccess_write_first hwarned, hl, hostEvent_raised]
    simp [discardCounted, episodeNoted, mem_sins]

/-- An access with a credit and a tag that no other one has goes on (R116). -/
theorem credited_fresh {α : Type} {credits tag : Nat} {f : α → Nat} {l : List α} (hcredit : 0 < credits)
    (hfresh : l.all (fun x => f x ≠ tag) = true) : ¬ (credits = 0 || l.any (fun x => f x = tag)) = true := by
  have hcredit : credits ≠ 0 := by omega
  simpa [hcredit] using hfresh

/-! ### MEM_WRITE (R115, R144, R161) -/

section Write

variable {s : State} {tag hpa line : Nat} (mask : Nat) (data : BitVec 512) (bad : Bool) (hlink : s.hlk.linkUp = true)
  (hline : dpaLine s hpa = some line) (hcredit : 0 < s.hlk.rwdFree) (hfresh : s.hlk.writes.all (fun w => w.tag ≠ tag) = true)
include hlink hline

theorem exec_memWrite : exec (.memWrite tag hpa mask data bad) s = .next (memWriteAt tag line mask data bad s) := by
  show Host.Outcome.next (if !s.hlk.linkUp then s else match dpaLine s hpa with
    | none => s
    | some l => memWriteAt tag l mask data bad s) = _
  rw [hlink, hline]
  rfl

include hcredit hfresh

/-- After ingress close the write takes its credit and is counted. -/
theorem memWrite_afterClose (hclosed : s.hlk.ingressClosed = true) : exec (.memWrite tag hpa mask data bad) s = .next { s with
    hlk := { s.hlk with rwdFree := s.hlk.rwdFree - 1 }, wrp := { s.wrp with truncated := satAdd 8 s.wrp.truncated 1 } } := by
  rw [exec_memWrite mask data bad hlink hline, memWriteAt, if_neg (credited_fresh hcredit hfresh), if_pos hclosed]

variable (hopen : s.hlk.ingressClosed = false)
include hopen

theorem memWrite_discarded (hserved : accessServed s (granuleOf line) = false) : exec (.memWrite tag hpa mask data bad) s =
    .next (send (.ndr tag (devLoad (offlineAccess (offlIndex s (granuleOf line)) true s)))
      (offlineAccess (offlIndex s (granuleOf line)) true s)) := by
  rw [exec_memWrite mask data bad hlink hline, memWriteAt, if_neg (credited_fresh hcredit hfresh), hopen, hserved]
  rfl

theorem memWrite_served {r : Nat} (hserved : accessServed s (granuleOf line) = true) (hregion : regionOf s (granuleOf line) = some r) :
    exec (.memWrite tag hpa mask data false) s = .next (settle (tryAdmit (newWrite tag line (mask % 2 ^ 64) r data false)
      { s with hlk := { s.hlk with writes := s.hlk.writes ++ [newWrite tag line (mask % 2 ^ 64) r data false],
                                   rwdFree := s.hlk.rwdFree - 1 } })) := by
  rw [exec_memWrite mask data false hlink hline, memWriteAt, if_neg (credited_fresh hcredit hfresh)]
  simp only [hopen, hserved, hregion, Bool.not_true, Bool.false_eq_true, if_false]

end Write

/-! ### MEM_READ (R115, R157) -/

/-- One more read waits. -/
def readWaiting (r : ReadRec) (s : State) : State := { s with hlk := { s.hlk with reads := s.hlk.reads ++ [r] } }

section Read

variable {s : State} {tag hpa line : Nat} (errs again : List SymErr) (hlink : s.hlk.linkUp = true)
  (hline : dpaLine s hpa = some line) (hcredit : 0 < s.hlk.reqFree) (hfresh : s.hlk.reads.all (fun r => r.tag ≠ tag) = true)
  (hopen : s.hlk.ingressClosed = false)
include hlink hline

theorem exec_memRead : exec (.memRead tag hpa errs again) s = .next (memReadAt tag line errs again s) := by
  show Host.Outcome.next (if !s.hlk.linkUp then s else match dpaLine s hpa with
    | none => s
    | some l => memReadAt tag l errs again s) = _
  rw [hlink, hline]
  rfl

include hcredit hfresh hopen

theorem memRead_poisoned (hserved : accessServed s (granuleOf line) = false) : exec (.memRead tag hpa errs again) s =
    .next (sendDrs tag 0 true (offlineAccess (offlIndex s (granuleOf line)) false s)) := by
  rw [exec_memRead errs again hlink hline, memReadAt, if_neg (credited_fresh hcredit hfresh), hopen, hserved]
  rfl

theorem memRead_waits (hserved : accessServed s (granuleOf line) = true) (hstate : gstate s (granuleOf line) ≠ .pending)
    (hready : memReady s (quadOf s (granuleOf line)) = true) : exec (.memRead tag hpa errs again) s =
      .next (settle (readWaiting ⟨tag, line, errs, again⟩ s)) := by
  rw [exec_memRead errs again hlink hline, memReadAt, if_neg (credited_fresh hcredit hfresh), if_neg (by simp [hopen]),
    if_neg (by simp [hserved])]
  extract_lets hlk s1 s2
  have hs2 : s2 = readWaiting ⟨tag, line, errs, again⟩ s := if_neg hstate
  have hready : memReady s2 (quadOf s2 (granuleOf line)) = true := by
    rw [hs2]
    exact hready
  rw [if_pos hready, hs2]

end Read

/-! ### Admission (R144, R191) -/

theorem mem_modWrite {tag : Nat} {f : WriteRec → WriteRec} {s : State} {x : WriteRec}
    (hx : x ∈ (modWrite tag f s).hlk.writes) (hxtag : x.tag = tag) : ∃ w ∈ s.hlk.writes, x = f w := by
  obtain ⟨w, hw, rfl⟩ := List.mem_map.1 hx
  by_cases htag : w.tag = tag
  · exact ⟨w, hw, if_pos htag⟩
  · rw [if_neg htag] at hxtag
    contradiction

/-- The write's record as the GST holds it. -/
def heldFor (h : Hold) (w : WriteRec) : WriteRec := { w with hold := h, everHeld := true }

/-- A write that has not been held is held for the budget, and counted. -/
theorem tryAdmit_budget {s : State} {w : WriteRec} (hhold : admitHold s w = .budget) (hnew : w.hold = .none) :
    tryAdmit w s = { modWrite w.tag (heldFor .budget) s with
      wrp := { s.wrp with budgetHolds := satAdd 32 s.wrp.budgetHolds 1 } } := by
  simp [tryAdmit, hhold, hnew, noteHold, modWrite, heldFor]

theorem tryAdmit_budget_effect {s : State} {w : WriteRec} (hhold : admitHold s w = .budget) (hnew : w.hold = .none) :
    (tryAdmit w s).wrp.budgetHolds = satAdd 32 s.wrp.budgetHolds 1 ∧ OnlyIn [.hlk, .wrp] s (tryAdmit w s) ∧
      (∀ x ∈ (tryAdmit w s).hlk.writes, x.tag = w.tag → x.hold = .budget ∧ x.everHeld = true) := by
  rw [tryAdmit_budget hhold hnew]
  refine ⟨rfl, ?_, fun x hx htag => ?_⟩
  · have hkeeps : Keeps 0x30 s (modWrite w.tag (heldFor .budget) s) := modWrite_keeps _ _ (by decide) (Keeps.refl _ s)
    exact fr (hkeeps.direct fun p hp => by cases p <;> simp_all [Part.bit, Part.same, modWrite]) (by decide)
  · obtain ⟨v, -, rfl⟩ := mem_modWrite hx htag
    exact ⟨rfl, rfl⟩

/-- The record of a write that the GST has admitted, with the mirror leg it waits for. -/
def admittedAs (c : AckClass) (leg : Bool) (m : Nat) (pressed : Bool) (w : WriteRec) : WriteRec :=
  { w with hold := .none, eff := c, admitted := decide (c ≠ .vaulted), mirror := if leg then .waiting m else .none, pressed := pressed }

/-- The writes after an admission: the admitted one's record is rewritten, after all else that touches them. -/
theorem admitNow_writes (w : WriteRec) (c : AckClass) (leg sent : Bool) (s : State) : ∃ t m p,
    (admitNow w c leg sent s).hlk.writes = (modWrite w.tag (admittedAs c leg m p) t).hlk.writes := by
  unfold admitNow
  extract_lets g s1 m s2 kor s3 s4 wrp s5
  have hcount : s5.hlk = s4.hlk := (apply_ite State.hlk _ _ _).trans (ite_self _)
  refine ⟨s3, m, leg && s.kor.pressureIn, ?_⟩
  have hwrites : s5.hlk.writes = s4.hlk.writes := congrArg Hlk.writes hcount
  split <;> exact hwrites

/-- An admitted write is no longer held, and has its effective class. -/
theorem tryAdmit_admitted_effect {s : State} {w : WriteRec} {c : AckClass} {leg sent : Bool} (hhold : admitHold s w = .none)
    (heff : effFor s w.region (granuleOf w.line) = some (c, leg, sent)) : ∀ x ∈ (tryAdmit w s).hlk.writes, x.tag = w.tag →
      x.hold = .none ∧ x.eff = c ∧ x.admitted = decide (c ≠ .vaulted) := by
  have hadmit : tryAdmit w s = admitNow w c leg sent (noteHold w.hold s) := by simp [tryAdmit, hhold, heff]
  obtain ⟨t, m, p, hwrites⟩ := admitNow_writes w c leg sent (noteHold w.hold s)
  intro x hx htag
  rw [hadmit, hwrites] at hx
  obtain ⟨v, -, rfl⟩ := mem_modWrite hx htag
  exact ⟨rfl, rfl, rfl⟩

/-! ### LINE_WRITTEN (R134, R150, R172) -/

/-- The line reaches its quadrant: stored, no longer asked for, and with the fault armed for it. -/
def lineStored (w : WriteRec) (s : State) : State :=
  plantOnWrite (quadOf s (granuleOf w.line)) w.line (modQdc (quadOf s (granuleOf w.line)) (fun d =>
    { d with asked := sdel d.asked w.line }) (storeLine w.line w.data w.mask s))

/-- The repairs of a granule take note of a line the host has written. -/
def noteRepairs (line : Nat) (s : State) : State :=
  { s with kor := { s.kor with repairs := s.kor.repairs.map (fun a =>
    if a.granule = granuleOf line then { a with written := sins line a.written } else a) } }

/-- The end of a write's burst, before what follows it. -/
def burstEnds (tag : Nat) (w : WriteRec) (s : State) : State :=
  modWrite tag (fun x => { x with inDram := true }) (noteRepairs w.line (lineStored w s))

theorem lineStored_keeps (w : WriteRec) (s : State) : Keeps 0x180000 (storeLine w.line w.data w.mask s) (lineStored w s) :=
  plantOnWrite_keeps _ _ (by decide) (modQdc_keeps _ _ (by decide) (Keeps.refl _ _))

theorem noteRepairs_keeps (line : Nat) (s : State) : Keeps 0x8000 s (noteRepairs line s) :=
  (Keeps.refl _ s).direct (fun p hp => by cases p <;> simp_all [Part.bit, Part.same, noteRepairs])

theorem burstEnds_keeps (tag : Nat) (w : WriteRec) (s : State) : Keeps 0x188010 (storeLine w.line w.data w.mask s) (burstEnds tag w s) :=
  modWrite_keeps _ _ (by decide) ((noteRepairs_keeps _ _).step (by decide) ((lineStored_keeps w s).mono (by decide)))

theorem lineLands_gst {s t : State} (hgst : t.gst = s.gst) (hspn : t.spn = s.spn) (g : Nat) :
    (lineLands g t).gst = (lineLands g s).gst := by
  have hword : gword t g = gword s g := congrArg (fun x : Gst => tget freeWord x.states g) hgst
  unfold lineLands gstate setGState
  rw [hword]
  split
  · rw [setWord_gst, setWord_gst, hdmGranules_of_spn hspn, hgst]
  · exact hgst

section Burst

variable {s : State} {tag : Nat} {w : WriteRec} (hfind : s.hlk.writes.find? (fun x => x.tag = tag) = some w)
  (hburst : w.inDram = false) (hhold : w.hold = .none) (hreleased : w.released = false) (hclean : w.poisoned = false)
  (holder : (s.hlk.writes.takeWhile (fun x => x.tag ≠ tag)).all (fun x => x.line ≠ w.line || x.inDram) = true)
include hfind hburst hhold hreleased hclean holder

theorem exec_lineWritten :
    exec (.lineWritten tag) s = .next (settle (lineLands (granuleOf w.line) (burstEnds tag w s))) := by
  have hfirst : ¬ (w.inDram = true ∨ w.hold ≠ .none ∨ w.released = true ∨
      (s.hlk.writes.takeWhile (fun x => x.tag ≠ tag)).any (fun x => x.line = w.line && !x.inDram) = true) := by
    simp_all [imp_iff_not_or]
  show execLineWritten tag s = _
  simp only [execLineWritten, hfind]
  rw [if_neg hfirst, if_neg (by simp [hclean])]
  rfl

theorem lineWritten_effect :
    ∃ u, exec (.lineWritten tag) s = .next (settle u) ∧
      u.gst = (lineLands (granuleOf w.line) (storeLine w.line w.data w.mask s)).gst ∧
      (∀ x ∈ u.hlk.writes, x.tag = tag → x.inDram = true) ∧ OnlyIn [.hlk, .gst, .dram, .kor, .qdc, .raised] s u := by
  have hburstEnds := burstEnds_keeps tag w s
  have hlands : Keeps 0x180040 (burstEnds tag w s) (lineLands (granuleOf w.line) (burstEnds tag w s)) :=
    lineLands_keeps _ (by decide) (Keeps.refl _ _)
  have hstore : Keeps 0x1000040 s (storeLine w.line w.data w.mask s) := storeLine_keeps _ _ _ (by decide) (Keeps.refl _ s)
  have hkeeps : Keeps 0x1188050 s (lineLands (granuleOf w.line) (burstEnds tag w s)) :=
    hlands.step (by decide) (hburstEnds.step (by decide) (hstore.mono (by decide)))
  refine ⟨_, exec_lineWritten hfind hburst hhold hreleased hclean holder,
    lineLands_gst (hburstEnds.gstEq (by decide) (by decide)) (hburstEnds.spnEq (by decide) (by decide)) _,
    fun x hx htag => ?_, fr hkeeps (by decide)⟩
  rw [hlands.hlkEq (by decide)] at hx
  obtain ⟨v, -, rfl⟩ := mem_modWrite hx htag
  rfl

end Burst

/-! ### WRITE_HOLD_TIMEOUT (R197) -/

/-- The code of the cause of a hold in event 0x030B; 0 where the event is not logged. -/
def holdCode : Hold → Nat
  | .budget => 1 | .decision => 2 | .share => 3 | .keyReserve => 3 | _ => 0

theorem exec_writeHoldTimeout {s : State} {tag : Nat} {w : WriteRec} (hfind : s.hlk.writes.find? (fun x => x.tag = tag) = some w) :
    exec (.writeHoldTimeout tag) s = .next (if holdCode (holdNow s w) = 0 then s
      else raise 0x030B 0x02 [(1, w.region), (1, holdCode (holdNow s w))] s) := by
  show execWriteHoldTimeout tag s = _
  simp only [execWriteHoldTimeout, hfind]
  rfl

/-! ### The statement -/

/-- Settles O13: a clause for each way a write and a read go, for the two ends of an admission, for the end of a burst and for a hold that
lasts too long (R115, R116, R122, R134, R144, R150, R157, R161, R191, R197; log 26, 52, 106). -/
theorem hostAccessesByRegionState : Obligations.HostAccessesByRegionState := by
  refine ⟨?served, ?discarded, ?afterClose, ?held, ?admitted, ?readWaits, ?readPoisoned, ?written, ?timeout⟩
  case served =>
    intro s tag hpa line mask r data hlink hline hcredit hfresh hopen hserved hregion
    exact memWrite_served mask data hlink hline hcredit hfresh hopen hserved hregion
  case discarded =>
    intro s tag hpa line mask data bad hlink hline hcredit hfresh hopen hserved
    obtain ⟨hcount, hrwd, hwrites, hwarned, hraised⟩ := offlineAccess_write_effect (offlIndex s (granuleOf line)) s
    have hkeeps : Keeps 0x300010 s (offlineAccess (offlIndex s (granuleOf line)) true s) :=
      offlineAccess_keeps _ _ (by decide) (Keeps.refl _ s)
    exact ⟨_, _, memWrite_discarded mask data bad hlink hline hcredit hfresh hopen hserved, List.getLast?_concat, hcount, hrwd, hwrites,
      hwarned, hraised, fr (send_keeps _ (by decide) hkeeps) (by decide)⟩
  case afterClose =>
    intro s tag hpa line mask data bad hlink hline hcredit hfresh hclosed
    exact memWrite_afterClose mask data bad hlink hline hcredit hfresh hclosed
  case held => exact fun s w hhold hnew => tryAdmit_budget_effect hhold hnew
  case admitted => exact fun s w c leg sent hhold heff => tryAdmit_admitted_effect hhold heff
  case readWaits =>
    intro s tag hpa line errs again hlink hline hcredit hfresh hopen hserved hstate hready
    exact memRead_waits errs again hlink hline hcredit hfresh hopen hserved hstate hready
  case readPoisoned =>
    intro s tag hpa line errs again hlink hline hcredit hfresh hopen hserved
    have hkeeps : Keeps 0x300010 s (offlineAccess (offlIndex s (granuleOf line)) false s) :=
      offlineAccess_keeps _ _ (by decide) (Keeps.refl _ s)
    exact ⟨_, _, memRead_poisoned errs again hlink hline hcredit hfresh hopen hserved, List.getLast?_concat,
      fr (sendDrs_keeps _ _ _ (by decide) hkeeps) (by decide)⟩
  case written =>
    intro s tag w hfind hburst hhold hreleased hclean holder
    exact lineWritten_effect hfind hburst hhold hreleased hclean holder
  case timeout =>
    intro s tag w hfind
    rw [exec_writeHoldTimeout hfind]
    refine ⟨fun h => ?_, fun h => ?_, fun h => ?_, fun h => ?_⟩ <;> rw [h] <;> rfl

end Sys2Proof.Machine
end

section
/-!
PROOFS. The DRAM part of a host write (R146, R603): the bytes and the marks of a line stored with any mask.
-/

namespace Sys2Proof.Machine

/-- A key that a run of writes to a table does not name reads as before. -/
theorem tget_foldl_tput_of_ne {α : Type} [DecidableEq α] (d : α) {f : Nat → Nat} (v : Nat → α) {a : Nat} :
    ∀ (l : List Nat) (t : List (Nat × α)), (∀ x ∈ l, f x ≠ a) → tget d (l.foldl (fun t x => tput d t (f x) (v x)) t) a = tget d t a
  | [], _, _ => rfl
  | x :: l, t, h => by
    obtain ⟨hx, hl⟩ := List.forall_mem_cons.1 h
    rw [List.foldl_cons, tget_foldl_tput_of_ne d v l _ hl, tget_tput, if_neg (Ne.symm hx)]

/-- A byte of another line is as before. -/
theorem dramByte_storeLine_other {line a : Nat} (ha : a / 64 ≠ line) (data : BitVec 512) (mask : Nat) (s : State) :
    dramByte (storeLine line data mask s) a = dramByte s a := by
  have hother : ∀ b ∈ (List.range 64).filter (fun b => mask.testBit b), line * 64 + b ≠ a := by
    intro b hb
    have hb : b < 64 := List.mem_range.1 (List.mem_of_mem_filter hb)
    omega
  show tget 0 (((List.range 64).filter (fun b => mask.testBit b)).foldl
    (fun t b => setByte (line * 64 + b) (BitVec.ofNat 8 (data.toNat >>> (8 * b))) t) s).gst.dram a = _
  rw [foldl_setByte_dram, tget_foldl_tput_of_ne 0 _ _ _ hother]
  rfl

/-- The words marked after a line is stored. -/
theorem mem_poison_storeLine (line : Nat) (data : BitVec 512) (mask : Nat) (s : State) (p : Nat) :
    p ∈ (storeLine line data mask s).gst.poison ↔
      p ∈ s.gst.poison ∧ ¬ (p / 8 = line ∧ (mask >>> (8 * (p % 8))) % 256 = 255) := by
  have hword : p % 8 < 8 := Nat.mod_lt _ (by decide)
  simp only [storeLine, foldl_setByte_poison, List.mem_filter]
  simp [hword, ← not_and_or]

/-- Settles O6: an address is its line and its byte in the line, so a byte is of the stored line or of another one (R146, R603; log 4, 24). -/
theorem storedLineBytesAndMarks : Obligations.StoredLineBytesAndMarks := by
  refine ⟨fun s line data mask a => ?bytes, fun s line data mask p => mem_poison_storeLine line data mask s p,
    fun s line data => lineData_storeLine_whole line data s⟩
  case bytes =>
    by_cases ha : a / 64 = line
    · have hbyte : a % 64 < 64 := Nat.mod_lt _ (by decide)
      have hsplit : line * 64 + a % 64 = a := by omega
      have h := dramByte_storeLine hbyte line data mask s
      rw [hsplit] at h
      simpa [ha] using h
    · rw [dramByte_storeLine_other ha, if_neg fun h => ha h.1]

end Sys2Proof.Machine
end

section
/-!
PROOFS. The lifecycle of a region (R44, R131, R165 to R167, R321, R323, R385, R403, R404): what a change of it writes, when a start may end
and how, one equation for each case of the lifecycle commands, and the statement about them.
-/

namespace Sys2Proof.Machine

/-! ### A change of the lifecycle (R131, R165) -/

/-- A region's own fields after a change of the region table. -/
theorem region_modRegion {r : Nat} {s : State} (hr : r < s.wrp.regions.length) (f : Region → Region) (x : Nat) :
    region (modRegion r f s) x = if x = r then f (region s r) else region s x := by
  by_cases hx : x = r
  · subst hx
    simp [region, modRegion, hr]
  · simp [region, modRegion, hx, Ne.symm hx]

/-- A region in state `l`: ONLINE clears `START_FAIL` (R165). -/
def inLife (l : Lifecycle) (x : Region) : Region := { x with life := l, startFail := if l = .online then 0 else x.startFail }

theorem setLife_of_same {r : Nat} {l : Lifecycle} {s : State} (h : (region s r).life = l) : setLife r l s = s := if_pos h

/-- A change writes the region's entry, is logged and signals vector 6. -/
theorem setLife_of_changed {r : Nat} {l : Lifecycle} {s : State} (h : (region s r).life ≠ l) :
    (setLife r l s).wrp = (modRegion r (inLife l) s).wrp ∧
    (setLife r l s).raised = s.raised ++ [⟨0x0301, 0x02, [(1, r), (1, lifeCode (region s r).life), (1, lifeCode l)]⟩] ∧
    .msix 6 ∈ (setLife r l s).out := by
  unfold setLife
  extract_lets old s1 g1 s2
  rw [if_neg h]
  obtain ⟨hwrp, hraised⟩ : s2.wrp = s1.wrp ∧ s2.raised = s1.raised := by unfold s2; split <;> exact ⟨rfl, rfl⟩
  have hcdat : Keeps 0x200010 (msix 6 s2) (refreshCdat (msix 6 s2)) := refreshCdat_keeps (by decide) (Keeps.refl _ _)
  refine ⟨(hcdat.wrpEq (by decide)).trans hwrp, (hcdat.raisedEq (by decide)).trans hraised, ?_⟩
  unfold refreshCdat
  split <;> simp [msix]

theorem region_setLife {r : Nat} {l : Lifecycle} {s : State} (h : (region s r).life ≠ l) (hr : r < s.wrp.regions.length) (x : Nat) :
    region (setLife r l s) x = if x = r then inLife l (region s r) else region s x :=
  (region_of_wrp (setLife_of_changed h).1 x).trans (region_modRegion hr _ x)

/-! ### The ends of a start (R165, R167, R323) -/

/-- A region's start no longer waits for the partner. -/
def notOpening (r : Nat) (s : State) : State := { s with kor := { s.kor with opening := sdel s.kor.opening r } }

theorem notOpening_keeps (r : Nat) (s : State) : Keeps 0x8000 s (notOpening r s) :=
  (Keeps.refl _ s).direct (fun p hp => by cases p <;> simp_all [Part.bit, Part.same, notOpening])

/-- A failed start: OFFLINE, with its code, its two events and, for a missing key, the one that counts what stays PENDING. -/
theorem endStart_effect {s : State} {r : Nat} (c : Nat) (hr : r < s.wrp.regions.length) (hlife : (region s r).life = .starting) :
    (∀ x, region (endStart r c s) x = if x = r then inLife .offline { region s r with startFail := c } else region s x) ∧
    ∃ l, (endStart r c s).raised = s.raised ++ ⟨0x0301, 0x02, [(1, r), (1, 1), (1, 0)]⟩ :: ⟨0x0302, 0x02, [(1, r), (1, c)]⟩ :: l ∧
      ∀ e ∈ l, e.id = 0x0707 := by
  set coded := modRegion r (fun x => { x with startFail := c }) (notOpening r s)
  have hregion (x : Nat) : region coded x = if x = r then { region s r with startFail := c } else region s x :=
    region_modRegion (s := notOpening r s) hr _ x
  have hstarting : (region coded r).life = .starting := by simp [hregion, hlife]
  have hoff : (region coded r).life ≠ .offline := by simp [hstarting]
  have hlen : r < coded.wrp.regions.length := by simpa [coded, modRegion, notOpening] using hr
  have hset (x : Nat) : region (setLife r .offline coded) x =
      if x = r then inLife .offline { region s r with startFail := c } else region s x := by
    rw [region_setLife hoff hlen, hregion, hregion, if_pos rfl]
    split <;> rfl
  have hraised : (setLife r .offline coded).raised = s.raised ++ [⟨0x0301, 0x02, [(1, r), (1, 1), (1, 0)]⟩] := by
    obtain ⟨-, hraised, -⟩ := setLife_of_changed hoff
    rw [hraised, hstarting]
    rfl
  obtain ⟨n, hend⟩ : ∃ n, endStart r c s = if c = 1 ∧ 0 < n then
      raise 0x0707 0x0E [(1, r), (3, n)] (raise 0x0302 0x02 [(1, r), (1, c)] (setLife r .offline coded))
    else raise 0x0302 0x02 [(1, r), (1, c)] (setLife r .offline coded) := ⟨_, rfl⟩
  clear_value coded
  rw [hend]
  split
  · exact ⟨hset, [⟨0x0707, 0x0E, [(1, r), (3, n)]⟩], by simp [hraised], by simp⟩
  · exact ⟨hset, [], by simp [hraised], by simp⟩

/-- A region that comes ONLINE. -/
theorem region_goOnline {s : State} {r : Nat} (hr : r < s.wrp.regions.length) (hlife : (region s r).life = .starting) :
    region (goOnline r s) r = inLife .online (region s r) := by
  have hwrp : (goOnline r s).wrp = (setLife r .online s).wrp := (apply_ite State.wrp _ _ _).trans (ite_self _)
  rw [region_of_wrp hwrp, region_setLife (by simp [hlife]) hr, if_pos rfl]

/-! ### The start checks (R167, R449) -/

theorem startCode_notOwner {s : State} {r : Nat} (h : serves s r = false) : startCode s r = some 4 := by simp [startCode, h]

section Checks

variable {s : State} {r : Nat} (hserves : serves s r = true)
include hserves

theorem startCode_keyAbsent (hkey : keyThere s r = false) : startCode s r = some 1 := by simp [startCode, hserves, hkey]

variable (hkey : keyThere s r = true)
include hkey

theorem startCode_partner (hpartner : partnerAbsent s r = true) : startCode s r = some 2 := by
  simp [startCode, hserves, hkey, hpartner]

variable (hpartner : partnerAbsent s r = false)
include hpartner

theorem startCode_fenced (hfenced : ∃ q ∈ s.qdc, q.state = 3) : startCode s r = some 5 := by
  simp [startCode, hserves, hkey, hpartner, fenced, hfenced]

theorem startCode_passed (hfenced : ∀ q ∈ s.qdc, q.state ≠ 3) : startCode s r = none := by
  have hfenced : fenced s = false := by simpa [fenced] using hfenced
  simp [startCode, hserves, hkey, hpartner, hfenced]

end Checks

/-- START_CHECKS_COMPLETE acts on no region that is not STARTING, waits for the partner or waits for its own derivation. -/
theorem startChecksComplete_waits {s : State} {r : Nat} (h : serving s = false ∨ (region s r).life ≠ .starting ∨ r ∈ s.kor.opening ∨
    (encrypted s r = true ∧ (slotOf s r).st = .starting)) : exec (.startChecksComplete r) s = .next s := by
  show execStartChecksComplete r s = _
  rw [execStartChecksComplete, if_pos (by simpa using h)]

theorem startChecksComplete_ends {s : State} {r : Nat} (hserving : serving s = true) (hlife : (region s r).life = .starting)
    (hopening : r ∉ s.kor.opening) (hslot : encrypted s r = true → (slotOf s r).st ≠ .starting) :
    exec (.startChecksComplete r) s = .next (lifeFollow ((startCode s r).elim (goOnline r s) (fun c => endStart r c s))) := by
  show execStartChecksComplete r s = _
  rw [execStartChecksComplete, if_neg (by simpa [hserving, hlife, hopening] using hslot)]
  cases startCode s r <;> rfl

theorem startCheckTimeout_ignored {s : State} {r : Nat} (h : serving s = false ∨ (region s r).life ≠ .starting ∨ r ∉ s.kor.opening) :
    exec (.startCheckTimeout r) s = .next s := by
  show execStartCheckTimeout r s = _
  rw [execStartCheckTimeout, if_pos (by simpa using h)]

theorem startCheckTimeout_fails {s : State} {r : Nat} (hserving : serving s = true) (hlife : (region s r).life = .starting)
    (hopening : r ∈ s.kor.opening) : exec (.startCheckTimeout r) s = .next (lifeFollow (endStart r 2 s)) := by
  show execStartCheckTimeout r s = _
  rw [execStartCheckTimeout, if_neg (by simp [hserving, hlife, hopening])]

/-! ### Starts and stops (R44, R165, R166) -/

theorem regionControl_inDump {s : State} {c : Instr} (hc : c = .regionStart ∨ c = .regionStop) (hdump : s.spn.mode = .dump) :
    exec c s = .next { s with raised := s.raised ++ [⟨0x1006, 0x00, []⟩] } := by
  rcases hc with rfl | rfl <;> exact congrArg Host.Outcome.next (if_pos hdump)

theorem regionControl_notServing {s : State} {c : Instr} (hc : c = .regionStart ∨ c = .regionStop) (hdump : s.spn.mode ≠ .dump)
    (hserving : serving s = false) : exec c s = .next s := by
  have hnot : (!serving s) = true := by simp [hserving]
  rcases hc with rfl | rfl <;> exact congrArg Host.Outcome.next ((if_neg hdump).trans (if_pos hnot))

section Serving

variable {s : State} (hserving : serving s = true)
include hserving

theorem mode_ne_dump_of_serving : s.spn.mode ≠ .dump := by
  intro h
  simp [serving, modeIn, h] at hserving

theorem exec_regionStart : exec .regionStart s = .next (lifeFollow (startRegion s.wrp.regionIdx s)) := by
  show execRegionStart s = _
  rw [execRegionStart, if_neg (mode_ne_dump_of_serving hserving), if_neg (by simp [hserving])]

theorem exec_regionStop : exec .regionStop s = .next (lifeFollow (stopReq s.wrp.regionIdx s)) := by
  show execRegionStop s = _
  rw [execRegionStop, if_neg (mode_ne_dump_of_serving hserving), if_neg (by simp [hserving])]

end Serving

theorem startRegion_offline {s : State} {r : Nat} (h : (region s r).life = .offline) : startRegion r s =
    if defined s r then beginChecks r s else modRegion r (fun x => { x with startFail := 3 }) s := by
  simp [startRegion, h]

theorem startRegion_stopping {s : State} {r : Nat} (h : (region s r).life = .stopping) :
    startRegion r s = modRegion r (fun x => { x with reArm := true }) s := by simp [startRegion, h]

/-- A region that is STARTING or ONLINE has been started. -/
theorem startRegion_started {s : State} {r : Nat} (h : (region s r).life = .starting ∨ (region s r).life = .online) :
    startRegion r s = s := by rcases h with h | h <;> simp [startRegion, h]

theorem stopReq_online {s : State} {r : Nat} (h : (region s r).life = .online) : stopReq r s = setLife r .stopping s := by
  simp [stopReq, stopRegion, h]

theorem stopReq_starting {s : State} {r : Nat} (h : (region s r).life = .starting) :
    stopReq r s = setLife r .offline (notOpening r s) := by
  simp [stopReq, notOpening, h]

/-- A region that is STOPPING or OFFLINE has been stopped. -/
theorem stopReq_stopped {s : State} {r : Nat} (h : (region s r).life = .stopping ∨ (region s r).life = .offline) :
    stopReq r s = s := by rcases h with h | h <;> simp [stopReq, h]

/-! ### REGION_DRAINED (R165, R403, R404) -/

/-- Region `r` has stopped, neither armed to start again nor held by a re-application. -/
def stoppedRegion (r : Nat) (s : State) : State :=
  setLife r .offline (modRegion r (fun x => { x with reArm := false, liveStop := false }) s)

/-- What the stop of a region ends: a CONFLICT, or the adoption of a region in MIRRORED; nothing where a re-application stopped it. -/
def afterStop (live : Bool) (r : Nat) (u : State) : State :=
  if live then u else if inConflict u r then yieldConflict r u
  else if (region u r).adopted ∧ u.kor.state = .mirrored then giveBack r u else u

theorem regionDrained_ignored {s : State} {r : Nat} (h : serving s = false ∨ (region s r).life ≠ .stopping ∨ regionDrained s r = false) :
    exec (.regionDrained r) s = .next s := by
  show execRegionDrained r s = _
  rw [execRegionDrained, if_pos (by simpa using h)]

section Drained

variable {s : State} {r : Nat} (hserving : serving s = true) (hlife : (region s r).life = .stopping) (hdrained : regionDrained s r = true)
include hserving hlife hdrained

theorem regionDrained_restarts (harm : (region s r).reArm = true) (hlive : (region s r).liveStop = false) :
    exec (.regionDrained r) s = .next (lifeFollow (beginChecks r (modRegion r (fun x => { x with reArm := false }) s))) := by
  show execRegionDrained r s = _
  rw [execRegionDrained, if_neg (by simp [hserving, hlife, hdrained]), if_pos (by simp [harm, hlive])]

theorem regionDrained_stops (h : (region s r).reArm = false ∨ (region s r).liveStop = true) :
    exec (.regionDrained r) s = .next (lifeFollow (afterStop (region s r).liveStop r (stoppedRegion r s))) := by
  have harm : ¬ ((region s r).reArm = true ∧ (!(region s r).liveStop) = true) := by
    rcases h with h | h <;> simp [h]
  show execRegionDrained r s = _
  rw [execRegionDrained, if_neg (by simp [hserving, hlife, hdrained]), if_neg harm]
  rfl

end Drained

/-! ### What follows (R96, R321) -/

theorem liveLoop_idle {s : State} (h : s.img.liveState ≠ 2) : ∀ n, liveLoop n s = s
  | 0 => rfl
  | n + 1 => by simp [liveLoop, liveStep, h]

/-! ### The statement -/

/-- Settles O44: a clause for the change of state itself, for the commands by mode and by state, for the start checks and their ends, and for
the end of a stop (R44, R131, R165 to R167, R321, R385, R403, R404; log 18, 112). -/
theorem regionLifecycle : Obligations.RegionLifecycle := by
  refine ⟨?change, ?otherModes, ?served, ?checksBegin, ?checksEnd, ?codes, ?fails, ?online, ?drained, ?follow⟩
  case change =>
    refine fun s r l => ⟨setLife_of_same, fun h hr => ⟨_, rfl, ?_⟩⟩
    obtain ⟨-, hraised, hout⟩ := setLife_of_changed h
    have hregion := region_setLife h hr
    have hown : region (setLife r l s) r = inLife l (region s r) := (hregion r).trans (if_pos rfl)
    have hkeeps : Keeps 0x300030 s (setLife r l s) := setLife_keeps r l (by decide) (Keeps.refl _ s)
    refine ⟨?_, ?_, fun x hx => (hregion x).trans (if_neg hx), setLife_entry r r l s, ?_, hraised, hout, fr hkeeps (by decide)⟩ <;>
      rw [hown] <;> rfl
  case otherModes => exact fun s c hc => ⟨regionControl_inDump hc, regionControl_notServing hc⟩
  case served =>
    rintro s r hserving rfl
    refine ⟨exec_regionStart hserving, exec_regionStop hserving, fun h hdef => ?_, fun h hdef => ?_,
      fun h => ⟨startRegion_stopping h, stopReq_stopped (.inl h)⟩, fun h => ⟨startRegion_started (.inr h), stopReq_online h⟩,
      fun h => ⟨startRegion_started (.inl h), stopReq_starting h⟩, fun h => stopReq_stopped (.inr h)⟩ <;>
      rw [startRegion_offline h, hdef]
    · rfl
    · rfl
  case checksBegin =>
    refine fun s r => ⟨_, rfl, fun h => ?_, fun h => ?_⟩ <;> rw [beginChecks, h]
    · rfl
    · rfl
  case checksEnd =>
    refine fun s r => ⟨fun h => ?idle, fun h => startChecksComplete_waits (.inr (.inr (.inl h))),
      fun henc hslot => startChecksComplete_waits (.inr (.inr (.inr ⟨henc, hslot⟩))),
      fun hserving hlife hopening hslot => ⟨fun hcode => ?_, fun c hcode => ?_, startCheckTimeout_ignored (.inr (.inr hopening))⟩,
      startCheckTimeout_fails⟩
    case idle =>
      exact ⟨startChecksComplete_waits (h.imp_right .inl), startCheckTimeout_ignored (h.imp_right .inl)⟩
    all_goals rw [startChecksComplete_ends hserving hlife hopening hslot, hcode]; rfl
  case codes =>
    exact fun s r => ⟨startCode_notOwner, startCode_keyAbsent, startCode_partner, startCode_fenced, startCode_passed⟩
  case fails =>
    intro s r c hr hlife
    obtain ⟨hregion, hraised⟩ := endStart_effect c hr hlife
    have hown := (hregion r).trans (if_pos rfl)
    have hkeeps : Keeps 0x308030 s (endStart r c s) := endStart_keeps r c (by decide) (Keeps.refl _ s)
    exact ⟨_, rfl, by rw [hown]; rfl, by rw [hown]; rfl, fun x hx => (hregion x).trans (if_neg hx), hraised, fr hkeeps (by decide)⟩
  case online =>
    intro s r hr hlife
    rw [region_goOnline hr hlife]
    exact ⟨rfl, rfl⟩
  case drained =>
    refine fun s r => ⟨regionDrained_ignored, fun hserving hlife hdrained => ⟨regionDrained_restarts hserving hlife hdrained,
      fun h => ⟨stoppedRegion r s, rfl, ?_⟩⟩⟩
    rw [regionDrained_stops hserving hlife hdrained h]
    refine ⟨fun hlive => ?_, fun hlive hconf => ?_, fun hlive hconf hadopted hmirrored => ?_, fun hlive hconf hkept => ?_⟩
    · rw [hlive]; rfl
    · simp [afterStop, hlive, hconf]
    · simp [afterStop, hlive, hconf, hadopted, hmirrored]
    · have hkept : ¬ ((region (stoppedRegion r s) r).adopted = true ∧ (stoppedRegion r s).kor.state = .mirrored) := by
        rcases hkept with h | h <;> simp [h]
      rw [afterStop, hlive, hconf, if_neg hkept]
      rfl
  case follow =>
    intro s h
    rw [lifeFollow, liveLoop_idle h]

end Sys2Proof.Machine
end

section
/-!
PROOFS. The commands of regions, the stream, the dump, the gauge, the vault and fetches where they act (R92, R164, R166, R199, R209, R226,
R247, R248, R266, R277, R281, R314): one equation for each, and the statement that they complete.
-/

namespace Sys2Proof.Machine

/-! ### Requests to the responder (R550, R551) -/

theorem spdmServe_serves {t : Transport} {k : State → State} {s : State} (hcore : s.pwr.corePg = true)
    (hrom : s.sig.recoverySvc = false ∨ s.sig.stage ≠ 0) : spdmServe t k s = k (countSpdm t s) := by
  have hrom : ¬ (s.sig.recoverySvc && decide (s.sig.stage = 0)) = true := by
    rcases hrom with h | h <;> simp [h]
  rw [spdmServe, if_neg (by simp [hcore])]
  exact if_neg hrom

/-! ### The budget and held writes (R197 to R200) -/

theorem forceZeroWrite_set {s : State} (hdump : s.spn.mode ≠ .dump) : exec (.forceZeroWrite true) s =
    .next (takeRaw 0 (setBit s.wrp.zeroCause 2) { s with wrp := { s.wrp with forceZero := true } }) :=
  congrArg Host.Outcome.next ((if_neg hdump).trans (if_pos rfl))

theorem forceZeroWrite_cleared {s : State} (hdump : s.spn.mode ≠ .dump) : exec (.forceZeroWrite false) s =
    .next { s with wrp := { s.wrp with forceZero := false, zeroCause := clearBit s.wrp.zeroCause 2 } } :=
  congrArg Host.Outcome.next ((if_neg hdump).trans (if_neg Bool.false_ne_true))

/-! ### The dump (R281, R284, R289, R290) -/

section Program

variable {s : State} {vpa q : Nat} (hdump : s.spn.mode = .dump)
  (hq : (quadList s).find? (fun q => (dumpQuad s q).running.any (fun e => e.2 = vpa)) = some q)
include hdump hq

theorem dumpProgramComplete_passes : exec (.dumpProgramComplete vpa true) s = .next (dumpKick (dumpPassed q vpa s)) := by
  show execDumpProgramComplete vpa true s = _
  simp only [execDumpProgramComplete, hq]
  rw [if_neg (by simp [hdump]), if_neg (by simp), if_neg (by simp)]

theorem dumpProgramComplete_fails : exec (.dumpProgramComplete vpa false) s = .next (dumpKick (dumpDieLost (vpaCh vpa) (vpaDie vpa)
    (modVch (vpaCh vpa) (fun c => { c with progFail := satAdd 16 c.progFail 1 }) s))) := by
  show execDumpProgramComplete vpa false s = _
  simp only [execDumpProgramComplete, hq]
  rw [if_neg (by simp [hdump]), if_neg (by simp), if_pos (by simp)]

end Program

/-- The state once a sample of the dump is folded in and its energy drawn summed. -/
def dumpSampled (m : Sample) (s : State) : State :=
  let u := gaugeAfter s.nrg (emptyAnchor (refreshEstimates (countCharge m.dQ (takeSample m s))))
  windowSum (u.nrg.vOcv * (-u.nrg.iStore).toNat / 100) u

/-- A sample of the dump while no final record waits. -/
theorem dumpEnergySample_noRecord {s : State} {m : Sample} (hdump : s.spn.mode = .dump)
    (hnone : ∀ o ∈ (dumpSampled m s).ifc.waiting, ∀ r, o.work ≠ .finalSedge r) :
    exec (.dumpEnergySample m) s = .next { dumpSampled m s with
      dmp := { (dumpSampled m s).dmp with eNow := eNowOf (dumpSampled m s) } } := by
  show execDumpEnergySample m s = _
  unfold execDumpEnergySample
  rw [if_neg (by simp [hdump])]
  extract_lets s1 drawn s2 s3
  split
  next => rfl
  next o hfind =>
    have hwork := List.find?_some hfind
    split at hwork
    next r hr => exact absurd hr (hnone o (List.mem_of_find?_eq_some hfind) r)
    next => cases hwork

/-! ### The stream (R247, R248, R251, R256) -/

theorem ringExamine_examines {s : State} {q g : Nat} {err : Bool} (bad : List Nat) (hserving : serving s = true)
    (hquad : s.spn.quadEn.testBit q = true) (hready : streamRuns s = true ∨ engReady s q = true)
    (hfirst : (ringFirst (if err then rebuildRing q s else s) q).or (ringOf (if err then rebuildRing q s else s) q).head? = some g) :
    exec (.ringExamine q err bad) s = .next (streamFollow s (examine q g bad (if err then rebuildRing q s else s))) := by
  have hacts : ¬ ((!serving s) = true ∨ (!(s.spn.quadEn.testBit q)) = true ∨
      (!streamRuns s) = true ∧ (!engReady s q) = true) := by
    rcases hready with h | h <;> simp [hserving, hquad, h]
  show execRingExamine q err bad s = _
  unfold execRingExamine
  rw [if_neg hacts]
  extract_lets s0 s1
  have hs1 : s1 = examine q g bad s0 := by
    unfold s1
    cases hring : ringFirst s0 q with
    | some f =>
      obtain rfl : f = g := by simpa [s0, hring] using hfirst
      rfl
    | none =>
      have hhead : (ringOf s0 q).head? = some g := by simpa [s0, hring] using hfirst
      simp only [hhead]
  rw [hs1]

theorem programComplete_ends {s : State} {vpa : Nat} {ok : Bool} (h : s.spn.mode ≠ .dump ∨ ok = true) :
    exec (.programComplete vpa ok) s = .next (settleFor (shareFreed s (programEnd vpa ok true s))
      (cmdFollow s (ownCopiesFollow (eraseReady (programEnd vpa ok true s))))) := by
  have hlost : (!ok && decide (s.spn.mode = .dump) && (runningOn s (vpaCh vpa) (vpaDie vpa)).contains vpa) = false := by
    rcases h with h | h <;> simp [h]
  show execProgramComplete vpa ok s = _
  unfold execProgramComplete
  rw [hlost]
  rfl

/-! ### The vault (R265 to R267, R344, R345, R348, R370) -/

/-- The first miss of a die out of a dump. -/
theorem dieTimeout_firstMiss {s : State} {c d : Nat} (hc : c < 16) (hdie : dieOk s c d = true) (hpop : populated s c = true)
    (hd : d < (vaultRec s).diesPerCh) (hdump : s.spn.mode ≠ .dump) (hmiss : (vchOf s c).missRun.getD d 0 = 0) :
    exec (.dieTimeout c d) s =
      .next (modVch c (fun v => { v with timeouts := satAdd 16 v.timeouts 1, missRun := v.missRun.set d 1 }) s) := by
  have hthere : ¬ (16 ≤ c ∨ (!dieOk s c d) = true ∨ (!populated s c) = true ∨ (vaultRec s).diesPerCh ≤ d) := by
    simp [hdie, hpop, hc, hd]
  show execDieTimeout c d s = _
  unfold execDieTimeout
  rw [if_neg hthere, hmiss, if_neg hdump]
  rfl

/-- Collection of the victim, where no segment called for holds a page that can be moved. -/
theorem gcRelocate_victim {s : State} {failed : List Nat} {n : Nat} (hawake : vaultAwake s = true)
    (hnone : s.vlt.relocate.all (fun n => (movable s n).all (fun g => (unmovable n failed s).contains g)) = true)
    (hlow : s.shd.gc ≠ .idle) (hvictim : victim s = some n) : exec (.gcRelocate failed) s = .next (collectSeg n failed s) := by
  have hcalled : s.vlt.relocate.find? (fun n => (movable s n).any (fun g => !((unmovable n failed s).contains g))) = none := by
    rw [List.find?_eq_none]
    intro m hm
    have h := List.all_eq_true.1 hnone m hm
    simpa using h
  show execGcRelocate failed s = _
  unfold execGcRelocate
  rw [if_neg (by simp [hawake]), hcalled, if_neg hlow, hvictim]
  rfl

theorem wearLevelMove_moves {s : State} {failed : List Nat} {e : Nat × Seg} (hawake : vaultAwake s = true)
    (hlow : ((s.vlt.segs.filter (fun e => victimOk s e.1 e.2)).mergeSort (fun a b => a.2.erases ≤ b.2.erases)).head? = some e)
    (hspread : (vaultRec s).endurance < eraseSpread s * 20) (hhour : s.shd.wlSec.any (fun t => s.evr.opSec < t + 3600) = false) :
    exec (.wearLevelMove failed) s = .next (collectSeg e.1 failed (raise 0x050A 0x0D [(4, e.1), (3, eraseSpread s)]
      { s with shd := { s.shd with wlMoves := s.shd.wlMoves + 1, wlSec := some s.evr.opSec } })) := by
  have hmoves : ¬ (eraseSpread s * 20 ≤ (vaultRec s).endurance ∨ s.shd.wlSec.any (fun t => s.evr.opSec < t + 3600) = true) := by
    rw [hhour]
    simpa using hspread
  show execWearLevelMove failed s = _
  unfold execWearLevelMove
  rw [if_neg (by simp [hawake])]
  simp only [hlow]
  rw [if_neg hmoves]

theorem redundancyRebuild_relocates {s : State} {failed : List Nat} {n : Nat} (hawake : vaultAwake s = true)
    (hnext : s.vlt.rebuildSegs.find? (fun n => (movable s n).any (fun g => !((unmovable n failed s).contains g))) = some n) :
    exec (.redundancyRebuild failed) s = .next (collectSeg n failed s) := by
  show execRedundancyRebuild failed s = _
  unfold execRedundancyRebuild
  rw [if_neg (by simp [hawake]), hnext]

/-- A full TWIN segment not yet taken up for compaction. -/
theorem twinCompaction_takesUp {s : State} {n : Nat} (failed : List Nat) (hawake : vaultAwake s = true) (hfull : twinFull s n = true)
    (herase : s.vlt.erasing.contains n = false) (hbusy : segBusy s n = false) (hnew : s.vlt.compact.any (fun e => e.1 = n) = false) :
    exec (.twinCompaction n failed) s =
      .next (collectSeg n failed { s with vlt := { s.vlt with compact := s.vlt.compact ++ [(n, 0)] } }) := by
  show execTwinCompaction n failed s = _
  unfold execTwinCompaction
  rw [if_neg (by simp [hawake]), if_neg (by simp_all), hnew]
  rfl

/-- A failed training of a channel that has failed fewer than two. -/
theorem vaultTraining_failsAgain {s : State} {c : Nat} (hc : c < 16) (hactive : (vchOf s c).state = 2) (hfails : (vchOf s c).trainFails < 2) :
    exec (.vaultTraining c false) s = .next (modVch c (fun v => { v with trainFails := (vchOf s c).trainFails + 1 }) s) := by
  show execVaultTraining c false s = _
  unfold execVaultTraining
  rw [if_neg (by simp [hactive, hc])]
  exact congrArg Host.Outcome.next (if_neg (by omega))

theorem vaultForceFail_active {s : State} {c : Nat} (htest : s.spn.mode = .test) (hc : c < 16) (hactive : (vchOf s c).state = 2) :
    exec (.vaultForceFail c) s = .next (channelDown c (modVch c (fun v => { v with forceFail := true }) s)) := by
  show execVaultForceFail c s = _
  unfold execVaultForceFail
  rw [if_neg (by simp [htest, hc])]
  exact congrArg Host.Outcome.next (if_neg (by simp [hactive]))

/-! ### Fetches (R314 to R322) -/

/-- A fetch of granule `g` is over. -/
def fetchDropped (g : Nat) (s : State) : State := { s with dmp := { s.dmp with
  fetching := s.dmp.fetching.filter (· ≠ g), bulk := s.dmp.bulk.filter (· ≠ g) } }

/-- A PLAIN page read for no host access passes its tag while its granule is PENDING. -/
theorem fetchComplete_restores {s u v : State} {g : Nat} {rebuilt : Bool} {p : Page} (us : Nat) (hdump : s.spn.mode ≠ .dump)
    (hpage : pageAt s (mapOf s g).vpa = some p) (hwanted : fetchWanted s g = true) (hbulk : s.dmp.fetching.contains g = false)
    (hplain : encrypted s p.region = false) (hpasses : readPasses s (mapOf s g).vpa p rebuilt = true)
    (hu : fetchDropped g (noteRead (mapOf s g).vpa rebuilt s) = u) (hpending : gstate u g = .pending)
    (hv : setGState g .shadowed (loadGranule g (areaData s (mapOf s g).vpa p (readArea s (mapOf s g).vpa p rebuilt)) u) = v) :
    exec (.fetchComplete g true rebuilt us) s = .next (settle (bulkFollow (resendKick (resumeWrites (fixLines g
      (areaData s (mapOf s g).vpa p (readArea s (mapOf s g).vpa p rebuilt)) true
      { v with dmp := { v.dmp with restored := v.dmp.restored + 1 } }))))) := by
  have hpending : ¬ gstate u g ≠ .pending := not_not.2 hpending
  show execFetchComplete g true rebuilt us s = _
  unfold execFetchComplete
  simp only [hpage]
  rw [if_neg (by simp [hwanted])]
  simp only [hplain, hpasses, hbulk, hdump, Bool.and_self, Bool.false_and, Bool.false_eq_true, if_false, if_true]
  rw [← fetchDropped, hu, if_neg hpending, hv]

theorem bulkRestoreIssue_issues {s : State} {q g : Nat} (hserving : serving s = true) (hphase : 3 ≤ s.dmp.rphase) (hq : q < 4)
    (hnext : bulkNext s q = some g) (hdie : dieWanted s g = false) : exec (.bulkRestoreIssue q) s =
      .next (needDomains 9 (2 ^ (4 + q)) { s with dmp := { s.dmp with bulk := s.dmp.bulk ++ [g] } }) := by
  show execBulkRestoreIssue q s = _
  unfold execBulkRestoreIssue
  rw [if_neg (by simp [hserving, hphase, hq]), hnext]
  exact congrArg Host.Outcome.next (if_neg (by simp [hdie]))

/-! ### The statement -/

/-- Settles O55: under its conditions each command passes its guards and is the body that its row says (R92, R164, R166, R199, R209, R226,
R247, R248, R266, R277, R281, R314; log 7, 9, 12, 66, 72, 119, 131). -/
theorem completeRegionsStreamAndVault : Obligations.CompleteRegionsStreamAndVault := by
  refine ⟨?respond, ?unsupported, ?started, ?notConfirmed, ?drained, ?liveCheck, ?liveApply, ?zeroSet, ?zeroCleared, ?held, ?listReady,
    ?dumpPassed, ?dumpFailed, ?dumpSample, ?polled, ?estimated, ?learning, ?param, ?epoch, ?examined, ?walked, ?rowClosed, ?programmed,
    ?dieMissed, ?collected, ?levelled, ?scrubbed, ?rebuilt, ?compacted, ?trained, ?forced, ?fetched, ?issued, ?heard, ?corrupt⟩
  case respond => exact fun s t hcore hrom => congrArg Host.Outcome.next (spdmServe_serves hcore hrom)
  case unsupported => exact fun s t hcore hrom => congrArg Host.Outcome.next (spdmServe_serves hcore hrom)
  case started =>
    intro s r hserving hlife hopening hslot hcode
    have hslot : encrypted s r = true → (slotOf s r).st ≠ .starting := by
      intro henc
      exact hslot.resolve_left (by simp [henc])
    rw [startChecksComplete_ends hserving hlife (by simpa using hopening) hslot, hcode]
    rfl
  case notConfirmed =>
    exact fun s r hserving hlife hopening => startCheckTimeout_fails hserving hlife (by simpa using hopening)
  case drained =>
    rintro s r u hserving hlife hdrained h rfl
    exact regionDrained_stops hserving hlife hdrained h
  case liveCheck =>
    intro s slot hcore h1 h2 hmode
    rw [exec_live_request hcore (.inl ⟨rfl, rfl⟩), liveRequest_begins slot 1 h1 h2 (by simpa [modeIn] using hmode)]
  case liveApply =>
    intro s slot hcore h1 h2 hmode
    rw [exec_live_request hcore (.inr ⟨rfl, rfl⟩), liveRequest_begins slot 2 h1 h2 (by simpa [modeIn] using hmode)]
  case zeroSet => exact fun s hdump => forceZeroWrite_set hdump
  case zeroCleared => exact fun s hdump => forceZeroWrite_cleared hdump
  case held =>
    intro s tag w hfind hhold
    rw [exec_writeHoldTimeout hfind]
    rcases hhold with h | h | h <;> rw [h] <;> rfl
  case listReady =>
    intro s q hdump hquad hphase hqueue hrunning hplaced
    exact congrArg Host.Outcome.next (if_neg (by simp_all))
  case dumpPassed => exact fun s vpa q hdump hq => dumpProgramComplete_passes hdump hq
  case dumpFailed => exact fun s vpa q hdump hq => dumpProgramComplete_fails hdump hq
  case dumpSample =>
    rintro s m u v hdump rfl rfl hnone
    refine dumpEnergySample_noRecord hdump fun o ho r hr => ?_
    have hother := List.all_eq_true.1 hnone o ho
    simp [hr] at hother
  case polled =>
    intro s resp hbad
    exact congrArg Host.Outcome.next (if_neg (by simp [hbad]))
  case estimated =>
    rintro s m step u v rfl rfl
    rfl
  case learning =>
    rintro s c u hwait hlearning hbudget hgauge hagent rfl
    exact congrArg Host.Outcome.next (if_pos ⟨hwait, hlearning, hbudget, hgauge, hagent⟩)
  case param =>
    rintro s value p u hfind hinput hholdup hdump rfl
    show execParamWrite value s = _
    simp only [execParamWrite, hfind]
    rw [if_neg (by simp [hinput, hholdup, hdump])]
  case epoch =>
    intro s bad hserving
    exact congrArg Host.Outcome.next (if_neg (by simp [hserving]))
  case examined =>
    rintro s q err bad u g hserving hquad hready rfl hfirst
    exact ringExamine_examines bad hserving hquad hready hfirst
  case walked =>
    rintro s r u last hruns hr hseq hdef hserves rfl rfl
    exact congrArg Host.Outcome.next (if_neg (by simp [hruns, hr, hseq, hdef, hserves]))
  case rowClosed => exact fun s die hdump => congrArg Host.Outcome.next (if_neg hdump)
  case programmed => exact fun s vpa ok h => programComplete_ends h
  case dieMissed =>
    exact fun s c d hc hdie hpop hd hdump hmiss => dieTimeout_firstMiss hc hdie hpop hd hdump hmiss
  case collected => exact fun s failed n hawake hnone hlow hvictim => gcRelocate_victim hawake hnone hlow hvictim
  case levelled => exact fun s failed e hawake hlow hspread hhour => wearLevelMove_moves hawake hlow hspread hhour
  case scrubbed =>
    intro s n hserving hlive hnew
    exact congrArg Host.Outcome.next (if_neg (by simp_all))
  case rebuilt => exact fun s failed n hawake hnext => redundancyRebuild_relocates hawake hnext
  case compacted =>
    exact fun s n failed hawake hfull herase hbusy hnew => twinCompaction_takesUp failed hawake hfull herase hbusy hnew
  case trained => exact fun s c hc hactive hfails => vaultTraining_failsAgain hc hactive hfails
  case forced => exact fun s c htest hc hactive => vaultForceFail_active htest hc hactive
  case fetched =>
    rintro s g tagOk rebuilt us p u v hdump hpage hwanted hbulk hplain rfl hpasses hu hpending hv
    exact fetchComplete_restores us hdump hpage hwanted hbulk hplain hpasses hu hpending hv
  case issued => exact fun s q g hserving hphase hq hnext hdie => bulkRestoreIssue_issues hserving hphase hq hnext hdie
  case heard => exact fun s h hon htrained => congrArg Host.Outcome.next (if_pos (by simp [korHears, hon, htrained]))
  case corrupt =>
    exact fun s uncorrectable hon htrained => congrArg Host.Outcome.next (if_neg (by simp [korHears, hon, htrained]))

end Sys2Proof.Machine
end

section
/-!
PROOFS. The write rows of the granule state table (R169, R172, R173, R189, R192): what an admitted write does to the tables of the granule
states, the reservations and the twin entries, one part of the write after the other, and the statement about it.
-/

namespace Sys2Proof.Machine

/-- The tables that a write's row speaks of: state words, reservations and twin entries. -/
def writeTables (s : State) : List (Nat × GWord) × List Nat × List Nat := (s.gst.states, s.gst.rsv, s.gst.twin)

theorem writeTables_of_gst {s t : State} (h : t.gst = s.gst) : writeTables t = writeTables s := by rw [writeTables, h, writeTables]

theorem gword_of_states {s t : State} (h : t.gst.states = s.gst.states) (k : Nat) : gword t k = gword s k := by
  rw [gword, h, gword]

/-! ### Its reservation or twin entry (R189, R190, R192) -/

/-- Conditions and leases brought up to date leave the granule tables alone. -/
theorem refreshLeases_refreshConditions_gst (fell : Bool) (s : State) :
    (refreshLeases (refreshConditions fell s)).gst = s.gst :=
  (refreshLeases_keeps (m := 0x302020) (by decide) (refreshConditions_keeps _ (by decide) (Keeps.refl _ s))).gstEq
    (by decide) (by decide)

theorem drawLease_gst (q : Nat) (s : State) : (drawLease q s).gst = s.gst := by
  unfold drawLease
  split <;> rfl

/-- A reservation is taken once, and the twin entry given up for it. -/
theorem takeRsv_gst (g : Nat) (s : State) : (takeRsv g s).gst =
    if s.gst.rsv.contains g then s.gst else { s.gst with rsv := sins g s.gst.rsv, twin := sdel s.gst.twin g } := by
  unfold takeRsv
  split
  · rfl
  · dsimp only
    rw [refreshLeases_refreshConditions_gst]
    split
    · split
      · rw [raise_gst, drawLease_gst]
      · rw [drawLease_gst]
    · rw [drawLease_gst]

/-- What a write of class `c` takes for its granule. -/
def reservedFor (g : Nat) (c : AckClass) (s : State) : State :=
  if needsRsv s g c then takeRsv g s
  else if c = .vaulted ∧ !dirtyState (gstate s g) ∧ !(s.gst.rsv.contains g) then takeTwin g s else s

theorem reservedFor_keeps (g : Nat) (c : AckClass) (s : State) : Keeps 0x302060 s (reservedFor g c s) :=
  .ite (takeRsv_keeps g (by decide) (Keeps.refl _ s)) (.ite (takeTwin_keeps g (by decide) (Keeps.refl _ s)) (Keeps.refl _ s))

theorem reservedFor_states (g : Nat) (c : AckClass) (s : State) : (reservedFor g c s).gst.states = s.gst.states := by
  unfold reservedFor
  split
  · rw [takeRsv_gst]
    split <;> rfl
  · split <;> rfl

/-- A write that is not VAULTED holds a reservation. -/
theorem mem_reservedFor_rsv {g : Nat} {c : AckClass} (hc : c ≠ .vaulted) (s : State) : g ∈ (reservedFor g c s).gst.rsv := by
  unfold reservedFor needsRsv
  by_cases hrsv : g ∈ s.gst.rsv
  · rw [if_neg (by simp [hrsv]), if_neg (by simp [hc])]
    exact hrsv
  · rw [if_pos (by simp [hc, hrsv]), takeRsv_gst, if_neg (by simp [hrsv])]
    exact (mem_sins g g _).2 (.inl rfl)

/-- A VAULTED write to a granule outside the dirty set that holds no reservation holds a twin entry. -/
theorem mem_reservedFor_twin {g : Nat} {s : State} (hclean : isDirty s g = false) (hrsv : g ∉ s.gst.rsv) :
    g ∈ (reservedFor g .vaulted s).gst.twin := by
  have hclean : dirtyState (gstate s g) = false := hclean
  unfold reservedFor
  rw [if_neg (by simp [needsRsv]), if_pos (by simp [hclean, hrsv])]
  exact (mem_sins g g _).2 (.inl rfl)

/-! ### The move of its granule (R172, R173) -/

/-- The write rows of R172: the state that follows. -/
def stateAfterWrite : GState → GState
  | .free => .dirty | .dirty => .dirty | .lost => .dirty
  | .inflight => .redirty | .redirty => .redirty | .shadowed => .redirty | .pending => .redirty | .poison => .redirty

theorem writeTables_setGState {g : Nat} {t : State} (hg : g < hdmGranules t) (st : GState) :
    writeTables (setGState g st t) = (tput freeWord t.gst.states g ⟨st, (gword t g).stale⟩, t.gst.rsv, t.gst.twin) := by
  rw [writeTables, setGState, setWord_gst, if_pos hg]

theorem writeTables_poisonGranule (g : Nat) (s : State) : writeTables (poisonGranule g s) = writeTables s :=
  foldl_keeps_value (φ := writeTables) (f := fun t l => poisonLine (g * 256 + l) true t) (fun _ _ => rfl) _ s

theorem writeTables_joinRing (g : Nat) (s : State) : writeTables (joinRing g s) = writeTables s :=
  writeTables_of_gst ((joinRing_keeps (m := 0x2000) g (by decide) (Keeps.refl _ s)).gstEq (by decide) (by decide))

/-- A poison-fill with the state that follows it, its event and its vector; `q` is the granule's quadrant. -/
def poisonFilled (q g : Nat) (next : GState) (t : State) : State :=
  msix 10 (raise 0x0309 (quadUnit q 1) [(5, g * 16384)] (setGState g next (poisonGranule g t)))

theorem poisonFilled_gst (q g : Nat) (next : GState) (t : State) :
    (poisonFilled q g next t).gst = (setGState g next (poisonGranule g t)).gst := by
  rw [poisonFilled, msix_gst, raise_gst]

/-- The move of granule `g` from its state in `s`, its reservation taken in `t`. -/
def movedByWrite (g : Nat) (s t : State) : State :=
  match gstate s g with
  | .free => joinRing g (setGState g .dirty (zeroGranule g t))
  | .inflight => setGState g .redirty t
  | .shadowed => joinRing g (setGState g .redirty t)
  | .pending => joinRing g (setGState g .redirty t)
  | .poison => joinRing g (poisonFilled (quadOf s g) g .redirty t)
  | .lost => joinRing g (setMap g { mapOf s g with lost := false } (poisonFilled (quadOf s g) g .dirty t))
  | _ => t

section Move

variable {g : Nat} {s t : State} (hg : g < hdmGranules t) (hstates : t.gst.states = s.gst.states)
include hg

theorem writeTables_poisonFilled (q : Nat) (next : GState) :
    writeTables (poisonFilled q g next t) = (tput freeWord t.gst.states g ⟨next, (gword t g).stale⟩, t.gst.rsv, t.gst.twin) := by
  have hspn : (poisonGranule g t).spn = t.spn :=
    (poisonGranule_keeps (m := 0x40) g (by decide) (Keeps.refl _ t)).spnEq (by decide) (by decide)
  obtain ⟨hst, hrest⟩ := Prod.mk.inj (writeTables_poisonGranule g t)
  obtain ⟨hrsv, htwin⟩ := Prod.mk.inj hrest
  rw [writeTables_of_gst (poisonFilled_gst q g next t), writeTables_setGState (by rwa [hdmGranules_of_spn hspn]), gword_of_states hst, hst, hrsv, htwin]

include hstates

/-- The tables after the move: the granule's word as its row says, or untouched where the row keeps it. -/
theorem writeTables_movedByWrite : writeTables (movedByWrite g s t) =
    (if gstate s g = .dirty ∨ gstate s g = .redirty then t.gst.states
      else tput freeWord t.gst.states g ⟨stateAfterWrite (gstate s g), (gword s g).stale⟩, t.gst.rsv, t.gst.twin) := by
  have hstale : (gword t g).stale = (gword s g).stale := congrArg GWord.stale (gword_of_states hstates g)
  have hzero : writeTables (setGState g .dirty (zeroGranule g t)) =
      (tput freeWord t.gst.states g ⟨.dirty, (gword t g).stale⟩, t.gst.rsv, t.gst.twin) := by
    rw [writeTables_setGState (by rwa [hdmGranules_of_spn (zeroGranule_spn g t)])]
    rfl
  have hmap (e : MapEntry) (u : State) : writeTables (setMap g e u) = writeTables u := rfl
  unfold movedByWrite
  cases gstate s g <;>
    simp only [writeTables_joinRing, hmap, hzero, writeTables_setGState hg, writeTables_poisonFilled hg, hstale, stateAfterWrite,
      reduceCtorEq, or_self, or_true, or_false, if_true, if_false] <;> rfl

theorem gword_movedByWrite (k : Nat) : gword (movedByWrite g s t) k =
    if k = g then ⟨stateAfterWrite (gstate s g), (gword s g).stale⟩ else gword s k := by
  have hst : (movedByWrite g s t).gst.states = _ := congrArg Prod.fst (writeTables_movedByWrite hg hstates)
  rw [gword, hst]
  dsimp only
  split
  next hkept =>
    have hsame : stateAfterWrite (gstate s g) = gstate s g := by rcases hkept with h | h <;> rw [h] <;> rfl
    rw [hsame, hstates]
    split
    next hk => rw [hk]; rfl
    next => rfl
  next => rw [tget_tput, hstates]; rfl

omit hg hstates

theorem mem_raised_movedByWrite (hst : gstate s g = .poison ∨ gstate s g = .lost) (t : State) :
    ⟨0x0309, quadUnit (quadOf s g) 1, [(5, g * 16384)]⟩ ∈ (movedByWrite g s t).raised := by
  have hjoin (u : State) : (joinRing g u).raised = u.raised :=
    (joinRing_keeps (m := 0x2000) g (by decide) (Keeps.refl _ u)).raisedEq (by decide)
  have hmap (e : MapEntry) (u : State) : (setMap g e u).raised = u.raised := rfl
  have hfill (q : Nat) (next : GState) : ⟨0x0309, quadUnit q 1, [(5, g * 16384)]⟩ ∈ (poisonFilled q g next t).raised := by
    simp [poisonFilled]
  rcases hst with h | h
  · simpa only [movedByWrite, h, hjoin] using hfill (quadOf s g) .redirty
  · simpa only [movedByWrite, h, hjoin, hmap] using hfill (quadOf s g) .dirty

end Move

/-! ### The rest of an admitted write (R178, R180, R245) -/

theorem touchGranule_gst (g : Nat) (s : State) : (touchGranule g s).gst = { s.gst with touch := tput 0 s.gst.touch g s.gst.epoch } := by
  unfold touchGranule
  dsimp only
  split
  · split <;> rfl
  · rfl

/-- The granule is no longer an injected one where it was filled, nor one to copy for the partner. -/
def writeNoted (g : Nat) (s t : State) : State := { t with
  hlk := { t.hlk with injected := if gstate s g = .poison ∨ gstate s g = .lost then sdel t.hlk.injected g else t.hlk.injected },
  kor := { t.kor with ownCopies := t.kor.ownCopies.filter (· ≠ g) } }

/-- An admitted write, one part after the other. -/
theorem writeState_eq (g r : Nat) (c : AckClass) (s : State) : ∃ t, t = touchGranule g (writeNoted g s (movedByWrite g s (reservedFor g c s))) ∧
    writeState g r c s = if (region t r).entry.sequential then refreshShadowPtr r t else t := ⟨_, rfl, rfl⟩

/-- After the move neither the tables nor the events change. -/
theorem writeState_tables_raised (g r : Nat) (c : AckClass) (s : State) :
    writeTables (writeState g r c s) = writeTables (movedByWrite g s (reservedFor g c s)) ∧
    (writeState g r c s).raised = (movedByWrite g s (reservedFor g c s)).raised := by
  obtain ⟨t, ht, hw⟩ := writeState_eq g r c s
  have hptr : Keeps 0x20 t (writeState g r c s) := hw ▸ .ite (refreshShadowPtr_keeps r (by decide) (Keeps.refl _ t)) (Keeps.refl _ t)
  have htouch := (touchGranule_keeps (m := 0x60) g (by decide) (Keeps.refl _ (writeNoted g s (movedByWrite g s (reservedFor g c s)))))
  constructor
  · rw [writeTables_of_gst (hptr.gstEq (by decide) (by decide)), ht, writeTables, touchGranule_gst]
    rfl
  · rw [hptr.raisedEq (by decide), ht, htouch.raisedEq (by decide)]
    rfl

/-! ### The statement -/

/-- Settles O14: the granule's word by the move of its row, the reservation and the twin entry by what the write takes first (R169, R172,
R173, R189, R192; log 11, 24). -/
theorem writeRowsOfStateTable : Obligations.WriteRowsOfStateTable := by
  intro s g r c hg
  obtain ⟨htables, hraised⟩ := writeState_tables_raised g r c s
  have hgt : g < hdmGranules (reservedFor g c s) := by
    rwa [hdmGranules_of_spn ((reservedFor_keeps g c s).spnEq (by decide) (by decide))]
  have hword (k : Nat) : gword (writeState g r c s) k = if k = g then ⟨stateAfterWrite (gstate s g), (gword s g).stale⟩ else gword s k :=
    (gword_of_states (congrArg Prod.fst htables) k).trans (gword_movedByWrite hgt (reservedFor_states g c s) k)
  have hsets := (congrArg Prod.snd htables).trans (congrArg Prod.snd (writeTables_movedByWrite hgt (reservedFor_states g c s)))
  obtain ⟨hrsv, htwin⟩ := Prod.mk.inj hsets
  refine ⟨?word, fun k hk => ?other, fun hc => ?reservation, fun hc hclean hnone => ?twin, fun hst => ?event⟩
  case word =>
    rw [hword, if_pos rfl]
    rfl
  case other => rw [hword, if_neg hk]
  case reservation => exact hrsv ▸ mem_reservedFor_rsv hc s
  case twin =>
    subst hc
    exact htwin ▸ mem_reservedFor_twin hclean hnone
  case event => exact hraised ▸ mem_raised_movedByWrite hst _

end Sys2Proof.Machine
end

section
/-!
PROOFS. Register accesses (R11, R12, R43, R44, R91, R202, R641 to R643): a whole 64-bit write and what it stores, the registers that DUMP
closes, reads that clear, the latched half of a pair of 32-bit reads, and the statement about them.
-/

namespace Sys2Proof.Machine

/-! ### An access of the path drops its latched half (R642) -/

@[simp] theorem dropHalf_pwr (p : Path) (s : State) : (dropHalf p s).pwr = s.pwr :=
  (dropHalf_keeps (m := 0x10001) p (by decide) (Keeps.refl _ s)).pwrEq (by decide)

@[simp] theorem dropHalf_mode (p : Path) (s : State) : (dropHalf p s).spn.mode = s.spn.mode :=
  (dropHalf_keeps (m := 0x10001) p (by decide) (Keeps.refl _ s)).modeEq (by decide)

@[simp] theorem dropHalf_img (p : Path) (s : State) : (dropHalf p s).img = s.img :=
  (dropHalf_keeps (m := 0x10001) p (by decide) (Keeps.refl _ s)).imgEq (by decide)

@[simp] theorem dropHalf_evr (p : Path) (s : State) : (dropHalf p s).evr = s.evr :=
  (dropHalf_keeps (m := 0x10001) p (by decide) (Keeps.refl _ s)).evrEq (by decide)

@[simp] theorem dropHalf_out (p : Path) (s : State) : (dropHalf p s).out = s.out :=
  (dropHalf_keeps (m := 0x10001) p (by decide) (Keeps.refl _ s)).outEq (by decide)

@[simp] theorem dropHalf_roleIdx (p : Path) (s : State) : (dropHalf p s).spn.roleIdx = s.spn.roleIdx := by
  unfold dropHalf
  split <;> rfl

/-- No half latched for the path is left. -/
theorem path_ne_of_mem_dropHalf {p : Path} {s : State} {h : (Path × Nat) × Nat} (hh : h ∈ (dropHalf p s).spn.halves) : h.1.1 ≠ p := by
  unfold dropHalf at hh
  split at hh
  next => simpa using (List.mem_filter.1 hh).2
  next hnone =>
    have hhalves : s.spn.halves.any (fun h => h.1.1 = p) = false := by
      rw [Bool.not_eq_true, Bool.or_eq_false_iff] at hnone
      exact hnone.1
    simpa using List.any_eq_false.1 hhalves h hh

/-- A half latched after the access is the one that the path's next access finds. -/
theorem find_latched (p : Path) (a v : Nat) {l : List ((Path × Nat) × Nat)} (hl : ∀ h ∈ l, h.1.1 ≠ p) :
    (l ++ [((p, a), v)]).find? (fun h => h.1 = (p, a)) = some ((p, a), v) := by
  have hnone : l.find? (fun h => h.1 = (p, a)) = none := by
    rw [List.find?_eq_none]
    intro h hh heq
    exact hl h hh (congrArg Prod.fst (of_decide_eq_true heq))
  simp [List.find?_append, hnone]

/-! ### Writes (R11, R641, R643) -/

/-- A write of a register of the spine's blocks that is no key word. -/
theorem exec_registerWrite {s : State} (path : Path) {a : Nat} (v : Nat) (fact : Bool) (hcore : s.pwr.corePg = true) (ha : a % 8 = 0)
    (hspine : a < 0x100000) (hwo : hasWo a = false) :
    exec (.registerWrite path a 8 v fact) s = .next (regWrite (wrOf path a 8 v) a fact (dropHalf path s)) := by
  have hok : accessOk a 8 = true := by simp [accessOk, ha]
  have haddr : a / 8 * 8 = a := Nat.div_mul_cancel (Nat.dvd_of_mod_eq_zero ha)
  show execRegisterWrite path a 8 v fact s = _
  unfold execRegisterWrite localWrite
  rw [if_neg (by simp [hcore]), if_neg (by simp [hok]), if_neg (by omega), if_neg (by omega), if_neg (by omega), haddr,
    if_neg (by simp [hwo])]

theorem registerWrite_badAccess {s : State} (path : Path) {a width : Nat} (v : Nat) (fact : Bool) (hcore : s.pwr.corePg = true)
    (hbad : width ≠ 4 ∧ width ≠ 8 ∨ a % width ≠ 0) :
    exec (.registerWrite path a width v fact) s = .next (dropHalf path s) := by
  have hok : accessOk a width = false := by
    rcases hbad with ⟨h4, h8⟩ | halign
    · simp [accessOk, h4, h8]
    · simp [accessOk, halign]
  show execRegisterWrite path a width v fact s = _
  unfold execRegisterWrite
  rw [if_neg (by simp [hcore]), if_pos (by simp [hok])]

/-- What a write starts at an address of the spine's blocks, after what it stores. -/
theorem regWrite_spine {w : RegWr} {a : Nat} {fact : Bool} {s t : State} (hspine : a < 0x100000) (hstore : regStore w a s = t) :
    regWrite w a fact s = actUnits w a fact (actFront w a t) := by
  subst hstore
  exact if_pos hspine

/-- A whole write sets every bit of a field at bit 0. -/
theorem field_wholeWrite (path : Path) (a v : Nat) {n old : Nat} (hn : n ≤ 64) (hold : old < 2 ^ n) :
    (wrOf path a 8 v).field 0 n old = v % 2 ^ n := by
  have hmask : bitsOf (2 ^ 64 - 1) 0 n = 2 ^ n - 1 := by
    have hbits : (2 ^ 64 - 1) % 2 ^ n = 2 ^ n - 1 := by
      apply Nat.eq_of_testBit_eq
      intro i
      rw [Nat.testBit_mod_two_pow, Nat.testBit_two_pow_sub_one, Nat.testBit_two_pow_sub_one, ← Bool.decide_and]
      exact decide_eq_decide.2 (by omega)
    simpa [bitsOf] using hbits
  have hold' : old &&& (2 ^ n - 1) = old := by rw [Nat.and_two_pow_sub_one_eq_mod, Nat.mod_eq_of_lt hold]
  have hvalue : bitsOf (v % 2 ^ 64) 0 n = v % 2 ^ n := by
    simp [bitsOf, Nat.mod_mod_of_dvd v (Nat.pow_dvd_pow 2 hn)]
  show bitsOf (v % 2 ^ 64) 0 n &&& bitsOf (2 ^ 64 - 1) 0 n ||| (old - (old &&& bitsOf (2 ^ 64 - 1) 0 n)) = _
  rw [hmask, hold', hvalue, Nat.sub_self, Nat.or_zero, Nat.and_two_pow_sub_one_eq_mod, Nat.mod_mod]

/-- `FOLD_MS` takes a write as an RWL field does (R43, R91). -/
theorem registerWrite_foldMs {s : State} (path : Path) (v : Nat) (fact : Bool) (hcore : s.pwr.corePg = true) (hfold : s.evr.foldMs < 65536) :
    exec (.registerWrite path 0x90028 8 v fact) s =
      (if path = .firmware ∧ s.img.locked = false
       then .next { dropHalf path s with evr := { s.evr with foldMs := clamp 10 10000 (v % 65536) } }
       else .next (dropHalf path s)) := by
  have hstore : regStore (wrOf path 0x90028 8 v) 0x90028 (dropHalf path s) = { dropHalf path s with evr := { (dropHalf path s).evr with
      foldMs := (wrOf path 0x90028 8 v).locked (dropHalf path s) 0 16 10 10000 (dropHalf path s).evr.foldMs } } := rfl
  have hfield := field_wholeWrite path 0x90028 v (n := 16) (by decide) hfold
  rw [exec_registerWrite path v fact hcore rfl (by decide) rfl, regWrite_spine (by decide) hstore, dropHalf_evr]
  by_cases hopen : path = .firmware ∧ s.img.locked = false
  · have hlocked : (wrOf path 0x90028 8 v).locked (dropHalf path s) 0 16 10 10000 s.evr.foldMs = clamp 10 10000 (v % 65536) := by
      obtain ⟨hpath, hunlocked⟩ := hopen
      have ho : (wrOf path 0x90028 8 v).open_ (dropHalf path s) = true := by simp [RegWr.open_, wrOf, hpath, hunlocked]
      have hhits : (wrOf path 0x90028 8 v).hits 0 16 = true :=
        (by decide : (bitsOf (reached64 0x90028 8) 0 16 != 0) = true)
      rw [RegWr.locked, if_pos ho, RegWr.bounded, if_pos hhits, hfield]
      rfl
    rw [if_pos hopen, hlocked]
    rfl
  · have hlocked : (wrOf path 0x90028 8 v).locked (dropHalf path s) 0 16 10 10000 s.evr.foldMs = s.evr.foldMs := by
      refine if_neg fun ho => hopen ?_
      simpa [RegWr.open_, wrOf] using ho
    rw [if_neg hopen, hlocked, ← dropHalf_evr path s]
    rfl

/-- `ROLE_IDX` takes a write of every path (R11). -/
theorem registerWrite_roleIdx {s : State} (path : Path) (v : Nat) (fact : Bool) (hcore : s.pwr.corePg = true) (hidx : s.spn.roleIdx < 64) :
    exec (.registerWrite path 0x00018 8 v fact) s =
      .next { dropHalf path s with spn := { (dropHalf path s).spn with roleIdx := v % 64 } } := by
  have hstore : regStore (wrOf path 0x00018 8 v) 0x00018 (dropHalf path s) = { dropHalf path s with spn := { (dropHalf path s).spn with
      roleIdx := (wrOf path 0x00018 8 v).field 0 6 (dropHalf path s).spn.roleIdx } } := rfl
  rw [exec_registerWrite path v fact hcore rfl (by decide) rfl, regWrite_spine (by decide) hstore,
    field_wholeWrite path 0x00018 v (n := 6) (by decide) (by simpa using hidx)]
  rfl

/-! ### The registers that DUMP closes (R44) -/

section Dump

variable (w : RegWr) (fact : Bool) {s : State} (hdump : s.spn.mode = .dump)
include hdump

/-- Where the closed register stores, the store itself rejects the write. -/
theorem regStore_closed {a : Nat} (ha : a = 0x20030 ∨ a = 0xE0058 ∨ a = 0xD0040 ∨ a = 0x50038 ∨ a = 0x40008) :
    regStore w a s = rejectInDump s := by
  rcases ha with rfl | rfl | rfl | rfl | rfl <;>
    simp [regStore, storeFront, storeWrite, storeEnergy, storeLinks, storeUnits, inRun, hdump]

/-- And nothing more is started. -/
theorem regWrite_storesClosed {a : Nat} (ha : a = 0x20030 ∨ a = 0xE0058 ∨ a = 0xD0040 ∨ a = 0x50038 ∨ a = 0x40008) :
    regWrite w a fact s = rejectInDump s := by
  have hspine : a < 0x100000 := by omega
  rw [regWrite_spine hspine (regStore_closed w hdump ha)]
  rcases ha with rfl | rfl | rfl | rfl | rfl
  · rfl
  · exact if_pos hdump
  · rfl
  · exact if_pos hdump
  · exact if_pos hdump

/-- Where the closed register starts a command, its start rejects the write. -/
theorem regWrite_startsClosed {a : Nat} (hcore : s.pwr.corePg = true) (ha : a = 0x20 ∨ a = 0x20018 ∨ a = 0x20058) :
    regWrite w a fact s = rejectInDump s := by
  have hrole (func cover : Nat) : run (execRoleDataWrite func cover s) s = rejectInDump s :=
    congrArg (run · s) (roleDataWrite_inDump func cover hcore hdump)
  rcases ha with rfl | rfl | rfl
  · exact (regWrite_spine (by decide) rfl).trans (hrole _ _)
  · exact (regWrite_spine (by decide) rfl).trans (if_pos hdump)
  · exact (regWrite_spine (by decide) rfl).trans (if_pos hdump)

end Dump

theorem registerWrite_closedInDump {s : State} (path : Path) {a : Nat} (v : Nat) (fact : Bool) (hcore : s.pwr.corePg = true)
    (hdump : s.spn.mode = .dump) (ha : a ∈ [0x20, 0x20018, 0x20058, 0x20030, 0xE0058, 0xD0040, 0x50038, 0x40008]) :
    exec (.registerWrite path a 8 v fact) s = .next (rejectInDump (dropHalf path s)) := by
  have haddr : ∀ x ∈ [0x20, 0x20018, 0x20058, 0x20030, 0xE0058, 0xD0040, 0x50038, 0x40008],
      x % 8 = 0 ∧ x < 0x100000 ∧ hasWo x = false := by decide
  obtain ⟨halign, hspine, hwo⟩ := haddr a ha
  have hdump : (dropHalf path s).spn.mode = .dump := (dropHalf_mode path s).trans hdump
  rw [exec_registerWrite path v fact hcore halign hspine hwo]
  congr 1
  have hclosed : (a = 0x20 ∨ a = 0x20018 ∨ a = 0x20058) ∨ a = 0x20030 ∨ a = 0xE0058 ∨ a = 0xD0040 ∨ a = 0x50038 ∨ a = 0x40008 := by
    simpa [or_assoc] using ha
  rcases hclosed with hstarts | hstores
  · exact regWrite_startsClosed _ fact hdump (by simpa using hcore) hstarts
  · exact regWrite_storesClosed _ fact hdump hstores

/-! ### Reads that clear (R11, R641) -/

/-- What the path's next access needs of the state: the core's power and the latched halves. -/
def latchView (s : State) : Bool × List ((Path × Nat) × Nat) := (s.pwr.corePg, s.spn.halves)

theorem latchView_of_eq {s t : State} (hpwr : t.pwr = s.pwr) (hspn : t.spn = s.spn) : latchView t = latchView s := by
  rw [latchView, hpwr, hspn, latchView]

theorem latchView_gaugeWake (s : State) : latchView (gaugeWake s) = latchView s := by
  have hkeeps : Keeps 0x100080 s (gaugeWake s) := gaugeWake_keeps (by decide) (Keeps.refl _ s)
  exact latchView_of_eq (hkeeps.pwrEq (by decide)) (hkeeps.spnEq (by decide) (by decide))

theorem latchView_clearSpine (m a : Nat) (s : State) : latchView (clearSpine m a s) = latchView s := by
  unfold clearSpine
  repeat' split
  all_goals rfl

theorem latchView_clearQuad (m a : Nat) (s : State) : latchView (clearQuad m a s) = latchView s := by
  have hkeeps : Keeps 0x81000 s (clearQuad m a s) := clearQuad_keeps m a (by decide) (Keeps.refl _ s)
  exact latchView_of_eq (hkeeps.pwrEq (by decide)) (hkeeps.spnEq (by decide) (by decide))

/-- Clearing the fields of a register that is read leaves both alone. -/
theorem latchView_readClear (p : Path) (m a : Nat) (s : State) : latchView (readClear p m a s) = latchView s := by
  unfold readClear
  extract_lets t u
  have ht : latchView t = latchView s := by
    unfold t
    split
    · exact latchView_gaugeWake s
    · rfl
  have hu : latchView u = latchView s := (latchView_clearSpine m a t).trans ht
  split
  · split
    · exact hu
    · exact hu
  · split
    · exact (latchView_clearQuad m a t).trans ht
    · exact ht

theorem readClear_out (p : Path) (m a : Nat) (s : State) : (readClear p m a s).out = s.out :=
  (readClear_keeps (m := 0x1ff6bd) p m a (by decide) (Keeps.refl _ s)).outEq (by decide)

theorem exec_rcRead {s : State} (path : Path) {a width : Nat} (hcore : s.pwr.corePg = true) (hok : accessOk a width = true)
    (ha : a < 0x300000) : exec (.rcRead path a width) s =
      .next (send (.readData path (regRead path a width s).1) (regRead path a width s).2) := by
  show execRcRead path a width s = _
  unfold execRcRead localRead
  rw [if_neg (by simp [hcore]), if_neg (by simp [hok]), if_neg (by omega), if_neg (by omega), if_neg (by omega)]

theorem rcRead_roleCounts {s : State} (path : Path) (hcore : s.pwr.corePg = true) :
    exec (.rcRead path 0x00028 8) s = .next (send (.readData path (regValue path 0x00028 s)) { dropHalf path s with
      spn := { (dropHalf path s).spn with roleChanges := 0, unresolved := 0, staleBounces := 0 } }) := by
  rw [exec_rcRead path hcore (by decide) (by decide)]
  rfl

theorem regValue_roleCounts_zero {s : State} (path : Path) (hchanges : s.spn.roleChanges = 0) (hunresolved : s.spn.unresolved = 0)
    (hbounces : s.spn.staleBounces = 0) : regValue path 0x00028 s = 0 := by
  have hfields : regFields path 0x00028 s = [(32, 16, 0), (16, 16, 0), (0, 16, 0)] := by
    show [(32, 16, s.spn.roleChanges), (16, 16, s.spn.unresolved), (0, 16, s.spn.staleBounces)] = _
    rw [hchanges, hunresolved, hbounces]
  rw [regValue, if_neg (by decide), hfields]
  decide

/-! ### Pairs of 32-bit reads (R202, R642) -/

/-- The halves of a register at a multiple of 8 are two aligned 32-bit accesses of one register. -/
theorem half_accesses {a : Nat} (ha : a % 8 = 0) : accessOk a 4 = true ∧ accessOk (a + 4) 4 = true ∧ a / 8 * 8 = a ∧
    (a + 4) / 8 * 8 = a ∧ (a + 4) % 8 ≠ 0 := by
  refine ⟨?_, ?_, by omega, by omega, by omega⟩ <;>
  · simp only [accessOk, decide_true, Bool.true_or, Bool.true_and, decide_eq_true_eq]
    omega

/-- In the granule-state window each 32-bit read is a snapshot of its own. -/
theorem regRead_window {s : State} (path : Path) {a : Nat} (h0 : 0x200000 ≤ a) (h1 : a < 0x300000) (ha : a % 8 = 0) :
    regRead path a 4 s = (regValue path a s % 2 ^ 32, dropHalf path s) ∧
    regRead path (a + 4) 4 s = (regValue path a s / 2 ^ 32, dropHalf path s) := by
  obtain ⟨-, -, hlow, hhigh, hodd⟩ := half_accesses ha
  unfold regRead
  rw [hlow, hhigh]
  exact ⟨by simp [h0, h1, ha], by simp [h0, h1, hodd]⟩

/-- The state that a read of a register's lower half leaves: cleared as by a whole read, with the upper half latched for the path. -/
def lowHalfRead (path : Path) (a : Nat) (s : State) : State :=
  let t := readClear path (2 ^ 64 - 1) a (dropHalf path s)
  { t with spn := { t.spn with halves := t.spn.halves ++ [((path, a), regValue path a s / 2 ^ 32)] } }

theorem regRead_low {s : State} (path : Path) {a : Nat} (h1 : a < 0x200000) (ha : a % 8 = 0) :
    regRead path a 4 s = (regValue path a s % 2 ^ 32, lowHalfRead path a s) := by
  obtain ⟨-, -, hlow, -, -⟩ := half_accesses ha
  unfold regRead
  rw [hlow]
  simp [Nat.not_le.2 h1, ha, lowHalfRead]

/-- The upper half then comes from the latch. -/
theorem regRead_high {s : State} (path : Path) {a v : Nat} (h1 : a < 0x200000) (ha : a % 8 = 0)
    (hheld : s.spn.halves.find? (fun h => h.1 = (path, a)) = some ((path, a), v)) :
    regRead path (a + 4) 4 s = (v, dropHalf path s) := by
  obtain ⟨-, -, -, hhigh, hodd⟩ := half_accesses ha
  unfold regRead
  rw [hhigh]
  simp [Nat.not_le.2 h1, hodd, hheld]

theorem lowHalfRead_latched (path : Path) (a : Nat) (s : State) :
    (lowHalfRead path a s).spn.halves.find? (fun h => h.1 = (path, a)) = some ((path, a), regValue path a s / 2 ^ 32) := by
  refine find_latched path a _ fun h hh => ?_
  have hhalves : (readClear path (2 ^ 64 - 1) a (dropHalf path s)).spn.halves = (dropHalf path s).spn.halves :=
    congrArg Prod.snd (latchView_readClear path _ a _)
  exact path_ne_of_mem_dropHalf (hhalves ▸ hh)

theorem lowHalfRead_corePg (path : Path) (a : Nat) (s : State) : (lowHalfRead path a s).pwr.corePg = s.pwr.corePg :=
  (congrArg Prod.fst (latchView_readClear path _ a (dropHalf path s))).trans (congrArg Pwr.corePg (dropHalf_pwr path s))

theorem lowHalfRead_out (path : Path) (a : Nat) (s : State) : (lowHalfRead path a s).out = s.out :=
  (readClear_out path _ a (dropHalf path s)).trans (dropHalf_out path s)

/-- Both halves are of the value that the register had at the first read. -/
theorem rcRead_halves {s : State} (path : Path) {a : Nat} (hcore : s.pwr.corePg = true) (h1 : a < 0x200000) (ha : a % 8 = 0) :
    ∃ t u, exec (.rcRead path a 4) s = .next t ∧ exec (.rcRead path (a + 4) 4) t = .next u ∧
      u.out = s.out ++ [.readData path (regValue path a s % 2 ^ 32), .readData path (regValue path a s / 2 ^ 32)] := by
  obtain ⟨hokLow, hokHigh, -, -, -⟩ := half_accesses ha
  obtain ⟨t, ht⟩ : ∃ t, t = send (.readData path (regValue path a s % 2 ^ 32)) (lowHalfRead path a s) := ⟨_, rfl⟩
  have hcore' : t.pwr.corePg = true := by rw [ht, send_pwr, lowHalfRead_corePg, hcore]
  have hheld : t.spn.halves.find? (fun h => h.1 = (path, a)) = some ((path, a), regValue path a s / 2 ^ 32) := by
    rw [ht, send_spn, lowHalfRead_latched]
  refine ⟨t, send (.readData path (regValue path a s / 2 ^ 32)) (dropHalf path t), ?_, ?_, ?_⟩
  · rw [exec_rcRead path hcore hokLow (by omega), regRead_low path h1 ha, ht]
  · rw [exec_rcRead path hcore' hokHigh (by omega), regRead_high path h1 ha hheld]
  · rw [send_out, dropHalf_out, ht, send_out, lowHalfRead_out, List.append_assoc]
    rfl

/-! ### The statement -/

/-- Settles O11: a clause for each kind of write and read (R11, R12, R43, R44, R91, R202, R641 to R643; log 30, 40, 123). -/
theorem registerAccesses : Obligations.RegisterAccesses := by
  refine ⟨?locked, ?selection, ?inDump, ?badAccess, ?clears, ?cleared, ?window, ?halves⟩
  case locked => exact fun s path v fact hcore hfold => registerWrite_foldMs path v fact hcore hfold
  case selection => exact fun s path v fact hcore hidx => registerWrite_roleIdx path v fact hcore hidx
  case inDump => exact fun s path a v fact hcore hdump ha => registerWrite_closedInDump path v fact hcore hdump ha
  case badAccess => exact fun s path a width v fact hcore hbad => registerWrite_badAccess path v fact hcore hbad
  case clears => exact fun s path hcore => rcRead_roleCounts path hcore
  case cleared => exact fun s path hchanges hunresolved hbounces => regValue_roleCounts_zero path hchanges hunresolved hbounces
  case window =>
    intro s path a hcore h0 h1 ha
    obtain ⟨hokLow, hokHigh, -, -, -⟩ := half_accesses ha
    obtain ⟨hlow, hhigh⟩ := regRead_window (s := s) path h0 h1 ha
    exact ⟨by rw [exec_rcRead path hcore hokLow h1, hlow], by rw [exec_rcRead path hcore hokHigh (by omega), hhigh]⟩
  case halves => exact fun s path a hcore h1 ha => rcRead_halves path hcore h1 ha

end Sys2Proof.Machine
end

section
/-!
PROOFS. The dirty budget, the wear governor and the map log (R186, R188, R199, R200, R257, R261, R357, R359): the rule on its inputs, a raw
value taken, the commands that bring one, a millisecond and a second of the governor, a flush of the log, and the statement about them.
-/

namespace Sys2Proof.Machine

/-- A write of the budget's unit alone. -/
theorem keeps_wrp {s : State} (x : Wrp) : Keeps 0x20 s { s with wrp := x } :=
  (Keeps.refl _ s).direct (fun p hp => by cases p <;> simp_all [Part.bit, Part.same])

/-- A write of the stream's unit alone. -/
theorem keeps_shd {s : State} (x : Shd) : Keeps 0x2000 s { s with shd := x } :=
  (Keeps.refl _ s).direct (fun p hp => by cases p <;> simp_all [Part.bit, Part.same])

/-- A write of the vault manager alone. -/
theorem keeps_vlt {s : State} (x : Vlt) : Keeps 0x800 s { s with vlt := x } :=
  (Keeps.refl _ s).direct (fun p hp => by cases p <;> simp_all [Part.bit, Part.same])

/-! ### The rule (R186) -/

/-- The energy of R186 that is left for granules, in the unit of E_usable. -/
def budgetEnergy (eUsable reserve eFixed : Nat) : Int := (eUsable : Int) * (100 - reserve) / 100 - eFixed

theorem rawBudget_zero {forced absent : Bool} {cap e res fix gib : Nat}
    (h : forced = true ∨ absent = true ∨ cap = 0 ∨ budgetEnergy e res fix ≤ 0) : rawBudget forced absent cap e res fix gib = 0 :=
  if_pos h

theorem rawBudget_quotient {cap e res fix gib : Nat} (hcap : cap ≠ 0) (henergy : 0 < budgetEnergy e res fix) :
    rawBudget false false cap e res fix gib = min cap ((budgetEnergy e res fix).toNat * 65536 / gib) := by
  refine if_neg ?_
  rintro (h | h | h | h)
  · cases h
  · cases h
  · exact hcap h
  · exact absurd henergy (Int.not_lt.2 h)

/-! ### A raw value is taken (R186, R199) -/

/-- The least raw values held, newest slot first, once a value is taken into the newest slot. -/
def rawSlots (raw : Nat) : List Nat → List Nat
  | [] => [raw]
  | x :: r => min x raw :: r

theorem foldl_min_rawSlots (raw : Nat) (l : List Nat) : (rawSlots raw l).foldl min raw = l.foldl min raw := by
  cases l with
  | nil => exact Nat.min_self raw
  | cons x r => rw [rawSlots, List.foldl_cons, List.foldl_cons, Nat.min_comm x, ← Nat.min_assoc, Nat.min_self]

/-- A raw value and its causes as the registers show them. -/
def rawNoted (raw cause : Nat) (s : State) : State := { s with wrp := { s.wrp with
  bRaw := raw, zeroCause := cause, rawHist := rawSlots raw s.wrp.rawHist, valid := true } }

/-- `b` is the budget in force; B reaching or leaving 0 is logged. -/
def budgetNoted (b : Nat) (s : State) : State :=
  let t := { s with wrp := { s.wrp with b := b } }
  if (s.wrp.b = 0) = (b = 0) then t else raise 0x0308 0x02 [(1, s.wrp.zeroCause)] t

theorem budgetNoted_wrp (b : Nat) (s : State) : (budgetNoted b s).wrp = { s.wrp with b := b } := by
  unfold budgetNoted
  dsimp only
  split <;> rfl

theorem budgetNoted_raised (b : Nat) (s : State) : (budgetNoted b s).raised =
    s.raised ++ (if (s.wrp.b = 0 ↔ b = 0) then [] else [⟨0x0308, 0x02, [(1, s.wrp.zeroCause)]⟩]) := by
  unfold budgetNoted
  simp only [eq_iff_iff]
  split
  · exact (List.append_nil _).symm
  · rfl

/-- It differs from the state before in the value of B and in the events. -/
theorem budgetNoted_undo (b : Nat) (s : State) :
    { budgetNoted b s with wrp := { (budgetNoted b s).wrp with b := s.wrp.b }, raised := s.raised } = s := by
  unfold budgetNoted
  dsimp only
  split <;> rfl

theorem budgetNoted_keeps (b : Nat) (s : State) : Keeps 0x100020 s (budgetNoted b s) := by
  have hb : Keeps 0x100020 s { s with wrp := { s.wrp with b := b } } := (keeps_wrp _).mono (by decide)
  exact .ite hb (raise_keeps _ _ _ (by decide) hb)

theorem rawNoted_keeps (raw cause : Nat) (s : State) : Keeps 0x20 s (rawNoted raw cause s) := keeps_wrp _

/-- What a raw value leads to, in order: the registers, B with its event, conditions, leases, effective classes, the data path. -/
theorem takeRaw_eq (raw cause : Nat) (s : State) : takeRaw raw cause s = lackStart s (settle (refreshEff (shareFell (rawNoted raw cause s)
    (refreshLeases (refreshConditions (decide (s.wrp.rawHist.foldl min raw < s.wrp.b))
      (budgetNoted (s.wrp.rawHist.foldl min raw) (rawNoted raw cause s))))))) := by
  rw [← foldl_min_rawSlots]
  rfl

theorem takeRaw_effect (s : State) (raw cause : Nat) : ∃ u, u.wrp.bRaw = raw ∧ u.wrp.zeroCause = cause ∧ u.wrp.valid = true ∧
    u.wrp.zeroSec = s.wrp.zeroSec ∧ u.wrp.b = s.wrp.rawHist.foldl min raw ∧ u.wrp.rawHist = rawSlots raw s.wrp.rawHist ∧
    u.raised = s.raised ++ (if (s.wrp.b = 0 ↔ u.wrp.b = 0) then [] else [⟨0x0308, 0x02, [(1, cause)]⟩]) ∧
    OnlyIn [.wrp, .raised] s u ∧ takeRaw raw cause s = lackStart s (settle (refreshEff (shareFell
      { u with wrp := { u.wrp with b := s.wrp.b }, raised := s.raised }
      (refreshLeases (refreshConditions (decide (u.wrp.b < s.wrp.b)) u))))) := by
  have hwrp := budgetNoted_wrp (s.wrp.rawHist.foldl min raw) (rawNoted raw cause s)
  have hkeeps : Keeps 0x100020 s (budgetNoted (s.wrp.rawHist.foldl min raw) (rawNoted raw cause s)) :=
    (budgetNoted_keeps _ _).step (by decide) ((rawNoted_keeps raw cause s).mono (by decide))
  refine ⟨budgetNoted (s.wrp.rawHist.foldl min raw) (rawNoted raw cause s), ?_⟩
  have hundo := budgetNoted_undo (s.wrp.rawHist.foldl min raw) (rawNoted raw cause s)
  have hevent := budgetNoted_raised (s.wrp.rawHist.foldl min raw) (rawNoted raw cause s)
  rw [takeRaw_eq]
  generalize budgetNoted (s.wrp.rawHist.foldl min raw) (rawNoted raw cause s) = u at hwrp hkeeps hundo hevent ⊢
  have hb : u.wrp.b = s.wrp.rawHist.foldl min raw := by rw [hwrp]
  refine ⟨by rw [hwrp]; rfl, by rw [hwrp]; rfl, by rw [hwrp]; rfl, by rw [hwrp]; rfl, hb, by rw [hwrp]; rfl, ?_, fr hkeeps (by decide), ?_⟩
  · rw [hb]
    exact hevent
  · rw [hb]
    exact congrArg (fun x => lackStart s (settle (refreshEff (shareFell x _)))) hundo.symm

/-! ### The commands of the budget (R188, R199, R200) -/

/-- The set `i` latched. -/
def inputLatched (i : InputSet) (s : State) : State := { s with wrp := { s.wrp with
  inbox := none, recompute := false, inEGib := i.eGib % 2 ^ 16, inEFixed := i.eFixed % 2 ^ 16, inReserve := i.reserve % 2 ^ 8,
  inEUsable := min i.eUsable (2 ^ 24 - 1), swapDerate := i.swapDerate, learning := i.learning } }

theorem exec_inputSet {s : State} {i : InputSet} (h : s.wrp.inbox = some i) : exec .inputSet s = .next (takeRaw
    (rawBudget s.wrp.forceZero i.storeAbsent i.cap i.eUsable i.reserve i.eFixed i.eGib)
    (zeroCauseOf (energyShort i.eUsable i.reserve i.eFixed i.eGib) s.wrp.forceZero i.storeAbsent i.cap) (inputLatched i s)) := by
  show execInputSet s = _
  unfold execInputSet
  rw [h]
  rfl

theorem inputSet_ignored {s : State} (h : s.wrp.inbox = none) : exec .inputSet s = .next s := by
  show execInputSet s = _
  unfold execInputSet
  rw [h]

theorem exec_recompute {s : State} (hdump : s.spn.mode ≠ .dump) :
    exec .recompute s = .next (sendInput { s with wrp := { s.wrp with recompute := true } }) :=
  congrArg Host.Outcome.next (if_neg hdump)

/-! ### A millisecond of the governor (R257) -/

/-- The balance that a millisecond's tokens give, before the floor. -/
def tokensRaised (u : State) : Int :=
  min ((wearBurst u * 1073741824 : Nat) : Int) (u.shd.balance + ((u.shd.rate / 1000 : Nat) : Int))

/-- A day of rate below 0. -/
def tokenFloor (u : State) : Int := -((u.shd.rate * 86400 : Nat) : Int)

/-- The bucket a millisecond later. -/
def ticked (u : State) : State := { u with shd := { u.shd with
  balance := max (tokenFloor u) (tokensRaised u), balFloor := decide (tokensRaised u ≤ tokenFloor u) } }

/-- The bucket a millisecond later, with the event of the balance that comes to its floor. -/
def tokensAdded (u : State) : State :=
  if decide (tokensRaised u ≤ tokenFloor u) && !u.shd.balFloor then
    raise 0x0502 0x0D [(4, twos 32 (max (tokenFloor u) (tokensRaised u) / 1048576)), (4, u.shd.rate / 1024)] (ticked u)
  else ticked u

theorem exec_tokenTick (s : State) : exec .tokenTick s =
    .next (tokensAdded (budgetTick { s with qdc := s.qdc.map (fun d => { d with ueRecent := 0 }) })) := rfl

theorem tokensAdded_shd (u : State) : (tokensAdded u).shd = (ticked u).shd := by
  unfold tokensAdded
  split <;> rfl

theorem tokensAdded_keeps (u : State) : Keeps 0x102000 u (tokensAdded u) := by
  have hticked : Keeps 0x102000 u (ticked u) := (keeps_shd _).mono (by decide)
  exact .ite (raise_keeps _ _ _ (by decide) hticked) hticked

theorem tokensAdded_raised (u : State) : (tokensAdded u).raised = u.raised ∨
    ∃ d, (tokensAdded u).raised = u.raised ++ [⟨0x0502, 0x0D, d⟩] ∧ (tokensAdded u).shd.balFloor = true ∧ u.shd.balFloor = false := by
  rw [tokensAdded_shd]
  unfold tokensAdded
  split
  next hfloor =>
    rw [Bool.and_eq_true, Bool.not_eq_true'] at hfloor
    exact .inr ⟨_, rfl, hfloor.1, hfloor.2⟩
  next => exact .inl rfl

theorem budgetTick_ignored {s : State} (h : s.wrp.valid = false) : budgetTick s = s := if_pos (by simp [h])

/-! ### A second of the governor (R257, R261) -/

/-- WEAR_AHEAD with its hysteresis. -/
def aheadNext (d : Shd) : Bool :=
  if d.wearAhead then decide (d.elapsedLife + 800 ≤ d.lifeUsed) else decide (d.elapsedLife + 1000 ≤ d.lifeUsed)

theorem aheadNext_iff (d : Shd) : aheadNext d = true ↔ d.elapsedLife + (if d.wearAhead then 800 else 1000) ≤ d.lifeUsed := by
  unfold aheadNext
  split <;> exact decide_eq_true_iff

/-- WEAR_AHEAD brought up to date: a change is logged, and a rise told to the host. -/
def aheadNoted (s : State) : State :=
  if aheadNext s.shd = s.shd.wearAhead then s
  else
    let t := raise 0x0505 0x0D [(2, s.shd.lifeUsed), (2, s.shd.elapsedLife)] { s with shd := { s.shd with wearAhead := aheadNext s.shd } }
    if aheadNext s.shd then hostEvent 1 true 0x0505 0 t else t

/-- LIFE_90 by the accounts `d`: once reached it stays. -/
def ninetyNoted (d : Shd) (s : State) : State :=
  if decide (9000 ≤ d.lifeUsed) && !d.life90 then raise 0x0506 0x0D [] { s with shd := { s.shd with life90 := true } } else s

/-- LIFE_100 by the accounts `d`: once reached it stays. -/
def hundredNoted (d : Shd) (s : State) : State :=
  if decide (10000 ≤ d.lifeUsed) && !d.life100 then raise 0x0507 0x0D [] { s with shd := { s.shd with life100 := true } } else s

theorem lifeConditions_eq (s : State) : lifeConditions s = hundredNoted s.shd (ninetyNoted s.shd (aheadNoted s)) := rfl

theorem hostEvent_shd (log : Nat) (memoryModule : Bool) (id arg : Nat) (s : State) : (hostEvent log memoryModule id arg s).shd = s.shd :=
  (hostEvent_keeps (m := 0x200010) log memoryModule id arg (by decide) (Keeps.refl _ s)).shdEq (by decide)

theorem aheadNoted_shd (s : State) : (aheadNoted s).shd = { s.shd with wearAhead := aheadNext s.shd } := by
  unfold aheadNoted
  split
  next h => rw [h]
  next =>
    dsimp only
    split
    · rw [hostEvent_shd, raise_shd]
    · rw [raise_shd]

/-- A flag `a` that `b` sets and nothing clears: it reads 1 where it rises, and as before where it does not. -/
theorem or_of_rises {a b : Bool} (h : (b && !a) = true) : (a || b) = true := by
  rw [(Bool.and_eq_true_iff.1 h).1, Bool.or_true]

theorem or_of_not_rises {a b : Bool} (h : ¬ (b && !a) = true) : (a || b) = a := by
  cases a <;> simp_all

theorem ninetyNoted_shd (d : Shd) {s : State} (h : s.shd.life90 = d.life90) :
    (ninetyNoted d s).shd = { s.shd with life90 := d.life90 || decide (9000 ≤ d.lifeUsed) } := by
  unfold ninetyNoted
  split
  next hrises => rw [or_of_rises hrises, raise_shd]
  next hstays => rw [or_of_not_rises hstays, ← h]

theorem hundredNoted_shd (d : Shd) {s : State} (h : s.shd.life100 = d.life100) :
    (hundredNoted d s).shd = { s.shd with life100 := d.life100 || decide (10000 ≤ d.lifeUsed) } := by
  unfold hundredNoted
  split
  next hrises => rw [or_of_rises hrises, raise_shd]
  next hstays => rw [or_of_not_rises hstays, ← h]

/-- The conditions that a second leaves. -/
theorem lifeConditions_shd (s : State) : (lifeConditions s).shd = { s.shd with
    wearAhead := aheadNext s.shd
    life90 := s.shd.life90 || decide (9000 ≤ s.shd.lifeUsed)
    life100 := s.shd.life100 || decide (10000 ≤ s.shd.lifeUsed) } := by
  have hninety := ninetyNoted_shd s.shd (s := aheadNoted s) (by rw [aheadNoted_shd])
  rw [lifeConditions_eq, hundredNoted_shd s.shd (by rw [hninety, aheadNoted_shd]), hninety, aheadNoted_shd]

/-- The governor's rate, accounts and conditions. -/
def wearView (d : Shd) : Nat × Nat × Nat × Bool × Bool × Bool := (d.rate, d.lifeUsed, d.elapsedLife, d.wearAhead, d.life90, d.life100)

theorem wearView_waRoll (s : State) : wearView (waRoll s).shd = wearView s.shd := by
  unfold waRoll
  split <;> rfl

theorem wearView_refreshGc (s : State) : wearView (refreshGc s).shd = wearView s.shd := by
  unfold refreshGc
  extract_lets f new pause d s1 s2
  have h2 : wearView s2.shd = wearView s.shd := by
    unfold s2
    split <;> rfl
  split
  · exact h2
  · exact h2

theorem rateRecompute_ignored {s : State} (h : s.vlt.mapValid = false) : exec .rateRecompute s = .next s :=
  congrArg Host.Outcome.next (if_pos (by simp [h]))

theorem exec_rateRecompute {s : State} (h : s.vlt.mapValid = true) :
    exec .rateRecompute s = .next (refreshGc (waRoll (lifeConditions (rateCompute s)))) :=
  congrArg Host.Outcome.next (if_neg (by simp [h]))

/-- The accounts computed anew; the conditions are those of before. -/
theorem rateCompute_shd (s : State) : ∃ e, (rateCompute s).shd =
    { s.shd with rate := vRem s / tRem s, lifeUsed := lifeUsedOf s, elapsedLife := e } := by
  unfold rateCompute
  exact ⟨_, rfl⟩

theorem rateRecompute_effect {s : State} (h : s.vlt.mapValid = true) : ∃ u t, u = rateCompute s ∧ u.shd.rate = vRem s / tRem s ∧
    u.shd.lifeUsed = lifeUsedOf s ∧ exec .rateRecompute s = .next t ∧ t.shd.rate = u.shd.rate ∧ t.shd.lifeUsed = u.shd.lifeUsed ∧
    t.shd.elapsedLife = u.shd.elapsedLife ∧
    (t.shd.wearAhead = true ↔ u.shd.elapsedLife + (if s.shd.wearAhead then 800 else 1000) ≤ u.shd.lifeUsed) ∧
    (t.shd.life90 = true ↔ s.shd.life90 = true ∨ 9000 ≤ u.shd.lifeUsed) ∧
    (t.shd.life100 = true ↔ s.shd.life100 = true ∨ 10000 ≤ u.shd.lifeUsed) ∧ OnlyIn [.shd, .raised, .hlk, .out] s t := by
  obtain ⟨u, hu⟩ : ∃ u, u = rateCompute s := ⟨_, rfl⟩
  have hkeeps : Keeps 0x302010 s (refreshGc (waRoll (lifeConditions u))) :=
    refreshGc_keeps (by decide) (waRoll_keeps (by decide) (lifeConditions_keeps (by decide) (hu ▸ rateCompute_keeps (by decide) (Keeps.refl _ s))))
  have hview : wearView (refreshGc (waRoll (lifeConditions u))).shd = (u.shd.rate, u.shd.lifeUsed, u.shd.elapsedLife,
      aheadNext u.shd, u.shd.life90 || decide (9000 ≤ u.shd.lifeUsed), u.shd.life100 || decide (10000 ≤ u.shd.lifeUsed)) := by
    rw [wearView_refreshGc, wearView_waRoll, lifeConditions_shd, wearView]
  obtain ⟨e, hshd⟩ := rateCompute_shd s
  rw [← hu] at hshd
  have hwas : u.shd.wearAhead = s.shd.wearAhead := by rw [hshd]
  have hninety : u.shd.life90 = s.shd.life90 := by rw [hshd]
  have hhundred : u.shd.life100 = s.shd.life100 := by rw [hshd]
  simp only [wearView, Prod.mk.injEq] at hview
  obtain ⟨hrate, hused, helapsed, hahead, h90, h100⟩ := hview
  refine ⟨u, _, hu, by rw [hshd], by rw [hshd], hu ▸ exec_rateRecompute h, hrate, hused, helapsed, ?_, ?_, ?_, fr hkeeps (by decide)⟩
  · rw [hahead, aheadNext_iff, hwas]
  · rw [h90, hninety, Bool.or_eq_true, decide_eq_true_iff]
  · rw [h100, hhundred, Bool.or_eq_true, decide_eq_true_iff]

/-! ### A flush of the log (R357, R359) -/

/-- What a flush of the log speaks of in the vault manager. -/
def logView (v : Vlt) : List LogEntry × List LogEntry × Nat × Option Nat := (v.log, v.pendLog, v.seq, v.ckptRunning)

theorem logView_setSeg (n : Nat) (g : Seg) (s : State) : logView (setSeg n g s).vlt = logView s.vlt := rfl

/-- Pages entering the META ring leave the entries, the sequence and a running checkpoint alone. -/
theorem logView_metaFill : ∀ (n : Nat) (ps : List StructPage) (s : State), logView (metaFill n ps s).vlt = logView s.vlt
  | 0, _, _ => rfl
  | n + 1, ps, s => by
    unfold metaFill
    split
    next => rfl
    next => rfl
    next =>
      extract_lets g now pages old t i
      have ht : logView t.vlt = logView s.vlt := logView_setSeg _ _ _
      clear_value t
      split
      next => exact ht
      next => exact ht
      next =>
        split
        · exact ht
        · rw [logView_metaFill n, logView_setSeg]
          exact ht

/-- The log with the pending entries moved to it, their pages in the META ring. -/
def logMoved (s : State) : State :=
  putMeta ((logRuns s.vlt.pendLog).zipIdx.map (fun e => logPage s e.2 e.1))
    { s with vlt := { s.vlt with log := s.vlt.log ++ s.vlt.pendLog, pendLog := [] } }

theorem logView_logMoved (s : State) : logView (logMoved s).vlt = (s.vlt.log ++ s.vlt.pendLog, [], s.vlt.seq, s.vlt.ckptRunning) :=
  logView_metaFill _ _ _

theorem logMoved_keeps (s : State) : Keeps 0x800 s (logMoved s) := putMeta_keeps _ (by decide) (keeps_vlt _)

theorem flushLog_moves {s : State} (hpend : s.vlt.pendLog ≠ []) (hdump : s.spn.mode ≠ .dump) :
    flushLog s = ckptStart (drawTokens (2 * 16384 * (logRuns s.vlt.pendLog).length) (logMoved s)) := by
  have hmode : (logMoved s).spn.mode ≠ .dump := by rwa [(logMoved_keeps s).modeEq (by decide)]
  have hcount : ((logRuns s.vlt.pendLog).zipIdx.map (fun e => logPage s e.2 e.1)).length = (logRuns s.vlt.pendLog).length := by simp
  unfold flushLog
  rw [if_neg hpend]
  show ckptStart (if (logMoved s).spn.mode = .dump then logMoved s else drawTokens (2 * 16384 *
    ((logRuns s.vlt.pendLog).zipIdx.map (fun e => logPage s e.2 e.1)).length) (logMoved s)) = _
  rw [if_neg hmode, hcount]

theorem drawTokens_written (p : Nat) (s : State) : (drawTokens p s).shd.written = s.shd.written + p := by
  unfold drawTokens
  dsimp only
  split <;> rfl

/-- A checkpoint may start, with the next sequence; the entries stay. -/
theorem ckptStart_cases (s : State) : ckptStart s = s ∧ (s.vlt.ckptRunning = none → s.vlt.log.length < 8388608) ∨
    ckptStart s = { s with vlt := { s.vlt with seq := s.vlt.seq + 1, ckptRunning := some s.vlt.seq } } := by
  unfold ckptStart
  split
  next hnot =>
    refine .inl ⟨rfl, fun hnone => ?_⟩
    rcases hnot with h | h
    · rw [hnone] at h
      cases h
    · exact h
  next => exact .inr rfl

theorem logFlush_ignored {s : State} (h : s.spn.mode = .dump ∨ s.spn.mode = .parked ∨ s.pwr.corePg = false) :
    exec .logFlush s = .next s :=
  congrArg Host.Outcome.next (if_pos (by simpa using h))

theorem exec_logFlush {s : State} (hdump : s.spn.mode ≠ .dump) (hparked : s.spn.mode ≠ .parked) (hcore : s.pwr.corePg = true) :
    exec .logFlush s = .next (flushLog s) :=
  congrArg Host.Outcome.next (if_neg (by simp [hdump, hparked, hcore]))

theorem flushLog_effect {s : State} (hdump : s.spn.mode ≠ .dump) : (flushLog s).vlt.log = s.vlt.log ++ s.vlt.pendLog ∧
    (flushLog s).vlt.pendLog = [] ∧
    (s.vlt.pendLog ≠ [] → (flushLog s).shd.written = s.shd.written + 32768 * (logRuns s.vlt.pendLog).length) ∧
    (s.vlt.pendLog ≠ [] → s.vlt.ckptRunning = none → 8388608 ≤ (flushLog s).vlt.log.length →
      ∃ q, s.vlt.seq ≤ q ∧ (flushLog s).vlt.ckptRunning = some q) := by
  by_cases hpend : s.vlt.pendLog = []
  · have hsame : flushLog s = s := if_pos hpend
    rw [hsame]
    exact ⟨by rw [hpend, List.append_nil], hpend, fun h => absurd hpend h, fun h => absurd hpend h⟩
  · rw [flushLog_moves hpend hdump]
    have hview : logView (drawTokens (2 * 16384 * (logRuns s.vlt.pendLog).length) (logMoved s)).vlt = _ :=
      (congrArg logView ((drawTokens_keeps (m := 0x102000) _ (by decide) (Keeps.refl _ (logMoved s))).vltEq (by decide))).trans
        (logView_logMoved s)
    have hwritten := drawTokens_written (2 * 16384 * (logRuns s.vlt.pendLog).length) (logMoved s)
    rw [(logMoved_keeps s).shdEq (by decide)] at hwritten
    generalize drawTokens (2 * 16384 * (logRuns s.vlt.pendLog).length) (logMoved s) = t at hview hwritten ⊢
    simp only [logView, Prod.mk.injEq] at hview
    obtain ⟨hlog, hpendLog, hseq, hrunning⟩ := hview
    rcases ckptStart_cases t with ⟨hsame, hshort⟩ | hstarts
    · rw [hsame]
      refine ⟨hlog, hpendLog, fun _ => by omega, fun _ hnone hlong => ?_⟩
      exact absurd (hshort (hrunning.trans hnone)) (Nat.not_lt.2 hlong)
    · rw [hstarts]
      exact ⟨hlog, hpendLog, fun _ => by dsimp only; omega, fun _ _ _ => ⟨t.vlt.seq, hseq.ge, rfl⟩⟩

theorem logFlush_effect {s : State} (hdump : s.spn.mode ≠ .dump) (hparked : s.spn.mode ≠ .parked) (hcore : s.pwr.corePg = true) :
    ∃ t, exec .logFlush s = .next t ∧ t.vlt.log = s.vlt.log ++ s.vlt.pendLog ∧ t.vlt.pendLog = [] ∧
      (s.vlt.pendLog = [] → t = s) ∧
      (s.vlt.pendLog ≠ [] → t.shd.written = s.shd.written + 32768 * (logRuns s.vlt.pendLog).length) ∧
      (s.vlt.pendLog ≠ [] → s.vlt.ckptRunning = none → 8388608 ≤ t.vlt.log.length → ∃ q, s.vlt.seq ≤ q ∧ t.vlt.ckptRunning = some q) ∧
      OnlyIn [.vlt, .shd, .raised] s t := by
  obtain ⟨hlog, hpend, hwritten, hckpt⟩ := flushLog_effect hdump
  exact ⟨flushLog s, exec_logFlush hdump hparked hcore, hlog, hpend, fun h => if_pos h, hwritten, hckpt,
    fr (flushLog_keeps (m := 0x102800) (by decide) (Keeps.refl _ s)) (by decide)⟩

/-! ### The statement -/

/-- Settles O35: the rule, a raw value taken, and one clause for each command of the budget, the governor and the log (R186, R188, R199,
R200, R257, R261, R357, R359; log 7, 56, 58, 60, 148). -/
theorem budgetTokensAndLog : Obligations.BudgetTokensAndLog := by
  refine ⟨?rule, ?taken, ?inputSet, ?forced, ?inDump, ?ticks, ?second, ?flush⟩
  case rule =>
    refine fun forced absent cap e res fix gib => ⟨fun h => rawBudget_zero h, ?_⟩
    rintro rfl rfl hcap henergy
    exact rawBudget_quotient hcap henergy
  case taken =>
    intro s raw cause
    obtain ⟨u, hraw, hcause, hvalid, hsec, hb, hslots, hrest⟩ := takeRaw_effect s raw cause
    exact ⟨u, hraw, hcause, hvalid, hsec, hb, by rw [hslots]; cases s.wrp.rawHist <;> rfl, hrest⟩
  case inputSet =>
    exact fun s => ⟨fun h => inputSet_ignored h, fun i h => ⟨_, inputLatched i s, rfl, rfl, rfl, rfl, rfl, rfl, rfl, rfl, rfl,
      fr (keeps_wrp _) (by decide), exec_inputSet h⟩⟩
  case forced =>
    intro s hdump
    refine ⟨forceZeroWrite_set hdump, ⟨_, forceZeroWrite_cleared hdump, rfl, rfl, fr (keeps_wrp _) (by decide)⟩, ?_⟩
    exact ⟨_, exec_recompute hdump, rfl, rfl, fr (sendInput_keeps (by decide) (keeps_wrp _)) (by decide)⟩
  case inDump => exact fun s v hdump => ⟨congrArg Host.Outcome.next (if_pos hdump), congrArg Host.Outcome.next (if_pos hdump)⟩
  case ticks =>
    intro s
    refine ⟨_, _, rfl, exec_tokenTick s, ?_, ?_, tokensAdded_raised _, fr (tokensAdded_keeps _) (by decide), fun h => budgetTick_ignored h⟩
    · rw [tokensAdded_shd]
      rfl
    · rw [tokensAdded_shd]
      exact decide_eq_true_iff
  case second => exact fun s => ⟨fun h => rateRecompute_ignored h, fun h => rateRecompute_effect h⟩
  case flush =>
    exact fun s => ⟨fun h => logFlush_ignored h, fun hdump hparked hcore => logFlush_effect hdump hparked hcore⟩

end Sys2Proof.Machine
end

section
/-!
PROOFS. Granules brought back (R127, R129, R130, R172, R316, R318, R320, R325, R326): the content a fetch loads, the ends of a fetch of a
PLAIN page, the bulk restore's next read, the ends of RETRY_GRANULE, and the statement about them.
-/

namespace Sys2Proof.Machine

/-! ### The content loaded (R317) -/

/-- A key that no write of a run names reads as before it. -/
theorem tget_foldl_tput_of_not_key {α β : Type} [DecidableEq α] (d : α) (f : β → Nat) (v : β → α) {a : Nat} :
    ∀ (l : List β) (t : List (Nat × α)), (∀ e ∈ l, f e ≠ a) → tget d (l.foldl (fun t e => tput d t (f e) (v e)) t) a = tget d t a
  | [], _, _ => rfl
  | x :: l, t, h => by
    rw [List.foldl_cons, tget_foldl_tput_of_not_key d f v l _ (fun e he => h e (List.mem_cons_of_mem x he)), tget_tput,
      if_neg (Ne.symm (h x List.mem_cons_self))]

/-- The key of a write of a run reads as written, where no other write of the run has that key. -/
theorem tget_foldl_tput_of_mem {α β : Type} [DecidableEq α] (d : α) (f : β → Nat) (v : β → α) {e : β} :
    ∀ (l : List β) (t : List (Nat × α)), (l.map f).Nodup → e ∈ l → tget d (l.foldl (fun t e => tput d t (f e) (v e)) t) (f e) = v e
  | x :: l, t, hnodup, he => by
    obtain ⟨hx, hnodup⟩ := List.nodup_cons.1 hnodup
    rw [List.foldl_cons]
    rcases List.mem_cons.1 he with rfl | he
    · rw [tget_foldl_tput_of_not_key d f v l _ (fun y hy heq => hx (List.mem_map.2 ⟨y, hy, heq⟩)), tget_tput, if_pos rfl]
    · exact tget_foldl_tput_of_mem d f v l _ hnodup he

theorem tget_loadGranule {d : GranuleData} {e : Nat × BitVec 8} (he : e ∈ d.cells) (hnodup : (d.cells.map Prod.fst).Nodup) (g : Nat)
    (s : State) : tget 0 (loadGranule g d s).gst.dram (g * 16384 + e.1) = e.2 := by
  have hkeys : (d.cells.map (fun e => g * 16384 + e.1)).Nodup := by
    have h := hnodup.map (f := fun k => g * 16384 + k) (add_right_injective _)
    rwa [List.map_map] at h
  exact tget_foldl_tput_of_mem 0 (fun e => g * 16384 + e.1) Prod.snd d.cells _ hkeys he

/-- Loading a granule goes by the granule tables alone. -/
theorem loadGranule_gst_of_gst {s t : State} (h : t.gst = s.gst) (g : Nat) (d : GranuleData) :
    (loadGranule g d t).gst = (loadGranule g d s).gst := by
  simp only [loadGranule, zeroGranule, h]

theorem hdmGranules_loadGranule (g : Nat) (d : GranuleData) (s : State) : hdmGranules (loadGranule g d s) = hdmGranules s :=
  hdmGranules_of_spn ((loadGranule_keeps (m := 0x1000040) g d (by decide) (Keeps.refl _ s)).spnEq (by decide) (by decide))

/-! ### A state word written (R24) -/

/-- No event is lost where a state word is written. -/
theorem mem_raised_setGState {e : Event} {t : State} (he : e ∈ t.raised) (g : Nat) (st : GState) : e ∈ (setGState g st t).raised := by
  unfold setGState setWord
  split
  · unfold plantSram
    split
    · exact List.mem_append_left _ he
    · exact he
  · exact he

theorem gword_setGState {g : Nat} {t : State} (hg : g < hdmGranules t) (st : GState) (x : Nat) :
    gword (setGState g st t) x = if x = g then ⟨st, (gword t g).stale⟩ else gword t x :=
  gword_setWord hg _ x

theorem setGState_dmp (g : Nat) (st : GState) (t : State) : (setGState g st t).dmp = t.dmp :=
  (setGState_keeps (m := 0x180040) g st (by decide) (Keeps.refl _ t)).dmpEq (by decide)

theorem setGState_dram (g : Nat) (st : GState) (t : State) : (setGState g st t).gst.dram = t.gst.dram :=
  ((setGState_keeps (m := 0x180040) g st (by decide) (Keeps.refl _ t)).same .dram (by decide)).symm

theorem setGState_poison (g : Nat) (st : GState) (t : State) : (setGState g st t).gst.poison = t.gst.poison := by
  unfold setGState
  rw [setWord_gst]
  split <;> rfl

/-! ### The ends of a fetch (R316, R318) -/

theorem fetchComplete_ignored {s : State} {g : Nat} (tagOk reb : Bool) (us : Nat)
    (h : pageAt s (mapOf s g).vpa = none ∨ fetchWanted s g = false) : exec (.fetchComplete g tagOk reb us) s = .next s := by
  show execFetchComplete g tagOk reb us s = _
  unfold execFetchComplete
  rcases h with hnone | hunwanted
  · rw [hnone]
  · split
    next => rfl
    next => rw [if_pos (by simp [hunwanted])]

/-- The time of a demand fetch is noted, a long one logged (R316). -/
def fetchTimed (g us : Nat) (t : State) : State :=
  if t.dmp.fetching.contains g then
    let x := { t with dmp := { t.dmp with fetchMaxUs := max t.dmp.fetchMaxUs (min us (2 ^ 32 - 1)) } }
    if 400 < us then raise 0x070B 0x0E [(5, g * 16384), (4, us)] x else x
  else t

/-- The page is read, timed, and off the lists of fetches. -/
def fetchRead (g us : Nat) (s : State) : State := fetchDropped g (fetchTimed g us (noteRead (mapOf s g).vpa false s))

/-- A granule brought back is counted. -/
def countRestored (t : State) : State := { t with dmp := { t.dmp with restored := t.dmp.restored + 1 } }

/-- The granule is SHADOWED with the content of its page, and counted. -/
def granuleRestored (g : Nat) (d : GranuleData) (t : State) : State := countRestored (setGState g .shadowed (loadGranule g d t))

/-- A page that failed its tag is counted. -/
def countTagFail (t : State) : State := { t with dmp := { t.dmp with tagFails := satAdd 16 t.dmp.tagFails 1 } }

/-- The page failed its tag: POISON, with its counts and events, before the partner is asked. -/
def poisonNoted (g v : Nat) (t : State) : State :=
  msix 10 (raise 0x0706 0x0E [(5, g * 16384)] (countTagFail (tagFailed v (setGState g .poison t))))

theorem keeps_dmp {s : State} (x : Dmp) : Keeps 0x4000 s { s with dmp := x } :=
  (Keeps.refl _ s).direct (fun p hp => by cases p <;> simp_all [Part.bit, Part.same])

theorem fetchTimed_keeps (g us : Nat) (t : State) : Keeps 0x104000 t (fetchTimed g us t) := by
  have hmax : Keeps 0x104000 t { t with dmp := { t.dmp with fetchMaxUs := max t.dmp.fetchMaxUs (min us (2 ^ 32 - 1)) } } :=
    (keeps_dmp _).mono (by decide)
  exact .ite (.ite (raise_keeps _ _ _ (by decide) hmax) hmax) (Keeps.refl _ t)

theorem fetchRead_keeps (g us : Nat) (s : State) : Keeps 0x105000 s (fetchRead g us s) :=
  (keeps_dmp _).step (by decide) ((fetchTimed_keeps g us _).step (by decide) (noteRead_keeps _ _ (by decide) (Keeps.refl _ s)))

/-- A page whose read is not rebuilt gives what stands on the media. -/
theorem areaData_readArea (s : State) (v : Nat) (p : Page) : areaData s v p (readArea s v p false) = pageData s v p := rfl

/-- A page read for a PENDING granule: the result of its read decides. -/
theorem fetchEnd_of_pending {g : Nat} {t : State} (hpending : gstate t g = .pending) (good : Bool) (d : GranuleData) (v : Nat) :
    (if gstate t g ≠ .pending then t
      else if good then
        let x := setGState g .shadowed (loadGranule g d t)
        { x with dmp := { x.dmp with restored := x.dmp.restored + 1 } }
      else fetchPoison g v t) = if good then granuleRestored g d t else fetchPoison g v t := by
  rw [if_neg (not_not.2 hpending), granuleRestored]
  generalize setGState g .shadowed (loadGranule g d t) = x
  rfl

section Fetch

variable {s : State} {g : Nat} {p : Page} (us : Nat) (hpage : pageAt s (mapOf s g).vpa = some p) (henc : p.enc = false)
  (hwanted : fetchWanted s g = true) (hdump : s.spn.mode ≠ .dump) (hplain : encrypted s p.region = false)
  (hpending : gstate s g = .pending)
include hpage henc hwanted hdump hplain hpending

/-- The fetch of a PENDING granule's PLAIN page, its read not rebuilt: its own result decides. -/
theorem exec_fetchComplete_plain (tagOk : Bool) : exec (.fetchComplete g tagOk false us) s =
    .next (settle (bulkFollow (resendKick (resumeWrites (fixLines g (pageData s (mapOf s g).vpa p) tagOk
      (if tagOk then granuleRestored g (pageData s (mapOf s g).vpa p) (fetchRead g us s)
        else fetchPoison g (mapOf s g).vpa (fetchRead g us s))))))) := by
  have hpasses : readPasses s (mapOf s g).vpa p false = true := by simp [readPasses, tagMatches, henc]
  have hgst : (fetchRead g us s).gst = s.gst := (fetchRead_keeps g us s).gstEq (by decide) (by decide)
  have hpending : gstate (fetchRead g us s) g = .pending := by
    rw [gstate, gword, hgst]
    exact hpending
  show execFetchComplete g tagOk false us s = _
  unfold execFetchComplete
  rw [hpage]
  dsimp -zeta only
  rw [if_neg (by simp [hwanted])]
  extract_lets +onlyGivenNames v key good d demand drop
  rw [if_neg (by simp [key, hplain])]
  extract_lets +onlyGivenNames s0 s1
  rw [if_neg hdump]
  extract_lets +onlyGivenNames d1 t1 s2 s3
  have hgood : good = tagOk := by simp [good, v, hpasses]
  have hd : d = pageData s v p := areaData_readArea s v p
  have hs1 : s1 = noteRead (mapOf s g).vpa false s := if_neg (by simp [key, hplain])
  have hs3 : s3 = fetchRead g us s := by
    unfold s3 s2 t1 d1
    rw [hs1]
    rfl
  clear_value s3
  subst hs3
  rw [← hgood, ← hd]
  exact congrArg (fun x => Host.Outcome.next (settle (bulkFollow (resendKick (resumeWrites (fixLines g d good x))))))
    (fetchEnd_of_pending hpending good d v)

end Fetch

/-- The registers of the restore once the page is read. -/
theorem fetchRead_dmp (g us : Nat) (s : State) : (fetchRead g us s).dmp = { s.dmp with
    fetchMaxUs := if s.dmp.fetching.contains g then max s.dmp.fetchMaxUs (min us (2 ^ 32 - 1)) else s.dmp.fetchMaxUs
    fetching := s.dmp.fetching.filter (· ≠ g), bulk := s.dmp.bulk.filter (· ≠ g) } := by
  have hnoted : (noteRead (mapOf s g).vpa false s).dmp = s.dmp := rfl
  unfold fetchRead fetchDropped fetchTimed
  dsimp only
  rw [hnoted]
  split
  · split <;> rfl
  · rfl

/-- A demand fetch over 400 µs is logged. -/
theorem mem_raised_fetchRead {g us : Nat} {s : State} (hdemand : s.dmp.fetching.contains g = true) (hlong : 400 < us) :
    ⟨0x070B, 0x0E, [(5, g * 16384), (4, us)]⟩ ∈ (fetchRead g us s).raised := by
  have hdemand' : (noteRead (mapOf s g).vpa false s).dmp.fetching.contains g = true := hdemand
  unfold fetchRead fetchDropped fetchTimed
  rw [if_pos hdemand', if_pos hlong]
  exact List.mem_append_right _ List.mem_cons_self

section Ends

variable {g : Nat} {t : State} (hg : g < hdmGranules t)

theorem countRestored_gst (t : State) : (countRestored t).gst = t.gst := rfl

theorem countRestored_dmp (t : State) : (countRestored t).dmp = { t.dmp with restored := t.dmp.restored + 1 } := rfl

theorem countRestored_raised (t : State) : (countRestored t).raised = t.raised := rfl

theorem granuleRestored_gst (d : GranuleData) :
    (granuleRestored g d t).gst = (setGState g .shadowed (loadGranule g d t)).gst := by
  rw [granuleRestored, countRestored_gst]

theorem loadGranule_dmp (d : GranuleData) : (loadGranule g d t).dmp = t.dmp := rfl

theorem granuleRestored_dmp (d : GranuleData) : (granuleRestored g d t).dmp = { t.dmp with restored := t.dmp.restored + 1 } := by
  rw [granuleRestored, countRestored_dmp, setGState_dmp, loadGranule_dmp]

theorem granuleRestored_keeps (d : GranuleData) : Keeps 0x1184040 t (granuleRestored g d t) :=
  (keeps_dmp _).step (by decide) (setGState_keeps g .shadowed (by decide) (loadGranule_keeps g d (by decide) (Keeps.refl _ t)))

theorem mem_raised_granuleRestored {e : Event} (he : e ∈ t.raised) (d : GranuleData) : e ∈ (granuleRestored g d t).raised := by
  have hload : e ∈ (loadGranule g d t).raised := he
  rw [granuleRestored, countRestored_raised]
  exact mem_raised_setGState hload g .shadowed

include hg in
theorem gword_granuleRestored (d : GranuleData) (x : Nat) :
    gword (granuleRestored g d t) x = if x = g then ⟨.shadowed, (gword t g).stale⟩ else gword t x := by
  rw [gword_of_states (congrArg Gst.states (granuleRestored_gst d)), gword_setGState (by rwa [hdmGranules_loadGranule])]
  rfl

theorem countTagFail_dmp (t : State) : (countTagFail t).dmp = { t.dmp with tagFails := satAdd 16 t.dmp.tagFails 1 } := rfl

theorem countTagFail_gst (t : State) : (countTagFail t).gst = t.gst := rfl

theorem tagFailed_gst (v : Nat) (t : State) : (tagFailed v t).gst = t.gst := rfl

theorem tagFailed_dmp (v : Nat) (t : State) : (tagFailed v t).dmp = t.dmp := rfl

/-- What is noted of a page that failed its tag leaves the granule tables. -/
theorem noted_gst (g v : Nat) (t : State) :
    (msix 10 (raise 0x0706 0x0E [(5, g * 16384)] (countTagFail (tagFailed v t)))).gst = t.gst := by
  rw [msix_gst, raise_gst, countTagFail_gst, tagFailed_gst]

/-- The two events of a page that failed its tag. -/
theorem noted_raised (g v : Nat) (t : State) :
    (msix 10 (raise 0x0706 0x0E [(5, g * 16384)] (countTagFail (tagFailed v t)))).raised =
      t.raised ++ [⟨0x0B0A, 0x07, [(4, v)]⟩, ⟨0x0706, 0x0E, [(5, g * 16384)]⟩] :=
  List.append_assoc _ _ _

theorem fetchPoison_eq (g v : Nat) (t : State) : fetchPoison g v t =
    if partnerRepairOk (poisonNoted g v t) g then askPartner g none (poisonNoted g v t) else poisonNoted g v t := by
  unfold fetchPoison poisonNoted
  generalize setGState g .poison t = x
  rfl

/-- Asking the partner changes the link and what is sent alone. -/
theorem fetchPoison_keeps_noted (g v : Nat) (t : State) : Keeps 0x208000 (poisonNoted g v t) (fetchPoison g v t) := by
  rw [fetchPoison_eq]
  generalize poisonNoted g v t = x
  exact .ite (askPartner_keeps g none (by decide) (Keeps.refl _ x)) (Keeps.refl _ x)

theorem poisonNoted_gst (g v : Nat) (t : State) : (poisonNoted g v t).gst = (setGState g .poison t).gst := by
  rw [poisonNoted, noted_gst]

theorem poisonNoted_dmp (g v : Nat) (t : State) : (poisonNoted g v t).dmp = { t.dmp with tagFails := satAdd 16 t.dmp.tagFails 1 } := by
  rw [poisonNoted, msix_dmp, raise_dmp, countTagFail_dmp, tagFailed_dmp, setGState_dmp]

theorem poisonNoted_raised (g v : Nat) (t : State) : (poisonNoted g v t).raised =
    (setGState g .poison t).raised ++ [⟨0x0B0A, 0x07, [(4, v)]⟩, ⟨0x0706, 0x0E, [(5, g * 16384)]⟩] := by
  rw [poisonNoted, noted_raised]

theorem fetchPoison_gst (g v : Nat) (t : State) : (fetchPoison g v t).gst = (setGState g .poison t).gst :=
  ((fetchPoison_keeps_noted g v t).gstEq (by decide) (by decide)).trans (poisonNoted_gst g v t)

theorem fetchPoison_dmp (g v : Nat) (t : State) : (fetchPoison g v t).dmp = { t.dmp with tagFails := satAdd 16 t.dmp.tagFails 1 } :=
  ((fetchPoison_keeps_noted g v t).dmpEq (by decide)).trans (poisonNoted_dmp g v t)

theorem fetchPoison_raised (g v : Nat) (t : State) : (fetchPoison g v t).raised =
    (setGState g .poison t).raised ++ [⟨0x0B0A, 0x07, [(4, v)]⟩, ⟨0x0706, 0x0E, [(5, g * 16384)]⟩] :=
  ((fetchPoison_keeps_noted g v t).raisedEq (by decide)).trans (poisonNoted_raised g v t)

end Ends

section Fetched

variable {s : State} {g : Nat} {p : Page} {d : GranuleData} (us : Nat) (hpage : pageAt s (mapOf s g).vpa = some p)
  (hd : d = pageData s (mapOf s g).vpa p) (henc : p.enc = false) (hwanted : fetchWanted s g = true) (hdump : s.spn.mode ≠ .dump)
  (hplain : encrypted s p.region = false) (hpending : gstate s g = .pending) (hg : g < hdmGranules s)
include hpage hd henc hwanted hdump hplain hpending hg

/-- A page that passes its tag is loaded. -/
theorem fetchComplete_passed :
    ∃ u, exec (.fetchComplete g true false us) s = .next (settle (bulkFollow (resendKick (resumeWrites (fixLines g d true u))))) ∧
      gstate u g = .shadowed ∧ (∀ x, x ≠ g → gword u x = gword s x) ∧ u.gst.dram = (loadGranule g d s).gst.dram ∧
      u.gst.poison = (loadGranule g d s).gst.poison ∧ u.dmp.restored = s.dmp.restored + 1 ∧
      u.dmp.fetching = s.dmp.fetching.filter (· ≠ g) ∧ u.dmp.bulk = s.dmp.bulk.filter (· ≠ g) ∧
      (s.dmp.fetching.contains g = true → u.dmp.fetchMaxUs = max s.dmp.fetchMaxUs (min us 0xFFFFFFFF) ∧
        (400 < us → ⟨0x070B, 0x0E, [(5, g * 16384), (4, us)]⟩ ∈ u.raised)) ∧ OnlyIn [.gst, .dram, .dmp, .vch, .raised, .qdc] s u := by
  subst hd
  generalize hd : pageData s (mapOf s g).vpa p = d
  have hread := fetchRead_keeps g us s
  have hgst : (fetchRead g us s).gst = s.gst := hread.gstEq (by decide) (by decide)
  have hg' : g < hdmGranules (fetchRead g us s) := by rwa [hdmGranules_of_spn (hread.spnEq (by decide) (by decide))]
  have hload := loadGranule_gst_of_gst hgst g d
  refine ⟨granuleRestored g d (fetchRead g us s), ?_, ?_, fun x hx => ?_, ?_, ?_, ?_, ?_, ?_, fun hdemand => ⟨?_, fun hlong => ?_⟩, ?_⟩
  · rw [exec_fetchComplete_plain us hpage henc hwanted hdump hplain hpending true, hd, if_pos rfl]
  · rw [gstate, gword_granuleRestored hg', if_pos rfl]
  · rw [gword_granuleRestored hg', if_neg hx, gword, hgst, gword]
  · rw [granuleRestored_gst, setGState_dram, hload]
  · rw [granuleRestored_gst, setGState_poison, hload]
  · rw [granuleRestored_dmp, fetchRead_dmp]
  · rw [granuleRestored_dmp, fetchRead_dmp]
  · rw [granuleRestored_dmp, fetchRead_dmp]
  · rw [granuleRestored_dmp, fetchRead_dmp, if_pos hdemand]
    rfl
  · exact mem_raised_granuleRestored (mem_raised_fetchRead hdemand hlong) d
  · exact fr (m := 0x1185040) ((granuleRestored_keeps d).step (by decide) (hread.mono (by decide))) (by decide)

/-- A page that fails its tag leaves its granule POISON. -/
theorem fetchComplete_failed :
    ∃ u, exec (.fetchComplete g false false us) s = .next (settle (bulkFollow (resendKick (resumeWrites (fixLines g d false u))))) ∧
      gstate u g = .poison ∧ u.gst.dram = s.gst.dram ∧ u.dmp.restored = s.dmp.restored ∧ ⟨0x0706, 0x0E, [(5, g * 16384)]⟩ ∈ u.raised ∧
      ⟨0x0B0A, 0x07, [(4, (mapOf s g).vpa)]⟩ ∈ u.raised ∧ u.dmp.tagFails = satAdd 16 s.dmp.tagFails 1 ∧
      u.dmp.fetching = s.dmp.fetching.filter (· ≠ g) ∧ u.dmp.bulk = s.dmp.bulk.filter (· ≠ g) := by
  have hread := fetchRead_keeps g us s
  have hgst : (fetchRead g us s).gst = s.gst := hread.gstEq (by decide) (by decide)
  have hg' : g < hdmGranules (fetchRead g us s) := by rwa [hdmGranules_of_spn (hread.spnEq (by decide) (by decide))]
  have hraised := fetchPoison_raised g (mapOf s g).vpa (fetchRead g us s)
  refine ⟨fetchPoison g (mapOf s g).vpa (fetchRead g us s), ?_, ?_, ?_, ?_, ?_, ?_, ?_, ?_, ?_⟩
  · rw [exec_fetchComplete_plain us hpage henc hwanted hdump hplain hpending false, hd, if_neg Bool.false_ne_true]
  · rw [gstate, gword_of_states (congrArg Gst.states (fetchPoison_gst _ _ _)), gword_setGState hg', if_pos rfl]
  · rw [fetchPoison_gst, setGState_dram, hgst]
  · rw [fetchPoison_dmp, fetchRead_dmp]
  · rw [hraised]
    simp
  · rw [hraised]
    simp
  · rw [fetchPoison_dmp, fetchRead_dmp]
  · rw [fetchPoison_dmp, fetchRead_dmp]
  · rw [fetchPoison_dmp, fetchRead_dmp]

end Fetched

/-! ### The bulk restore (R320) -/

theorem bulkRestoreIssue_ignored {s : State} {q : Nat} (h : serving s = false ∨ s.dmp.rphase < 3 ∨ 4 ≤ q ∨ bulkNext s q = none) :
    exec (.bulkRestoreIssue q) s = .next s := by
  show execBulkRestoreIssue q s = _
  unfold execBulkRestoreIssue
  by_cases hwaits : (!serving s || decide (s.dmp.rphase < 3) || decide (4 ≤ q)) = true
  · rw [if_pos hwaits]
  · have hnone : bulkNext s q = none := by
      simp only [Bool.or_eq_true, Bool.not_eq_true', decide_eq_true_eq, not_or] at hwaits
      tauto
    rw [if_neg hwaits, hnone]

/-- A fetch that waits for the die goes before the bulk read. -/
theorem bulkRestoreIssue_dieWanted {s : State} {q g : Nat} (hnext : bulkNext s q = some g) (hdie : dieWanted s g = true) :
    exec (.bulkRestoreIssue q) s = .next s := by
  show execBulkRestoreIssue q s = _
  unfold execBulkRestoreIssue
  rw [hnext]
  dsimp only
  rw [if_pos hdie, ite_self]

/-! ### RETRY_GRANULE (R325) -/

/-- The command runs in the background for granule `g`. -/
def retryStarted (via : Via) (g : Nat) (s : State) : State := bgStart via 0xC00C { s with dmp := { s.dmp with retry := some g } }

theorem gstate_retryStarted (via : Via) (g : Nat) (s : State) (x : Nat) : gstate (retryStarted via g s) x = gstate s x := rfl

theorem mapOf_retryStarted (via : Via) (g : Nat) (s : State) (x : Nat) : mapOf (retryStarted via g s) x = mapOf s x := rfl

/-- The end of the command: the granule's result by event 0x0709, and no command runs. -/
theorem retryEnd_effect {s : State} {g : Nat} {via : Via} (hretry : s.dmp.retry = some g) (hbg : s.hlk.bg = some ⟨via, 0xC00C⟩) (k : Nat) :
    (retryEnd g k s).dmp.retry = none ∧ (retryEnd g k s).hlk.bg = none ∧
      (retryEnd g k s).raised = s.raised ++ [⟨0x0709, 0x0E, [(5, g * 16384), (1, k)]⟩] := by
  unfold retryEnd
  rw [if_neg (not_not.2 hretry)]
  simp [bgEnd, hbg, msix]

/-- A rebuilt page is judged by the vault, the image and the keys alone. -/
theorem rebuildPasses_of_eq {s t : State} (hvlt : t.vlt = s.vlt) (himg : t.img = s.img) (hcip : t.cip = s.cip) (v : Nat) (p : Page) :
    rebuildPasses t v p = rebuildPasses s v p := by
  have hrow (x : Nat) : vpaRow t x = vpaRow s x := by rw [vpaRow, vaultRec, himg, ← vaultRec, ← vpaRow]
  have hbytes : rebuiltPage t v = rebuiltPage s v := by
    simp only [rebuiltPage, rowOthers, hvlt, hrow]
  have hsound (area h : List Nat) : tagSound t area h = tagSound s area h := by
    unfold tagSound slotOf
    rw [hcip]
  simp only [rebuildPasses, hbytes, hsound]

section Retry

variable {s : State} {via : Via} {dpa : Nat} (hserves : VendorServes via [.restore, .service, .test] false true s)
include hserves

theorem retryGranule_refused {e : Nat} (reb : Bool) (hrange : rangeRegion s dpa 16384 = .inr e) :
    exec (.retryGranule via dpa reb) s = .next (vendorRefuse via 0xC00C .invalidInput e s) := by
  show Host.Outcome.next (vendor via 0xC00C _ false true _ s) = _
  rw [vendor_serves hserves, hrange]

variable {r : Nat} (hrange : rangeRegion s dpa 16384 = .inl r)
include hrange

theorem retryGranule_notPoison (reb : Bool) (hstate : gstate s (dpa / 16384) ≠ .poison) :
    exec (.retryGranule via dpa reb) s = .next (retryEnd (dpa / 16384) 3 (retryStarted via (dpa / 16384) s)) := by
  show Host.Outcome.next (vendor via 0xC00C _ false true _ s) = _
  rw [vendor_serves hserves, hrange]
  exact congrArg Host.Outcome.next (if_pos hstate)

variable (hstate : gstate s (dpa / 16384) = .poison)
include hstate

theorem retryGranule_noPage (reb : Bool) (hpage : pageAt s (mapOf s (dpa / 16384)).vpa = none)
    (hpartner : partnerRepairOk (retryStarted via (dpa / 16384) s) (dpa / 16384) = false) :
    exec (.retryGranule via dpa reb) s = .next (retryEnd (dpa / 16384) 2 (retryStarted via (dpa / 16384) s)) := by
  have hpage' : pageAt (retryStarted via (dpa / 16384) s) (mapOf s (dpa / 16384)).vpa = none := hpage
  show Host.Outcome.next (vendor via 0xC00C _ false true _ s) = _
  rw [vendor_serves hserves, hrange]
  dsimp only
  rw [← retryStarted, gstate_retryStarted, mapOf_retryStarted, if_neg (not_not.2 hstate), hpage']
  dsimp only
  rw [if_neg (by simp [hpartner])]

theorem retryGranule_rebuilt {p : Page} (hpage : pageAt s (mapOf s (dpa / 16384)).vpa = some p) (hplain : encrypted s p.region = false)
    (hpasses : rebuildPasses s (mapOf s (dpa / 16384)).vpa p = true) :
    exec (.retryGranule via dpa true) s = .next (settle (retryEnd (dpa / 16384) 0 (retryRebuilt (dpa / 16384) p
      (noteRead (mapOf s (dpa / 16384)).vpa true (retryStarted via (dpa / 16384) s))))) := by
  have hpage' : pageAt (retryStarted via (dpa / 16384) s) (mapOf s (dpa / 16384)).vpa = some p := hpage
  have hplain' : encrypted (retryStarted via (dpa / 16384) s) p.region = false := hplain
  have hpasses' : rebuildPasses (retryStarted via (dpa / 16384) s) (mapOf s (dpa / 16384)).vpa p = true :=
    (rebuildPasses_of_eq rfl rfl rfl _ p).trans hpasses
  show Host.Outcome.next (vendor via 0xC00C _ false true _ s) = _
  rw [vendor_serves hserves, hrange]
  dsimp only
  rw [← retryStarted, gstate_retryStarted, mapOf_retryStarted, if_neg (not_not.2 hstate), hpage']
  dsimp only
  rw [if_pos (by simp [hplain', hpasses'])]

end Retry

/-- The new copy of a rebuilt page and the end of its injection leave the granule tables. -/
theorem relocated_gst (g : Nat) (t : State) : (msix 10 { relocatePage g t with
    hlk := { (relocatePage g t).hlk with injected := sdel (relocatePage g t).hlk.injected g } }).gst = t.gst := by
  have hmoved : (relocatePage g t).gst = t.gst :=
    (relocatePage_keeps (m := 0x7e2800) g (by decide) (Keeps.refl _ t)).gstEq (by decide) (by decide)
  generalize relocatePage g t = x at hmoved ⊢
  rw [msix_gst, ← hmoved]

theorem retryRebuilt_gst (g : Nat) (p : Page) (s : State) :
    ∃ d, (retryRebuilt g p s).gst = (setGState g .shadowed (loadGranule g d (beforeVault s))).gst := by
  unfold retryRebuilt
  extract_lets +onlyGivenNames v
  refine ⟨areaData s v p (readArea s v p true), ?_⟩
  generalize setGState g .shadowed (loadGranule g (areaData s v p (readArea s v p true)) (beforeVault s)) = t
  exact relocated_gst g t

/-- A rebuilt granule is SHADOWED. -/
theorem gstate_retryRebuilt {g : Nat} {s : State} (p : Page) (hg : g < hdmGranules s) : gstate (retryRebuilt g p s) g = .shadowed := by
  have hvault := beforeVault_keeps (m := 0x102800) (by decide) (Keeps.refl _ s)
  obtain ⟨d, hgst⟩ := retryRebuilt_gst g p s
  have hload : g < hdmGranules (loadGranule g d (beforeVault s)) := by
    rwa [hdmGranules_loadGranule, hdmGranules_of_spn (hvault.spnEq (by decide) (by decide))]
  rw [gstate, gword_of_states (congrArg Gst.states hgst), gword_setGState hload, if_pos rfl]

/-! ### The statement -/

/-- Settles O38: a clause for each end of a fetch, for the bulk restore's next read, for each end of RETRY_GRANULE, and for what a load and a
rebuild leave (R127, R129, R130, R172, R316, R318, R320, R325, R326; log 12, 94). -/
theorem granulesBroughtBack : Obligations.GranulesBroughtBack := by
  refine ⟨?ignored, ?fetched, ?loaded, ?bulk, ?retry, ?rebuilt⟩
  case ignored => exact fun s g us tagOk reb h => fetchComplete_ignored tagOk reb us h
  case fetched =>
    exact fun s g us p d hpage hd henc hwanted hdump hplain hpending hg =>
      ⟨fetchComplete_passed us hpage hd henc hwanted hdump hplain hpending hg,
        fetchComplete_failed us hpage hd henc hwanted hdump hplain hpending hg⟩
  case loaded => exact fun s g d e he hnodup => tget_loadGranule he hnodup g s
  case bulk =>
    exact fun s q => ⟨fun h => bulkRestoreIssue_ignored h, fun g hnext hdie => bulkRestoreIssue_dieWanted hnext hdie,
      fun g hserving hphase hq hnext hdie => bulkRestoreIssue_issues hserving hphase hq hnext hdie⟩
  case retry =>
    intro s via dpa reb hserves
    refine ⟨fun e hrange => retryGranule_refused hserves reb hrange, fun r hrange => ?_⟩
    refine ⟨retryStarted via (dpa / 16384) s, rfl, rfl, rfl, fun hstate => retryGranule_notPoison hserves hrange reb hstate,
      fun hstate hpage hpartner => retryGranule_noPage hserves hrange hstate reb hpage hpartner,
      fun p hstate hpage hplain hpasses => retryGranule_rebuilt hserves hrange hstate hpage hplain hpasses, fun k => ?_⟩
    exact ⟨_, rfl, retryEnd_effect (via := via) rfl rfl k⟩
  case rebuilt => exact fun s g p hg => gstate_retryRebuilt p hg

end Sys2Proof.Machine
end

section
/-!
PROOFS. The energy controller's shared operations (R210 to R222, R230, R235, R236): what each one reports, and which of the controller's
values it leaves.
-/

namespace Sys2Proof.Machine

/-- A write of the energy controller alone. -/
theorem keeps_nrg {s : State} (x : Nrg) : Keeps 0x80 s { s with nrg := x } :=
  (Keeps.refl _ s).direct (fun p hp => by cases p <;> simp_all [Part.bit, Part.same])

/-! ### What is reported -/

/-- `t` reports what `s` reports and after it events of the listed IDs alone. -/
def AddsEvents (ids : List Nat) (s t : State) : Prop := ∃ l, t.raised = s.raised ++ l ∧ ∀ e ∈ l, e.id ∈ ids

theorem AddsEvents.of_eq {ids : List Nat} {s t : State} (h : t.raised = s.raised) : AddsEvents ids s t :=
  ⟨[], by rw [h, List.append_nil], by simp⟩

theorem AddsEvents.trans {ids : List Nat} {s t u : State} (h : AddsEvents ids s t) (k : AddsEvents ids t u) : AddsEvents ids s u := by
  obtain ⟨l, hl, hids⟩ := h
  obtain ⟨l', hl', hids'⟩ := k
  refine ⟨l ++ l', by rw [hl', hl, List.append_assoc], fun e he => ?_⟩
  exact (List.mem_append.1 he).elim (hids e) (hids' e)

theorem AddsEvents.mono {ids ids' : List Nat} {s t : State} (h : AddsEvents ids s t) (hsub : ids ⊆ ids') : AddsEvents ids' s t := by
  obtain ⟨l, hl, hids⟩ := h
  exact ⟨l, hl, fun e he => hsub (hids e he)⟩

theorem addsEvents_raise {ids : List Nat} {id : Nat} (hid : id ∈ ids) (source : Nat) (detail : Fields) (s : State) :
    AddsEvents ids s (raise id source detail s) :=
  ⟨_, raise_raised id source detail s, by simpa using hid⟩

theorem raised_prefix_raise (id source : Nat) (detail : Fields) (s : State) : s.raised <+: (raise id source detail s).raised :=
  List.prefix_append _ _

/-- What a run of an operation over a list reports, where each step of it only adds events. -/
theorem raised_prefix_foldl {α β : Type} {φ : β → State} {f : β → α → β} (hf : ∀ b a, (φ b).raised <+: (φ (f b a)).raised)
    (l : List α) (b : β) : (φ b).raised <+: (φ (l.foldl f b)).raised := by
  induction l generalizing b with
  | nil => exact List.prefix_rfl
  | cons a l ih => exact (hf b a).trans (ih (f b a))

/-! ### The charger and the estimates (R211, R218, R220, R221) -/

/-- The controller's values without what follows from them: the charger's outputs and the estimates. -/
def given (n : Nrg) : Nrg :=
  { n with chargeDerate := false, vTarget := 0, cUse := 0, qFull := 0, chgEn := false, iNow := 0, ramp := 0, vOcv := 0, eV := 0, eQ := 0,
           logOk := false }

/-- The charge of the full store, from the temperature's derating and C_use. -/
def fullCharge (s : State) : Nat :=
  let u : State := { s with nrg := { s.nrg with chargeDerate := decide (550 < tempLimit s.nrg) } }
  cUseOf u * (vTargetOf u - param u 2)

/-- The charger's update: what it leaves, Q_full, and that it reports the derating alone. -/
theorem refreshCharge_effect (s : State) : given (refreshCharge s).nrg = given s.nrg ∧ (refreshCharge s).nrg.qFull = fullCharge s ∧
    AddsEvents [0x0414] s (refreshCharge s) := by
  unfold refreshCharge
  extract_lets derate s1 _ s2 vt c on held s2' _ n
  obtain ⟨hnrg1, hadds1⟩ : s1.nrg = s.nrg ∧ AddsEvents [0x0414] s s1 := by
    dsimp only [s1]
    split
    · exact ⟨rfl, addsEvents_raise (by simp) _ _ s⟩
    · exact ⟨rfl, .of_eq rfl⟩
  have hs2 : s2.nrg = { s.nrg with chargeDerate := derate } := by
    show { s1.nrg with chargeDerate := derate } = _
    rw [hnrg1]
  obtain ⟨hnrg2', hraised2'⟩ : s2'.nrg = s2.nrg ∧ s2'.raised = s1.raised := by
    dsimp only [s2']
    split <;> exact ⟨rfl, rfl⟩
  refine ⟨?_, ?_, hadds1.trans (.of_eq hraised2')⟩
  · show given s2'.nrg = _
    rw [hnrg2', hs2]
    rfl
  · show c * (vt - param s2' 2) = _
    simp only [c, vt, fullCharge, cUseOf, vTargetOf, vFull, cNp, param, hnrg2', hs2, derate]

theorem given_refreshCharge (s : State) : given (refreshCharge s).nrg = given s.nrg := (refreshCharge_effect s).1

theorem refreshCharge_qFull (s : State) : (refreshCharge s).nrg.qFull = fullCharge s := (refreshCharge_effect s).2.1

theorem refreshCharge_addsEvents (s : State) : AddsEvents [0x0414] s (refreshCharge s) := (refreshCharge_effect s).2.2

theorem given_refreshEstimates (s : State) : given (refreshEstimates s).nrg = given s.nrg := by
  unfold refreshEstimates
  extract_lets n ocv s1 n1
  exact (given_refreshCharge { s with nrg := { n with vOcv := ocv } }).trans rfl

/-- A value that does not follow from others is left by the charger and by the estimates. -/
theorem refreshCharge_field {β : Type} {f : Nrg → β} (hf : ∀ n, f (given n) = f n) (s : State) : f (refreshCharge s).nrg = f s.nrg := by
  rw [← hf, given_refreshCharge, hf]

theorem refreshEstimates_field {β : Type} {f : Nrg → β} (hf : ∀ n, f (given n) = f n) (s : State) :
    f (refreshEstimates s).nrg = f s.nrg := by
  rw [← hf, given_refreshEstimates, hf]

theorem refreshEstimates_addsEvents (s : State) : AddsEvents [0x0414] s (refreshEstimates s) := by
  unfold refreshEstimates
  extract_lets n ocv s1 n1
  exact (refreshCharge_addsEvents { s with nrg := { n with vOcv := ocv } }).trans (.of_eq rfl)

theorem refreshEstimates_qFull (s : State) : (refreshEstimates s).nrg.qFull = fullCharge s := by
  unfold refreshEstimates
  extract_lets n ocv s1 n1
  exact (refreshCharge_qFull { s with nrg := { n with vOcv := ocv } }).trans rfl

/-! ### Input sets (R187, R222) -/

/-- The input set of the values in force. -/
def inputSetOf (s : State) : InputSet := ⟨eUsable s, param s 7, param s 8, eGibOf s, param s 10, !s.nrg.storePresent, s.nrg.swapDerate,
  s.nrg.lstate = .waitBudget ∨ s.nrg.lstate = .running⟩

theorem sendInput_inbox (s : State) : (sendInput s).wrp.inbox = some (inputSetOf s) := rfl

theorem sendInput_nrg (s : State) : (sendInput s).nrg = s.nrg := rfl

theorem sendInput_raised (s : State) : (sendInput s).raised = s.raised := rfl

theorem sendInput_out (s : State) : (sendInput s).out = s.out := rfl

/-- An input set is of the controller's values, without the count and the time of its records. -/
theorem inputSetOf_of_nrg {s t : State} {q : Nat} {c : Option Nat} (h : t.nrg = { s.nrg with gaugeSeq := q, recSec := c }) :
    inputSetOf t = inputSetOf s := by
  simp only [inputSetOf, eUsable, eGibOf, param, h]

/-! ### Gauge records (R235, R236) -/

theorem gaugeIssue_nrg (s : State) : (gaugeIssue s).nrg = s.nrg :=
  (gaugeIssue_keeps (m := 0xc) (by decide) (Keeps.refl _ s)).nrgEq (by decide)

theorem gaugeIssue_raised (s : State) : (gaugeIssue s).raised = s.raised :=
  (gaugeIssue_keeps (m := 0xc) (by decide) (Keeps.refl _ s)).raisedEq (by decide)

theorem gaugeWrite_nrg (s : State) : (gaugeWrite s).nrg = { s.nrg with gaugeSeq := s.nrg.gaugeSeq + 1 } := by
  unfold gaugeWrite
  extract_lets r _ _ s1
  split
  · exact (gaugeIssue_nrg s1).trans rfl
  · rfl

theorem raised_prefix_gaugeWrite (s : State) : s.raised <+: (gaugeWrite s).raised := by
  unfold gaugeWrite
  extract_lets r _ _ s1
  split
  · exact (gaugeIssue_raised s1).symm ▸ List.prefix_rfl
  · exact raised_prefix_raise _ _ _ s1

/-- The cases of what follows a change: a record, a record of the counts at the present time, or nothing, after the vector or without. -/
theorem gaugeAfter_cases (old : Nrg) (s : State) : ∃ s1, (s1 = s ∨ s1 = msix 9 s) ∧
    (gaugeAfter old s = gaugeWrite s1 ∨ gaugeAfter old s = gaugeWrite { s1 with nrg := { s1.nrg with recSec := some s1.evr.opSec } } ∨
      gaugeAfter old s = s1) := by
  unfold gaugeAfter
  extract_lets s1
  refine ⟨s1, ?_, ?_⟩
  · dsimp only [s1]
    split
    · exact .inr rfl
    · exact .inl rfl
  · split
    · exact .inl rfl
    · split
      · exact .inr (.inl rfl)
      · exact .inr (.inr rfl)

theorem gaugeAfter_nrg (old : Nrg) (s : State) : ∃ q c, (gaugeAfter old s).nrg = { s.nrg with gaugeSeq := q, recSec := c } := by
  obtain ⟨s1, hs1, h⟩ := gaugeAfter_cases old s
  have hnrg : s1.nrg = s.nrg := by rcases hs1 with rfl | rfl <;> rfl
  rcases h with h | h | h
  · exact ⟨_, s.nrg.recSec, by rw [h, gaugeWrite_nrg, hnrg]⟩
  · exact ⟨_, _, by rw [h, gaugeWrite_nrg]; dsimp only; rw [hnrg]⟩
  · exact ⟨s.nrg.gaugeSeq, s.nrg.recSec, by rw [h, hnrg]⟩

/-- A value that is neither the count nor the time of the records is left by what follows a change. -/
theorem gaugeAfter_field {β : Type} {f : Nrg → β} (hf : ∀ n q c, f { n with gaugeSeq := q, recSec := c } = f n) (old : Nrg) (s : State) :
    f (gaugeAfter old s).nrg = f s.nrg := by
  obtain ⟨q, c, h⟩ := gaugeAfter_nrg old s
  rw [h, hf]

theorem gaugeAfter_wrp (old : Nrg) (s : State) : (gaugeAfter old s).wrp = s.wrp :=
  (gaugeAfter_keeps (m := 0x30018c) old (by decide) (Keeps.refl _ s)).wrpEq (by decide)

theorem raised_prefix_gaugeAfter (old : Nrg) (s : State) : s.raised <+: (gaugeAfter old s).raised := by
  obtain ⟨s1, hs1, h⟩ := gaugeAfter_cases old s
  have hraised : s1.raised = s.raised := by rcases hs1 with rfl | rfl <;> rfl
  rw [← hraised]
  rcases h with h | h | h <;> rw [h]
  · exact raised_prefix_gaugeWrite s1
  · exact raised_prefix_gaugeWrite { s1 with nrg := { s1.nrg with recSec := some s1.evr.opSec } }

theorem gaugeWrite_out (s : State) : (gaugeWrite s).out = s.out :=
  (gaugeWrite_keeps (m := 0x10018c) (by decide) (Keeps.refl _ s)).outEq (by decide)

theorem out_prefix_gaugeAfter (old : Nrg) (s : State) : s.out <+: (gaugeAfter old s).out := by
  obtain ⟨s1, hs1, h⟩ := gaugeAfter_cases old s
  have hout : s.out <+: s1.out := by
    rcases hs1 with rfl | rfl
    · exact List.prefix_rfl
    · exact List.prefix_append _ _
  rcases h with h | h | h <;> rw [h]
  · rwa [gaugeWrite_out]
  · rwa [gaugeWrite_out]
  · exact hout

/-- The input set sent before what follows a change is that of the values after it. -/
theorem gaugeAfter_sendInput_inbox (old : Nrg) (s : State) :
    (gaugeAfter old (sendInput s)).wrp.inbox = some (inputSetOf (gaugeAfter old (sendInput s))) := by
  obtain ⟨q, c, h⟩ := gaugeAfter_nrg old (sendInput s)
  rw [gaugeAfter_wrp, sendInput_inbox, inputSetOf_of_nrg (s := s) (h.trans (by rw [sendInput_nrg]))]

/-! ### Hold-up (R210, R212, R215) -/

theorem quagFalls_nrg (s : State) : (quagFalls s).nrg = { s.nrg with quagOk := false } := by
  unfold quagFalls
  split
  next hnot =>
    have hdown : s.nrg.quagOk = false := by simpa using hnot
    rw [← hdown]
  next =>
    extract_lets _ s1 s2
    have hs2 : s2.nrg = s1.nrg := (Keeps.foldl (m := 0x100108) (fun u a => deferNonce_keeps a (by decide) (Keeps.refl _ u))
      (Keeps.refl _ s1)).nrgEq (by decide)
    split <;> exact hs2

theorem assertHoldup_nrg (r : HoldReason) (s : State) : (assertHoldup r s).nrg = { s.nrg with
    quagOk := false, holdupEn := true, reason := if s.nrg.holdupEn && r ≠ .input then s.nrg.reason else r
    chgEn := false, iNow := 0, ramp := 0, hibernate := false } := by
  unfold assertHoldup
  extract_lets woke reason s0 _ s1
  have hs1 : s1.nrg = { s0.nrg with holdupEn := true, reason := reason, chgEn := false, iNow := 0, ramp := 0, hibernate := false } := rfl
  have hgoal : s1.nrg = { s.nrg with
      quagOk := false, holdupEn := true, reason := reason, chgEn := false, iNow := 0, ramp := 0, hibernate := false } := by
    rw [hs1, quagFalls_nrg]
  split <;> exact hgoal

theorem releaseHoldup_field {β : Type} {f : Nrg → β} (hf : ∀ n, f (given n) = f n) (s : State) :
    f (releaseHoldup s).nrg = f { s.nrg with holdupEn := false, reason := .none, emptyTaken := false } :=
  refreshCharge_field hf _

theorem releaseHoldup_addsEvents (s : State) : AddsEvents [0x0414] s (releaseHoldup s) :=
  (AddsEvents.of_eq rfl).trans (refreshCharge_addsEvents _)

end Sys2Proof.Machine
end

section
/-!
PROOFS. The input watch and the pre-flush (R210, R212 to R215, R272, R274, R291): what a change of the input state reports, each event of
the watch in the state it acts in, the end of PREFLUSH, and the statement about them.
-/

namespace Sys2Proof.Machine

/-! ### The input state (R212, R426) -/

theorem setInput_nrg (i : InputState) (s : State) : (setInput i s).nrg = { s.nrg with input := i } := by
  unfold setInput lineFollow
  extract_lets low
  split <;> rfl

/-- The array's line reports its own changes alone. -/
theorem setInput_addsEvents (i : InputState) (s : State) : AddsEvents [0x0A07] s (setInput i s) := by
  unfold setInput lineFollow
  extract_lets low
  split
  · exact .of_eq rfl
  · exact (AddsEvents.of_eq rfl).trans (addsEvents_raise (by simp) _ _ _)

/-! ### The input falls and returns (R212, R291) -/

theorem inputBelowPfail_good {s : State} (h : s.nrg.input = .good) :
    exec .inputBelowPfail s = .next (setInput .qualify (assertHoldup .input s)) := by
  show execInputBelowPfail s = _
  rw [execInputBelowPfail, h]

theorem inputBelowPfail_settle {s : State} (h : s.nrg.input = .settle) : exec .inputBelowPfail s = .next (setInput .qualify s) := by
  show execInputBelowPfail s = _
  rw [execInputBelowPfail, h]

theorem inputBelowPfail_committed {s : State} (h : s.nrg.input = .committed) :
    exec .inputBelowPfail s = .next { s with dmp := { s.dmp with inputGood := false } } := by
  show execInputBelowPfail s = _
  rw [execInputBelowPfail, h]

theorem inputBelowPfail_ignored {s : State} (h : s.nrg.input = .qualify ∨ s.nrg.input = .ride) : exec .inputBelowPfail s = .next s := by
  show execInputBelowPfail s = _
  rcases h with h | h <;> rw [execInputBelowPfail, h]

/-- HOLDUP_EN rises with the input's fall. -/
theorem holdupRaised_nrg (s : State) : (setInput .qualify (assertHoldup .input s)).nrg.input = .qualify ∧
    (setInput .qualify (assertHoldup .input s)).nrg.holdupEn = true ∧ (setInput .qualify (assertHoldup .input s)).nrg.chgEn = false ∧
    (setInput .qualify (assertHoldup .input s)).nrg.quagOk = false := by
  rw [setInput_nrg, assertHoldup_nrg]
  exact ⟨rfl, rfl, rfl, rfl⟩

/-! ### The qualification (R212, R213) -/

theorem qualified_nrg (s : State) : (qualified s).nrg = { s.nrg with input := .ride, rideWarn := false } := setInput_nrg _ _

theorem qualified_raised (s : State) : ∃ l, (qualified s).raised = s.raised ++ ⟨0x0401, 0x03, [(2, s.nrg.vInput), (4, s.nrg.q / 1000)]⟩ :: l ∧
    ∀ e ∈ l, e.id = 0x0A07 := by
  obtain ⟨l, hl, hids⟩ := setInput_addsEvents .ride
    (raise 0x0401 0x03 [(2, s.nrg.vInput), (4, s.nrg.q / 1000)] { s with nrg := { s.nrg with rideWarn := false } })
  exact ⟨l, by rw [qualified, hl, raise_raised, List.append_assoc]; rfl, fun e he => List.mem_singleton.1 (hids e he)⟩

theorem exec_qualifies {s : State} {c : Instr}
    (h : c = .pfailQualified ∧ s.nrg.input = .qualify ∨ c = .settleLimitExpiry ∧ s.nrg.input = .settle) : exec c s = .next (qualified s) := by
  rcases h with ⟨rfl, h⟩ | ⟨rfl, h⟩ <;> exact congrArg Host.Outcome.next (if_pos h)

/-- Each event of the watch acts in its own state of the input alone. -/
theorem watchEvent_ignored {s : State} {c : Instr} (h : c = .pfailQualified ∧ s.nrg.input ≠ .qualify ∨
    c = .settleLimitExpiry ∧ s.nrg.input ≠ .settle ∨ c = .settleRecovered ∧ s.nrg.input ≠ .settle ∨
    c = .rideThroughSurvived ∧ s.nrg.input ≠ .ride ∨ c = .rideThroughExpiry ∧ s.nrg.input ≠ .ride ∨
    c = .earlyCommit ∧ (s.nrg.input ≠ .ride ∨ eNeed s < eUsable s)) : exec c s = .next s := by
  rcases h with ⟨rfl, h⟩ | ⟨rfl, h⟩ | ⟨rfl, h⟩ | ⟨rfl, h⟩ | ⟨rfl, h⟩ | ⟨rfl, h⟩
  case inr.inr.inr.inr.inr =>
    exact congrArg Host.Outcome.next (if_neg fun hboth => h.elim (· hboth.1) (Nat.not_lt.2 hboth.2))
  all_goals exact congrArg Host.Outcome.next (if_neg h)

/-! ### The recovery (R212) -/

/-- What the controller holds once the input's hold-up has ended: learning and calibration keep theirs. -/
theorem releaseInputHoldup_cases (s : State) : (s.nrg.lstate = .running ∧
      releaseInputHoldup s = actFollow { s with nrg := { s.nrg with reason := .learning } }) ∨
    (s.nrg.lstate ≠ .running ∧ s.nrg.reason = .calibration ∧ releaseInputHoldup s = s) ∨
    (s.nrg.lstate ≠ .running ∧ s.nrg.reason ≠ .calibration ∧ releaseInputHoldup s = releaseHoldup s) := by
  unfold releaseInputHoldup
  by_cases hrun : s.nrg.lstate = .running
  · exact .inl ⟨hrun, if_pos hrun⟩
  · rw [if_neg hrun]
    by_cases hcal : s.nrg.reason = .calibration
    · exact .inr (.inl ⟨hrun, hcal, if_pos hcal⟩)
    · exact .inr (.inr ⟨hrun, hcal, if_neg hcal⟩)

theorem releaseInputHoldup_addsEvents (s : State) : AddsEvents [0x0414] s (releaseInputHoldup s) := by
  rcases releaseInputHoldup_cases s with ⟨-, h⟩ | ⟨-, -, h⟩ | ⟨-, -, h⟩ <;> rw [h]
  · exact .of_eq rfl
  · exact .of_eq rfl
  · exact releaseHoldup_addsEvents s

/-- The input is good again, and its hold-up ends. -/
def inputRecovered (s : State) : State := releaseInputHoldup (setInput .good s)

theorem inputRecovered_addsEvents (s : State) : AddsEvents [0x0A07, 0x0414] s (inputRecovered s) :=
  ((setInput_addsEvents .good s).mono (by simp)).trans ((releaseInputHoldup_addsEvents _).mono (by simp))

theorem inputRecovered_keeps (s : State) : Keeps 0x514080 s (inputRecovered s) :=
  releaseInputHoldup_keeps (by decide) (setInput_keeps _ (by decide) (Keeps.refl _ s))

theorem inputRecovered_nrg (s : State) : (inputRecovered s).nrg.input = .good ∧
    (s.nrg.lstate = .running → (inputRecovered s).nrg = { s.nrg with input := .good, reason := .learning }) ∧
    (s.nrg.lstate ≠ .running → s.nrg.reason = .calibration → (inputRecovered s).nrg = { s.nrg with input := .good }) ∧
    (s.nrg.lstate ≠ .running → s.nrg.reason ≠ .calibration →
      (inputRecovered s).nrg.holdupEn = false ∧ (inputRecovered s).nrg.reason = .none) := by
  have hset := setInput_nrg .good s
  unfold inputRecovered
  generalize setInput .good s = t at hset ⊢
  have hlstate : t.nrg.lstate = s.nrg.lstate := by rw [hset]
  have hreason : t.nrg.reason = s.nrg.reason := by rw [hset]
  rw [← hlstate, ← hreason]
  rcases releaseInputHoldup_cases t with ⟨hrun, h⟩ | ⟨hrun, hcal, h⟩ | ⟨hrun, hcal, h⟩ <;> rw [h]
  · have hnrg : (actFollow { t with nrg := { t.nrg with reason := .learning } }).nrg = { s.nrg with input := .good, reason := .learning } := by
      rw [show (actFollow { t with nrg := { t.nrg with reason := .learning } }).nrg = { t.nrg with reason := .learning } from rfl, hset]
    exact ⟨by rw [hnrg], fun _ => hnrg, fun hnot => absurd hrun hnot, fun hnot => absurd hrun hnot⟩
  · exact ⟨by rw [hset], fun hr => absurd hr hrun, fun _ _ => hset, fun _ hnot => absurd hcal hnot⟩
  · refine ⟨?_, fun hr => absurd hr hrun, fun _ hc => absurd hc hcal, fun _ _ => ⟨?_, ?_⟩⟩
    · rw [releaseHoldup_field (f := Nrg.input) fun _ => rfl, hset]
    · exact releaseHoldup_field (f := Nrg.holdupEn) (fun _ => rfl) t
    · exact releaseHoldup_field (f := Nrg.reason) (fun _ => rfl) t

theorem settleRecovered_recovers {s : State} (h : s.nrg.input = .settle) :
    exec .settleRecovered s = .next (inputRecovered (raise 0x0404 0x03 [] s)) :=
  congrArg Host.Outcome.next (if_pos h)

theorem rideThroughSurvived_recovers {s : State} (h : s.nrg.input = .ride) :
    exec .rideThroughSurvived s = .next (inputRecovered (useFree (raise 0x0402 0x03 [(2, elapsedNow 16 s)] s))) :=
  congrArg Host.Outcome.next (if_pos h)

/-- The event of a recovery and what the end of the hold-up reports, for a state `u` that has reported that event. -/
theorem inputRecovered_effect {s u : State} {e : Event} (hraised : u.raised = s.raised ++ [e]) (hnrg : u.nrg = s.nrg)
    (hkeeps : Keeps 0x514080 s u) : ∃ l, (inputRecovered u).nrg.input = .good ∧ (inputRecovered u).raised = s.raised ++ e :: l ∧
    (∀ e ∈ l, e.id = 0x0A07 ∨ e.id = 0x0414) ∧
    (s.nrg.lstate = .running → (inputRecovered u).nrg = { s.nrg with input := .good, reason := .learning }) ∧
    (s.nrg.lstate ≠ .running → s.nrg.reason = .calibration → (inputRecovered u).nrg = { s.nrg with input := .good }) ∧
    (s.nrg.lstate ≠ .running → s.nrg.reason ≠ .calibration →
      (inputRecovered u).nrg.holdupEn = false ∧ (inputRecovered u).nrg.reason = .none) ∧
    OnlyIn [.nrg, .dmp, .cwy, .raised, .free] s (inputRecovered u) := by
  obtain ⟨hinput, hlearning, hcal, hfalls⟩ := inputRecovered_nrg u
  rw [hnrg] at hlearning hcal hfalls
  obtain ⟨l, hl, hids⟩ := inputRecovered_addsEvents u
  refine ⟨l, hinput, by rw [hl, hraised, List.append_assoc]; rfl, fun e he => by simpa using hids e he, hlearning, hcal, hfalls, ?_⟩
  exact fr (hkeeps.trans (inputRecovered_keeps u)) (by decide)

/-! ### The commit (R39, R212, R272) -/

theorem serving_of_mode {s : State} (h : s.spn.mode = .restore ∨ s.spn.mode = .service) : serving s = true := by
  rcases h with h | h <;> simp [serving, modeIn, h]

theorem inputCommit_dumps {s : State} (trigger : Nat) (h : s.spn.mode = .restore ∨ s.spn.mode = .service) :
    inputCommit trigger s = commitDump trigger 0 s := by
  unfold inputCommit
  rcases h with h | h <;> rw [h]

theorem inputCommit_powersOff {s : State} (trigger : Nat) (h : s.spn.mode = .boot ∨ s.spn.mode = .test ∨ s.spn.mode = .parked) :
    inputCommit trigger s = powerOff (setInput .committed s) := by
  unfold inputCommit
  rcases h with h | h | h <;> rw [h]

theorem inputCommit_recovery {s : State} (trigger : Nat) (h : s.spn.mode = .recovery) : inputCommit trigger s = setInput .committed s := by
  unfold inputCommit
  rw [h]

theorem setInput_onlyIn (i : InputState) (s : State) : OnlyIn [.nrg, .cwy, .raised] s (setInput i s) :=
  fr (setInput_keeps (m := 0x110080) i (by decide) (Keeps.refl _ s)) (by decide)

theorem exec_rideThroughExpiry {s : State} (h : s.nrg.input = .ride) :
    exec .rideThroughExpiry s = .next (inputCommit (if s.nrg.rideWarn then 3 else 1) s) :=
  congrArg Host.Outcome.next (if_pos h)

theorem exec_earlyCommit {s : State} (h : s.nrg.input = .ride) (hneed : eUsable s ≤ eNeed s) :
    exec .earlyCommit s = .next (inputCommit 2 (raise 0x0403 0x03 [] s)) :=
  congrArg Host.Outcome.next (if_pos ⟨h, hneed⟩)

/-! ### Input below V_QUAG (R215) -/

theorem quagFalls_down {s : State} (h : s.nrg.quagOk = false) : quagFalls s = s := if_pos (by simp [h])

theorem quagFalls_idle {s : State} (hwaiting : s.ifc.waiting = []) (hgauge : s.aos.gauge = none) :
    quagFalls s = { s with nrg := { s.nrg with quagOk := false } } := by
  by_cases hdown : s.nrg.quagOk = false
  · rw [quagFalls_down hdown, ← hdown]
  · simp [quagFalls, gaugeOpen, hdown, hwaiting, hgauge]

/-! ### The end of PREFLUSH (R254, R274) -/

theorem raised_prefix_drawTokens (p : Nat) (s : State) : s.raised <+: (drawTokens p s).raised := by
  unfold drawTokens
  extract_lets excess b _ s1
  split
  · exact raised_prefix_raise _ _ _ s1
  · exact List.prefix_rfl

theorem raised_prefix_closeRow (r : Row) (s : State) : s.raised <+: (closeRow r s).2.raised := by
  unfold closeRow
  split
  · exact List.prefix_rfl
  · extract_lets free s1 _ s2
    refine (raised_prefix_drawTokens ((free.length + 1) * 16384) s).trans ?_
    show s1.raised <+: s2.raised
    dsimp only [s2]
    split
    · exact List.prefix_rfl
    · show s1.raised <+: s1.raised ++ _
      exact List.prefix_append _ _

theorem raised_prefix_closeRows (p : Row → Bool) (s : State) : s.raised <+: (closeRows p s).raised := by
  refine raised_prefix_foldl (φ := Prod.snd) (f := fun (a : List Row × State) r =>
    if p r then let (r2, s2) := closeRow r a.2; (a.1 ++ [r2], s2) else (a.1 ++ [r], a.2)) (fun a r => ?_) s.shd.rows ([], s)
  dsimp only
  split
  · exact raised_prefix_closeRow r a.2
  · exact List.prefix_rfl

theorem raised_prefix_refreshRegime (s : State) : s.raised <+: (refreshRegime s).raised := by
  unfold refreshRegime
  extract_lets new _ s1
  split
  · exact List.prefix_rfl
  · have hs1 : s.raised <+: s1.raised := raised_prefix_raise _ _ _ { s with shd := { s.shd with regime := new } }
    split
    · exact hs1.trans (raised_prefix_closeRows _ s1)
    · exact hs1

/-- PREFLUSH is cleared: event 0x0602 and the regime that follows. -/
def preflushEnded (s : State) : State := refreshRegime (raise 0x0602 0x0E [(1, 2)] { s with dmp := { s.dmp with preflush := false } })

theorem preflushEnded_keeps (s : State) : Keeps 0x106000 s (preflushEnded s) :=
  refreshRegime_keeps (by decide) (raise_keeps _ _ _ (by decide) ((keeps_dmp _).mono (by decide)))

theorem preflushEnded_dmp (s : State) : (preflushEnded s).dmp = { s.dmp with preflush := false } :=
  (refreshRegime_keeps (m := 0x102000) (by decide) (Keeps.refl _ _)).dmpEq (by decide)

theorem preflushEnded_raised (s : State) : ∃ l, (preflushEnded s).raised = s.raised ++ ⟨0x0602, 0x0E, [(1, 2)]⟩ :: l := by
  obtain ⟨l, hl⟩ := raised_prefix_refreshRegime (raise 0x0602 0x0E [(1, 2)] { s with dmp := { s.dmp with preflush := false } })
  exact ⟨l, by rw [preflushEnded, ← hl, raise_raised, List.append_assoc]; rfl⟩

theorem preflushClear_ends {s : State} (hset : s.dmp.preflush = true) (hwarn : filterHolds s.pwr.warnFilter = false)
    (hod : filterHolds s.pwr.odFilter = false) : exec .preflushClear s = .next (preflushEnded s) :=
  congrArg Host.Outcome.next (if_pos (by simp [hset, hwarn, hod]))

theorem preflushClear_ignored {s : State} (h : s.dmp.preflush = false ∨ filterHolds s.pwr.warnFilter = true ∨
    filterHolds s.pwr.odFilter = true) : exec .preflushClear s = .next s :=
  congrArg Host.Outcome.next (if_neg (by rcases h with h | h | h <;> simp [h]))

/-! ### The statement -/

/-- Settles O31: a clause for each event of the watch in the states it acts in and in the others, by the mode where it commits
(R39, R212 to R215, R272, R274, R291; log 81, 82). -/
theorem inputWatch : Obligations.InputWatch := by
  refine ⟨?below, ?above, ?qualifies, ?ignored, ?recovers, ?commits, ?quag, ?preflush⟩
  case below =>
    refine fun s => ⟨fun h => ?_, fun h => ?_, fun h => inputBelowPfail_committed h, fun h => inputBelowPfail_ignored h⟩
    · obtain ⟨hinput, hholdup, hchg, hquag⟩ := holdupRaised_nrg s
      exact ⟨_, inputBelowPfail_good h, hinput, hholdup, hchg, hquag,
        fr (setInput_keeps (m := 0x114188) _ (by decide) (assertHoldup_keeps _ (by decide) (Keeps.refl _ s))) (by decide)⟩
    · exact ⟨_, inputBelowPfail_settle h, setInput_nrg _ s, setInput_onlyIn _ s⟩
  case above =>
    exact fun s => ⟨fun h => ⟨_, congrArg Host.Outcome.next (if_pos h), setInput_nrg _ s, setInput_onlyIn _ s⟩,
      fun h => congrArg Host.Outcome.next (if_neg h)⟩
  case qualifies =>
    intro s c h
    obtain ⟨l, hl, hids⟩ := qualified_raised s
    exact ⟨_, l, exec_qualifies h, qualified_nrg s, hl, hids,
      fr (qualified_keeps (m := 0x110080) (by decide) (Keeps.refl _ s)) (by decide)⟩
  case ignored => exact fun s c h => watchEvent_ignored h
  case recovers =>
    rintro s c (⟨rfl, h⟩ | ⟨rfl, h⟩)
    · obtain ⟨l, hinput, hl, hids, hrest⟩ := inputRecovered_effect (u := raise 0x0404 0x03 [] s) (raise_raised ..) rfl
        (raise_keeps _ _ _ (by decide) (Keeps.refl _ s))
      exact ⟨_, _, l, settleRecovered_recovers h, hinput, hl, rfl, hids, hrest⟩
    · obtain ⟨l, hinput, hl, hids, hrest⟩ := inputRecovered_effect (u := useFree (raise 0x0402 0x03 [(2, elapsedNow 16 s)] s)) rfl rfl
        (useFree_keeps (by decide) (raise_keeps _ _ _ (by decide) (Keeps.refl _ s)))
      exact ⟨_, _, l, rideThroughSurvived_recovers h, hinput, hl, rfl, hids, hrest⟩
  case commits =>
    rintro s m hride rfl
    refine ⟨fun hmode => ?_, fun hmode => ⟨setInput .committed s, setInput_nrg _ s, setInput_onlyIn _ s, ?_⟩, fun hmode => ?_⟩
    · refine ⟨⟨_, ?_, rfl, commitDump_mode _ _ s (serving_of_mode hmode)⟩, fun hneed => ?_⟩
      · rw [exec_rideThroughExpiry hride, inputCommit_dumps _ hmode]
      · refine ⟨_, ?_, rfl, commitDump_mode _ _ (raise 0x0403 0x03 [] s) (serving_of_mode hmode)⟩
        rw [exec_earlyCommit hride hneed, inputCommit_dumps (s := raise 0x0403 0x03 [] s) _ hmode]
        rfl
    · rw [exec_rideThroughExpiry hride, inputCommit_powersOff _ hmode]
    · refine ⟨_, ?_, setInput_nrg .committed s, setInput_onlyIn _ s⟩
      rw [exec_rideThroughExpiry hride, inputCommit_recovery _ hmode]
  case quag =>
    exact fun s => ⟨quagFalls s, rfl, quagFalls_nrg s, fr (quagFalls_keeps (m := 0x100188) (by decide) (Keeps.refl _ s)) (by decide),
      fun h => quagFalls_down h, fun hwaiting hgauge => quagFalls_idle hwaiting hgauge⟩
  case preflush =>
    intro s
    refine ⟨fun hset hwarn hod => ?_, fun h => preflushClear_ignored h⟩
    exact ⟨_, preflushClear_ends hset hwarn hod, preflushEnded_dmp s, preflushEnded_raised s, fr (preflushEnded_keeps s) (by decide)⟩

end Sys2Proof.Machine
end

section
/-!
PROOFS. Learning cycles (R130, R210, R215, R224 to R227, R237): the start of a cycle, its run, its end by a disqualification, what a write of
the gauge's controls wakes, and the statement about them.
-/

namespace Sys2Proof.Machine

/-! ### The gauge wakes (R237) -/

theorem gaugeWake_awake {s : State} (h : s.nrg.hibernate = false) : gaugeWake s = s := if_neg (by simp [h])

theorem gaugeWake_asleep {s : State} (h : s.nrg.hibernate = true) : gaugeWake s =
    { s with nrg := { s.nrg with hibernate := false }, raised := s.raised ++ [⟨0x040F, 0x03, []⟩] } := if_pos h

theorem gaugeWake_nrg (s : State) : (gaugeWake s).nrg = { s.nrg with hibernate := false } := by
  cases h : s.nrg.hibernate
  · rw [gaugeWake_awake h, ← h]
  · rw [gaugeWake_asleep h]

theorem gaugeWake_hlk (s : State) : (gaugeWake s).hlk = s.hlk :=
  (gaugeWake_keeps (m := 0x100080) (by decide) (Keeps.refl _ s)).hlkEq (by decide)

theorem gaugeWake_spn (s : State) : (gaugeWake s).spn = s.spn :=
  (gaugeWake_keeps (m := 0x100080) (by decide) (Keeps.refl _ s)).spnEq (by decide) (by decide)

theorem learning_gaugeWake (s : State) : learning (gaugeWake s) = learning s := by
  simp only [learning, gaugeWake_nrg]

theorem learnConditions_gaugeWake (s : State) : learnConditions (gaugeWake s) = learnConditions s := by
  cases h : s.nrg.hibernate
  · rw [gaugeWake_awake h]
  · rw [gaugeWake_asleep h]
    rfl

/-! ### A cycle starts (R224, R225, R226) -/

/-- A new cycle waits for the conditions of R225. -/
def cycleOpened (s : State) : State :=
  { s with nrg := { s.nrg with lstate := .waitFull, learnCause := 0, learnGo := false, run := {} } }

theorem learnStart_ready {s : State} (h : learnConditions s = true) : learnStart s = learnToBudget (cycleOpened s) := if_pos h

theorem learnStart_waits {s : State} (h : learnConditions s = false) : learnStart s = cycleOpened s :=
  if_neg (Bool.not_eq_true _ ▸ h)

theorem learnToBudget_nrg (s : State) : (learnToBudget s).nrg = { s.nrg with
    lstate := .waitBudget, eLearn := energyV s.nrg.cUse (param s 4) (param s 2), gaugeSeq := s.nrg.gaugeSeq + 1 } := by
  rw [learnToBudget, sendInput_nrg, gaugeWrite_nrg]

/-- `START` reads 1 while the cycle is in WAIT_FULL (R11). -/
def startShown (t : State) : State := { t with nrg := { t.nrg with learnGo := decide (t.nrg.lstate = .waitFull) } }

theorem learnCtrlStart_starts {s : State} (hidle : learning s = false) (hmode : s.spn.mode = .service) :
    exec .learnCtrlStart s = .next (startShown (learnStart (gaugeWake s))) := by
  have hstarts : ¬ ((learning (gaugeWake s) || decide ((gaugeWake s).spn.mode ≠ .service)) = true) := by
    simp [learning_gaugeWake, gaugeWake_spn, hidle, hmode]
  show Host.Outcome.next (startShown (if _ then _ else _)) = _
  rw [if_neg hstarts]

theorem learnCtrlStart_refused {s : State} (h : learning s = true ∨ s.spn.mode ≠ .service) :
    exec .learnCtrlStart s = .next (startShown (gaugeWake s)) := by
  have hstays : (learning (gaugeWake s) || decide ((gaugeWake s).spn.mode ≠ .service)) = true := by
    simpa [learning_gaugeWake, gaugeWake_spn] using h
  show Host.Outcome.next (startShown (if _ then _ else _)) = _
  rw [if_pos hstays]

theorem learningAutoStart_starts {s : State} (hidle : learning s = false) (hready : learnConditions s = true) (hdue : learnDue s = true)
    (hretry : retryDue s = true) : exec .learningAutoStart s = .next (learnStart s) :=
  congrArg Host.Outcome.next (if_pos (by simp [hidle, hready, hdue, hretry]))

theorem learningAutoStart_ignored {s : State} (h : learnDue s = false ∨ retryDue s = false ∨ learning s = true ∨ learnConditions s = false) :
    exec .learningAutoStart s = .next s :=
  congrArg Host.Outcome.next (if_neg (by rcases h with h | h | h | h <;> simp [h]))

theorem mode_of_learnConditions {s : State} (h : learnConditions s = true) : s.spn.mode = .service := by
  simp only [learnConditions, Bool.and_eq_true, decide_eq_true_eq] at h
  tauto

/-- The cycle of a start that finds the conditions. -/
def Budgeted (s t : State) : Prop := t.nrg.lstate = .waitBudget ∧ t.nrg.learnCause = 0 ∧ t.nrg.run = {} ∧ t.nrg.learnGo = false ∧
  t.nrg.eLearn = energyV s.nrg.cUse (param s 4) (param s 2) ∧ OnlyIn [.nrg, .wrp, .aos, .ifc, .evr, .raised] s t

theorem learnStart_budgeted {s : State} (h : learnConditions s = true) : Budgeted s (learnStart s) := by
  have hframe : OnlyIn [.nrg, .wrp, .aos, .ifc, .evr, .raised] s (learnStart s) :=
    fr (learnStart_keeps (m := 0x1001ac) (by decide) (Keeps.refl _ s)) (by decide)
  refine ⟨?_, ?_, ?_, ?_, ?_, hframe⟩ <;> rw [learnStart_ready h, learnToBudget_nrg] <;> rfl

theorem learnCtrlStart_budgeted {s : State} (h : learnConditions s = true) : Budgeted s (startShown (learnStart (gaugeWake s))) := by
  obtain ⟨hstate, hcause, hrun, -, henergy, -⟩ := learnStart_budgeted ((learnConditions_gaugeWake s).trans h)
  have hkeeps : Keeps 0x1001ac s (learnStart (gaugeWake s)) :=
    learnStart_keeps (by decide) (gaugeWake_keeps (by decide) (Keeps.refl _ s))
  simp only [param, gaugeWake_nrg] at henergy
  refine ⟨hstate, hcause, hrun, ?_, henergy, fr (hkeeps.trans ((keeps_nrg _).mono (by decide))) (by decide)⟩
  show decide _ = false
  rw [hstate]
  rfl

theorem learnCtrlStart_waits {s : State} (hidle : learning s = false) (hnot : learnConditions s = false) (hmode : s.spn.mode = .service) :
    exec .learnCtrlStart s = .next { gaugeWake s with nrg := { (gaugeWake s).nrg with
      lstate := .waitFull, learnCause := 0, learnGo := true, run := {} } } := by
  rw [learnCtrlStart_starts hidle hmode, learnStart_waits ((learnConditions_gaugeWake s).trans hnot)]
  rfl

/-! ### The cycle runs (R226) -/

theorem esrJudge_nrg (s : State) : ∃ b, (esrJudge s).nrg = { s.nrg with esrHigh := b } := by
  unfold esrJudge
  extract_lets n high s1
  exact ⟨high, by split <;> rfl⟩

theorem foldEsr_nrg (c : CurrentStep) (s : State) : ∃ l b, (foldEsr c s).nrg = { s.nrg with esr := l, esrHigh := b } := by
  unfold foldEsr
  split
  · exact ⟨s.nrg.esr, s.nrg.esrHigh, rfl⟩
  · extract_lets b old new
    obtain ⟨h, hnrg⟩ := esrJudge_nrg { s with nrg := { s.nrg with esr := s.nrg.esr.set b new } }
    exact ⟨_, h, hnrg⟩

/-- The state in which hold-up has risen for the cycle and the step's ESR is taken. -/
def holdupLearning (c : CurrentStep) (s : State) : State := foldEsr c (assertHoldup .learning s)

/-- The run of a cycle that starts at the store's present voltage, with the ESR of the step at hold-up. -/
def openedRun (c : CurrentStep) (s : State) : LearnRun :=
  { vStart := s.nrg.vOcv, split := (s.nrg.vOcv + param s 4) / 2
    esr := (((c.vAfter : Int) - c.vBefore).natAbs * 10000) / (c.iAfter - c.iBefore).natAbs }

/-- The cycle runs. -/
def cycleRuns (c : CurrentStep) (s : State) : State :=
  { holdupLearning c s with nrg := { (holdupLearning c s).nrg with lstate := .running, run := openedRun c s } }

theorem learnHoldupStart_ignored {s : State} (c : CurrentStep) (h : s.nrg.lstate ≠ .waitBudget ∨ s.wrp.learning = false ∨
    s.wrp.b < dCount s ∨ s.aos.gauge ≠ none ∨ agentBusy .energy s = true) : exec (.learnHoldupStart c) s = .next s := by
  refine congrArg Host.Outcome.next (if_neg ?_)
  rintro ⟨hwait, hlearning, hbudget, hgauge, hagent⟩
  rcases h with h | h | h | h | h
  · exact h hwait
  · simp [hlearning] at h
  · omega
  · exact h hgauge
  · simp [hagent] at h

theorem holdupLearning_nrg (c : CurrentStep) (s : State) : ∃ l b, (holdupLearning c s).nrg = { s.nrg with
    quagOk := false, holdupEn := true
    reason := if s.nrg.holdupEn && HoldReason.learning ≠ .input then s.nrg.reason else .learning
    chgEn := false, iNow := 0, ramp := 0, hibernate := false, esr := l, esrHigh := b } := by
  obtain ⟨l, b, h⟩ := foldEsr_nrg c (assertHoldup .learning s)
  exact ⟨l, b, by rw [holdupLearning, h, assertHoldup_nrg]⟩

theorem learnHoldupStart_runs {s : State} (c : CurrentStep) (hwait : s.nrg.lstate = .waitBudget) (hlearning : s.wrp.learning = true)
    (hbudget : dCount s ≤ s.wrp.b) (hgauge : s.aos.gauge = none) (hagent : agentBusy .energy s = false) :
    exec (.learnHoldupStart c) s = .next (gaugeAfter s.nrg (cycleRuns c s)) :=
  congrArg Host.Outcome.next (if_pos ⟨hwait, hlearning, hbudget, hgauge, hagent⟩)

/-! ### A cycle is disqualified (R227) -/

/-- The cycle is DISQUALIFIED with a cause. -/
def cycleFailed (cause : Nat) (s : State) : State :=
  { s with nrg := { s.nrg with lstate := .disqualified, learnCause := cause, eLearn := 0
                               failSec := if decide (s.nrg.lstate = .running) then s.nrg.failSec else some s.evr.opSec } }

/-- The cycle is DISQUALIFIED, and one that ran lets go of hold-up. -/
def holdupLeft (cause : Nat) (s : State) : State :=
  if decide (s.nrg.lstate = .running) then releaseLearnHoldup (cycleFailed cause s) else cycleFailed cause s

/-- The disqualification is reported, recorded, and in force at the WRP. -/
def failureNoted (cause : Nat) (s : State) : State := sendInput (gaugeWrite (raise 0x040A 0x03 [(1, cause)] (holdupLeft cause s)))

theorem learnDisqualify_learning {cause : Nat} {s : State} (h : learning s = true) :
    learnDisqualify cause s = endLearnCmd false (failureNoted cause s) := if_pos h

theorem learnDisqualify_ignored {cause : Nat} {s : State} (h : learning s = false) : learnDisqualify cause s = s :=
  if_neg (Bool.not_eq_true _ ▸ h)

theorem holdupLeft_ran {cause : Nat} {s : State} (hrun : s.nrg.lstate = .running) :
    holdupLeft cause s = releaseLearnHoldup (cycleFailed cause s) := if_pos (decide_eq_true hrun)

theorem holdupLeft_waited {cause : Nat} {s : State} (hrun : s.nrg.lstate ≠ .running) : holdupLeft cause s = cycleFailed cause s :=
  if_neg (by simpa using hrun)

/-- What a disqualification leaves of the cycle: its state and cause, the energy limit and C_learned. -/
def cycleView (n : Nrg) : LState × Nat × Nat × Nat := (n.lstate, n.learnCause, n.eLearn, n.cLearned)

theorem releaseLearnHoldup_good {s : State} (h : s.nrg.input = .good) : releaseLearnHoldup s = releaseHoldup s := if_pos h

theorem releaseLearnHoldup_failed {s : State} (h : s.nrg.input ≠ .good) :
    releaseLearnHoldup s = actFollow { s with nrg := { s.nrg with reason := .input } } := if_neg h

theorem cycleView_holdupLeft (cause : Nat) (s : State) : cycleView (holdupLeft cause s).nrg = (.disqualified, cause, 0, s.nrg.cLearned) := by
  by_cases hrun : s.nrg.lstate = .running
  · rw [holdupLeft_ran hrun]
    by_cases hgood : (cycleFailed cause s).nrg.input = .good
    · rw [releaseLearnHoldup_good hgood]
      exact releaseHoldup_field (f := cycleView) (fun _ => rfl) _
    · rw [releaseLearnHoldup_failed hgood]
      rfl
  · rw [holdupLeft_waited hrun]
    rfl

theorem failureNoted_nrg (cause : Nat) (s : State) : (failureNoted cause s).nrg =
    { (holdupLeft cause s).nrg with gaugeSeq := (holdupLeft cause s).nrg.gaugeSeq + 1 } := by
  rw [failureNoted, sendInput_nrg, gaugeWrite_nrg, raise_nrg]

theorem failureNoted_hlk (cause : Nat) (s : State) : (failureNoted cause s).hlk = s.hlk := by
  have hleft : Keeps 0x504080 s (holdupLeft cause s) :=
    .ite (releaseLearnHoldup_keeps (by decide) ((keeps_nrg _).mono (by decide))) ((keeps_nrg _).mono (by decide))
  have hnoted : Keeps 0x5041ac s (failureNoted cause s) :=
    sendInput_keeps (by decide) (gaugeWrite_keeps (by decide) (raise_keeps _ _ _ (by decide) (hleft.mono (by decide))))
  exact hnoted.hlkEq (by decide)

theorem endLearnCmd_nrg (accepted : Bool) (s : State) : (endLearnCmd accepted s).nrg = s.nrg :=
  (endLearnCmd_keeps (m := 0x300010) accepted (by decide) (Keeps.refl _ s)).nrgEq (by decide)

theorem endLearnCmd_ends (accepted : Bool) {s : State} {b : BgCmd} (hbg : s.hlk.bg = some b) (hop : b.opcode = 0xC009) :
    (endLearnCmd accepted s).hlk.bg = none := by
  unfold endLearnCmd
  rw [hbg]
  dsimp only
  rw [if_pos hop]
  cases accepted <;> rfl

theorem raised_prefix_endLearnCmd (accepted : Bool) (s : State) : s.raised <+: (endLearnCmd accepted s).raised := by
  unfold endLearnCmd
  split
  · split
    · cases accepted
      · exact raised_prefix_raise _ _ _ s
      · exact List.prefix_rfl
    · exact List.prefix_rfl
  · exact List.prefix_rfl

theorem mem_raised_learnDisqualify {cause : Nat} {s : State} (h : learning s = true) :
    ⟨0x040A, 0x03, [(1, cause)]⟩ ∈ (learnDisqualify cause s).raised := by
  rw [learnDisqualify_learning h]
  refine (raised_prefix_endLearnCmd false (failureNoted cause s)).subset ?_
  refine (raised_prefix_gaugeWrite (raise 0x040A 0x03 [(1, cause)] (holdupLeft cause s))).subset ?_
  simp

/-- A cycle of `s` has ended DISQUALIFIED in `t` with cause `k`. -/
def EndedBy (k : Nat) (s t : State) : Prop := t.nrg.lstate = .disqualified ∧ t.nrg.learnCause = k ∧ t.nrg.eLearn = 0 ∧
  t.nrg.cLearned = s.nrg.cLearned ∧ ⟨0x040A, 0x03, [(1, k)]⟩ ∈ t.raised ∧
  (s.nrg.lstate = .running → s.nrg.input = .good → t.nrg.holdupEn = false) ∧
  (s.nrg.lstate = .running → s.nrg.input ≠ .good → t.nrg.holdupEn = s.nrg.holdupEn ∧ t.nrg.reason = .input) ∧
  (s.nrg.lstate ≠ .running → t.nrg.holdupEn = s.nrg.holdupEn) ∧
  (∀ b, s.hlk.bg = some b → b.opcode = 0xC009 → t.hlk.bg = none)

theorem learnDisqualify_endedBy (k : Nat) {s : State} (h : learning s = true) : EndedBy k s (learnDisqualify k s) := by
  have hnrg : (learnDisqualify k s).nrg = { (holdupLeft k s).nrg with gaugeSeq := (holdupLeft k s).nrg.gaugeSeq + 1 } := by
    rw [learnDisqualify_learning h, endLearnCmd_nrg, failureNoted_nrg]
  have hview := cycleView_holdupLeft k s
  simp only [cycleView, Prod.mk.injEq] at hview
  obtain ⟨hstate, hcause, henergy, hlearned⟩ := hview
  have hevent := mem_raised_learnDisqualify (cause := k) h
  rw [EndedBy, hnrg]
  refine ⟨hstate, hcause, henergy, hlearned, hevent, fun hrun hgood => ?_, fun hrun hfailed => ?_, fun hrun => ?_, fun b hbg hop => ?_⟩
  · show (holdupLeft k s).nrg.holdupEn = false
    rw [holdupLeft_ran hrun, releaseLearnHoldup_good (s := cycleFailed k s) hgood]
    exact releaseHoldup_field (f := Nrg.holdupEn) (fun _ => rfl) _
  · show (holdupLeft k s).nrg.holdupEn = _ ∧ (holdupLeft k s).nrg.reason = _
    rw [holdupLeft_ran hrun, releaseLearnHoldup_failed (s := cycleFailed k s) hfailed]
    exact ⟨rfl, rfl⟩
  · show (holdupLeft k s).nrg.holdupEn = _
    rw [holdupLeft_waited hrun]
    rfl
  · rw [learnDisqualify_learning h]
    exact endLearnCmd_ends false ((congrArg Hlk.bg (failureNoted_hlk k s)).trans hbg) hop

/-- An abort wakes the gauge first, which the cycle does not depend on. -/
theorem learnAbort_endedBy {s : State} (h : learning s = true) : EndedBy 6 s (learnDisqualify 6 (gaugeWake s)) := by
  simpa only [EndedBy, gaugeWake_nrg, gaugeWake_hlk] using learnDisqualify_endedBy 6 ((learning_gaugeWake s).trans h)

theorem learning_of_lstate {s : State} (h : s.nrg.lstate = .waitFull ∨ s.nrg.lstate = .waitBudget ∨ s.nrg.lstate = .running) :
    learning s = true := by rcases h with h | h | h <;> simp [learning, h]

/-! ### The statement -/

/-- Settles O33: a clause for the starts, for the run, for the four ways a cycle is disqualified, and for what each does otherwise
(R130, R210, R215, R224 to R227, R237; log 61, 62). -/
theorem learningCycles : Obligations.LearningCycles := by
  refine ⟨?starts, ?waits, ?ignored, ?runs, ?notRuns, ?ends, ?notEnds⟩
  case starts =>
    rintro s c hidle hready (⟨rfl, hdue, hretry⟩ | rfl)
    · exact ⟨_, learningAutoStart_starts hidle hready hdue hretry, learnStart_budgeted hready⟩
    · exact ⟨_, learnCtrlStart_starts hidle (mode_of_learnConditions hready), learnCtrlStart_budgeted hready⟩
  case waits => exact fun s hidle hnot hmode => ⟨_, rfl, learnCtrlStart_waits hidle hnot hmode⟩
  case ignored =>
    intro s
    refine ⟨fun h => learningAutoStart_ignored h, fun h => ⟨_, rfl, ?_⟩, fun h => gaugeWake_awake h, fun h => gaugeWake_asleep h⟩
    rw [learnCtrlStart_refused h, startShown, gaugeWake_nrg]
  case runs =>
    intro s c hwait hlearning hbudget hgauge hagent
    obtain ⟨l, b, hholdup⟩ := holdupLearning_nrg c s
    obtain ⟨q, r, hafter⟩ := gaugeAfter_nrg s.nrg (cycleRuns c s)
    refine ⟨_, learnHoldupStart_runs c hwait hlearning hbudget hgauge hagent, ?_⟩
    rw [hafter, cycleRuns, hholdup]
    exact ⟨rfl, rfl, rfl, rfl, fun hdown => if_neg (by simp [hdown]), rfl, rfl, rfl⟩
  case notRuns => exact fun s c h => learnHoldupStart_ignored c h
  case ends =>
    rintro s c k (⟨rfl, h, rfl⟩ | ⟨rfl, hwait, hshort, rfl⟩ | ⟨rfl, hrun, rfl⟩ | ⟨rfl, hfull, rfl⟩)
    · exact ⟨_, rfl, learnAbort_endedBy h⟩
    · exact ⟨_, congrArg Host.Outcome.next (if_pos ⟨hwait, hshort⟩), learnDisqualify_endedBy 9 (learning_of_lstate (.inr (.inl hwait)))⟩
    · exact ⟨_, congrArg Host.Outcome.next (if_pos hrun), learnDisqualify_endedBy 7 (learning_of_lstate (.inr (.inr hrun)))⟩
    · exact ⟨_, congrArg Host.Outcome.next (if_pos hfull), learnDisqualify_endedBy 8 (learning_of_lstate (.inl hfull))⟩
  case notEnds =>
    refine fun s => ⟨fun h => ?_, fun h => ?_, fun h => congrArg Host.Outcome.next (if_neg h), fun h => congrArg Host.Outcome.next (if_neg h)⟩
    · exact congrArg Host.Outcome.next (learnDisqualify_ignored ((learning_gaugeWake s).trans h))
    · exact congrArg Host.Outcome.next (if_neg fun hboth => h.elim (· hboth.1) (Nat.not_le.2 hboth.2))

end Sys2Proof.Machine
end

section
/-!
PROOFS. The gauge's samples and reports (R43, R206 to R209, R218 to R222, R236, R237, R239, R242): the cell monitor's poll, a sample of the
channels, the FULL anchor, the reports, hibernation, a parameter's write, and the statement about them.
-/

namespace Sys2Proof.Machine

theorem refreshCharge_out (s : State) : (refreshCharge s).out = s.out :=
  (refreshCharge_keeps (m := 0x500080) (by decide) (Keeps.refl _ s)).outEq (by decide)

theorem refreshEstimates_out (s : State) : (refreshEstimates s).out = s.out :=
  (refreshEstimates_keeps (m := 0x500080) (by decide) (Keeps.refl _ s)).outEq (by decide)

/-! ### A poll without a good response (R208) -/

/-- The miss is counted. -/
def missCounted (s : State) : State := { s with nrg := { s.nrg with misses := satAdd 8 s.nrg.misses 1, missRun := s.nrg.missRun + 1 } }

/-- The cell monitor has failed: event 0x0412. -/
def monitorFailed (s : State) : State := raise 0x0412 0x03 [] { s with nrg := { s.nrg with cmbFail := true } }

theorem cmbMiss_third {s : State} (hrun : 2 ≤ s.nrg.missRun) (hok : s.nrg.cmbFail = false) :
    cmbMiss s = refreshCharge (monitorFailed (missCounted s)) := if_pos ⟨Nat.succ_le_succ hrun, hok⟩

theorem cmbMiss_counted {s : State} (h : s.nrg.missRun < 2 ∨ s.nrg.cmbFail = true) : cmbMiss s = missCounted s := by
  refine if_neg fun hthird => ?_
  obtain ⟨hrun, hok⟩ := hthird
  rcases h with h | h
  · exact absurd (Nat.le_of_succ_le_succ hrun) (Nat.not_le.2 h)
  · exact Bool.false_ne_true (hok.symm.trans h)

theorem cmbMiss_effect (s : State) : (cmbMiss s).nrg.misses = satAdd 8 s.nrg.misses 1 ∧ (cmbMiss s).nrg.missRun = s.nrg.missRun + 1 ∧
    ((cmbMiss s).nrg.cmbFail = true ↔ s.nrg.cmbFail = true ∨ 2 ≤ s.nrg.missRun) ∧
    (s.nrg.cmbFail = false → 2 ≤ s.nrg.missRun → ∃ l, (cmbMiss s).raised = s.raised ++ ⟨0x0412, 0x03, []⟩ :: l) ∧
    (cmbMiss s).out = s.out := by
  by_cases hthird : 2 ≤ s.nrg.missRun ∧ s.nrg.cmbFail = false
  · obtain ⟨hrun, hok⟩ := hthird
    obtain ⟨l, hl, -⟩ := refreshCharge_addsEvents (monitorFailed (missCounted s))
    have hfail : (refreshCharge (monitorFailed (missCounted s))).nrg.cmbFail = true :=
      refreshCharge_field (f := Nrg.cmbFail) (fun _ => rfl) _
    rw [cmbMiss_third hrun hok]
    refine ⟨refreshCharge_field (f := Nrg.misses) (fun _ => rfl) _, refreshCharge_field (f := Nrg.missRun) (fun _ => rfl) _,
      ⟨fun _ => .inr hrun, fun _ => hfail⟩, fun _ _ => ⟨l, ?_⟩, refreshCharge_out _⟩
    rw [hl, monitorFailed, raise_raised, List.append_assoc]
    rfl
  · have hnot : s.nrg.missRun < 2 ∨ s.nrg.cmbFail = true := by
      rwa [not_and_or, Nat.not_le, Bool.not_eq_false] at hthird
    rw [cmbMiss_counted hnot]
    refine ⟨rfl, rfl, ⟨.inl, fun h => h.elim id fun hrun => ?_⟩, fun hok hrun => absurd ⟨hrun, hok⟩ hthird, rfl⟩
    exact hnot.resolve_left (Nat.not_lt.2 hrun)

/-- The request frame of a poll is sent. -/
def pollSent (s : State) : State := send (.cmb (cmbRequest (balanceNow s))) s

theorem exec_cmbPoll_miss {s : State} {resp : List Nat} (h : cmbGood s resp = false) :
    exec (.cmbPoll resp) s = .next (cmbMiss (pollSent s)) := congrArg Host.Outcome.next (if_neg (by simp [h]))

/-! ### A poll with a good response (R207 to R209, R239) -/

/-- The cell voltages of a response. -/
def cellsOf (resp : List Nat) : List Nat := ((pieces 2 20 (resp.drop 5)).map leValue).take (resp.getD 0 0)

/-- The response's count and module identity are taken, and the run of misses ends. -/
def responseTaken (resp : List Nat) (s : State) : State := { s with nrg := { s.nrg with
  missRun := 0, cmbFail := false, cellsSeen := resp.getD 0 0, moduleId := leAt resp 1 4
  cells := if s.nrg.cells = 0 then resp.getD 0 0 else s.nrg.cells } }

/-- The end of a failure is reported with the response. -/
def responseNoted (resp : List Nat) (s : State) : State :=
  if s.nrg.cmbFail then raise 0x0412 0x03 [] (responseTaken resp s) else responseTaken resp s

/-- The response and its cells are worked in. -/
def responseRead (resp : List Nat) (s : State) : State := refreshEstimates (cmbCells (cellsOf resp) (responseNoted resp s))

/-- The monitor has answered since power-on. -/
def monitorChecked (t : State) : State := { t with nrg := { t.nrg with cmbChecked := true } }

theorem monitorChecked_nrg (t : State) : (monitorChecked t).nrg = { t.nrg with cmbChecked := true } := rfl

theorem monitorChecked_out (t : State) : (monitorChecked t).out = t.out := rfl

/-- The first answer since power-on shows another store than the one on record (R239). -/
def storeSwapped (s t : State) : Bool :=
  !s.nrg.cmbChecked && (if t.nrg.moduleId = 0 then !s.aos.valid else decide (t.nrg.moduleId ≠ s.nrg.storeId))

/-- What follows an answer that may show another store. -/
def answerEnds (swapped : Bool) (t : State) : State := storeKnown (if swapped then storeInserted (monitorChecked t) else monitorChecked t)

theorem exec_cmbPoll_good {s : State} {resp : List Nat} (h : cmbGood s resp = true) : exec (.cmbPoll resp) s =
    .next (answerEnds (storeSwapped s (responseRead resp (pollSent s))) (responseRead resp (pollSent s))) := by
  show execCmbPoll resp s = _
  unfold execCmbPoll
  extract_lets s0 count cells _ s1 s2 s3 m swapped _ s4
  have hs3 : responseRead resp (pollSent s) = s3 := rfl
  rw [if_pos h, hs3]
  clear_value s3
  rfl

theorem cmbCells_nrg (cells : List Nat) (s : State) : ∃ i j b o l, (cmbCells cells s).nrg = { s.nrg with
    cellMax := cells.foldl max 0, cellMin := cells.foldl min 0xFFFF, maxIdx := i, minIdx := j, balance := b, cellOver := o, overCells := l } := by
  unfold cmbCells
  extract_lets hi lo hiIdx loIdx mask lim isOver overs _ s1 s2 wide was
  have hs2 : s2.nrg = s1.nrg := (Keeps.foldl (m := 0x100000) (fun u a => raise_keeps _ _ _ (by decide) (Keeps.refl _ u))
    (Keeps.refl _ s1)).nrgEq (by decide)
  refine ⟨hiIdx, loIdx, mask, isOver, overs, ?_⟩
  split <;> exact hs2

theorem cmbCells_out (cells : List Nat) (s : State) : (cmbCells cells s).out = s.out :=
  (cmbCells_keeps (m := 0x100080) cells (by decide) (Keeps.refl _ s)).outEq (by decide)

/-- What the monitor shows: the misses, the failure, the answer's head, and the extreme cells. -/
def monitorView (n : Nrg) : Nat × Nat × Bool × Bool × Nat × Nat × Nat × Nat :=
  (n.misses, n.missRun, n.cmbFail, n.cmbChecked, n.cellsSeen, n.moduleId, n.cellMax, n.cellMin)

theorem monitorView_gaugeAfter (old : Nrg) (s : State) : monitorView (gaugeAfter old s).nrg = monitorView s.nrg :=
  gaugeAfter_field (fun _ _ _ => rfl) old s

theorem monitorView_storeInserted (s : State) : monitorView (storeInserted s).nrg = monitorView s.nrg := by
  unfold storeInserted
  extract_lets old s1
  rw [monitorView_gaugeAfter, sendInput_nrg, refreshEstimates_field (f := monitorView) fun _ => rfl]
  rfl

theorem storeKnown_cases (s : State) : storeKnown s = s ∨ storeKnown s = gaugeAfter s.nrg (raise 0x040C 0x03 [(4, s.nrg.moduleId)]
    { s with nrg := { s.nrg with idPending := false, storeId := s.nrg.moduleId } }) := by
  unfold storeKnown
  split
  · exact .inr rfl
  · exact .inl rfl

theorem monitorView_storeKnown (s : State) : monitorView (storeKnown s).nrg = monitorView s.nrg := by
  rcases storeKnown_cases s with h | h <;> rw [h]
  exact (monitorView_gaugeAfter _ _).trans rfl

theorem monitorView_responseRead (resp : List Nat) (s : State) : monitorView (monitorChecked (responseRead resp s)).nrg = (s.nrg.misses, 0,
    false, true, resp.getD 0 0, leAt resp 1 4, (cellsOf resp).foldl max 0, (cellsOf resp).foldl min 0xFFFF) := by
  obtain ⟨i, j, b, o, l, hcells⟩ := cmbCells_nrg (cellsOf resp) (responseNoted resp s)
  have hnoted : (responseNoted resp s).nrg = (responseTaken resp s).nrg := by
    unfold responseNoted
    split <;> rfl
  rw [monitorChecked_nrg, responseRead, refreshEstimates_field (f := fun n => monitorView { n with cmbChecked := true }) fun _ => rfl,
    hcells, hnoted]
  rfl

theorem monitorView_answerEnds (swapped : Bool) (t : State) : monitorView (answerEnds swapped t).nrg = monitorView (monitorChecked t).nrg := by
  rw [answerEnds, monitorView_storeKnown]
  cases swapped
  · rfl
  · exact monitorView_storeInserted (monitorChecked t)

theorem out_prefix_storeInserted (s : State) : s.out <+: (storeInserted s).out := by
  unfold storeInserted
  extract_lets old s1
  refine List.IsPrefix.trans ?_ (out_prefix_gaugeAfter old _)
  rw [sendInput_out, refreshEstimates_out]
  exact List.prefix_append _ _

theorem out_prefix_storeKnown (s : State) : s.out <+: (storeKnown s).out := by
  rcases storeKnown_cases s with h | h <;> rw [h]
  exact out_prefix_gaugeAfter s.nrg (raise 0x040C 0x03 [(4, s.nrg.moduleId)]
    { s with nrg := { s.nrg with idPending := false, storeId := s.nrg.moduleId } })

theorem responseRead_out (resp : List Nat) (s : State) : (responseRead resp s).out = s.out := by
  rw [responseRead, refreshEstimates_out, cmbCells_out, responseNoted]
  split <;> rfl

theorem out_prefix_answerEnds (swapped : Bool) (t : State) : t.out <+: (answerEnds swapped t).out := by
  refine List.IsPrefix.trans ?_ (out_prefix_storeKnown _)
  cases swapped
  · exact (monitorChecked_out t).symm ▸ List.prefix_rfl
  · exact (monitorChecked_out t).symm ▸ out_prefix_storeInserted (monitorChecked t)

theorem cmbPoll_good_effect {s : State} {resp : List Nat} (h : cmbGood s resp = true) :
    ∃ t, exec (.cmbPoll resp) s = .next t ∧ (pollSent s).out <+: t.out ∧ monitorView t.nrg = (s.nrg.misses, 0, false, true,
      resp.getD 0 0, leAt resp 1 4, (cellsOf resp).foldl max 0, (cellsOf resp).foldl min 0xFFFF) := by
  refine ⟨_, exec_cmbPoll_good h, ?_, ?_⟩
  · rw [← responseRead_out resp (pollSent s)]
    exact out_prefix_answerEnds _ _
  · rw [monitorView_answerEnds, monitorView_responseRead]
    rfl

/-! ### A sample (R206, R218 to R222, R237) -/

/-- The controller's values with a sample's readings. -/
def sampled (m : Sample) (n : Nrg) : Nrg := { n with
  vStore := m.vStore, vInput := m.vInput, tDiode := m.tDiode, tNtc0 := m.tNtc0, tNtc1 := m.tNtc1, ntc0Out := m.bad0, ntc1Out := m.bad1
  iStore := if n.hibernate || n.zeroing then n.iStore else m.iStore, iInput := if n.hibernate then n.iInput else m.iInput }

theorem takeSample_nrg (m : Sample) (s : State) : (takeSample m s).nrg = sampled m s.nrg := by
  unfold takeSample
  extract_lets n frozen n1 s1 s2
  have hs2 : s2.nrg = s1.nrg := by
    dsimp only [s2]
    split <;> rfl
  split <;> exact hs2

/-- The controller's values without what a millisecond computes: the charger's outputs and the estimates, the count and its anchors, and
its records. -/
def measured (n : Nrg) : Nrg := { given n with q := 0, qHigh := 0, qLow := 0, countDrift := false, anchor := .unanchored, emptyTaken := false
                                               capSuspect := false, relearn := false, gaugeSeq := 0, recSec := none }

/-- Values that agree up to these agree in what `f` reads of the others. -/
theorem measured_field {β : Type} {f : Nrg → β} (hf : ∀ n, f (measured n) = f n) {a b : Nrg} (h : measured a = measured b) : f a = f b := by
  rw [← hf, h, hf]

theorem measured_refreshEstimates (s : State) : measured (refreshEstimates s).nrg = measured s.nrg :=
  refreshEstimates_field (fun _ => rfl) s

theorem measured_gaugeAfter (old : Nrg) (s : State) : measured (gaugeAfter old s).nrg = measured s.nrg :=
  gaugeAfter_field (fun _ _ _ => rfl) old s

theorem countCharge_unanchored (dq : Int) {s : State} (h : s.nrg.anchor = .unanchored) : countCharge dq s = s := if_pos h

/-- An anchored count integrates within 0 and Q_full, whether or not it has drifted. -/
theorem countCharge_anchored (dq : Int) {s : State} (hidle : learning s = false) (h : s.nrg.anchor ≠ .unanchored) :
    ∃ i l d, (countCharge dq s).nrg = { s.nrg with q := min s.nrg.qFull ((s.nrg.q : Int) + dq).toNat, qHigh := i, qLow := l, countDrift := d } := by
  unfold countCharge
  extract_lets n q n1
  rw [if_neg h]
  split
  · refine ⟨n1.qHigh, n1.qLow, true, ?_⟩
    rw [learnDisqualify_ignored (show learning (raise _ _ _ { s with nrg := { n1 with countDrift := true } }) = false from hidle)]
    rfl
  · exact ⟨n1.qHigh, n1.qLow, n.countDrift, rfl⟩

theorem measured_countCharge (dq : Int) {s : State} (hidle : learning s = false) : measured (countCharge dq s).nrg = measured s.nrg := by
  by_cases h : s.nrg.anchor = .unanchored
  · rw [countCharge_unanchored dq h]
  · obtain ⟨i, l, d, hnrg⟩ := countCharge_anchored dq hidle h
    rw [hnrg]
    rfl

theorem emptyAnchor_down {s : State} (h : s.nrg.holdupEn = false) : emptyAnchor s = s := if_neg (by simp [h])

theorem measured_emptyAnchor (s : State) : measured (emptyAnchor s).nrg = measured s.nrg := by
  unfold emptyAnchor
  extract_lets n suspect s1
  have hs1 : measured s1.nrg = measured s.nrg := by
    dsimp only [s1]
    split <;> rfl
  split
  · exact (measured_refreshEstimates _).trans hs1
  · rfl

theorem learnSample_idle (dq : Int) {s : State} (hidle : learning s = false) : learnSample dq s = s := by
  simp only [learning, Bool.or_eq_false_iff, decide_eq_false_iff_not] at hidle
  obtain ⟨⟨hfull, hbudget⟩, hrun⟩ := hidle
  simp [learnSample, hfull, hbudget, hrun]

theorem learning_of_measured {s t : State} (h : measured t.nrg = measured s.nrg) : learning t = learning s := by
  have hstate : t.nrg.lstate = s.nrg.lstate := measured_field (f := Nrg.lstate) (fun _ => rfl) h
  rw [learning, hstate, learning]

theorem learning_countCharge (dq : Int) {s : State} (hidle : learning s = false) : learning (countCharge dq s) = learning s :=
  learning_of_measured (measured_countCharge dq hidle)

theorem learning_refreshEstimates (s : State) : learning (refreshEstimates s) = learning s :=
  learning_of_measured (measured_refreshEstimates s)

theorem learning_emptyAnchor (s : State) : learning (emptyAnchor s) = learning s := learning_of_measured (measured_emptyAnchor s)

/-- The sample is taken, and the estimates follow it. -/
def sampleTaken (m : Sample) (s : State) : State :=
  refreshEstimates (takeSample m { s with nrg := { s.nrg with ramp := min 100 (s.nrg.ramp + 1) } })

/-- The offset zeroing is over. -/
def zeroingEnded (t : State) : State := { t with nrg := { t.nrg with zeroing := false } }

theorem zeroingEnded_nrg (t : State) : (zeroingEnded t).nrg = { t.nrg with zeroing := false } := rfl

theorem learning_zeroingEnded (t : State) : learning (zeroingEnded t) = learning t := rfl

/-- The count has integrated; the offset zeroing is over. -/
def charged (dq : Int) (s : State) : State := zeroingEnded (countCharge dq s)

/-- What a millisecond computes is none of what the end of the zeroing clears. -/
theorem measured_zeroing {a b : Nrg} (h : measured a = measured b) :
    measured { a with zeroing := false } = measured { b with zeroing := false } :=
  congrArg (fun n : Nrg => { n with zeroing := false }) h

theorem exec_energyEstimate (m : Sample) (s : State) : exec (.energyEstimate m none) s = .next (gaugeAfter s.nrg (sendInput (refreshEstimates
    (learnSample (chargeStep m s.nrg) (emptyAnchor (refreshEstimates (charged (chargeStep m s.nrg) (sampleTaken m s)))))))) := by
  show execEnergyEstimate m none s = _
  unfold execEnergyEstimate
  extract_lets dq _ s1 s2 s3 s4 _ s5 s6
  have hs3 : sampleTaken m s = s3 := rfl
  rw [hs3]
  clear_value s3
  rfl

theorem sampleTaken_field {β : Type} {f : Nrg → β} (hf : ∀ n, f (given n) = f n) (m : Sample) (s : State) :
    f (sampleTaken m s).nrg = f (sampled m s.nrg) := by
  rw [sampleTaken, refreshEstimates_field hf, takeSample_nrg, ← hf, ← hf (sampled m s.nrg)]
  rfl

theorem learning_sampleTaken (m : Sample) (s : State) : learning (sampleTaken m s) = learning s := by
  have hstate : (sampleTaken m s).nrg.lstate = s.nrg.lstate := sampleTaken_field (f := Nrg.lstate) (fun _ => rfl) m s
  rw [learning, hstate, learning]

theorem fullCharge_of_nrg {s t : State} {r : Nat} (h : t.nrg = { s.nrg with ramp := r }) : fullCharge t = fullCharge s := by
  simp only [fullCharge, cUseOf, vTargetOf, vFull, cNp, param, h]
  rfl

/-- The ramp of the setpoint, which a sample moves on, is not in Q_full. -/
theorem sampleTaken_qFull (m : Sample) (s : State) : (sampleTaken m s).nrg.qFull = (refreshEstimates (takeSample m s)).nrg.qFull := by
  rw [sampleTaken, refreshEstimates_qFull, refreshEstimates_qFull]
  exact fullCharge_of_nrg (r := min 100 (s.nrg.ramp + 1)) (by rw [takeSample_nrg, takeSample_nrg]; rfl)

/-- The values a sample leaves, where `u` has the charge counted. -/
def estimated (old : Nrg) (u : State) : State := gaugeAfter old (sendInput (refreshEstimates (emptyAnchor (refreshEstimates u))))

theorem measured_estimated (old : Nrg) (u : State) : measured (estimated old u).nrg = measured u.nrg :=
  calc measured (estimated old u).nrg = measured (refreshEstimates (emptyAnchor (refreshEstimates u))).nrg := measured_gaugeAfter old _
    _ = measured u.nrg := by rw [measured_refreshEstimates, measured_emptyAnchor, measured_refreshEstimates]

/-- Without hold-up no EMPTY anchor is taken, so the count stands. -/
theorem estimated_count (old : Nrg) {u : State} (h : u.nrg.holdupEn = false) :
    (estimated old u).nrg.q = u.nrg.q ∧ (estimated old u).nrg.anchor = u.nrg.anchor := by
  have hdown : (refreshEstimates u).nrg.holdupEn = false := (refreshEstimates_field (f := Nrg.holdupEn) (fun _ => rfl) u).trans h
  have hcount (f : Nrg → Nat × Anchor) (hf : ∀ n, f (given n) = f n) (hg : ∀ n q c, f { n with gaugeSeq := q, recSec := c } = f n) :
      f (estimated old u).nrg = f u.nrg := by
    rw [estimated, emptyAnchor_down hdown, gaugeAfter_field hg, sendInput_nrg, refreshEstimates_field hf, refreshEstimates_field hf]
  exact Prod.mk.inj (hcount (fun n => (n.q, n.anchor)) (fun _ => rfl) (fun _ _ _ => rfl))

/-- The state after a sample while no cycle waits or runs. -/
def estimatedIdle (m : Sample) (s : State) : State := estimated s.nrg (charged (chargeStep m s.nrg) (sampleTaken m s))

theorem estimatedIdle_inbox (m : Sample) (s : State) : (estimatedIdle m s).wrp.inbox = some (inputSetOf (estimatedIdle m s)) :=
  gaugeAfter_sendInput_inbox _ _

section Estimate

variable {s : State} (m : Sample) (hidle : learning s = false)
include hidle

theorem energyEstimate_idle : exec (.energyEstimate m none) s = .next (estimatedIdle m s) := by
  have hcharged : learning (charged (chargeStep m s.nrg) (sampleTaken m s)) = false := by
    rw [charged, learning_zeroingEnded, learning_countCharge, learning_sampleTaken, hidle]
    rw [learning_sampleTaken, hidle]
  rw [exec_energyEstimate, learnSample_idle, estimatedIdle, estimated]
  rw [learning_emptyAnchor, learning_refreshEstimates, hcharged]

theorem measured_charged : measured (charged (chargeStep m s.nrg) (sampleTaken m s)).nrg =
    measured { sampled m s.nrg with zeroing := false } := by
  rw [charged, zeroingEnded_nrg, measured_zeroing (measured_countCharge _ ((learning_sampleTaken m s).trans hidle))]
  exact measured_zeroing (sampleTaken_field (f := measured) (fun _ => rfl) m s)

/-- What a millisecond does not compute is as the sample has it, with the zeroing over. -/
theorem estimatedIdle_field {β : Type} {f : Nrg → β} (hf : ∀ n, f (measured n) = f n) :
    f (estimatedIdle m s).nrg = f { sampled m s.nrg with zeroing := false } :=
  measured_field hf ((measured_estimated s.nrg _).trans (measured_charged m hidle))

theorem estimatedIdle_count (hdown : s.nrg.holdupEn = false) :
    (estimatedIdle m s).nrg.q = (charged (chargeStep m s.nrg) (sampleTaken m s)).nrg.q ∧
      (estimatedIdle m s).nrg.anchor = (charged (chargeStep m s.nrg) (sampleTaken m s)).nrg.anchor :=
  estimated_count s.nrg ((measured_field (f := Nrg.holdupEn) (fun _ => rfl) (measured_charged m hidle)).trans hdown)

theorem estimatedIdle_anchored (hdown : s.nrg.holdupEn = false) (hset : s.nrg.anchor ≠ .unanchored) : (estimatedIdle m s).nrg.q =
    min (refreshEstimates (takeSample m s)).nrg.qFull (((s.nrg.q : Int) + chargeStep m s.nrg).toNat) := by
  have hanchor : (sampleTaken m s).nrg.anchor = s.nrg.anchor := sampleTaken_field (f := Nrg.anchor) (fun _ => rfl) m s
  have hq : (sampleTaken m s).nrg.q = s.nrg.q := sampleTaken_field (f := Nrg.q) (fun _ => rfl) m s
  obtain ⟨i, l, d, hnrg⟩ := countCharge_anchored (chargeStep m s.nrg) ((learning_sampleTaken m s).trans hidle) (hanchor.trans_ne hset)
  rw [(estimatedIdle_count m hidle hdown).1, charged, zeroingEnded_nrg, hnrg, ← sampleTaken_qFull, ← hq]

theorem estimatedIdle_unanchored (hdown : s.nrg.holdupEn = false) (hunset : s.nrg.anchor = .unanchored) :
    (estimatedIdle m s).nrg.q = s.nrg.q ∧ (estimatedIdle m s).nrg.anchor = .unanchored := by
  have hanchor : (sampleTaken m s).nrg.anchor = .unanchored := (sampleTaken_field (f := Nrg.anchor) (fun _ => rfl) m s).trans hunset
  have hq : (sampleTaken m s).nrg.q = s.nrg.q := sampleTaken_field (f := Nrg.q) (fun _ => rfl) m s
  obtain ⟨hcount, hcountAnchor⟩ := estimatedIdle_count m hidle hdown
  rw [hcount, hcountAnchor, charged, zeroingEnded_nrg, countCharge_unanchored _ hanchor]
  exact ⟨hq, hanchor⟩

end Estimate

/-! ### The FULL anchor (R219, R231) -/

/-- The count stands at Q_full: a FULL anchor, and a cycle counted after a deep discharge. -/
def anchorTaken (n : Nrg) : Nrg := { n with
  q := n.qFull, anchor := .full, countDrift := false, qHigh := n.qFull, qLow := n.qFull
  cycles := if decide (n.qFull < 10 * (n.qHigh - n.qLow)) then n.cycles + 1 else n.cycles }

/-- The FULL anchor is in force and reported. -/
def anchoredFull (s : State) : State :=
  raise 0x0405 0x03 [] (refreshEstimates { refreshEstimates s with nrg := anchorTaken (refreshEstimates s).nrg })

/-- A cycle that waits for the FULL anchor goes on. -/
def anchorFollowed (s : State) : State := if s.nrg.lstate = .waitFull ∧ learnConditions s then learnToBudget s else s

theorem storeFields_refreshEstimates (s : State) : (refreshEstimates s).nrg.storePresent = s.nrg.storePresent ∧
    (refreshEstimates s).nrg.cells = s.nrg.cells :=
  ⟨refreshEstimates_field (f := Nrg.storePresent) (fun _ => rfl) s, refreshEstimates_field (f := Nrg.cells) (fun _ => rfl) s⟩

theorem fullAnchor_anchors {s : State} (hpresent : s.nrg.storePresent = true) (hcells : s.nrg.cells ≠ 0) :
    exec .fullAnchor s = .next (gaugeAfter s.nrg (sendInput (anchorFollowed (anchoredFull s)))) := by
  obtain ⟨hpresent', hcells'⟩ := storeFields_refreshEstimates s
  have hthere : ¬ ((!(refreshEstimates s).nrg.storePresent || decide ((refreshEstimates s).nrg.cells = 0)) = true) := by
    simp [hpresent', hcells', hpresent, hcells]
  show execFullAnchor s = _
  rw [anchoredFull, execFullAnchor]
  generalize refreshEstimates s = u at hthere ⊢
  exact congrArg Host.Outcome.next (if_neg hthere)

theorem fullAnchor_ignored {s : State} (h : s.nrg.storePresent = false ∨ s.nrg.cells = 0) : exec .fullAnchor s = .next s := by
  obtain ⟨hpresent', hcells'⟩ := storeFields_refreshEstimates s
  exact congrArg Host.Outcome.next (if_pos (by rcases h with h | h <;> simp [hpresent', hcells', h]))

/-- The charge counted, its anchor, and whether it has drifted. -/
def countView (n : Nrg) : Nat × Anchor × Bool := (n.q, n.anchor, n.countDrift)

theorem countView_anchorFollowed (s : State) : countView (anchorFollowed s).nrg = countView s.nrg := by
  unfold anchorFollowed
  split
  · rw [learnToBudget_nrg]
    rfl
  · rfl

theorem raised_prefix_anchorFollowed (s : State) : s.raised <+: (anchorFollowed s).raised := by
  unfold anchorFollowed
  split
  · unfold learnToBudget
    extract_lets el
    rw [sendInput_raised]
    refine List.IsPrefix.trans ?_ (raised_prefix_gaugeWrite _)
    exact List.prefix_rfl
  · exact List.prefix_rfl

theorem countView_anchoredFull (s : State) : countView (anchoredFull s).nrg = ((refreshEstimates s).nrg.qFull, .full, false) := by
  rw [anchoredFull, raise_nrg, refreshEstimates_field (f := countView) fun _ => rfl]
  rfl

theorem fullAnchor_effect (s : State) : countView (gaugeAfter s.nrg (sendInput (anchorFollowed (anchoredFull s)))).nrg =
      ((refreshEstimates s).nrg.qFull, .full, false) ∧
    ⟨0x0405, 0x03, []⟩ ∈ (gaugeAfter s.nrg (sendInput (anchorFollowed (anchoredFull s)))).raised := by
  constructor
  · rw [gaugeAfter_field (f := countView) fun _ _ _ => rfl, sendInput_nrg, countView_anchorFollowed, countView_anchoredFull]
  · refine (raised_prefix_gaugeAfter s.nrg (sendInput (anchorFollowed (anchoredFull s)))).subset ?_
    rw [sendInput_raised]
    refine (raised_prefix_anchorFollowed (anchoredFull s)).subset ?_
    simp [anchoredFull]

/-! ### Reports (R236) -/

/-- The reported values are brought up to date. -/
def reported (s : State) : State := { s with nrg := { s.nrg with
  chargeCalc := chargeCalcOf s, chargePct := chargePctOf s.nrg (chargeCalcOf s), pctValid := true, holdupReserve := holdupReserveOf s } }

/-- Vector 9 is signalled where the reserve crosses a multiple of 10 %. -/
def reserveSignalled (old new : Nat) (s : State) : State := if new / 100 ≠ old / 100 then msix 9 s else s

theorem exec_reportUpdate (s : State) : exec .reportUpdate s =
    .next (reserveSignalled s.nrg.holdupReserve (holdupReserveOf s) (reported s)) := rfl

theorem reserveSignalled_nrg (old new : Nat) (s : State) : (reserveSignalled old new s).nrg = s.nrg := by
  unfold reserveSignalled
  split <;> rfl

theorem reserveSignalled_out (old new : Nat) (s : State) :
    (reserveSignalled old new s).out = s.out ++ (if new / 100 ≠ old / 100 then [.msix 9] else []) := by
  unfold reserveSignalled
  split
  · rfl
  · exact (List.append_nil _).symm

theorem reportUpdate_keeps (s : State) : Keeps 0x200080 s (reserveSignalled s.nrg.holdupReserve (holdupReserveOf s) (reported s)) :=
  .ite (msix_keeps _ (by decide) ((keeps_nrg _).mono (by decide))) ((keeps_nrg _).mono (by decide))

theorem chargePctOf_first {n : Nrg} (c : Nat) (h : n.pctValid = false) : chargePctOf n c = c := if_pos (by simp [h])

/-- `CHARGE_PCT` moves by at most 1. -/
theorem chargePctOf_moves {n : Nrg} (c : Nat) (h : n.pctValid = true) : chargePctOf n c = n.chargePct + 1 ∧ n.chargePct < c ∨
    chargePctOf n c = n.chargePct - 1 ∧ c < n.chargePct ∨ chargePctOf n c = n.chargePct ∧ n.chargePct = c := by
  unfold chargePctOf
  rw [if_neg (by simp [h])]
  rcases Nat.lt_trichotomy n.chargePct c with hlt | heq | hgt
  · exact .inl ⟨if_pos hlt, hlt⟩
  · exact .inr (.inr ⟨by rw [heq, if_neg (Nat.lt_irrefl c), if_neg (Nat.lt_irrefl c)], heq⟩)
  · exact .inr (.inl ⟨by rw [if_neg (Nat.lt_asymm hgt), if_pos hgt], hgt⟩)

/-! ### Hibernation (R237) -/

theorem hibernateEnter_enters {s : State} (hawake : s.nrg.hibernate = false) (hdown : s.nrg.holdupEn = false) :
    exec .hibernateEnter s = .next { s with nrg := { s.nrg with hibernate := true }, raised := s.raised ++ [⟨0x040F, 0x03, []⟩] } :=
  congrArg Host.Outcome.next (if_neg (by simp [hawake, hdown]))

theorem hibernateEnter_ignored {s : State} (h : s.nrg.hibernate = true ∨ s.nrg.holdupEn = true) : exec .hibernateEnter s = .next s :=
  congrArg Host.Outcome.next (if_pos (by simpa using h))

/-! ### A parameter's write (R43, R242) -/

theorem clampWrite_fst (unit lo hi v : Nat) (s : State) : (clampWrite unit lo hi v s).1 = max lo (min hi v) := by
  unfold clampWrite
  split
  · rfl
  · dsimp only
    omega

theorem clampWrite_snd_nrg (unit lo hi v : Nat) (s : State) : (clampWrite unit lo hi v s).2.nrg = s.nrg := by
  unfold clampWrite
  split <;> rfl

theorem clampWrite_snd_raised (unit lo hi v : Nat) (s : State) : (clampWrite unit lo hi v s).2.raised =
    s.raised ++ (if v < lo ∨ hi < v then [⟨0x1005, unit, []⟩] else []) := by
  unfold clampWrite
  split
  · rfl
  · exact (List.append_nil _).symm

/-- The parameter holds the value within its bounds, and I_SET follows its own bound. -/
def paramStored (p : Param) (v : Nat) (s : State) : State :=
  let u := setParam p.id (clampWrite 0x03 p.lo p.hi v s).1 (clampWrite 0x03 p.lo p.hi v s).2
  { u with nrg := { u.nrg with iSet := min u.nrg.iSet (max 100 (param u 17)) } }

theorem paramStored_params (p : Param) (v : Nat) (s : State) : (paramStored p v s).nrg.params =
    s.nrg.params.map (fun q => if q.id = p.id then { q with val := max p.lo (min p.hi v) } else q) := by
  show (setParam p.id (clampWrite 0x03 p.lo p.hi v s).1 (clampWrite 0x03 p.lo p.hi v s).2).nrg.params = _
  rw [setParam, clampWrite_fst, clampWrite_snd_nrg]

theorem paramStored_raised (p : Param) (v : Nat) (s : State) : (paramStored p v s).raised =
    s.raised ++ (if v < p.lo ∨ p.hi < v then [⟨0x1005, 0x03, []⟩] else []) := by
  rw [← clampWrite_snd_raised]
  unfold paramStored setParam
  rfl

section ParamWrite

variable {s : State} {p : Param} (v : Nat) (hawake : s.nrg.hibernate = false)
include hawake

theorem paramWrite_unknown (hfind : s.nrg.params.find? (fun p => p.id = s.nrg.paramIdx) = none) : exec (.paramWrite v) s = .next s := by
  show execParamWrite v s = _
  simp only [execParamWrite, gaugeWake_awake hawake, hfind]

variable (hfind : s.nrg.params.find? (fun p => p.id = s.nrg.paramIdx) = some p)
include hfind

theorem paramWrite_refused (h : s.nrg.input ≠ .good ∨ s.nrg.holdupEn = true ∨ s.spn.mode = .dump) :
    exec (.paramWrite v) s = .next (raise 0x0413 0x03 [] s) := by
  show execParamWrite v s = _
  simp only [execParamWrite, gaugeWake_awake hawake, hfind]
  rw [if_pos h]

theorem paramWrite_stores (hgood : s.nrg.input = .good) (hdown : s.nrg.holdupEn = false) (hmode : s.spn.mode ≠ .dump) :
    exec (.paramWrite v) s = .next (sendInput (refreshEstimates (paramStored p (v % 0x100000000) s))) := by
  show execParamWrite v s = _
  simp only [execParamWrite, gaugeWake_awake hawake, hfind]
  rw [if_neg (by simp [hgood, hdown, hmode])]
  rfl

theorem paramWrite_effect (hgood : s.nrg.input = .good) (hdown : s.nrg.holdupEn = false) (hmode : s.spn.mode ≠ .dump) :
    ∃ t l, exec (.paramWrite v) s = .next t ∧
      t.nrg.params = s.nrg.params.map (fun q => if q.id = p.id then { q with val := max p.lo (min p.hi (v % 0x100000000)) } else q) ∧
      t.raised = s.raised ++ (if v % 0x100000000 < p.lo ∨ p.hi < v % 0x100000000 then [⟨0x1005, 0x03, []⟩] else []) ++ l ∧
      (∀ e ∈ l, e.id = 0x0414) ∧ t.wrp.inbox = some (inputSetOf t) ∧ OnlyIn [.nrg, .wrp, .raised, .free] s t := by
  have hexec := paramWrite_stores v hawake hfind hgood hdown hmode
  have hkeeps : Keeps 0x5000a0 s (run (exec (.paramWrite v) s) s) := execParamWrite_keeps v (by decide) (Keeps.refl _ s)
  rw [hexec, run_next] at hkeeps
  obtain ⟨l, hraised, hids⟩ := refreshEstimates_addsEvents (paramStored p (v % 0x100000000) s)
  have hparams := refreshEstimates_field (f := Nrg.params) (fun _ => rfl) (paramStored p (v % 0x100000000) s)
  rw [paramStored_params] at hparams
  rw [paramStored_raised] at hraised
  generalize refreshEstimates (paramStored p (v % 0x100000000) s) = u at hexec hkeeps hraised hparams
  exact ⟨sendInput u, l, hexec, hparams, hraised, fun e he => List.mem_singleton.1 (hids e he), sendInput_inbox u, fr hkeeps (by decide)⟩

end ParamWrite

/-! ### The statement -/

theorem learning_of_ended {s : State} (h : s.nrg.lstate = .idle ∨ s.nrg.lstate = .accepted ∨ s.nrg.lstate = .disqualified) :
    learning s = false := by rcases h with h | h | h <;> simp [learning, h]

/-- Settles O32: a clause for each command of the gauge's periodic work, for hibernation and for a parameter's write (R43, R206 to R209,
R218, R219, R222, R236, R237, R242; log 6, 7, 50, 62, 132, 133). -/
theorem gaugeSamplesAndReports : Obligations.GaugeSamplesAndReports := by
  refine ⟨?polled, ?missed, ?sampled, ?zeroed, ?step, ?anchored, ?reported, ?hibernates, ?param, ?unknown⟩
  case polled =>
    intro s resp hgood
    obtain ⟨t, hexec, ⟨l, hl⟩, hview⟩ := cmbPoll_good_effect hgood
    simp only [monitorView, Prod.mk.injEq] at hview
    obtain ⟨hmisses, hrun, hfail, hchecked, hseen, hmodule, hmax, hmin⟩ := hview
    refine ⟨t, l, hexec, ?_, hrun, hfail, hchecked, hseen, hmodule, hmisses, hmax, hmin⟩
    rw [← hl, pollSent, send, List.append_assoc]
    rfl
  case missed =>
    intro s resp hbad
    obtain ⟨hmisses, hrun, hfail, hevent, hout⟩ := cmbMiss_effect (pollSent s)
    exact ⟨_, exec_cmbPoll_miss hbad, hout, hmisses, hrun, hfail, hevent,
      fr (cmbMiss_keeps (m := 0x700080) (by decide) (send_keeps _ (by decide) (Keeps.refl _ s))) (by decide)⟩
  case sampled =>
    intro s m hended
    have hidle := learning_of_ended hended
    have hfield {β : Type} (f : Nrg → β) (hf : ∀ n, f (measured n) = f n) := estimatedIdle_field m hidle hf
    exact ⟨_, energyEstimate_idle m hidle, hfield Nrg.vStore fun _ => rfl, hfield Nrg.vInput fun _ => rfl,
      hfield Nrg.tDiode fun _ => rfl, hfield Nrg.tNtc0 fun _ => rfl, hfield Nrg.tNtc1 fun _ => rfl, hfield Nrg.ntc0Out fun _ => rfl,
      hfield Nrg.ntc1Out fun _ => rfl, hfield Nrg.zeroing fun _ => rfl, hfield Nrg.iStore fun _ => rfl, hfield Nrg.iInput fun _ => rfl,
      fun hset hdown => estimatedIdle_anchored m hidle hdown hset, fun hunset hdown => estimatedIdle_unanchored m hidle hdown hunset,
      estimatedIdle_inbox m s⟩
  case zeroed => exact fun s => rfl
  case step => exact fun s m => rfl
  case anchored =>
    refine fun s => ⟨fun hpresent hcells => ?_, fun h => fullAnchor_ignored h⟩
    obtain ⟨hview, hevent⟩ := fullAnchor_effect s
    simp only [countView, Prod.mk.injEq] at hview
    obtain ⟨hq, hanchor, hdrift⟩ := hview
    exact ⟨_, fullAnchor_anchors hpresent hcells, hq, hanchor, hdrift, hevent⟩
  case reported =>
    intro s
    refine ⟨_, exec_reportUpdate s, ?_, ?_, fun h => ?_, fun h => ?_, reserveSignalled_out _ _ _, fr (reportUpdate_keeps s) (by decide)⟩ <;>
      rw [reserveSignalled_nrg]
    · rfl
    · rfl
    · exact chargePctOf_first _ h
    · exact chargePctOf_moves _ h
  case hibernates =>
    exact fun s => ⟨fun hawake hdown => hibernateEnter_enters hawake hdown, fun h => hibernateEnter_ignored h,
      fun h => congrArg Host.Outcome.next (gaugeWake_asleep h), fun h => congrArg Host.Outcome.next (gaugeWake_awake h)⟩
  case param =>
    exact fun s v p hawake hfind => ⟨fun hgood hdown hmode _ => paramWrite_effect v hawake hfind hgood hdown hmode,
      fun h => paramWrite_refused v hawake hfind h⟩
  case unknown => exact fun s v hawake hfind => paramWrite_unknown v hawake hfind

end Sys2Proof.Machine
end

section
/-!
PROOFS. Collection, wear levelling, scrub, rebuild and compaction (R265 to R267, R304, R345, R347, R348, R370): a page staged and placed
without a refusal, which segment each command collects, and when a collected segment is erased.
-/

namespace Sys2Proof.Machine

/-! ### A page of a PLAIN region staged and placed (R250, R266) -/

/-- With a staging buffer at hand a page of a PLAIN region is placed. -/
theorem stagePage_plain {s u : State} {g r : Nat} {mark : State → State} {w : Nat → Nat → State → ColWhat} {buf : Option (Nat × Nat)}
    (htake : stageTake (quadOf s g) s = (buf, u)) (hbuf : buf.isSome = true) (hplain : encrypted u r = false) :
    stagePage g r mark w s = plantStaging (quadOf s g)
      (placePage (quadOf s g) (fun v => w (slotOf u r).counter v (mark u)) buf (mark u)) := by
  obtain ⟨b, rfl⟩ := Option.isSome_iff_exists.1 hbuf
  have hplain : ¬ encrypted u r = true := by simp [hplain]
  have hdone : regionEncrypt r .service u = (.done, u) := if_neg hplain
  unfold stagePage
  simp only [htake, hdone]
  rw [if_neg (by simp), if_neg hplain]

/-- A live page of a PLAIN region is relocated with the granule's DRAM contents where it is SHADOWED, with the vault's otherwise. -/
theorem relocatePage_plain {s u : State} {g : Nat} {p : Page} {buf : Option (Nat × Nat)} (hpage : pageAt s (mapOf s g).vpa = some p)
    (hidle : programRuns s g = false) (hspace : hasSpace s = true) (htake : stageTake (quadOf s g) s = (buf, u)) (hbuf : buf.isSome = true)
    (hplain : encrypted u p.region = false) : relocatePage g s = if gstate s g = .shadowed
      then plantStaging (quadOf s g) (placePage (quadOf s g) (fun v => .moved g p.region (mapOf s g).vpa
        (sealArea u p.region (slotOf u p.region).counter v (gword u g).stale (granuleData s g))) buf u)
      else plantStaging (quadOf s g) (placePage (quadOf s g) (fun v => .moved g p.region (mapOf s g).vpa
        (sealArea u p.region (slotOf u p.region).counter v p.stale (pageData s (mapOf s g).vpa p))) buf u) := by
  unfold relocatePage
  simp only [hpage]
  rw [if_neg (by simp [hidle, hspace]), stagePage_plain htake hbuf hplain]
  by_cases hshadowed : gstate s g = .shadowed
  · simp only [hshadowed, decide_true, if_true, id_eq]
  · simp only [hshadowed, decide_false, Bool.false_eq_true, if_false, id_eq]

/-! ### Which segment is collected (R265 to R267, R345, R569) -/

/-- The commands of the vault manager's work only wake an engine that is asleep. -/
theorem vaultWork_asleep {s : State} {c : Instr} {n : Nat} {l : List Nat}
    (hc : c = .gcRelocate l ∨ c = .wearLevelMove l ∨ c = .redundancyRebuild l ∨ c = .twinCompaction n l) (hasleep : vaultAwake s = false) :
    exec c s = .next (wakeVault s) := by
  have hasleep : (!vaultAwake s) = true := by simp [hasleep]
  rcases hc with rfl | rfl | rfl | rfl
  · exact congrArg Host.Outcome.next (if_pos hasleep)
  · exact congrArg Host.Outcome.next (if_pos hasleep)
  · exact congrArg Host.Outcome.next (if_pos hasleep)
  · exact congrArg Host.Outcome.next (if_pos hasleep)

/-- The segment that GC_RELOCATE collects: the first one called for that has a movable page, else the victim while F is low. -/
def nextCollected (l : List Nat) (s : State) : Option Nat :=
  (s.vlt.relocate.find? (fun n => (movable s n).any (fun g => !((unmovable n l s).contains g)))).or
    (if s.shd.gc = .idle then none else victim s)

section Awake

variable {s : State} (hawake : vaultAwake s = true)
include hawake

theorem gcRelocate_collects {l : List Nat} {n : Nat} (hnext : nextCollected l s = some n) :
    exec (.gcRelocate l) s = .next (collectSeg n l s) := by
  rw [nextCollected] at hnext
  show execGcRelocate l s = _
  unfold execGcRelocate
  rw [if_neg (by simp [hawake]), hnext]

theorem gcRelocate_nothing {l : List Nat} (hnext : nextCollected l s = none) : exec (.gcRelocate l) s = .next s := by
  rw [nextCollected] at hnext
  show execGcRelocate l s = _
  unfold execGcRelocate
  rw [if_neg (by simp [hawake]), hnext]

theorem redundancyRebuild_nothing (l : List Nat) (hnone : s.vlt.rebuildSegs = []) : exec (.redundancyRebuild l) s = .next s := by
  show execRedundancyRebuild l s = _
  unfold execRedundancyRebuild
  rw [if_neg (by simp [hawake]), hnone]
  rfl

theorem wearLevelMove_rests {l : List Nat} {e : Nat × Seg}
    (hlow : ((s.vlt.segs.filter (fun e => victimOk s e.1 e.2)).mergeSort (fun a b => a.2.erases ≤ b.2.erases)).head? = some e)
    (hrests : eraseSpread s * 20 ≤ (vaultRec s).endurance ∨ ∃ t, s.shd.wlSec = some t ∧ s.evr.opSec < t + 3600) :
    exec (.wearLevelMove l) s = .next s := by
  have hrests : eraseSpread s * 20 ≤ (vaultRec s).endurance ∨ s.shd.wlSec.any (fun t => s.evr.opSec < t + 3600) = true :=
    hrests.imp_right fun ⟨t, hlast, hrecent⟩ => by simpa [hlast] using hrecent
  show execWearLevelMove l s = _
  unfold execWearLevelMove
  rw [if_neg (by simp [hawake])]
  simp only [hlow]
  rw [if_pos hrests]

theorem twinCompaction_leaves {n : Nat} (l : List Nat) (h : twinFull s n = false ∨ n ∈ s.vlt.erasing ∨ segBusy s n = true) :
    exec (.twinCompaction n l) s = .next s := by
  show execTwinCompaction n l s = _
  unfold execTwinCompaction
  rw [if_neg (by simp [hawake]), if_pos (by simpa using h)]

end Awake

/-- A move of wear levelling counted and reported. -/
def levelNoted (n : Nat) (s : State) : State := raise 0x050A 0x0D [(4, n), (3, eraseSpread s)]
  { s with shd := { s.shd with wlMoves := s.shd.wlMoves + 1, wlSec := some s.evr.opSec } }

theorem levelNoted_keeps (n : Nat) (s : State) : Keeps 0x102000 s (levelNoted n s) :=
  raise_keeps _ _ _ (by decide) ((keeps_shd _).mono (by decide))

/-- A TWIN segment noted for event 0x080E, once. -/
def compactNoted (n : Nat) (s : State) : State := { s with vlt := { s.vlt with
  compact := if s.vlt.compact.any (fun e => e.1 = n) then s.vlt.compact else s.vlt.compact ++ [(n, 0)] } }

theorem twinCompaction_collects {s : State} {n : Nat} (l : List Nat) (hawake : vaultAwake s = true) (hfull : twinFull s n = true)
    (herase : n ∉ s.vlt.erasing) (hbusy : segBusy s n = false) :
    exec (.twinCompaction n l) s = .next (collectSeg n l (compactNoted n s)) := by
  cases hnoted : s.vlt.compact.any (fun e => e.1 = n)
  case false =>
    rw [twinCompaction_takesUp l hawake hfull (by simpa using herase) hbusy hnoted, compactNoted, hnoted]
    rfl
  case true =>
    have hsame : compactNoted n s = s := by
      rw [compactNoted, hnoted]
      rfl
    show execTwinCompaction n l s = _
    unfold execTwinCompaction
    rw [if_neg (by simp [hawake]), if_neg (by simp [hfull, herase, hbusy]), hnoted, hsame]
    rfl

/-! ### Scrub (R348) -/

/-- A segment due for its scrub reads. -/
def scrubDue (n : Nat) (s : State) : State := { s with vlt := { s.vlt with scrubbing := s.vlt.scrubbing ++ [n] } }

theorem vaultScrub_due {s : State} {n : Nat} (hserving : serving s = true) (hlive : liveIn s n ≠ []) (hnew : n ∉ s.vlt.scrubbing) :
    exec (.vaultScrub n) s = .next (wakeVault (scrubDue n s)) :=
  congrArg Host.Outcome.next (if_neg (by simp [hserving, hlive, hnew]))

theorem vaultScrub_ignored {s : State} {n : Nat} (h : serving s = false ∨ liveIn s n = [] ∨ n ∈ s.vlt.scrubbing) :
    exec (.vaultScrub n) s = .next s :=
  congrArg Host.Outcome.next (if_pos (by simpa using h))

/-! ### The spread of erase counts (R267) -/

theorem le_foldl_max {a : Nat} {l : List Nat} (ha : a ∈ l) (k : Nat) : a ≤ l.foldl max k :=
  (List.max?_eq_some_iff.1 (List.max?_cons' (x := k) (xs := l))).2 a (List.mem_cons_of_mem k ha)

theorem foldl_min_le {a : Nat} {l : List Nat} (ha : a ∈ l) (k : Nat) : l.foldl min k ≤ a :=
  (List.min?_eq_some_iff.1 (List.min?_cons' (x := k) (xs := l))).2 a (List.mem_cons_of_mem k ha)

/-- A free segment never written counts 0. -/
theorem eraseSpread_someFresh {s : State} (h : s.vlt.segs.length < (vaultRec s).diesPerCh * segGroups s) :
    eraseSpread s = (s.vlt.segs.map (fun e => e.2.erases)).foldl max 0 := by
  unfold eraseSpread
  dsimp only
  rw [if_pos (by simpa using h), Nat.sub_zero]

theorem sub_le_eraseSpread {s : State} (h : (vaultRec s).diesPerCh * segGroups s ≤ s.vlt.segs.length) {a b : Nat × Seg}
    (ha : a ∈ s.vlt.segs) (hb : b ∈ s.vlt.segs) : a.2.erases - b.2.erases ≤ eraseSpread s := by
  unfold eraseSpread
  dsimp only
  rw [if_neg (by simpa using h)]
  exact tsub_le_tsub (le_foldl_max (List.mem_map_of_mem (f := fun e => e.2.erases) ha) 0)
    (foldl_min_le (List.mem_map_of_mem (f := fun e => e.2.erases) hb) _)

/-! ### A segment collected, and its erase (R266, R304) -/

theorem eraseStart_waits {s : State} {n : Nat} (h : liveIn s n ≠ [] ∨ segBusy s n = true ∨ n ∈ s.vlt.erasing ∨ s.spn.mode = .dump) :
    eraseStart n s = s :=
  if_pos (by simpa using h)

/-- A compacted TWIN segment reported with the pages moved out of it. -/
def compactReported (n : Nat) (s : State) : State := match s.vlt.compact.find? (fun e => e.1 = n) with
  | some e => raise 0x080E 0x0D [(4, e.2)] { s with vlt := { s.vlt with compact := s.vlt.compact.filter (fun x => x.1 ≠ n) } }
  | none => s

theorem compactReported_effect (n : Nat) (s : State) : (compactReported n s).vlt.erasing = s.vlt.erasing ∧
    Keeps 0x100800 s (compactReported n s) := by
  unfold compactReported
  split
  · exact ⟨rfl, raise_keeps _ _ _ (by decide) ((keeps_vlt _).mono (by decide))⟩
  · exact ⟨rfl, Keeps.refl _ s⟩

/-- The erase of a segment starts. -/
def erasing (n : Nat) (s : State) : State := { s with vlt := { s.vlt with erasing := s.vlt.erasing ++ [n] } }

/-- After the BOOT entry the erase of an empty segment starts at once. -/
theorem eraseStart_starts {s : State} {n : Nat} (hlive : liveIn s n = []) (hbusy : segBusy s n = false) (herase : n ∉ s.vlt.erasing)
    (hdump : s.spn.mode ≠ .dump) (hboot : s.vlt.bootEntry = true) : eraseStart n s = erasing n (compactReported n s) := by
  have hvault : beforeVault s = s := if_pos hboot
  unfold eraseStart
  rw [if_neg (by simp [hlive, hbusy, herase, hdump]), hvault]
  rfl

/-- A pass over segment `n` that relocates no page: no page is added for 0x080E. -/
def noneRelocated (n : Nat) (s : State) : State := { s with vlt := { s.vlt with
  compact := s.vlt.compact.map (fun e => if e.1 = n then (n, e.2) else e) } }

theorem collect_nothing {s : State} {n : Nat} {skip : List Nat} (h : (movable s n).filter (fun g => !(skip.contains g)) = []) :
    collect n skip s = eraseStart n (noneRelocated n s) := by
  unfold collect
  rw [h]
  rfl

/-! ### The statement -/

/-- Settles O36: a clause for each command of the vault manager's work, for the parts of a collection, for the spread of erase counts and
for the page relocated (R265 to R267, R304, R345, R347, R348, R370, R569; log 12, 54, 98, 138). -/
theorem segmentWork : Obligations.SegmentWork := by
  refine ⟨?asleep, ?collected, ?levelled, ?scrubbed, ?compacted, ?collects, ?empty, ?erased, ?spread, ?relocated⟩
  case asleep => exact fun s c n l hc hasleep => vaultWork_asleep hc hasleep
  case collected =>
    intro s l hawake
    refine ⟨fun n hcalled => gcRelocate_collects hawake (by rw [nextCollected, hcalled]; rfl), fun hnone => ?_,
      fun n hnext => redundancyRebuild_relocates hawake hnext, redundancyRebuild_nothing hawake l⟩
    have hnext : nextCollected l s = if s.shd.gc = .idle then none else victim s := by rw [nextCollected, hnone, Option.none_or]
    exact ⟨fun hidle => gcRelocate_nothing hawake (by rw [hnext, if_pos hidle]),
      fun n hlow hvictim => gcRelocate_collects hawake (by rw [hnext, if_neg hlow, hvictim]),
      fun hlow hvictim => gcRelocate_nothing hawake (by rw [hnext, if_neg hlow, hvictim])⟩
  case levelled =>
    intro s l n g hawake hlow
    refine ⟨fun hrests => wearLevelMove_rests hawake hlow hrests, fun hspread hhour => ?_⟩
    have hhour : s.shd.wlSec.any (fun t => s.evr.opSec < t + 3600) = false := by
      cases hlast : s.shd.wlSec with
      | none => rfl
      | some t => simpa using hhour t hlast
    refine ⟨levelNoted n s, rfl, rfl, rfl, fr (levelNoted_keeps n s) (by decide), ?_⟩
    rw [wearLevelMove_moves hawake hlow hspread hhour, levelNoted]
  case scrubbed =>
    exact fun s n => ⟨fun hserving hlive hnew => ⟨scrubDue n s, rfl, fr (keeps_vlt _) (by decide), vaultScrub_due hserving hlive hnew⟩,
      fun h => vaultScrub_ignored h⟩
  case compacted =>
    exact fun s n l hawake => ⟨fun hfull herase hbusy => ⟨compactNoted n s, rfl, fr (keeps_vlt _) (by decide),
      twinCompaction_collects l hawake hfull herase hbusy⟩, fun h => twinCompaction_leaves hawake l h⟩
  case collects =>
    exact fun s n l => ⟨_, rfl, fr (beforeVault_keeps (m := 0x102800) (by decide)
      (rebuildsFailed_keeps n l (by decide) (Keeps.refl _ s))) (by decide), rfl⟩
  case empty => exact fun s n skip h => ⟨noneRelocated n s, rfl, rfl, fr (keeps_vlt _) (by decide), collect_nothing h⟩
  case erased =>
    refine fun s n => ⟨fun h => eraseStart_waits h, fun hlive hbusy herase hdump hboot => ?_⟩
    obtain ⟨herasing, hkeeps⟩ := compactReported_effect n s
    rw [eraseStart_starts hlive hbusy herase hdump hboot]
    exact ⟨congrArg (· ++ [n]) herasing, fr ((keeps_vlt _).step (m := 0x100800) (by decide) hkeeps) (by decide)⟩
  case spread => exact fun s => ⟨fun h => eraseSpread_someFresh h, fun h a b ha hb => sub_le_eraseSpread h ha hb⟩
  case relocated =>
    exact fun s g p hpage hidle hspace buf u htake hbuf hplain => relocatePage_plain hpage hidle hspace htake hbuf hplain

end Sys2Proof.Machine
end

section
/-!
PROOFS. The Peat stream (R172, R245 to R253, R347): epochs, the examination of a ring, the walk of a SEQUENTIAL region, the closing of
rows, and what the end of a service program does to its granule and to the map.
-/

namespace Sys2Proof.Machine

/-! ### Epochs (R245) -/

/-- The next epoch, in 16 bits. -/
def epochNext (s : State) : State := { s with gst := { s.gst with epoch := (s.gst.epoch + 1) % 65536 } }

theorem epochNext_keeps (s : State) : Keeps 0x40 s (epochNext s) :=
  (Keeps.refl _ s).direct (fun p hp => by cases p <;> simp_all [Part.bit, Part.same, epochNext])

theorem exec_epochTick {s : State} (bad : List Nat) (hserving : serving s = true) :
    exec (.epochTick bad) s = .next (bad.foldl (fun t g => touchRewrite g t) (epochNext s)) :=
  congrArg Host.Outcome.next (if_neg (by simp [hserving]))

theorem epochTick_ignored {s : State} (bad : List Nat) (hserving : serving s = false) : exec (.epochTick bad) s = .next s :=
  congrArg Host.Outcome.next (if_pos (by simp [hserving]))

/-- The granules whose epochs stand in one word of the touch array with granule `g`'s. -/
def touchWord (s : State) (g : Nat) : List Nat :=
  ((List.range 4).map (fun k => granuleAt s (quadOf s g) (4 * (localOf s g / 4) + k))).filter (fun x => decide (x < hdmGranules s))

theorem touchRewrite_touch (g : Nat) (s : State) :
    (touchRewrite g s).gst.touch = (touchWord s g).foldl (fun t x => tput 0 t x s.gst.epoch) s.gst.touch := by
  simp only [touchRewrite, raise_gst, touchWord]

/-- A word of the touch array rewritten: each of its four granules bears the current epoch. -/
theorem tget_touchRewrite {s : State} {g k x : Nat} (hk : k < 4) (hx : x = granuleAt s (quadOf s g) (4 * (localOf s g / 4) + k))
    (hvisible : x < hdmGranules s) : tget 0 (touchRewrite g s).gst.touch x = s.gst.epoch := by
  have hlisted : x ∈ touchWord s g :=
    List.mem_filter.2 ⟨List.mem_map.2 ⟨k, List.mem_range.2 hk, hx.symm⟩, by simpa using hvisible⟩
  have hread := tget_foldl_tput 0 Function.injective_id (fun _ => s.gst.epoch) x (touchWord s g) s.gst.touch
  rw [touchRewrite_touch]
  exact hread.trans (if_pos hlisted)

/-! ### A ring's head (R247, R249, R250) -/

theorem ringOf_setRing {q : Nat} (hq : q < 4) (l : List Nat) (s : State) : ringOf (setRing q l s) q = l := by
  match q, hq with
  | 0, _ => rfl
  | 1, _ => rfl
  | 2, _ => rfl
  | 3, _ => rfl

theorem rebuildRing_raised (q : Nat) (s : State) :
    (rebuildRing q s).raised = s.raised ++ [⟨0x050C, quadUnit q 2, [(1, q), (1, 1)]⟩] := by
  have hring (l : List Nat) : (setRing q l s).raised = s.raised :=
    (setRing_keeps (m := 0x2000) q l (by decide) (Keeps.refl _ s)).raisedEq (by decide)
  rw [rebuildRing, raise_raised, hring]

theorem setRing_eq (q : Nat) (l : List Nat) (s : State) : ∃ d, setRing q l s = { s with shd := d } := by
  unfold setRing
  split_ifs
  all_goals exact ⟨_, rfl⟩

theorem ringExamine_ignored {s : State} {q : Nat} (err : Bool) (bad : List Nat) (h : serving s = false ∨ s.spn.quadEn.testBit q = false ∨
    (streamRuns s = false ∧ engReady s q = false)) : exec (.ringExamine q err bad) s = .next s :=
  congrArg Host.Outcome.next (if_pos (by simpa using h))

section Examine

variable {s : State} {q g : Nat}

theorem examine_clean (bad : List Nat) (hclean : isDirty s g = false) : examine q g bad s = ringDrop q g s := if_pos (by simp [hclean])

theorem examine_unsettled (bad : List Nat) (hdirty : isDirty s g = true) (hsettled : settled s g = false) :
    examine q g bad s = ringTail q g s := by
  rw [examine, if_neg (by simp [hdirty]), if_pos (by simp [hsettled])]

theorem examine_waits (bad : List Nat) (hdirty : isDirty s g = true) (hsettled : settled s g = true)
    (h : readyNow s g = false ∨ streamRuns s = false) : examine q g bad s = s := by
  rw [examine, if_neg (by simp [hdirty]), if_neg (by simp [hsettled]), if_pos (by simpa using h)]

theorem settled_of_readyNow (h : readyNow s g = true) : settled s g = true := (Bool.and_eq_true_iff.1 h).1

theorem isDirty_of_settled (h : settled s g = true) : isDirty s g = true := by
  have hstate : gstate s g = .dirty ∨ gstate s g = .redirty := by
    simp only [settled, Bool.and_eq_true, Bool.or_eq_true, decide_eq_true_eq] at h
    obtain ⟨⟨hstate, _⟩, _⟩ := h
    exact hstate
  rcases hstate with h | h <;> rw [isDirty, h] <;> rfl

theorem examine_captures (bad : List Nat) (hready : readyNow s g = true) (hruns : streamRuns s = true) (hmem : memReady s q = true)
    (heng : engReady s q = true) : examine q g bad s = captureReady g bad s := by
  have hsettled := settled_of_readyNow hready
  rw [examine, if_neg (by simp [isDirty_of_settled hsettled]), if_neg (by simp [hsettled]), if_neg (by simp [hready, hruns]),
    if_neg (by simp [hmem, heng])]

/-- A granule none of whose lines is planted is read for its capture without effect. -/
theorem captureRead_clean (h : ∀ e ∈ (qdcOf s (quadOf s g)).planted, granuleOf e.1 ≠ g) : captureRead g [] s = s := by
  have hnone : ((qdcOf s (quadOf s g)).planted.map Prod.fst).filter (fun l => granuleOf l = g) = [] := by
    rw [List.filter_eq_nil_iff]
    intro l hl
    obtain ⟨e, he, rfl⟩ := List.mem_map.1 hl
    simpa using h e he
  unfold captureRead
  rw [hnone]
  rfl

end Examine

/-- What an allocation of staging answers does not depend on the stream. -/
theorem stageTake_fst_shd (q : Nat) (d : Shd) (s : State) : (stageTake q { s with shd := d }).1 = (stageTake q s).1 := by
  have hfind (r : AllocReq) (k : Nat) : findBuffer { s with shd := d } r k = findBuffer s r k := rfl
  have hheld (k : Nat) : shadowHeld { s with shd := d } k = shadowHeld s k := rfl
  unfold stageTake
  simp only [hfind, hheld]
  split
  · rfl
  · split
    · rfl
    · split <;> rfl

theorem setGState_rsv (g : Nat) (st : GState) (s : State) : (setGState g st s).gst.rsv = s.gst.rsv := by
  rw [setGState, setWord_gst]
  split <;> rfl

/-- A granule of a PLAIN region captured: INFLIGHT, every other state word and every reservation as before. -/
theorem capture_plain {s : State} {g r : Nat} (hbuf : (stageTake (quadOf s g) s).1.isSome = true) (hregion : regionOf s g = some r)
    (hplain : encrypted s r = false) (hg : g < hdmGranules s) : gstate (capture g s) g = .inflight ∧
    (capture g s).gst.rsv = s.gst.rsv ∧ ∀ x, x ≠ g → gword (capture g s) x = gword s x := by
  obtain ⟨⟨buf, u⟩, htake⟩ : ∃ p, stageTake (quadOf s g) s = p := ⟨_, rfl⟩
  have hkeeps : Keeps 0x740000 s (stageTake (quadOf s g) s).2 := stageTake_keeps _ (by decide) (Keeps.refl _ s)
  rw [htake] at hbuf hkeeps
  have hplain : encrypted u r = false := by rw [encrypted, region_of_wrp (hkeeps.wrpEq (by decide)), ← hplain, encrypted]
  have hvisible : g < hdmGranules u := by rwa [hdmGranules_of_spn (hkeeps.spnEq (by decide) (by decide))]
  have hgst : u.gst = s.gst := hkeeps.gstEq (by decide) (by decide)
  have hcaptured : (capture g s).gst = (setGState g .inflight u).gst := by
    rw [capture, hregion]
    dsimp only
    rw [stagePage_plain htake hbuf hplain]
    exact (plantStaging_keeps (m := 0x582800) _ (by decide) (placePage_keeps _ _ _ (by decide) (Keeps.refl _ _))).gstEq
      (by decide) (by decide)
  have hword (x : Nat) : gword (capture g s) x = if x = g then ⟨.inflight, (gword u g).stale⟩ else gword s x := by
    rw [gword_of_states (congrArg Gst.states hcaptured), gword_setGState hvisible, gword_of_states (congrArg Gst.states hgst) x]
  exact ⟨by rw [gstate, hword, if_pos rfl], by rw [hcaptured, setGState_rsv, hgst], fun x hx => by rw [hword, if_neg hx]⟩

theorem captureReady_plain {s : State} {g r : Nat} (hcan : canCapture s g = true) (hbuf : (stageTake (quadOf s g) s).1.isSome = true)
    (hregion : regionOf s g = some r) (hplain : encrypted s r = false) (hg : g < hdmGranules s)
    (hplanted : ∀ e ∈ (qdcOf s (quadOf s g)).planted, granuleOf e.1 ≠ g) : gstate (captureReady g [] s) g = .inflight ∧
    (captureReady g [] s).gst.rsv = s.gst.rsv ∧ ∀ x, x ≠ g → gword (captureReady g [] s) x = gword s x := by
  obtain ⟨d, hdropped⟩ := setRing_eq (quadOf s g) ((ringOf s (quadOf s g)).filter (· ≠ g)) s
  have heffect := capture_plain (s := { s with shd := d }) (g := g) (r := r) (by rw [stageTake_fst_shd]; exact hbuf) hregion hplain hg
  have hcaptured : captureReady g [] s = capture g { s with shd := d } := by
    unfold captureReady
    dsimp only
    rw [captureRead_clean hplanted, if_neg (by simp [hcan]), ringDrop, hdropped, if_pos heffect.1]
  rw [hcaptured]
  exact heffect

/-! ### The walk (R248) -/

theorem sequentialWalk_ignored {s : State} {r : Nat} (h : streamRuns s = false ∨ 256 ≤ r ∨ (region s r).entry.sequential = false ∨
    defined s r = false ∨ serves s r = false) : exec (.sequentialWalk r) s = .next s :=
  congrArg Host.Outcome.next (if_pos (by simpa using h))

/-! ### Rows that close (R253) -/

/-- The data columns of a row go by the spine, the channels and the segment table. -/
theorem dataCols_of_keeps {s t : State} (h : Keeps 0x102000 s t) (n p : Nat) : dataCols t n p = dataCols s n p := by
  have hspn := h.spnEq (by decide) (by decide)
  have hvch := h.vchEq (by decide)
  have hvlt := h.vltEq (by decide)
  unfold dataCols presentCols colPresent colChannel stripe nQuads quadList dieOk populated vchOf segOf
  rw [hspn, hvch, hvlt]

theorem closeRow_closed (r : Row) (s : State) : (closeRow r s).1.closed = true := by
  unfold closeRow
  split
  next h => exact h
  next => rfl

theorem closeRow_of_keeps {s t : State} (h : Keeps 0x102000 s t) (r : Row) : (closeRow r t).1 = (closeRow r s).1 := by
  unfold closeRow
  split
  next => rfl
  next => simp only [dataCols_of_keeps h]

/-- One row of the run that closes the rows meeting a test: the rows passed and the state so far. -/
def closeNext (p : Row → Bool) (a : List Row × State) (r : Row) : List Row × State :=
  if p r then (a.1 ++ [(closeRow r a.2).1], (closeRow r a.2).2) else (a.1 ++ [r], a.2)

theorem foldl_closeNext_rows (p : Row → Bool) {s t : State} (h : Keeps 0x102000 s t) (l a : List Row) :
    (l.foldl (closeNext p) (a, t)).1 = a ++ l.map (fun r => if p r then (closeRow r s).1 else r) := by
  induction l generalizing a t with
  | nil => exact (List.append_nil a).symm
  | cons r l ih =>
    rw [List.foldl_cons, List.map_cons, closeNext]
    split
    next => rw [ih (closeRow_keeps r (by decide) h), closeRow_of_keeps h, List.append_assoc, List.singleton_append]
    next => rw [ih h, List.append_assoc, List.singleton_append]

/-- The rows after those that meet a test have closed. -/
theorem closeRows_rows (p : Row → Bool) (s : State) :
    (closeRows p s).shd.rows = s.shd.rows.map (fun r => if p r then (closeRow r s).1 else r) :=
  foldl_closeNext_rows p (Keeps.refl _ s) s.shd.rows []

theorem rowCloseTimeout_inDump {s : State} (die : Nat) (hdump : s.spn.mode = .dump) : exec (.rowCloseTimeout die) s = .next s :=
  congrArg Host.Outcome.next (if_pos hdump)

theorem exec_rowCloseTimeout {s : State} (die : Nat) (hdump : s.spn.mode ≠ .dump) :
    exec (.rowCloseTimeout die) s = .next (closeRows (fun r => !r.closed && r.die == die) s) :=
  congrArg Host.Outcome.next (if_neg hdump)

/-- The open rows of a die position close, and no other. -/
theorem closeDie_effect (die : Nat) (s : State) : ∃ t, closeRows (fun r => !r.closed && r.die == die) s = t ∧
    t.shd.rows.length = s.shd.rows.length ∧ (∀ r ∈ t.shd.rows, r.die = die → r.closed = true) ∧
    (∀ r ∈ s.shd.rows, r.die ≠ die → r ∈ t.shd.rows) ∧ OnlyIn [.shd, .raised] s t := by
  have hrows := closeRows_rows (fun r => !r.closed && r.die == die) s
  refine ⟨_, rfl, by rw [hrows, List.length_map], fun r hr hdie => ?_, fun r hr hdie => ?_,
    fr (closeRows_keeps (m := 0x102000) _ (by decide) (Keeps.refl _ s)) (by decide)⟩
  · rw [hrows] at hr
    obtain ⟨x, _, rfl⟩ := List.mem_map.1 hr
    by_cases hopen : (!x.closed && x.die == die) = true
    · rw [if_pos hopen]
      exact closeRow_closed x s
    · rw [if_neg hopen] at hdie ⊢
      simpa [hdie] using hopen
  · rw [hrows]
    exact List.mem_map.2 ⟨r, hr, if_neg (by simp [hdie])⟩

/-! ### The end of a program: its row and the map (R172, R251, R347) -/

theorem shareFreed_self (s : State) : shareFreed s s = [] := by
  have hnone : s.gst.rsv.filter (fun g => !s.gst.rsv.contains g) = [] := by
    rw [List.filter_eq_nil_iff]
    intro g hg
    simpa using hg
  rw [shareFreed, hnone]
  rfl

/-- A program that no row, twin or checkpoint names ends without effect of its own. -/
theorem programEnd_unknown {s : State} {vpa : Nat} (ok mark : Bool) (htwin : s.shd.twins.find? (fun t => t.left.contains vpa) = none)
    (hrow : s.shd.rows.find? (fun r => r.seg = vpaSeg vpa && r.row = vpaRow s vpa) = none) (hckpt : s.vlt.ckptRunning = none) :
    programEnd vpa ok mark s = s := by
  unfold programEnd
  simp only [htwin, hrow]
  exact if_neg (by simp [hckpt])

theorem programEnd_row {s : State} {vpa : Nat} {r : Row} (ok : Bool) (htwin : s.shd.twins.find? (fun t => t.left.contains vpa) = none)
    (hrow : s.shd.rows.find? (fun r => r.seg = vpaSeg vpa && r.row = vpaRow s vpa) = some r) :
    programEnd vpa ok true s = rowProgramEnd r vpa ok (if ok then countProgram vpa s else programFailure vpa s) := by
  unfold programEnd
  simp only [htwin, hrow, if_true]

theorem vchOf_modVch_column {f : Vch → Vch} (hf : ∀ v, (f v).column = v.column) (c d : Nat) (s : State) :
    (vchOf (modVch c f s) d).column = (vchOf s d).column := by
  simp only [vchOf, modVch, List.getD_eq_getElem?_getD, List.getElem?_modify]
  cases s.vch[d]? with
  | none => rfl
  | some v =>
    by_cases hc : c = d
    · simp [hc, hf]
    · simp [hc]

theorem vchOf_countProgram_column (vpa d : Nat) (s : State) : (vchOf (countProgram vpa s) d).column = (vchOf s d).column :=
  vchOf_modVch_column (f := fun c => { c with progPages := wrapAdd 64 c.progPages 1, missRun := c.missRun.set (vpaDie vpa) 0 })
    (fun _ => rfl) _ d s

theorem vchOf_programFailure_column (vpa d : Nat) (s : State) : (vchOf (programFailure vpa s) d).column = (vchOf s d).column :=
  vchOf_modVch_column (f := fun c => { c with progFail := satAdd 16 c.progFail 1, missRun := c.missRun.set (vpaDie vpa) 0 })
    (fun _ => rfl) _ d s

theorem programFailure_map (vpa : Nat) (s : State) : (programFailure vpa s).vlt.map = s.vlt.map := rfl

/-- A column's program noted as ended, its staging buffer given back. -/
def columnEnded (r : Row) (c : Col) (ok : Bool) (s : State) : State := stageGive c.buf
  (putRow r { r with cols := r.cols.map (fun x => if x = c then { c with passed := some ok } else x) } s)

theorem columnEnded_keeps (r : Row) (c : Col) (ok : Bool) (s : State) : Keeps 0x42000 s (columnEnded r c ok s) :=
  stageGive_keeps _ (by decide) (putRow_keeps _ _ (by decide) (Keeps.refl _ s))

/-- A data column's program ends after the row's parity page has passed. -/
theorem rowProgramEnd_column {s : State} {r : Row} {c : Col} {vpa : Nat} (ok : Bool) (hparity : r.parityPassed = some true)
    (hcol : r.cols.find? (fun c => c.col = (vchOf s (vpaCh vpa)).column && c.passed.isNone) = some c) :
    rowProgramEnd r vpa ok s = endRows (if ok then colPassed c.what vpa (rowWidth s r.seg r.parity) (columnEnded r c ok s)
      else colFailed c.what (columnEnded r c ok s)) := by
  unfold rowProgramEnd
  dsimp only
  rw [if_neg (by simp [hparity]), hcol]
  cases ok <;> simp [hparity, columnEnded]

theorem putOther_map (v : Nat) (bytes : List Nat) (s : State) : (putOther v bytes s).vlt.map = s.vlt.map := rfl

theorem putParity_map (v seq width draw : Nat) (dump : Bool) (sum : List Nat) (s : State) :
    (putParity v seq width draw dump sum s).vlt.map = s.vlt.map := rfl

theorem rowParity_map (r : Row) (s : State) : (rowParity r s).vlt.map = s.vlt.map := by
  have hpages := foldl_keeps_value (φ := fun t => t.vlt.map) (f := fun (t : State) (c : Col) =>
      let v := rowPage t r.seg r.row (colChannel t c.col)
      if t.vlt.pages.any (fun e => e.1 = v) then t else putOther v (colBytes s r c) t)
    (fun t c => by dsimp only; split <;> rfl) (r.cols.filter (fun c => c.passed = some true)) s
  unfold rowParity
  dsimp only
  split
  · rw [putParity_map]
    exact hpages
  · exact hpages

theorem endRows_map (s : State) : (endRows s).vlt.map = s.vlt.map :=
  foldl_keeps_value (φ := fun t => t.vlt.map) (fun t r => rowParity_map r t) _ s

theorem endRows_gst (s : State) : (endRows s).gst = s.gst :=
  (endRows_keeps (m := 0x2800) (by decide) (Keeps.refl _ s)).gstEq (by decide) (by decide)

theorem mapOf_of_map {s t : State} (h : t.vlt.map = s.vlt.map) (g : Nat) : mapOf t g = mapOf s g := by rw [mapOf, h, mapOf]

theorem mapOf_recordCopy (g r vpa width : Nat) (twin : Bool) (x : Sealed) (s : State) :
    mapOf (recordCopy g r vpa width twin x s) g = ⟨if twin then 2 else 1, vpa, x.stale, !x.poison.isEmpty, false⟩ := by
  rw [recordCopy, mapOf, setMap, tget_tput, if_pos rfl]

/-! ### The end of a program: its granule (R172, R175, R251) -/

theorem gstate_of_gst {s t : State} (h : t.gst = s.gst) (g : Nat) : gstate t g = gstate s g := by
  rw [gstate, gword_of_states (congrArg Gst.states h), gstate]

/-- A write of the pair's unit alone. -/
theorem keeps_kor {s : State} (x : Kor) : Keeps 0x8000 s { s with kor := x } :=
  (Keeps.refl _ s).direct (fun p hp => by cases p <;> simp_all [Part.bit, Part.same])

theorem dropRsv_rsv (g : Nat) (s : State) : (dropRsv g s).gst.rsv = sdel s.gst.rsv g := by
  rw [dropRsv, refreshLeases_refreshConditions_gst]

/-- A granule's program noted as passed, its priority of R177 over. -/
def passNoted (g : Nat) (s : State) : State := { s with
  shd := { s.shd with shadowed := s.shd.shadowed + 16384, recentShadowed := s.shd.recentShadowed + 16384 }
  gst := { s.gst with rebuilt := sdel s.gst.rebuilt g } }

theorem gstate_passNoted (g x : Nat) (s : State) : gstate (passNoted g s) x = gstate s x := rfl

theorem rsv_passNoted (g : Nat) (s : State) : (passNoted g s).gst.rsv = s.gst.rsv := rfl

theorem lineComing_passNoted (g x : Nat) (s : State) : lineComing (passNoted g s) x = lineComing s x := rfl

theorem hdmGranules_passNoted (g : Nat) (s : State) : hdmGranules (passNoted g s) = hdmGranules s := hdmGranules_of_spn rfl

/-- What the end of its program makes of an INFLIGHT granule. -/
theorem granulePassed_inflight {s : State} {g : Nat} (r mseq : Nat) (hinflight : gstate s g = .inflight) : granulePassed g r mseq s =
    if lineComing s g then joinRing g (setGState g .redirty (passNoted g s))
    else sendNotice r (.shadowNotice g mseq) (refreshShadowPtr r (dropRsv g (setGState g .shadowed (passNoted g s)))) := by
  show (if (decide (gstate (passNoted g s) g = .inflight) && lineComing (passNoted g s) g) = true then _
    else if gstate (passNoted g s) g = .inflight then _ else _) = _
  simp only [gstate_passNoted, lineComing_passNoted, hinflight, decide_true, Bool.true_and, if_true]
  rfl

/-- A granule that joins its ring in a new state keeps its reservation. -/
theorem joined_effect {s : State} {g : Nat} (hg : g < hdmGranules s) (st : GState) : gstate (joinRing g (setGState g st s)) g = st ∧
    (joinRing g (setGState g st s)).gst.rsv = s.gst.rsv := by
  have hgst : (joinRing g (setGState g st s)).gst = (setGState g st s).gst :=
    (joinRing_keeps (m := 0x2000) g (by decide) (Keeps.refl _ _)).gstEq (by decide) (by decide)
  exact ⟨by rw [gstate_of_gst hgst, gstate, gword_setGState hg, if_pos rfl], by rw [hgst, setGState_rsv]⟩

section Granule

variable {s : State} {g : Nat} (hinflight : gstate s g = .inflight) (hg : g < hdmGranules s)
include hinflight hg

/-- With no line still to come, an INFLIGHT granule is SHADOWED and gives up its reservation. -/
theorem granulePassed_shadows (r mseq : Nat) (hline : lineComing s g = false) : gstate (granulePassed g r mseq s) g = .shadowed ∧
    (granulePassed g r mseq s).gst.rsv = sdel s.gst.rsv g := by
  have hgst : (granulePassed g r mseq s).gst = (dropRsv g (setGState g .shadowed (passNoted g s))).gst := by
    rw [granulePassed_inflight r mseq hinflight, hline, if_neg Bool.false_ne_true]
    exact (sendNotice_keeps (m := 0x208020) r _ (by decide) (refreshShadowPtr_keeps r (by decide) (Keeps.refl _ _))).gstEq
      (by decide) (by decide)
  have hvisible : g < hdmGranules (passNoted g s) := by rwa [hdmGranules_passNoted]
  constructor
  · rw [gstate, gword_of_states ((congrArg Gst.states hgst).trans (dropRsv_states g _)), gword_setGState hvisible, if_pos rfl]
  · rw [hgst, dropRsv_rsv, setGState_rsv, rsv_passNoted]

/-- A granule with a line still to come is REDIRTY. -/
theorem granulePassed_redirties (r mseq : Nat) (hline : lineComing s g = true) : gstate (granulePassed g r mseq s) g = .redirty ∧
    (granulePassed g r mseq s).gst.rsv = s.gst.rsv := by
  rw [granulePassed_inflight r mseq hinflight, hline, if_pos rfl]
  exact joined_effect (s := passNoted g s) (by rwa [hdmGranules_passNoted]) .redirty

theorem granuleFailed_dirties : gstate (granuleFailed g s) g = .dirty ∧ (granuleFailed g s).gst.rsv = s.gst.rsv := by
  rw [granuleFailed, if_pos hinflight]
  exact joined_effect hg .dirty

end Granule

/-- The copy of a granule named by the map, its encryption over and any ownership copy of it made. -/
def copyNamed (g r vpa width : Nat) (x : Sealed) (s : State) : State :=
  let s1 := recordCopy g r vpa width false x (cipEndOp .encrypt g s)
  if s.kor.ownCopies.contains g then { s1 with kor := { s1.kor with ownCopies := s1.kor.ownCopies.filter (· ≠ g) } } else s1

theorem colPassed_granule (g r m vpa width : Nat) (x : Sealed) (s : State) :
    colPassed (.granule g r m x) vpa width s = granulePassed g r m (copyNamed g r vpa width x s) := rfl

theorem copyNamed_keeps (g r vpa width : Nat) (x : Sealed) (s : State) : Keeps 0x12a800 s (copyNamed g r vpa width x s) := by
  have hrecord : Keeps 0x12a800 s (recordCopy g r vpa width false x (cipEndOp .encrypt g s)) :=
    recordCopy_keeps g r vpa width false x (by decide) (cipEndOp_keeps _ _ (by decide) (Keeps.refl _ s))
  unfold copyNamed
  dsimp only
  split
  · exact (keeps_kor _).step (by decide) hrecord
  · exact hrecord

theorem mapOf_copyNamed (g r vpa width : Nat) (x : Sealed) (s : State) :
    mapOf (copyNamed g r vpa width x s) g = ⟨1, vpa, x.stale, !x.poison.isEmpty, false⟩ := by
  have hrecord := mapOf_recordCopy g r vpa width false x (cipEndOp .encrypt g s)
  unfold copyNamed
  dsimp only
  split
  · exact hrecord
  · exact hrecord

theorem lineComing_of_hlk {s t : State} (h : t.hlk = s.hlk) (g : Nat) : lineComing t g = lineComing s g := by rw [lineComing, h, lineComing]

section Column

variable {s : State} {vpa g m reg : Nat} {x : Sealed} {r : Row} {c : Col}
  (htwin : s.shd.twins.find? (fun t => t.left.contains vpa) = none)
  (hrow : s.shd.rows.find? (fun r => r.seg = vpaSeg vpa && r.row = vpaRow s vpa) = some r) (hparity : r.parityPassed = some true)
  (hcol : r.cols.find? (fun c => c.col = (vchOf s (vpaCh vpa)).column && c.passed.isNone) = some c)
  (hwhat : c.what = .granule g reg m x)
include htwin hrow hparity hcol hwhat

/-- A data column's page passes: the rows end from a state that names the copy and leaves the granule tables, the spine and the writes. -/
theorem programEnd_column_passed : ∃ t, programEnd vpa true true s = endRows (granulePassed g reg m t) ∧
    mapOf t g = ⟨1, vpa, x.stale, !x.poison.isEmpty, false⟩ ∧ t.gst = s.gst ∧ t.spn = s.spn ∧ t.hlk = s.hlk := by
  have hkeeps (width : Nat) : Keeps 0x16b800 s (copyNamed g reg vpa width x (columnEnded r c true (countProgram vpa s))) :=
    (copyNamed_keeps g reg vpa width x _).step (by decide) ((columnEnded_keeps r c true _).step (by decide)
      (countProgram_keeps vpa (by decide) (Keeps.refl _ s)))
  refine ⟨copyNamed g reg vpa (rowWidth (countProgram vpa s) r.seg r.parity) x (columnEnded r c true (countProgram vpa s)), ?_,
    mapOf_copyNamed _ _ _ _ _ _, (hkeeps _).gstEq (by decide) (by decide), (hkeeps _).spnEq (by decide) (by decide),
    (hkeeps _).hlkEq (by decide)⟩
  rw [programEnd_row true htwin hrow, if_pos rfl,
    rowProgramEnd_column true hparity (by rw [vchOf_countProgram_column]; exact hcol), if_pos rfl, hwhat, colPassed_granule]

/-- A data column's page fails: the rows end from a state that leaves the map, the granule tables and the spine. -/
theorem programEnd_column_failed : ∃ t, programEnd vpa false true s = endRows (granuleFailed g t) ∧
    t.vlt.map = s.vlt.map ∧ t.gst = s.gst ∧ t.spn = s.spn := by
  have hend : Keeps 0x162000 (programFailure vpa s) (cipEndOp .encrypt g (columnEnded r c false (programFailure vpa s))) :=
    cipEndOp_keeps _ _ (by decide) ((columnEnded_keeps r c false _).mono (by decide))
  have hkeeps : Keeps 0x163800 s (cipEndOp .encrypt g (columnEnded r c false (programFailure vpa s))) :=
    hend.step (by decide) (programFailure_keeps vpa (by decide) (Keeps.refl _ s))
  refine ⟨_, ?_, (congrArg Vlt.map (hend.vltEq (by decide))).trans (programFailure_map vpa s), hkeeps.gstEq (by decide) (by decide),
    hkeeps.spnEq (by decide) (by decide)⟩
  rw [programEnd_row false htwin hrow, if_neg Bool.false_ne_true,
    rowProgramEnd_column false hparity (by rw [vchOf_programFailure_column]; exact hcol), if_neg Bool.false_ne_true, hwhat, colFailed]

variable (hinflight : gstate s g = .inflight) (hg : g < hdmGranules s)
include hinflight hg

/-- A data column passed: the map names its page, and its granule is SHADOWED, or REDIRTY with a line still to come. -/
theorem programEnd_column_passed_effect : mapOf (programEnd vpa true true s) g = ⟨1, vpa, x.stale, !x.poison.isEmpty, false⟩ ∧
    (lineComing s g = false → gstate (programEnd vpa true true s) g = .shadowed ∧
      (programEnd vpa true true s).gst.rsv = sdel s.gst.rsv g) ∧
    (lineComing s g = true → gstate (programEnd vpa true true s) g = .redirty ∧ (programEnd vpa true true s).gst.rsv = s.gst.rsv) := by
  obtain ⟨t, hend, hmap, hgst, hspn, hhlk⟩ := programEnd_column_passed htwin hrow hparity hcol hwhat
  have hstate : gstate t g = .inflight := by rwa [gstate_of_gst hgst]
  have hvisible : g < hdmGranules t := by rwa [hdmGranules_of_spn hspn]
  have hpassed : (granulePassed g reg m t).vlt = t.vlt :=
    (granulePassed_keeps (m := 0x38a060) g reg m (by decide) (Keeps.refl _ t)).vltEq (by decide)
  rw [hend, mapOf_of_map ((endRows_map _).trans (congrArg Vlt.map hpassed)), gstate_of_gst (endRows_gst _), endRows_gst, ← hgst,
    ← lineComing_of_hlk hhlk]
  exact ⟨hmap, granulePassed_shadows hstate hvisible reg m, granulePassed_redirties hstate hvisible reg m⟩

/-- A data column failed: the granule is DIRTY again with its reservation, and the map stays. -/
theorem programEnd_column_failed_effect : gstate (programEnd vpa false true s) g = .dirty ∧
    (programEnd vpa false true s).gst.rsv = s.gst.rsv ∧ (programEnd vpa false true s).vlt.map = s.vlt.map := by
  obtain ⟨t, hend, hmap, hgst, hspn⟩ := programEnd_column_failed htwin hrow hparity hcol hwhat
  have hfailed : (granuleFailed g t).vlt = t.vlt :=
    (granuleFailed_keeps (m := 0x182040) g (by decide) (Keeps.refl _ t)).vltEq (by decide)
  obtain ⟨hdirty, hrsv⟩ := granuleFailed_dirties (s := t) (by rwa [gstate_of_gst hgst]) (by rwa [hdmGranules_of_spn hspn])
  rw [hend, gstate_of_gst (endRows_gst _), endRows_gst, endRows_map, hfailed]
  exact ⟨hdirty, hrsv.trans (congrArg Gst.rsv hgst), hmap⟩

end Column

/-! ### The statement -/

/-- Settles O34: a clause for each command of the stream and for each end of a service program (R172, R245, R247 to R251, R253, R347;
log 57, 63, 131, 138). -/
theorem peatStream : Obligations.PeatStream := by
  refine ⟨?epoch, ?ignored, ?head, ?empty, ?walk, ?close, ?unknown, ?column⟩
  case epoch =>
    refine fun s => ⟨fun hserving => exec_epochTick [] hserving, fun bad hserving => epochTick_ignored bad hserving, fun g hserving => ?_⟩
    exact ⟨touchRewrite g (epochNext s), exec_epochTick [g] hserving, rfl, rfl,
      fr (touchRewrite_keeps (m := 0x100040) g (by decide) ((epochNext_keeps s).mono (by decide))) (by decide),
      fun k x hk hx hvisible => tget_touchRewrite (s := epochNext s) hk hx hvisible⟩
  case ignored => exact fun s q err bad h => ringExamine_ignored err bad h
  case head =>
    intro s q g l bad hserving hquad hq hready hfirst hring
    have hexec (bad : List Nat) : exec (.ringExamine q false bad) s = .next (streamFollow s (examine q g bad s)) :=
      ringExamine_examines (err := false) bad hserving hquad hready (by simp [hfirst, hring])
    have hrest : (ringOf s q).filter (· ≠ g) = l.filter (· ≠ g) := by simp [hring]
    refine ⟨fun hclean => ⟨ringDrop q g s, ?_, ?_, fr (setRing_keeps (m := 0x2000) q _ (by decide) (Keeps.refl _ s)) (by decide)⟩,
      fun hdirty hsettled => ⟨ringTail q g s, ?_, ?_, fr (setRing_keeps (m := 0x2000) q _ (by decide) (Keeps.refl _ s)) (by decide)⟩,
      fun hdirty hsettled h => ?_, fun r hnow hruns hmem heng hcan hbuf _ hregion hplain hg hplanted => ?_⟩
    · rw [hexec, examine_clean bad hclean]
    · rw [ringDrop, ringOf_setRing hq, hrest]
    · rw [hexec, examine_unsettled bad hdirty hsettled]
    · rw [ringTail, ringOf_setRing hq, hrest]
    · rw [hexec, examine_waits bad hdirty hsettled h]
    · exact ⟨captureReady g [] s, by rw [hexec, examine_captures [] hnow hruns hmem heng],
        captureReady_plain hcan hbuf hregion hplain hg hplanted⟩
  case empty =>
    intro s q bad hserving hquad hq hready
    have hacts : ¬ ((!serving s) = true ∨ (!(s.spn.quadEn.testBit q)) = true ∨ (!streamRuns s) = true ∧ (!engReady s q) = true) := by
      rcases hready with h | h <;> simp [hserving, hquad, h]
    refine ⟨fun hfirst hring => ?_, rebuildRing q s, rfl, rebuildRing_raised q s, ringOf_setRing hq _ s,
      fr (raise_keeps (m := 0x102000) _ _ _ (by decide) (setRing_keeps q _ (by decide) (Keeps.refl _ s))) (by decide),
      congrArg Host.Outcome.next (if_neg hacts)⟩
    refine congrArg Host.Outcome.next ((if_neg hacts).trans ?_)
    simp only [Bool.false_eq_true, if_false, hfirst, hring, List.head?_nil]
  case walk =>
    refine fun s r => ⟨fun h => sequentialWalk_ignored h, fun hruns hr hseq hdef hserves => ?_⟩
    exact ⟨_, _, _, rfl, fr (refreshShadowPtr_keeps (m := 0x20) r (by decide) (Keeps.refl _ s)) (by decide), rfl, rfl,
      congrArg Host.Outcome.next (if_neg (by simp [hruns, hr, hseq, hdef, hserves]))⟩
  case close =>
    refine fun s die => ⟨fun hdump => rowCloseTimeout_inDump die hdump, fun hdump => ?_⟩
    obtain ⟨t, hclosed, heffect⟩ := closeDie_effect die s
    exact ⟨t, (exec_rowCloseTimeout die hdump).trans (congrArg _ hclosed), heffect⟩
  case unknown =>
    intro s vpa ok htwin hrow hckpt hdump
    rw [programComplete_ends (.inl hdump), programEnd_unknown ok true htwin hrow hckpt, shareFreed_self]
  case column =>
    rintro s vpa g m reg _ x r c hdump htwin hrow hparity rfl hcol hwhat hinflight hg
    obtain ⟨hmap, hlast, hmore⟩ := programEnd_column_passed_effect htwin hrow hparity hcol hwhat hinflight hg
    refine ⟨fun hwrites => ?_, fun hline => ⟨_, _, programComplete_ends (.inl hdump), (hmore hline).1, (hmore hline).2, hmap⟩,
      _, _, programComplete_ends (.inl hdump), programEnd_column_failed_effect htwin hrow hparity hcol hwhat hinflight hg⟩
    have hline : lineComing s g = false := by
      rw [lineComing, List.any_eq_false]
      intro w hw
      simp [hwrites w hw]
    exact ⟨_, _, programComplete_ends (.inl hdump), (hlast hline).1, (hlast hline).2, hmap⟩

end Sys2Proof.Machine
end

section
/-!
PROOFS. The commands of a dump (R275, R279, R281, R282, R284 to R286, R289, R291, R292): the quadrants' progress and the dump's other
registers apart, what each command leaves of them, the energy gates, and what the end of a dump notes.
-/

namespace Sys2Proof.Machine

/-! ### A quadrant's progress (R281) -/

theorem dumpQuad_of_dmp {s t : State} (h : t.dmp = s.dmp) (q : Nat) : dumpQuad t q = dumpQuad s q := by
  unfold dumpQuad
  rw [h]

theorem dumpQuad_modDumpQuad_same (q : Nat) (f : DumpQuad → DumpQuad) (s : State) : dumpQuad (modDumpQuad q f s) q = f (dumpQuad s q) := by
  unfold dumpQuad modDumpQuad
  split_ifs <;> rfl

theorem dumpQuad_modDumpQuad_other {p q : Nat} (hp : p < 4) (hq : q < 4) (hne : p ≠ q) (f : DumpQuad → DumpQuad) (s : State) :
    dumpQuad (modDumpQuad q f s) p = dumpQuad s p := by
  interval_cases q <;> interval_cases p <;> simp [dumpQuad, modDumpQuad] at hne ⊢

/-- A change of each quadrant of a list changes just those. -/
theorem dumpQuad_foldl_modDumpQuad (f : Nat → DumpQuad → DumpQuad) {p : Nat} (hp : p < 4) {l : List Nat} (hnodup : l.Nodup)
    (hlt : ∀ q ∈ l, q < 4) (s : State) :
    dumpQuad (l.foldl (fun t q => modDumpQuad q (f q) t) s) p = if p ∈ l then f p (dumpQuad s p) else dumpQuad s p := by
  induction l generalizing s with
  | nil => rfl
  | cons q l ih =>
    obtain ⟨hq, hnodup⟩ := List.nodup_cons.1 hnodup
    obtain ⟨hq4, hlt⟩ := List.forall_mem_cons.1 hlt
    rw [List.foldl_cons, ih hnodup hlt]
    by_cases hpq : p = q
    · subst hpq
      rw [if_neg hq, if_pos List.mem_cons_self, dumpQuad_modDumpQuad_same]
    · rw [dumpQuad_modDumpQuad_other hp hq4 hpq]
      simp [hpq]

theorem quadList_nodup (s : State) : (quadList s).Nodup := List.nodup_range.filter _

theorem lt_four_of_mem_quadList {s : State} {q : Nat} (h : q ∈ quadList s) : q < 4 := List.mem_range.1 (List.mem_of_mem_filter h)

/-- The dump's registers but for the progress of its quadrants. -/
def dumpHead (d : Dmp) : Dmp := { d with q0 := {}, q1 := {}, q2 := {}, q3 := {} }

theorem dumpHead_modDumpQuad (q : Nat) (f : DumpQuad → DumpQuad) (s : State) : dumpHead (modDumpQuad q f s).dmp = dumpHead s.dmp := by
  unfold modDumpQuad
  split_ifs <;> rfl

/-- A register that is no progress of a quadrant is the same where the heads are. -/
theorem eq_of_dumpHead {β : Type} {f : Dmp → β} (hf : ∀ d, f (dumpHead d) = f d) {a b : Dmp} (h : dumpHead a = dumpHead b) : f a = f b := by
  rw [← hf a, h, hf]

theorem dumpHead_foldl_modDumpQuad (f : Nat → DumpQuad → DumpQuad) (l : List Nat) (s : State) :
    dumpHead (l.foldl (fun t q => modDumpQuad q (f q) t) s).dmp = dumpHead s.dmp :=
  foldl_keeps_value (φ := fun t => dumpHead t.dmp) (fun t q => dumpHead_modDumpQuad q (f q) t) l s

theorem foldl_modDumpQuad_keeps (f : Nat → DumpQuad → DumpQuad) (l : List Nat) (s : State) :
    Keeps 0x4000 s (l.foldl (fun t q => modDumpQuad q (f q) t) s) :=
  .foldl (fun u q => modDumpQuad_keeps q (f q) (by decide) (.refl _ u)) (.refl _ s)

/-! ### TEST_DUMP (R44, R275) -/

/-- A commanded dump lacks nothing just where the three conditions of R275 hold. -/
theorem dumpUnmet_eq_zero_iff (s : State) :
    dumpUnmet s = 0 ↔ s.nrg.input = .good ∧ s.nrg.storePresent = true ∧ s.wrp.b ≠ 0 ∧ s.wrp.overB = false := by
  unfold dumpUnmet
  split_ifs <;> simp_all

theorem testDump_inDump {s : State} (hdump : s.spn.mode = .dump) :
    exec .testDump s = .next { s with raised := s.raised ++ [⟨0x1006, 0x00, []⟩] } := congrArg Host.Outcome.next (if_pos hdump)

theorem testDump_ignored {s : State} (hdump : s.spn.mode ≠ .dump) (htest : s.spn.mode ≠ .test) : exec .testDump s = .next s :=
  congrArg Host.Outcome.next ((if_neg hdump).trans (if_pos htest))

section Test

variable {s : State} (htest : s.spn.mode = .test)
include htest

theorem testDump_refused (hunmet : dumpUnmet s ≠ 0) :
    exec .testDump s = .next { s with raised := s.raised ++ [⟨0x060B, 0x0E, [(1, dumpUnmet s)]⟩] } :=
  congrArg Host.Outcome.next ((if_neg (by simp [htest])).trans ((if_neg (by simp [htest])).trans (if_pos hunmet)))

theorem testDump_commits (hmet : dumpUnmet s = 0) : exec .testDump s = .next (commitDump 6 0 s) :=
  congrArg Host.Outcome.next ((if_neg (by simp [htest])).trans ((if_neg (by simp [htest])).trans (if_neg (by simp [hmet]))))

end Test

/-! ### COAST_END (R139, R160, R279) -/

theorem storeLine_states (line : Nat) (data : BitVec 512) (mask : Nat) (s : State) :
    (storeLine line data mask s).gst.states = s.gst.states :=
  foldl_keeps_value (φ := fun t => t.gst.states)
    (f := fun t b => setByte (line * 64 + b) (BitVec.ofNat 8 (data.toNat >>> (8 * b))) t) (fun _ _ => rfl) _ s

theorem coastLine_states (w : WriteRec) (s : State) : (coastLine w s).gst.states = s.gst.states := by
  unfold coastLine
  split <;> exact storeLine_states _ _ _ s

theorem coastLine_writes (w : WriteRec) (s : State) :
    (coastLine w s).hlk.writes = s.hlk.writes.map (fun x => if x.tag = w.tag then { x with inDram := true } else x) := by
  have hstore : (storeLine w.line w.data w.mask s).hlk = s.hlk :=
    (storeLine_keeps (m := 0x1000040) _ _ _ (by decide) (.refl _ s)).hlkEq (by decide)
  unfold coastLine
  split <;> exact congrArg (fun h : Hlk => h.writes.map _) hstore

/-- After a run of coasting writes a record is in DRAM, or it was there before and is of none of them. -/
theorem mem_writes_foldl_coastLine {x : WriteRec} {l : List WriteRec} {s : State}
    (hx : x ∈ (l.foldl (fun t w => coastLine w t) s).hlk.writes) :
    x.inDram = true ∨ x ∈ s.hlk.writes ∧ ∀ w ∈ l, x.tag ≠ w.tag := by
  induction l generalizing s with
  | nil => exact .inr ⟨hx, by simp⟩
  | cons w l ih =>
    rcases ih hx with h | ⟨hmem, hl⟩
    · exact .inl h
    · rw [coastLine_writes] at hmem
      obtain ⟨y, hy, rfl⟩ := List.mem_map.1 hmem
      by_cases htag : y.tag = w.tag
      · exact .inl (by rw [if_pos htag])
      · rw [if_neg htag] at hl ⊢
        exact .inr ⟨hy, List.forall_mem_cons.2 ⟨htag, hl⟩⟩

/-- A write that reaches DRAM as the coast ends: no merge awaits it. -/
def coasting (s : State) (w : WriteRec) : Bool := !w.inDram && !w.released && !(s.dmp.merges.contains (granuleOf w.line))

/-- Every coasting write is in DRAM. -/
def coastLanded (s : State) : State := (s.hlk.writes.filter (coasting s)).foldl (fun t w => coastLine w t) s

/-- The times of the coast are noted. -/
def coastTimed (s : State) : State :=
  useFree { useFree s with wrp := { s.wrp with closeNs := elapsedNow 16 s, coastNs := elapsedNow 16 (useFree s) } }

/-- The end of the coast is reported. -/
def coastNoted (s : State) : State :=
  raise 0x0304 0x02 [(2, elapsedNow 16 (coastLanded s)), (1, (coastLanded s).wrp.coasted), (1, (coastLanded s).wrp.truncated)]
    (coastTimed (coastLanded s))

/-- Each quadrant has its list. -/
def listsBuilt (s : State) : State :=
  (quadList s).foldl (fun t q => modDumpQuad q (fun d => { d with phase := 2, list := dirtyList s q }) t) s

/-- The dump lists. -/
def listing (s : State) : State :=
  { s with dmp := { s.dmp with phase := 2, priorLost := dumpSum s priorLost } }

theorem exec_coastEnd {s : State} (hdump : s.spn.mode = .dump) (hphase : s.dmp.phase = 1) :
    exec .coastEnd s = .next (listing (listsBuilt (coastNoted s))) :=
  congrArg Host.Outcome.next (if_neg (by simp [hdump, hphase]))

theorem coastEnd_ignored {s : State} (h : s.spn.mode ≠ .dump ∨ s.dmp.phase ≠ 1) : exec .coastEnd s = .next s :=
  congrArg Host.Outcome.next (if_pos h)

theorem coastLanded_keeps (s : State) : Keeps 0x1000050 s (coastLanded s) :=
  .foldl (fun u w => coastLine_keeps w (by decide) (.refl _ u)) (.refl _ s)

theorem coastLanded_states (s : State) : (coastLanded s).gst.states = s.gst.states :=
  foldl_keeps_value (φ := fun t => t.gst.states) (fun t w => coastLine_states w t) _ s

/-- A write that is still out of DRAM was released or awaits a merge. -/
theorem coastLanded_settled {s : State} {w : WriteRec} (hw : w ∈ (coastLanded s).hlk.writes) :
    w.inDram = true ∨ w.released = true ∨ w.line / 256 ∈ s.dmp.merges := by
  rcases mem_writes_foldl_coastLine hw with h | ⟨hmem, hnone⟩
  · exact .inl h
  · have hcoast : coasting s w = false := by
      rw [← Bool.not_eq_true]
      exact fun hcoast => hnone w (List.mem_filter.2 ⟨hmem, hcoast⟩) rfl
    cases hdram : w.inDram <;> cases hreleased : w.released <;> simp_all [coasting, granuleOf]

/-- The times touch the ratio unit and the free values alone. -/
theorem coastTimed_keeps (s : State) : Keeps 0x400020 s (coastTimed s) :=
  (Keeps.refl _ s).direct (fun p hp => by cases p <;> simp_all [Part.bit, Part.same, coastTimed, useFree])

theorem coastNoted_keeps (s : State) : Keeps 0x1500070 s (coastNoted s) :=
  raise_keeps _ _ _ (by decide) ((coastTimed_keeps _).step (by decide) ((coastLanded_keeps s).mono (by decide)))

/-- The regions, the granule states, the merges, the enabled quadrants and the side make a dirty list. -/
theorem dirtyList_congr {s t : State} (hspn : t.spn = s.spn) (hregions : t.wrp.regions = s.wrp.regions) (hkor : t.kor = s.kor)
    (hmerges : t.dmp.merges = s.dmp.merges) (hstates : t.gst.states = s.gst.states) (q : Nat) : dirtyList t q = dirtyList s q := by
  have hregion (r : Nat) : region t r = region s r := by rw [region, hregions, region]
  have hregionOf (g : Nat) : regionOf t g = regionOf s g := by
    refine congrArg (List.find? · (List.range 256)) (funext fun r => ?_)
    rw [inRegion, firstGranule, granuleCount, hregion, inRegion, firstGranule, granuleCount]
  have hserves (r : Nat) : serves t r = serves s r := by rw [serves, hregion, hkor, serves]
  have hentry : listEntry t = listEntry s := by
    funext e
    unfold listEntry
    rw [hregionOf, hmerges]
    cases regionOf s e.1 with
    | none => rfl
    | some r =>
      dsimp only
      rw [hserves, hregion]
  have hquad (g : Nat) : quadOf t g = quadOf s g := by simp only [quadOf, nQuads, quadList, hspn]
  simp only [dirtyList, hentry, hquad, hstates]

theorem coastNoted_dirtyList (s : State) (q : Nat) : dirtyList (coastNoted s) q = dirtyList s q := by
  have hkeeps := coastNoted_keeps s
  have hwrp : (coastLanded s).wrp = s.wrp := (coastLanded_keeps s).wrpEq (by decide)
  have hregions : (coastNoted s).wrp.regions = s.wrp.regions := by
    show (coastLanded s).wrp.regions = _
    rw [hwrp]
  exact dirtyList_congr (hkeeps.spnEq (by decide) (by decide)) hregions (hkeeps.korEq (by decide))
    (congrArg Dmp.merges (hkeeps.dmpEq (by decide))) (coastLanded_states s) q

theorem coastNoted_raised (s : State) : (coastNoted s).raised = s.raised ++
    [⟨0x0304, 0x02, [(2, elapsedNow 16 (coastLanded s)), (1, s.wrp.coasted), (1, s.wrp.truncated)]⟩] := by
  have hwrp : (coastLanded s).wrp = s.wrp := (coastLanded_keeps s).wrpEq (by decide)
  have hraised : (coastTimed (coastLanded s)).raised = s.raised := (coastLanded_keeps s).raisedEq (by decide)
  rw [coastNoted, raise_raised, hwrp, hraised]

theorem listsBuilt_keeps (s : State) : Keeps 0x4000 s (listsBuilt s) := foldl_modDumpQuad_keeps _ _ s

theorem listing_keeps (s : State) : Keeps 0x4000 s (listing s) := keeps_dmp _

theorem dumpQuad_listsBuilt {s : State} {q : Nat} (hq : q ∈ quadList s) :
    dumpQuad (listsBuilt s) q = { dumpQuad s q with phase := 2, list := dirtyList s q } := by
  rw [listsBuilt, dumpQuad_foldl_modDumpQuad (fun q d => { d with phase := 2, list := dirtyList s q }) (lt_four_of_mem_quadList hq)
    (quadList_nodup s) fun _ => lt_four_of_mem_quadList, if_pos hq]

theorem coastEnd_effect {s : State} (hdump : s.spn.mode = .dump) (hphase : s.dmp.phase = 1) :
    ∃ t c, exec .coastEnd s = .next t ∧ t.dmp.phase = 2 ∧ t.wrp.closeNs = c ∧
      t.raised = s.raised ++ [⟨0x0304, 0x02, [(2, c), (1, s.wrp.coasted), (1, s.wrp.truncated)]⟩] ∧ t.gst.states = s.gst.states ∧
      (∀ q ∈ quadList s, dumpQuad t q = { dumpQuad s q with phase := 2, list := dirtyList s q }) ∧
      (∀ w ∈ t.hlk.writes, w.inDram = true ∨ w.released = true ∨ w.line / 256 ∈ s.dmp.merges) ∧
      OnlyIn [.gst, .dram, .hlk, .wrp, .dmp, .raised, .free] s t := by
  have hnoted := coastNoted_keeps s
  have hlists : Keeps 0x4000 (coastNoted s) (listing (listsBuilt (coastNoted s))) := (listsBuilt_keeps _).trans (listing_keeps _)
  have hquads : quadList (coastNoted s) = quadList s := by rw [quadList, hnoted.spnEq (by decide) (by decide), quadList]
  refine ⟨listing (listsBuilt (coastNoted s)), elapsedNow 16 (coastLanded s), exec_coastEnd hdump hphase, rfl, ?_, ?_, ?_, fun q hq => ?_,
    fun w hw => ?_, fr (hlists.step (by decide) (hnoted.mono (n := 0x1504070) (by decide))) (by decide)⟩
  · exact congrArg Wrp.closeNs (hlists.wrpEq (by decide))
  · rw [hlists.raisedEq (by decide), coastNoted_raised]
  · exact (congrArg Gst.states (hlists.gstEq (by decide) (by decide))).trans (coastLanded_states s)
  · show dumpQuad (listsBuilt (coastNoted s)) q = _
    rw [dumpQuad_listsBuilt (hquads ▸ hq), coastNoted_dirtyList, dumpQuad_of_dmp (hnoted.dmpEq (by decide))]
  · rw [hlists.hlkEq (by decide)] at hw
    exact coastLanded_settled hw

/-! ### DIRTY_LIST_READY (R279, R281, R284) -/

/-- What quadrant `q` has to write once its list stands: the log's tail on the first quadrant, the header, the list, and the listed granules
that are not LOST, which a lost channel loses. -/
def listReady (s : State) (q : Nat) (d : DumpQuad) : DumpQuad :=
  { d with
    queue := (if (quadList s).head? = some q then (List.range (logRuns s.dmp.tail).length).map .tail else [])
      ++ .header :: (List.range (pagesFor d.list.length 2048)).map .list
    left := if d.channelLost then [] else d.list.filter (fun e => e.state ≠ .lost)
    lost := if d.channelLost then (d.list.filter (fun e => e.state ≠ .lost)).map ListEntry.granule else d.lost }

/-- The gates are fixed and the quadrant has its pages. -/
def quadReady (q : Nat) (s : State) : State := modDumpQuad q (listReady s q) (fixGates s)

theorem dirtyListReady_ignored {s : State} {q : Nat} (h : s.spn.mode ≠ .dump ∨ q ∉ quadList s ∨ (dumpQuad s q).phase ≠ 2 ∨
    (dumpQuad s q).queue ≠ [] ∨ (dumpQuad s q).running ≠ [] ∨ (dumpQuad s q).placed ≠ []) : exec (.dirtyListReady q) s = .next s :=
  congrArg Host.Outcome.next (if_pos (by simpa using h))

section Ready

variable {s : State} {q : Nat}

theorem dumpQuad_quadReady : dumpQuad (quadReady q s) q = listReady s q (dumpQuad s q) := by
  rw [quadReady, dumpQuad_modDumpQuad_same]
  rfl

theorem quadReady_keeps : Keeps 0x4000 s (quadReady q s) := modDumpQuad_keeps _ _ (by decide) (fixGates_keeps (by decide) (.refl _ s))

theorem quadReady_gates : (quadReady q s).dmp.eWave = diesInService s * (eGibOf s * 1000) / 65536 ∧
    (quadReady q s).dmp.eTail = (deltaPages s + 4 * nQuads s + diesInService s) * (eGibOf s * 1000) / 65536 :=
  Prod.mk.inj (eq_of_dumpHead (f := fun d => (d.eWave, d.eTail)) (fun _ => rfl) (dumpHead_modDumpQuad q _ (fixGates s)))

theorem exec_dirtyListReady (hdump : s.spn.mode = .dump) (hq : q ∈ quadList s) (hphase : (dumpQuad s q).phase = 2)
    (hqueue : (dumpQuad s q).queue = []) (hrunning : (dumpQuad s q).running = []) (hplaced : (dumpQuad s q).placed = []) :
    exec (.dirtyListReady q) s = .next (dumpKick (quadReady q s)) := by
  have hgo : ¬ (s.spn.mode ≠ .dump ∨ (!(quadList s).contains q) = true ∨ (dumpQuad s q).phase ≠ 2 ∨ (dumpQuad s q).queue ≠ [] ∨
      (dumpQuad s q).running ≠ [] ∨ (dumpQuad s q).placed ≠ []) := by simp [hdump, hq, hphase, hqueue, hrunning, hplaced]
  exact congrArg Host.Outcome.next (if_neg hgo)

end Ready

/-! ### DUMP_PROGRAM_COMPLETE (R281, R289) -/

theorem dumpProgramComplete_notInDump {s : State} (v : Nat) (ok : Bool) (hdump : s.spn.mode ≠ .dump) :
    exec (.dumpProgramComplete v ok) s = .next s := congrArg Host.Outcome.next (if_pos hdump)

/-- No quadrant runs a program at a page. -/
theorem find_running_eq_none {s : State} {v : Nat} (h : ∀ q ∈ quadList s, ∀ e ∈ (dumpQuad s q).running, e.2 ≠ v) :
    (quadList s).find? (fun q => (dumpQuad s q).running.any (fun e => e.2 = v)) = none :=
  List.find?_eq_none.2 fun q hq => by simpa using fun p hp => h q hq (p, v) hp rfl

theorem dumpProgramComplete_idle {s : State} {v : Nat} (ok : Bool) (hquads : ∀ q ∈ quadList s, ∀ e ∈ (dumpQuad s q).running, e.2 ≠ v)
    (hparity : ∀ e ∈ s.dmp.parity, e.1 ≠ v) : exec (.dumpProgramComplete v ok) s = .next s := by
  have hnone : s.dmp.parity.any (fun e => e.1 = v) = false := by
    rw [List.any_eq_false]
    simpa using fun p l hp => hparity (p, l) hp
  show execDumpProgramComplete v ok s = _
  simp [execDumpProgramComplete, find_running_eq_none hquads, hnone]

theorem dumpProgramComplete_parity {s : State} {v : Nat} (hdump : s.spn.mode = .dump)
    (hquads : ∀ q ∈ quadList s, ∀ e ∈ (dumpQuad s q).running, e.2 ≠ v) (hparity : ∃ e ∈ s.dmp.parity, e.1 = v) :
    exec (.dumpProgramComplete v true) s = .next (dumpKick (countProgram v
      (savePage { s with dmp := { s.dmp with parity := s.dmp.parity.filter (fun e => decide (e.1 ≠ v)) } }))) := by
  have hrunning : s.dmp.parity.any (fun e => e.1 = v) = true := List.any_eq_true.2 (by simpa using hparity)
  show execDumpProgramComplete v true s = _
  simp only [execDumpProgramComplete, find_running_eq_none hquads, hrunning]
  rw [if_neg (by simp [hdump]), if_neg (by simp), if_neg (by simp)]

/-- The program at a page has moved to those that passed. -/
def pageMoved (v : Nat) (d : DumpQuad) : DumpQuad :=
  { d with running := d.running.filter (fun e => e.2 ≠ v), placed := d.placed ++ d.running.filter (fun e => e.2 = v) }

/-- A page that passed is moved and counted; the cipher, the log and the channel follow. -/
theorem dumpPassed_keeps_moved (q v : Nat) (s : State) : Keeps 0x121800 (savePage (modDumpQuad q (pageMoved v) s)) (dumpPassed q v s) := by
  unfold dumpPassed
  refine countProgram_keeps _ (by decide) ?_
  split
  · exact cipEndOp_keeps _ _ (by decide) (.refl _ _)
  · exact tailPassed_keeps _ _ (by decide) (.refl _ _)
  · exact .refl _ _

theorem dumpPassed_dumpQuad (q v : Nat) (s : State) : dumpQuad (dumpPassed q v s) q = pageMoved v (dumpQuad s q) := by
  rw [dumpQuad_of_dmp ((dumpPassed_keeps_moved q v s).dmpEq (by decide))]
  exact dumpQuad_modDumpQuad_same q (pageMoved v) s

theorem dumpPassed_shd (q v : Nat) (s : State) :
    (dumpPassed q v s).shd = { s.shd with written := s.shd.written + 16384, saved := s.shd.saved + 16384 } := by
  have hmoved : (modDumpQuad q (pageMoved v) s).shd = s.shd :=
    (modDumpQuad_keeps (m := 0x4000) q _ (by decide) (.refl _ s)).shdEq (by decide)
  rw [(dumpPassed_keeps_moved q v s).shdEq (by decide), savePage, hmoved]

/-! ### A lost die (R289) -/

/-- A die is marked lost, and its parity programs are gone. -/
def dieLossNoted (c d : Nat) (s : State) : State := { s with
  dmp := { s.dmp with lostDies := s.dmp.lostDies ++ [8 * c + d], dieLoss := true
                      parity := s.dmp.parity.filter (fun e => !(vpaCh e.1 = c && vpaDie e.1 = d)) }
  vlt := { s.vlt with other := s.vlt.other.filter (fun e => !(s.dmp.parity.any (fun x => x.1 = e.1)
    && vpaCh e.1 = c && vpaDie e.1 = d)) } }

/-- The pages on a lost die are queued again in every quadrant, and counted. -/
def pagesRedone (c d : Nat) (s : State) : Nat × State :=
  (quadList s).foldl (fun (a : Nat × State) q => (a.1 + (quadDieLost c d q a.2).1, (quadDieLost c d q a.2).2)) (0, s)

theorem dumpDieLost_known {c d : Nat} {s : State} (h : 8 * c + d ∈ s.dmp.lostDies) : dumpDieLost c d s = s := if_pos (by simpa using h)

theorem dumpDieLost_new {c d : Nat} {s : State} (h : 8 * c + d ∉ s.dmp.lostDies) : dumpDieLost c d s =
    raise 0x0606 0x0E [(4, (pagesRedone c d (dieLossNoted c d s)).1)] (pagesRedone c d (dieLossNoted c d s)).2 := if_neg (by simpa using h)

theorem dieLossNoted_keeps (c d : Nat) (s : State) : Keeps 0x4800 s (dieLossNoted c d s) :=
  (Keeps.refl _ s).direct (fun p hp => by cases p <;> simp_all [Part.bit, Part.same, dieLossNoted])

theorem pagesRedone_keeps (c d : Nat) (s : State) : Keeps 0x4800 s (pagesRedone c d s).2 :=
  .foldlSnd (fun u q => quadDieLost_keeps c d q (by decide) (.refl _ u.2)) (.refl _ s)

theorem dumpHead_quadDieLost (c d q : Nat) (s : State) : dumpHead (quadDieLost c d q s).2.dmp = dumpHead s.dmp := dumpHead_modDumpQuad q _ s

theorem dumpHead_pagesRedone (c d : Nat) (s : State) : dumpHead (pagesRedone c d s).2.dmp = dumpHead s.dmp := by
  unfold pagesRedone
  generalize (0 : Nat) = n
  induction quadList s generalizing n s with
  | nil => rfl
  | cons q l ih => exact (ih _ _).trans (dumpHead_quadDieLost c d q s)

theorem dumpDieLost_effect {c d : Nat} {s : State} (h : 8 * c + d ∉ s.dmp.lostDies) : ∃ t n, dumpDieLost c d s = t ∧
    t.dmp.dieLoss = true ∧ t.dmp.lostDies = s.dmp.lostDies ++ [8 * c + d] ∧ t.raised = s.raised ++ [⟨0x0606, 0x0E, [(4, n)]⟩] ∧
    OnlyIn [.dmp, .vlt, .raised] s t := by
  have hkeeps := (dieLossNoted_keeps c d s).trans (pagesRedone_keeps c d (dieLossNoted c d s))
  have hhead := dumpHead_pagesRedone c d (dieLossNoted c d s)
  refine ⟨_, (pagesRedone c d (dieLossNoted c d s)).1, dumpDieLost_new h, eq_of_dumpHead (f := Dmp.dieLoss) (fun _ => rfl) hhead,
    eq_of_dumpHead (f := Dmp.lostDies) (fun _ => rfl) hhead, ?_,
    fr (raise_keeps (m := 0x104800) _ _ _ (by decide) (hkeeps.mono (by decide))) (by decide)⟩
  rw [raise_raised, hkeeps.raisedEq (by decide)]

/-! ### DUMP_ENERGY_SAMPLE (R240, R284, R290) -/

/-- No final record waits for the flash. -/
def NoFinalRecord (s : State) : Prop := ∀ o ∈ s.ifc.waiting, ∀ r, o.work ≠ .finalSedge r

theorem NoFinalRecord.of_subset {s t : State} (h : NoFinalRecord s) (hsub : t.ifc.waiting ⊆ s.ifc.waiting) : NoFinalRecord t :=
  fun o ho => h o (hsub ho)

/-- An operation outside the flash leaves what waits there. -/
theorem Keeps.waitingEq {m : Nat} {s t : State} (h : Keeps m s t) (hm : m &&& 0x8 = 0) : t.ifc.waiting = s.ifc.waiting := by
  have hifc : Part.same s t .ifc := h.same .ifc hm
  exact (congrArg Ifc.waiting hifc).symm

theorem modBank_waiting (b : Nat) (f : Bank → Bank) (s : State) : (modBank b f s).ifc.waiting = s.ifc.waiting := by
  unfold modBank
  split <;> rfl

theorem journalAppend_waiting (type bank sector aux : Nat) (s : State) :
    (journalAppend type bank sector aux s).ifc.waiting = s.ifc.waiting := by
  unfold journalAppend
  split <;> rfl

/-- A bank that starts takes an operation from those that wait. -/
theorem ifcKick_waiting_subset (b : Nat) (s : State) : (ifcKick b s).ifc.waiting ⊆ s.ifc.waiting := by
  unfold ifcKick
  split
  · exact List.Subset.refl _
  · split
    · exact List.Subset.refl _
    · rw [modBank_waiting]
      split
      · rw [journalAppend_waiting]
        exact List.erase_subset
      · exact List.erase_subset

theorem NoFinalRecord.ifcAsk {s : State} {o : AgentOp} (h : NoFinalRecord s) (ho : ∀ r, o.work ≠ .finalSedge r) :
    NoFinalRecord (ifcAsk o s) := by
  intro x hx
  rcases List.mem_append.1 (ifcKick_waiting_subset _ _ hx) with hx | hx
  · exact h x hx
  · exact List.mem_singleton.1 hx ▸ ho

theorem NoFinalRecord.gaugeIssue {s : State} (h : NoFinalRecord s) : NoFinalRecord (gaugeIssue s) := by
  unfold Machine.gaugeIssue
  split
  · exact h
  · split
    · exact h
    · extract_lets sector
      split
      · exact h.ifcAsk nofun
      · exact h.ifcAsk nofun

theorem NoFinalRecord.gaugeWrite {s : State} (h : NoFinalRecord s) : NoFinalRecord (gaugeWrite s) := by
  unfold Machine.gaugeWrite
  extract_lets r _ _ s1
  have hs1 : NoFinalRecord s1 := h.of_subset (List.filter_subset_self s.ifc.waiting)
  split
  · exact hs1.gaugeIssue
  · exact hs1

/-- What the energy controller may do to a dump that goes on: the quadrants and the terminal voltage stand, and no final record is asked
for. -/
structure Undisturbed (s t : State) : Prop where
  quads : ∀ q, dumpQuad t q = dumpQuad s q
  store : t.nrg.vStore = s.nrg.vStore
  record : NoFinalRecord s → NoFinalRecord t

/-- An update of other fields. -/
theorem Undisturbed.of_eq {s t : State} (hquads : ∀ q, dumpQuad t q = dumpQuad s q := by intro; rfl)
    (hstore : t.nrg.vStore = s.nrg.vStore := by rfl) (hwaiting : t.ifc.waiting = s.ifc.waiting := by rfl) : Undisturbed s t :=
  ⟨hquads, hstore, fun hs => hs.of_subset (by rw [hwaiting]; exact List.Subset.refl _)⟩

theorem Undisturbed.trans {s t u : State} (h : Undisturbed s t) (k : Undisturbed t u) : Undisturbed s u :=
  ⟨fun q => (k.quads q).trans (h.quads q), k.store.trans h.store, fun hs => k.record (h.record hs)⟩

/-- An operation outside the dump and the flash, which leaves the terminal voltage. -/
theorem Undisturbed.of_keeps {m : Nat} {s t : State} (h : Keeps m s t) (hstore : t.nrg.vStore = s.nrg.vStore) (hm : m &&& 0x4008 = 0) :
    Undisturbed s t := by
  have hbit (k : Nat) (hk : 0x4008 &&& k = k) : m &&& k = 0 := by rw [← hk, ← Nat.and_assoc, hm, Nat.zero_and]
  exact .of_eq (dumpQuad_of_dmp (h.dmpEq (hbit 0x4000 (by decide)))) hstore (h.waitingEq (hbit 0x8 (by decide)))

theorem refreshEstimates_undisturbed (s : State) : Undisturbed s (refreshEstimates s) :=
  .of_keeps (refreshEstimates_keeps (m := 0x500080) (by decide) (.refl _ s)) (refreshEstimates_field (f := Nrg.vStore) (fun _ => rfl) s)
    (by decide)

theorem gaugeWrite_undisturbed (s : State) : Undisturbed s (gaugeWrite s) :=
  ⟨dumpQuad_of_dmp ((gaugeWrite_keeps (m := 0x10018c) (by decide) (.refl _ s)).dmpEq (by decide)),
    by rw [gaugeWrite_nrg], NoFinalRecord.gaugeWrite⟩

theorem gaugeAfter_undisturbed (old : Nrg) (s : State) : Undisturbed s (gaugeAfter old s) := by
  obtain ⟨s1, hs1, h⟩ := gaugeAfter_cases old s
  have hfirst : Undisturbed s s1 := by rcases hs1 with rfl | rfl <;> exact .of_eq
  rcases h with h | h | h <;> rw [h]
  · exact hfirst.trans (gaugeWrite_undisturbed s1)
  · let u : State := { s1 with nrg := { s1.nrg with recSec := some s1.evr.opSec } }
    have hu : Undisturbed s1 u := .of_eq
    exact (hfirst.trans hu).trans (gaugeWrite_undisturbed u)
  · exact hfirst

/-- Hold-up that falls or passes on touches HOLDUP_ACT of the dump alone. -/
theorem releaseLearnHoldup_undisturbed (s : State) : Undisturbed s (releaseLearnHoldup s) := by
  by_cases hgood : s.nrg.input = .good
  · rw [releaseLearnHoldup_good hgood]
    let u : State := actFollow { s with nrg := { s.nrg with holdupEn := false, reason := .none, emptyTaken := false } }
    have hu : Undisturbed s u := .of_eq
    exact hu.trans (.of_keeps (refreshCharge_keeps (m := 0x500080) (by decide) (.refl _ u))
      (refreshCharge_field (f := Nrg.vStore) (fun _ => rfl) u) (by decide))
  · rw [releaseLearnHoldup_failed hgood]
    exact .of_eq

theorem holdupLeft_undisturbed (cause : Nat) (s : State) : Undisturbed s (holdupLeft cause s) := by
  have hfailed : Undisturbed s (cycleFailed cause s) := .of_eq
  by_cases hrun : s.nrg.lstate = .running
  · rw [holdupLeft_ran hrun]
    exact hfailed.trans (releaseLearnHoldup_undisturbed _)
  · rw [holdupLeft_waited hrun]
    exact hfailed

theorem learnDisqualify_undisturbed (cause : Nat) (s : State) : Undisturbed s (learnDisqualify cause s) := by
  cases hlearning : learning s
  · rw [learnDisqualify_ignored hlearning]
    exact .of_eq
  · have hnoted : Undisturbed s (failureNoted cause s) :=
      (holdupLeft_undisturbed cause s).trans <| (Undisturbed.of_eq (t := raise 0x040A 0x03 [(1, cause)] _)).trans <|
        (gaugeWrite_undisturbed _).trans .of_eq
    rw [learnDisqualify_learning hlearning]
    exact hnoted.trans (.of_keeps (endLearnCmd_keeps (m := 0x300010) false (by decide) (.refl _ _))
      (congrArg Nrg.vStore (endLearnCmd_nrg false _)) (by decide))

theorem countCharge_undisturbed (dq : Int) (s : State) : Undisturbed s (countCharge dq s) := by
  unfold countCharge
  extract_lets n q n1
  split
  · exact .of_eq
  · split
    · let u : State := raise 0x0407 0x03 [(2, n.vOcv)] { s with nrg := { n1 with countDrift := true } }
      have hu : Undisturbed s u := .of_eq
      exact hu.trans (learnDisqualify_undisturbed 0x0C u)
    · exact .of_eq

theorem emptyAnchor_undisturbed (s : State) : Undisturbed s (emptyAnchor s) :=
  .of_keeps (emptyAnchor_keeps (m := 0x500080) (by decide) (.refl _ s)) (measured_field (f := Nrg.vStore) (fun _ => rfl) (measured_emptyAnchor s))
    (by decide)

theorem windowSum_undisturbed (drawn : Nat) (s : State) : Undisturbed s (windowSum drawn s) := by
  unfold windowSum
  extract_lets n
  split
  · exact .of_eq
  · split <;> exact .of_eq

/-- What follows the readings of a sample disturbs no dump. -/
theorem dumpSampled_undisturbed (m : Sample) (s : State) : Undisturbed (takeSample m s) (dumpSampled m s) :=
  (countCharge_undisturbed m.dQ _).trans <| (refreshEstimates_undisturbed _).trans <| (emptyAnchor_undisturbed _).trans <|
    (gaugeAfter_undisturbed s.nrg _).trans (windowSum_undisturbed _ _)

theorem takeSample_keeps_self (m : Sample) (s : State) : Keeps 0x100080 s (takeSample m s) := takeSample_keeps m (by decide) (.refl _ s)

theorem dumpSampled_keeps (m : Sample) (s : State) : Keeps 0x7041bc s (dumpSampled m s) :=
  windowSum_keeps _ (by decide) (gaugeAfter_keeps _ (by decide) (emptyAnchor_keeps (by decide) (refreshEstimates_keeps (by decide)
    (countCharge_keeps _ (by decide) ((takeSample_keeps_self m s).mono (by decide))))))

theorem NoFinalRecord.dumpSampled {m : Sample} {s : State} (h : NoFinalRecord s) : NoFinalRecord (dumpSampled m s) := by
  have hwaiting : (takeSample m s).ifc.waiting = s.ifc.waiting := (takeSample_keeps_self m s).waitingEq (by decide)
  exact (dumpSampled_undisturbed m s).record (h.of_subset (by rw [hwaiting]; exact List.Subset.refl _))

theorem dumpSampled_vStore (m : Sample) (s : State) : (dumpSampled m s).nrg.vStore = m.vStore := by
  rw [(dumpSampled_undisturbed m s).store, takeSample_nrg]
  rfl

theorem dumpSampled_dumpQuad (m : Sample) (s : State) (q : Nat) : dumpQuad (dumpSampled m s) q = dumpQuad s q := by
  rw [(dumpSampled_undisturbed m s).quads, dumpQuad_of_dmp ((takeSample_keeps_self m s).dmpEq (by decide))]

theorem dumpEnergySample_notInDump {s : State} (m : Sample) (hdump : s.spn.mode ≠ .dump) : exec (.dumpEnergySample m) s = .next s :=
  congrArg Host.Outcome.next (if_pos hdump)

/-! ### DUMP_BOUNCE (R291) -/

theorem dumpBounce_returns {s : State} (hdump : s.spn.mode = .dump) (hphase : s.dmp.phase < 7) (hinput : s.dmp.inputGood = false) :
    exec .dumpBounce s = .next { s with
      dmp := { s.dmp with bounce := true, inputGood := true }, raised := s.raised ++ [⟨0x0608, 0x0E, []⟩] } :=
  congrArg Host.Outcome.next (if_pos ⟨hdump, hphase, by simp [hinput]⟩)

theorem dumpBounce_ignored {s : State} (h : s.spn.mode ≠ .dump ∨ 7 ≤ s.dmp.phase ∨ s.dmp.inputGood = true) :
    exec .dumpBounce s = .next s := by
  refine congrArg Host.Outcome.next (if_neg fun hreturns => ?_)
  obtain ⟨hdump, hphase, hinput⟩ := hreturns
  rcases h with h | h | h
  · exact h hdump
  · exact absurd hphase (Nat.not_lt.2 h)
  · simp [h] at hinput

/-! ### The gates (R282, R285, R286) -/

theorem atFloor_iff (s : State) : atFloor s = true ↔ s.dmp.eNow * 1000 < s.dmp.eWave := decide_eq_true_iff

theorem atTail_iff (s : State) :
    atTail s = true ↔ s.dmp.eNow * 1000 < s.dmp.eTail ∨ s.dmp.testFloor ≠ 0 ∧ s.nrg.vOcv < s.dmp.testFloor := by simp [atTail]

theorem setFloored_first {s : State} (h : s.dmp.floored = false) : ∃ n, setFloored s =
    { s with dmp := { s.dmp with floored := true }, raised := s.raised ++ [⟨0x0605, 0x0E, [(2, n)]⟩] } := ⟨_, if_neg (by simp [h])⟩

/-- A row that closes leaves no row open, and may start a parity program. -/
theorem closeDumpRow_dmp (s : State) : ∃ p, (closeDumpRow s).dmp = { s.dmp with row := none, parity := s.dmp.parity ++ p } := by
  unfold closeDumpRow
  split
  next hrow => exact ⟨[], by rw [List.append_nil, ← hrow]⟩
  next r _ =>
    extract_lets v t
    split
    · exact ⟨[], by rw [List.append_nil]⟩
    · exact ⟨[(v, r.quads)], rfl⟩

theorem closeDumpRow_raised (s : State) : (closeDumpRow s).raised = s.raised :=
  (closeDumpRow_keeps (m := 0x4800) (by decide) (.refl _ s)).raisedEq (by decide)

theorem closeDumpRow_dumpQuad (s : State) (q : Nat) : dumpQuad (closeDumpRow s) q = dumpQuad s q := by
  obtain ⟨p, hdmp⟩ := closeDumpRow_dmp s
  simp only [dumpQuad, hdmp]

/-- `TRUNCATED` is counted in the Dirty Shutdown Count, which may report it. -/
theorem setTruncated_effect (s : State) : ∃ n k l, (setTruncated s).dmp = { s.dmp with truncated := true, dsc := n, dscSeq := k } ∧
    (setTruncated s).raised = s.raised ++ l := by
  unfold setTruncated countShutdown
  split
  · exact ⟨_, _, [], rfl, (List.append_nil _).symm⟩
  · exact ⟨_, _, _, rfl, rfl⟩

/-- No quadrant starts a further data page. -/
def waitingDropped (s : State) : State := (List.range 4).foldl (fun t q => modDumpQuad q dropWaiting t) s

/-- The tail gate is reached, with the number of pages not written. -/
def tailNoted (s : State) : State :=
  raise 0x0604 0x0E [(4, dumpSum s (fun d => (dataWaiting d).length))]
    { waitingDropped s with dmp := { (waitingDropped s).dmp with tailStop := true } }

theorem tailReached_first {s : State} (h : s.dmp.tailStop = false) : tailReached s = closeDumpRow (setTruncated (tailNoted s)) :=
  if_neg (by simp [h])

theorem dumpQuad_waitingDropped {q : Nat} (hq : q < 4) (s : State) : dumpQuad (waitingDropped s) q = dropWaiting (dumpQuad s q) := by
  rw [waitingDropped, dumpQuad_foldl_modDumpQuad (fun _ => dropWaiting) hq List.nodup_range fun _ => List.mem_range.1,
    if_pos (List.mem_range.2 hq)]

theorem not_mem_queue_dropWaiting (g : Nat) (d : DumpQuad) : .data g ∉ (dropWaiting d).queue := by simp [dropWaiting]

theorem tailReached_effect {s : State} (h : s.dmp.tailStop = false) : ∃ n l, (tailReached s).dmp.tailStop = true ∧
    (tailReached s).dmp.truncated = true ∧ (tailReached s).dmp.row = none ∧
    (∀ q, q < 4 → dumpQuad (tailReached s) q = dropWaiting (dumpQuad s q)) ∧
    (tailReached s).raised = s.raised ++ ⟨0x0604, 0x0E, [(4, n)]⟩ :: l := by
  obtain ⟨n, k, l, htruncated, hraised⟩ := setTruncated_effect (tailNoted s)
  obtain ⟨p, hclosed⟩ := closeDumpRow_dmp (setTruncated (tailNoted s))
  have hdropped : (waitingDropped s).raised = s.raised :=
    (foldl_modDumpQuad_keeps (fun _ => dropWaiting) (List.range 4) s).raisedEq (by decide)
  rw [tailReached_first h]
  refine ⟨dumpSum s (fun d => (dataWaiting d).length), l, by rw [hclosed, htruncated]; rfl, by rw [hclosed, htruncated], by rw [hclosed],
    fun q hq => ?_, ?_⟩
  · rw [closeDumpRow_dumpQuad, ← dumpQuad_waitingDropped hq]
    simp only [dumpQuad, htruncated]
    rfl
  · rw [closeDumpRow_raised, hraised, tailNoted, raise_raised]
    show (waitingDropped s).raised ++ _ ++ l = _
    rw [hdropped, List.append_assoc]
    rfl

/-! ### The end (R286, R292) -/

/-- What the floor has left unwritten is lost. -/
def floorDropped (s : State) : State := (quadList s).foldl (fun t q => modDumpQuad q dropWaiting t) s

theorem dumpHead_floorDropped (s : State) : dumpHead (floorDropped s).dmp = dumpHead s.dmp :=
  dumpHead_foldl_modDumpQuad (fun _ => dropWaiting) (quadList s) s

/-- The final record is built without a change of the dump's registers. -/
theorem closeDump_complete (s : State) : (closeDump s).2.dmp.complete = (allWritten (floorDropped s) && !(floorDropped s).dmp.truncated &&
    !(floorDropped s).dmp.floored && !(floorDropped s).dmp.alarm && !(floorDropped s).dmp.media) := by
  unfold closeDump
  extract_lets u d ok s1 e
  exact congrArg Dmp.complete ((buildRecord_keeps (m := 0x4) _ (by decide) (.refl _ s1)).dmpEq (by decide))

theorem closeDump_complete_iff (s : State) : (closeDump s).2.dmp.complete = true ↔ allWritten (floorDropped s) = true ∧
    s.dmp.truncated = false ∧ s.dmp.floored = false ∧ s.dmp.alarm = false ∧ s.dmp.media = false := by
  have hflags := eq_of_dumpHead (f := fun d => (d.truncated, d.floored, d.alarm, d.media)) (fun _ => rfl) (dumpHead_floorDropped s)
  simp only [Prod.mk.injEq] at hflags
  obtain ⟨htruncated, hfloored, halarm, hmedia⟩ := hflags
  rw [closeDump_complete, htruncated, hfloored, halarm, hmedia]
  simp only [Bool.and_eq_true, Bool.not_eq_true', and_assoc]

/-- Seven flags in the bits of a byte. -/
theorem flags_testBit : ∀ a b c d e f g : Bool,
    let n := flag a + 2 * flag b + 4 * flag c + 8 * flag d + 16 * flag e + 32 * flag f + 64 * flag g
    n < 128 ∧ n.testBit 0 = a ∧ n.testBit 1 = b ∧ n.testBit 2 = c ∧ n.testBit 3 = d ∧ n.testBit 4 = e ∧ n.testBit 5 = f ∧
      n.testBit 6 = g := by decide

/-! ### The statement -/

/-- Settles O47: a clause for each command of a dump, and for the gates and the outcome that its pages meet (R44, R160, R240, R275, R279,
R281, R284 to R286, R289, R291, R292; log 78, 79, 80, 143). -/
theorem dumpCommands : Obligations.DumpCommands := by
  refine ⟨?test, dumpUnmet_eq_zero_iff, ?coast, ?list, ?idle, ?page, ?parity, ?die, ?sample, ?bounce, ?gates, ?complete, ?outcome⟩
  case test =>
    refine fun s => ⟨testDump_inDump, testDump_ignored, testDump_refused, fun htest hmet => ?_⟩
    exact ⟨_, testDump_commits htest hmet, rfl, commitDump_mode 6 0 s (by simp [serving, modeIn, htest])⟩
  case coast => exact fun s => ⟨coastEnd_ignored, coastEnd_effect⟩
  case list =>
    refine fun s q => ⟨dirtyListReady_ignored, fun hdump hq hphase hqueue hrunning hplaced => ?_⟩
    obtain ⟨hwave, htail⟩ := quadReady_gates (s := s) (q := q)
    refine ⟨quadReady q s, _, rfl, exec_dirtyListReady hdump hq hphase hqueue hrunning hplaced, ?_, fun hlost => ?_, fun hlost => ?_,
      hwave, htail, fr quadReady_keeps (by decide)⟩
    · rw [dumpQuad_quadReady]
      rfl
    · simp [dumpQuad_quadReady, listReady, hlost]
    · simp [dumpQuad_quadReady, listReady, hlost]
  case idle => exact fun s v ok => ⟨dumpProgramComplete_notInDump v ok, dumpProgramComplete_idle ok⟩
  case page =>
    intro s v q hdump hfind
    have hmoved := dumpPassed_dumpQuad q v s
    refine ⟨dumpProgramComplete_fails hdump hfind, dumpProgramComplete_passes hdump hfind, _, rfl, ?_, ?_, ?_, ?_⟩
    · rw [hmoved]
      rfl
    · rw [hmoved]
      rfl
    · rw [dumpPassed_shd]
    · rw [dumpPassed_shd]
  case parity => exact fun s v hdump hquads hparity => dumpProgramComplete_parity hdump hquads hparity
  case die => exact fun s c d => ⟨dumpDieLost_known, dumpDieLost_effect⟩
  case sample =>
    refine fun s m => ⟨dumpEnergySample_notInDump m, fun hdump hnone => ?_⟩
    exact ⟨_, dumpEnergySample_noRecord hdump (NoFinalRecord.dumpSampled hnone), rfl, dumpSampled_vStore m s, dumpSampled_dumpQuad m s,
      fr ((keeps_dmp _).step (by decide) (dumpSampled_keeps m s)) (by decide)⟩
  case bounce => exact fun s => ⟨dumpBounce_returns, dumpBounce_ignored⟩
  case gates =>
    refine fun s => ⟨atFloor_iff s, atTail_iff s, setFloored_first, fun hstop => ?_⟩
    obtain ⟨n, l, hstopped, htruncated, hrow, hquads, hraised⟩ := tailReached_effect hstop
    refine ⟨n, l, hstopped, htruncated, hrow, fun q hq => ?_, hraised⟩
    rw [hquads q hq]
    exact ⟨rfl, fun g => not_mem_queue_dropWaiting g _, rfl⟩
  case complete =>
    rintro s _ rfl
    exact closeDump_complete_iff s
  case outcome => exact fun d => flags_testBit d.complete d.truncated d.floored d.alarm d.media d.bounce d.dieLoss

end Sys2Proof.Machine
end

section
/-!
PROOFS. The vault's channels and dies (R289, R330, R344), the ends of erases (R263, R347) and the reads of pages (R333, R343, R348): what each
failure reports before what follows from it, and a page's read taken apart into what it counts, what it reports and what it marks.
-/

namespace Sys2Proof.Machine

/-! ### A vault channel changed -/

theorem vchOf_modVch_same {s : State} {c : Nat} (hc : c < s.vch.length) (f : Vch → Vch) : vchOf (modVch c f s) c = f (vchOf s c) := by
  simp only [vchOf, modVch, List.getD_eq_getElem?_getD, List.getElem?_modify, List.getElem?_eq_getElem hc]
  simp

theorem vchOf_modVch_other {c d : Nat} (hd : d ≠ c) (f : Vch → Vch) (s : State) : vchOf (modVch c f s) d = vchOf s d := by
  simp only [vchOf, modVch, List.getD_eq_getElem?_getD, List.getElem?_modify, if_neg (Ne.symm hd), id_map']

theorem vchOf_of_vch {s t : State} (h : t.vch = s.vch) (c : Nat) : vchOf t c = vchOf s c := by rw [vchOf, h, vchOf]

/-! ### What the vault's own writes report (R350 to R353, R357) -/

theorem raised_prefix_flushLog (s : State) : s.raised <+: (flushLog s).raised := by
  unfold flushLog
  split
  · exact List.prefix_rfl
  · extract_lets pages _ t
    rw [(ckptStart_keeps (m := 0x800) (by decide) (Keeps.refl _ _)).raisedEq (by decide)]
    split
    · exact List.prefix_rfl
    · exact raised_prefix_drawTokens _ t

/-- An entry pending with the next sequence. -/
def entryPending (w : LogWhat) (s : State) : State :=
  { s with vlt := { s.vlt with seq := s.vlt.seq + 1, pendLog := s.vlt.pendLog ++ [⟨s.vlt.seq, w⟩] } }

theorem raised_prefix_appendLog (w : LogWhat) (s : State) : s.raised <+: (appendLog w s).raised := by
  have hpending : (entryPending w s).raised <+: (appendLog w s).raised := by
    unfold appendLog
    dsimp only [takeSeq]
    split
    · exact raised_prefix_flushLog (entryPending w s)
    · exact List.prefix_rfl
  exact hpending

/-- The sequence of a power-on's BOOT entry taken up. -/
def bootSequenced (s : State) : State :=
  { s with vlt := { s.vlt with bootEntry := true, seq := max s.vlt.seq (s.vlt.highSeq + 1048576) } }

theorem raised_prefix_beforeVault (s : State) : s.raised <+: (beforeVault s).raised := by
  unfold beforeVault
  split
  · exact List.prefix_rfl
  · extract_lets n _ s1 s2 s3 _
    have h1 : s.raised <+: s1.raised := raised_prefix_appendLog (.boot s.evr.powerCycles) (bootSequenced s)
    have h2 : s1.raised <+: s2.raised := raised_prefix_foldl (φ := id) (fun t g => raised_prefix_appendLog (.lost g) t) _ s1
    have h3 : s2.raised <+: s3.raised := raised_prefix_foldl (φ := id) (fun t g => raised_prefix_appendLog (.release g 1) t) _ s2
    exact ((h1.trans h2).trans h3).trans (List.prefix_append _ _)

theorem manifestPut_raised (m : Manifest) (s : State) : (manifestPut m s).raised = s.raised :=
  (manifestPut_keeps (m := 0x800) m (by decide) (Keeps.refl _ s)).raisedEq (by decide)

theorem raised_prefix_manifestWrite (cause : Nat) (s : State) : s.raised <+: (manifestWrite cause s).raised := by
  unfold manifestWrite
  dsimp only [takeSeq]
  refine List.IsPrefix.trans ?_ (raised_prefix_raise _ _ _ _)
  split
  · rw [manifestPut_raised]
    exact raised_prefix_beforeVault s
  · refine List.IsPrefix.trans ?_ (raised_prefix_drawTokens _ _)
    rw [manifestPut_raised]
    exact raised_prefix_beforeVault s

theorem raised_prefix_setUnitState (u : Nat) (st : UnitState) (s : State) : s.raised <+: (setUnitState u st s).raised := by
  unfold setUnitState changeRole
  extract_lets old new
  split
  · exact List.prefix_rfl
  · exact List.prefix_append _ _

theorem raised_prefix_startRebuild (c : Nat) (d : Option Nat) (s : State) : s.raised <+: (startRebuild c d s).raised := by
  unfold startRebuild
  extract_lets l
  split
  · exact List.prefix_rfl
  · exact List.prefix_append _ _

/-- A FAIL entry and the manifest that names the failure. -/
theorem raised_prefix_failLogged (w : LogWhat) (s : State) : s.raised <+: (manifestWrite 1 (appendLog w (beforeVault s))).raised :=
  ((raised_prefix_beforeVault s).trans (raised_prefix_appendLog w _)).trans (raised_prefix_manifestWrite 1 _)

/-! ### A channel that fails (R344, R289) -/

/-- A channel made FAILED, with event 0x0803, before its role and the rebuild follow. -/
def channelNoted (c : Nat) (s : State) : State :=
  raise 0x0803 (quadUnit (c / 4) (4 + c % 4)) [(1, c)] (modVch c (fun v => { v with state := 3 }) s)

/-- What follows 0x0803 only adds events and leaves the channels alone. -/
theorem channelFailed_follows {s : State} {c : Nat} (h : (vchOf s c).state ≠ 3) :
    (channelNoted c s).raised <+: (channelFailed c s).raised ∧ (channelFailed c s).vch = (channelNoted c s).vch := by
  have hunit := raised_prefix_setUnitState (quadUnit (c / 4) (4 + c % 4)) .failed (channelNoted c s)
  have hrole : Keeps 0x102801 (channelNoted c s) (setUnitState (quadUnit (c / 4) (4 + c % 4)) .failed (channelNoted c s)) :=
    setUnitState_keeps _ _ (by decide) (Keeps.refl _ _)
  unfold channelFailed
  rw [if_neg h, ← channelNoted]
  extract_lets lost s1 s2
  have hlogged : (channelNoted c s).raised <+: s2.raised := hunit.trans (raised_prefix_failLogged _ s1)
  have hkeeps : Keeps 0x102801 (channelNoted c s) s2 :=
    manifestWrite_keeps 1 (by decide) (appendLog_keeps _ (by decide) (beforeVault_keeps (by decide) hrole))
  have hvch : s2.vch = (channelNoted c s).vch := hkeeps.vchEq (by decide)
  clear_value s2
  split
  · exact ⟨hunit, hrole.vchEq (by decide)⟩
  · split
    · exact ⟨hlogged, hvch⟩
    · exact ⟨hlogged.trans (List.prefix_append _ _), hvch⟩

theorem channelFailed_state {s : State} {c : Nat} (hc : c < s.vch.length) (h : (vchOf s c).state ≠ 3) :
    (vchOf (channelFailed c s) c).state = 3 := by
  rw [vchOf_of_vch (channelFailed_follows h).2, channelNoted, vchOf_of_vch (raise_vch _ _ _ _), vchOf_modVch_same hc]

theorem channelFailed_raised {s : State} {c : Nat} (h : (vchOf s c).state ≠ 3) :
    ∃ l, (channelFailed c s).raised = s.raised ++ ⟨0x0803, quadUnit (c / 4) (4 + c % 4), [(1, c)]⟩ :: l := by
  obtain ⟨l, hl⟩ := (channelFailed_follows h).1
  exact ⟨l, by rw [← hl, channelNoted, raise_raised, List.append_assoc]; rfl⟩

theorem raised_prefix_channelFailed (c : Nat) (s : State) : s.raised <+: (channelFailed c s).raised := by
  by_cases h : (vchOf s c).state = 3
  · rw [channelFailed, if_pos h]
  · obtain ⟨l, hl⟩ := channelFailed_raised h
    exact hl ▸ List.prefix_append _ _

theorem vaultTraining_ignored {s : State} {c : Nat} {ok : Bool} (h : (vchOf s c).state ≠ 2 ∨ 16 ≤ c ∨ ok = true) :
    exec (.vaultTraining c ok) s = .next s :=
  congrArg Host.Outcome.next (if_pos h)

/-- The third failed training in service. -/
theorem vaultTraining_failsLast {s : State} {c : Nat} (hc : c < 16) (hactive : (vchOf s c).state = 2) (hfails : 2 ≤ (vchOf s c).trainFails) :
    exec (.vaultTraining c false) s =
      .next (channelDown c (modVch c (fun v => { v with trainFails := (vchOf s c).trainFails + 1 }) s)) :=
  congrArg Host.Outcome.next ((if_neg (by simp [hactive, hc])).trans (if_pos (by omega)))

theorem vaultForceFail_ignored {s : State} {c : Nat} (h : s.spn.mode ≠ .test ∨ 16 ≤ c) : exec (.vaultForceFail c) s = .next s :=
  congrArg Host.Outcome.next (if_pos h)

/-- In TEST the bit is set on a channel that is not ACTIVE as well. -/
theorem vaultForceFail_inactive {s : State} {c : Nat} (htest : s.spn.mode = .test) (hc : c < 16) (hinactive : (vchOf s c).state ≠ 2) :
    exec (.vaultForceFail c) s = .next (modVch c (fun v => { v with forceFail := true }) s) :=
  congrArg Host.Outcome.next ((if_neg (by simp [htest, hc])).trans (if_pos hinactive))

/-! ### A die that misses its time (R344, R289) -/

/-- A miss of die `d` counted, with the misses in succession. -/
def dieMissed (c d : Nat) (s : State) : State := modVch c (fun v => { v with
  timeouts := satAdd 16 v.timeouts 1, missRun := v.missRun.set d ((vchOf s c).missRun.getD d 0 + 1) }) s

theorem dieTimeout_ignored {s : State} {c d : Nat} (h : 16 ≤ c ∨ dieOk s c d = false ∨ populated s c = false ∨ (vaultRec s).diesPerCh ≤ d) :
    exec (.dieTimeout c d) s = .next s :=
  congrArg Host.Outcome.next (if_pos (by simpa using h))

section DieTimeout

variable {s : State} {c d : Nat} (hc : c < 16) (hdie : dieOk s c d = true) (hpop : populated s c = true) (hd : d < (vaultRec s).diesPerCh)
include hc hdie hpop hd

/-- The miss of a die in service. -/
theorem exec_dieTimeout : exec (.dieTimeout c d) s = .next (if s.spn.mode = .dump then dumpKick (dumpDieLost c d (dieMissed c d s))
    else if (vchOf s c).missRun.getD d 0 + 1 < 2 then dieMissed c d s
    else streamFollow s (dieProgramsFail (runningOn (dieMissed c d s) c d) (dieFailed c d 2 (dieMissed c d s)))) :=
  congrArg Host.Outcome.next (if_neg (by simp [hdie, hpop, hc, hd]))

theorem dieTimeout_inDump (hdump : s.spn.mode = .dump) :
    exec (.dieTimeout c d) s = .next (dumpKick (dumpDieLost c d (dieMissed c d s))) := by
  rw [exec_dieTimeout hc hdie hpop hd, if_pos hdump]

theorem dieTimeout_once (hdump : s.spn.mode ≠ .dump) (hfirst : (vchOf s c).missRun.getD d 0 + 1 = 1) :
    exec (.dieTimeout c d) s = .next (dieMissed c d s) := by
  rw [exec_dieTimeout hc hdie hpop hd, if_neg hdump, if_pos (by omega)]

theorem dieTimeout_again (hdump : s.spn.mode ≠ .dump) (hagain : 2 ≤ (vchOf s c).missRun.getD d 0 + 1) : exec (.dieTimeout c d) s =
    .next (streamFollow s (dieProgramsFail (runningOn (dieMissed c d s) c d) (dieFailed c d 2 (dieMissed c d s)))) := by
  rw [exec_dieTimeout hc hdie hpop hd, if_neg hdump, if_neg (by omega)]

end DieTimeout

/-- A die that fails reports 0x0802 before what follows from it. -/
theorem dieFailed_raised {s : State} {c d : Nat} (cause : Nat) (h : (vchOf s c).dieFailed.testBit d = false) :
    ∃ l, (dieFailed c d cause s).raised = s.raised ++ ⟨0x0802, quadUnit (c / 4) (4 + c % 4), [(1, c), (1, d), (1, cause)]⟩ :: l := by
  have hfollows : s.raised ++ [⟨0x0802, quadUnit (c / 4) (4 + c % 4), [(1, c), (1, d), (1, cause)]⟩] <+: (dieFailed c d cause s).raised := by
    unfold dieFailed
    rw [if_neg (by simp [h])]
    extract_lets s1
    change s1.raised <+: _
    split
    · exact raised_prefix_channelFailed c s1
    · split
      · exact List.prefix_rfl
      · exact (raised_prefix_failLogged _ s1).trans (raised_prefix_startRebuild c (some d) _)
  obtain ⟨l, hl⟩ := hfollows
  exact ⟨l, by rw [← hl, List.append_assoc]; rfl⟩

/-- A miss alone fails no die. -/
theorem dieFailed_dieMissed {s : State} {c d : Nat} (hlen : c < s.vch.length) (hdie : dieOk s c d = true) :
    (vchOf (dieMissed c d s) c).dieFailed.testBit d = false := by
  rw [dieMissed, vchOf_modVch_same hlen]
  simp only [dieOk, Bool.and_eq_true, Bool.not_eq_true'] at hdie
  exact hdie.2

/-! ### The end of an erase (R263, R347) -/

theorem markWorn_known {s : State} {v : Nat} (cause : Nat) (h : blockVpa v ∈ s.vlt.worn) : markWorn v cause s = s :=
  if_pos (by simpa using h)

/-- A block not WORN yet is marked, with event 0x0508. -/
theorem markWorn_new {s : State} {v : Nat} (cause : Nat) (h : blockVpa v ∉ s.vlt.worn) : markWorn v cause s =
    raise 0x0508 (quadUnit (vpaCh v / 4) (4 + vpaCh v % 4)) [(1, vpaCh v), (1, vpaDie v), (2, vpaBlock v), (1, cause)]
      { s with vlt := { s.vlt with worn := sins (blockVpa v) s.vlt.worn } } :=
  if_neg (by simpa using h)

theorem mem_worn_markWorn (v cause : Nat) (s : State) : blockVpa v ∈ (markWorn v cause s).vlt.worn := by
  by_cases h : blockVpa v ∈ s.vlt.worn
  · rwa [markWorn_known cause h]
  · rw [markWorn_new cause h]
    exact (mem_sins _ _ _).2 (.inl rfl)

theorem addsEvents_markWorn (v cause : Nat) (s : State) : AddsEvents [0x0508] s (markWorn v cause s) := by
  by_cases h : blockVpa v ∈ s.vlt.worn
  · exact .of_eq (by rw [markWorn_known cause h])
  · rw [markWorn_new cause h]
    exact addsEvents_raise (by decide) _ _ { s with vlt := { s.vlt with worn := sins (blockVpa v) s.vlt.worn } }

/-- A WORN block leaves the lists of segments and the summed loads alone. -/
theorem markWorn_vlt (v cause : Nat) (s : State) : (markWorn v cause s).vlt.relocate = s.vlt.relocate ∧
    (markWorn v cause s).vlt.readLoads = s.vlt.readLoads := by
  by_cases h : blockVpa v ∈ s.vlt.worn
  · rw [markWorn_known cause h]
    exact ⟨rfl, rfl⟩
  · rw [markWorn_new cause h]
    exact ⟨rfl, rfl⟩

theorem vaultEraseComplete_ignored {s : State} {n : Nat} (failed slow : List Nat) (h : n ∉ s.vlt.erasing) :
    exec (.vaultEraseComplete n failed slow) s = .next s :=
  congrArg Host.Outcome.next (if_pos (by simpa using h))

/-- A block whose erase failed is counted, retired at once and reported (R347). -/
def eraseFailed (v : Nat) (s : State) : State := raise 0x0805 (quadUnit (vpaCh v / 4) (4 + vpaCh v % 4)) [(5, v)]
  (retireBlock v (modVch (vpaCh v) (fun c => { c with eraseFail := satAdd 16 c.eraseFail 1 }) s))

section Erase

variable {s : State} {n : Nat} (h : n ∈ s.vlt.erasing)
include h

/-- With no failed block the segment's erase is done, and its slow blocks are WORN. -/
theorem vaultEraseComplete_passes (slow : List Nat) : exec (.vaultEraseComplete n [] slow) s =
    .next (streamFollow s ((slow.filter (fun v => vpaSeg v = n)).foldl (fun t v => markWorn v 1 t) (eraseDone n s))) := by
  refine congrArg Host.Outcome.next ((if_neg (by simpa using h)).trans ?_)
  simp

theorem vaultEraseComplete_done : exec (.vaultEraseComplete n [] []) s = .next (streamFollow s (eraseDone n s)) := by
  rw [vaultEraseComplete_passes h, List.filter_nil, List.foldl_nil]

theorem vaultEraseComplete_slow {v : Nat} (hv : vpaSeg v = n) :
    exec (.vaultEraseComplete n [] [v]) s = .next (streamFollow s (markWorn v 1 (eraseDone n s))) := by
  rw [vaultEraseComplete_passes h, List.filter_singleton, decide_eq_true hv, cond_true, List.foldl_cons, List.foldl_nil]

/-- With a failed block of the segment the erase goes on. -/
theorem vaultEraseComplete_fails {v : Nat} (hv : vpaSeg v = n) :
    exec (.vaultEraseComplete n [v] []) s = .next (streamFollow s (eraseFailed (blockVpa v) s)) := by
  refine congrArg Host.Outcome.next ((if_neg (by simpa using h)).trans ?_)
  simp [hv, eraseFailed]

end Erase

/-! ### A block's mean load (R263) -/

/-- The summed load of a block's reads and their number, with one more read of load `k`. -/
def loadWith (v k : Nat) (s : State) : Nat × Nat :=
  ((tget (0, 0) s.vlt.readLoads (blockVpa v)).1 + k, (tget (0, 0) s.vlt.readLoads (blockVpa v)).2 + 1)

/-- The summed load of a block's reads written. -/
def loadPut (v : Nat) (e : Nat × Nat) (s : State) : State :=
  { s with vlt := { s.vlt with readLoads := tput (0, 0) s.vlt.readLoads (blockVpa v) e } }

theorem blockRead_counts (v k : Nat) (s : State) : blockRead v (some k) false s = loadPut v (loadWith v k s) s := rfl

theorem blockRead_ends (v k : Nat) (s : State) : blockRead v (some k) true s =
    if 6000 * (loadWith v k s).2 ≤ (loadWith v k s).1 then markWorn v 0 (loadPut v (0, 0) s) else loadPut v (0, 0) s := by
  have hsome : (0 < (loadWith v k s).2 ∧ 6000 * (loadWith v k s).2 ≤ (loadWith v k s).1) ↔
      6000 * (loadWith v k s).2 ≤ (loadWith v k s).1 := and_iff_right (Nat.succ_pos _)
  exact if_congr hsome rfl rfl

/-- What a read of load `k` does to its block's sum, and to the events: 0x0508 at most. -/
theorem blockRead_effect (v k : Nat) (last : Bool) (s : State) : AddsEvents [0x0508] s (blockRead v (some k) last s) ∧
    (blockRead v (some k) last s).vlt.relocate = s.vlt.relocate ∧
    (blockRead v (some k) last s).vlt.readLoads =
      tput (0, 0) s.vlt.readLoads (blockVpa v) (if last then (0, 0) else loadWith v k s) ∧
    (last = true → 6000 * (loadWith v k s).2 ≤ (loadWith v k s).1 → blockVpa v ∈ (blockRead v (some k) last s).vlt.worn) := by
  cases last with
  | false =>
    rw [blockRead_counts]
    exact ⟨.of_eq rfl, rfl, rfl, fun h => absurd h Bool.false_ne_true⟩
  | true =>
    rw [blockRead_ends]
    split
    next =>
      obtain ⟨hrelocate, hloads⟩ := markWorn_vlt v 0 (loadPut v (0, 0) s)
      exact ⟨addsEvents_markWorn v 0 (loadPut v (0, 0) s), hrelocate, hloads, fun _ _ => mem_worn_markWorn v 0 _⟩
    next hlow => exact ⟨.of_eq rfl, rfl, rfl, fun _ hhigh => absurd hhigh hlow⟩

/-! ### The read of a page (R332, R333, R343, R348) -/

/-- What the read of a page counts on its channel. -/
def readCounted (words : List Nat) (load : Nat) (hard rebuilt : Bool) (x : Vch) : Vch := { x with
  readPages := wrapAdd 64 x.readPages 1
  corrected := satAdd 32 x.corrected (words.foldl (· + ·) 0)
  maxLoad := max x.maxLoad (min load 65535)
  hardFails := if hard then satAdd 16 x.hardFails 1 else x.hardFails
  rebuilds := if rebuilt then satAdd 16 x.rebuilds 1 else x.rebuilds }

/-- A page that was not decoded is reported: rebuilt, from a die lost or not, or lost. -/
def undecodedReported (v : Nat) (decoded again dieLost : Bool) (s : State) : State :=
  if decoded then s
  else if again then raise 0x0807 (quadUnit (vpaCh v / 4) (4 + vpaCh v % 4)) [(5, v), (1, flag dieLost)] s
  else raise 0x0808 (quadUnit (vpaCh v / 4) (4 + vpaCh v % 4)) [(5, v)] s

theorem undecodedReported_keeps (v : Nat) (decoded again dieLost : Bool) (s : State) :
    Keeps 0x100000 s (undecodedReported v decoded again dieLost s) := by
  unfold undecodedReported
  split
  · exact Keeps.refl _ s
  · split
    · exact raise_keeps _ _ _ (by decide) (Keeps.refl _ s)
    · exact raise_keeps _ _ _ (by decide) (Keeps.refl _ s)

theorem undecodedReported_raised (v : Nat) (decoded again dieLost : Bool) (s : State) :
    (undecodedReported v decoded again dieLost s).raised = s.raised ++ (if decoded then []
      else if again then [⟨0x0807, quadUnit (vpaCh v / 4) (4 + vpaCh v % 4), [(5, v), (1, flag dieLost)]⟩]
      else [⟨0x0808, quadUnit (vpaCh v / 4) (4 + vpaCh v % 4), [(5, v)]⟩]) := by
  unfold undecodedReported
  split
  · exact (List.append_nil _).symm
  · split
    · exact raise_raised _ _ _ s
    · exact raise_raised _ _ _ s

/-- The read of a page counted on its channel, and reported where it was not decoded. -/
def pageRead (v : Nat) (words : List Nat) (load : Nat) (hard decoded again : Bool) (s : State) : State :=
  undecodedReported v decoded again (!dieOk s (vpaCh v) (vpaDie v)) (modVch (vpaCh v) (readCounted words load hard (!decoded && again)) s)

theorem pageRead_raised (v : Nat) (words : List Nat) (load : Nat) (hard decoded again : Bool) (s : State) :
    (pageRead v words load hard decoded again s).raised = s.raised ++ (if decoded then []
      else if again then [⟨0x0807, quadUnit (vpaCh v / 4) (4 + vpaCh v % 4), [(5, v), (1, flag (!dieOk s (vpaCh v) (vpaDie v)))]⟩]
      else [⟨0x0808, quadUnit (vpaCh v / 4) (4 + vpaCh v % 4), [(5, v)]⟩]) :=
  undecodedReported_raised _ _ _ _ _

theorem pageRead_vlt (v : Nat) (words : List Nat) (load : Nat) (hard decoded again : Bool) (s : State) :
    (pageRead v words load hard decoded again s).vlt = s.vlt :=
  (undecodedReported_keeps _ _ _ _ _).vltEq (by decide)

theorem pageRead_vch (v : Nat) (words : List Nat) (load : Nat) (hard decoded again : Bool) (s : State) :
    (pageRead v words load hard decoded again s).vch =
      (modVch (vpaCh v) (readCounted words load hard (!decoded && again)) s).vch :=
  (undecodedReported_keeps _ _ _ _ _).vchEq (by decide)

/-- A loaded or undecoded page of a segment under scrub calls for the segment's collection. -/
def scrubCalled (v load : Nat) (decoded : Bool) (s : State) : State :=
  if (6000 ≤ load ∨ !decoded) ∧ s.vlt.scrubbing.contains (vpaSeg v) ∧ !(s.vlt.relocate.contains (vpaSeg v)) then
    raise 0x080A 0x0D [(4, vpaSeg v), (2, min load 65535)] (callSegment (vpaSeg v) s)
  else s

theorem scrubCalled_keeps (v load : Nat) (decoded : Bool) (s : State) : Keeps 0x100800 s (scrubCalled v load decoded s) := by
  unfold scrubCalled
  split
  · exact raise_keeps _ _ _ (by decide) (callSegment_keeps _ (by decide) (Keeps.refl _ s))
  · exact Keeps.refl _ s

theorem callSegment_raised (n : Nat) (s : State) : (callSegment n s).raised = s.raised :=
  (callSegment_keeps (m := 0x800) n (by decide) (Keeps.refl _ s)).raisedEq (by decide)

theorem callSegment_readLoads (n : Nat) (s : State) : (callSegment n s).vlt.readLoads = s.vlt.readLoads := by
  unfold callSegment
  split <;> rfl

theorem addsEvents_scrubCalled (v load : Nat) (decoded : Bool) (s : State) : AddsEvents [0x080A] s (scrubCalled v load decoded s) := by
  unfold scrubCalled
  split
  · exact (AddsEvents.of_eq (callSegment_raised _ s)).trans (addsEvents_raise (by decide) _ _ _)
  · exact .of_eq rfl

theorem scrubCalled_readLoads (v load : Nat) (decoded : Bool) (s : State) :
    (scrubCalled v load decoded s).vlt.readLoads = s.vlt.readLoads := by
  unfold scrubCalled
  split
  · exact callSegment_readLoads _ s
  · rfl

/-- A segment under scrub, neither called for nor erasing, is called for. -/
theorem scrubCalled_calls {v load : Nat} {decoded : Bool} {s : State} (hbad : 6000 ≤ load ∨ decoded = false)
    (hscrub : vpaSeg v ∈ s.vlt.scrubbing) (hnew : vpaSeg v ∉ s.vlt.relocate) (herase : vpaSeg v ∉ s.vlt.erasing) :
    (scrubCalled v load decoded s).vlt.relocate = s.vlt.relocate ++ [vpaSeg v] ∧
    (scrubCalled v load decoded s).raised = s.raised ++ [⟨0x080A, 0x0D, [(4, vpaSeg v), (2, min load 65535)]⟩] := by
  have hcalls : scrubCalled v load decoded s =
      raise 0x080A 0x0D [(4, vpaSeg v), (2, min load 65535)] (callSegment (vpaSeg v) s) :=
    if_pos (by simpa [hscrub, hnew] using hbad)
  have hcalled : callSegment (vpaSeg v) s = { s with vlt := { s.vlt with relocate := s.vlt.relocate ++ [vpaSeg v] } } :=
    if_neg (by simp [hnew, herase])
  rw [hcalls, hcalled]
  exact ⟨rfl, rfl⟩

theorem vaultReadComplete_ignored {s : State} {v ones : Nat} {words : List Nat} {hard decoded rebuilt last : Bool}
    (h : pageAt s v = none ∨ serving s = false) : exec (.vaultReadComplete v words ones hard decoded rebuilt last) s = .next s :=
  congrArg Host.Outcome.next (if_pos (by simpa using h))

section Read

variable {s : State} {v ones : Nat} {words : List Nat} {hard decoded rebuilt last : Bool} (hpage : pageAt s v ≠ none)
  (hserving : serving s = true)
include hpage hserving

theorem vaultReadComplete_erased (herased : readsErased s ones = true) :
    exec (.vaultReadComplete v words ones hard decoded rebuilt last) s = .next (blockRead v none last
      (modVch (vpaCh v) (fun x => { x with readPages := wrapAdd 64 x.readPages 1 }) s)) :=
  congrArg Host.Outcome.next ((if_neg (by simp [hpage, hserving])).trans (if_pos herased))

variable {load : Nat} {again : Bool} (herased : readsErased s ones = false) (hload : load = correctionLoad s words)
  (hagain : again = (rebuilt && (pageAt s v).any (rebuildPasses s v)))
include herased hload hagain

/-- A page that does not read as ERASED is counted, reported where it was not decoded, calls for its segment and counts to its block. -/
theorem exec_vaultReadComplete : exec (.vaultReadComplete v words ones hard decoded rebuilt last) s =
    .next (blockRead v (some load) last (scrubCalled v load decoded (pageRead v words load hard decoded again s))) := by
  subst hload hagain
  exact congrArg Host.Outcome.next ((if_neg (by simp [hpage, hserving])).trans (if_neg (by simp [herased])))

end Read

theorem readFollowed_vch (v load : Nat) (decoded last : Bool) (s : State) :
    (blockRead v (some load) last (scrubCalled v load decoded s)).vch = s.vch :=
  (blockRead_keeps (m := 0x100800) v (some load) last (by decide) (scrubCalled_keeps v load decoded s)).vchEq (by decide)

/-- The events of a read after those of the page itself: 0x080A where its segment is called for, and 0x0508 where its block is WORN. -/
theorem readFollowed_effect (v load : Nat) (decoded last : Bool) (s : State) :
    ∃ l, (blockRead v (some load) last (scrubCalled v load decoded s)).raised = s.raised ++ l ∧ (∀ e ∈ l, e.id = 0x080A ∨ e.id = 0x0508) ∧
      ((6000 ≤ load ∨ decoded = false) → vpaSeg v ∈ s.vlt.scrubbing → vpaSeg v ∉ s.vlt.relocate → vpaSeg v ∉ s.vlt.erasing →
        (blockRead v (some load) last (scrubCalled v load decoded s)).vlt.relocate = s.vlt.relocate ++ [vpaSeg v] ∧
        ⟨0x080A, 0x0D, [(4, vpaSeg v), (2, min load 65535)]⟩ ∈ l) ∧
      (blockRead v (some load) last (scrubCalled v load decoded s)).vlt.readLoads =
        tput (0, 0) s.vlt.readLoads (blockVpa v) (if last then (0, 0) else loadWith v load s) ∧
      (last = true → 6000 * (loadWith v load s).2 ≤ (loadWith v load s).1 →
        blockVpa v ∈ (blockRead v (some load) last (scrubCalled v load decoded s)).vlt.worn) := by
  obtain ⟨called, hcalled, hcalledIds⟩ := addsEvents_scrubCalled v load decoded s
  obtain ⟨⟨worn, hworn, hwornIds⟩, hrelocate, hloads, hmarks⟩ := blockRead_effect v load last (scrubCalled v load decoded s)
  have hsum : loadWith v load (scrubCalled v load decoded s) = loadWith v load s := by
    rw [loadWith, scrubCalled_readLoads, loadWith]
  rw [hsum] at hloads hmarks
  rw [scrubCalled_readLoads] at hloads
  refine ⟨called ++ worn, by rw [hworn, hcalled, List.append_assoc], fun e he => ?_, fun hbad hscrub hnew herase => ?_, hloads, hmarks⟩
  · rcases List.mem_append.1 he with he | he
    · exact .inl (List.mem_singleton.1 (hcalledIds e he))
    · exact .inr (List.mem_singleton.1 (hwornIds e he))
  · obtain ⟨hlist, hraised⟩ := scrubCalled_calls hbad hscrub hnew herase
    have hevent : called = [⟨0x080A, 0x0D, [(4, vpaSeg v), (2, min load 65535)]⟩] := List.append_cancel_left (hcalled.symm.trans hraised)
    exact ⟨hrelocate.trans hlist, List.mem_append_left _ (hevent ▸ List.mem_singleton_self _)⟩

/-! ### The statement -/

/-- Settles O37: a clause for each command of a channel, a die, an erase and a page's read, and for the failure of a channel and the mark of
a WORN block (R263, R289, R330, R332, R333, R343, R344, R347, R348; log 12, 55, 89). -/
theorem vaultChannels : Obligations.VaultChannels := by
  refine ⟨?trained, ?forced, ?failed, ?missed, ?notInService, ?notErasing, ?erased, ?worn, ?unread, ?blank, ?read⟩
  case trained =>
    exact fun s c hactive hc _ => ⟨_, rfl, vaultTraining_failsAgain hc hactive, vaultTraining_failsLast hc hactive,
      vaultTraining_ignored (.inr (.inr rfl))⟩
  case forced =>
    exact fun s c => ⟨fun h ok => vaultTraining_ignored (h.imp_right .inl),
      fun htest hc => ⟨_, rfl, vaultForceFail_active htest hc, vaultForceFail_inactive htest hc⟩, vaultForceFail_ignored⟩
  case failed =>
    exact fun s c hlen hstate => ⟨channelFailed_state hlen hstate, channelFailed_raised hstate, fun hdump => if_neg hdump,
      fun hdump => if_pos hdump⟩
  case missed =>
    intro s c d hc hlen hdie hpop hd
    refine ⟨dieMissed c d s, (vchOf s c).missRun.getD d 0 + 1, rfl, ?_, dieTimeout_inDump hc hdie hpop hd,
      dieTimeout_once hc hdie hpop hd, fun hdump hagain =>
      ⟨dieTimeout_again hc hdie hpop hd hdump hagain, dieFailed_raised 2 (dieFailed_dieMissed hlen hdie)⟩⟩
    rw [dieMissed, modVch]
  case notInService => exact fun s c d => dieTimeout_ignored
  case notErasing => exact fun s n failed slow => vaultEraseComplete_ignored failed slow
  case erased =>
    exact fun s n v herase => ⟨vaultEraseComplete_done herase, fun hv => ⟨vaultEraseComplete_slow herase hv,
      vaultEraseComplete_fails herase hv⟩⟩
  case worn =>
    intro s v cause hnew
    refine ⟨_, rfl, mem_worn_markWorn v cause s, ?_, fr (markWorn_keeps (m := 0x100800) v cause (by decide) (Keeps.refl _ s)) (by decide)⟩
    rw [markWorn_new cause hnew]
    rfl
  case unread => exact fun s v ones words hard dec reb last => vaultReadComplete_ignored
  case blank => exact fun s v ones words hard dec reb last => vaultReadComplete_erased
  case read =>
    rintro s v load ones _ words hard dec reb again last hpage hserving herased hload hagain rfl hlen
    have hexec := exec_vaultReadComplete (hard := hard) (decoded := dec) (last := last) hpage hserving herased hload hagain
    have hkeeps : Keeps 0x101800 s (run (exec (.vaultReadComplete v words ones hard dec reb last) s) s) :=
      execVaultReadComplete_keeps v words ones hard dec reb last (by decide) (Keeps.refl _ s)
    rw [hexec, run_next] at hkeeps
    obtain ⟨l, hraised, hids, hcalls, hloads, hmarks⟩ := readFollowed_effect v load dec last (pageRead v words load hard dec again s)
    rw [loadWith, pageRead_vlt] at hloads hmarks
    rw [pageRead_vlt] at hcalls
    rw [pageRead_raised] at hraised
    have hvch := (readFollowed_vch v load dec last (pageRead v words load hard dec again s)).trans (pageRead_vch v words load hard dec again s)
    refine ⟨_, l, hexec, ?_, fun x hx => ?_, hraised, hids, hcalls, hloads, hmarks, fr hkeeps (by decide)⟩
    · rw [vchOf_of_vch hvch, vchOf_modVch_same hlen, readCounted]
    · rw [vchOf_of_vch hvch, vchOf_modVch_other hx]

end Sys2Proof.Machine
end

section
/-!
PROOFS. Messages of the Korric link in order (R373, R377, R378, R384, R385, R387, R394, R395): a flit's message taken and what it acts on,
one equation for each message, the findings at a link-up, and the statement about them.
-/

namespace Sys2Proof.Machine

/-! ### A message taken (R378) -/

/-- The unit hears a flit's message in order, and `u` is the state that the flit's header leaves for it. -/
structure Taken (s : State) (h : FlitHdr) (i : Nat) (u : State) : Prop where
  hears : korHears s = true
  order : inOrder s h i = true
  after : u = takeMsg h i (fun t => t) s

theorem takeMsg_refused {s : State} {h : FlitHdr} {i : Nat} (hno : korHears s = false ∨ inOrder s h i = false) (k : State → State) :
    takeMsg h i k s = s := by
  rcases hno with hno | hno <;> simp [takeMsg, hno]

/-- The first message of a flit: its header acts before it. -/
theorem takeMsg_first {s : State} {h : FlitHdr} (i : Nat) (k : State → State) (hhears : korHears s = true)
    (hnext : h.fseq = wrapAdd 16 s.kor.rxSeq 1) (hnew : h.fseq ≠ s.kor.rxSeq) :
    takeMsg h i k s = k (takeHeader h { s with kor := { s.kor with rxSeq := h.fseq, rxIdx := i } }) := by
  have horder : inOrder s h i = true := by simp [inOrder, hnext]
  simp [takeMsg, hhears, horder, hnew]

/-- A later message of the flit whose header has acted. -/
theorem takeMsg_later {s : State} {h : FlitHdr} {i : Nat} (k : State → State) (hhears : korHears s = true)
    (hsame : h.fseq = s.kor.rxSeq) (hidx : s.kor.rxIdx < i) :
    takeMsg h i k s = k { s with kor := { s.kor with rxSeq := h.fseq, rxIdx := i } } := by
  have horder : inOrder s h i = true := by simp [inOrder, hsame, hidx]
  simp [takeMsg, hhears, horder, hsame]

/-- The number below the next, in the two forms that the statements write it in (R373, R377). -/
theorem numberBelow_eq (n : Nat) : (n + 2 ^ 32 - 1) % 2 ^ 32 = (n + 0xFFFFFFFF) % 0x100000000 := by omega

section Taken

variable {s u : State} {h : FlitHdr} {i : Nat} (ht : Taken s h i u)
include ht

theorem Taken.takeMsg_eq (k : State → State) : takeMsg h i k s = k u := by
  rw [ht.after]
  simp [takeMsg, ht.hears, ht.order]

theorem Taken.acts (k : State → State) : (.next (takeMsg h i k s) : Result) = .next (k u) :=
  congrArg Host.Outcome.next (ht.takeMsg_eq k)

/-- What only a link that is up brings acts outside DUMP. -/
theorem Taken.actsUp (hup : u.kor.up = true) (hdump : u.spn.mode ≠ .dump) (k : State → State) :
    (.next (takeMsg h i (whenUp k) s) : Result) = .next (k u) :=
  (ht.acts _).trans (congrArg Host.Outcome.next (if_pos ⟨hup, hdump⟩))

/-- It changes nothing else while the link is down, or in DUMP. -/
theorem Taken.idle (hdown : u.kor.up = false ∨ u.spn.mode = .dump) (k : State → State) :
    (.next (takeMsg h i (whenUp k) s) : Result) = .next u :=
  (ht.acts _).trans (congrArg Host.Outcome.next (if_neg (by rcases hdown with hdown | hdown <;> simp [hdown])))

/-! ### The exchange (R373, R377, R395) -/

/-- What the partner's STATE shows of it. -/
def partnerShown (sideB tiebreakB : Bool) (cwyId mepoch : Nat) (u : State) : State :=
  { u with kor := { u.kor with pSide := sideB, pTiebreak := tiebreakB, pCwyId := cwyId % 64, pMepoch := mepoch % 2 ^ 32 } }

/-- The sequence of the partner's lines opens after `last`, the number below the next that it shows. -/
def sequenceOpened (last : Nat) (u : State) : State :=
  { u with kor := { u.kor with stateSeen := true, rxLast := last, rxMseq := last, held := [], heldPoison := [] } }

/-- A part of the partner's digest kept. -/
def digestKept (part value : Nat) (u : State) : State :=
  { u with kor := { u.kor with digestSeen := tins part (value % 2 ^ 96) u.kor.digestSeen } }

theorem state_taken (sideB tiebreakB : Bool) (cwyId mepoch mseqNext : Nat) :
    exec (.state h i sideB tiebreakB cwyId mepoch mseqNext) s = .next (if u.kor.up then partnerShown sideB tiebreakB cwyId mepoch u
      else exchangeCheck (sequenceOpened ((mseqNext + 0xFFFFFFFF) % 0x100000000) (partnerShown sideB tiebreakB cwyId mepoch u))) := by
  rw [← numberBelow_eq]
  exact ht.acts _

theorem digest_taken (part value : Nat) : exec (.digest h i part value) s = .next (if 4 ≤ part then u
    else if u.kor.up then (if part = 3 then compareDigests (digestKept part value u) else digestKept part value u)
    else exchangeCheck (digestKept part value u)) :=
  ht.acts _

/-! ### Requests about regions (R385, R101) -/

section LinkUp

variable (hup : u.kor.up = true) (hdump : u.spn.mode ≠ .dump)
include hup hdump

theorem openQuery_taken (r : Nat) : exec (.openQuery h i r) s = .next (if (region u r).adopted then sendMsg (.openReply r 1) u
    else if inConflict u r then sendMsg (.openReply r 2) u
    else if u.kor.state = .mirrored ∨ u.kor.state = .resync then sendMsg (.openReply r 0) u else u) :=
  ht.actsUp hup hdump _

theorem openReply_taken (r answer : Nat) : exec (.openReply h i r answer) s = .next (if !(u.kor.opening.contains r) then u
    else if answer = 0 then notOpening r u else bulkFollow (endStart r (if answer = 1 then 4 else 2) u)) :=
  ht.actsUp hup hdump _

theorem resyncEnd_taken : exec (.resyncEnd h i) s = .next (resendKick { u with kor := { u.kor with endSeen := true } }) :=
  ht.actsUp hup hdump _

end LinkUp

/-! ### Notices and lanes (R384, R387, R394) -/

theorem pressure_taken (on : Bool) : exec (.pressure h i on) s = .next (if u.kor.up then takePressure on u else u) := ht.acts _

/-- The partner's dump is reported. -/
def dumpNoticed (kind seq : Nat) (u : State) : State := raise 0x090B 0x05 [(1, kind), (4, seq)] u

/-- Every DIRTY copy of the partner's regions is covered by its vault. -/
def copiesCovered (v : State) : State := settle ((mirrorCopies v (fun w => w.st = .dirty)).foldl (fun t g => copyShadowed g t) v)

theorem dumpNotice_taken (kind seq : Nat) : exec (.dumpNotice h i kind seq) s = .next (if !u.kor.up then u
    else if kind = 0 then partnerDumping (dumpNoticed kind seq u)
    else if kind = 1 ∧ u.spn.mode ≠ .dump then copiesCovered (dumpNoticed kind seq u) else dumpNoticed kind seq u) :=
  ht.acts _

/-- The codeword at which the lane moves: a codeword already sent gives way to the next multiple of 128. -/
def switchCodeword (codeword sent : Nat) : Nat := if seqLe codeword sent then (sent / 128 + 1) * 128 % 2 ^ 32 else codeword

theorem laneSwap_taken (cause lane codeword sent : Nat) : exec (.laneSwap h i cause lane codeword sent) s =
    .next (if u.kor.up = false ∨ u.kor.spareTx = true then u else { u with kor := { u.kor with
      txFailed := setBit u.kor.txFailed (lane % 16), txSwap := some (lane % 16, cause, switchCodeword codeword sent) } }) := by
  refine (ht.acts _).trans ?_
  simp only [Bool.not_eq_true', switchCodeword]

theorem laneSwapAck_taken (lane codeword : Nat) : exec (.laneSwapAck h i lane codeword) s = .next (u.kor.rxSwap.elim u (fun x =>
    if x.1 ≠ lane then u else { u with kor := { u.kor with rxSwap := none, nakOut := u.kor.nakOut || codeword ≠ x.2.2 } })) := by
  refine (ht.acts _).trans ?_
  cases u.kor.rxSwap <;> rfl

end Taken

/-- A message that is out of order or not heard changes nothing. -/
theorem message_refused {s : State} {h : FlitHdr} {i : Nat} (hno : korHears s = false ∨ inOrder s h i = false) {c : Instr}
    (k : State → State) (hc : exec c s = .next (takeMsg h i k s)) : exec c s = .next s :=
  hc.trans (congrArg Host.Outcome.next (takeMsg_refused hno k))

theorem exchangeCheck_complete {s : State} (hdown : s.kor.up = false) (hstate : s.kor.stateSeen = true)
    (hdigest : 4 ≤ s.kor.digestSeen.length) : exchangeCheck s = linkUpKorric s := if_pos (by simp [hdown, hstate, hdigest])

theorem exchangeCheck_open {s : State} (h : s.kor.stateSeen = false ∨ s.kor.digestSeen.length < 4) : exchangeCheck s = s :=
  if_neg (by rcases h with h | h <;> simp [h])

/-- A finding `c` of R395 is logged where it is made. -/
def finding (b : Bool) (c : Nat) (t : State) : State := if b then raise 0x0906 0x05 [(1, c)] t else t

theorem finding_kor (b : Bool) (c : Nat) (t : State) : (finding b c t).kor = t.kor := by cases b <;> rfl

theorem finding_raised (b : Bool) (c : Nat) (t : State) :
    (finding b c t).raised = t.raised ++ if b then [⟨0x0906, 0x05, [(1, c)]⟩] else [] := by
  cases b
  · exact (List.append_nil _).symm
  · rfl

theorem finding_keeps (b : Bool) (c : Nat) (t : State) : Keeps 0x100000 t (finding b c t) := by
  cases b
  · exact Keeps.refl _ t
  · exact raise_keeps _ _ _ (by decide) (Keeps.refl _ t)

/-- The findings of R395 at a link-up: the same side, another digest, another tiebreak, a wrong Causeway ID. -/
def sameSideFound (s : State) : Bool := decide (s.kor.pSide = s.kor.side)
def tiebreakFound (s : State) : Bool := decide (s.kor.pTiebreak = tiebreakOf s)
def wrongIdFound (s : State) : Bool := decide (s.kor.pCwyId ≠ s.cwy.myId ^^^ 1)

/-- The link up, with what the exchange has found kept. -/
def linkOpened (s : State) : State :=
  { s with kor := { s.kor with up := true, sameSide := sameSideFound s, digestBad := digestsDiffer s,
                               wrongId := s.kor.wrongId || wrongIdFound s, tbAgreed := tiebreakFound s } }

/-- A link-up logged, with each of its findings. -/
def linkFound (s : State) : State :=
  finding (wrongIdFound s) 3 (finding (!tiebreakFound s) 2 (finding (digestsDiffer s) 1 (finding (sameSideFound s) 0
    (raise 0x0901 0x05 [(1, s.kor.width), (1, flag s.kor.spareTx + 2 * flag s.kor.spareRx)] (linkOpened s)))))

/-- The pair leaves SOLO for TRAINING before a finding takes it back there. -/
def soloLeft (u : State) : State := setPair .training 0 { u with kor := { u.kor with copiesCurrent := false, fromSolo := true } }

theorem linkUpKorric_eq (s : State) : linkUpKorric s =
    if sameSideFound s = true ∨ digestsDiffer s = true then
      enterSolo (if sameSideFound s then 6 else 5) true (if (linkFound s).kor.state = .solo then soloLeft (linkFound s) else linkFound s)
    else if mayRejoin (linkFound s) then rejoin (linkFound s) else linkFound s := rfl

theorem linkFound_kor (s : State) : (linkFound s).kor = (linkOpened s).kor := by simp only [linkFound, finding_kor, raise_kor]

theorem linkFound_raised (s : State) : (linkFound s).raised =
    s.raised ++ [⟨0x0901, 0x05, [(1, s.kor.width), (1, flag s.kor.spareTx + 2 * flag s.kor.spareRx)]⟩] ++
      (if sameSideFound s = true then [⟨0x0906, 0x05, [(1, 0)]⟩] else []) ++
      (if digestsDiffer s = true then [⟨0x0906, 0x05, [(1, 1)]⟩] else []) ++
      (if tiebreakFound s = false then [⟨0x0906, 0x05, [(1, 2)]⟩] else []) ++
      (if wrongIdFound s = true then [⟨0x0906, 0x05, [(1, 3)]⟩] else []) := by
  simp only [linkFound, finding_raised, raise_raised, Bool.not_eq_true']
  rfl

theorem linkFound_keeps (s : State) : Keeps 0x108000 s (linkFound s) := by
  have hopened : Keeps 0x108000 s (linkOpened s) := (keeps_kor _).mono (by decide)
  have hlogged : Keeps 0x108000 s (raise 0x0901 0x05 [(1, s.kor.width), (1, flag s.kor.spareTx + 2 * flag s.kor.spareRx)] (linkOpened s)) :=
    raise_keeps _ _ _ (by decide) hopened
  exact .step (finding_keeps _ _ _) (by decide) (.step (finding_keeps _ _ _) (by decide) (.step (finding_keeps _ _ _) (by decide)
    (.step (finding_keeps _ _ _) (by decide) hlogged)))

/-- Nothing found: the rejoin runs where it may. -/
theorem linkUpKorric_clean {s : State} (hside : sameSideFound s = false) (hdigest : digestsDiffer s = false) :
    linkUpKorric s = if mayRejoin (linkFound s) then rejoin (linkFound s) else linkFound s := by
  rw [linkUpKorric_eq, if_neg (by simp [hside, hdigest])]

/-- A finding that keeps the sides apart ends in SOLO, cause 6 for the same side and 5 for the digests. -/
theorem linkUpKorric_apart {s : State} (h : sameSideFound s = true ∨ digestsDiffer s = true) :
    linkUpKorric s = enterSolo (if sameSideFound s then 6 else 5) true (if s.kor.state = .solo then soloLeft (linkFound s) else linkFound s) := by
  have hstate : (linkFound s).kor.state = s.kor.state := (congrArg Kor.state (linkFound_kor s)).trans rfl
  rw [linkUpKorric_eq, if_pos h, hstate]

/-! ### PRESSURE_OFF_TIMER (R384) -/

theorem pressureOffTimer_eq (s : State) : exec .pressureOffTimer s =
    .next (if s.kor.held.any (fun sl => mirrorBlock s (granuleOf sl.line) = 1) then s else setPressure false s) := rfl

/-! ### The statement -/

/-- Settles O41: a clause for each message by the state that its header leaves, and for the link-up (R373, R377, R378, R384, R385, R387,
R389, R394, R395; log 73). -/
theorem messagesInOrder : Obligations.MessagesInOrder := by
  unfold Obligations.MessagesInOrder
  refine ⟨?taken, ?refused, ?state, ?digest, ?linkUp, ?openQuery, ?openReply, ?pressure, ?pressureOff, ?dumpNotice, ?resyncEnd,
    ?laneSwap, ?laneSwapAck⟩
  case taken =>
    intro s h idx k
    exact ⟨fun hno => takeMsg_refused hno k, fun hhears hnext hnew => takeMsg_first idx k hhears hnext hnew,
      fun hhears hsame hidx => takeMsg_later k hhears hsame hidx⟩
  case refused =>
    intro s h i r a b n m g q x y sl c hno hc
    rcases hc with rfl | rfl | rfl | rfl | rfl | rfl | rfl | rfl | rfl | rfl | rfl | rfl | rfl | rfl | rfl | rfl | rfl | rfl | rfl | rfl |
      ⟨rfl, rfl | rfl⟩
    all_goals exact message_refused hno _ rfl
  case state =>
    intro s u h i id mep n sb tb hhears horder hu
    have ht : Taken s h i u := ⟨hhears, horder, hu⟩
    refine ⟨partnerShown sb tb id mep u, fr (keeps_kor _) (by decide), rfl, rfl, rfl, rfl, fun hup => ?_, fun hdown =>
      ⟨sequenceOpened ((n + 0xFFFFFFFF) % 0x100000000) (partnerShown sb tb id mep u), _, rfl, rfl, ?_⟩⟩
    · rw [state_taken ht, if_pos hup]
    · rw [state_taken ht, if_neg (by simp [hdown])]
      exact ⟨fun hall => congrArg Host.Outcome.next (exchangeCheck_complete hdown rfl hall),
        fun hsome => congrArg Host.Outcome.next (exchangeCheck_open (.inr hsome))⟩
  case digest =>
    intro s u h i part x hhears horder hu
    have ht : Taken s h i u := ⟨hhears, horder, hu⟩
    refine ⟨fun hpart => by rw [digest_taken ht, if_pos hpart], fun hpart => ⟨digestKept part x u, rfl, ?_⟩⟩
    rw [digest_taken ht, if_neg (by omega)]
    refine ⟨fun hup hlast => ?_, fun hup hearlier => ?_, fun hdown hstate hall => ?_, fun hdown hopen => ?_⟩
    · rw [if_pos hup, if_pos hlast]
    · rw [if_pos hup, if_neg hearlier]
    · rw [if_neg (by simp [hdown]), exchangeCheck_complete (s := digestKept part x u) hdown hstate hall]
    · rw [if_neg (by simp [hdown]), exchangeCheck_open (s := digestKept part x u) hopen]
  case linkUp =>
    intro s
    refine ⟨linkFound s, sameSideFound s, digestsDiffer s, wrongIdFound s, tiebreakFound s, rfl, rfl, rfl, rfl, linkFound_kor s,
      linkFound_raised s, fr (linkFound_keeps s) (by decide), fun hside hdigest hmay => ?_, fun hside hdigest hmay => ?_,
      fun hside hsolo => ?_, fun hside hdigest hsolo => ?_, fun hfound hsolo => ?_⟩
    · rw [linkUpKorric_clean hside hdigest, if_pos hmay]
    · rw [linkUpKorric_clean hside hdigest, if_neg (by simp [hmay])]
    · rw [linkUpKorric_apart (.inl hside), if_pos hside, if_neg hsolo]
    · rw [linkUpKorric_apart (.inr hdigest), if_neg (by simp [hside]), if_neg hsolo]
    · rw [linkUpKorric_apart hfound, if_pos hsolo, soloLeft]
  case openQuery =>
    intro s u h i r hhears horder hu
    have ht : Taken s h i u := ⟨hhears, horder, hu⟩
    refine ⟨fun hdown => ht.idle hdown _, fun hup hdump => ?_⟩
    rw [openQuery_taken ht hup hdump]
    refine ⟨fun hadopted => ?_, fun hno hconflict => ?_, fun hno hclear hpair => ?_, fun hno hclear hmirrored hresync => ?_⟩
    · rw [if_pos hadopted, sendMsg]
    · rw [if_neg (by simp [hno]), if_pos hconflict, sendMsg]
    · rw [if_neg (by simp [hno]), if_neg (by simp [hclear]), if_pos hpair, sendMsg]
    · rw [if_neg (by simp [hno]), if_neg (by simp [hclear]), if_neg (not_or.2 ⟨hmirrored, hresync⟩)]
  case openReply =>
    intro s u h i r a hhears horder hu hup hdump
    have ht : Taken s h i u := ⟨hhears, horder, hu⟩
    refine ⟨fun hnot => ?_, fun hopening => ?_⟩
    · rw [openReply_taken ht hup hdump, if_pos (by simpa using hnot)]
    · have hwaits : ¬ (!(u.kor.opening.contains r)) = true := by simpa using hopening
      simp only [openReply_taken ht hup hdump, if_neg hwaits]
      exact ⟨rfl, rfl, rfl⟩
  case pressure =>
    intro s u h i on hhears horder hu
    rw [pressure_taken ⟨hhears, horder, hu⟩]
    exact ⟨fun hup => by rw [if_pos hup], fun hdown => by rw [if_neg (by simp [hdown])]⟩
  case pressureOff =>
    intro s
    rw [pressureOffTimer_eq]
    exact ⟨fun hheld => by rw [if_pos (by simpa using hheld)], fun hnone => by rw [if_neg (by simpa using hnone)]⟩
  case dumpNotice =>
    intro s u h i kind seq hhears horder hu
    rw [dumpNotice_taken ⟨hhears, horder, hu⟩]
    refine ⟨fun hdown => by rw [if_pos (by simp [hdown])], fun hup => ⟨dumpNoticed kind seq u, rfl, ?_⟩⟩
    rw [if_neg (by simp [hup])]
    refine ⟨fun hbegins => by rw [if_pos hbegins], fun hcomplete hdump => ?_, fun hother => ?_⟩
    · rw [if_neg (by omega), if_pos ⟨hcomplete, hdump⟩, copiesCovered]
    · rw [if_neg (by omega), if_neg (by rintro ⟨hcomplete, hdump⟩; rcases hother with hother | ⟨_, hother⟩; omega; exact hdump hother)]
  case resyncEnd =>
    intro s u h i hhears horder hu hup hdump
    exact resyncEnd_taken ⟨hhears, horder, hu⟩ hup hdump
  case laneSwap =>
    intro s u h i cause lane cw sent hhears horder hu
    rw [laneSwap_taken ⟨hhears, horder, hu⟩]
    refine ⟨fun hnone => by rw [if_pos hnone], fun hup hspare => ⟨switchCodeword cw sent, fun hlater => ?_, fun hsent => ?_, ?_⟩⟩
    · rw [switchCodeword, if_neg (by simp [hlater])]
    · rw [switchCodeword, if_pos hsent]
    · rw [if_neg (by simp [hup, hspare])]
  case laneSwapAck =>
    intro s u h i lane cw l c x hhears horder hu
    rw [laneSwapAck_taken ⟨hhears, horder, hu⟩]
    refine ⟨fun hnone => by rw [hnone]; rfl, fun hswap => ?_⟩
    rw [hswap]
    exact ⟨fun hother => congrArg Host.Outcome.next (if_pos hother), fun hlane => congrArg Host.Outcome.next (if_neg (not_not.2 hlane))⟩

end Sys2Proof.Machine
end

section
/-!
PROOFS. The Korric link (R373 to R391, R394): what a change of the pair state reports, flits sent and replayed, the exchange at a link-up,
acknowledgements and pressure, one equation for each case of training, silence and lanes, and the statement about them.
-/

namespace Sys2Proof.Machine

/-! ### A change of the pair state (R138, R389) -/

theorem addsEvents_foldl {α : Type} {ids : List Nat} {f : State → α → State} (hf : ∀ t a, AddsEvents ids t (f t a)) (l : List α) (s : State) :
    AddsEvents ids s (l.foldl f s) := by
  induction l generalizing s with
  | nil => exact .of_eq rfl
  | cons a l ih => exact (hf s a).trans (ih (f s a))

theorem refreshEff1_addsEvents (r : Nat) (s : State) : AddsEvents [0x0303] s (refreshEff1 r s) := by
  unfold refreshEff1
  extract_lets new old
  split
  · exact .of_eq rfl
  · exact addsEvents_raise (by simp) 0x02 [(1, r), (1, old), (1, new)] (modRegion r _ s)

theorem refreshEff_addsEvents (s : State) : AddsEvents [0x0303] s (refreshEff s) :=
  addsEvents_foldl (fun t r => refreshEff1_addsEvents r t) _ s

theorem out_prefix_foldl {α : Type} {f : State → α → State} (hf : ∀ t a, t.out <+: (f t a).out) (l : List α) (s : State) :
    s.out <+: (l.foldl f s).out := by
  induction l generalizing s with
  | nil => exact List.prefix_rfl
  | cons a l ih => exact (hf s a).trans (ih (f s a))

theorem out_prefix_refreshEff (s : State) : s.out <+: (refreshEff s).out := by
  refine out_prefix_foldl (fun t r => ?_) _ s
  unfold refreshEff1
  extract_lets new old
  split
  · exact List.prefix_rfl
  · exact List.prefix_append _ _

theorem setPair_of_same {p : PairState} {s : State} (cause : Nat) (h : s.kor.state = p) : setPair p cause s = s := if_pos h

/-- A change of the pair state reports itself, then the effective classes that changed with it, and signals vector 8. -/
theorem setPair_reports {p : PairState} {s : State} (cause : Nat) (h : s.kor.state ≠ p) :
    (∃ l, (setPair p cause s).raised = s.raised ++ ⟨0x0905, 0x05, [(1, pairCode s.kor.state), (1, pairCode p), (1, cause)]⟩ :: l ∧
      ∀ e ∈ l, e.id = 0x0303) ∧ .msix 8 ∈ (setPair p cause s).out := by
  rw [setPair, if_neg h]
  set changed := msix 8 (raise 0x0905 0x05 [(1, pairCode s.kor.state), (1, pairCode p), (1, cause)] { s with kor := { s.kor with state := p } })
  obtain ⟨l, hl, hids⟩ := refreshEff_addsEvents changed
  refine ⟨⟨l, ?_, by simpa using hids⟩, (out_prefix_refreshEff changed).subset ?_⟩
  · rw [hl]
    exact List.append_assoc _ _ _
  · exact List.mem_append_right _ (List.mem_singleton.2 rfl)

/-! ### Flits sent (R374, R378 to R380) -/

/-- Nothing is sent by a unit that is off or whose lanes are not trained. -/
theorem sendFlit_off {s : State} (b : FlitBody) (h : s.kor.unitOn = false ∨ s.kor.trained = false) : sendFlit b s = s :=
  if_pos (by rcases h with h | h <;> simp [h])

section Trained

variable {s : State} (hon : s.kor.unitOn = true) (htrained : s.kor.trained = true)
include hon htrained

theorem sendFlit_heartbeat : sendFlit .heartbeat s = send (.flit (txHeader s.kor.txSeq s) .heartbeat) { s with kor := { s.kor with nakOut := false } } :=
  if_neg (by simp [hon, htrained])

theorem sendFlit_numbered {b : FlitBody} (hb : b ≠ .heartbeat) : sendFlit b s =
    if s.kor.txQueue = [] ∧ s.kor.replay.length < replaySlots then sendSequenced b s
    else { s with kor := { s.kor with txQueue := s.kor.txQueue ++ [b] } } := by
  rw [sendFlit, if_neg (by simp [hon, htrained])]
  cases b with
  | heartbeat => exact absurd rfl hb
  | _ => exact hb

theorem sendFlit_waits {b : FlitBody} (hb : b ≠ .heartbeat) (hfull : s.kor.txQueue ≠ [] ∨ replaySlots ≤ s.kor.replay.length) :
    sendFlit b s = { s with kor := { s.kor with txQueue := s.kor.txQueue ++ [b] } } := by
  rw [sendFlit_numbered hon htrained hb, if_neg]
  rintro ⟨hqueue, hroom⟩
  exact hfull.elim (· hqueue) (Nat.not_le.2 hroom)

theorem sendFlit_sequenced {b : FlitBody} (hb : b ≠ .heartbeat) (hqueue : s.kor.txQueue = []) (hroom : s.kor.replay.length < replaySlots) :
    sendFlit b s = sendSequenced b s := by
  rw [sendFlit_numbered hon htrained hb, if_pos ⟨hqueue, hroom⟩]

end Trained

/-- Every flit of a list is sent with its own number. -/
theorem foldl_resent (l : List (Nat × FlitBody)) (s : State) : l.foldl (fun t e => send (.flit (txHeader e.1 t) e.2) t) s =
    { s with out := s.out ++ l.map (fun e => .flit (txHeader e.1 s) e.2) } := by
  induction l generalizing s with
  | nil => simp
  | cons e l ih =>
    have hheader (x : Nat) : txHeader x (send (.flit (txHeader e.1 s) e.2) s) = txHeader x s := rfl
    rw [List.foldl_cons, ih]
    simp only [hheader, List.map_cons]
    simp [send]

theorem replayAll_empty {s : State} (h : s.kor.replay = []) : replayAll s = s := if_pos h

theorem replayAll_effect {s : State} (h : s.kor.replay ≠ []) : (replayAll s).kor = { s.kor with replays := satAdd 16 s.kor.replays 1 } ∧
    (replayAll s).raised = s.raised ++ [⟨0x090C, 0x05, [(2, s.kor.replay.length)]⟩] ∧
    (replayAll s).out = s.out ++ s.kor.replay.map (fun e => .flit (txHeader e.1 s) e.2) := by
  unfold replayAll
  extract_lets s1
  rw [if_neg h, foldl_resent]
  exact ⟨rfl, rfl, rfl⟩

/-! ### The exchange (R373) -/

/-- The link of `v` afresh, with `l` sent of it so far. -/
structure Opened (v : State) (l : List (Nat × FlitBody)) (t : State) : Prop where
  kor : t.kor = { v.kor with txSeq := l.length, replay := l }
  wrp : t.wrp = v.wrp

theorem Opened.send {v t : State} {l : List (Nat × FlitBody)} (h : Opened v l t) (hon : v.kor.unitOn = true) (htrained : v.kor.trained = true)
    (hqueue : v.kor.txQueue = []) (hnak : v.kor.nakOut = false) (hshort : l.length < 10) (m : KMsg) :
    Opened v (l ++ [(l.length + 1, .control [m])]) (sendMsg m t) := by
  have hroom : t.kor.replay.length < replaySlots := by
    rw [h.kor]
    exact hshort.trans (by decide)
  have hnumber : wrapAdd 16 t.kor.txSeq 1 = l.length + 1 := by
    rw [h.kor]
    simp only [wrapAdd]
    omega
  rw [sendMsg, sendFlit_sequenced (by rw [h.kor]; exact hon) (by rw [h.kor]; exact htrained) (by simp) (by rw [h.kor]; exact hqueue) hroom]
  refine ⟨?_, h.wrp⟩
  simp only [sendSequenced, send_kor, hnumber]
  rw [h.kor]
  simp [hnak]

/-- STATE and the four parts of the digest go out as flits 1 to 5 of a link afresh. -/
theorem sendExchange_opened {v : State} (hon : v.kor.unitOn = true) (htrained : v.kor.trained = true) (hqueue : v.kor.txQueue = [])
    (hnak : v.kor.nakOut = false) (hseq : v.kor.txSeq = 0) (hempty : v.kor.replay = []) :
    Opened v ((1, .control [stateMsg v]) :: (List.range 4).map (fun k => (k + 2, .control [.digest k (digestPart v k)]))) (sendExchange v) := by
  have hsend {l : List (Nat × FlitBody)} {t : State} (ht : Opened v l t) (hshort : l.length < 10) (m : KMsg) :=
    ht.send hon htrained hqueue hnak hshort m
  have hpart {l : List (Nat × FlitBody)} {t : State} (ht : Opened v l t) (k : Nat) : digestPart t k = digestPart v k :=
    digestPart_of_entries (fun r => congrArg Region.entry (region_of_wrp ht.wrp r)) k
  have hdigest {l : List (Nat × FlitBody)} {t : State} (ht : Opened v l t) (hshort : l.length < 10) (k : Nat) :
      Opened v (l ++ [(l.length + 1, .control [.digest k (digestPart v k)])]) (sendMsg (.digest k (digestPart t k)) t) := by
    rw [hpart ht k]
    exact hsend ht hshort _
  have hnone : Opened v [] v := ⟨by rw [List.length_nil, ← hseq, ← hempty], rfl⟩
  have hstate := hsend hnone (by simp) (stateMsg v)
  exact hdigest (hdigest (hdigest (hdigest hstate (by simp) 0) (by simp) 1) (by simp) 2) (by simp) 3

/-! ### Training (R373, R389) -/

/-- A link that has trained starts afresh; its acknowledgement stands below the next number of this side. -/
def linkAfresh (width : Nat) (s : State) : State := { s with kor := { s.kor with
  trainingOn := false, trained := true, up := false, stateSeen := false, digestSeen := [], width := if width = 4 then 4 else 8
  txSeq := 0, rxSeq := 0, rxIdx := 15, replay := [], txQueue := [], nakOut := false, swapReqOut := false, rxSwap := none, txSwap := none
  mack := (s.kor.mseqNext + 0xFFFFFFFF) % 0x100000000, held := [], heldPoison := [], sameSide := false, digestBad := false } }

theorem korricTrainingDone_ignored {s : State} {ok : Bool} (width : Nat)
    (h : s.kor.unitOn = false ∨ s.kor.state ≠ .deciding ∧ (s.kor.trainingOn = false ∨ s.kor.state ≠ .training ∧ s.kor.state ≠ .solo) ∨
      s.kor.state = .deciding ∧ (ok = false ∨ s.kor.asking = true)) : exec (.korricTrainingDone ok width) s = .next s := by
  show execKorricTrainingDone ok width s = _
  rw [execKorricTrainingDone, if_neg, if_pos]
  · rcases h with h | ⟨_, h | h⟩ | ⟨h, _⟩ <;> simp [h]
  · rcases h with h | ⟨h, _⟩ | ⟨_, h | h⟩ <;> simp [h]

/-- The fast retrain of a decision has the lanes back: its exchange begins. -/
theorem korricTrainingDone_deciding {s : State} (width : Nat) (hon : s.kor.unitOn = true) (hstate : s.kor.state = .deciding)
    (hasking : s.kor.asking = false) : exec (.korricTrainingDone true width) s =
      .next (sendExchange { s with kor := { s.kor with trained := true, width := retrainWidth s } }) := by
  show execKorricTrainingDone true width s = _
  rw [execKorricTrainingDone, if_pos (by simp [hon, hstate, hasking])]

section Training

variable {s : State} (hon : s.kor.unitOn = true) (htraining : s.kor.trainingOn = true) (hstate : s.kor.state = .training ∨ s.kor.state = .solo)
include hon htraining hstate

theorem korricTrainingDone_failed (width : Nat) : exec (.korricTrainingDone false width) s =
    .next { s with kor := { s.kor with trainingOn := decide (s.kor.state = .training) } } := by
  show execKorricTrainingDone false width s = _
  rw [execKorricTrainingDone, if_neg (by simp), if_neg (by rcases hstate with h | h <;> simp [hon, htraining, h]), if_pos (by simp)]

theorem korricTrainingDone_passed (width : Nat) : exec (.korricTrainingDone true width) s = .next (sendExchange (linkAfresh width s)) := by
  show execKorricTrainingDone true width s = _
  rw [execKorricTrainingDone, if_neg (by rcases hstate with h | h <;> simp [h]),
    if_neg (by rcases hstate with h | h <;> simp [hon, htraining, h]), if_neg (by simp), numberBelow_eq]
  rfl

end Training

theorem trainingRetry_starts {s : State} (hon : s.kor.unitOn = true) (hsolo : s.kor.state = .solo) :
    exec .trainingRetry s = .next { s with kor := { s.kor with trainingOn := true } } :=
  congrArg Host.Outcome.next (if_pos ⟨hon, hsolo⟩)

theorem trainingRetry_ignored {s : State} (h : s.kor.unitOn = false ∨ s.kor.state ≠ .solo) : exec .trainingRetry s = .next s :=
  congrArg Host.Outcome.next (if_neg (by rcases h with h | h <;> simp [h]))

/-! ### Headers, acknowledgements and pressure (R378, R382, R384, R394) -/

theorem fullMack_of_kor {s t : State} (lo : Nat) (hmack : t.kor.mack = s.kor.mack) (hnext : t.kor.mseqNext = s.kor.mseqNext) :
    fullMack t lo = fullMack s lo := by simp only [fullMack, hmack, hnext]

/-- A replay leaves what the acknowledgements refer to. -/
theorem fullMack_replayAll (lo : Nat) (s : State) : fullMack (replayAll s) lo = fullMack s lo := by
  by_cases h : s.kor.replay = []
  · rw [replayAll_empty h]
  · have hkor := (replayAll_effect h).1
    exact fullMack_of_kor lo (by rw [hkor]) (by rw [hkor])

/-- What a header leaves to be acknowledged and repaired. -/
def flitAcked (h : FlitHdr) (s : State) : State :=
  repairSend (drainQueue { s with kor := { s.kor with replay := afterFack h.fack s.kor.replay } })

/-- A header's acknowledgements, NAK and pressure. -/
def headerNoted (h : FlitHdr) (u : State) : State :=
  takePressure h.pressure (takeMack (fullMack u h.mackLo) (if h.nak then replayAll u else u))

theorem takeHeader_eq (h : FlitHdr) (s : State) : takeHeader h s =
    if h.dumping then partnerDumping (headerNoted h (flitAcked h s)) else headerNoted h (flitAcked h s) := by
  have hmack (u : State) : fullMack (if h.nak then replayAll u else u) h.mackLo = fullMack u h.mackLo := by
    split
    · exact fullMack_replayAll _ u
    · rfl
  rw [headerNoted, ← hmack]
  rfl

/-- Marks that an acknowledgement up to `m` meets, but for the granule being resent. -/
def marksMet (m : Nat) (s : State) : List (Nat × Nat) :=
  s.kor.marks.filter (fun e => seqLe e.2 m && !(s.kor.resendAt.any (fun a => a.1 = e.1)))

/-- The writes that an acknowledgement up to `m` covers are acknowledged. -/
def writeAcked (m : Nat) (w : WriteRec) : WriteRec := match w.mirror with
  | .waiting q => if seqLe q m then { w with mirror := .acked } else w
  | _ => w

/-- An acknowledgement up to `m` noted: the writes, the lines and the marks that it covers. -/
def mackNoted (m : Nat) (s : State) : State := useFree { s with
  hlk := { s.hlk with writes := s.hlk.writes.map (writeAcked m) }
  kor := { s.kor with mack := m, rtt := elapsedNow 32 s, rttMax := max s.kor.rttMax (elapsedNow 32 s)
                      resyncOut := s.kor.resyncOut.filter (fun q => !seqLe q m)
                      marks := s.kor.marks.filter (fun e => !((marksMet m s).contains e)) } }

theorem takeMack_new {m : Nat} {s : State} (h : m ≠ s.kor.mack) : takeMack m s =
    resendKick (settle ((marksMet m s).foldl (fun u e => setStale e.1 false u) (mackNoted m s))) := if_neg h

theorem mem_marksMet {m : Nat} {s : State} {e : Nat × Nat} : e ∈ marksMet m s ↔
    e ∈ s.kor.marks ∧ seqLe e.2 m = true ∧ ∀ a, s.kor.resendAt = some a → a.1 ≠ e.1 := by
  cases hat : s.kor.resendAt <;> simp [marksMet, hat]

theorem writeAcked_mirror (m : Nat) (w : WriteRec) : (writeAcked m w).mirror = match w.mirror with
    | .waiting q => if seqLe q m = true then .acked else .waiting q
    | x => x := by
  unfold writeAcked
  cases hw : w.mirror with
  | waiting q =>
    dsimp only
    split
    · rfl
    · exact hw
  | _ => exact hw

theorem mackNoted_keeps (m : Nat) (s : State) : Keeps 0x408010 s (mackNoted m s) :=
  (Keeps.refl _ s).direct (fun p hp => by cases p <;> simp_all [Part.bit, Part.same, mackNoted, useFree])

/-- The partner's pressure noted, with the writes that wait for it. -/
def pressureNoted (on : Bool) (s : State) : State :=
  let t := raise 0x090A 0x05 [(1, flag on)] { s with kor := { s.kor with pressureIn := on } }
  if on then pressWrites t else t

theorem takePressure_of_same {on : Bool} {s : State} (h : s.kor.pressureIn = on) : takePressure on s = s := if_pos h

theorem takePressure_changed {on : Bool} {s : State} (h : s.kor.pressureIn ≠ on) : takePressure on s = refreshRegime (pressureNoted on s) := if_neg h

theorem pressureNoted_kor (on : Bool) (s : State) : (pressureNoted on s).kor = { s.kor with pressureIn := on } := by cases on <;> rfl

theorem pressureNoted_raised (on : Bool) (s : State) : (pressureNoted on s).raised = s.raised ++ [⟨0x090A, 0x05, [(1, flag on)]⟩] := by
  cases on <;> rfl

/-- Pressure that changes is noted, logged, and nothing else of the pair. -/
theorem takePressure_effect {on : Bool} {s : State} (h : s.kor.pressureIn ≠ on) : (takePressure on s).kor = { s.kor with pressureIn := on } ∧
    ∃ l, (takePressure on s).raised = s.raised ++ ⟨0x090A, 0x05, [(1, flag on)]⟩ :: l := by
  rw [takePressure_changed h]
  refine ⟨((refreshRegime_keeps (m := 0x102000) (by decide) (Keeps.refl _ _)).korEq (by decide)).trans (pressureNoted_kor on s), ?_⟩
  obtain ⟨l, hl⟩ := raised_prefix_refreshRegime (pressureNoted on s)
  exact ⟨l, by rw [← hl, pressureNoted_raised, List.append_assoc]; rfl⟩

theorem partnerDumping_deciding {s : State} (h : s.kor.state = .deciding) : partnerDumping s = takeoverResume (decideSolo 4 true s) := by
  rw [partnerDumping, h]

theorem partnerDumping_paired {s : State} (h : s.kor.state = .mirrored ∨ s.kor.state = .resync) : partnerDumping s = enterSolo 4 true s := by
  rcases h with h | h <;> rw [partnerDumping, h]

theorem partnerDumping_alone {s : State} (h : s.kor.state = .unpaired ∨ s.kor.state = .training ∨ s.kor.state = .solo) :
    partnerDumping s = s := by
  rcases h with h | h | h <;> rw [partnerDumping, h]

/-! ### Silence and the decision (R389, R391) -/

/-- Silence noted: the state before, one decision more, and the writes that wait for the partner held. -/
def decisionOpened (s : State) : State := { s with
  kor := { s.kor with before := s.kor.state, decisions := satAdd 16 s.kor.decisions 1, asking := false }
  hlk := { s.hlk with writes := s.hlk.writes.map (fun w => match w.mirror with
    | .waiting _ => { w with everHeld := true }
    | _ => w) } }

theorem beginDecision_eq (s : State) : beginDecision s = raise 0x0903 0x05 [] (setPair .deciding 0 (decisionOpened s)) := rfl

theorem decisionOpened_held {s : State} {w : WriteRec} (hw : w ∈ (decisionOpened s).hlk.writes) {q : Nat} (hwaits : w.mirror = .waiting q) :
    w.everHeld = true := by
  obtain ⟨w0, _, rfl⟩ := List.mem_map.1 hw
  cases hmirror : w0.mirror <;> simp_all

theorem beginDecision_effect {s : State} (h : s.kor.state ≠ .deciding) :
    (beginDecision s).kor = { s.kor with state := .deciding, before := s.kor.state, decisions := satAdd 16 s.kor.decisions 1, asking := false } ∧
    (∃ l, (beginDecision s).raised = s.raised ++ ⟨0x0905, 0x05, [(1, pairCode s.kor.state), (1, 3), (1, 0)]⟩ :: l ++ [⟨0x0903, 0x05, []⟩] ∧
      ∀ e ∈ l, e.id = 0x0303) ∧
    ∀ w ∈ (beginDecision s).hlk.writes, ∀ q, w.mirror = .waiting q → w.everHeld = true := by
  have hhlk : (setPair .deciding 0 (decisionOpened s)).hlk = (decisionOpened s).hlk :=
    (setPair_keeps (m := 0x308020) _ _ (by decide) (Keeps.refl _ _)).hlkEq (by decide)
  obtain ⟨⟨l, hraised, hids⟩, _⟩ := setPair_reports (p := .deciding) (s := decisionOpened s) 0 h
  rw [beginDecision_eq]
  refine ⟨(raise_kor ..).trans (setPair_kor ..), ⟨l, ?_, hids⟩, fun w hw q hwaits => ?_⟩
  · rw [raise_raised, hraised]
    rfl
  · rw [raise_hlk, hhlk] at hw
    exact decisionOpened_held hw hwaits

theorem beginDecision_keeps_self (s : State) : Keeps 0x308030 s (beginDecision s) := beginDecision_keeps (by decide) (Keeps.refl _ s)

theorem silenceTimeout_paired {s : State} (h : s.kor.state = .mirrored ∨ s.kor.state = .resync) :
    exec .silenceTimeout s = .next (beginDecision s) := by
  show execSilenceTimeout s = _
  rcases h with h | h <;> rw [execSilenceTimeout, h]

theorem silenceTimeout_training {s : State} (h : s.kor.state = .training) : exec .silenceTimeout s =
    .next (if s.kor.fromSolo ∧ s.kor.up then enterSolo 0 false s
      else { s with kor := { s.kor with trained := false, up := false, width := 0, trainingOn := true } }) := by
  show execSilenceTimeout s = _
  rw [execSilenceTimeout, h]

theorem silenceTimeout_solo {s : State} (h : s.kor.state = .solo) :
    exec .silenceTimeout s = .next { s with kor := { s.kor with trained := false, up := false, width := 0 } } := by
  show execSilenceTimeout s = _
  rw [execSilenceTimeout, h]

theorem silenceTimeout_ignored {s : State} (h : s.kor.state = .unpaired ∨ s.kor.state = .deciding) : exec .silenceTimeout s = .next s := by
  show execSilenceTimeout s = _
  rcases h with h | h <;> rw [execSilenceTimeout, h]

theorem fastRetrainDone_ignored {s : State} (ok : Bool) (h : s.kor.state ≠ .deciding ∨ s.kor.asking = true) :
    exec (.fastRetrainDone ok) s = .next s :=
  congrArg Host.Outcome.next (if_pos h)

section Deciding

variable {s : State} (hstate : s.kor.state = .deciding) (hasking : s.kor.asking = false)
include hstate hasking

/-- The link is back: the pair returns to its state before, and the buffer is replayed. -/
theorem fastRetrainDone_passed : exec (.fastRetrainDone true) s = .next (takeoverResume (resendKick (settle (releaseNotices (replayAll
    (setPair s.kor.before 0 (decisionEnd s.kor.before (raise 0x0901 0x05 [(1, retrainWidth s), (1, flag s.kor.spareTx + 2 * flag s.kor.spareRx)]
      { s with kor := { s.kor with retrain := 1, trained := true, up := true, width := retrainWidth s, nakOut := false } })))))))) := by
  show execFastRetrainDone true s = _
  rw [execFastRetrainDone, if_neg (by simp [hstate, hasking]), if_pos rfl]

theorem fastRetrainDone_failed : exec (.fastRetrainDone false) s = .next (takeoverResume (askWitness .decision
    { s with kor := { s.kor with retrain := 2, asking := true, trained := false, up := false, width := 0 } })) := by
  show execFastRetrainDone false s = _
  rw [execFastRetrainDone, if_neg (by simp [hstate, hasking]), if_neg Bool.false_ne_true]

end Deciding

/-! ### Lanes (R387, R388) -/

theorem laneFault_unheard {s : State} (lane symbols received : Nat) (lost : Bool) (h : korHears s = false) :
    exec (.laneFault lane lost symbols received) s = .next s := by
  show execLaneFault lane lost symbols received s = _
  simp [execLaneFault, h]

/-- A receive lane marked as faulted. -/
def laneFaulted (lane : Nat) (v : State) : State := { v with kor := { v.kor with rxFailed := setBit v.kor.rxFailed lane } }

section LaneFault

variable {s : State} {lane symbols : Nat} {lost : Bool} (received : Nat) (hhears : korHears s = true)
include hhears

theorem laneFault_counted (h : s.kor.rxFailed.testBit lane = true ∨ lost = false ∧ symbols ≤ s.kor.swapThresh) :
    exec (.laneFault lane lost symbols received) s = .next (countSymbols symbols s) := by
  have hstill : korHears (countSymbols symbols s) = true := hhears
  show execLaneFault lane lost symbols received s = _
  simp only [execLaneFault, if_pos hhears]
  rw [if_pos]
  rcases h with h | ⟨hlost, hfew⟩
  · exact .inr (.inl h)
  · exact .inr (.inr ⟨by simp [hlost], hfew⟩)

variable (hgood : s.kor.rxFailed.testBit lane = false) (hbad : lost = true ∨ s.kor.swapThresh < symbols)
include hgood hbad

theorem laneFault_faulted : exec (.laneFault lane lost symbols received) s = .next (
    if s.kor.spareRx = true ∨ s.kor.rxSwap.isSome = true then
      { laneFaulted lane (countSymbols symbols s) with kor := { (laneFaulted lane (countSymbols symbols s)).kor with trained := false } }
    else sendMsg (.laneSwap (flag (!lost)) lane ((received + 128) % 2 ^ 32)) { laneFaulted lane (countSymbols symbols s) with
      kor := { (laneFaulted lane (countSymbols symbols s)).kor with
        rxSwap := some (lane, flag (!lost), (received + 128) % 2 ^ 32), swapReqOut := true } }) := by
  have hstill : korHears (countSymbols symbols s) = true := hhears
  have hgood : (countSymbols symbols s).kor.rxFailed.testBit lane = false := hgood
  have hbad : ¬ ((!lost) = true ∧ symbols ≤ (countSymbols symbols s).kor.swapThresh) := by
    rintro ⟨hkept, hfew⟩
    rcases hbad with hlost | hmany
    · simp [hlost] at hkept
    · exact Nat.not_le.2 hmany hfew
  show execLaneFault lane lost symbols received s = _
  simp only [execLaneFault, if_pos hhears]
  rw [if_neg (by simp only [hstill, hgood]; simpa using hbad)]
  rfl

end LaneFault

theorem laneSwitch_tx_none {s : State} (h : s.kor.txSwap = none) : exec (.laneSwitch true) s = .next s := by
  show execLaneSwitch true s = _
  simp [execLaneSwitch, h]

theorem laneSwitch_tx {s : State} {lane cause cw : Nat} (h : s.kor.txSwap = some (lane, cause, cw)) : exec (.laneSwitch true) s =
    .next (sendMsg (.laneSwapAck lane cw) (raise 0x0902 0x05 [(1, 0), (1, lane), (1, cause)]
      { s with kor := { s.kor with spareTx := true, txSwap := none, swaps := satAdd 16 s.kor.swaps 1 } })) := by
  show execLaneSwitch true s = _
  simp [execLaneSwitch, h]

theorem laneSwitch_rx_none {s : State} (h : s.kor.rxSwap = none ∨ s.kor.spareRx = true) : exec (.laneSwitch false) s = .next s := by
  show execLaneSwitch false s = _
  cases hswap : s.kor.rxSwap with
  | none => simp [execLaneSwitch, hswap]
  | some x => simp [execLaneSwitch, hswap, h.resolve_left (by simp [hswap])]

theorem laneSwitch_rx {s : State} {lane cause cw : Nat} (h : s.kor.rxSwap = some (lane, cause, cw)) (hspare : s.kor.spareRx = false) :
    exec (.laneSwitch false) s = .next (raise 0x0902 0x05 [(1, 1), (1, lane), (1, cause)]
      { s with kor := { s.kor with spareRx := true, swapReqOut := false, swaps := satAdd 16 s.kor.swaps 1 } }) := by
  show execLaneSwitch false s = _
  simp [execLaneSwitch, h, hspare]

/-! ### The statement -/

/-- Settles O40: a clause for flits and their replay, for training, for headers and what they carry, for silence and the retrain, and for lanes
(R373 to R375, R378 to R391, R394; log 6, 77). -/
theorem pairLink : Obligations.PairLink := by
  unfold Obligations.PairLink
  refine ⟨?sent, ?off, ?heartbeatTimer, ?training, ?retry, ?replay, ?corrupt, ?heartbeat, ?mack, ?pressure, ?dumping, ?silence, ?retrain,
    ?decisionEnd, ?laneFault, ?laneSwitch⟩
  case sent =>
    rintro s b n hb hon htrained rfl
    refine ⟨sendFlit_waits hon htrained hb, fun hqueue hroom => ?_⟩
    rw [sendFlit_sequenced hon htrained hb hqueue hroom]
    exact ⟨_, rfl, rfl, rfl, fr (m := 0x208000) (sendSequenced_keeps b (by decide) (Keeps.refl _ s)) (by decide)⟩
  case off =>
    intro s b hoff
    exact ⟨sendFlit_off b hoff, congrArg Host.Outcome.next (sendFlit_off .heartbeat hoff)⟩
  case heartbeatTimer =>
    intro s hon htrained
    refine ⟨_, congrArg Host.Outcome.next (sendFlit_heartbeat hon htrained), rfl, rfl, ?_⟩
    exact fr (m := 0x208000) (send_keeps _ (by decide) ((keeps_kor _).mono (by decide))) (by decide)
  case training =>
    intro s ok w
    refine ⟨korricTrainingDone_ignored w, fun hon hstate hasking => ⟨_, rfl, korricTrainingDone_deciding w hon hstate hasking⟩, ?_⟩
    intro hon htraining hstate
    have hafresh : Keeps 0x8000 s (linkAfresh w s) := keeps_kor _
    obtain ⟨hkor, _⟩ := sendExchange_opened (v := linkAfresh w s) hon rfl rfl rfl rfl rfl
    refine ⟨korricTrainingDone_failed hon htraining hstate w, linkAfresh w s, _, korricTrainingDone_passed hon htraining hstate w, rfl,
      fr hafresh (by decide), rfl, rfl, rfl, rfl, rfl, rfl, rfl, rfl, ?_, ?_, ?_⟩
    · rw [hkor]
      rfl
    · rw [hkor]
    · exact fr (m := 0x208000) (sendExchange_keeps (by decide) (hafresh.mono (by decide))) (by decide)
  case retry => exact fun s => ⟨trainingRetry_starts, trainingRetry_ignored⟩
  case replay =>
    intro s
    have hidle (h : korHears s = false ∨ s.kor.replay = []) : (if korHears s then replayAll s else s) = s := by
      rcases h with h | h
      · rw [if_neg (by simp [h])]
      · rw [replayAll_empty h, ite_self]
    refine ⟨fun h => congrArg Host.Outcome.next (hidle h), fun hhears hsome => ?_⟩
    obtain ⟨hkor, hraised, hout⟩ := replayAll_effect hsome
    exact ⟨_, congrArg Host.Outcome.next (if_pos hhears), hraised, hkor, hout,
      fr (m := 0x308000) (replayAll_keeps (by decide) (Keeps.refl _ s)) (by decide)⟩
  case corrupt =>
    exact fun s bad => ⟨fun hno => congrArg Host.Outcome.next (if_pos (by simp [hno])),
      fun hhears => congrArg Host.Outcome.next (if_neg (by simp [hhears]))⟩
  case heartbeat =>
    intro s h
    refine ⟨fun hno => congrArg Host.Outcome.next (if_neg (by simp [hno])), fun hhears => ⟨flitAcked h s, headerNoted h (flitAcked h s), rfl, rfl, ?_⟩⟩
    exact congrArg Host.Outcome.next ((if_pos hhears).trans (takeHeader_eq h s))
  case mack =>
    intro s m hnew
    refine ⟨mackNoted m s, marksMet m s, takeMack_new hnew, rfl, fun e => mem_marksMet, fun q => ?_, fun e => ?_, ?_,
      fr (mackNoted_keeps m s) (by decide)⟩
    · simp [mackNoted, useFree]
    · simp [mackNoted, useFree]
    · simp only [mackNoted, useFree, List.map_map]
      exact List.map_congr_left (fun w _ => writeAcked_mirror m w)
  case pressure =>
    intro s on
    refine ⟨takePressure_of_same, fun hchanged => ?_⟩
    obtain ⟨hkor, l, hraised⟩ := takePressure_effect hchanged
    exact ⟨_, l, rfl, hkor, hraised, fr (m := 0x10a030) (takePressure_keeps on (by decide) (Keeps.refl _ s)) (by decide)⟩
  case dumping => exact fun s => ⟨partnerDumping_deciding, partnerDumping_paired, partnerDumping_alone⟩
  case silence =>
    intro s
    refine ⟨fun hpaired => ?_, fun htraining hsolo hup => ?_, fun htraining hnot => ?_, silenceTimeout_solo, silenceTimeout_ignored⟩
    · obtain ⟨hkor, ⟨l, hraised, hids⟩, hheld⟩ := beginDecision_effect (s := s) (by rcases hpaired with h | h <;> simp [h])
      exact ⟨_, l, silenceTimeout_paired hpaired, hkor, hraised, hids, hheld, fr (beginDecision_keeps_self s) (by decide)⟩
    · rw [silenceTimeout_training htraining, if_pos ⟨hsolo, hup⟩]
    · rw [silenceTimeout_training htraining, if_neg (by rcases hnot with h | h <;> simp [h])]
  case retrain =>
    intro s ok
    exact ⟨fastRetrainDone_ignored ok, fun hstate hasking =>
      ⟨⟨_, rfl, fastRetrainDone_passed hstate hasking⟩, _, rfl, fastRetrainDone_failed hstate hasking⟩⟩
  case decisionEnd =>
    intro s p
    exact ⟨_, elapsedNow 32 s, rfl, rfl, rfl, fr (m := 0x508000) (decisionEnd_keeps p (by decide) (Keeps.refl _ s)) (by decide)⟩
  case laneFault =>
    intro s lane symbols received lost
    refine ⟨laneFault_unheard lane symbols received lost, fun hhears => ⟨countSymbols symbols s, rfl, laneFault_counted received hhears, ?_⟩⟩
    intro hgood hbad
    rw [laneFault_faulted received hhears hgood hbad]
    refine ⟨laneFaulted lane (countSymbols symbols s), if lost then 0 else 1, rfl, rfl, fun hlost => ?_, fun hspare hswap => ⟨_, rfl, ?_⟩⟩
    · rw [if_pos (by rw [Option.isSome_iff_ne_none]; exact hlost)]
    · rw [if_neg (by simp [hspare, hswap])]
      cases lost <;> rfl
  case laneSwitch =>
    exact fun s => ⟨laneSwitch_tx_none, laneSwitch_rx_none, fun lane cause cw => laneSwitch_tx, fun lane cause cw => laneSwitch_rx⟩

end Sys2Proof.Machine
end

section
/-!
PROOFS. The witness, SOLO and the takeover commands (R389, R392, R393, R397 to R400, R418): what a query records and what follows its answer,
what the entry into SOLO leaves, one equation for each case of a takeover, and the statement about them.
-/

namespace Sys2Proof.Machine

/-! ### The entry into SOLO (R137, R389, R392) -/

theorem takePressure_kor (on : Bool) (s : State) : (takePressure on s).kor = { s.kor with pressureIn := on } := by
  by_cases h : s.kor.pressureIn = on
  · rw [takePressure_of_same h, ← h]
  · exact (takePressure_effect h).1

theorem raised_prefix_takePressure (on : Bool) (s : State) : s.raised <+: (takePressure on s).raised := by
  by_cases h : s.kor.pressureIn = on
  · rw [takePressure_of_same h]
  · obtain ⟨_, l, hl⟩ := takePressure_effect h
    exact ⟨_, hl.symm⟩

theorem pendRelease_kor (first count : Nat) (s : State) : ∃ l b, (pendRelease first count s).kor = { s.kor with pendRel := l, fullResync := b } := by
  unfold pendRelease
  split
  · exact ⟨_, _, rfl⟩
  · split
    · exact ⟨_, _, rfl⟩
    · exact ⟨_, _, rfl⟩

theorem raised_prefix_pendRelease (first count : Nat) (s : State) : s.raised <+: (pendRelease first count s).raised := by
  unfold pendRelease
  split
  · exact List.prefix_rfl
  · split
    · exact List.prefix_rfl
    · exact List.prefix_append _ _

theorem pendRelease_out (first count : Nat) (s : State) : (pendRelease first count s).out = s.out :=
  (pendRelease_keeps (m := 0x108000) first count (by decide) (Keeps.refl _ s)).outEq (by decide)

theorem releaseOver_kor (e : RelWait) (s : State) : (releaseOver e s).kor = s.kor := rfl

/-- The ends of the commands that wait for the partner: each reports and answers, its range pending. -/
theorem releasesEnded_effect (l : List RelWait) (s : State) : ∃ t, t = l.foldl (fun t e => releaseOver e (pendRelease e.first e.count t)) s ∧
    (∃ p b, t.kor = { s.kor with pendRel := p, fullResync := b }) ∧ s.raised <+: t.raised ∧ s.out <+: t.out := by
  induction l generalizing s with
  | nil => exact ⟨s, rfl, ⟨_, _, rfl⟩, List.prefix_rfl, List.prefix_rfl⟩
  | cons e l ih =>
    obtain ⟨t, ht, ⟨p, b, hkor⟩, hraised, hout⟩ := ih (releaseOver e (pendRelease e.first e.count s))
    obtain ⟨p', b', hkor'⟩ := pendRelease_kor e.first e.count s
    refine ⟨t, ht, ⟨p, b, ?_⟩, ?_, ?_⟩
    · rw [hkor, releaseOver_kor, hkor']
    · exact ((raised_prefix_pendRelease e.first e.count s).trans (List.prefix_append _ _)).trans hraised
    · exact (((pendRelease_out e.first e.count s) ▸ List.prefix_append _ _ : s.out <+: (releaseOver e (pendRelease e.first e.count s)).out)).trans hout

theorem releaseAlone_effect (s : State) : (∃ p b, (releaseAlone s).kor = { s.kor with relWait := [], pendRel := p, fullResync := b }) ∧
    s.raised <+: (releaseAlone s).raised ∧ s.out <+: (releaseAlone s).out := by
  obtain ⟨t, ht, hkor, hraised, hout⟩ := releasesEnded_effect s.kor.relWait { s with kor := { s.kor with relWait := [] } }
  rw [releaseAlone, ← ht]
  exact ⟨hkor, hraised, hout⟩

theorem dropLegs_hlk (s : State) : (dropLegs s).hlk = { s.hlk with writes := s.hlk.writes.map dropLeg } := by
  have hstale (l : List WriteRec) (t : State) : Keeps 0x180040 t (l.foldl (fun t w => setStale (granuleOf w.line) true t) t) :=
    Keeps.foldl (fun u w => setStale_keeps _ true (by decide) (Keeps.refl _ u)) (Keeps.refl _ t)
  exact (hstale _ { s with hlk := { s.hlk with writes := s.hlk.writes.map dropLeg } }).hlkEq (by decide)

theorem dropLeg_mirror (w : WriteRec) (q : Nat) : (dropLeg w).mirror ≠ .waiting q := by
  unfold dropLeg
  cases h : w.mirror <;> simp [h]

/-- The legs of the waiting writes dropped; a hold of the decision that ends is counted. -/
def legsDropped (s : State) : State :=
  dropLegs (if decide (s.kor.state = .deciding) && s.hlk.writes.any legWaits then noteHold .decision s else s)

/-- SOLO's own fields of the pair: its cause and what it ends. -/
def soloPair (cause : Nat) (live : Bool) (s : State) : Kor := { s.kor with
  soloCause := if cause = 0 then s.kor.soloCause else cause
  copiesCurrent := decide (cause = 1) && decide (s.kor.state = .deciding) && decide (s.kor.before = .mirrored)
  soloSec := s.evr.opSec, asking := false, opening := [], resend := [], resendAt := none, resyncOut := [], marks := []
  endSent := false, endSeen := false, repairOut := []
  trained := s.kor.trained && live, up := s.kor.up && live, width := if live then s.kor.width else 0
  rxSwap := none, txSwap := none, swapReqOut := false }

/-- The pair at its entry into SOLO, before the repairs are refused and the data path follows. -/
def soloEntered (cause : Nat) (live : Bool) (s : State) : State :=
  takePressure false (releaseAlone (setPair .solo (if cause = 0 then s.kor.soloCause else cause)
    { legsDropped s with kor := soloPair cause live s }))

theorem legsDropped_keeps (s : State) : Keeps 0x580050 s (legsDropped s) :=
  dropLegs_keeps (by decide) (Keeps.ite (noteHold_keeps .decision (by decide) (Keeps.refl _ s)) (Keeps.refl _ s))

theorem enterSolo_eq (cause : Nat) (live : Bool) (s : State) : enterSolo cause live s =
    settle ((soloEntered cause live s).kor.repairs.foldl (fun t a => repairRefused a t) (soloEntered cause live s)) := by
  have hkor : (legsDropped s).kor = s.kor := (legsDropped_keeps s).korEq (by decide)
  have hpair : soloPair cause live s = { (legsDropped s).kor with
      soloCause := if cause = 0 then s.kor.soloCause else cause
      copiesCurrent := decide (cause = 1) && decide (s.kor.state = .deciding) && decide (s.kor.before = .mirrored)
      soloSec := s.evr.opSec, asking := false, opening := [], resend := [], resendAt := none, resyncOut := [], marks := []
      endSent := false, endSeen := false, repairOut := []
      trained := s.kor.trained && live, up := s.kor.up && live, width := if live then s.kor.width else 0
      rxSwap := none, txSwap := none, swapReqOut := false } := by rw [hkor, soloPair]
  rw [soloEntered, hpair]
  rfl

theorem setPair_hlk (p : PairState) (cause : Nat) (s : State) : (setPair p cause s).hlk = s.hlk :=
  (setPair_keeps (m := 0x308020) p cause (by decide) (Keeps.refl _ s)).hlkEq (by decide)

theorem takePressure_false_hlk (s : State) : (takePressure false s).hlk = s.hlk := by
  by_cases h : s.kor.pressureIn = false
  · rw [takePressure_of_same h]
  · rw [takePressure_changed h]
    exact (refreshRegime_keeps (m := 0x102000) (by decide) (Keeps.refl _ _)).hlkEq (by decide)

/-- What the entry into SOLO leaves of the pair: its own fields, no command that waits for the partner, no pressure. -/
theorem soloEntered_kor (cause : Nat) (live : Bool) (s : State) : ∃ p b, (soloEntered cause live s).kor = { soloPair cause live s with
    state := .solo, relWait := [], pendRel := p, fullResync := b, pressureIn := false } := by
  obtain ⟨⟨p, b, hkor⟩, _⟩ := releaseAlone_effect (setPair .solo (if cause = 0 then s.kor.soloCause else cause)
    { legsDropped s with kor := soloPair cause live s })
  exact ⟨p, b, by rw [soloEntered, takePressure_kor, hkor, setPair_kor]⟩

/-- No write waits for the partner's acknowledgement any more. -/
theorem soloEntered_mirror {cause : Nat} {live : Bool} {s : State} {w : WriteRec} (hw : w ∈ (soloEntered cause live s).hlk.writes) (q : Nat) :
    w.mirror ≠ .waiting q := by
  have halone (t : State) : (releaseAlone t).hlk = t.hlk :=
    (releaseAlone_keeps (m := 0x308000) (by decide) (Keeps.refl _ t)).hlkEq (by decide)
  have hhlk : (soloEntered cause live s).hlk = (legsDropped s).hlk := by
    rw [soloEntered, takePressure_false_hlk, halone, setPair_hlk]
  rw [hhlk, legsDropped, dropLegs_hlk] at hw
  obtain ⟨w0, _, rfl⟩ := List.mem_map.1 hw
  exact dropLeg_mirror w0 q

/-- The entry is reported with its cause and signalled. -/
theorem soloEntered_reports {s : State} (cause : Nat) (live : Bool) (h : s.kor.state ≠ .solo) :
    ⟨0x0905, 0x05, [(1, pairCode s.kor.state), (1, 4), (1, if cause = 0 then s.kor.soloCause else cause)]⟩ ∈ (soloEntered cause live s).raised ∧
      .msix 8 ∈ (soloEntered cause live s).out := by
  set before : State := { legsDropped s with kor := soloPair cause live s }
  obtain ⟨⟨l, hraised, _⟩, hout⟩ := setPair_reports (p := .solo) (s := before) (if cause = 0 then s.kor.soloCause else cause) h
  obtain ⟨_, hraised', hout'⟩ := releaseAlone_effect (setPair .solo (if cause = 0 then s.kor.soloCause else cause) before)
  have houtPressure (t : State) : (takePressure false t).out = t.out :=
    (takePressure_keeps (m := 0x10a030) false (by decide) (Keeps.refl _ t)).outEq (by decide)
  refine ⟨(hraised'.trans (raised_prefix_takePressure false _)).subset ?_, ?_⟩
  · rw [hraised]
    exact List.mem_append_right _ (List.mem_cons_self ..)
  · rw [soloEntered, houtPressure]
    exact hout'.subset hout

theorem soloEntered_keeps (cause : Nat) (live : Bool) (s : State) : Keeps 0x78a070 s (soloEntered cause live s) := by
  have hlegs : Keeps 0x78a070 s { legsDropped s with kor := soloPair cause live s } :=
    .step (keeps_kor _) (by decide) ((legsDropped_keeps s).mono (by decide))
  exact takePressure_keeps false (by decide) (releaseAlone_keeps (by decide) (setPair_keeps _ _ (by decide) hlegs))

/-! ### Witness queries (R393, R418) -/

/-- A query counted. -/
def queryCounted (s : State) : State := { s with cwy := { s.cwy with queries := satAdd 16 s.cwy.queries 1 } }

section Query

variable {s : State} (why : WitnessFor)

theorem askWitness_wrongId (h : s.kor.wrongId = true) :
    askWitness why s = witnessResult why 3 (raise 0x0906 0x05 [(1, s.kor.pCwyId)] (queryCounted s)) := if_pos h

theorem noRing_iff : noRing s = true ↔ s.cwy.unit ≠ .on ∨ s.cwy.ringUp = false ∨ s.cwy.electing = true ∨ s.cwy.dupId = true := by
  simp [noRing, or_assoc]

theorem askWitness_noRing (hid : s.kor.wrongId = false) (h : noRing s = true) : askWitness why s = witnessResult why 3 (queryCounted s) := by
  rw [askWitness, if_neg (by simp [hid]), if_pos h]
  rfl

/-- A member asks the head, under a tag of its own. -/
theorem askWitness_asks (hid : s.kor.wrongId = false) (hring : noRing s = false) (hhead : s.cwy.isHead = false) : askWitness why s =
    send (.frame ⟨s.cwy.headId, s.cwy.myId, 64, s.cwy.nextTag, .witnessQ (s.cwy.myId ^^^ 1)⟩ true)
      { queryCounted s with cwy := { (queryCounted s).cwy with asking := some (why, s.cwy.nextTag), nextTag := wrapAdd 16 s.cwy.nextTag 1 } } := by
  rw [askWitness, if_neg (by simp [hid]), if_neg (by simp [hring]), if_neg (by simp [hhead])]
  rfl

end Query

theorem witnessResult_decision {s : State} (r : Nat) (hstate : s.kor.state = .deciding) (hasking : s.kor.asking = true) :
    witnessResult .decision r s = decideSolo r false (noteWitness r s) := if_pos ⟨hstate, hasking⟩

theorem witnessResult_dead {s : State} (hstate : s.kor.state = .training) (hup : s.kor.up = false) :
    witnessResult .training 1 s = soloSeven (noteWitness 1 s) := if_pos ⟨hstate, (congrArg not hup).trans rfl, rfl⟩

theorem witnessResult_notDead {r : Nat} (s : State) (h : r ≠ 1) : witnessResult .training r s = noteWitness r s :=
  if_neg (fun hdead => h hdead.2.2)

theorem witnessResult_takeover {s : State} {t : TakeoverCmd} (r : Nat) (ht : s.kor.takeover = some t) (hwait : t.wait = 1) :
    witnessResult .takeover r s = takeoverAnswer t r (noteWitness r s) := by
  have ht : (noteWitness r s).kor.takeover = some t := ht
  simp only [witnessResult, ht, if_pos hwait]

/-- The outstanding query ends with its result. -/
theorem endQuery_asking {s : State} {why : WitnessFor} {tag : Nat} (r : Nat) (h : s.cwy.asking = some (why, tag)) :
    endQuery r s = takeoverResume (witnessResult why r s) := by rw [endQuery, h]

/-- A good frame for this member, whose unit runs with an ID of its own, acts. -/
theorem frameArrive_acts {s : State} {f : Frame} (k : State → State) (hon : s.cwy.unit = .on) (hid : s.cwy.dupId = false)
    (hdst : f.dst = 0xFF ∨ f.dst = s.cwy.myId) : frameArrive f true k s = k s := by
  rw [frameArrive, if_neg (by simp [hon]), if_neg (by simp), if_neg]
  rw [hid]
  rintro (hdup | ⟨hall, hmine⟩)
  · cases hdup
  · exact hdst.elim hall hmine

/-- An answer about the partner under the outstanding tag ends the query; under another tag it changes nothing. -/
theorem witnessA_arrives {s : State} {why : WitnessFor} {tag : Nat} (src hops x target result : Nat) (hasking : s.cwy.asking = some (why, tag))
    (hon : s.cwy.unit = .on) (hid : s.cwy.dupId = false) (htarget : target = s.cwy.myId ^^^ 1) (hresult : result = 1 ∨ result = 2) :
    exec (.witnessA src s.cwy.myId hops x target result true) s = .next (if tag = x then endQuery result s else s) := by
  refine congrArg Host.Outcome.next ((frameArrive_acts _ hon hid (.inr rfl)).trans ?_)
  simp only [hasking, htarget, hresult, and_true]

theorem trainingQuery_asks {s : State} {c : Instr} (hc : c = .trainingTimeout ∨ c = .witnessRequery) (hon : s.kor.unitOn = true)
    (hstate : s.kor.state = .training) (hup : s.kor.up = false) (hnone : s.cwy.asking = none) : exec c s = .next (askWitness .training s) := by
  have hall : s.kor.unitOn = true ∧ s.kor.state = .training ∧ (!s.kor.up) = true ∧ s.cwy.asking.isNone = true := by simp [hon, hstate, hup, hnone]
  rcases hc with rfl | rfl <;> exact congrArg Host.Outcome.next (if_pos hall)

theorem trainingQuery_ignored {s : State} {c : Instr} (hc : c = .trainingTimeout ∨ c = .witnessRequery)
    (h : s.kor.unitOn = false ∨ s.kor.state ≠ .training ∨ s.kor.up = true ∨ s.cwy.asking ≠ none) : exec c s = .next s := by
  have hnot : ¬ (s.kor.unitOn = true ∧ s.kor.state = .training ∧ (!s.kor.up) = true ∧ s.cwy.asking.isNone = true) := by
    rintro ⟨hon, hstate, hup, hnone⟩
    simp_all
  rcases hc with rfl | rfl <;> exact congrArg Host.Outcome.next (if_neg hnot)

/-! ### Takeover commands (R397 to R400) -/

/-- The opcode of a takeover command. -/
def takeoverOp (force : Bool) : Nat := if force then 0xC007 else 0xC006

/-- A takeover command started: FORCE_TAKEOVER has been logged as it came (R398). -/
def takeoverStarted (via : Via) (force : Bool) (s : State) : State :=
  bgStart via (takeoverOp force) (if force then raise 0x0208 0x01 [] s else s)

theorem exec_takeover {s : State} {via : Via} {force : Bool} {c : Instr} (hserves : VendorServes via [.restore, .service] (!force) true s)
    (hc : force = false ∧ c = .takeover via ∨ force = true ∧ c = .forceTakeover via 0x4F4B5446) :
    exec c s = .next (takeoverRun ⟨via, force, 0, 0⟩ (takeoverStarted via force s)) := by
  obtain ⟨hcore, _⟩ := hserves.1
  rcases hc with ⟨rfl, rfl⟩ | ⟨rfl, rfl⟩
  · exact congrArg Host.Outcome.next (vendor_serves hserves)
  · have hserves' : VendorServes via [.restore, .service] false true (raise 0x0208 0x01 [] s) := hserves
    show execForceTakeover via 0x4F4B5446 s = _
    rw [execForceTakeover, if_pos hcore, vendor_serves hserves', if_neg (not_not.2 rfl)]
    rfl

/-- A wrong CONFIRM is refused. -/
theorem forceTakeover_unconfirmed {s : State} {via : Via} {n : Nat} (hserves : VendorServes via [.restore, .service] false true s)
    (hn : n ≠ 0x4F4B5446) : exec (.forceTakeover via n) s = .next (vendorRefuse via 0xC007 .invalidInput 0x000C (raise 0x0208 0x01 [] s)) := by
  obtain ⟨hcore, _⟩ := hserves.1
  have hserves' : VendorServes via [.restore, .service] false true (raise 0x0208 0x01 [] s) := hserves
  show execForceTakeover via n s = _
  rw [execForceTakeover, if_pos hcore, vendor_serves hserves', if_pos hn]

section Run

variable {t : TakeoverCmd} {s : State}

theorem takeoverRun_unpaired (h : s.kor.state = .unpaired ∨ s.kor.state = .solo ∧ s.kor.soloCause = 6) :
    takeoverRun t s = takeoverEnd t.force .unsupported 0x000B 0 s := if_pos h

theorem takeoverRun_deciding (h : s.kor.state = .deciding) :
    takeoverRun t s = { s with kor := { s.kor with takeover := some { t with wait := 0 } } } := by
  rw [takeoverRun, if_neg (by simp [h]), if_pos h]

theorem takeoverRun_paired (h : s.kor.state = .mirrored ∨ s.kor.state = .resync ∨ s.kor.state = .training ∧ s.kor.up = true) :
    takeoverRun t s = takeoverEnd t.force .invalidInput 0x0005 0 s := by
  rw [takeoverRun, if_neg (by rcases h with h | h | ⟨h, _⟩ <;> simp [h]), if_neg (by rcases h with h | h | ⟨h, _⟩ <;> simp [h]), if_pos h]

theorem takeoverRun_linkDown (h : s.kor.state = .training) (hup : s.kor.up = false) :
    takeoverRun t s = takeoverEnd t.force .retryRequired 0x0011 0 s := by
  rw [takeoverRun, if_neg (by simp [h]), if_neg (by simp [h]), if_neg (by simp [h, hup]), if_pos h]

variable (hsolo : s.kor.state = .solo) (hcause : s.kor.soloCause ≠ 6)
include hsolo hcause

theorem takeoverRun_solo : takeoverRun t s = if t.force = true ∧ (!forceOk s) = true then takeoverEnd true .retryRequired 0x0007 0 s
    else askWitness .takeover { s with kor := { s.kor with takeover := some { t with wait := 1 } } } := by
  rw [takeoverRun, if_neg (by simp [hsolo, hcause]), if_neg (by simp [hsolo]), if_neg (by simp [hsolo]), if_neg (by simp [hsolo])]

end Run

theorem takeoverEnd_effect {s : State} {via : Via} {force : Bool} (ret : Ret) (ext n : Nat) (hbg : s.hlk.bg = some ⟨via, takeoverOp force⟩) :
    ∃ t, takeoverEnd force ret ext n s = t ∧ t.kor.takeover = none ∧ t.hlk.bg = none ∧ t.hlk.bgStatus = ⟨takeoverOp force, ret, ext⟩ ∧
      t.out = s.out ++ [.mbox via (takeoverOp force) ret ext [(2, n), (1, s.kor.witness - 1), (5, 0)], .msix 0] ∧
      t.raised = s.raised ++ (if ret = .success then [] else [⟨0x0207, 0x01, [(2, takeoverOp force), (2, ext)]⟩]) := by
  have hvendor : ¬ takeoverOp force < 0xC000 := by cases force <;> decide
  refine ⟨_, rfl, ?_⟩
  rw [takeoverEnd, ← takeoverOp, bgEnd, hbg]
  by_cases hret : ret = .success <;> simp [hret, hvendor, msix]

/-- The record of a takeover waits in AOS for `QUAG_OK`: this side's adopted regions and those it would adopt. -/
theorem takeoverAdopt_waits {s : State} (t : TakeoverCmd) (hquag : s.nrg.quagOk = false) : takeoverAdopt t s = dropUnstarted .kor { s with
    kor := { s.kor with takeover := some { t with wait := 2, answer := s.kor.witness } }
    aos := { s.aos with pair := some ⟨((s.aos.pair.map PairRecord.seq).getD s.kor.record.seq) + 1,
      (adoptedRegions s ++ partnerRegions s).mergeSort (· ≤ ·), s.kor.record.partnerMepoch⟩ } } :=
  if_pos (by simp [dropUnstarted, hquag])

theorem mem_takeoverRegions {s : State} {r : Nat} : r ∈ (adoptedRegions s ++ partnerRegions s).mergeSort (· ≤ ·) ↔
    r < 256 ∧ ((region s r).adopted = true ∨ defined s r = true ∧ serves s r = false) := by
  rw [(List.mergeSort_perm _ _).mem_iff]
  simp [adoptedRegions, partnerRegions, and_or_left]

theorem takeoverAnswer_adopts {t : TakeoverCmd} {r : Nat} {s : State} (hsolo : s.kor.state = .solo)
    (h : t.force = true ∨ r = 1 ∧ s.kor.copiesCurrent = true) : takeoverAnswer t r s = takeoverAdopt t s := by
  rw [takeoverAnswer, if_neg (not_not.2 hsolo)]
  rcases h with h | h
  · rw [if_pos h]
  · rw [if_pos h, ite_self]

theorem takeoverAnswer_refuses {t : TakeoverCmd} {r : Nat} {s : State} (hsolo : s.kor.state = .solo) (hforce : t.force = false)
    (h : ¬ (r = 1 ∧ s.kor.copiesCurrent = true)) : takeoverAnswer t r s = if r = 1 then takeoverEnd false .invalidInput 0x000E 0 s
      else if r = 2 then takeoverEnd false .invalidInput 0x0005 0 s else takeoverEnd false .retryRequired 0x0006 0 s := by
  rw [takeoverAnswer, if_neg (not_not.2 hsolo), if_neg (by simp [hforce]), if_neg h]

/-- The waiting record is withdrawn, nothing adopted. -/
theorem pairRecordQuagTimeout_ends {s : State} {t : TakeoverCmd} (ht : s.kor.takeover = some t) (hwait : t.wait = 2)
    (hquag : s.nrg.quagOk = false) (hpair : s.aos.pair.isSome = true) : exec .pairRecordQuagTimeout s =
      .next (takeoverEnd t.force .retryRequired 0x000F 0 { s with
        aos := { s.aos with pair := none }
        ifc := { s.ifc with waiting := s.ifc.waiting.filter (fun o => decide (o.agent ≠ .kor)) } }) := by
  show execPairRecordQuagTimeout s = _
  rw [execPairRecordQuagTimeout, ht]
  exact congrArg Host.Outcome.next (if_pos (by simp [hwait, hquag, hpair]))

theorem pairRecordQuagTimeout_ignored {s : State} (h : s.kor.takeover = none ∨ s.nrg.quagOk = true ∨ s.aos.pair = none) :
    exec .pairRecordQuagTimeout s = .next s := by
  show execPairRecordQuagTimeout s = _
  cases ht : s.kor.takeover with
  | none => rw [execPairRecordQuagTimeout, ht]
  | some t =>
    rw [execPairRecordQuagTimeout, ht]
    exact congrArg Host.Outcome.next (if_neg (by rcases h.resolve_left (by simp [ht]) with h | h <;> simp [h]))

/-! ### The statement -/

/-- Settles O39: a clause for the commands by the pair state and the answer, for the pair record, for queries and their results, and for the
entry into SOLO (R389, R393, R397 to R400, R418; log 71, 77, 108, 128). -/
theorem witnessAndTakeover : Obligations.WitnessAndTakeover := by
  unfold Obligations.WitnessAndTakeover
  refine ⟨?command, ?unconfirmed, ?ended, ?answer, ?adopt, ?quag, ?query, ?noted, ?result, ?training, ?soloStart, ?solo⟩
  case command =>
    intro s via force c hserves hc
    rw [exec_takeover hserves hc]
    have hstarted : Keeps 0x300010 s (takeoverStarted via force s) := bgStart_keeps _ _ (by decide)
      (Keeps.ite (raise_keeps _ _ _ (by decide) (Keeps.refl _ s)) (Keeps.refl _ s))
    have hkor : (takeoverStarted via force s).kor = s.kor := hstarted.korEq (by decide)
    have hforce : forceOk (takeoverStarted via force s) = forceOk s := by cases force <;> rfl
    refine ⟨takeoverStarted via force s, takeoverOp force, rfl, rfl, rfl, ?_, ?_, fr hstarted (by decide), fun h => ?_, fun h => ?_,
      fun h hup => ?_, fun h => ?_, fun hsolo hcause hok => ?_, fun hsolo hcause hforced hnot => ?_⟩
    · cases force <;> rfl
    · cases force
      · exact (List.append_nil _).symm
      · rfl
    · rw [takeoverRun_unpaired (by rwa [hkor])]
    · rw [takeoverRun_paired (by rwa [hkor])]
    · rw [takeoverRun_linkDown (by rwa [hkor]) (by rwa [hkor])]
    · rw [takeoverRun_deciding (by rwa [hkor])]
    · rw [takeoverRun_solo (by rwa [hkor]) (by rwa [hkor]), hforce, if_neg]
      rintro ⟨hforced, hnot⟩
      simp [hok hforced] at hnot
    · rw [takeoverRun_solo (by rwa [hkor]) (by rwa [hkor]), hforce, if_pos ⟨hforced, by simp [hnot]⟩]
  case unconfirmed => exact fun s via n hserves hn => forceTakeover_unconfirmed hserves hn
  case ended =>
    rintro s via force ret ext n op rfl hbg
    obtain ⟨t, ht, htakeover, hnone, hstatus, hout, hraised⟩ := takeoverEnd_effect ret ext n hbg
    exact ⟨t, ht, htakeover, hnone, hstatus, hout, hraised,
      ht ▸ fr (m := 0x308010) (takeoverEnd_keeps _ _ _ _ (by decide) (Keeps.refl _ s)) (by decide)⟩
  case answer =>
    intro s t r hsolo
    refine ⟨takeoverAnswer_adopts hsolo, fun hforce hr hstale => ?_, fun hforce hr => ?_, fun hforce hr => ?_⟩
    · rw [takeoverAnswer_refuses hsolo hforce (by simp [hstale]), if_pos hr]
    · rw [takeoverAnswer_refuses hsolo hforce (by omega), if_neg (by omega), if_pos hr]
    · rw [takeoverAnswer_refuses hsolo hforce (by omega), if_neg (by omega), if_neg (by omega)]
  case adopt =>
    intro s t hquag
    exact ⟨_, _, takeoverAdopt_waits t hquag, rfl, rfl, fun r => mem_takeoverRegions,
      fr (m := 0x8108) (dropUnstarted_keeps .kor (by decide)
        ((Keeps.refl _ s).direct (fun p hp => by cases p <;> simp_all [Part.bit, Part.same]))) (by decide)⟩
  case quag =>
    exact fun s => ⟨fun t ht hwait hquag hpair => pairRecordQuagTimeout_ends ht hwait hquag (Option.isSome_iff_ne_none.2 hpair),
      pairRecordQuagTimeout_ignored⟩
  case query =>
    intro s why
    refine ⟨queryCounted s, rfl, askWitness_wrongId why, fun hid h => askWitness_noRing why hid (noRing_iff.2 h),
      fun hid hon hup hsettled hown hmember => askWitness_asks why hid ?_ hmember⟩
    simp [noRing, hon, hup, hsettled, hown]
  case noted =>
    intro s r
    exact ⟨noteWitness r s, rfl, rfl, rfl, rfl, rfl, rfl, rfl, fr (m := 0x118000) (noteWitness_keeps r (by decide) (Keeps.refl _ s)) (by decide),
      witnessResult_decision r, witnessResult_dead, witnessResult_notDead s, fun t => witnessResult_takeover r⟩
  case result =>
    intro s src hops tag target result why hasking
    refine ⟨congrArg Host.Outcome.next (endQuery_asking 3 hasking), fun hon hid htarget hresult => ⟨?_, fun x hx => ?_⟩⟩
    · rw [witnessA_arrives src hops tag target result hasking hon hid htarget hresult, if_pos rfl, endQuery_asking result hasking]
    · rw [witnessA_arrives src hops x target result hasking hon hid htarget hresult, if_neg (Ne.symm hx)]
  case training => exact fun s c hc => ⟨trainingQuery_asks hc, trainingQuery_ignored hc⟩
  case soloStart =>
    intro s hdump
    exact ⟨fun h => congrArg Host.Outcome.next ((if_neg hdump).trans (if_neg h)),
      fun h => congrArg Host.Outcome.next ((if_neg hdump).trans (if_pos h))⟩
  case solo =>
    intro s cause live
    obtain ⟨p, b, hkor⟩ := soloEntered_kor cause live s
    have hsolo := enterSolo_eq cause live s
    have hreports := soloEntered_reports (s := s) cause live
    have hwrites (w : WriteRec) (hw : w ∈ (soloEntered cause live s).hlk.writes) (q : Nat) : w.mirror ≠ .waiting q := soloEntered_mirror hw q
    have hkeeps := soloEntered_keeps cause live s
    generalize soloEntered cause live s = v at hkor hsolo hreports hwrites hkeeps
    have hcause : v.kor.soloCause = (if cause = 0 then s.kor.soloCause else cause) := by rw [hkor]; rfl
    refine ⟨v, ?_, ?_, hcause, ?_, ?_, ?_, ?_, ?_, ?_, ?_, ?_, hwrites, hcause ▸ hreports, fr hkeeps (by decide)⟩
    · rw [hsolo, hkor]
      rfl
    all_goals simp only [hkor, soloPair]

end Sys2Proof.Machine
end

section
/-!
PROOFS. The rejoin and the return (R389, R396, R399, R401 to R404, R408): messages told to the partner, what keeps a region's adoption,
the steps of a rejoin, conflicts, ownership taken and given back, and the statement about them.
-/

namespace Sys2Proof.Machine

/-! ### Messages told to the partner (R378, R379) -/

/-- A message stands in the replay buffer, or waits for a place in it. -/
def Told (m : KMsg) (s : State) : Prop := (∃ q, (q, .control [m]) ∈ s.kor.replay) ∨ .control [m] ∈ s.kor.txQueue

theorem Told.sendFlit {m : KMsg} {s : State} (h : Told m s) (b : FlitBody) : Told m (sendFlit b s) := by
  unfold Machine.sendFlit
  split
  · exact h
  · split
    · exact h
    · split
      · exact h.imp (fun ⟨q, hq⟩ => ⟨q, List.mem_append_left _ hq⟩) id
      · exact h.imp id (List.mem_append_left _)

theorem told_sendMsg {s : State} (m : KMsg) (hon : s.kor.unitOn = true) (htrained : s.kor.trained = true) : Told m (sendMsg m s) := by
  rw [sendMsg, sendFlit_numbered hon htrained (by simp)]
  split
  · exact .inl ⟨_, List.mem_append_right _ (List.mem_singleton.2 rfl)⟩
  · exact .inr (List.mem_append_right _ (List.mem_singleton.2 rfl))

theorem Told.foldl {α : Type} {m : KMsg} {f : State → α → State} (hf : ∀ t a, Told m t → Told m (f t a)) (l : List α) {s : State}
    (h : Told m s) : Told m (l.foldl f s) := by
  induction l generalizing s with
  | nil => exact h
  | cons a l ih => exact ih (hf s a h)

theorem Told.of_kor {m : KMsg} {s t : State} (h : Told m s) (hreplay : t.kor.replay = s.kor.replay) (hqueue : t.kor.txQueue = s.kor.txQueue) :
    Told m t := by rwa [Told, hreplay, hqueue]

/-- Every message of a run is told by a unit that runs with its lanes trained. -/
theorem told_sendMsgs {α : Type} (m : α → KMsg) {l : List α} {a : α} (ha : a ∈ l) {s : State} (hon : s.kor.unitOn = true)
    (htrained : s.kor.trained = true) : Told (m a) (l.foldl (fun t a => sendMsg (m a) t) s) := by
  induction l generalizing s with
  | nil => cases ha
  | cons b l ih =>
    have hview : pairView (sendMsg (m b) s).kor = pairView s.kor := sendMsg_pairView _ s
    rcases List.mem_cons.1 ha with rfl | ha
    · exact .foldl (fun t c ht => ht.sendFlit _) l (told_sendMsg (m a) hon htrained)
    · exact ih ha ((eq_of_pairView (f := Kor.unitOn) (fun _ => rfl) hview).trans hon)
        ((eq_of_pairView (f := Kor.trained) (fun _ => rfl) hview).trans htrained)

/-! ### What keeps a region's adoption (R399, R404) -/

theorem modRegion_adopted {f : Region → Region} (hf : ∀ x, (f x).adopted = x.adopted) (r x : Nat) (s : State) :
    (region (modRegion r f s) x).adopted = (region s x).adopted := by
  simp only [region, modRegion, List.getD_eq_getElem?_getD, List.getElem?_modify]
  cases s.wrp.regions[x]? with
  | none => rfl
  | some y =>
    by_cases hx : r = x
    · simp [hx, hf]
    · simp [hx]

theorem refreshEff_adopted (x : Nat) (s : State) : (region (refreshEff s) x).adopted = (region s x).adopted := by
  refine foldl_keeps_value (φ := fun t => (region t x).adopted) (fun t r => ?_) _ s
  unfold refreshEff1
  extract_lets new old
  split
  · rfl
  · exact modRegion_adopted (by intro; rfl) r x t

theorem setPair_adopted (p : PairState) (cause x : Nat) (s : State) : (region (setPair p cause s) x).adopted = (region s x).adopted := by
  unfold setPair
  split
  · rfl
  · exact refreshEff_adopted x _

theorem setLife_adopted (r x : Nat) (l : Lifecycle) (s : State) : (region (setLife r l s) x).adopted = (region s x).adopted := by
  by_cases h : (region s r).life = l
  · rw [setLife_of_same h]
  · rw [region_of_wrp (setLife_of_changed h).1]
    exact modRegion_adopted (by intro; rfl) r x s

theorem sendMsg_wrp (m : KMsg) (s : State) : (sendMsg m s).wrp = s.wrp :=
  (sendMsg_keeps (m := 0x208000) m (by decide) (Keeps.refl _ s)).wrpEq (by decide)

theorem beginChecks_adopted (r x : Nat) (s : State) : (region (beginChecks r s) x).adopted = (region s x).adopted := by
  unfold beginChecks
  extract_lets s1
  split
  · rw [region_of_wrp (sendMsg_wrp _ _)]
    exact setLife_adopted r x .starting s
  · exact setLife_adopted r x .starting s

theorem startRegion_adopted (r x : Nat) (s : State) : (region (startRegion r s) x).adopted = (region s x).adopted := by
  unfold startRegion
  split
  · split
    · exact beginChecks_adopted r x s
    · exact modRegion_adopted (by intro; rfl) r x s
  · exact modRegion_adopted (by intro; rfl) r x s
  · rfl

/-! ### What a start reports -/

theorem raised_prefix_setLife (r : Nat) (l : Lifecycle) (s : State) : s.raised <+: (setLife r l s).raised := by
  by_cases h : (region s r).life = l
  · rw [setLife_of_same h]
  · rw [(setLife_of_changed h).2.1]
    exact List.prefix_append _ _

theorem sendMsg_raised (m : KMsg) (s : State) : (sendMsg m s).raised = s.raised :=
  (sendMsg_keeps (m := 0x208000) m (by decide) (Keeps.refl _ s)).raisedEq (by decide)

theorem raised_prefix_startRegion (r : Nat) (s : State) : s.raised <+: (startRegion r s).raised := by
  unfold startRegion
  split
  · split
    · unfold beginChecks
      extract_lets s1
      split
      · rw [sendMsg_raised]
        exact raised_prefix_setLife r .starting s
      · exact raised_prefix_setLife r .starting s
    · exact List.prefix_rfl
  · exact List.prefix_rfl
  · exact List.prefix_rfl

/-! ### The rejoin (R401) -/

/-- TRAINING entered afresh: what the SOLO before it leaves, no copy arrived, nothing resent. -/
def rejoinBegun (s : State) : State :=
  setPair .training 0 { s with kor := { s.kor with
    fromSolo := s.kor.state = .solo, copiesCurrent := if s.kor.state = .solo then false else s.kor.copiesCurrent, arrived := [], resent := 0 } }

/-- Every adopted region told. -/
def adoptionsTold (s : State) : State := (adoptedRegions s).foldl (fun t r => sendMsg (.adopted r) t) s

/-- Every pending release told. -/
def releasesTold (s : State) : State :=
  s.kor.pendRel.foldl (fun t e => sendMsg (.releaseNotice e.1 e.2) t) { s with kor := { s.kor with pendRel := [] } }

/-- Every region's copies told: whole where the two sides do not know each other. -/
def copiesTold (full : Bool) (s : State) : State := (rejoinRegions s).foldl (fun t r => if full then fullResyncRegion r t else shadowMaps r t) s

/-- RESYNC entered with the stale granules to resend. -/
def resyncEntered (s : State) : State :=
  setPair .resync 0 (raise 0x0909 0x05 [(1, 0), (4, (staleGranules s).length)]
    { s with kor := { s.kor with resend := staleGranules s, resendAt := none, resyncOut := [], marks := [], endSent := false } })

/-- The rejoin is a full one. -/
def rejoinFull (s : State) : Bool := decide (s.kor.pMepoch ≠ s.kor.record.partnerMepoch) || s.kor.fullResync

/-- Everything told before RESYNC is entered. -/
def rejoinTold (s : State) : State := copiesTold (rejoinFull s) (releasesTold (adoptionsTold (rejoinBegun s)))

theorem rejoin_eq (s : State) : rejoin s = resendKick (resyncEntered (rejoinTold s)) := by
  unfold rejoin
  extract_lets k s0 s1 _ s2 full s3 st _
  have hbegun : s0 = rejoinBegun s := rfl
  have hadopted : s1 = adoptionsTold s0 := rfl
  have hreleases : s2 = releasesTold s1 := rfl
  have hcopies : s3 = copiesTold (rejoinFull s) s2 := rfl
  rw [rejoinTold, ← hbegun, ← hadopted, ← hreleases, ← hcopies]
  clear_value s3
  rfl

theorem fullResyncRegion_kor (r : Nat) (s : State) :
    (fullResyncRegion r s).kor = (sendMsg (.releaseNotice (firstGranule s r) (granuleCount s r)) s).kor :=
  (Keeps.foldl (m := 0x180040) (fun u g => setStale_keeps g true (by decide) (Keeps.refl _ u)) (Keeps.refl _ _)).korEq (by decide)

theorem copiesTold_pairView (full : Bool) (s : State) : pairView (copiesTold full s).kor = pairView s.kor := by
  refine foldl_keeps_value (φ := fun t => pairView t.kor) (fun t r => ?_) _ s
  cases full with
  | true => exact (congrArg pairView (fullResyncRegion_kor r t)).trans (sendMsg_pairView _ t)
  | false => exact shadowMaps_pairView r t

/-- What the messages of a rejoin leave of the pair: no release pends any more. -/
theorem rejoinTold_pairView (s : State) : pairView (rejoinTold s).kor = pairView { (rejoinBegun s).kor with pendRel := [] } := by
  have hadopted : pairView (adoptionsTold (rejoinBegun s)).kor = pairView (rejoinBegun s).kor := sendMsgs_pairView _ _ _
  have hreleases : pairView (releasesTold (adoptionsTold (rejoinBegun s))).kor =
      pairView { (adoptionsTold (rejoinBegun s)).kor with pendRel := [] } := sendMsgs_pairView _ _ _
  have hclear {k k' : Kor} (h : pairView k = pairView k') : pairView { k with pendRel := [] } = pairView { k' with pendRel := [] } :=
    congrArg (fun k : Kor => { k with pendRel := [] }) h
  exact (copiesTold_pairView _ _).trans (hreleases.trans (hclear hadopted))

theorem rejoinBegun_kor (s : State) : (rejoinBegun s).kor = { s.kor with
    state := .training, fromSolo := s.kor.state = .solo, copiesCurrent := if s.kor.state = .solo then false else s.kor.copiesCurrent
    arrived := [], resent := 0 } := setPair_kor _ _ _

theorem Told.shadowMaps {m : KMsg} {s : State} (h : Told m s) (r : Nat) : Told m (shadowMaps r s) := .foldl (fun _ _ ht => ht.sendFlit _) _ h

theorem Told.fullResyncRegion {m : KMsg} {s : State} (h : Told m s) (r : Nat) : Told m (fullResyncRegion r s) :=
  (h.sendFlit (.control [.releaseNotice (firstGranule s r) (granuleCount s r)])).of_kor
    (congrArg Kor.replay (fullResyncRegion_kor r s)) (congrArg Kor.txQueue (fullResyncRegion_kor r s))

/-- Every adopted region has been told as RESYNC is entered. -/
theorem rejoinTold_adopted {s : State} {r : Nat} (hon : s.kor.unitOn = true) (htrained : s.kor.trained = true) (hr : r < 256)
    (hadopted : (region s r).adopted = true) : Told (.adopted r) (rejoinTold s) := by
  have hkept : (region (rejoinBegun s) r).adopted = true := (setPair_adopted _ _ r _).trans hadopted
  have hmem : r ∈ adoptedRegions (rejoinBegun s) := List.mem_filter.2 ⟨List.mem_range.2 hr, hkept⟩
  have htold : Told (.adopted r) (adoptionsTold (rejoinBegun s)) := told_sendMsgs .adopted hmem
    (by rw [rejoinBegun_kor]; exact hon) (by rw [rejoinBegun_kor]; exact htrained)
  have hreleases : Told (.adopted r) (releasesTold (adoptionsTold (rejoinBegun s))) :=
    .foldl (fun _ _ ht => ht.sendFlit _) _ (htold.of_kor rfl rfl)
  refine .foldl (fun t x ht => ?_) _ hreleases
  split
  · exact ht.fullResyncRegion x
  · exact ht.shadowMaps x

theorem resyncEntered_kor (s : State) : (resyncEntered s).kor = { s.kor with
    state := .resync, resend := staleGranules s, resendAt := none, resyncOut := [], marks := [], endSent := false } := setPair_kor _ _ _

theorem resyncEntered_told {m : KMsg} {s : State} (h : Told m s) : Told m (resyncEntered s) :=
  h.of_kor (by rw [resyncEntered_kor]) (by rw [resyncEntered_kor])

theorem resyncEntered_gst (s : State) : (resyncEntered s).gst = s.gst := setPair_gst _ _ _

theorem raised_prefix_setPair (p : PairState) (cause : Nat) (s : State) : s.raised <+: (setPair p cause s).raised := by
  by_cases h : s.kor.state = p
  · rw [setPair_of_same cause h]
  · obtain ⟨⟨l, hl, _⟩, _⟩ := setPair_reports cause h
    exact ⟨_, hl.symm⟩

theorem resyncEntered_reports (s : State) : ⟨0x0909, 0x05, [(1, 0), (4, (staleGranules s).length)]⟩ ∈ (resyncEntered s).raised :=
  (raised_prefix_setPair .resync 0 _).subset (List.mem_append_right _ (List.mem_singleton.2 rfl))

theorem staleGranules_stale {s : State} {g : Nat} (h : g ∈ staleGranules s) : ∃ w, (g, w) ∈ s.gst.states ∧ w.stale = true := by
  obtain ⟨⟨x, w⟩, hw, rfl⟩ := List.mem_map.1 h
  obtain ⟨hmem, hp⟩ := List.mem_filter.1 hw
  simp only [Bool.and_eq_true] at hp
  obtain ⟨⟨⟨hstale, _⟩, _⟩, _⟩ := hp
  exact ⟨w, hmem, hstale⟩

/-! ### The end of a resynchronisation (R401 step 6) -/

/-- With this side's resend over, RESYNC waits for the partner's end and for every mark. -/
theorem resendKick_over {s : State} (hstate : s.kor.state = .resync) (hdump : s.spn.mode ≠ .dump) (hresend : s.kor.resend = [])
    (hat : s.kor.resendAt = none) (hsent : s.kor.endSent = true) :
    resendKick s = if s.kor.endSeen = true ∧ s.kor.marks = [] then reachMirrored s else s := by
  have hloop : resendLoop 449 s = s := resendLoop_idle hresend hat 449
  rw [resendKick, if_neg (by simp [hstate, hdump]), hloop]
  simp [hstate, hresend, hat, hsent, resendOver]

/-- MIRRORED entered, its end of the resynchronisation reported. -/
def mirroredEntered (s : State) : State :=
  setPair .mirrored 0 (raise 0x0909 0x05 [(1, 1), (4, s.kor.resent)] { s with kor := { s.kor with fullResync := false } })

/-- The partner's epoch recorded where it is a new one. -/
def epochRecorded (v : State) : State :=
  if v.kor.record.partnerMepoch = v.kor.pMepoch then v else pairWrite (adoptedRegions v) v.kor.pMepoch v

theorem reachMirrored_eq (s : State) : reachMirrored s = settle (epochRecorded (mirroredEntered s)) := rfl

theorem epochRecorded_keeps (v : State) : Keeps 0x10c v (epochRecorded v) :=
  Keeps.ite (Keeps.refl _ v) (pairWrite_keeps _ _ (by decide) (Keeps.refl _ v))

theorem mirroredEntered_kor (s : State) : (mirroredEntered s).kor = { s.kor with state := .mirrored, fullResync := false } := setPair_kor _ _ _

theorem mirroredEntered_raised {s : State} (h : s.kor.state = .resync) : ∃ l, (mirroredEntered s).raised =
    s.raised ++ ⟨0x0909, 0x05, [(1, 1), (4, s.kor.resent)]⟩ :: ⟨0x0905, 0x05, [(1, 5), (1, 2), (1, 0)]⟩ :: l := by
  obtain ⟨⟨l, hl, _⟩, _⟩ := setPair_reports (p := .mirrored)
    (s := raise 0x0909 0x05 [(1, 1), (4, s.kor.resent)] { s with kor := { s.kor with fullResync := false } }) 0
    (fun hsame => by cases h.symm.trans hsame)
  refine ⟨l, hl.trans ?_⟩
  rw [raise_raised, raise_kor, h]
  exact List.append_assoc _ _ _

/-! ### Conflicts (R402, R403) -/

/-- The list of conflicts with a region in it, or out of it. -/
def conflictNoted (r : Nat) (on : Bool) (s : State) : State :=
  { s with kor := { s.kor with conflicts := if on then sins r s.kor.conflicts else sdel s.kor.conflicts r } }

theorem setConflict_of_same {r : Nat} {on : Bool} {s : State} (h : inConflict s r = on) : setConflict r on s = s := if_pos h

theorem setConflict_changed {r : Nat} {on : Bool} {s : State} (h : inConflict s r ≠ on) :
    setConflict r on s = refreshEff (raise 0x0908 0x05 [(1, r), (1, flag on)] (conflictNoted r on s)) := if_neg h

theorem refreshEff_kor (s : State) : (refreshEff s).kor = s.kor := (refreshEff_keeps (m := 0x300020) (by decide) (Keeps.refl _ s)).korEq (by decide)

/-! ### Messages about adopted regions, one equation each -/

section Taken

variable {s u : State} {h : FlitHdr} {i : Nat} (ht : Taken s h i u) (hup : u.kor.up = true) (hdump : u.spn.mode ≠ .dump) (r : Nat)
include ht hup hdump

theorem adopted_taken : exec (.adopted h i r) s = .next (if !defined u r ∨ !serves u r then u
    else if (region u r).life = .online then settle (sendMsg (.adoptReply r 1) (setConflict r true u))
    else settle (sendMsg (.adoptReply r 0) (raise 0x090F 0x05 [(1, r)] (flushLog (releaseSpan r u))))) :=
  ht.actsUp hup hdump _

theorem adoptReply_taken (answer : Nat) : exec (.adoptReply h i r answer) s = .next (if !(region u r).adopted then u
    else if answer = 1 then settle (setConflict r true u)
    else if inConflict u r then settle (resyncRegion r (setConflict r false u)) else u) :=
  ht.actsUp hup hdump _

/-- A region's return noted, its copies owned. -/
def returnNoted (r : Nat) (u : State) : State :=
  { takeOwnership [r] u with kor := { (takeOwnership [r] u).kor with returning := sins r (takeOwnership [r] u).kor.returning } }

theorem return_taken : exec (.return h i r) s = .next (if !defined u r ∨ (region u r).entry.sideB ≠ u.kor.side then u
    else if inConflict u r then settle (resyncRegion r (setConflict r false u))
    else if (takeOwnership [r] u).kor.ownCopies.any (inRegion (takeOwnership [r] u) r) then returnNoted r u
    else sendMsg (.ownCopyDone r) { returnNoted r u with kor := { (returnNoted r u).kor with returning := sdel (returnNoted r u).kor.returning r } }) :=
  ht.actsUp hup hdump _

/-- The vault's copies of a region forgotten, and its release reported. -/
def copiesForgotten (r a n : Nat) (v : State) : State := raise 0x090F 0x05 [(1, r)] { v with
  kor := { v.kor with gaveBack := sdel v.kor.gaveBack r }
  vlt := { v.vlt with map := v.vlt.map.filter (fun e => !(a ≤ e.1 && e.1 < a + n)) } }

theorem ownCopyDone_taken : exec (.ownCopyDone h i r) s = .next (if !(u.kor.gaveBack.contains r) then u
    else copiesForgotten r (firstGranule u r) (granuleCount u r) (appendLog (.release (firstGranule u r) (granuleCount u r)) (beforeVault u))) :=
  ht.actsUp hup hdump _

end Taken

theorem copiesForgotten_keeps (r a n : Nat) (v : State) : Keeps 0x108800 v (copiesForgotten r a n v) :=
  raise_keeps _ _ _ (by decide) ((Keeps.refl _ v).direct (fun p hp => by cases p <;> simp_all [Part.bit, Part.same]))

theorem copiesForgotten_effect (r a n : Nat) (v : State) : (copiesForgotten r a n v).kor.gaveBack = sdel v.kor.gaveBack r ∧
    (copiesForgotten r a n v).raised = v.raised ++ [⟨0x090F, 0x05, [(1, r)]⟩] ∧
    (∀ e, e ∈ (copiesForgotten r a n v).vlt.map ↔ e ∈ v.vlt.map ∧ ¬ (a ≤ e.1 ∧ e.1 < a + n)) ∧
    OnlyIn [.kor, .vlt, .raised] v (copiesForgotten r a n v) := by
  refine ⟨rfl, rfl, fun e => ?_, fr (copiesForgotten_keeps r a n v) (by decide)⟩
  show e ∈ v.vlt.map.filter _ ↔ _
  simp only [List.mem_filter, Bool.not_eq_true', Bool.and_eq_false_iff, decide_eq_false_iff_not, not_and_or]

/-! ### The regions of a takeover adopted (R399) -/

theorem refreshRegime_wrp (s : State) : (refreshRegime s).wrp = s.wrp :=
  (refreshRegime_keeps (m := 0x102000) (by decide) (Keeps.refl _ s)).wrpEq (by decide)

theorem refreshConditions_regions (fell : Bool) (s : State) : (refreshConditions fell s).wrp.regions = s.wrp.regions := by
  unfold refreshConditions
  extract_lets d b high full isOver w s1 s2 s3 s4
  have h2 : s2.wrp = s1.wrp := by unfold s2; split <;> rfl
  have h3 : s3.wrp = s2.wrp := by unfold s3; split <;> [rfl; split <;> rfl]
  have h4 : s4.wrp = s3.wrp := by unfold s4; split <;> rfl
  rw [refreshRegime_wrp, h4, h3, h2]

theorem drawLease_regions (q : Nat) (s : State) : (drawLease q s).wrp.regions = s.wrp.regions := by
  unfold drawLease
  split <;> rfl

theorem takeRsv_regions (g : Nat) (s : State) : (takeRsv g s).wrp.regions = s.wrp.regions := by
  unfold takeRsv
  split
  · rfl
  · extract_lets _ s1 s2
    have h2 : s2.wrp = s1.wrp := by
      unfold s2
      split
      · split <;> rfl
      · rfl
    have h1 : s1.wrp.regions = s.wrp.regions := drawLease_regions _ _
    rw [refreshLeases, refreshConditions_regions, h2, h1]

theorem takeRsvs_regions (l : List Nat) (s : State) :
    (l.foldl (fun t g => takeRsv g { t with gst := { t.gst with unreserved := sdel t.gst.unreserved g } }) s).wrp.regions = s.wrp.regions := by
  refine foldl_keeps_value (φ := fun t => t.wrp.regions) (fun t g => ?_) l s
  exact takeRsv_regions g _

theorem takeOwnership_regions (rs : List Nat) (s : State) : (takeOwnership rs s).wrp.regions = s.wrp.regions := by
  unfold takeOwnership
  extract_lets mine shad free s1 _ s2 s3 s4
  have h1 : s1.wrp = s.wrp := by
    have hkeeps : Keeps 0x102800 s s1 := Keeps.ite (Keeps.refl _ s) (.foldl
      (fun u g => appendLog_keeps _ (by decide) (setMap_keeps _ _ (by decide) (Keeps.refl _ u))) (beforeVault_keeps (by decide) (Keeps.refl _ s)))
    exact hkeeps.wrpEq (by decide)
  have h3 : s3.wrp.regions = s1.wrp.regions := takeRsvs_regions free s2
  have h4 : s4.wrp = s3.wrp := by unfold s4; split <;> rfl
  have hjoin (l : List (Nat × GWord)) : Keeps 0x2000 s4 (l.foldl (fun t e => joinRing e.1 t) s4) :=
    .foldl (fun u e => joinRing_keeps e.1 (by decide) (Keeps.refl _ u)) (Keeps.refl _ s4)
  rw [(hjoin _).wrpEq (by decide), h4, h3, h1]

/-- The regions of a list marked as adopted. -/
def markAdopted (rs : List Nat) (s : State) : State := rs.foldl (fun t r => modRegion r (fun x => { x with adopted := true }) t) s

theorem region_adoptedMark {r : Nat} {s : State} (x : Nat) (hx : x < s.wrp.regions.length) :
    (region (modRegion r (fun x => { x with adopted := true }) s) x).adopted = ((region s x).adopted || decide (x = r)) := by
  by_cases hr : x = r
  · rw [region_modRegion (hr ▸ hx), if_pos hr]
    simp [hr]
  · simp [region, modRegion, hr, Ne.symm hr]

theorem markAdopted_adopted (rs : List Nat) {s : State} {r : Nat} (hr : r < s.wrp.regions.length) :
    (region (markAdopted rs s) r).adopted = ((region s r).adopted || rs.contains r) := by
  unfold markAdopted
  induction rs generalizing s with
  | nil => simp
  | cons a rs ih =>
    have hlength : r < (modRegion a (fun x => { x with adopted := true }) s).wrp.regions.length := by simpa [modRegion] using hr
    rw [List.foldl_cons, ih hlength, region_adoptedMark r hr]
    simp [Bool.or_assoc]

/-- The regions owned and reported, before they start. -/
def regionsOwned (rs : List Nat) (forced : Bool) (s : State) : State :=
  raise 0x0907 0x05 [(1, flag forced), (2, rs.length)] (takeOwnership rs (markAdopted rs s))

theorem adoptRegions_eq (rs : List Nat) (forced : Bool) (s : State) :
    adoptRegions rs forced s = rs.foldl (fun t r => startRegion r t) (regionsOwned rs forced s) := rfl

theorem adoptRegions_adopted {rs : List Nat} {s : State} {r : Nat} (forced : Bool) (hr : r ∈ rs) (hlength : r < s.wrp.regions.length) :
    (region (adoptRegions rs forced s) r).adopted = true := by
  have hmarked : (region (markAdopted rs s) r).adopted = true := by simp [markAdopted_adopted rs hlength, hr]
  have howned : region (regionsOwned rs forced s) r = region (markAdopted rs s) r :=
    congrArg (fun l : List Region => l.getD r {}) (takeOwnership_regions rs (markAdopted rs s))
  rw [adoptRegions_eq]
  calc _ = (region (regionsOwned rs forced s) r).adopted :=
        foldl_keeps_value (φ := fun t => (region t r).adopted) (fun t a => startRegion_adopted a r t) rs _
    _ = true := by rw [howned, hmarked]

theorem adoptRegions_reports (rs : List Nat) (forced : Bool) (s : State) :
    ⟨0x0907, 0x05, [(1, flag forced), (2, rs.length)]⟩ ∈ (adoptRegions rs forced s).raised :=
  adoptRegions_eq rs forced s ▸ (raised_prefix_foldl (φ := fun t => t) (fun t a => raised_prefix_startRegion a t) rs (regionsOwned rs forced s)).subset
    (List.mem_append_right _ (List.mem_singleton.2 rfl))

theorem takeoverDone_written {s : State} {t : TakeoverCmd} (ht : s.kor.takeover = some t) (hwait : t.wait = 2) : takeoverDone s =
    settle (takeoverEnd t.force .success 0 (partnerRegions s).length (adoptRegions (partnerRegions s) t.force s)) := by
  simp [takeoverDone, ht, hwait]

theorem takeoverDone_waits {s : State} {t : TakeoverCmd} (ht : s.kor.takeover = some t) (hwait : t.wait ≠ 2) : takeoverDone s = s := by
  simp [takeoverDone, ht, hwait]

/-! ### The statement -/

/-- Settles O43: a clause for the rejoin and its end, for each message about adopted regions, for conflicts, and for the regions of a
takeover (R389, R396, R399, R401 to R404, R408; log 77, 93). -/
theorem rejoinAndReturn : Obligations.RejoinAndReturn := by
  unfold Obligations.RejoinAndReturn
  refine ⟨?rejoin, ?resent, ?mirrored, ?adopted, ?conflict, ?adoptReply, ?returned, ?ownCopyDone, ?takeover, ?adoption⟩
  case rejoin =>
    intro s _
    have htold (hrun : s.kor.unitOn = true ∧ s.kor.trained = true) (r : Nat) (hr : r < 256) (hadopted : (region s r).adopted = true) :=
      resyncEntered_told (rejoinTold_adopted hrun.1 hrun.2 hr hadopted)
    have hview := rejoinTold_pairView s
    rw [rejoinBegun_kor] at hview
    rw [rejoin_eq s]
    generalize rejoinTold s = w at htold hview ⊢
    have hkor := resyncEntered_kor w
    refine ⟨resyncEntered w, (staleGranules w).length, rfl, ?_, ?_, ?_, ?_, ?_, ?_, fun hsolo => ?_, resyncEntered_reports w, ?_,
      fun g hg => ?_, htold⟩
    · rw [hkor]
    · rw [hkor]
      exact eq_of_pairView (f := Kor.pendRel) (fun _ => rfl) hview
    · rw [hkor]
    · rw [hkor]
    · rw [hkor]
    · rw [hkor]
      exact eq_of_pairView (f := Kor.fromSolo) (fun _ => rfl) hview
    · rw [hkor]
      exact (eq_of_pairView (f := Kor.copiesCurrent) (fun _ => rfl) hview).trans (if_pos hsolo)
    · rw [hkor]
    · rw [hkor] at hg
      rw [resyncEntered_gst]
      exact staleGranules_stale hg
  case resent =>
    intro s hstate hdump hresend hat hsent _
    rw [resendKick_over hstate hdump hresend hat hsent]
    exact ⟨fun hseen hmarks => if_pos ⟨hseen, hmarks⟩, fun h => if_neg (by rcases h with h | h <;> simp [h])⟩
  case mirrored =>
    intro s hstate
    have hkeeps := epochRecorded_keeps (mirroredEntered s)
    have hkor := (hkeeps.korEq (by decide)).trans (mirroredEntered_kor s)
    obtain ⟨l, hraised⟩ := mirroredEntered_raised hstate
    refine ⟨epochRecorded (mirroredEntered s), reachMirrored_eq s, by rw [hkor], by rw [hkor], ?_, ?_⟩
    · rw [hkeeps.raisedEq (by decide), hraised]
      simp
    · rw [hkeeps.raisedEq (by decide), hraised]
      simp
  case adopted =>
    intro s u h i r hhears horder hu hup hdump
    rw [adopted_taken ⟨hhears, horder, hu⟩ hup hdump]
    refine ⟨fun hno => ?_, fun hdef hserves => ⟨fun honline => ?_, fun hoff => ?_⟩⟩
    · rw [if_pos (by rcases hno with hno | hno <;> simp [hno])]
    · rw [if_neg (by simp [hdef, hserves]), if_pos honline]
      rfl
    · rw [if_neg (by simp [hdef, hserves]), if_neg hoff]
      rfl
  case conflict =>
    intro s r on
    refine ⟨setConflict_of_same, fun hchanged => ?_⟩
    obtain ⟨l, hl, hids⟩ := refreshEff_addsEvents (raise 0x0908 0x05 [(1, r), (1, flag on)] (conflictNoted r on s))
    refine ⟨_, l, setConflict_changed hchanged, by rw [refreshEff_kor]; rfl, ?_, by simpa using hids,
      setConflict_changed hchanged ▸ fr (m := 0x308020) (setConflict_keeps r on (by decide) (Keeps.refl _ s)) (by decide)⟩
    rw [hl]
    exact List.append_assoc _ _ _
  case adoptReply =>
    intro s u h i r a hhears horder hu hup hdump
    rw [adoptReply_taken ⟨hhears, horder, hu⟩ hup hdump]
    refine ⟨fun hno => by rw [if_pos (by simp [hno])], fun hadopted => ?_⟩
    rw [if_neg (by simp [hadopted])]
    exact ⟨fun ha => by rw [if_pos ha], fun ha hin => by rw [if_neg ha, if_pos hin], fun ha hout => by rw [if_neg ha, if_neg (by simp [hout])]⟩
  case returned =>
    intro s u h i r hhears horder hu hup hdump
    rw [return_taken ⟨hhears, horder, hu⟩ hup hdump]
    refine ⟨fun hno => by rw [if_pos (hno.imp (by simp) id)], fun hdef hside => ?_⟩
    rw [if_neg (by simp [hdef, hside])]
    refine ⟨fun hin => by rw [if_pos hin], fun hout => ⟨takeOwnership [r] u, rfl, fun ⟨g, hg, hregion⟩ => ?_, fun hnone => ?_⟩⟩
    · rw [if_neg (by simp [hout]), if_pos (List.any_eq_true.2 ⟨g, hg, hregion⟩)]
      rfl
    · rw [if_neg (by simp [hout]), if_neg]
      · rfl
      · intro hany
        obtain ⟨g, hg, hregion⟩ := List.any_eq_true.1 hany
        exact Bool.false_ne_true ((hnone g hg).symm.trans hregion)
  case ownCopyDone =>
    intro s u h i r hhears horder hu hup hdump
    rw [ownCopyDone_taken ⟨hhears, horder, hu⟩ hup hdump]
    refine ⟨fun hnot => by rw [if_pos (by simpa using hnot)], fun hgave => ?_⟩
    rw [if_neg (by simpa using hgave)]
    exact ⟨_, _, _, _, rfl, rfl, rfl, rfl, copiesForgotten_effect r _ _ _⟩
  case takeover => exact fun s t ht => ⟨takeoverDone_written ht, takeoverDone_waits ht⟩
  case adoption =>
    exact fun s rs forced r hr hlength => ⟨adoptRegions_adopted forced hr hlength, adoptRegions_reports rs forced s⟩

end Sys2Proof.Machine
end

section
/-!
PROOFS. Korric messages and Causeway frames that complete (R373, R377, R378, R384, R387, R389, R394, R403, R412, R415, R418): one equation for
each message beside those above, one for each frame that arrives good at a member that takes it, and the statement about them.
-/

namespace Sys2Proof.Machine

/-! ### Lines, notices and repairs (R377, R384, R385, R407) -/

section Taken

variable {s u : State} {h : FlitHdr} {i : Nat} (ht : Taken s h i u) (hup : u.kor.up = true) (hdump : u.spn.mode ≠ .dump)
include ht hup hdump

theorem shadowNotice_taken (g mseq : Nat) : exec (.shadowNotice h i g mseq) s = .next (
    if u.kor.lastMseq.all (fun e => e.1 ≠ g || seqLe e.2 mseq) && !(u.kor.held.any (fun sl => granuleOf sl.line = g)) then
      settleFor (shareFreed u (copyShadowed g u)) (copyShadowed g u) else u) :=
  ht.actsUp hup hdump _

theorem shadowMap_taken (first bits : Nat) : exec (.shadowMap h i first bits) s = .next (settle ((setBits 64 bits).foldl
    (fun t j => if t.kor.arrived.contains (first + j) then t else copyShadowed (first + j) t) u)) :=
  ht.actsUp hup hdump _

/-- A copy of one of the partner's granules in a range. -/
def releasedCopy (first count : Nat) (u : State) (g : Nat) : Bool := first ≤ g && g < first + count && mirrorCopy u g

/-- The lines of a released range are no longer held. -/
def heldDropped (first count : Nat) (u : State) : State :=
  { u with kor := { u.kor with held := u.kor.held.filter (fun sl => !releasedCopy first count u (granuleOf sl.line)) } }

theorem releaseNotice_taken (first count : Nat) : exec (.releaseNotice h i first count) s = .next (settle (sendMsg (.releaseDone first count)
    (ackFollow ((((heldDropped first count u).gst.states.filter (fun e => releasedCopy first count u e.1)).map Prod.fst).foldl
      (fun t g => setWord g freeWord (dropRsv g t)) (heldDropped first count u))))) :=
  ht.actsUp hup hdump _

theorem releaseDone_taken {first : Nat} {e : RelWait} (he : u.kor.relWait.find? (fun e => e.first = first && e.sent) = some e) :
    exec (.releaseDone h i first) s = .next (releaseOver e { u with kor := { u.kor with relWait := u.kor.relWait.erase e } }) := by
  refine (ht.actsUp hup hdump _).trans ?_
  simp only [he]

/-- A poisoned line that no repair waits for comes as a mirrored one. -/
theorem poisonLine_taken {line mseq : Nat}
    (hmirror : u.kor.repairs.any (fun a => a.granule = granuleOf line && a.tag = mseq) = false ∨ mirrorCopy u (granuleOf line) = true) :
    exec (.poisonLine h i line mseq) s = .next (settle (ackFollow (mirrorIn ⟨mseq, line, 2 ^ 64 - 1, 0⟩ true u))) := by
  refine (ht.actsUp hup hdump _).trans (congrArg Host.Outcome.next (if_neg ?_))
  rintro ⟨hwaits, hother⟩
  rcases hmirror with hnone | hcopy
  · exact Bool.false_ne_true (hnone.symm.trans hwaits)
  · simp [hcopy] at hother

/-- A repair of a granule whose copy is not this side's to give is answered by its state, and reported. -/
theorem repairReq_refused {g : Nat} (tag : Nat) (hcopy : mirrorCopy u g = false) : exec (.repairReq h i g tag) s =
    .next (sendMsg (.repairReply g (if gstate u g = .free then 2 else 1) tag)
      (raise 0x0910 0x05 [(5, g * 16384), (1, if gstate u g = .free then 2 else 1)] u)) := by
  refine (ht.actsUp hup hdump _).trans (congrArg Host.Outcome.next ?_)
  have hrefused : (if gstate u g = .free then 2 else 1) ≠ 0 := by split <;> decide
  simp only [hcopy, Bool.false_eq_true, false_and, if_false, if_neg hrefused]

theorem repairReply_taken {g tag : Nat} {a : RepairAsk} (answer : Nat) (ha : u.kor.repairs.find? (fun a => a.tag = tag && a.granule = g) = some a) :
    exec (.repairReply h i g answer tag) s = .next (if answer = 0 then u else repairRefused a u) := by
  refine (ht.actsUp hup hdump _).trans ?_
  simp only [ha]

/-- A query of a pair that mirrors, or is about to, is answered by the region's state. -/
theorem openQuery_answered (r : Nat) (hstate : u.kor.state = .mirrored ∨ u.kor.state = .resync) : exec (.openQuery h i r) s =
    .next (sendMsg (.openReply r (if (region u r).adopted then 1 else if inConflict u r then 2 else 0)) u) := by
  rw [openQuery_taken ht hup hdump r]
  by_cases hadopted : (region u r).adopted = true
  · rw [if_pos hadopted, if_pos hadopted]
  · rw [if_neg hadopted, if_neg hadopted, if_pos hstate]
    by_cases hin : inConflict u r = true
    · rw [if_pos hin, if_pos hin]
    · rw [if_neg hin, if_neg hin]

end Taken

/-! ### Frames at a member (R412, R415, R418) -/

section Member

variable {s : State} (hon : s.cwy.unit = .on) (hid : s.cwy.dupId = false)
include hon hid

theorem rollCall_arrives {src live dumping headcap a b c : Nat} (hops tag : Nat) (hsrc : src ≠ s.cwy.myId)
    (hstamp : stampBits s live dumping headcap = (a, b, c)) : exec (.rollCall src hops tag live dumping headcap true) s =
      .next (frameOn ⟨0xFF, src, hops, tag, .rollCall a b c⟩ (copyRoll a b c (ringRise (learnHead src s)))) := by
  refine congrArg Host.Outcome.next ((frameArrive_acts _ hon hid (.inl rfl)).trans ((if_neg hsrc).trans ?_))
  rw [hstamp]

theorem claim_arrives (src hops tag : Nat) : exec (.claim src hops tag true) s = .next (
    if src = s.cwy.myId then (if s.cwy.claiming ∧ !s.cwy.lowerSeen then sendRoll (raise 0x0A03 0x06 [(1, src)]
      { s with cwy := { s.cwy with isHead := true, electing := false, claiming := false, headId := src, history := [] } }) else s)
    else if src < s.cwy.myId then frameOn ⟨0xFF, src, hops, tag, .claim⟩ { s with cwy := { s.cwy with claiming := false, lowerSeen := true } }
    else frameOn ⟨0xFF, src, hops, tag, .claim⟩ s) :=
  congrArg Host.Outcome.next (frameArrive_acts _ hon hid (.inl rfl))

/-- This member's ID stands in a frame of another unit. -/
theorem join_duplicate {src serial : Nat} (hops tag : Nat) (hsrc : src = s.cwy.myId) (hserial : serial ≠ serialOf s) :
    exec (.join src hops tag serial true) s = .next (raise 0x0A04 0x06 [(1, src), (8, serial)]
      { s with cwy := { s.cwy with dupId := true, isHead := false, electing := false, claiming := false } }) :=
  congrArg Host.Outcome.next ((frameArrive_acts _ hon hid (.inr hsrc)).trans (if_pos hserial))

variable {dst : Nat} (hdst : dst = s.cwy.myId) (src hops tag : Nat)
include hdst

theorem witnessQ_answered {target a : Nat} (hhead : s.cwy.isHead = true) (hsettled : s.cwy.electing = false) (htarget : target = src ^^^ 1)
    (ha : witnessAnswer s target = some a) :
    exec (.witnessQ src dst hops tag target true) s = .next (frameSend src tag (.witnessA target a) s) := by
  refine congrArg Host.Outcome.next ((frameArrive_acts _ hon hid (.inr hdst)).trans ((if_pos ⟨hhead, by simp [hsettled], htarget⟩).trans ?_))
  rw [ha]

theorem winRd_answered {off : Nat} (hoff : off < 0x200000) (hwo : hasWo (off / 8 * 8) = false) (hword : off % 4 = 0) :
    exec (.winRd src dst hops tag off true) s = .next (frameSend src tag (.winRdA 0 (regRead .array off (if off % 8 = 4 then 4 else 8) s).1)
      (regRead .array off (if off % 8 = 4 then 4 else 8) s).2) :=
  congrArg Host.Outcome.next ((frameArrive_acts _ hon hid (.inr hdst)).trans
    ((if_neg (by simp [hwo, Nat.not_le.2 hoff])).trans (if_neg (not_not.2 hword))))

theorem winRdA_read {a : WinAsk} (data : Nat) (ha : s.cwy.winAsks.find? (fun x => x.tag = tag && x.member = src) = some a)
    (hlatch : a.latch = false) : exec (.winRdA src dst hops tag 0 data true) s =
      .next (send (.readData a.path (if a.width = 8 then data % 2 ^ 64 else data % 2 ^ 32))
        { s with cwy := { s.cwy with winAsks := s.cwy.winAsks.filter (fun x => x.tag ≠ tag) } }) := by
  refine congrArg Host.Outcome.next ((frameArrive_acts _ hon hid (.inr hdst)).trans ?_)
  simp only [ha, hlatch]
  rfl

theorem winWr_written {off : Nat} (be data : Nat) (fact : Bool) (hdump : s.spn.mode ≠ .dump) (hoff : off < 0x200000)
    (hwo : hasWo (off / 8 * 8) = false) (hen : s.cwy.remoteWrEn = true) (hplain : off < 0x70000 ∨ 0x80000 ≤ off) :
    exec (.winWr src dst hops tag off be data fact true) s =
      .next (regWrite ⟨.array, enabledBits be, data⟩ (off / 8 * 8) fact (dropHalf .array s)) := by
  have hopen : ¬ (0x200000 ≤ off ∨ hasWo (off / 8 * 8) = true ∨ (!s.cwy.remoteWrEn) = true ∨ (0x70000 ≤ off ∧ off < 0x80000)) := by
    rw [hwo, hen]
    rintro (h | h | h | h)
    · omega
    · cases h
    · cases h
    · omega
  exact congrArg Host.Outcome.next ((frameArrive_acts _ hon hid (.inr hdst)).trans ((if_neg (fun h => hdump h.1)).trans (if_neg hopen)))

theorem mctpFrame_inside (packet : List Nat) : exec (.mctpFrame false src dst hops tag packet true) s = .next (send (.mctpOut packet) s) :=
  congrArg Host.Outcome.next (frameArrive_acts _ hon hid (.inr hdst))

theorem cmd_arrives (sub : Nat) (payload : List Nat) : exec (.cmd src dst hops tag sub payload true) s = .next (memberRun sub tag src s) :=
  congrArg Host.Outcome.next (frameArrive_acts _ hon hid (.inr hdst))

theorem cmdA_arrives (sub status : Nat) (result : Fields) : exec (.cmdA src dst hops tag sub status result true) s =
    .next (if sub = 3 then updateAnswer src status result s else arrayAnswer src sub status result s) :=
  congrArg Host.Outcome.next (frameArrive_acts _ hon hid (.inr hdst))

theorem fwData_written (off : Nat) (data : List Nat) (hroll : s.cwy.rollEn = true) (hquag : s.nrg.quagOk = true) (hdump : s.spn.mode ≠ .dump) :
    exec (.fwData src dst hops tag off data true) s = .next (writeChunk off data s) :=
  congrArg Host.Outcome.next ((frameArrive_acts _ hon hid (.inr hdst)).trans (if_pos ⟨hroll, hquag, hdump⟩))

end Member

theorem memberRun_known {sub : Nat} (tag src : Nat) (s : State) (h : sub = 1 ∨ sub = 2 ∨ sub = 3) : memberRun sub tag src s =
    if sub = 1 then answerHead src tag 1 0 (statusFields s) s else if sub = 2 then memberBarrier tag src s else memberUpdate tag src s := by
  rcases h with rfl | rfl | rfl <;> rfl

/-- A packet for this member's own endpoint goes out of the management port. -/
theorem mctpFrame_own {s : State} {packet : List Nat} (src dst hops tag : Nat) (good : Bool) (hon : s.cwy.unit = .on) (hhead : s.cwy.isHead = true)
    (hbase : s.cwy.eidBase ≤ packet.getD 1 0) (hown : packet.getD 1 0 - s.cwy.eidBase = s.cwy.myId) (hmember : s.cwy.myId ≤ 63) :
    exec (.mctpFrame true src dst hops tag packet good) s = .next (send (.mctpOut packet) s) := by
  have htaken : ¬ (s.cwy.unit ≠ .on ∨ (!s.cwy.isHead) = true ∨ packet.getD 1 0 < s.cwy.eidBase ∨ 63 < packet.getD 1 0 - s.cwy.eidBase) := by
    rw [hown, hhead]
    rintro (h | h | h | h)
    · exact h hon
    · cases h
    · omega
    · omega
  exact congrArg Host.Outcome.next ((if_neg htaken).trans (if_pos hown))

/-! ### The statement -/

/-- Settles O56: each message by the equation of what it acts on once taken, each frame by that of what it does at a member that takes it
(R373, R377, R378, R384, R387, R389, R394, R403, R412, R415, R418; log 73, 77). -/
theorem completeKorricAndCauseway : Obligations.CompleteKorricAndCauseway := by
  unfold Obligations.CompleteKorricAndCauseway
  refine ⟨?mirror, ?repair, ?state, ?digest, ?openQuery, ?openReply, ?shadowNotice, ?shadowMap, ?releaseNotice, ?releaseDone, ?pressure,
    ?dumpNotice, ?poisonLine, ?repairReq, ?repairReply, ?resyncEnd, ?adopted, ?adoptReply, ?returned, ?ownCopyDone, ?laneSwap, ?laneSwapAck,
    ?laneFault, ?laneSwitchTx, ?laneSwitchRx, ?trained, ?retrained, ?linkBack, ?linkLost, ?rollCall, ?claim, ?join, ?witnessQ, ?witnessA,
    ?winRd, ?winRdA, ?winWr, ?mctpOut, ?mctpIn, ?cmd, ?cmdA, ?fwData⟩
  case mirror =>
    exact fun s h slots u hhears horder hu hup hdump => Taken.actsUp ⟨hhears, horder, hu.symm⟩ hup hdump _
  case repair =>
    exact fun s h slots u hhears horder hu hup hdump => Taken.actsUp ⟨hhears, horder, hu.symm⟩ hup hdump _
  case state =>
    intro s h i sideB tiebreakB cwyId mepoch mseqNext u hhears horder hu
    rw [state_taken ⟨hhears, horder, hu.symm⟩, numberBelow_eq]
    rfl
  case digest =>
    intro s h i part value u v hhears horder hu hpart hv
    rw [digest_taken ⟨hhears, horder, hu.symm⟩, if_neg (Nat.not_le.2 hpart), ← hv]
    rfl
  case openQuery =>
    exact fun s h i r u hhears horder hu hup hdump hstate => openQuery_answered ⟨hhears, horder, hu.symm⟩ hup hdump r hstate
  case openReply =>
    intro s h i r answer u hhears horder hu hup hdump hopening
    rw [openReply_taken ⟨hhears, horder, hu.symm⟩ hup hdump, if_neg (by simp only [hopening]; decide)]
    rfl
  case shadowNotice =>
    intro s h i g mseq u hhears horder hu hup hdump hlast hheld
    rw [shadowNotice_taken ⟨hhears, horder, hu.symm⟩ hup hdump, if_pos (by simp only [hlast, hheld]; decide)]
  case shadowMap =>
    exact fun s h i first bits u hhears horder hu hup hdump => shadowMap_taken ⟨hhears, horder, hu.symm⟩ hup hdump first bits
  case releaseNotice =>
    rintro s h i first count u v hhears horder hu hup hdump rfl
    exact releaseNotice_taken ⟨hhears, horder, hu.symm⟩ hup hdump first count
  case releaseDone =>
    exact fun s h i first u e hhears horder hu hup hdump he => releaseDone_taken ⟨hhears, horder, hu.symm⟩ hup hdump he
  case pressure =>
    intro s h i on u hhears horder hu hup
    rw [pressure_taken ⟨hhears, horder, hu.symm⟩, if_pos hup]
  case dumpNotice =>
    rintro s h i kind seq u v hhears horder hu hup rfl
    rw [dumpNotice_taken ⟨hhears, horder, hu.symm⟩, if_neg (by simp [hup])]
    rfl
  case poisonLine =>
    exact fun s h i line mseq u hhears horder hu hup hdump hmirror => poisonLine_taken ⟨hhears, horder, hu.symm⟩ hup hdump hmirror
  case repairReq =>
    exact fun s h i g tag u hhears horder hu hup hdump hcopy => repairReq_refused ⟨hhears, horder, hu.symm⟩ hup hdump tag hcopy
  case repairReply =>
    exact fun s h i g answer tag u a hhears horder hu hup hdump ha => repairReply_taken ⟨hhears, horder, hu.symm⟩ hup hdump answer ha
  case resyncEnd =>
    exact fun s h i u hhears horder hu hup hdump => resyncEnd_taken ⟨hhears, horder, hu.symm⟩ hup hdump
  case adopted =>
    intro s h i r u hhears horder hu hup hdump hdef hserves
    rw [adopted_taken ⟨hhears, horder, hu.symm⟩ hup hdump, if_neg (by simp [hdef, hserves])]
  case adoptReply =>
    intro s h i r answer u hhears horder hu hup hdump hadopted
    rw [adoptReply_taken ⟨hhears, horder, hu.symm⟩ hup hdump, if_neg (by simp [hadopted])]
  case returned =>
    rintro s h i r u v hhears horder hu hup hdump hdef hside hout rfl
    rw [return_taken ⟨hhears, horder, hu.symm⟩ hup hdump, if_neg (by simp [hdef, hside]), if_neg (by simp [hout])]
    rfl
  case ownCopyDone =>
    rintro s h i r u v hhears horder hu hup hdump hgave rfl
    rw [ownCopyDone_taken ⟨hhears, horder, hu.symm⟩ hup hdump, if_neg (by simp only [hgave]; decide)]
    rfl
  case laneSwap =>
    intro s h i cause lane codeword sent u hhears horder hu hup hspare
    rw [laneSwap_taken ⟨hhears, horder, hu.symm⟩, if_neg (by simp [hup, hspare])]
    rfl
  case laneSwapAck =>
    intro s h i lane codeword cause cw u hhears horder hu hswap
    rw [laneSwapAck_taken ⟨hhears, horder, hu.symm⟩, hswap]
    exact congrArg Host.Outcome.next (if_neg (not_not.2 rfl))
  case laneFault =>
    rintro s lane symbols received lost u hhears rfl _ hgood hbad hspare hswap
    have hspare : s.kor.spareRx = false := hspare
    have hswap : s.kor.rxSwap = none := hswap
    rw [laneFault_faulted received hhears hgood hbad, if_neg (by simp [hspare, hswap])]
    rfl
  case laneSwitchTx => exact fun s lane cause cw hswap => laneSwitch_tx hswap
  case laneSwitchRx => exact fun s lane cause cw hswap hspare => laneSwitch_rx hswap hspare
  case trained =>
    intro s width hon htraining hstate
    rw [korricTrainingDone_passed hon htraining hstate, numberBelow_eq]
    rfl
  case retrained => exact fun s width hon hstate hasking => korricTrainingDone_deciding width hon hstate hasking
  case linkBack =>
    rintro s u hstate hasking rfl
    exact fastRetrainDone_passed hstate hasking
  case linkLost => exact fun s hstate hasking => fastRetrainDone_failed hstate hasking
  case rollCall => exact fun s src hops tag live dumping headcap a b c hon hid hsrc hstamp => rollCall_arrives hon hid hops tag hsrc hstamp
  case claim => exact fun s src hops tag hon hid => claim_arrives hon hid src hops tag
  case join => exact fun s src hops tag serial hon hid hsrc hserial => join_duplicate hon hid hops tag hsrc hserial
  case witnessQ =>
    exact fun s src dst hops tag target a hon hid hdst hhead hsettled htarget ha =>
      witnessQ_answered hon hid hdst src hops tag hhead hsettled htarget ha
  case witnessA =>
    rintro s src dst hops tag target result why hon hid rfl hasking htarget hresult
    rw [witnessA_arrives src hops tag target result hasking hon hid htarget hresult, if_pos rfl]
  case winRd =>
    intro s src dst hops tag off v u hon hid hdst hoff hwo hword hread
    rw [winRd_answered hon hid hdst src hops tag hoff hwo hword, hread]
  case winRdA => exact fun s src dst hops tag data a hon hid hdst ha hlatch => winRdA_read hon hid hdst src hops tag data ha hlatch
  case winWr =>
    exact fun s src dst hops tag off be data fact hon hid hdst hdump hoff hwo hen hplain =>
      winWr_written hon hid hdst src hops tag be data fact hdump hoff hwo hen hplain
  case mctpOut =>
    exact fun s src dst hops tag packet good hon hhead hbase hown hmember => mctpFrame_own src dst hops tag good hon hhead hbase hown hmember
  case mctpIn => exact fun s src dst hops tag packet hon hid hdst => mctpFrame_inside hon hid hdst src hops tag packet
  case cmd =>
    intro s src dst hops tag sub payload hon hid hdst hsub
    rw [cmd_arrives hon hid hdst src hops tag sub payload, memberRun_known tag src s hsub]
  case cmdA => exact fun s src dst hops tag sub status result hon hid hdst => cmdA_arrives hon hid hdst src hops tag sub status result
  case fwData =>
    exact fun s src dst hops tag off data hon hid hdst hroll hquag hdump => fwData_written hon hid hdst src hops tag off data hroll hquag hdump

end Sys2Proof.Machine
end

section
/-!
PROOFS. The Causeway ring (R411, R412, R414 to R418): what a roll call leaves of the ring's registers, claims, joins, the head's answers, frames
that only pass, and the statement about them.
-/

namespace Sys2Proof.Machine

/-! ### Frames that only pass (R412, R414) -/

/-- A frame with hops left goes on with one hop less. -/
theorem frameOn_passed {f : Frame} (s : State) (h : 2 ≤ f.hops) : frameOn f s = send (.frame { f with hops := f.hops - 1 } true) s :=
  if_neg (Nat.not_le.2 h)

theorem frameArrive_bad {s : State} (f : Frame) (k : State → State) (hon : s.cwy.unit = .on) : frameArrive f false k s = frameBad f s :=
  if_neg (not_not.2 hon)

/-- A unicast frame for another member passes, whatever ID this member has. -/
theorem frameArrive_passes {s : State} {f : Frame} (k : State → State) (hon : s.cwy.unit = .on) (hall : f.dst ≠ 0xFF) (hother : f.dst ≠ s.cwy.myId) :
    frameArrive f true k s = frameOn f s := by
  rw [frameArrive, if_neg (not_not.2 hon), if_neg (by decide), if_pos (.inr ⟨hall, hother⟩)]

/-- A write of the ring's unit alone. -/
theorem keeps_cwy {s : State} (x : Cwy) : Keeps 0x10000 s { s with cwy := x } :=
  (Keeps.refl _ s).direct (fun p hp => by cases p <;> simp_all [Part.bit, Part.same])

/-! ### What a roll call leaves (R411, R416, R417) -/

@[simp] theorem memberChanges_cwy (old new : Nat) (s : State) : (memberChanges old new s).cwy = s.cwy :=
  (memberChanges_keeps (m := 0x100000) old new (by decide) (Keeps.refl _ s)).cwyEq (by decide)

@[simp] theorem memberChanges_out (old new : Nat) (s : State) : (memberChanges old new s).out = s.out :=
  (memberChanges_keeps (m := 0x100000) old new (by decide) (Keeps.refl _ s)).outEq (by decide)

@[simp] theorem copyRoll_cwy (live dumping headcap : Nat) (s : State) :
    (copyRoll live dumping headcap s).cwy = { s.cwy with live := live, dumping := dumping, headcaps := headcap } := memberChanges_cwy _ _ _

@[simp] theorem copyRoll_out (live dumping headcap : Nat) (s : State) : (copyRoll live dumping headcap s).out = s.out := memberChanges_out _ _ _

@[simp] theorem ringRise_cwy (s : State) : (ringRise s).cwy = { s.cwy with ringUp := true } := by
  unfold ringRise
  split
  next hup => rw [← hup]
  next => rfl

@[simp] theorem ringRise_out (s : State) : (ringRise s).out = s.out := (ringRise_keeps (m := 0x110000) (by decide) (Keeps.refl _ s)).outEq (by decide)

@[simp] theorem learnHead_cwy (head : Nat) (s : State) :
    (learnHead head s).cwy = { s.cwy with headId := head, electing := false, claiming := false } := by
  unfold learnHead
  extract_lets new
  split <;> rfl

@[simp] theorem learnHead_out (head : Nat) (s : State) : (learnHead head s).out = s.out :=
  (learnHead_keeps (m := 0x110000) head (by decide) (Keeps.refl _ s)).outEq (by decide)

/-- The head's own roll call copied and kept in its history. -/
def rollReturned (live dumping headcap : Nat) (s : State) : State :=
  let t := ringRise (copyRoll live dumping headcap s)
  { t with cwy := { t.cwy with history := live :: t.cwy.history.take 1 } }

theorem rollReturned_cwy (live dumping headcap : Nat) (s : State) : (rollReturned live dumping headcap s).cwy =
    { s.cwy with live := live, dumping := dumping, headcaps := headcap, ringUp := true, history := live :: s.cwy.history.take 1 } := by
  simp [rollReturned]

theorem rollReturned_out (live dumping headcap : Nat) (s : State) : (rollReturned live dumping headcap s).out = s.out := by simp [rollReturned]

theorem rollReturned_keeps (live dumping headcap : Nat) (s : State) : Keeps 0x110000 s (rollReturned live dumping headcap s) :=
  Keeps.trans (ringRise_keeps (by decide) (copyRoll_keeps live dumping headcap (by decide) (Keeps.refl _ s)))
    ((keeps_cwy _).mono (by decide))

/-! ### Frames at a member with an ID of its own (R416 to R418) -/

section Member

variable {s : State} (hon : s.cwy.unit = .on) (hid : s.cwy.dupId = false)
include hon hid

theorem rollCall_returns (hops tag live dumping headcap : Nat) : exec (.rollCall s.cwy.myId hops tag live dumping headcap true) s =
    .next (if live ≠ s.cwy.live ∨ dumping ≠ s.cwy.dumping then msix 11 (rollReturned live dumping headcap s)
      else rollReturned live dumping headcap s) := by
  refine congrArg Host.Outcome.next ((frameArrive_acts _ hon hid (.inl rfl)).trans ((if_pos rfl).trans ?_))
  simp only [decide_eq_true_eq]
  rfl

theorem rollCall_passedOn {src hops : Nat} (tag live dumping headcap : Nat) (hsrc : src ≠ s.cwy.myId) (hhops : 2 ≤ hops) :
    ∃ t b, b = stampBits s live dumping headcap ∧ exec (.rollCall src hops tag live dumping headcap true) s = .next t ∧ t.cwy.live = b.1 ∧
      t.cwy.dumping = b.2.1 ∧ t.cwy.headcaps = b.2.2 ∧ t.cwy.headId = src ∧ t.cwy.ringUp = true ∧
      t.out = s.out ++ [.frame ⟨0xFF, src, hops - 1, tag, .rollCall b.1 b.2.1 b.2.2⟩ true] ∧ OnlyIn [.cwy, .raised, .out] s t := by
  rcases hstamp : stampBits s live dumping headcap with ⟨a, b, c⟩
  refine ⟨_, _, rfl, rollCall_arrives hon hid hops tag hsrc hstamp, ?_⟩
  rw [frameOn_passed _ hhops]
  refine ⟨by simp, by simp, by simp, by simp, by simp, by simp, fr (m := 0x310000) ?_ (by decide)⟩
  exact Keeps.trans (copyRoll_keeps _ _ _ (by decide) (ringRise_keeps (by decide) (learnHead_keeps src (by decide) (Keeps.refl _ s))))
    (send_keeps _ (by decide) (Keeps.refl _ _))

theorem rollCall_returned_effect (hops tag live dumping headcap : Nat) :
    ∃ t, exec (.rollCall s.cwy.myId hops tag live dumping headcap true) s = .next t ∧ t.cwy.live = live ∧ t.cwy.dumping = dumping ∧
      t.cwy.headcaps = headcap ∧ t.cwy.history = live :: s.cwy.history.take 1 ∧
      t.out = s.out ++ (if live ≠ s.cwy.live ∨ dumping ≠ s.cwy.dumping then [.msix 11] else []) ∧ OnlyIn [.cwy, .raised, .out] s t := by
  refine ⟨_, rollCall_returns hon hid hops tag live dumping headcap, ?_⟩
  have hcwy := rollReturned_cwy live dumping headcap s
  have hout := rollReturned_out live dumping headcap s
  have hkeeps : Keeps 0x310000 s (rollReturned live dumping headcap s) := (rollReturned_keeps live dumping headcap s).mono (by decide)
  by_cases hmoved : live ≠ s.cwy.live ∨ dumping ≠ s.cwy.dumping
  · rw [if_pos hmoved, if_pos hmoved]
    exact ⟨by simp [hcwy], by simp [hcwy], by simp [hcwy], by simp [hcwy], by simp [hout], fr (msix_keeps 11 (by decide) hkeeps) (by decide)⟩
  · rw [if_neg hmoved, if_neg hmoved]
    exact ⟨by simp [hcwy], by simp [hcwy], by simp [hcwy], by simp [hcwy], by simp [hout], fr hkeeps (by decide)⟩

theorem rollCallTimer_head (hhead : s.cwy.isHead = true) : exec .rollCallTimer s = .next (sendRoll s) :=
  congrArg Host.Outcome.next (if_pos ⟨hon, hhead, by simp [hid]⟩)

/-- A claim that no lower ID met makes the member head. -/
theorem claim_won (hops tag : Nat) (hclaiming : s.cwy.claiming = true) (hlower : s.cwy.lowerSeen = false) :
    exec (.claim s.cwy.myId hops tag true) s = .next (sendRoll (raise 0x0A03 0x06 [(1, s.cwy.myId)] { s with cwy := { s.cwy with
      isHead := true, electing := false, claiming := false, headId := s.cwy.myId, history := [] } })) := by
  rw [claim_arrives hon hid, if_pos rfl, if_pos ⟨hclaiming, by simp [hlower]⟩]

/-- A head-capable member that is not head claims. -/
theorem claimHead_claims (hcapable : s.cwy.headCapable = true) (hhead : s.cwy.isHead = false) : claimHead s =
    send (.frame ⟨0xFF, s.cwy.myId, 64, 0, .claim⟩ true) { s with cwy := { s.cwy with electing := true, claiming := true, lowerSeen := false } } :=
  if_pos ⟨hon, hcapable, by simp [hid], by simp [hhead]⟩

end Member

/-- The head's answer reads the two most recent roll calls. -/
theorem witnessAnswer_two {s : State} {a b : Nat} {l : List Nat} (target : Nat) (hhistory : s.cwy.history = a :: b :: l) :
    witnessAnswer s target = some (if a.testBit target = false ∧ b.testBit target = false then 1 else 2) := by
  simp [witnessAnswer, hhistory]

/-! ### The statement -/

/-- Settles O22: a roll call by whose it is, the head's timer, claims by the two IDs, the start of an election, a duplicate, the head's answer,
the ring's state, and a frame that only passes (R411, R412, R414 to R418; log 71). -/
theorem ringFrames : Obligations.RingFrames := by
  unfold Obligations.RingFrames
  refine ⟨?passed, ?returned, ?timer, ?claim, ?won, ?election, ?duplicate, ?witness, ?down, ?relock, ?bad, ?other⟩
  case passed => exact fun s src hops tag l d h hon hid hsrc hhops => rollCall_passedOn hon hid tag l d h hsrc hhops
  case returned => exact fun s hops tag l d h hon hid => rollCall_returned_effect hon hid hops tag l d h
  case timer => exact fun s hon hid hhead => ⟨_, rfl, rollCallTimer_head hon hid hhead⟩
  case claim =>
    intro s src hops tag hon hid hhops
    refine ⟨fun hlower => ?_, fun hhigher => ?_⟩
    · rw [claim_arrives hon hid, if_neg hlower.ne, if_pos hlower, frameOn_passed _ hhops]
    · rw [claim_arrives hon hid, if_neg hhigher.ne', if_neg hhigher.asymm, frameOn_passed _ hhops]
  case won =>
    exact fun s hops tag hon hid hclaiming hlower => ⟨_, claim_won hon hid hops tag hclaiming hlower, rfl, rfl, rfl, rfl,
      fr (m := 0x310000) (sendRoll_keeps (by decide) (raise_keeps _ _ _ (by decide) ((keeps_cwy _).mono (by decide)))) (by decide)⟩
  case election =>
    intro s hon hid hcapable hhead
    have hclaims := claimHead_claims hon hid hcapable hhead
    exact ⟨_, rfl, congrArg Host.Outcome.next hclaims,
      fun hdown => congrArg Host.Outcome.next ((if_neg (by simp [hdown])).trans hclaims)⟩
  case duplicate =>
    exact fun s hops tag serial hon hid hserial => ⟨_, join_duplicate hon hid hops tag rfl hserial, rfl, rfl, rfl,
      fr (m := 0x110000) (raise_keeps _ _ _ (by decide) ((keeps_cwy _).mono (by decide))) (by decide)⟩
  case witness =>
    intro s src hops tag a b l hon hid hhead hsettled hhistory
    exact witnessQ_answered hon hid rfl src hops tag hhead hsettled rfl (witnessAnswer_two _ hhistory)
  case down => exact fun s hon hup => congrArg Host.Outcome.next (if_pos ⟨hon, hup⟩)
  case relock => exact fun s hon => congrArg Host.Outcome.next (if_pos hon)
  case bad => exact fun s src hops tag hon => congrArg Host.Outcome.next (frameArrive_bad _ _ hon)
  case other => exact fun s src dst hops tag target hon hall hother => congrArg Host.Outcome.next (frameArrive_passes _ hon hall hother)

end Sys2Proof.Machine
end

section
/-!
PROOFS. The array window (R420, R421): accesses of the head's window, a member's answers to a head's reads and writes, the answers that reach
the head, and the statement about them.
-/

namespace Sys2Proof.Machine

/-! ### The head's window (R420, R421) -/

/-- An access drops at most latches of window reads of the ring's registers. -/
theorem dropHalf_cwy (p : Path) (s : State) : (dropHalf p s).cwy = { s.cwy with winAsks := (dropHalf p s).cwy.winAsks } := by
  unfold dropHalf
  split <;> rfl

@[simp] theorem dropHalf_raised (p : Path) (s : State) : (dropHalf p s).raised = s.raised :=
  (dropHalf_keeps (m := 0x10001) p (by decide) (Keeps.refl _ s)).raisedEq (by decide)

theorem windowOpen_iff {s : State} : windowOpen s = true ↔ s.cwy.isHead = true ∧ s.cwy.unit = .on := by simp [windowOpen]

@[simp] theorem windowOpen_dropHalf (p : Path) (s : State) : windowOpen (dropHalf p s) = windowOpen s := by rw [windowOpen, dropHalf_cwy, windowOpen]

@[simp] theorem windowTarget_dropHalf (o : Nat) (p : Path) (s : State) : windowTarget o (dropHalf p s) = windowTarget o s := by
  rw [windowTarget, dropHalf_cwy, windowTarget]

section Window

variable {s : State} {addr : Nat} (path : Path) (hcore : s.pwr.corePg = true) (hlow : 0x300000 ≤ addr) (hhigh : addr < 0x400000)
  (halign : addr % 8 = 0)
include hcore hlow hhigh halign

theorem exec_windowRead : exec (.windowRead path addr 8) s = .next (windowRead path addr 8 s) := by
  have hok : accessOk addr 8 = true := by simp [accessOk, halign]
  exact congrArg Host.Outcome.next ((if_neg (by simp [hcore, hlow, hhigh])).trans (if_neg (by simp [hok])))

theorem exec_windowWrite (value : Nat) (fact : Bool) :
    exec (.windowWrite path addr 8 value fact) s = .next (windowWrite path addr 8 value fact (dropHalf path s)) := by
  have hok : accessOk addr 8 = true := by simp [accessOk, halign]
  exact congrArg Host.Outcome.next ((if_neg (by simp [hcore, hlow, hhigh])).trans (if_neg (by simp [hok])))

end Window

theorem windowRead_closed {s : State} (path : Path) (addr width : Nat) (hclosed : windowOpen s = false) :
    windowRead path addr width s = send (.readData path 0) (dropHalf path s) := if_pos (by simp [hclosed])

theorem windowWrite_closed {s : State} (path : Path) (addr width value : Nat) (fact : Bool) (hclosed : windowOpen s = false) :
    windowWrite path addr width value fact s = s := if_pos (by simp [hclosed])

/-- A read of another member's window waits under the next tag. -/
def windowAsked (path : Path) (addr m off : Nat) (s : State) : State :=
  let t := dropHalf path s
  { t with cwy := { s.cwy with
    nextTag := wrapAdd 16 s.cwy.nextTag 1, winAsks := t.cwy.winAsks ++ [⟨path, m, off, addr, 8, s.cwy.nextTag, false⟩] } }

theorem windowAsked_keeps (path : Path) (addr m off : Nat) (s : State) : Keeps 0x10001 s (windowAsked path addr m off s) :=
  Keeps.trans (dropHalf_keeps path (by decide) (Keeps.refl _ s)) ((keeps_cwy _).mono (by decide))

section Other

variable {s : State} {addr m off : Nat} (path : Path) (hopen : windowOpen s = true) (htarget : windowTarget (addr - 0x300000) s = (m, off))
  (hother : m ≠ s.cwy.myId)
include hopen htarget hother

theorem windowRead_member : windowRead path addr 8 s =
    if s.cwy.live.testBit m = false then windowFail m off (send (.abort path) (dropHalf path s))
    else frameSend m s.cwy.nextTag (.winRd off) (windowAsked path addr m off s) := by
  simp only [windowRead, htarget, hopen, hother, windowAsked]
  rw [dropHalf_cwy]
  simp

theorem windowWrite_member (value : Nat) (fact : Bool) : windowWrite path addr 8 value fact s =
    frameSend m s.cwy.nextTag (.winWr (off / 8 * 8) 0xFF (value % 2 ^ 64)) { s with cwy := { s.cwy with nextTag := wrapAdd 16 s.cwy.nextTag 1 } } := by
  simp [windowWrite, htarget, hopen, hother, wrOf]

end Other

/-! ### Reads and writes at a member, and the answers at the head (R421) -/

section Member

variable {s : State} (hon : s.cwy.unit = .on) (hid : s.cwy.dupId = false) (src hops tag : Nat)
include hon hid

theorem winRd_refused {off : Nat} (hbad : 0x200000 ≤ off ∨ hasWo (off / 8 * 8) = true) :
    exec (.winRd src s.cwy.myId hops tag off true) s = .next (frameSend src tag (.winRdA 1 0) s) :=
  congrArg Host.Outcome.next ((frameArrive_acts _ hon hid (.inr rfl)).trans (if_pos hbad))

theorem winRdA_refused {a : WinAsk} {status : Nat} (data : Nat) (ha : s.cwy.winAsks.find? (fun x => x.tag = tag && x.member = src) = some a)
    (hstatus : status ≠ 0) : exec (.winRdA src s.cwy.myId hops tag status data true) s = .next (windowGone a s) := by
  refine congrArg Host.Outcome.next ((frameArrive_acts _ hon hid (.inr rfl)).trans ?_)
  simp only [ha]
  exact if_pos hstatus

theorem winWr_refused {off : Nat} (be data : Nat) (fact : Bool) (hdump : s.spn.mode ≠ .dump)
    (hbad : 0x200000 ≤ off ∨ hasWo (off / 8 * 8) = true ∨ s.cwy.remoteWrEn = false ∨ (0x70000 ≤ off ∧ off < 0x80000)) :
    exec (.winWr src s.cwy.myId hops tag off be data fact true) s = .next (windowFail s.cwy.myId off s) :=
  congrArg Host.Outcome.next ((frameArrive_acts _ hon hid (.inr rfl)).trans
    ((if_neg (fun h => hdump h.1)).trans (if_pos (by simpa using hbad))))

end Member

theorem windowReadTimeout_ends {s : State} {tag : Nat} {a : WinAsk} (ha : s.cwy.winAsks.find? (fun x => x.tag = tag) = some a) :
    exec (.windowReadTimeout tag) s = .next (windowGone a s) := by
  show execWindowReadTimeout tag s = _
  rw [execWindowReadTimeout, ha]

theorem windowGone_only {s : State} {a : WinAsk} (ha : s.cwy.winAsks = [a]) : windowGone a s = raise 0x0A06 0x06 [(1, a.member), (4, a.off)]
    (send (.abort a.path) { s with cwy := { s.cwy with winAsks := [], winAbort := satAdd 16 s.cwy.winAbort 1 } }) := by
  simp [windowGone, windowFail, send, ha]

/-! ### The statement -/

/-- Settles O23: an access of the head's window by whose window it is and whether that member is live, then a head's read and write at a member
and the answers to a read (R420, R421; log 47). -/
theorem arrayWindow : Obligations.ArrayWindow := by
  unfold Obligations.ArrayWindow
  refine ⟨?read, ?dead, ?write, ?notHead, ?winRd, ?answered, ?aborted, ?refused, ?written⟩
  case read =>
    intro s path addr hcore hlow hhigh halign hhead hon hother hlive
    have hread := windowRead_member path (windowOpen_iff.2 ⟨hhead, hon⟩) rfl hother
    rw [if_neg (by simp [hlive])] at hread
    refine ⟨_, _, _, rfl, rfl, (exec_windowRead path hcore hlow hhigh halign).trans (congrArg Host.Outcome.next hread), ?_, rfl, rfl, ?_⟩
    · exact congrArg (· ++ [_]) (dropHalf_out path s)
    · exact fr (m := 0x210001) (frameSend_keeps _ _ _ (by decide) ((windowAsked_keeps _ _ _ _ s).mono (by decide))) (by decide)
  case dead =>
    intro s path addr hcore hlow hhigh halign hhead hon hother hdead
    have hread := windowRead_member path (windowOpen_iff.2 ⟨hhead, hon⟩) rfl hother
    rw [if_pos hdead] at hread
    refine ⟨_, (exec_windowRead path hcore hlow hhigh halign).trans (congrArg Host.Outcome.next hread), ?_, ?_, ?_, ?_⟩
    · exact congrArg (· ++ [_]) (dropHalf_out path s)
    · rw [windowFail, raise_cwy, send_cwy, dropHalf_cwy]
    · simp [windowFail]
    · exact fr (m := 0x310001) (windowFail_keeps _ _ (by decide) (send_keeps _ (by decide) (dropHalf_keeps path (by decide) (Keeps.refl _ s))))
        (by decide)
  case write =>
    intro s path addr value fact hcore hlow hhigh halign hhead hon hother
    have hwrite := windowWrite_member path (s := dropHalf path s) (addr := addr) (by rw [windowOpen_dropHalf]; exact windowOpen_iff.2 ⟨hhead, hon⟩)
      (windowTarget_dropHalf _ path s) (by rw [dropHalf_cwy]; exact hother) value fact
    refine ⟨_, (exec_windowWrite path hcore hlow hhigh halign value fact).trans (congrArg Host.Outcome.next hwrite), ?_, ?_⟩
    · rw [frameSend, send_out, dropHalf_cwy, dropHalf_out]
      rfl
    · exact fr (m := 0x210001) (frameSend_keeps _ _ _ (by decide) (Keeps.trans (dropHalf_keeps path (by decide) (Keeps.refl _ s))
        ((keeps_cwy _).mono (by decide)))) (by decide)
  case notHead =>
    intro s path addr value fact hcore hlow hhigh halign hhead
    have hclosed : windowOpen s = false := by simp [windowOpen, hhead]
    rw [exec_windowWrite path hcore hlow hhigh halign, exec_windowRead path hcore hlow hhigh halign, windowRead_closed _ _ _ hclosed,
      windowWrite_closed _ _ _ _ _ (by rwa [windowOpen_dropHalf])]
    exact ⟨rfl, rfl⟩
  case winRd =>
    intro s src hops tag off hon hid
    refine ⟨fun hbad => winRd_refused hon hid src hops tag hbad, fun hoff hwo halign => ?_⟩
    rw [winRd_answered hon hid rfl src hops tag hoff hwo (by omega), if_neg (by omega)]
  case answered =>
    intro s src hops tag data a hon hid hask htag hmember hwidth hlatch
    rw [winRdA_read hon hid rfl src hops tag data (by simp [hask, htag, hmember]) hlatch, if_pos hwidth]
    simp [hask, htag]
  case aborted =>
    rintro s src hops tag data a hon hid hask htag rfl
    refine ⟨_, rfl, ?_, ?_⟩
    · rw [winRdA_refused hon hid _ hops tag (a := a) data (by simp [hask, htag]) one_ne_zero, windowGone_only hask]
    · rw [windowReadTimeout_ends (a := a) (by simp [hask, htag]), windowGone_only hask]
  case refused =>
    intro s src hops tag off be data fact hon hid hdump hbad
    exact ⟨_, winWr_refused hon hid src hops tag be data fact hdump (hbad.imp_right .inr), rfl, rfl,
      fr (m := 0x110000) (windowFail_keeps _ _ (by decide) (Keeps.refl _ s)) (by decide)⟩
  case written =>
    exact fun s src hops tag off be data fact hon hid hdump hoff hen hplain hwo =>
      winWr_written hon hid rfl src hops tag be data fact hdump hoff hwo hen hplain

end Sys2Proof.Machine
end

section
/-!
PROOFS. Array commands and the MCTP bridge (R129, R422 to R425): commands on the head, a member's answers, the ends of a command, image chunks,
packets of the bridge, and the statement about them.
-/

namespace Sys2Proof.Machine

/-! ### Commands on the head (R129, R423 to R425) -/

section Begin

variable {s : State} {via : Via} (hserves : VendorServes via runningModes true true s)
include hserves

theorem arrayBegin_head (k : State → State) (hhead : s.cwy.isHead = true) : arrayBegin via k s = k s := by
  rw [arrayBegin, vendor_serves hserves, if_neg (by simp [hhead])]

theorem arrayBegin_offHead (k : State → State) (hhead : s.cwy.isHead = false) :
    arrayBegin via k s = vendorRefuse via 0xC00D .unsupported 0x0004 s := by
  rw [arrayBegin, vendor_serves hserves, if_pos (by simp [hhead])]

end Begin

/-- A command that addresses some member starts in the background, and each of them is told. -/
theorem arrayAll_starts {s : State} (via : Via) (sub : Nat) {mask : Nat} (hsome : addressed s mask ≠ []) : arrayAll via sub mask s =
    (addressed s mask).foldl (fun t m => sendSub sub m t)
      (bgStart via 0xC00D { s with cwy := { s.cwy with array := some ⟨via, sub, addressed s mask, [], [], mask⟩ } }) :=
  if_neg (by simpa using hsome)

/-! ### The end of a command (R423, R425) -/

/-- A background command that runs ends well. -/
theorem bgEnd_success {s : State} {via : Via} {op : Nat} (ext : Nat) (payload : Fields) (hbg : s.hlk.bg = some ⟨via, op⟩) :
    bgEnd op .success ext payload s =
      msix 0 (reply via op .success ext payload { s with hlk := { s.hlk with bg := none, bgStatus := ⟨op, .success, ext⟩ } }) := by
  simp [bgEnd, hbg]

theorem bgEnd_cwy (op : Nat) (ret : Ret) (ext : Nat) (payload : Fields) (s : State) : (bgEnd op ret ext payload s).cwy = s.cwy :=
  (bgEnd_keeps (m := 0x300010) op ret ext payload (by decide) (Keeps.refl _ s)).cwyEq (by decide)

theorem arrayFinish_cwy {s : State} {a : ArrayCmd} (ha : s.cwy.array = some a) : (arrayFinish s).cwy =
    { s.cwy with array := none, updState := if a.sub = 3 ∧ s.cwy.updState = 1 then 2 else s.cwy.updState } := by
  simp only [arrayFinish, ha, bgEnd_cwy, raise_cwy]

theorem arrayStatusTimeout_ends {s : State} {a : ArrayCmd} (ha : s.cwy.array = some a) (hsub : a.sub = 1) :
    exec .arrayStatusTimeout s = .next (arrayFinish s) := congrArg Host.Outcome.next (if_pos (by simp [ha, hsub]))

theorem arrayFinish_effect {s : State} {a : ArrayCmd} (ha : s.cwy.array = some a) (hbg : s.hlk.bg = some ⟨a.via, 0xC00D⟩) :
    (arrayFinish s).cwy.array = none ∧ (arrayFinish s).hlk.bg = none ∧
      (arrayFinish s).raised = s.raised ++ [⟨0x0A08, 0x06, [(2, a.sub), (8, maskOf (a.answers.map Prod.fst))]⟩] ∧
      (arrayFinish s).out = s.out ++ [.mbox a.via 0xC00D .success 0 (arrayOutput a s.cwy.live), .msix 0] := by
  simp [arrayFinish, ha, bgEnd_success (via := a.via), hbg, reply]

theorem updateAnswer_waited {s : State} {a : ArrayCmd} {m : Nat} (status : Nat) (f : Fields) (ha : s.cwy.array = some a) (hsub : a.sub = 3)
    (hwaits : m ∈ a.waiting) : updateAnswer m status f s = updateLoop 64 (arrayAnswer m 3 status f (updateStep m status s)) :=
  if_neg (by simp [ha, hsub, hwaits])

/-- Status 4 stops a rolling update at the member that gave it. -/
theorem arrayAnswer_stops {s : State} {a : ArrayCmd} {m : Nat} (f : Fields) (ha : s.cwy.array = some a) (hsub : a.sub = 3)
    (hwaits : m ∈ a.waiting) : arrayAnswer m 3 4 f s = arrayFinish { s with cwy := { s.cwy with
      array := some { a with waiting := [], left := [], answers := a.answers ++ [(m, 4, f)] }, updState := 3, failId := m } } := by
  simp [arrayAnswer, ha, hsub, hwaits]

theorem arrayAnswer_failed {s : State} {a : ArrayCmd} {m : Nat} (f : Fields) (ha : s.cwy.array = some a) (hsub : a.sub = 3)
    (hwaits : m ∈ a.waiting) : (arrayAnswer m 3 4 f s).cwy.updState = 3 ∧ (arrayAnswer m 3 4 f s).cwy.failId = m := by
  rw [arrayAnswer_stops f ha hsub hwaits, arrayFinish_cwy rfl]
  exact ⟨if_neg (by simp), rfl⟩

/-- A member's answer while another member is waited for. -/
theorem arrayAnswer_recorded {s : State} {a : ArrayCmd} {src m : Nat} (status : Nat) (f : Fields) (ha : s.cwy.array = some a) (hsub : a.sub ≠ 3)
    (hwaits : a.waiting = [src, m]) (hother : m ≠ src) : arrayAnswer src a.sub status f s =
      { s with cwy := { s.cwy with array := some { a with waiting := [m], answers := a.answers ++ [(src, status, f)] } } } := by
  simp [arrayAnswer, ha, hsub, hwaits, hother]

/-! ### A member's answers (R423, R424) -/

theorem answerHead_other {s : State} {head : Nat} (tag sub status : Nat) (f : Fields) (hon : s.cwy.unit = .on) (hother : head ≠ s.cwy.myId) :
    answerHead head tag sub status f s = frameSend head tag (.cmdA sub status f) s := by
  rw [answerHead, if_neg hother, if_pos hon]

/-- A member in PARKED has nothing to shadow. -/
theorem memberBarrier_parked {s : State} (tag head : Nat) (hparked : s.spn.mode = .parked) : memberBarrier tag head s =
    answerHead head tag 2 0 (statusResult 0 0) { s with cwy := { s.cwy with barrierFor := none } } := if_pos hparked

theorem fwData_refused {s : State} (src hops tag off : Nat) (data : List Nat) (hon : s.cwy.unit = .on) (hid : s.cwy.dupId = false)
    (hclosed : s.cwy.rollEn = false ∨ s.nrg.quagOk = false) : exec (.fwData src s.cwy.myId hops tag off data true) s = .next s :=
  congrArg Host.Outcome.next ((frameArrive_acts _ hon hid (.inr rfl)).trans
    (if_neg (fun ⟨hroll, hquag, _⟩ => by rcases hclosed with h | h <;> simp_all)))

/-! ### A chunk of one later word (R425, R556) -/

theorem pieces_nil {α : Type} (n k : Nat) : pieces n k ([] : List α) = List.replicate k [] := by
  induction k with
  | zero => rfl
  | succ k ih => rw [pieces, List.take_nil, List.drop_nil, ih, List.replicate_succ]

/-- Data of one piece is that piece. -/
theorem pieces_one {α : Type} {n : Nat} (k : Nat) {data : List α} (hlength : data.length ≤ n) (hsome : data ≠ []) :
    (pieces n (k + 1) data).filter (fun w => !w.isEmpty) = [data] := by
  rw [pieces, List.take_of_length_le hlength, List.drop_of_length_le hlength, pieces_nil]
  simp [hsome]

theorem firmwareArea_aligned (slot : Nat) : (compArea .firmware slot).1 % 4096 = 0 := by
  simp only [compArea]
  omega

/-- A write of the internal flash apart from the Bog-oak row. -/
theorem keeps_ifc {s : State} {x : Ifc} (hbog : x.bog = s.ifc.bog) (hlocks : x.bogLocks = s.ifc.bogLocks) : Keeps 0x8 s { s with ifc := x } :=
  (Keeps.refl _ s).direct (fun p hp => by cases p <;> simp_all [Part.bit, Part.same]) rfl rfl hbog hlocks

/-- One word inside a sector, not the slot's first, is programmed. -/
theorem writeChunk_word {s : State} {off : Nat} {data : List Nat} (hlength : data.length = 8) (hinner : off % 4096 ≠ 0) (halign : off % 8 = 0)
    (hfits : off + 8 ≤ 0x200000) : writeChunk off data s = { s with ifc := { s.ifc with
      words := tput erasedWord s.ifc.words (((compArea .firmware (inactiveSlot s)).1 + off) / 8) (leValue data % 2 ^ 64) } } := by
  have hpieces : (pieces 8 31 data).filter (fun w => !w.isEmpty) = [data] := pieces_one 30 hlength.le (by rintro rfl; cases hlength)
  have hbase := firmwareArea_aligned (inactiveSlot s)
  have hopen : ¬ (off % 8 ≠ 0 ∨ (compArea .firmware (inactiveSlot s)).2 < off + data.length ∨ 248 < data.length) := by
    simp only [compArea]
    omega
  unfold writeChunk
  generalize compArea .firmware (inactiveSlot s) = area at hbase hopen ⊢
  obtain ⟨base, size⟩ := area
  dsimp only at hbase hopen ⊢
  have hsector : ¬ (base + off) % 4096 = 0 := by omega
  have hoff : off ≠ 0 := by omega
  rw [if_neg hopen, hpieces]
  simp [hsector, hoff, hlength]

/-! ### The MCTP bridge (R422) -/

/-- A packet for a live member goes into a frame. -/
theorem mctpFrame_member {s : State} {packet : List Nat} {m : Nat} (src dst hops tag : Nat) (good : Bool) (hon : s.cwy.unit = .on)
    (hhead : s.cwy.isHead = true) (heid : packet.getD 1 0 = s.cwy.eidBase + m) (hmember : m < 64) (hother : m ≠ s.cwy.myId)
    (hlive : s.cwy.live.testBit m = true) : exec (.mctpFrame true src dst hops tag packet good) s =
      .next (frameSend m s.cwy.nextTag (.mctp packet) { s with cwy := { s.cwy with nextTag := (s.cwy.nextTag + 1) % 65536 } }) := by
  have htarget : packet.getD 1 0 - s.cwy.eidBase = m := by omega
  have htaken : ¬ (s.cwy.unit ≠ .on ∨ (!s.cwy.isHead) = true ∨ packet.getD 1 0 < s.cwy.eidBase ∨ 63 < m) := by
    simp only [hon, hhead, ne_eq, not_true_eq_false, Bool.not_true, Bool.false_eq_true, false_or]
    omega
  show execMctpFrame true src dst hops tag packet good s = _
  simp only [execMctpFrame, htarget]
  rw [if_pos trivial, if_neg htaken, if_neg hother, if_pos hlive]

/-! ### The statement -/

/-- Settles O24: a clause for the commands by whether the member is head, for the two timeouts, for a member's answers, for an answer at the
head, for image chunks and for the bridge's packets (R129, R422 to R425; log 45, 105). -/
theorem arrayCommandsAndBridge : Obligations.ArrayCommandsAndBridge := by
  unfold Obligations.ArrayCommandsAndBridge
  refine ⟨?all, ?roll, ?unknown, ?offHead, ?statusTimeout, ?rollTimeout, ?member, ?answer, ?chunk, ?word, ?bridge⟩
  case all =>
    rintro s via mask sub c hserves hhead (⟨rfl, rfl⟩ | ⟨rfl, rfl⟩) hsome
    · exact ⟨_, rfl, congrArg Host.Outcome.next ((arrayBegin_head hserves _ hhead).trans (arrayAll_starts via 1 hsome))⟩
    · exact ⟨_, rfl, congrArg Host.Outcome.next ((arrayBegin_head hserves _ hhead).trans (arrayAll_starts via 2 hsome))⟩
  case roll =>
    exact fun s via mask hserves hhead hsome => ⟨_, rfl, congrArg Host.Outcome.next ((arrayBegin_head hserves _ hhead).trans
      (if_neg (by simpa using hsome)))⟩
  case unknown => exact fun s via hserves hhead => congrArg Host.Outcome.next (arrayBegin_head hserves _ hhead)
  case offHead =>
    rintro s via mask c hserves hhead (rfl | rfl | rfl | rfl) <;>
      exact congrArg Host.Outcome.next (arrayBegin_offHead hserves _ hhead)
  case statusTimeout =>
    intro s a ha hsub hbg
    obtain ⟨hnone, hended, hraised, hout⟩ := arrayFinish_effect ha hbg
    exact ⟨_, arrayStatusTimeout_ends ha hsub, hnone, hended, hsub ▸ hraised, hout,
      fr (arrayFinish_keeps (m := 0x310010) (by decide) (Keeps.refl _ s)) (by decide)⟩
  case rollTimeout =>
    exact fun s m a ha hsub hwaits => ⟨_, rfl, congrArg Host.Outcome.next (updateAnswer_waited 4 _ ha hsub hwaits),
      arrayAnswer_failed (s := raise 0x0A09 0x06 [(1, m), (1, 4)] s) _ ha hsub hwaits⟩
  case member =>
    intro s src hops tag hon hid hsrc
    refine ⟨?_, fun hparked => ?_⟩
    · rw [cmd_arrives hon hid rfl, memberRun_known _ _ _ (.inl rfl), if_pos rfl, answerHead_other _ _ _ _ hon hsrc]
      rfl
    · rw [cmd_arrives hon hid rfl, memberRun_known _ _ _ (.inr (.inl rfl)), if_neg (by decide), if_pos rfl, memberBarrier_parked _ _ hparked]
      exact congrArg Host.Outcome.next (answerHead_other _ _ _ _ hon hsrc)
  case answer =>
    rintro s src hops tag sub status m f a hon hid ha rfl hsub hwaits hother
    refine ⟨_, cmdA_arrives hon hid rfl src hops tag a.sub status f, ?_⟩
    rw [if_neg hsub, arrayAnswer_recorded status f ha hsub hwaits hother]
    exact ⟨rfl, fr (keeps_cwy _) (by decide)⟩
  case chunk =>
    exact fun s src hops tag off data hon hid => ⟨fwData_written hon hid rfl src hops tag off data, fwData_refused src hops tag off data hon hid⟩
  case word =>
    intro s off data hlength hinner halign hfits
    rw [writeChunk_word hlength hinner halign hfits]
    exact ⟨_, rfl, (tget_tput _ _ _ _ _).trans (if_pos rfl), fun b hb => (tget_tput _ _ _ _ _).trans (if_neg hb),
      fr (keeps_ifc rfl rfl) (by decide)⟩
  case bridge =>
    intro s src dst hops tag packet hon
    refine ⟨fun hhead heid hmember => ?_, fun m hhead heid hmember hother hlive => ?_, fun hid => ?_⟩
    · exact mctpFrame_own src dst hops tag true hon hhead (by omega) (by omega) (by omega)
    · exact mctpFrame_member src dst hops tag true hon hhead heid hmember hother hlive
    · exact mctpFrame_inside hon hid rfl src hops tag packet

end Sys2Proof.Machine
end

section
/-!
PROOFS. What every step keeps, from the one lemma that each command's operation has under Laws (R508, R509; log 4, 22, 49, 114): each
command answers a next state, leaves the waiting commands alone, keeps the cache DRAM canonical, and loses no bit of the Bog-oak row.
-/

namespace Sys2Proof.Machine

set_option maxRecDepth 8000

/-- Each command's meaning is a next state, whatever its operands (log 114). -/
theorem exec_answers (c : Instr) (s : State) : ∃ t, exec c s = .next t := by
  cases c <;> exact ⟨_, rfl⟩

/-- Each command's operation keeps what its own lemma under Laws says. -/
theorem exec_keeps (c : Instr) (s : State) : Keeps 0x3ffffff s (run (exec c s) s) := by
  cases c <;> simp [exec]

theorem keeps_of_exec {c : Instr} {s t : State} (h : exec c s = .next t) : Keeps 0x3ffffff s t := by
  have hkeeps := exec_keeps c s
  rwa [h] at hkeeps

/-- A step keeps what the front command keeps; the queue is no part of it. -/
theorem step_keeps {s t : State} (h : step s = .next t) : Keeps 0x3ffffff { s with pending := t.pending } t := by
  cases hpending : s.pending with
  | nil =>
    have hidle : step s = .next s := by simp [step, hpending]
    cases hidle.symm.trans h
    exact Keeps.refl _ s
  | cons c rest =>
    have hfront : step s = exec c { s with pending := rest } := by simp [step, hpending]
    have hkeeps := keeps_of_exec (hfront.symm.trans h)
    obtain rfl : t.pending = rest := hkeeps.pending
    exact hkeeps

/-! ### The statements -/

/-- Settles O1: both clauses are the two cases of `step` (log 49). -/
theorem stepRunsFrontCommand : Obligations.StepRunsFrontCommand := by
  refine ⟨fun c rest s => rfl, fun s hidle => ?_⟩
  simp [step, hidle]

/-- Settles O2, by what each command keeps: the queue is in no mask (log 22, 114). -/
theorem everyCommandCompletesAndKeepsQueue : Obligations.EveryCommandCompletesAndKeepsQueue := by
  intro c s
  obtain ⟨t, ht⟩ := exec_answers c s
  exact ⟨t, ht, (keeps_of_exec ht).pending⟩

/-- Settles O3, by what each command keeps: every operation on the cache DRAM is a run of table writes (log 4). -/
theorem stepKeepsMemoryCanonical : Obligations.StepKeepsMemoryCanonical :=
  fun _ _ hcanonical h => (step_keeps h).dram hcanonical

/-- Settles O4, by what each command keeps: the row is written by OR alone, the locks by setting bits (R508, R509). -/
theorem stepLosesNoRowBit : Obligations.StepLosesNoRowBit :=
  fun _ _ h => (step_keeps h).row

end Sys2Proof.Machine
end

section
/-!
PROOFS. The Locket's slots (R428, R438, R443 to R449): what each operation on a slot does to it, to the others and to the events, and the
statements of the key commands' refusals and of UNLOAD.
-/

namespace Sys2Proof.Machine

/-! ### Slots -/

theorem keeps_cip {s : State} (x : Cip) : Keeps 0x20000 s { s with cip := x } :=
  (Keeps.refl _ s).direct (fun p hp => by cases p <;> simp_all [Part.bit, Part.same])

@[simp] theorem dropHalf_cip (p : Path) (s : State) : (dropHalf p s).cip = s.cip :=
  (dropHalf_keeps (m := 0x10001) p (by decide) (Keeps.refl _ s)).cipEq (by decide)

theorem slotOf_of_slots {s t : State} (h : t.cip.slots = s.cip.slots) (j : Nat) : slotOf t j = slotOf s j := by
  rw [slotOf, h, slotOf]

theorem slotOf_of_cip {s t : State} (h : t.cip = s.cip) (j : Nat) : slotOf t j = slotOf s j :=
  slotOf_of_slots (congrArg Cip.slots h) j

theorem slotOf_modSlot_same {i : Nat} {s : State} (hi : i < s.cip.slots.length) (f : KSlot → KSlot) :
    slotOf (modSlot i f s) i = f (slotOf s i) := by
  simp [slotOf, modSlot, List.getD_eq_getElem?_getD, hi]

theorem slotOf_modSlot_other {i j : Nat} (hj : j ≠ i) (f : KSlot → KSlot) (s : State) :
    slotOf (modSlot i f s) j = slotOf s j := by
  simp [slotOf, modSlot, List.getD_eq_getElem?_getD, Ne.symm hj]

@[simp] theorem modSlot_length (i : Nat) (f : KSlot → KSlot) (s : State) : (modSlot i f s).cip.slots.length = s.cip.slots.length := by
  simp [modSlot]

@[simp] theorem modSlot_raised (i : Nat) (f : KSlot → KSlot) (s : State) : (modSlot i f s).raised = s.raised := rfl

theorem setSlot_of_same {i : Nat} {st : RunState} {s : State} (h : (slotOf s i).st = st) : setSlot i st s = s := if_pos h

theorem setSlot_of_ne {i : Nat} {st : RunState} {s : State} (h : (slotOf s i).st ≠ st) : setSlot i st s =
    raise 0x0B01 0x07 [(2, i), (1, runCode (slotOf s i).st), (1, runCode st)] (modSlot i (fun k => { k with st := st }) s) :=
  if_neg h

theorem slotOf_setSlot_same {i : Nat} {s : State} (hi : i < s.cip.slots.length) (st : RunState) :
    slotOf (setSlot i st s) i = { slotOf s i with st := st } := by
  by_cases h : (slotOf s i).st = st
  · rw [setSlot_of_same h, ← h]
  · rw [setSlot_of_ne h]
    exact slotOf_modSlot_same hi _

/-- The cores and the waiting operations are those of another state. -/
theorem slotBusy_of_ops {s t : State} (hcores : t.cip.cores = s.cip.cores) (hqueue : t.cip.queue = s.cip.queue) (i : Nat) :
    slotBusy t i = slotBusy s i := by
  rw [slotBusy, hcores, hqueue, slotBusy]

theorem setSlot_ops (i : Nat) (st : RunState) (s : State) :
    (setSlot i st s).cip.cores = s.cip.cores ∧ (setSlot i st s).cip.queue = s.cip.queue := by
  unfold setSlot
  dsimp only
  split <;> exact ⟨rfl, rfl⟩

theorem cipSubmit_core {o : CipOp} {s : State} {c : Nat} (h : coreFor s o.quad = some c) :
    cipSubmit o s = { s with cip := { s.cip with cores := s.cip.cores.set c (some o) } } := by
  unfold cipSubmit
  rw [h]

theorem cipSubmit_waits {o : CipOp} {s : State} (h : coreFor s o.quad = none) :
    cipSubmit o s = { s with cip := { s.cip with queue := s.cip.queue ++ [o] } } := by
  unfold cipSubmit
  rw [h]

theorem cipSubmit_slots (o : CipOp) (s : State) : (cipSubmit o s).cip.slots = s.cip.slots := by
  unfold cipSubmit
  split <;> rfl

/-! ### What work on one slot leaves -/

/-- Work on slot `i`: the other slots and its RESULT stay, and what is reported are changes of slot states (0x0B01). -/
structure SlotWork (i : Nat) (s t : State) : Prop where
  keeps : Keeps 0x120000 s t
  length : t.cip.slots.length = s.cip.slots.length
  other : ∀ j, j ≠ i → slotOf t j = slotOf s j
  result : (slotOf t i).result = (slotOf s i).result
  events : ∃ l, t.raised = s.raised ++ l ∧ ∀ e ∈ l, e.id = 0x0B01

theorem SlotWork.trans {i : Nat} {s t u : State} (h : SlotWork i s t) (k : SlotWork i t u) : SlotWork i s u := by
  obtain ⟨l, hl, hid⟩ := h.events
  obtain ⟨l', hl', hid'⟩ := k.events
  refine ⟨h.keeps.trans k.keeps, k.length.trans h.length, fun j hj => (k.other j hj).trans (h.other j hj), k.result.trans h.result,
    l ++ l', by rw [hl', hl, List.append_assoc], fun e he => ?_⟩
  exact (List.mem_append.1 he).elim (hid e) (hid' e)

theorem slotWork_of_slots {s t : State} (i : Nat) (hkeeps : Keeps 0x20000 s t) (h : t.cip.slots = s.cip.slots) : SlotWork i s t :=
  ⟨hkeeps.mono (by decide), by rw [h], fun j _ => slotOf_of_slots h j, by rw [slotOf_of_slots h],
    [], by rw [hkeeps.raisedEq (by decide), List.append_nil], by simp⟩

theorem slotWork_modSlot {i : Nat} {f : KSlot → KSlot} (s : State) (hf : ∀ k, (f k).result = k.result := by exact fun _ => rfl) :
    SlotWork i s (modSlot i f s) := by
  refine ⟨modSlot_keeps i f (by decide) (Keeps.refl _ s), by simp, fun j hj => slotOf_modSlot_other hj f s, ?_, [], by simp, by simp⟩
  rcases Nat.lt_or_ge i s.cip.slots.length with hi | hi
  · rw [slotOf_modSlot_same hi, hf]
  · rw [slotOf_of_slots (List.modify_eq_self hi)]

theorem slotWork_setSlot (i : Nat) (st : RunState) (s : State) : SlotWork i s (setSlot i st s) := by
  by_cases h : (slotOf s i).st = st
  · rw [setSlot_of_same h]
    exact slotWork_of_slots i (Keeps.refl _ s) rfl
  · rw [setSlot_of_ne h]
    refine (slotWork_modSlot (f := fun k => { k with st := st }) s).trans
      ⟨raise_keeps _ _ _ (by decide) (Keeps.refl _ _), rfl, fun _ _ => rfl, rfl, _, rfl, ?_⟩
    simp

theorem slotWork_startRekey (i : Nat) (s : State) : SlotWork i s (startRekey i s) :=
  (slotWork_setSlot i .starting s).trans
    (slotWork_of_slots i (cipSubmit_keeps _ (by decide) (Keeps.refl _ _)) (cipSubmit_slots _ _))

/-- A slot zeroized and OFF, with nothing staged for it. -/
def keySlotOff (i : Nat) (s : State) : State := setSlot i .off (modSlot i (fun k => { k with stage := none }) (zeroize i s))

theorem slotWork_zeroize (i : Nat) (s : State) : SlotWork i s (zeroize i s) :=
  slotWork_modSlot (f := fun k => { k with key := [], hash := [], binding := none }) s

theorem slotWork_keySlotOff (i : Nat) (s : State) : SlotWork i s (keySlotOff i s) :=
  ((slotWork_zeroize i s).trans (slotWork_modSlot (f := fun k => { k with stage := none }) _)).trans (slotWork_setSlot i .off _)

theorem slotOf_keySlotOff {i : Nat} {s : State} (hi : i < s.cip.slots.length) :
    (slotOf (keySlotOff i s) i).st = .off ∧ (slotOf (keySlotOff i s) i).key = [] := by
  have hzero : slotOf (zeroize i s) i = { slotOf s i with key := [], hash := [], binding := none } := slotOf_modSlot_same hi _
  have hlength : i < (zeroize i s).cip.slots.length := by simpa [zeroize] using hi
  rw [keySlotOff, slotOf_setSlot_same (by simpa using hlength), slotOf_modSlot_same hlength, hzero]
  exact ⟨rfl, rfl⟩

theorem slotWork_slotStopCheck (i : Nat) (s : State) : SlotWork i s (slotStopCheck i s) := by
  unfold slotStopCheck
  split
  · split
    · exact ((slotWork_zeroize i s).trans (slotWork_modSlot (f := fun k => { k with reArm := false }) _)).trans
        (slotWork_startRekey i _)
    · exact slotWork_keySlotOff i s
  · exact slotWork_of_slots i (Keeps.refl _ s) rfl

/-- What was reported since is nothing but changes of slot states. -/
theorem SlotWork.drop_events {i : Nat} {s t : State} (h : SlotWork i s t) : ∀ e ∈ t.raised.drop s.raised.length, e.id = 0x0B01 := by
  obtain ⟨l, hl, hid⟩ := h.events
  rwa [hl, List.drop_left]

/-! ### A slot that stops (R438) -/

theorem slotStopCheck_busy {i : Nat} {s : State} (h : slotBusy s i = true) : slotStopCheck i s = s := by
  simp [slotStopCheck, h]

theorem slotStopCheck_idle {i : Nat} {s : State} (hst : (slotOf s i).st = .stopping) (hidle : slotBusy s i = false)
    (hno : (slotOf s i).reArm = false) : slotStopCheck i s = keySlotOff i s := by
  simp [slotStopCheck, keySlotOff, hst, hidle, hno]

/-! ### UNLOAD (R446) -/

/-- The state once an accepted UNLOAD of slot `i` has cleared its RESULT. -/
def resultCleared (i : Nat) (s : State) : State := modSlot i (fun k => { k with result := 0 }) s

/-- The waiting operations of slot `i` are dropped. -/
def opsDropped (i : Nat) (s : State) : State := { s with cip := { s.cip with queue := s.cip.queue.filter (fun o => o.slot ≠ i) } }

theorem slotWork_opsDropped (i : Nat) (s : State) : SlotWork i s (opsDropped i s) := slotWork_of_slots i (keeps_cip _) rfl

/-- An accepted UNLOAD of slot `i`. -/
def slotUnloaded (i : Nat) (s : State) : State :=
  match (slotOf s i).st with
  | .on => slotStopCheck i (setSlot i .stopping (resultCleared i s))
  | .starting => keySlotOff i (opsDropped i (resultCleared i s))
  | _ => resultCleared i s

theorem slotWork_slotUnloaded (i : Nat) (s : State) : SlotWork i (resultCleared i s) (slotUnloaded i s) := by
  have hsame : SlotWork i (resultCleared i s) (resultCleared i s) := slotWork_of_slots i (Keeps.refl _ _) rfl
  unfold slotUnloaded
  split
  · exact (slotWork_setSlot i .stopping _).trans (slotWork_slotStopCheck i _)
  · exact (slotWork_opsDropped i _).trans (slotWork_keySlotOff i _)
  · exact hsame

section Unloaded

variable {i : Nat} {s : State}

theorem slotUnloaded_keeps : Keeps 0x120000 s (slotUnloaded i s) :=
  Keeps.trans (modSlot_keeps i _ (by decide) (Keeps.refl _ s)) (slotWork_slotUnloaded i s).keeps

theorem slotOf_slotUnloaded_other {j : Nat} (hj : j ≠ i) : slotOf (slotUnloaded i s) j = slotOf s j :=
  ((slotWork_slotUnloaded i s).other j hj).trans (slotOf_modSlot_other hj _ s)

theorem slotBusy_stopping : slotBusy (setSlot i .stopping (resultCleared i s)) i = slotBusy s i :=
  slotBusy_of_ops (setSlot_ops i .stopping _).1 (setSlot_ops i .stopping _).2 i

variable (hi : i < s.cip.slots.length)
include hi

theorem slotUnloaded_result : (slotOf (slotUnloaded i s) i).result = 0 := by
  rw [(slotWork_slotUnloaded i s).result, resultCleared, slotOf_modSlot_same hi]

/-- The slot of a cleared RESULT set STOPPING. -/
theorem slotOf_stopping : slotOf (setSlot i .stopping (resultCleared i s)) i = { slotOf s i with result := 0, st := .stopping } := by
  rw [slotOf_setSlot_same (by simpa [resultCleared] using hi), resultCleared, slotOf_modSlot_same hi]

theorem slotUnloaded_on_idle (hon : (slotOf s i).st = .on) (hidle : slotBusy s i = false) (hno : (slotOf s i).reArm = false) :
    (slotOf (slotUnloaded i s) i).st = .off ∧ (slotOf (slotUnloaded i s) i).key = [] := by
  have heq : slotUnloaded i s = slotStopCheck i (setSlot i .stopping (resultCleared i s)) := by simp [slotUnloaded, hon]
  have hlength := (slotWork_setSlot i .stopping (resultCleared i s)).length
  rw [heq, slotStopCheck_idle (by rw [slotOf_stopping hi]) (slotBusy_stopping.trans hidle) (by rw [slotOf_stopping hi]; exact hno)]
  exact slotOf_keySlotOff (by rw [hlength]; simpa [resultCleared] using hi)

theorem slotUnloaded_on_busy (hon : (slotOf s i).st = .on) (hbusy : slotBusy s i = true) :
    (slotOf (slotUnloaded i s) i).st = .stopping ∧ (slotOf (slotUnloaded i s) i).key = (slotOf s i).key := by
  have heq : slotUnloaded i s = slotStopCheck i (setSlot i .stopping (resultCleared i s)) := by simp [slotUnloaded, hon]
  rw [heq, slotStopCheck_busy ((slotBusy_stopping).trans hbusy), slotOf_stopping hi]
  exact ⟨rfl, rfl⟩

theorem slotUnloaded_starting (hstarting : (slotOf s i).st = .starting) :
    (slotOf (slotUnloaded i s) i).st = .off ∧ (slotOf (slotUnloaded i s) i).key = [] := by
  have heq : slotUnloaded i s = keySlotOff i (opsDropped i (resultCleared i s)) := by simp [slotUnloaded, hstarting]
  rw [heq]
  exact slotOf_keySlotOff (by simpa [opsDropped, resultCleared] using hi)

end Unloaded

section UnloadCommand

variable {s : State} {path : Path} (hclasp : holdsClasp s path = true) (hdump : s.spn.mode ≠ .dump)
include hclasp hdump

theorem commonRefusal_none {loads : Bool} {i : Nat} (halarm : loads = true → s.cip.alarmLatch = false) (hi : i ≤ 260) (h256 : i ≠ 256) :
    commonRefusal s path i loads = none := by
  cases loads <;> simp_all [commonRefusal]

theorem unload_accepts {i : Nat} (hsel : i = s.cip.slotSel) (hi : i ≤ 260) (h256 : i ≠ 256)
    (hoff : i < 256 → slotRegionOff s i = true) : exec (.unload path) s = .next (dropHalf path (slotUnloaded i s)) := by
  have hnone : commonRefusal s path i false = none := commonRefusal_none hclasp hdump (by simp) hi h256
  have hregion : ¬ (i < 256 ∧ (!slotRegionOff s i) = true) := by
    rintro ⟨hlt, hnot⟩
    simp [hoff hlt] at hnot
  subst hsel
  show execUnload path s = _
  simp only [execUnload, hnone, if_neg hregion]
  unfold slotUnloaded
  cases (slotOf s s.cip.slotSel).st <;> rfl

/-- A region slot whose region is defined and not OFFLINE. -/
theorem unload_refused {i : Nat} (hsel : i = s.cip.slotSel) (hi : i < 256) (hdef : defined s i = true)
    (hlife : (region s i).life ≠ .offline) : exec (.unload path) s = .next (dropHalf path (keyRefuse i 5 s)) := by
  have hnone : commonRefusal s path i false = none := commonRefusal_none hclasp hdump (by simp) (by omega) (by omega)
  have hregion : i < 256 ∧ (!slotRegionOff s i) = true := ⟨hi, by simp [slotRegionOff, hdef, hlife]⟩
  subst hsel
  show execUnload path s = _
  simp only [execUnload, hnone, if_pos hregion]
  rfl

end UnloadCommand

/-! ### A refused DERIVE -/

/-- The state once a DERIVE of a Clasp holder has stored the root that it names. -/
def rootNamed (root : Nat) (s : State) : State := { s with cip := { s.cip with cmdRoot := root % 8 } }

theorem commonRefusal_rootNamed (root : Nat) (s : State) (path : Path) (i : Nat) (loads : Bool) :
    commonRefusal (rootNamed root s) path i loads = commonRefusal s path i loads := rfl

theorem exec_derive {s : State} {path : Path} (root : Nat) (hclasp : holdsClasp s path = true) (hdump : s.spn.mode ≠ .dump) :
    exec (.derive path root) s = .next (dropHalf path (match commonRefusal s path s.cip.slotSel true with
      | some c => refuseWith path s.cip.slotSel c (rootNamed root s)
      | none => match deriveRefusal s s.cip.slotSel (root % 8) with
        | some c => refuseWith path s.cip.slotSel c (rootNamed root s)
        | none => acceptKey s.cip.slotSel (.derived (root % 8)) (rootNamed root s))) := by
  have hthaw : cipFrozen s = false := by simp [cipFrozen, hdump]
  show execDerive path root s = _
  unfold execDerive
  rw [hclasp, hthaw]
  rfl

/-- A refused DERIVE has stored the root that it names. -/
theorem derive_alarmed {s : State} {path : Path} (root : Nat) (hclasp : holdsClasp s path = true) (hdump : s.spn.mode ≠ .dump)
    (halarm : s.cip.alarmLatch = true) : exec (.derive path root) s =
      .next (dropHalf path (keyRefuse s.cip.slotSel 8 (rootNamed root s))) := by
  have hrefused : commonRefusal s path s.cip.slotSel true = some 8 := by simp [commonRefusal, hclasp, hdump, halarm]
  rw [exec_derive root hclasp hdump, hrefused]
  rfl

/-- The Clasp held by the firmware while an alarm is latched. -/
def alarmedHolder : State := { State.reset with cip := { State.reset.cip with owner := 1, alarmLatch := true } }

/-! ### The statements -/

/-- Refutes O48: a DERIVE that is refused for the latched alarm has by then stored the ROOT that it names, as every write of a Clasp
holder does, and so changes more of the CIP than the refusal's result and counts (R441, R647; log 69, 70). -/
theorem not_keyRefusals : ¬ Obligations.KeyRefusals := by
  intro h
  obtain ⟨hrefused, -⟩ := h.1 alarmedHolder .firmware 1 0 rfl (.derive .firmware 1) _ (.inr (.inl ⟨rfl, rfl⟩))
    fun e he => absurd he List.not_mem_nil
  obtain ⟨t, ht, -, hcip, -⟩ := hrefused (8, true) rfl
  have heq := (derive_alarmed 1 rfl (by decide) rfl : exec (.derive .firmware 1) alarmedHolder = _).symm.trans ht
  have hstored := congrArg (fun u => u.cip.cmdRoot) (Host.Outcome.next.inj heq)
  rw [dropHalf_cip, dropHalf_cip, hcip] at hstored
  exact absurd hstored (by decide)

/-- Settles O49: a refused UNLOAD leaves the slot, an accepted one works on that slot alone (R438, R446). -/
theorem unload : Obligations.Unload := by
  refine ⟨fun s path i hsel hclasp hdump hi hlen => ⟨fun hdef hlife => ?refused, fun hoff => ?accepted⟩,
    fun s path i hsel hclasp hdump h256 hi hlen => ?root⟩
  case refused =>
    have hslot : slotOf (keyRefuse i 5 s) i = { slotOf s i with result := 5 } := slotOf_modSlot_same hlen _
    exact ⟨_, unload_refused hclasp hdump hsel hi hdef hlife, by rw [hslot], by rw [hslot], by rw [hslot], rfl⟩
  case accepted =>
    have hregion : slotRegionOff s i = true := by
      rcases hoff with h | h <;> simp [slotRegionOff, h]
    exact ⟨_, unload_accepts hclasp hdump hsel (by omega) (by omega) fun _ => hregion, slotUnloaded_result hlen,
      fun hon hidle hno => slotUnloaded_on_idle hlen hon hidle hno, fun hon hbusy => slotUnloaded_on_busy hlen hon hbusy,
      fun hstarting => slotUnloaded_starting hlen hstarting⟩
  case root =>
    exact ⟨_, unload_accepts hclasp hdump hsel hi (by omega) (by omega), slotUnloaded_result hlen,
      fun j hj => slotOf_slotUnloaded_other hj, (slotWork_slotUnloaded i s).drop_events, fr slotUnloaded_keeps (by decide),
      fun hon hidle hno => slotUnloaded_on_idle hlen hon hidle hno⟩

end Sys2Proof.Machine
end

section
/-!
PROOFS. The cipher engine's commands (R429 to R464): the Clasp and the staging, accepted keys, the cores and their operations, top-ups and
compaction, and the alarms; and the statement about them.
-/

namespace Sys2Proof.Machine

/-! ### The Clasp and the staging (R441, R442, R444) -/

theorem claspRelease_held {s : State} (h : s.cip.owner ≠ 0) : claspRelease s =
    raise 0x0B04 0x07 [(1, s.cip.owner)] { s with cip := { s.cip with owner := 0, staging := [] } } := if_neg h

theorem exec_claspWrite_frozen {s : State} (path : Path) (v : Nat) (hdump : s.spn.mode = .dump) :
    exec (.claspWrite path v) s = .next (dropHalf path s) :=
  congrArg (fun t => Host.Outcome.next (dropHalf path t)) (if_pos (by simp [cipFrozen, hdump]))

theorem exec_claspWrite {s : State} (path : Path) (v : Nat) (hdump : s.spn.mode ≠ .dump) : exec (.claspWrite path v) s =
    .next (dropHalf path (if ownerId path ≠ 0 ∧ s.cip.owner = 0 ∧ v = ownerId path then
        raise 0x0B04 0x07 [(1, ownerId path)] { s with cip := { s.cip with owner := ownerId path } }
      else if ownerId path ≠ 0 ∧ s.cip.owner = ownerId path ∧ v = 0 then claspRelease s
      else claspRefuse path s)) :=
  congrArg (fun t => Host.Outcome.next (dropHalf path t)) (if_neg (by simp [cipFrozen, hdump]))

theorem exec_claspTimeout (s : State) : exec .claspTimeout s = .next (if s.cip.owner = 0 then s else claspRelease s) := rfl

theorem exec_keyDataWrite_frozen {s : State} (path : Path) (k width x : Nat) (hdump : s.spn.mode = .dump) :
    exec (.keyDataWrite path k width x) s = .next (dropHalf path s) :=
  congrArg (fun t => Host.Outcome.next (dropHalf path t)) (if_pos (by simp [cipFrozen, hdump]))

theorem exec_keyDataWrite {s : State} (path : Path) {k : Nat} (width x : Nat) (hdump : s.spn.mode ≠ .dump) (hk : k < 12) :
    exec (.keyDataWrite path k width x) s = .next (dropHalf path (
      if holdsClasp s path = false then claspRefuse path (modSlot s.cip.slotSel (fun k => { k with result := 1 }) s)
      else if width ≠ 8 then claspRefuse path s
      else { s with cip := { s.cip with staging := tins k (x % 2 ^ 64) s.cip.staging } })) := by
  have hacts : ¬ ((cipFrozen s : Prop) ∨ 12 ≤ k) := by simp [cipFrozen, hdump, hk]
  show execKeyDataWrite path k width x s = _
  unfold execKeyDataWrite
  rw [if_neg hacts]
  cases holdsClasp s path <;> rfl

/-! ### Accepted keys (R438, R444, R448) -/

theorem exec_clearStaging {s : State} {path : Path} (hclasp : holdsClasp s path = true) (hdump : s.spn.mode ≠ .dump) :
    exec (.clearStaging path) s = .next (dropHalf path (resultCleared s.cip.slotSel { s with cip := { s.cip with staging := [] } })) :=
  congrArg (fun t => Host.Outcome.next (dropHalf path t)) ((if_neg (by simp [hclasp])).trans (if_neg hdump))

theorem load_accepts {s : State} {path : Path} (hcommon : commonRefusal s path s.cip.slotSel true = none)
    (hload : loadRefusal s s.cip.slotSel = none) : exec (.load path) s = .next (dropHalf path (acceptKey s.cip.slotSel
      (.native ((List.range (wordsNeeded s.cip.slotSel)).flatMap (fun k => leBytes 8 (tget 0 s.cip.staging k))))
      { s with cip := { s.cip with staging := [] } })) := by
  show execLoad path s = _
  simp only [execLoad, hcommon, hload]

theorem derive_accepts {s : State} {path : Path} {root : Nat} (hclasp : holdsClasp s path = true) (hdump : s.spn.mode ≠ .dump)
    (hcommon : commonRefusal s path s.cip.slotSel true = none) (hderive : deriveRefusal s s.cip.slotSel (root % 8) = none) :
    exec (.derive path root) s = .next (dropHalf path (acceptKey s.cip.slotSel (.derived (root % 8)) (rootNamed root s))) := by
  rw [exec_derive root hclasp hdump, hcommon]
  dsimp only
  rw [hderive]

/-- What runs first for a staged key: the derivation of a derived one (R447). -/
def stageKind : KeyStage → CipKind
  | .native _ => .rekey
  | .derived _ => .derive

theorem startRekey_of_stage {i : Nat} {k : KeyStage} {s : State} (h : (slotOf s i).stage = some k) :
    startRekey i s = cipSubmit ⟨stageKind k, .service, i, 0, 0⟩ (setSlot i .starting s) := by
  unfold startRekey
  rw [h]
  cases k <;> rfl

/-- A key staged for slot `i`, its RESULT cleared. -/
def keyStaged (i : Nat) (k : KeyStage) (s : State) : State := modSlot i (fun x => { x with stage := some k, result := 0 }) s

theorem acceptKey_stopping {i : Nat} (k : KeyStage) {s : State} (h : (slotOf s i).st = .stopping) :
    acceptKey i k s = modSlot i (fun x => { x with reArm := true }) (keyStaged i k s) := if_pos h

theorem acceptKey_off {i : Nat} (k : KeyStage) {s : State} (hi : i < s.cip.slots.length) (h : (slotOf s i).st = .off) :
    acceptKey i k s = cipSubmit ⟨stageKind k, .service, i, 0, 0⟩ (raise 0x0B01 0x07 [(2, i), (1, 0), (1, 1)]
      (modSlot i (fun x => { x with st := .starting }) (keyStaged i k s))) := by
  have hslot : slotOf (keyStaged i k s) i = { slotOf s i with stage := some k, result := 0 } := slotOf_modSlot_same hi _
  have hoff : (slotOf (keyStaged i k s) i).st = .off := by rw [hslot, h]
  have hstarts : acceptKey i k s = startRekey i (keyStaged i k s) := if_neg (by simp [h])
  rw [hstarts, startRekey_of_stage (k := k) (by rw [hslot]), setSlot_of_ne (by simp [hoff]), hoff]
  rfl

/-! ### The cores (R429, R431, R436, R445) -/

theorem coreOf_eq_none {s : State} {p : CipOp → Bool} (h : ∀ x, x < 8 → ∀ o, s.cip.cores.getD x none = some o → p o = false) :
    coreOf s p = none := by
  refine List.find?_eq_none.2 fun x hx => ?_
  cases ho : s.cip.cores.getD x none with
  | none => simp
  | some o => simp [h x (List.mem_range.1 hx) o ho]

/-- The slot waits for the REKEY that has just ended. -/
def awaitsRekey (k : KSlot) : Prop := k.st = .starting ∧ k.binding = none ∧ k.stage ≠ none

theorem exec_rekeyDone {s : State} {i c : Nat} (h : coreOf s (fun o => o.kind = .rekey && o.slot = i) = some c) :
    (awaitsRekey (slotOf (cipFinish c s) i) → exec (.rekeyDone i) s = .next (rekeyEnd i (cipFinish c s))) ∧
    (¬ awaitsRekey (slotOf (cipFinish c s) i) → exec (.rekeyDone i) s = .next (cipFinish c s)) := by
  have hexec : exec (.rekeyDone i) s = .next (if (slotOf (cipFinish c s) i).st = .starting ∧
      (slotOf (cipFinish c s) i).binding.isNone ∧ (slotOf (cipFinish c s) i).stage.isSome then rekeyEnd i (cipFinish c s)
      else cipFinish c s) := by
    show execRekeyDone i s = _
    simp only [execRekeyDone, h]
  have hiff : ((slotOf (cipFinish c s) i).st = .starting ∧ ((slotOf (cipFinish c s) i).binding.isNone : Prop) ∧
      ((slotOf (cipFinish c s) i).stage.isSome : Prop)) ↔ awaitsRekey (slotOf (cipFinish c s) i) := by
    simp [awaitsRekey, Option.isSome_iff_ne_none]
  rw [hexec]
  exact ⟨fun hw => by rw [if_pos (hiff.2 hw)], fun hw => by rw [if_neg fun h => hw (hiff.1 h)]⟩

theorem exec_cipherOpComplete_idle {s : State} {c : Nat} (ok : Bool) (v : Nat) (h : s.cip.cores.getD c none = none) :
    exec (.cipherOpComplete c ok v) s = .next s := by
  show execCipherOpComplete c ok v s = _
  simp only [execCipherOpComplete, h]

section OpEnds

variable {s : State} {c : Nat} {o : CipOp} (ok : Bool) (v : Nat) (ho : s.cip.cores.getD c none = some o)
include ho

theorem exec_encrypt_ends (hkind : o.kind = .encrypt) : exec (.cipherOpComplete c ok v) s = .next (cipFinish c s) := by
  show execCipherOpComplete c ok v s = _
  simp only [execCipherOpComplete, ho, hkind]

theorem exec_rekey_ends (hkind : o.kind = .rekey) : exec (.cipherOpComplete c ok v) s = .next s := by
  show execCipherOpComplete c ok v s = _
  simp only [execCipherOpComplete, ho, hkind]

theorem exec_decrypt_ends (hkind : o.kind = .decrypt) : exec (.cipherOpComplete c ok v) s =
    .next (cipFinish c (if (ok && ((pageAt s v).map (tagMatches s v)).getD true) = true then s else tagFailed v s)) := by
  show execCipherOpComplete c ok v s = _
  simp only [execCipherOpComplete, ho, hkind]

theorem exec_derive_ends (hkind : o.kind = .derive) : exec (.cipherOpComplete c ok v) s =
    .next (if (slotOf (cipFinish c s) o.slot).st = .starting ∧ (slotOf (cipFinish c s) o.slot).stage.isSome then
      cipSubmit ⟨.rekey, .service, o.slot, 0, 0⟩ (cipFinish c s) else cipFinish c s) := by
  show execCipherOpComplete c ok v s = _
  simp only [execCipherOpComplete, ho, hkind]

end OpEnds

theorem coreFail_ignored {s : State} {c : Nat} (h : 8 ≤ c ∨ s.cip.coresOk.testBit c = false) : coreFail c s = s :=
  if_pos (by simpa using h)

/-- Core `c` marked FAILED, counted and logged. -/
def coreDown (c : Nat) (s : State) : State := raise 0x0B0E (quadUnit (c / 2) 3) [(1, c)]
  { s with cip := { s.cip with coresOk := clearBit s.cip.coresOk c, cores := s.cip.cores.set c none, coreFaults := satAdd 16 s.cip.coreFaults 1 } }

theorem coreDown_keeps (c : Nat) (s : State) : Keeps 0x120000 s (coreDown c s) :=
  raise_keeps _ _ _ (by decide) ((keeps_cip _).mono (by decide))

section CoreFails

variable {s : State} {c : Nat} (hc : c < 8) (hok : s.cip.coresOk.testBit c = true)
include hc hok

theorem coreFail_idle (h : s.cip.cores.getD c none = none) : coreFail c s = coreDown c s := by
  unfold coreFail
  rw [if_neg (by simp [hc, hok]), h]
  rfl

theorem coreFail_running {o : CipOp} (h : s.cip.cores.getD c none = some o) : coreFail c s = cipSubmit o (coreDown c s) := by
  unfold coreFail
  rw [if_neg (by simp [hc, hok]), h]
  rfl

end CoreFails

/-! ### Top-ups and compaction (R455, R459) -/

theorem exec_topup_ignored {s : State} (h : s.spn.mode = .dump ∨ 256 ≤ s.cip.slotSel ∨ s.cip.exhausted = true ∨
    2 ^ 23 ≤ unusedRsv (slotOf s s.cip.slotSel)) : exec .topup s = .next s :=
  congrArg Host.Outcome.next (if_pos (by simpa [cipFrozen] using h))

theorem exec_topup {s : State} (hdump : s.spn.mode ≠ .dump) (hi : s.cip.slotSel < 256) (hleft : s.cip.exhausted = false)
    (hlow : unusedRsv (slotOf s s.cip.slotSel) < 2 ^ 23) : exec .topup s = .next (topUp s.cip.slotSel s) :=
  congrArg Host.Outcome.next (if_neg (by simpa [cipFrozen, hdump, hi, hleft] using hlow))

theorem exec_compact_frozen {s : State} (hdump : s.spn.mode = .dump) : exec .compact s = .next s :=
  congrArg Host.Outcome.next (if_pos (by simp [cipFrozen, hdump]))

theorem exec_compact {s : State} (hdump : s.spn.mode ≠ .dump) : exec .compact s = .next { compactStart s with
    cip := { (compactStart s).cip with compactGo := (compactStart s).cip.compactBusy } } :=
  congrArg Host.Outcome.next (if_neg (by simp [cipFrozen, hdump]))

theorem compactStart_busy {s : State} (h : s.cip.compactBusy = true) : compactStart s = s := if_pos h

theorem compactStart_idle {s : State} (h : s.cip.compactBusy = false) : compactStart s =
    ifcAsk ⟨.cip, 0, .eraseSector (720 + 8 * (1 - s.cip.activeHalf)), 0⟩ { s with cip := { s.cip with
      compactBusy := true, compactGo := false, compactSector := 720 + 8 * (1 - s.cip.activeHalf) } } :=
  if_neg (by simp [h])

theorem ifcAsk_cip (o : AgentOp) (s : State) : (ifcAsk o s).cip = s.cip :=
  (ifcAsk_keeps (m := 0xc) o (by decide) (Keeps.refl _ s)).cipEq (by decide)

/-! ### Alarms (R461, R462, R464) -/

theorem exec_alarm {s : State} (src : Nat) (hcore : s.pwr.corePg = true) :
    exec (.alarm src) s = .next (if alarmEnabled s src then alarmFire src s else s) := by
  show execAlarm src s = _
  unfold execAlarm
  cases h : alarmEnabled s src <;> simp [hcore]

theorem exec_alarmAck (cool : Bool) (s : State) : exec (.alarmAck cool) s =
    .next (if s.pwr.corePg = true ∧ s.cip.alarmLatch = true ∧ alarmHolds cool s = false then deriveBound 0 (loadOtpRoot
      { s with cip := { s.cip with alarmLatch := false, alarmSrc := 0, alarmNow := 0 } }) else s) := by
  show execAlarmAck cool s = _
  unfold execAlarmAck
  cases s.pwr.corePg <;> cases s.cip.alarmLatch <;> cases alarmHolds cool s <;> simp

/-- A slot holds no key and does not run. -/
def KeyGone (k : KSlot) : Prop := k.st = .off ∧ k.key = []

/-- Slot `i` erased by an alarm. -/
def alarmErased (i : Nat) (s : State) : State :=
  setSlot i .off (modSlot i (fun k => { k with key := [], hash := [], stage := none, binding := none, reArm := false }) s)

theorem slotWork_alarmErased (i : Nat) (s : State) : SlotWork i s (alarmErased i s) :=
  (slotWork_modSlot (f := fun k => { k with key := [], hash := [], stage := none, binding := none, reArm := false }) s).trans
    (slotWork_setSlot i .off _)

theorem keyGone_alarmErased (i : Nat) (s : State) : KeyGone (slotOf (alarmErased i s) i) := by
  rcases Nat.lt_or_ge i s.cip.slots.length with hi | hi
  · rw [alarmErased, slotOf_setSlot_same (by simpa using hi), slotOf_modSlot_same hi]
    exact ⟨rfl, rfl⟩
  · have hnone : slotOf (alarmErased i s) i = {} := by
      simp [slotOf, (slotWork_alarmErased i s).length ▸ hi]
    rw [hnone]
    exact ⟨rfl, rfl⟩

theorem KeyGone.alarmErased {j : Nat} {s : State} (h : KeyGone (slotOf s j)) (i : Nat) : KeyGone (slotOf (alarmErased i s) j) := by
  by_cases hj : j = i
  · exact hj ▸ keyGone_alarmErased i s
  · rwa [(slotWork_alarmErased i s).other j hj]

theorem KeyGone.foldl_alarmErased {j : Nat} (l : List Nat) {s : State} (h : KeyGone (slotOf s j)) :
    KeyGone (slotOf (l.foldl (fun t i => Machine.alarmErased i t) s) j) := by
  induction l generalizing s with
  | nil => exact h
  | cons i l ih => exact ih (h.alarmErased i)

theorem keyGone_of_erased {l : List Nat} {j : Nat} (hj : j ∈ l) (s : State) :
    KeyGone (slotOf (l.foldl (fun t i => alarmErased i t) s) j) := by
  induction l generalizing s with
  | nil => exact absurd hj List.not_mem_nil
  | cons i l ih =>
    rcases List.mem_cons.1 hj with rfl | hj
    · exact (keyGone_alarmErased j s).foldl_alarmErased l
    · exact ih hj _

theorem alarmSrc_setSlot (i : Nat) (st : RunState) (s : State) : (setSlot i st s).cip.alarmSrc = s.cip.alarmSrc := by
  unfold setSlot
  dsimp only
  split <;> rfl

theorem alarmSrc_foldl_alarmErased (l : List Nat) (s : State) :
    (l.foldl (fun t i => alarmErased i t) s).cip.alarmSrc = s.cip.alarmSrc := by
  induction l generalizing s with
  | nil => rfl
  | cons i l ih => exact (ih _).trans (alarmSrc_setSlot i .off _)

/-- Where no operation runs or waits, none is aborted. -/
theorem abortOps_idle {s : State} (hcores : ∀ o ∈ s.cip.cores, o = none) (hqueue : s.cip.queue = []) :
    abortOps s = { s with cip := { s.cip with cores := List.replicate 8 none, queue := [] } } := by
  have hnone : s.cip.cores.filterMap id = [] := List.filterMap_eq_nil_iff.2 hcores
  unfold abortOps
  rw [hnone, hqueue]
  rfl

/-- The Clasp free and the staging empty, with the event of a release where it was held. -/
def claspGone (s : State) : State :=
  let t := if s.cip.owner = 0 then s else claspRelease s
  { t with cip := { t.cip with staging := [] } }

theorem claspGone_cip (s : State) : (claspGone s).cip = { s.cip with owner := 0, staging := [] } := by
  by_cases howner : s.cip.owner = 0
  · rw [claspGone, if_pos howner, ← howner]
  · rw [claspGone, if_neg howner, claspRelease_held howner]
    rfl

theorem slotOf_claspGone (s : State) (i : Nat) : slotOf (claspGone s) i = slotOf s i := slotOf_of_slots (by rw [claspGone_cip]) i

theorem eraseKeys_eq (s : State) : eraseKeys s = claspGone ((List.range 261).foldl (fun t i => alarmErased i t) s) := by
  have hstep : (fun (t : State) (i : Nat) =>
      let u := modSlot i (fun k => { k with key := [], hash := [], stage := none, binding := none, reArm := false }) t
      if (slotOf u i).st = .off then u else setSlot i .off u) = fun t i => alarmErased i t := by
    funext t i
    dsimp only [alarmErased]
    split
    next h => exact (setSlot_of_same h).symm
    next => rfl
  unfold eraseKeys
  rw [hstep]
  generalize (List.range 261).foldl (fun t i => alarmErased i t) s = u
  rfl

/-- The keys erased: slots 0 to 260 without one, the staging empty and the Clasp free. -/
theorem eraseKeys_spec (s : State) : (∀ i, i ≤ 260 → KeyGone (slotOf (eraseKeys s) i)) ∧ (eraseKeys s).cip.staging = [] ∧
    (eraseKeys s).cip.owner = 0 ∧ (eraseKeys s).cip.alarmSrc = s.cip.alarmSrc := by
  have hgone (i : Nat) (hi : i ≤ 260) := keyGone_of_erased (List.mem_range.2 (show i < 261 by omega)) s
  have hsrc := alarmSrc_foldl_alarmErased (List.range 261) s
  rw [eraseKeys_eq]
  generalize (List.range 261).foldl (fun t i => alarmErased i t) s = u at hgone hsrc ⊢
  rw [claspGone_cip]
  exact ⟨fun i hi => slotOf_claspGone u i ▸ hgone i hi, rfl, rfl, hsrc⟩

/-- The latch and the source of an alarm set, and logged. -/
def alarmLatched (src : Nat) (s : State) : State := raise 0x0B09 0x07 [(1, setBit s.cip.alarmSrc src)] { s with cip := { s.cip with
  alarmLatch := true, alarmSrc := setBit s.cip.alarmSrc src, alarmNow := if src = 2 then setBit s.cip.alarmNow 2 else s.cip.alarmNow } }

/-- An alarm out of a dump and out of service stops no region. -/
theorem alarmFire_noRegions {s : State} (src : Nat) (hdump : s.spn.mode ≠ .dump) (hserving : serving s = false) :
    alarmFire src s = alarmLatched src (eraseKeys (abortOps s)) := by
  have hkeeps : Keeps 0x1a6840 s (eraseKeys (abortOps s)) := eraseKeys_keeps (by decide) (abortOps_keeps (by decide) (Keeps.refl _ s))
  unfold alarmFire
  generalize eraseKeys (abortOps s) = u at hkeeps ⊢
  have hmode : u.spn.mode = s.spn.mode := hkeeps.modeEq (by decide)
  have hidle : serving (alarmLatched src u) = false := by
    show modeIn _ (alarmLatched src u) = false
    rw [modeIn, show (alarmLatched src u).spn.mode = s.spn.mode from hmode]
    exact hserving
  exact (if_neg (hmode ▸ hdump)).trans (if_neg (by rw [← alarmLatched, hidle]; simp))

/-- What an alarm leaves where nothing runs on the cores. -/
theorem alarmFire_noOps {s : State} (src : Nat) (hdump : s.spn.mode ≠ .dump) (hserving : serving s = false)
    (hcores : ∀ o ∈ s.cip.cores, o = none) (hqueue : s.cip.queue = []) :
    (∀ i, i ≤ 260 → KeyGone (slotOf (alarmFire src s) i)) ∧ (alarmFire src s).cip.staging = [] ∧ (alarmFire src s).cip.owner = 0 ∧
      (alarmFire src s).cip.alarmLatch = true ∧ (alarmFire src s).cip.alarmSrc = setBit s.cip.alarmSrc src := by
  rw [alarmFire_noRegions src hdump hserving, abortOps_idle hcores hqueue]
  obtain ⟨hgone, hstaging, howner, hsrc⟩ :=
    eraseKeys_spec { s with cip := { s.cip with cores := List.replicate 8 none, queue := [] } }
  generalize eraseKeys { s with cip := { s.cip with cores := List.replicate 8 none, queue := [] } } = u at hgone hstaging howner hsrc ⊢
  exact ⟨hgone, hstaging, howner, rfl, congrArg (setBit · src) hsrc⟩

/-! ### The statement -/

/-- Settles O50: a clause for each command in each of its cases (R429, R431, R436, R438, R441 to R448, R455, R459, R461 to R464;
log 69, 70, 85, 143). -/
theorem cipherEngine : Obligations.CipherEngine := by
  refine ⟨?frozen, ?clasp, ?timeout, ?keyData, ?accepts, ?accepted, ?submitted, ?rekeyed, ?opEnds, ?coreFails, ?topUps, ?alarm, ?ack, ?fires⟩
  case frozen =>
    exact fun s path v k width x hdump => ⟨exec_claspWrite_frozen path v hdump, exec_keyDataWrite_frozen path k width x hdump,
      exec_topup_ignored (.inl hdump), exec_compact_frozen hdump⟩
  case clasp =>
    rintro s path v p hdump rfl
    rw [exec_claspWrite path v hdump]
    refine ⟨fun hid hfree hv => by rw [if_pos ⟨hid, hfree, hv⟩]; rfl, fun hid hheld hv => ?_, fun hother => ?_⟩
    · have howner : s.cip.owner ≠ 0 := hheld ▸ hid
      rw [if_neg (fun h => howner h.2.1), if_pos ⟨hid, hheld, hv⟩, claspRelease_held howner, hheld]
      rfl
    · rw [if_neg (by tauto), if_neg (by tauto)]
      rfl
  case timeout =>
    intro s
    rw [exec_claspTimeout]
    exact ⟨fun h => by rw [if_pos h], fun h => by rw [if_neg h, claspRelease_held h]; rfl⟩
  case keyData =>
    intro s path k x hdump hk
    refine ⟨fun hheld => ⟨?_, ?_⟩, fun hfree w => ?_⟩ <;> rw [exec_keyDataWrite path _ x hdump hk]
    · rw [if_neg (by simp [hheld]), if_neg (by decide)]
    · rw [if_neg (by simp [hheld]), if_pos (by decide)]
      rfl
    · rw [if_pos hfree]
  case accepts =>
    rintro s path i hclasp hdump rfl
    exact ⟨exec_clearStaging hclasp hdump, fun hcommon hload => load_accepts hcommon hload,
      fun root hcommon hderive => derive_accepts hclasp hdump hcommon hderive⟩
  case accepted =>
    intro s i k hi
    refine ⟨keyStaged i k s, rfl, fun hst => acceptKey_stopping k hst, fun hst => ?_⟩
    rw [acceptKey_off k hi hst]
    cases k <;> rfl
  case submitted => exact fun s o => ⟨fun c hc => cipSubmit_core hc, fun hnone => cipSubmit_waits hnone⟩
  case rekeyed =>
    intro s i c
    refine ⟨fun hnone => ?_, fun hcore => ⟨cipFinish c s, rfl, fun hst hbinding hstage => ?_, fun hnot => ?_⟩⟩
    · have hidle : coreOf s (fun o => o.kind = .rekey && o.slot = i) = none :=
        coreOf_eq_none fun x hx o ho => by rcases hnone x hx o ho with h | h <;> simp [h]
      show execRekeyDone i s = _
      simp only [execRekeyDone, hidle]
    · exact (exec_rekeyDone hcore).1 ⟨hst, hbinding, hstage⟩
    · exact (exec_rekeyDone hcore).2 fun ⟨hst, hbinding, hstage⟩ => by
        rcases hnot with h | h | h
        exacts [h hst, h hbinding, hstage h]
  case opEnds =>
    intro s c v ok
    refine ⟨fun hnone => exec_cipherOpComplete_idle ok v hnone, fun o ho => ⟨exec_encrypt_ends ok v ho, fun hkind => ⟨?_, ?_⟩,
      fun hkind => ⟨cipFinish c s, rfl, fun hst hstage => ?_, fun hnot => ?_⟩, exec_rekey_ends ok v ho⟩⟩
    · intro hok htag
      have hgood : (ok && ((pageAt s v).map (tagMatches s v)).getD true) = true := by
        cases hpage : pageAt s v with
        | none => simp [hok]
        | some p => simp [hok, htag p hpage]
      rw [exec_decrypt_ends ok v ho hkind, if_pos hgood]
    · intro hbad
      have hfails : ¬ (ok && ((pageAt s v).map (tagMatches s v)).getD true) = true := by
        rcases hbad with h | ⟨p, hpage, h⟩
        · simp [h]
        · simp [hpage, h]
      rw [exec_decrypt_ends ok v ho hkind, if_neg hfails]
      rfl
    · rw [exec_derive_ends ok v ho hkind, if_pos ⟨hst, Option.isSome_iff_ne_none.2 hstage⟩]
    · rw [exec_derive_ends ok v ho hkind, if_neg]
      rintro ⟨hst, hstage⟩
      exact hnot.elim (fun h => h hst) (fun h => by simp [h] at hstage)
  case coreFails =>
    intro s c
    exact ⟨fun h => congrArg Host.Outcome.next (coreFail_ignored h), fun hc hok => ⟨coreDown c s, rfl, rfl, fr (coreDown_keeps c s) (by decide),
      fun hnone => congrArg Host.Outcome.next (coreFail_idle hc hok hnone),
      fun o ho => congrArg Host.Outcome.next (coreFail_running hc hok ho)⟩⟩
  case topUps =>
    rintro s i hdump rfl
    refine ⟨fun h => exec_topup_ignored (.inr h), fun hi hleft hlow => ⟨fun hquag => ?_, fun hquag => ?_⟩, fun hbusy => ?_, fun hidle => ?_⟩
    · rw [exec_topup hdump hi hleft hlow, topUp, if_pos hquag]
      rfl
    · rw [exec_topup hdump hi hleft hlow, topUp, if_neg (by simp [hquag])]
      rfl
    · rw [exec_compact hdump, compactStart_busy hbusy, hbusy]
    · refine ⟨_, _, rfl, rfl, by rw [ifcAsk_cip], ?_⟩
      rw [exec_compact hdump, compactStart_idle hidle, ifcAsk_cip]
  case alarm =>
    intro s src hcore
    rw [exec_alarm src hcore]
    refine ⟨fun h => by rw [if_pos h], fun h => by rw [if_neg (by simp [h])], ?_, fun h => ?_, ?_⟩
    · rintro (rfl | rfl) <;> rfl
    · simp [alarmEnabled]
      omega
    · rintro (rfl | rfl | rfl) <;> rfl
  case ack =>
    intro s cool
    rw [exec_alarmAck]
    refine ⟨fun h => congrArg Host.Outcome.next (if_neg ?_),
      fun hcore hlatch hcool htamper => congrArg Host.Outcome.next (if_pos ⟨hcore, hlatch, ?_⟩)⟩
    · rintro ⟨hcore, hlatch, hclear⟩
      rcases h with h | h | ⟨h, hhot⟩ | ⟨h, hpin⟩
      · simp [h] at hcore
      · simp [h] at hlatch
      · simp [alarmHolds, h, hhot] at hclear
      · simp [alarmHolds, h, hpin] at hclear
    · cases hnow : s.cip.alarmNow.testBit 2 <;> cases hsrc : s.cip.alarmSrc.testBit 4 <;> simp_all [alarmHolds]
  case fires =>
    intro s src i hdump hserving hi hcores hqueue
    obtain ⟨hgone, hrest⟩ := alarmFire_noOps src hdump hserving hcores hqueue
    exact ⟨(hgone i hi).1, (hgone i hi).2, hrest⟩

end Sys2Proof.Machine
end

section
/-!
PROOFS. The Tussock allocator (R469 to R480): descriptors, the search for a buffer, one equation for each case of ALLOC, SHARE and RELEASE,
and the statement about them.
-/

namespace Sys2Proof.Machine

/-! ### Descriptors (R476, R478, R480) -/

theorem descOf_setDesc (p : Nat) (d : Desc) (s : State) (x : Nat) : descOf (setDesc p d s) x = if x = p then d else descOf s x :=
  tget_tput _ _ _ _ _

/-- A valid release: one reference and its holder less; the last one frees a buffer that is not quarantined. -/
theorem tskRelease_effect (r p : Nat) (s : State) : OnlyIn [.tsk] s (tskRelease r p s) ∧
    (∀ x, x ≠ p → descOf (tskRelease r p s) x = descOf s x) ∧ descOf (tskRelease r p s) p =
      { descOf s p with refcnt := (descOf s p).refcnt - 1, holders := clearBit (descOf s p).holders r,
                        dstate := if (descOf s p).dstate = 2 then 2 else if (descOf s p).refcnt - 1 = 0 then 0 else 1 } :=
  ⟨fr (tskRelease_keeps r p (m := 0x40000) (by decide) (Keeps.refl _ s)) (by decide),
    fun x hx => (descOf_setDesc p _ s x).trans (if_neg hx), (descOf_setDesc p _ s p).trans (if_pos rfl)⟩

/-- A grant: one reference held by the requester. -/
theorem tskGrant_effect (r : AllocReq) (p : Nat) (s : State) :
    descOf (tskGrant r p s) p = ⟨1, 1, classCode r.cls, 2 ^ r.requester⟩ ∧ (∀ x, x ≠ p → descOf (tskGrant r p s) x = descOf s x) ∧
      (tskGrant r p s).out = s.out ++ [.granted r.requester p] ∧ OnlyIn [.tsk, .out, .free] s (tskGrant r p s) :=
  ⟨(descOf_setDesc p _ s p).trans (if_pos rfl), fun x hx => (descOf_setDesc p _ s x).trans (if_neg hx), rfl,
    fr (tskGrant_keeps r p (m := 0x640000) (by decide) (Keeps.refl _ s)) (by decide)⟩

theorem descCheck_consistent {s : State} {p : Nat} (h : (descOf s p).refcnt = popCount 16 (descOf s p).holders) : descCheck p s = s :=
  if_neg fun ⟨_, hne⟩ => hne h

theorem descCheck_quarantines {s : State} {p : Nat} (h2 : (descOf s p).dstate ≠ 2)
    (h : (descOf s p).refcnt ≠ popCount 16 (descOf s p).holders) : descCheck p s = quarantine p (descOf s p) 1 s :=
  if_pos ⟨h2, h⟩

theorem descOf_quarantine (p : Nat) (d : Desc) (cause : Nat) (s : State) : descOf (quarantine p d cause s) p = { d with dstate := 2 } := by
  show tget freshDesc (tput freshDesc s.tsk.descs p { d with dstate := 2 }) p = _
  rw [tget_tput, if_pos rfl]

theorem tskReject_cause (r p c : Nat) (s : State) : (tskReject r p c s).tsk.descs = s.tsk.descs ∧ (tskReject r p c s).tsk.cause = c := by
  show (if c = 1 then _ else if c = 2 then _ else if c = 3 then _ else _ : Tsk).descs = _ ∧
    (if c = 1 then _ else if c = 2 then _ else if c = 3 then _ else _ : Tsk).cause = c
  split_ifs <;> exact ⟨rfl, rfl⟩

/-! ### The search for a buffer (R470 to R472) -/

theorem poolFor_fits {n : Nat} (h : n ≤ 16384) : n ≤ poolBuf (poolFor n) ∧ ∀ i, i < poolFor n → poolBuf i < n := by
  have hbuf : poolBuf 0 = 256 ∧ poolBuf 1 = 1024 ∧ poolBuf 2 = 4096 ∧ poolBuf 3 = 16384 := by decide
  obtain ⟨h0, h1, h2, h3⟩ := hbuf
  unfold poolFor
  split_ifs with ha hb hc
  · exact ⟨h0 ▸ ha, fun i hi => absurd hi (Nat.not_lt_zero i)⟩
  all_goals
    refine ⟨by omega, fun i hi => ?_⟩
    interval_cases i <;> omega

theorem mem_takePtrs {s : State} {cls : AllocClass} {q i p : Nat} (h : p ∈ takePtrs s cls q i) :
    p ∈ poolPtrs s q i ∧ (descOf s p).dstate = 0 ∧ s.tsk.slices.getD q .off = .on ∧
      (i = 3 → cls ≠ .dump → cls ≠ .restore → s.tsk.saveRsv < (freePtrs s q 3).length) := by
  unfold takePtrs at h
  split at h
  next => exact absurd h List.not_mem_nil
  next hon =>
    dsimp only at h
    split at h
    next => exact absurd h List.not_mem_nil
    next hroom =>
      obtain ⟨hmem, hfree⟩ := List.mem_filter.1 h
      refine ⟨hmem, by simpa using hfree, not_not.1 hon, ?_⟩
      rintro rfl hdump hrestore
      by_contra hlow
      exact hroom ⟨rfl, hdump, hrestore, Nat.not_lt.1 hlow⟩

/-- A buffer that is found may be taken from some slice. -/
theorem findBuffer_takes {s : State} {r : AllocReq} {i p : Nat} (h : findBuffer s r i = some p) : ∃ q, p ∈ takePtrs s r.cls q i := by
  unfold findBuffer at h
  split at h
  next => cases h
  next q hq => exact ⟨q, List.mem_of_getElem? h⟩

section Spill

variable {s : State} {r : AllocReq} {i : Nat} (first n : Nat)

theorem spillSearch_found {p : Nat} (h : findBuffer s r i = some p) (hi : i ≠ first) : spillSearch r first (n + 1) i s =
    tskGrant r p { s with tsk := { s.tsk with spills := s.tsk.spills.modify first (fun k => satAdd 16 k 1) } } := by
  rw [spillSearch, h]
  exact congrArg (tskGrant r p) (if_neg hi)

theorem spillSearch_moves (h : findBuffer s r i = none) (hi : i < 3) (hspill : (carvingOf s 0).spill.getD i false = true) :
    spillSearch r first (n + 1) i s = spillSearch r first n (i + 1) s := by
  rw [spillSearch, h]
  exact if_pos ⟨hi, hspill⟩

theorem spillSearch_ends (h : findBuffer s r i = none) (hstop : 3 ≤ i ∨ (carvingOf s 0).spill.getD i false = false) :
    spillSearch r first (n + 1) i s = tskEmpty r i s := by
  rw [spillSearch, h]
  refine if_neg fun ⟨hi, hspill⟩ => ?_
  rcases hstop with h | h
  · omega
  · cases h.symm.trans hspill

end Spill

/-! ### ALLOC (R469, R470, R473 to R475) -/

theorem exec_alloc_off {s : State} (l : List AllocReq) (h : s.tsk.unit = .off) : exec (.alloc l) s = .next s :=
  congrArg Host.Outcome.next (if_pos h)

/-- The requests of a cycle in rank order. -/
def rankOrder (l : List AllocReq) : List AllocReq := l.mergeSort (fun a b => allocRank a ≤ allocRank b)

theorem exec_alloc {s : State} (l : List AllocReq) (h : s.tsk.unit ≠ .off) : exec (.alloc l) s = .next (
    (allocFirst (rankOrder l) s).2.foldl (fun u r => spillSearch r (poolFor r.size) 4 (poolFor r.size) u) (allocFirst (rankOrder l) s).1) :=
  congrArg Host.Outcome.next (if_neg h)

theorem badAlloc_iff (r : AllocReq) : badAlloc r = true ↔ mayRequest r = false ∨ r.size = 0 ∨ 16384 < r.size := by
  simp [badAlloc, or_assoc]

section Lone

variable {s : State} {r : AllocReq} (hon : s.tsk.unit ≠ .off)
include hon

theorem exec_alloc_lone : exec (.alloc [r]) s = .next (
    (allocFirst [r] s).2.foldl (fun u r => spillSearch r (poolFor r.size) 4 (poolFor r.size) u) (allocFirst [r] s).1) := by
  rw [exec_alloc [r] hon, rankOrder, List.mergeSort_singleton]

theorem alloc_bad (hbad : badAlloc r = true) : exec (.alloc [r]) s = .next (tskReject r.requester 0 3 s) := by
  have hfirst : allocFirst [r] s = (tskReject r.requester 0 3 s, []) := by rw [allocFirst, if_pos hbad, allocFirst]
  rw [exec_alloc_lone hon, hfirst]
  rfl

theorem alloc_shadowFull (hgood : badAlloc r = false) (hquad : r.requester < 4) (hcls : r.cls = .shadow)
    (hfull : 64 ≤ shadowHeld s r.requester) : exec (.alloc [r]) s = .next (tskEmpty r (poolFor r.size) s) := by
  have hfirst : allocFirst [r] s = (tskEmpty r (poolFor r.size) s, []) := by
    rw [allocFirst, if_neg (by simp [hgood]), if_pos ⟨hquad, hcls, hfull⟩, allocFirst]
  rw [exec_alloc_lone hon, hfirst]
  rfl

variable (hgood : badAlloc r = false) (hroom : ¬ (r.requester < 4 ∧ r.cls = .shadow ∧ 64 ≤ shadowHeld s r.requester))
include hgood hroom

theorem alloc_found {p : Nat} (hp : findBuffer s r (poolFor r.size) = some p) : exec (.alloc [r]) s = .next (tskGrant r p s) := by
  have hfirst : allocFirst [r] s = (tskGrant r p s, []) := by
    rw [allocFirst, if_neg (by simp [hgood]), if_neg hroom, hp]
    rfl
  rw [exec_alloc_lone hon, hfirst]
  rfl

theorem alloc_spills (hnone : findBuffer s r (poolFor r.size) = none) :
    exec (.alloc [r]) s = .next (spillSearch r (poolFor r.size) 4 (poolFor r.size) s) := by
  have hfirst : allocFirst [r] s = (s, [r]) := by
    rw [allocFirst, if_neg (by simp [hgood]), if_neg hroom, hnone]
    rfl
  rw [exec_alloc_lone hon, hfirst]
  rfl

end Lone

/-! ### SHARE and RELEASE (R477 to R479) -/

/-- The state once the descriptor that a request meets has been checked (R480). -/
def descMet (p : Nat) (s : State) : State := if (ptrPool s p).isSome then descCheck p s else s

theorem share_refused {s : State} {by_ p c : Nat} (dest : Nat) (h : pointerCause (descMet p s) by_ p false = some c) :
    exec (.share by_ dest p) s = .next (tskReject by_ p c (descMet p s)) := by
  show execShare by_ dest p s = _
  unfold execShare
  rw [← descMet]
  simp only [h]

theorem exec_share {s : State} {by_ p : Nat} (dest : Nat) (h : pointerCause (descMet p s) by_ p false = none) :
    exec (.share by_ dest p) s = .next (if 12 ≤ dest ∨ (descOf (descMet p s) p).holders.testBit dest = true then
      tskReject by_ p 4 (descMet p s) else setDesc p { descOf (descMet p s) p with
        refcnt := (descOf (descMet p s) p).refcnt + 1, holders := setBit (descOf (descMet p s) p).holders dest } (descMet p s)) := by
  show execShare by_ dest p s = _
  unfold execShare
  rw [← descMet]
  simp only [h]

theorem release_refused {s : State} {r p c : Nat} (h : pointerCause (descMet p s) r p true = some c) :
    exec (.release r p) s = .next (tskReject r p c (descMet p s)) := by
  show execRelease r p s = _
  unfold execRelease
  rw [← descMet]
  simp only [h]

theorem exec_release {s : State} {r p : Nat} (h : pointerCause (descMet p s) r p true = none) :
    exec (.release r p) s = .next (tskRelease r p (descMet p s)) := by
  show execRelease r p s = _
  unfold execRelease
  rw [← descMet]
  simp only [h]

theorem descMet_offPools {s : State} {p : Nat} (h : ptrPool s p = none) : descMet p s = s := if_neg (by simp [h])

theorem descMet_consistent {s : State} {p : Nat} (h : (descOf s p).refcnt = popCount 16 (descOf s p).holders) : descMet p s = s := by
  rw [descMet, descCheck_consistent h, ite_self]

/-- A pointer that lies on no buffer is a bad one. -/
theorem pointerCause_offPools {s : State} {p : Nat} (h : ptrPool s p = none) (r : Nat) (release : Bool) :
    pointerCause s r p release = some 3 := if_pos (.inr (.inl (by simp [h])))

/-- A buffer of a pool that is not quarantined: its count and its holder decide. -/
theorem pointerCause_onPools {s : State} {r p : Nat} (release : Bool) (hr : r < 12) (hp : ptrPool s p ≠ none)
    (h2 : (descOf s p).dstate ≠ 2) : pointerCause s r p release =
      if (descOf s p).refcnt = 0 then some 2 else if (descOf s p).holders.testBit r = false then some 1 else none := by
  have hgood : ¬ (12 ≤ r ∨ ((ptrPool s p).isNone : Prop) ∨ ((descOf s p).dstate = 2 ∧
      ¬ ((release : Prop) ∧ ((descOf s p).holders.testBit r : Prop)))) := by simp [hp, h2, hr]
  unfold pointerCause
  rw [if_neg hgood]
  cases (descOf s p).holders.testBit r <;> rfl

/-! ### The statement -/

/-- Settles O51: a clause for each case of the three requests, and what a grant, a refusal, a release and a check do (R469 to R480;
log 5, 68, 144). -/
theorem allocator : Obligations.Allocator := by
  refine ⟨?cycle, ?lone, ?found, ?pools, ?spill, ?empty, ?reject, ?held, ?offPools, ?released, ?checked⟩
  case cycle => exact fun s l => ⟨fun h => exec_alloc_off l h, fun h => ⟨rankOrder l, _, _, rfl, rfl, exec_alloc l h⟩⟩
  case lone =>
    intro s r hon
    refine ⟨fun hbad => alloc_bad hon ((badAlloc_iff r).2 hbad), fun hmay hpos hmax => ?_⟩
    have hgood : badAlloc r = false := by
      rw [← Bool.not_eq_true, badAlloc_iff]
      rintro (h | h | h)
      · simp [h] at hmay
      all_goals omega
    refine ⟨fun hquad hcls hfull => alloc_shadowFull hon hgood hquad hcls hfull, fun hfree => ?_⟩
    have hroom : ¬ (r.requester < 4 ∧ r.cls = .shadow ∧ 64 ≤ shadowHeld s r.requester) := by
      rintro ⟨hquad, hcls, hfull⟩
      rcases hfree with h | h | h
      exacts [by omega, h hcls, by omega]
    exact ⟨fun p hp => ⟨_, alloc_found hon hgood hroom hp, tskGrant_effect r p s⟩, fun hnone => alloc_spills hon hgood hroom hnone⟩
  case found =>
    intro s r i p hp
    obtain ⟨q, hq⟩ := findBuffer_takes hp
    exact ⟨q, mem_takePtrs hq⟩
  case pools => exact fun n _ hmax => poolFor_fits hmax
  case spill =>
    exact fun s r first n i => ⟨fun p hp hi => spillSearch_found first n hp hi, fun hnone hi hspill => spillSearch_moves first n hnone hi hspill,
      fun hnone hstop => spillSearch_ends first n hnone hstop⟩
  case empty =>
    exact fun s r i => ⟨_, rfl, rfl, rfl, rfl, rfl, fr (tskEmpty_keeps r i (m := 0x340000) (by decide) (Keeps.refl _ s)) (by decide)⟩
  case reject =>
    intro s r p c
    obtain ⟨hdescs, hcause⟩ := tskReject_cause r p c s
    exact ⟨_, rfl, hdescs, rfl, hcause, rfl, fr (tskReject_keeps r p c (m := 0x340000) (by decide) (Keeps.refl _ s)) (by decide)⟩
  case held =>
    rintro s by_ dest p d rfl hp hcount hby h2
    have hmet : descMet p s = s := descMet_consistent hcount
    have hcause (release : Bool) := pointerCause_onPools release hby hp h2
    refine ⟨fun h0 => ?free, fun h0 hnot => ?other, fun h0 hholds => ?holder⟩
    case free =>
      have h (release : Bool) : pointerCause (descMet p s) by_ p release = some 2 := by rw [hmet, hcause, if_pos h0]
      rw [share_refused dest (h false), release_refused (h true), hmet]
      exact ⟨rfl, rfl⟩
    case other =>
      have h (release : Bool) : pointerCause (descMet p s) by_ p release = some 1 := by rw [hmet, hcause, if_neg h0, if_pos hnot]
      rw [share_refused dest (h false), release_refused (h true), hmet]
      exact ⟨rfl, rfl⟩
    case holder =>
      have h (release : Bool) : pointerCause (descMet p s) by_ p release = none := by
        rw [hmet, hcause, if_neg h0, if_neg (by simp [hholds])]
      rw [exec_share dest (h false), exec_release (h true), hmet]
      refine ⟨fun hbad => by rw [if_pos hbad], fun hdest hnew => ?_, _, rfl, rfl⟩
      rw [if_neg (by simp [hnew, hdest])]
      rfl
  case offPools =>
    intro s by_ dest p hp
    have h (release : Bool) : pointerCause (descMet p s) by_ p release = some 3 := by
      rw [descMet_offPools hp, pointerCause_offPools hp]
    rw [share_refused dest (h false), release_refused (h true), descMet_offPools hp]
    exact ⟨rfl, rfl⟩
  case released =>
    rintro s r p d rfl
    obtain ⟨hframe, hother, hdesc⟩ := tskRelease_effect r p s
    refine ⟨_, rfl, hframe, hother, ?_⟩
    rw [hdesc]
    refine ⟨rfl, rfl, fun h2 hlast => ?_, fun h2 hleft => ?_, fun h2 => if_pos h2⟩
    · exact (if_neg h2).trans (if_pos (by omega))
    · exact (if_neg h2).trans (if_neg (by omega))
  case checked =>
    rintro s p d rfl h2 hcount
    have hframe := fr (descCheck_keeps p (m := 0x140000) (by decide) (Keeps.refl _ s)) (l := [.tsk, .raised]) (by decide)
    refine ⟨_, rfl, ?_, ?_, ?_, hframe⟩ <;> rw [descCheck_quarantines h2 hcount]
    · rw [descOf_quarantine]
    · rfl
    · rfl

end Sys2Proof.Machine
end

section
/-!
PROOFS. The flash window (R490 to R493): which paths write it, how a command cycle that reaches it acts, and what a read answers; and the
statement about them.
-/

namespace Sys2Proof.Machine

/-! ### Accesses that reach the window (R486, R638) -/

theorem dropHalf_ifc (p : Path) (s : State) : (dropHalf p s).ifc = s.ifc := by
  unfold dropHalf
  split <;> rfl

/-- A register write of the window is one command cycle. -/
theorem exec_registerWrite_flash {s : State} (path : Path) {off width : Nat} (value : Nat) (fact : Bool) (hcore : s.pwr.corePg = true)
    (hoff : off < 0x800000) (hwidth : width = 4 ∨ width = 8) (halign : off % width = 0) :
    exec (.registerWrite path (0x800000 + off) width value fact) s = .next (flashCycle path off width value (dropHalf path s)) := by
  have haccess : accessOk (0x800000 + off) width = true := by
    rcases hwidth with rfl | rfl <;> simp [accessOk] <;> omega
  have hlocal : localWrite path (0x800000 + off) width value fact (dropHalf path s) =
      flashCycle path (0x800000 + off - 0x800000) width value (dropHalf path s) :=
    (if_neg (by omega)).trans (if_pos (by omega))
  show execRegisterWrite path (0x800000 + off) width value fact s = _
  unfold execRegisterWrite
  rw [if_neg (by simp [hcore])]
  dsimp only
  rw [if_neg (by simp [haccess]), if_neg (by omega), hlocal, Nat.add_sub_cancel_left]

/-- A cycle of another path than the management complex's is ignored, whatever it writes (R490). -/
theorem flashCycle_ignored {path : Path} (off width value : Nat) (s : State) (hpath : path ≠ .firmware) :
    flashCycle path off width value s = flashIgnored s := if_pos hpath

theorem flashIgnored_ifc (s : State) : (flashIgnored s).ifc = { s.ifc with refused := satAdd 16 s.ifc.refused 1 } := rfl

/-- The cycle that opens a sequence (R491). -/
theorem flashCycle_opens {s : State} {value : Nat} (width : Nat) (hstep : s.ifc.bank0.seqStep = 0) (hvalue : value % 256 = 0x6C) :
    flashCycle .firmware 0x5558 width value s =
      modBank 0 (fun k => { k with seqStep := 1, seqCode := 0, stream := none }) s := by
  have hbank : (bankOf s (0x5558 / 0x400000 % 2)).seqStep = 0 := hstep
  unfold flashCycle
  simp [hbank, hvalue]

/-! ### Window reads (R493, R498) -/

/-- An aligned 64-bit read of a clean word in a bank that is not busy. -/
theorem flashRead_word {s : State} (path : Path) {off : Nat} (halign : off % 8 = 0) (hoff : off < 0x800000)
    (hbusy : (bankOf s (off / 0x400000)).busy = false) : flashRead path off 8 0 s =
      send (.readData path (windowWord off s)) (modBank (off / 0x400000) (fun k => { k with
        stream := if off + 8 < (off / 0x400000 + 1) * 0x400000 then some (off + 8) else none })
        (if wordUndef off s = true then useFree s else s)) := by
  have hbank : off / 0x400000 % 2 = off / 0x400000 := by omega
  have hword : off / 8 * 8 = off := by omega
  have hclean : ¬ ((bankOf s (off / 0x400000)).mode = .read ∧ 2 ≤ 0) := by simp
  have hcorrect : ¬ ((bankOf s (off / 0x400000)).mode = .read ∧ 0 = 1) := by simp
  unfold flashRead
  rw [hbank, hword]
  dsimp only
  rw [if_neg (by simp [halign, hoff]), if_neg (by simp [hbusy]), if_neg hclean, if_neg hcorrect]
  rfl

/-- Such a read answers the word, and logs nothing. -/
theorem flashRead_effect {s : State} (path : Path) {off : Nat} (halign : off % 8 = 0) (hoff : off < 0x800000)
    (hbusy : (bankOf s (off / 0x400000)).busy = false) :
    (flashRead path off 8 0 s).out = s.out ++ [.readData path (windowWord off s)] ∧ (flashRead path off 8 0 s).raised = s.raised := by
  have hkeeps (f : Bank → Bank) : Keeps 0x400008 s (modBank (off / 0x400000) f (if wordUndef off s = true then useFree s else s)) :=
    modBank_keeps _ f (by decide) (.ite (useFree_keeps (by decide) (Keeps.refl _ s)) (Keeps.refl _ s))
  rw [flashRead_word path halign hoff hbusy, send_out, send_raised, (hkeeps _).outEq (by decide), (hkeeps _).raisedEq (by decide)]
  exact ⟨rfl, rfl⟩

/-! ### The statement -/

/-- Settles O28: every sequence and every register write of another path is ignored, the management complex's opens a sequence, and a read
answers every path (R490). -/
theorem flashWindowWriters : Obligations.FlashWindowWriters := by
  refine ⟨?ignored, ?cycleIgnored, ?opens, ?read⟩
  case ignored =>
    intro s path c off data bank hpath hc
    rcases hc with rfl | rfl | rfl | rfl | rfl | rfl <;>
      exact congrArg (fun t => Host.Outcome.next (dropHalf path t)) (if_pos hpath)
  case cycleIgnored =>
    intro s path off width value fact hpath hcore hoff hwidth halign
    rw [exec_registerWrite_flash path value fact hcore hoff hwidth halign, flashCycle_ignored off width value _ hpath]
    have hkeeps : Keeps 0x110009 s (flashIgnored (dropHalf path s)) :=
      flashIgnored_keeps (by decide) (dropHalf_keeps path (by decide) (Keeps.refl _ s))
    refine ⟨_, rfl, ?_, congrArg (· ++ [_]) (dropHalf_raised path s), dropHalf_out path s, fr hkeeps (by decide)⟩
    rw [flashIgnored_ifc, dropHalf_ifc]
  case opens =>
    intro s value fact hcore hstep hvalue
    have hopens := flashCycle_opens (s := dropHalf .firmware s) 8 (by rw [dropHalf_ifc]; exact hstep) hvalue
    refine ⟨_, (exec_registerWrite_flash .firmware (off := 0x5558) value fact hcore (by decide) (.inr rfl) (by decide)).trans
      (congrArg Host.Outcome.next hopens), rfl, ?_, dropHalf_raised .firmware s⟩
    show (dropHalf .firmware s).ifc.refused = _
    rw [dropHalf_ifc]
  case read =>
    intro s path off halign hoff hbusy
    obtain ⟨hout, hraised⟩ := flashRead_effect path halign hoff hbusy
    exact ⟨_, rfl, (dropHalf_out path _).trans hout, (dropHalf_raised path _).trans hraised⟩

end Sys2Proof.Machine
end

section
/-!
PROOFS. Firmware transfer and activation (R556, R557) and the background commands of the stream, the dump and the gauge (R127, R224, R240,
R269, R571): one equation for each, and the statement about them.
-/

namespace Sys2Proof.Machine

/-! ### Transfer FW and Activate FW (R556, R557) -/

section FirmwareUpdate

variable {s : State} (via : Via) (hserves : Serves s) (hdump : s.spn.mode ≠ .dump)
include hserves hdump

/-- A standard command that DUMP does not answer runs its body outside DUMP. -/
theorem standard_outsideDump {op : Nat} {k : State → State} : standard via op false k s = k s :=
  standard_serves hserves fun h => absurd h hdump

theorem transferFw_busy (slot : Nat) (l : List Component) (hbg : s.hlk.bg.isSome = true) :
    exec (.transferFw via slot l) s = .next (reply via 0x0201 .busy 0 [] s) :=
  congrArg Host.Outcome.next ((standard_outsideDump via hserves hdump).trans (if_pos hbg))

/-- A package for another slot, one that is no package, or one with a component that fails its checks. -/
theorem transferFw_invalid {slot : Nat} {l : List Component} (hbg : s.hlk.bg = none)
    (hbad : slot ≠ inactiveSlot s ∨ packageOk l = false ∨ ∃ c ∈ l, compOk slot s c = false) :
    exec (.transferFw via slot l) s = .next (reply via 0x0201 .invalidInput 0 [] (packageEvent l s)) := by
  have hfails : slot ≠ inactiveSlot s ∨ (!packageOk l) = true ∨ (!(l.all (compOk slot s))) = true := by simpa using hbad
  show Host.Outcome.next (standard via 0x0201 false _ s) = _
  rw [standard_outsideDump via hserves hdump, if_neg (by simp [hbg]), if_pos hfails]

theorem transferFw_starts {slot : Nat} {l : List Component} (hbg : s.hlk.bg = none) (hslot : slot = inactiveSlot s)
    (hpackage : packageOk l = true) (hcomps : ∀ c ∈ l, compOk slot s c = true) (hquag : s.nrg.quagOk = true) :
    exec (.transferFw via slot l) s =
      .next (ifcAsk ⟨.firmware, slot, .package slot l, 0⟩ (erasePackage slot l (bgStart via 0x0201 s))) := by
  have hall : l.all (compOk slot s) = true := List.all_eq_true.2 hcomps
  show Host.Outcome.next (standard via 0x0201 false _ s) = _
  rw [standard_outsideDump via hserves hdump, if_neg (by simp [hbg]), if_neg (by rw [hall, hpackage]; simp [hslot]),
    if_neg (by simp [hquag])]

theorem activateFw_invalid {online : Bool} (h : online = true ∨ s.aos.scratch.held = []) :
    exec (.activateFw via online) s = .next (reply via 0x0202 .invalidInput 0 [] s) :=
  congrArg Host.Outcome.next ((standard_outsideDump via hserves hdump).trans (if_pos (by simpa using h)))

theorem activateFw_activates (hheld : s.aos.scratch.held ≠ []) (hquag : s.nrg.quagOk = true) :
    exec (.activateFw via false) s = .next (reply via 0x0202 .success 0 [] (activateHeld s)) :=
  congrArg Host.Outcome.next ((standard_outsideDump via hserves hdump).trans
    ((if_neg (by simp [hheld])).trans (if_neg (by simp [hquag]))))

end FirmwareUpdate

/-- One held word programmed at its place, and nothing else of the array. -/
theorem activateHeld_words {s : State} {h : HeldComp} (hheld : s.aos.scratch.held = [h]) (a : Nat) :
    tget erasedWord (activateHeld s).ifc.words a = if a = h.base / 8 then h.word % 2 ^ 64 else tget erasedWord s.ifc.words a := by
  have hwords : (activateHeld s).ifc.words = tput erasedWord s.ifc.words (h.base / 8) (h.word % 2 ^ 64) := by
    unfold activateHeld
    rw [hheld]
    rfl
  rw [hwords, tget_tput]

/-! ### The background commands of the stream, the dump and the gauge (R127, R129) -/

/-- The captures of the granules that `p` holds of, asked for by a command. -/
def shadowStart (via : Via) (op kind : Nat) (p : Nat → Bool) (s : State) : State :=
  settle (cmdStart op p (wakeScope kind p (bgStart via op s)))

theorem shadowRange_starts {s : State} (via : Via) {dpa len r : Nat} (hserves : VendorServes via [.restore, .service, .test] false true s)
    (hrange : rangeRegion s dpa len = .inl r) : exec (.shadowRange via dpa len) s =
      .next (shadowStart via 0xC002 (viaKind via) (fun g => decide (dpa / 16384 ≤ g ∧ g < (dpa + len) / 16384)) s) := by
  show Host.Outcome.next (vendor via 0xC002 _ false true _ s) = _
  rw [vendor_serves hserves]
  simp only [hrange]
  rfl

theorem barrier_device {s : State} {via : Via} (hserves : VendorServes via [.restore, .service, .test] true true s) :
    exec (.barrier via none) s = .next (shadowStart via 0xC003 (viaKind via) (fun _ => true) s) :=
  congrArg Host.Outcome.next (vendor_serves hserves)

theorem barrier_region {s : State} {via : Via} {r : Nat} (hserves : VendorServes via [.restore, .service, .test] true true s)
    (hdef : defined s r = true) :
    exec (.barrier via (some r)) s = .next (shadowStart via 0xC003 (viaKind via) (inRegion s r) s) :=
  congrArg Host.Outcome.next ((vendor_serves hserves).trans (if_neg (by simp [hdef])))

theorem serving_congr_mode {s t : State} (h : t.spn.mode = s.spn.mode) : serving t = serving s := by
  rw [serving, modeIn, h, serving, modeIn]

/-- The state from which a command of the host commits a dump: the command runs, and a learning cycle is over. -/
def dumpAsked (via : Via) (op : Nat) (s : State) : State := learnDisqualify 0x06 (bgStart via op s)

theorem dumpAsked_mode (via : Via) (op : Nat) (s : State) : (dumpAsked via op s).spn.mode = s.spn.mode := by
  have hkeeps : Keeps 0x7041bc s (dumpAsked via op s) := learnDisqualify_keeps 0x06 (by decide)
    ((bgStart_keeps via op (m := 0x200010) (by decide) (Keeps.refl _ s)).mono (by decide))
  exact hkeeps.modeEq (by decide)

theorem commitDump_asked {via : Via} {s : State} (tr op : Nat) (hserving : serving s = true) :
    (commitDump tr op (dumpAsked via op s)).spn.mode = .dump :=
  commitDump_mode tr op _ ((serving_congr_mode (dumpAsked_mode via op s)).trans hserving)

section DumpCommands

variable {s : State} {via : Via}

theorem park_commits (hserves : VendorServes via [.service, .restore] true true s) (hmet : dumpUnmet s = 0) :
    exec (.park via) s = .next (commitDump 4 0xC004 (dumpAsked via 0xC004 s)) :=
  congrArg Host.Outcome.next ((vendor_serves hserves).trans (if_neg (by simp [hmet])))

theorem park_refused (hserves : VendorServes via [.service, .restore] true true s) (hunmet : dumpUnmet s ≠ 0) :
    exec (.park via) s = .next (dumpRefuse via 0xC004 (dumpUnmet s) s) :=
  congrArg Host.Outcome.next ((vendor_serves hserves).trans (if_pos hunmet))

variable (hserves : VendorServes via [.service] true true s)
include hserves

theorem calibrationDump_commits (hmet : calibrationUnmet s = 0) :
    exec (.calibrationDump via) s = .next (commitDump 5 0xC00A (dumpAsked via 0xC00A s)) :=
  congrArg Host.Outcome.next ((vendor_serves hserves).trans (if_neg (by simp [hmet])))

theorem calibrationDump_refused (hunmet : calibrationUnmet s ≠ 0) :
    exec (.calibrationDump via) s = .next (dumpRefuse via 0xC00A (calibrationUnmet s) s) :=
  congrArg Host.Outcome.next ((vendor_serves hserves).trans (if_pos hunmet))

theorem startLearning_begins (h1 : s.nrg.lstate ≠ .waitBudget) (h2 : s.nrg.lstate ≠ .running) :
    exec (.startLearning via) s = .next (learnStart (bgStart via 0xC009 s)) :=
  congrArg Host.Outcome.next ((vendor_serves hserves).trans (if_neg (by simp [h1, h2])))

theorem startLearning_busy (h : s.nrg.lstate = .waitBudget ∨ s.nrg.lstate = .running) :
    exec (.startLearning via) s = .next (reply via 0xC009 .busy 0 [] s) :=
  congrArg Host.Outcome.next ((vendor_serves hserves).trans (if_pos h))

/-- The device is in SERVICE. -/
theorem mode_of_serves : s.spn.mode = .service := by
  obtain ⟨-, -, hmode, -⟩ := hserves
  simpa using hmode

end DumpCommands

/-! ### The statement -/

/-- Settles O19: a clause for each command in each of its cases (R127, R224, R240, R269, R556, R557, R571; log 42, 74, 80, 88, 131). -/
theorem updateAndBackgroundCommands : Obligations.UpdateAndBackgroundCommands := by
  refine ⟨?transfer, ?written, ?busy, ?held, ?invalid, ?activate, ?notActivated, ?shadow, ?barrier, ?park, ?calibrate, ?refused,
    ?learning, ?learningBusy⟩
  case transfer =>
    intro s via l hserves hdump hpackage hcomps hquag hbg
    exact transferFw_starts via hserves hdump hbg rfl hpackage hcomps hquag
  case written => exact fun s slot l => rfl
  case busy => exact fun s via slot l hserves hdump hbg => transferFw_busy via hserves hdump slot l hbg
  case held => exact fun s slot c => rfl
  case invalid => exact fun s via slot l hserves hdump hbg hbad => transferFw_invalid via hserves hdump hbg hbad
  case activate =>
    intro s via h hserves hdump hquag hheld
    have hwords := activateHeld_words hheld
    refine ⟨_, activateFw_activates via hserves hdump (by simp [hheld]) hquag, (hwords _).trans (if_pos rfl),
      fun a ha => (hwords a).trans (if_neg ha), rfl, rfl, ?_⟩
    exact fr (reply_keeps _ _ _ _ _ (m := 0x300108) (by decide) (activateHeld_keeps (by decide) (Keeps.refl _ s))) (by decide)
  case notActivated => exact fun s via online hserves hdump h => activateFw_invalid via hserves hdump h
  case shadow => exact fun s dpa len r hserves hrange => ⟨_, rfl, shadowRange_starts .primary hserves hrange⟩
  case barrier =>
    rintro s via scope p hserves (⟨rfl, rfl⟩ | ⟨r, rfl, hdef, rfl⟩)
    · exact barrier_device hserves
    · exact barrier_region hserves hdef
  case park =>
    intro s via hserves hmet
    have hserving : serving s = true := by
      obtain ⟨-, -, hmode, -⟩ := hserves
      exact serving_of_mode (Or.symm (by simpa using hmode))
    exact ⟨_, _, rfl, park_commits hserves hmet, rfl, commitDump_asked 4 0xC004 hserving⟩
  case calibrate =>
    intro s via hserves hmet
    have hserving : serving s = true := serving_of_mode (.inr (mode_of_serves hserves))
    exact ⟨_, _, rfl, calibrationDump_commits hserves hmet, rfl, commitDump_asked 5 0xC00A hserving⟩
  case refused =>
    intro s via hserves hunmet
    have hcalibration : calibrationUnmet s = dumpUnmet s := if_pos hunmet
    have hpark : VendorServes via [.service, .restore] true true s := by
      obtain ⟨hall, hdump, hmode, hrest⟩ := hserves
      exact ⟨hall, hdump, by simp_all, hrest⟩
    exact ⟨park_refused hpark hunmet, hcalibration ▸ calibrationDump_refused hserves (hcalibration ▸ hunmet)⟩
  case learning => exact fun s via hserves h1 h2 => startLearning_begins hserves h1 h2
  case learningBusy => exact fun s via hserves h => startLearning_busy hserves h

end Sys2Proof.Machine
end

section
/-!
PROOFS. The SPDM responder (R540, R550 to R553): a served request and one under the recovery service, what the connections and the counts of a
request leave, and the statement about them.
-/

namespace Sys2Proof.Machine

/-! ### What a counted request leaves -/

theorem connOf_countSpdm (t : Transport) (s : State) : connOf t (countSpdm t s) = connOf t s := by cases t <;> rfl

theorem certValid_countSpdm (t : Transport) (s : State) : (countSpdm t s).sig.certValid = s.sig.certValid := by cases t <;> rfl

theorem free_countSpdm (t : Transport) (s : State) : (countSpdm t s).free = s.free := by cases t <;> rfl

theorem certChain_countSpdm (t : Transport) (s : State) : certChain (countSpdm t s) = certChain s := by cases t <;> rfl

theorem measBlock_countSpdm (t : Transport) (s : State) : measBlock (countSpdm t s) = measBlock s := by cases t <;> rfl

/-- A connection's restart touches no other. -/
theorem connOf_doe_setConn {t : Transport} (h : t ≠ .doe) (c : SpdmConn) (s : State) : connOf .doe (setConn t c s) = connOf .doe s := by
  cases t
  · exact absurd rfl h
  · rfl
  · rfl

/-! ### Requests (R540, R551 to R553) -/

theorem spdmServe_recovery {t : Transport} {k : State → State} {s : State} (hcore : s.pwr.corePg = true) (hsvc : s.sig.recoverySvc = true)
    (hrom : s.sig.stage = 0) : spdmServe t k s = spdmRefuse t 0x05 (countSpdm t s) := by
  simp [spdmServe, hcore, hsvc, hrom]

/-- The blocks that an index names: all of them, or one. -/
def measBody (s : State) (i : Nat) : Fields :=
  (if i = 0xFF then (List.range 16).map (· + 1) else [i]).flatMap (fun i => (1, i) :: measBlock s i)

theorem measBody_one {s : State} {i : Nat} (hi : i ≤ 16) : measBody s i = (1, i) :: measBlock s i := by
  rw [measBody, if_neg (by omega), List.flatMap_singleton]

section Served

variable {s : State} {t : Transport} (hcore : s.pwr.corePg = true) (hrom : s.sig.recoverySvc = false ∨ s.sig.stage ≠ 0)
include hcore hrom

theorem negotiateAlgorithms_refused {a b : Bool} (h : a = false ∨ b = false) :
    exec (.negotiateAlgorithms t a b) s = .next (spdmRefuse t 0x01 (countSpdm t s)) :=
  congrArg Host.Outcome.next ((spdmServe_serves hcore hrom).trans (if_neg (by simpa [or_iff_not_imp_left] using h)))

theorem getDigests_valid (hvalid : s.sig.certValid = true) : exec (.getDigests t) s =
    .next (useFree (send (.spdm t 0x01 [(1, 1), (48, leValue (sha384 (certChain s)))]) (countSpdm t s))) := by
  show Host.Outcome.next (spdmServe t _ s) = _
  rw [spdmServe_serves hcore hrom, certValid_countSpdm, hvalid, certChain_countSpdm]
  rfl

/-- The portion of the chain that a GET_CERTIFICATE of slot 0 asks for. -/
def chainPart (s : State) (off len : Nat) : List Nat := ((certChain s).drop off).take len

theorem getCertificate_valid (off len : Nat) (hvalid : s.sig.certValid = true) : exec (.getCertificate t 0 off len) s = .next (useFree
    (send (.spdm t 0x02 [(2, (chainPart s off len).length), ((chainPart s off len).length, leValue (chainPart s off len))]) (countSpdm t s))) := by
  show Host.Outcome.next (spdmServe t _ s) = _
  rw [spdmServe_serves hcore hrom, if_neg (not_not.2 rfl), certValid_countSpdm, hvalid, certChain_countSpdm]
  rfl

theorem otherSlot_refused {slot : Nat} (off len nonce : Nat) (hslot : slot ≠ 0) :
    exec (.getCertificate t slot off len) s = .next (spdmRefuse t 0x07 (countSpdm t s)) ∧
      exec (.challenge t slot nonce) s = .next (spdmRefuse t 0x07 (countSpdm t s)) :=
  ⟨congrArg Host.Outcome.next ((spdmServe_serves hcore hrom).trans (if_pos hslot)),
    congrArg Host.Outcome.next ((spdmServe_serves hcore hrom).trans (if_pos hslot))⟩

theorem challenge_signed (nonce : Nat) : exec (.challenge t 0 nonce) s =
    .next (send (.spdm t 0x03 [(32, nonce), (96, Config.observed s.free)]) (useFree (signOnce (countSpdm t s)))) := by
  rw [← free_countSpdm t s]
  exact congrArg Host.Outcome.next ((spdmServe_serves hcore hrom).trans (if_neg (not_not.2 rfl)))

theorem getMeasurements_count (nonce : Nat) (signed_ : Bool) :
    exec (.getMeasurements t 0 nonce signed_) s = .next (send (.spdm t 0x60 [(1, 16)]) (countSpdm t s)) :=
  congrArg Host.Outcome.next ((spdmServe_serves hcore hrom).trans (if_pos rfl))

theorem getMeasurements_noBlock {i : Nat} (nonce : Nat) (b : Bool) (hi : 16 < i) (hall : i ≠ 0xFF) :
    exec (.getMeasurements t i nonce b) s = .next (spdmRefuse t 0x01 (countSpdm t s)) :=
  congrArg Host.Outcome.next ((spdmServe_serves hcore hrom).trans ((if_neg (by omega)).trans (if_pos ⟨hall, hi⟩)))

theorem exec_getMeasurements {i : Nat} (nonce : Nat) (signed_ : Bool) (hpos : i ≠ 0) (hi : i ≤ 16 ∨ i = 0xFF) :
    exec (.getMeasurements t i nonce signed_) s = .next (if signed_ then send (.spdm t 0x60 (measBody s i ++
        [(32, nonce), (96, Config.observed s.free)])) (useFree (signOnce (countSpdm t s)))
      else send (.spdm t 0x60 (measBody s i)) (countSpdm t s)) := by
  show Host.Outcome.next (spdmServe t _ s) = _
  rw [spdmServe_serves hcore hrom]
  dsimp only
  rw [if_neg hpos, if_neg (by omega), measBlock_countSpdm, free_countSpdm]
  rfl

end Served

/-! ### The statement -/

/-- Settles O25: a clause for each request, served or under the recovery service, and what an ERROR and an abort do (R540, R550 to R553;
log 9, 72). -/
theorem spdmRequestsAnswered : Obligations.SpdmRequestsAnswered := by
  refine ⟨fun s t hcore hrom => ⟨?version, ?capabilities, ?algorithms, ?noAlgorithms, ?chain, ?otherSlot, ?challenge, ?measurements,
    ?ready, ?unsupported⟩, ?recovery, ?errors, ?connections, ?abort⟩
  case version => exact congrArg Host.Outcome.next (spdmServe_serves hcore hrom)
  case capabilities =>
    rw [← connOf_countSpdm t s]
    exact congrArg Host.Outcome.next (spdmServe_serves hcore hrom)
  case algorithms =>
    rw [← connOf_countSpdm t s]
    exact congrArg Host.Outcome.next (spdmServe_serves hcore hrom)
  case noAlgorithms => exact fun a b h => negotiateAlgorithms_refused hcore hrom h
  case chain => exact fun hvalid => ⟨getDigests_valid hcore hrom hvalid, fun off len => getCertificate_valid hcore hrom off len hvalid⟩
  case otherSlot => exact fun slot off len nonce hslot => otherSlot_refused hcore hrom off len nonce hslot
  case challenge => exact fun nonce => challenge_signed hcore hrom nonce
  case measurements =>
    intro nonce
    refine ⟨getMeasurements_count hcore hrom nonce false, exec_getMeasurements hcore hrom nonce false (by decide) (.inr rfl),
      fun i h1 h16 => ?_, fun i b hi hall => getMeasurements_noBlock hcore hrom nonce b hi hall⟩
    rw [exec_getMeasurements hcore hrom nonce false (by omega) (.inl h16), measBody_one h16]
    rfl
  case ready =>
    rw [← free_countSpdm t s]
    exact congrArg Host.Outcome.next (spdmServe_serves hcore hrom)
  case unsupported => exact congrArg Host.Outcome.next (spdmServe_serves hcore hrom)
  case recovery =>
    exact fun s t hcore hsvc hrom => ⟨congrArg Host.Outcome.next (spdmServe_recovery hcore hsvc hrom),
      congrArg Host.Outcome.next (spdmServe_recovery hcore hsvc hrom)⟩
  case errors =>
    exact fun s t code => ⟨_, rfl, rfl, rfl, rfl, fr (spdmRefuse_keeps t code (m := 0x300200) (by decide) (Keeps.refl _ s)) (by decide)⟩
  case connections => exact fun s t h => connOf_doe_setConn h {} s
  case abort => exact fun s => rfl

end Sys2Proof.Machine
end

section
/-!
PROOFS. The background, vendor, array and SPDM commands complete with their own effect: the equations that were still missing, and the
statement.
-/

namespace Sys2Proof.Machine

/-! ### The vendor commands of the power states and of the vault (R130, R302, R567, R569, R572) -/

section VendorCommands

variable {s : State} {via : Via}

/-- RELEASE_RANGE is no command of the MCTP CCI. -/
theorem releaseRange_primary (h : VendorServes via [.restore, .service, .test] false false s) : via = .primary := by
  obtain ⟨-, -, -, hvia, -⟩ := h
  cases via with
  | primary => rfl
  | mctp => exact absurd (hvia rfl).1 (by decide)

variable (hserves : VendorServes via [.service] true true s)
include hserves

theorem exec_setPowerStateP0 : exec (.setPowerStateP0 via) s = .next (
    if (learnDisqualify 0x06 (bgStart via 0xC008 s)).pwr.pstate ≠ 2 then powerDone 0 (learnDisqualify 0x06 (bgStart via 0xC008 s))
    else exitDone ((maskDomains 0xFF).foldl (fun u d => wakeDomain d u) { learnDisqualify 0x06 (bgStart via 0xC008 s) with
      pwr := { (learnDisqualify 0x06 (bgStart via 0xC008 s)).pwr with entry := 3, target := 0 } })) :=
  congrArg Host.Outcome.next (vendor_serves hserves)

theorem exec_setPowerStateP2 : exec (.setPowerStateP2 via) s = .next (if (bgStart via 0xC008 s).pwr.pstate = 2 then
      powerDone 2 (bgStart via 0xC008 s)
    else learnDisqualify 0x06 { bgStart via 0xC008 s with pwr := { (bgStart via 0xC008 s).pwr with
      entry := 1, target := 2, entryStep := 1, entryVia := via, refuser := 0xFF, refuseCause := 0 } }) :=
  congrArg Host.Outcome.next (vendor_serves hserves)

theorem exec_setPowerStateP3 : exec (.setPowerStateP3 via) s = .next (settle (cmdStart 0xC008 (fun _ => true)
    (wakeScope 6 (fun _ => true) (learnDisqualify 0x06 (bgStart via 0xC008 s))))) :=
  congrArg Host.Outcome.next (vendor_serves hserves)

end VendorCommands

/-! ### A takeover of a device in SOLO (R397, R398) -/

/-- The witness is asked; FORCE_TAKEOVER where it is accepted now. -/
theorem takeover_asks {s : State} {via : Via} {force : Bool} {c : Instr} (hserves : VendorServes via [.restore, .service] (!force) true s)
    (hc : force = false ∧ c = .takeover via ∨ force = true ∧ c = .forceTakeover via 0x4F4B5446) (hsolo : s.kor.state = .solo)
    (hcause : s.kor.soloCause ≠ 6) (hok : force = true → forceOk (takeoverStarted via force s) = true) :
    exec c s = .next (askWitness .takeover { takeoverStarted via force s with
      kor := { (takeoverStarted via force s).kor with takeover := some ⟨via, force, 1, 0⟩ } }) := by
  have hkor : (takeoverStarted via force s).kor = s.kor := by cases force <;> rfl
  rw [exec_takeover hserves hc, takeoverRun_solo (by rw [hkor, hsolo]) (by rw [hkor]; exact hcause), if_neg]
  rintro ⟨hforce, hnot⟩
  simp [hok hforce] at hnot

/-! ### The discovery and CDAT requests (R133) -/

section Doe

variable {s : State} (hpresented : s.hlk.presented = true)
include hpresented

/-- Three protocols are listed; another index is answered as none. -/
theorem exec_doeDiscovery (i : Nat) : exec (.doeDiscovery i) s = .next (send (.doe (
    if i = 0 then [(2, 0x0001), (1, 0), (1, 1)] else if i = 1 then [(2, 0x0001), (1, 1), (1, 2)]
    else if i = 2 then [(2, 0x1E98), (1, 2), (1, 0)] else [(2, 0xFFFF), (1, 0xFF), (1, 0)])) s) := by
  match i with
  | 0 => exact exec_doe hpresented rfl
  | 1 => exact exec_doe hpresented rfl
  | 2 => exact exec_doe hpresented rfl
  | i + 3 =>
    rw [if_neg (by omega), if_neg (by omega), if_neg (by omega)]
    exact exec_doe hpresented rfl

/-- Four entries follow the sequence number; another is answered with that number alone. -/
theorem exec_cdatRead (i : Nat) : exec (.cdatRead i) s = .next (send (.doe ((4, s.hlk.cdatSeq) :: (
    if i = 0 then [(8, 0), (8, hdmGranules s * 16384), (1, 1)] else if i = 1 then [(4, 180)]
    else if i = 2 then [(4, 28000), (4, 28000)] else if i = 3 then [(4, s.hlk.cdatLatency)] else []))) s) := by
  match i with
  | 0 => exact exec_doe hpresented rfl
  | 1 => exact exec_doe hpresented rfl
  | 2 => exact exec_doe hpresented rfl
  | 3 => exact exec_doe hpresented rfl
  | i + 4 =>
    rw [if_neg (by omega), if_neg (by omega), if_neg (by omega), if_neg (by omega)]
    exact exec_doe hpresented rfl

end Doe

/-! ### A rolling update (R425) -/

theorem exec_rollUpdate {s : State} {via : Via} {mask : Nat} (hserves : VendorServes via runningModes true true s)
    (hhead : s.cwy.isHead = true) (hsome : addressed s mask ≠ []) : exec (.rollUpdate via mask) s = .next (updateLoop 64
      (bgStart via 0xC00D { s with cwy := { s.cwy with
        array := some ⟨via, 3, [], [], addressed s mask, mask⟩, updState := 1, failId := 0, updated := 0 } })) :=
  congrArg Host.Outcome.next ((arrayBegin_head hserves _ hhead).trans (if_neg (by simpa using hsome)))

/-! ### The SPDM answers of the certificate chain, valid or not (R552) -/

section Spdm

variable {s : State} {t : Transport} (hcore : s.pwr.corePg = true) (hrom : s.sig.recoverySvc = false ∨ s.sig.stage ≠ 0)
include hcore hrom

theorem exec_getDigests : exec (.getDigests t) s = .next (send (.spdm t 0x01 [(1, 1), (48, if (countSpdm t s).sig.certValid then
    leValue (sha384 (certChain (countSpdm t s))) else Config.observed (countSpdm t s).free)]) (useFree (countSpdm t s))) :=
  congrArg Host.Outcome.next (spdmServe_serves hcore hrom)

theorem exec_getCertificate (off len : Nat) : exec (.getCertificate t 0 off len) s = .next (send (.spdm t 0x02
    [(2, (chainPart (countSpdm t s) off len).length), ((chainPart (countSpdm t s) off len).length, if (countSpdm t s).sig.certValid then
      leValue (chainPart (countSpdm t s) off len) else Config.observed (countSpdm t s).free)]) (useFree (countSpdm t s))) :=
  congrArg Host.Outcome.next ((spdmServe_serves hcore hrom).trans (if_neg (not_not.2 rfl)))

end Spdm

/-! ### The statement -/

/-- Settles O54: one equation for each command, cited by name (R127, R129, R133, R183, R224, R240, R269, R418, R550, R556, R571; log 9, 43,
74). -/
theorem completeMailboxAndArray : Obligations.CompleteMailboxAndArray := by
  unfold Obligations.CompleteMailboxAndArray
  refine ⟨?activate, ?getTimestamp, ?setTimestamp, ?unsupported, ?regionState, ?release, ?shadow, ?barrier, ?barrierRegion, ?park, ?unpark,
    ?takeover, ?force, ?p0, ?p2, ?p3, ?learning, ?calibration, ?vaultInfo, ?retry, ?status, ?arrayBarrier, ?roll, ?unknown, ?rollTimeout,
    ?discovery, ?cdat, ?version, ?capabilities, ?algorithms, ?digests, ?certificate, ?challenge, ?count, ?all, ?signed⟩
  case activate =>
    rintro s via _ hserves hdump rfl hheld hquag
    exact activateFw_activates via hserves hdump hheld hquag
  case getTimestamp => exact fun s via hserves hdump => exec_getTimestamp via hserves hdump
  case setTimestamp => exact fun s via v hserves hdump => congrArg Host.Outcome.next (standard_outsideDump via hserves hdump)
  case unsupported => exact fun s via op hserves hdump hop => exec_unsupportedOpcode via hserves hdump (by simpa using hop)
  case regionState => exact fun s via r hserves hr => (exec_regionStateQuery r hserves).trans (congrArg Host.Outcome.next (if_pos hr))
  case release =>
    intro s via dpa len r waits t hserves hrange ht
    obtain rfl := releaseRange_primary hserves
    have hreleased := exec_releaseRange (p := (waits, t)) hserves hrange rfl rfl ht
    exact hreleased
  case shadow => exact fun s via dpa len r hserves hrange => shadowRange_starts via hserves hrange
  case barrier => exact fun s via hserves => barrier_device hserves
  case barrierRegion => exact fun s via r hserves hdef => barrier_region hserves hdef
  case park => exact fun s via hserves hmet => park_commits hserves hmet
  case unpark =>
    rintro s via _ _ hserves rfl rfl
    exact congrArg Host.Outcome.next (vendor_serves hserves)
  case takeover => exact fun s via hserves hsolo hcause => takeover_asks (force := false) hserves (.inl ⟨rfl, rfl⟩) hsolo hcause nofun
  case force =>
    exact fun s via hserves hsolo hcause hok => takeover_asks (force := true) hserves (.inr ⟨rfl, rfl⟩) hsolo hcause fun _ => hok
  case p0 => exact fun s via u hserves hu => hu ▸ exec_setPowerStateP0 hserves
  case p2 => exact fun s via u hserves hu => hu ▸ exec_setPowerStateP2 hserves
  case p3 => exact fun s via hserves => exec_setPowerStateP3 hserves
  case learning => exact fun s via hserves h1 h2 => startLearning_begins hserves h1 h2
  case calibration => exact fun s via hserves hmet => calibrationDump_commits hserves hmet
  case vaultInfo => exact fun s via hserves => congrArg Host.Outcome.next (vendor_serves hserves)
  case retry =>
    rintro s via dpa _ p hserves hrange hstate rfl hpage hplain hpasses
    obtain ⟨r, hr⟩ := Sum.isLeft_iff.1 hrange
    exact retryGranule_rebuilt hserves hr hstate hpage hplain hpasses
  case status => exact fun s via mask hserves hhead => congrArg Host.Outcome.next (arrayBegin_head hserves _ hhead)
  case arrayBarrier => exact fun s via mask hserves hhead => congrArg Host.Outcome.next (arrayBegin_head hserves _ hhead)
  case roll => exact fun s via mask hserves hhead hsome => exec_rollUpdate hserves hhead hsome
  case unknown => exact fun s via hserves hhead => congrArg Host.Outcome.next (arrayBegin_head hserves _ hhead)
  case rollTimeout => exact fun s m => rfl
  case discovery => exact fun s i hpresented => exec_doeDiscovery hpresented i
  case cdat => exact fun s i hpresented => exec_cdatRead hpresented i
  case version => exact fun s t hcore hrom => congrArg Host.Outcome.next (spdmServe_serves hcore hrom)
  case capabilities => exact fun s t hcore hrom => congrArg Host.Outcome.next (spdmServe_serves hcore hrom)
  case algorithms => exact fun s t hcore hrom => congrArg Host.Outcome.next (spdmServe_serves hcore hrom)
  case digests => exact fun s t hcore hrom => exec_getDigests hcore hrom
  case certificate => exact fun s t off len hcore hrom => exec_getCertificate hcore hrom off len
  case challenge =>
    intro s t nonce hcore hrom
    rw [free_countSpdm]
    exact challenge_signed hcore hrom nonce
  case count => exact fun s t nonce b hcore hrom => getMeasurements_count hcore hrom nonce b
  case all =>
    intro s t nonce hcore hrom
    rw [measBlock_countSpdm]
    exact exec_getMeasurements hcore hrom nonce false (by decide) (.inr rfl)
  case signed =>
    intro s t i nonce hcore hrom h1 h16
    rw [measBlock_countSpdm, free_countSpdm, exec_getMeasurements hcore hrom nonce true (by omega) (.inl h16), measBody_one h16]
    rfl

end Sys2Proof.Machine
end

section
/-!
PROOFS. Signets, boot stages and the commit of the thermometers (R541 to R549): what each does to the SIG's registers and to the Bog-oak row,
and the statement.
-/

namespace Sys2Proof.Machine

/-- What a command's operation keeps is so of the state it answers. -/
theorem keeps_of_run {m : Nat} {r : Result} {s t : State} (h : r = .next t) (hkeeps : Keeps m s (run r s)) : Keeps m s t := by
  subst h
  exact hkeeps

/-- A write of the SIG alone. -/
theorem keeps_sig {s : State} (x : Sig) : Keeps 0x200 s { s with sig := x } :=
  (Keeps.refl _ s).direct (fun p hp => by cases p <;> simp_all [Part.bit, Part.same])

theorem dropHalf_sig (p : Path) (s : State) : (dropHalf p s).sig = s.sig :=
  (dropHalf_keeps p (m := 0x10001) (by decide) (Keeps.refl _ s)).sigEq (by decide)

/-! ### Extending a Signet (R541, R542) -/

section Extend

variable {s : State} {path : Path} {reg : Nat}

theorem signetOf_extendSignet {i : Nat} (hi : i < s.sig.signets.length) (v : List Nat) (j : Nat) : signetOf (extendSignet i v s) j =
    if j = i then ⟨sha384Digest (digestBytes (signetOf s i).value ++ v), wrapAdd 32 (signetOf s i).count 1⟩ else signetOf s j := by
  simp only [signetOf, extendSignet, List.getD_eq_getElem?_getD, List.getElem?_modify]
  by_cases hj : j = i
  · subst hj
    simp [hi]
  · simp [hj, Ne.symm hj]

/-- Noting a measured digest writes no Signet. -/
theorem noteDigest_sig (i : Nat) (v : List Nat) (s : State) :
    (noteDigest i v s).sig = { s.sig with digests := (noteDigest i v s).sig.digests } := by
  unfold noteDigest
  dsimp only
  split_ifs <;> rfl

theorem noteDigest_raised (i : Nat) (v : List Nat) (s : State) : (noteDigest i v s).raised = s.raised := by
  unfold noteDigest
  dsimp only
  split_ifs <;> rfl

/-- The event of an extend: firmware's own register, or a boot stage's. -/
def extendEvent (i : Nat) (v : List Nat) (s : State) : Event :=
  if i = 7 then ⟨0x0F07, 0x0B, [(4, (signetOf s 7).count)]⟩ else ⟨0x0F02, 0x0B, [(1, i), (8, leValue (v.take 8))]⟩

/-- The state in which the current stage has extended register `i`. -/
def extended (i : Nat) (s : State) : State :=
  noteDigest i (extValue s) (extendSignet i (extValue s) { s with sig := { s.sig with extReg := i } })

theorem extend_accepted (hstage : stageWrites s.sig.stage (reg % 8) = true) : exec (.extend .firmware reg) s = .next (dropHalf .firmware
    { extended (reg % 8) s with raised := (extended (reg % 8) s).raised ++ [extendEvent (reg % 8) (extValue s) (extended (reg % 8) s)] }) := by
  have hwrites : ¬ (Path.firmware ≠ .firmware ∨ (!stageWrites s.sig.stage (reg % 8)) = true) := by simp [hstage]
  show Host.Outcome.next (dropHalf .firmware (if Path.firmware ≠ .firmware ∨ (!stageWrites s.sig.stage (reg % 8)) = true then _ else _)) = _
  rw [if_neg hwrites]
  unfold extendEvent
  split_ifs <;> rfl

theorem extend_refused (h : path ≠ .firmware ∨ stageWrites s.sig.stage (reg % 8) = false) :
    exec (.extend path reg) s = .next (dropHalf path { s with sig := { s.sig with
      extReg := reg % 8, extRefused := satAdd 8 s.sig.extRefused 1 } }) :=
  congrArg (fun t => Host.Outcome.next (dropHalf path t)) (if_pos (by simpa using h))

theorem signetOf_extended {i : Nat} (hi : i < s.sig.signets.length) (j : Nat) : signetOf (extended i s) j =
    if j = i then ⟨sha384Digest (digestBytes (signetOf s i).value ++ extValue s), wrapAdd 32 (signetOf s i).count 1⟩
    else signetOf s j := by
  rw [extended, signetOf, noteDigest_sig]
  exact signetOf_extendSignet (s := { s with sig := { s.sig with extReg := i } }) hi (extValue s) j

end Extend

/-! ### The stages (R544, R547 to R549) -/

section Advance

variable {s : State} {path : Path} (certOk : Bool)

theorem advance_fromRom (hstage : s.sig.stage = 0) : exec (.advance .firmware certOk) s = .next (dropHalf .firmware
    { sealDevId certOk s with sig := { (sealDevId certOk s).sig with stage := 1 } }) :=
  congrArg (fun t => Host.Outcome.next (dropHalf .firmware t)) ((if_neg (not_not.2 rfl)).trans (if_pos hstage))

theorem advance_fromLoader (hstage : s.sig.stage = 1) : exec (.advance .firmware certOk) s =
    .next (dropHalf .firmware { s with sig := { s.sig with stage := 2 } }) :=
  congrArg (fun t => Host.Outcome.next (dropHalf .firmware t))
    ((if_neg (not_not.2 rfl)).trans ((if_neg (by omega)).trans (if_pos hstage)))

theorem advance_ignored (h : path ≠ .firmware ∨ 2 ≤ s.sig.stage) : exec (.advance path certOk) s = .next (dropHalf path s) := by
  refine congrArg (fun t => Host.Outcome.next (dropHalf path t)) ?_
  by_cases hpath : path ≠ .firmware
  · exact if_pos hpath
  · have hstage := h.resolve_left hpath
    rw [if_neg hpath, if_neg (by omega), if_neg (by omega)]

/-- The ROM stage's end: the DeviceID key sealed and erased, the identity key and its certificate, and the chain's verdict. -/
theorem sealDevId_sig : (sealDevId certOk s).sig = { s.sig with
    devidSealed := true, certValid := certOk, devidKey := none, identKey := some (identityKey s)
    identCert := some ⟨ecPublic (identityKey s), bogRaw s 0, s.sig.digests.getD 2 0, arbLoader s, ecPublic (deviceKey s)⟩ } := by
  cases certOk <;> rfl

theorem sealDevId_raised : (sealDevId certOk s).raised = s.raised ++ (if certOk then [] else [⟨0x0F09, 0x0B, []⟩]) := by
  cases certOk
  · rfl
  · exact (List.append_nil _).symm

end Advance

/-! ### The thermometers (R510, R511, R546) -/

section Thermometers

variable {s : State}

/-- The three copies gain the missing bits, and no other word changes. -/
theorem bogRaw_raiseThermo (g n w : Nat) :
    bogRaw (raiseThermo g n s) w = bogRaw s w ||| (if g ≤ w ∧ w < g + 3 then 2 ^ n - 1 else 0) := by
  simp only [bogRaw, raiseThermo, List.foldl, tget_tput]
  rcases Nat.lt_or_ge w g with h | h
  · rw [if_neg (by omega), if_neg (by omega), if_neg (by omega), if_neg (by omega), Nat.or_zero]
  rcases Nat.lt_or_ge w (g + 3) with h3 | h3
  · obtain rfl | rfl | rfl : w = g ∨ w = g + 1 ∨ w = g + 2 := by omega
    · simp
    · simp
    · simp
  · rw [if_neg (by omega), if_neg (by omega), if_neg (by omega), if_neg (by omega), Nat.or_zero]

/-- The bits that a commit of a thermometer programs into a word. -/
def programmedBits (s : State) (g n w : Nat) : Nat := if (g ≤ w ∧ w < g + 3) ∧ thermCount (thermWord s g) < n then 2 ^ n - 1 else 0

theorem bogRaw_commitThermo (g n w : Nat) : bogRaw (commitThermo g n s) w = bogRaw s w ||| programmedBits s g n w := by
  rw [commitThermo, programmedBits]
  by_cases hn : n ≤ thermCount (thermWord s g)
  · rw [if_pos hn, if_neg (by omega), Nat.or_zero]
  · have hraise : bogRaw (raise 0x0D08 0x0A [(1, g)] (raiseThermo g n s)) w = bogRaw (raiseThermo g n s) w := rfl
    rw [if_neg hn, hraise, bogRaw_raiseThermo]
    simp only [Nat.not_le.1 hn, and_true]

/-- The event of a thermometer that was programmed. -/
theorem commitThermo_raised (g n : Nat) : (commitThermo g n s).raised =
    s.raised ++ (if thermCount (thermWord s g) < n then [⟨0x0D08, 0x0A, [(1, g)]⟩] else []) := by
  rw [commitThermo]
  by_cases hn : n ≤ thermCount (thermWord s g)
  · rw [if_pos hn, if_neg (Nat.not_lt.2 hn), List.append_nil]
  · rw [if_neg hn, if_pos (Nat.not_le.1 hn)]
    rfl

/-- A thermometer of another group is as it was. -/
theorem thermWord_commitThermo {g h : Nat} (n : Nat) (hgh : g + 3 ≤ h ∨ h + 3 ≤ g) : thermWord (commitThermo g n s) h = thermWord s h := by
  have hword : ∀ w, h ≤ w → w < h + 3 → bogRaw (commitThermo g n s) w = bogRaw s w := fun w h1 h2 => by
    rw [bogRaw_commitThermo, programmedBits, if_neg (by omega), Nat.or_zero]
  rw [thermWord, hword h (by omega) (by omega), hword (h + 1) (by omega) (by omega), hword (h + 2) (by omega) (by omega), ← thermWord]

end Thermometers

/-! ### The commit (R546) -/

section Commit

variable {s : State} {path : Path}

/-- COMMIT has been asked for: its last refusal is cleared. -/
def commitAsked (s : State) : State := { s with sig := { s.sig with commitRefused := false } }

/-- Every thermometer programmed up to its active version. -/
def thermosCommitted (s : State) : State :=
  commitThermo 18 s.sig.imgArb (commitThermo 15 s.sig.fwArb (commitThermo 12 s.sig.ldrArb (commitAsked s)))

/-- The event that ends a commit, granted or not. -/
def commitEvent (s : State) : Event := ⟨0x0F04, 0x0B, [(1, arbLoader s), (1, arbFirmware s), (1, arbImage s)]⟩

theorem commit_granted (hfirmware : path ≠ .firmware) (harray : path ≠ .array) (hmode : s.spn.mode = .service) (hquag : s.nrg.quagOk = true) :
    exec (.commit path) s = .next (dropHalf path { thermosCommitted s with
      raised := (thermosCommitted s).raised ++ [commitEvent (thermosCommitted s)] }) :=
  congrArg (fun t => Host.Outcome.next (dropHalf path t)) ((if_neg (by simp [hfirmware, harray])).trans (if_pos ⟨hmode, hquag⟩))

theorem commit_refused (hfirmware : path ≠ .firmware) (harray : path ≠ .array) (h : s.spn.mode ≠ .service ∨ s.nrg.quagOk = false) :
    exec (.commit path) s = .next (dropHalf path { s with
      sig := { s.sig with commitRefused := true }, raised := s.raised ++ [commitEvent (commitAsked s)] }) := by
  have hnot : ¬ (s.spn.mode = .service ∧ s.nrg.quagOk = true) := fun ⟨hm, hq⟩ => h.elim (fun g => g hm) (fun g => by simp [g] at hq)
  exact congrArg (fun t => Host.Outcome.next (dropHalf path t)) ((if_neg (by simp [hfirmware, harray])).trans (if_neg hnot))

theorem thermosCommitted_sig (s : State) : (thermosCommitted s).sig = { s.sig with commitRefused := false } := by
  have hkeeps : Keeps 0x2100000 (commitAsked s) (thermosCommitted s) := commitThermo_keeps _ _ (by decide)
    (commitThermo_keeps _ _ (by decide) (commitThermo_keeps _ _ (by decide) (Keeps.refl _ _)))
  exact hkeeps.sigEq (by decide)

/-- Each word gains the bits of its own thermometer, by the counts before the commit. -/
theorem bogRaw_thermosCommitted (s : State) (w : Nat) : bogRaw (thermosCommitted s) w = bogRaw s w |||
    (if 12 ≤ w ∧ w < 15 ∧ arbLoader s < s.sig.ldrArb then 2 ^ s.sig.ldrArb - 1
      else if 15 ≤ w ∧ w < 18 ∧ arbFirmware s < s.sig.fwArb then 2 ^ s.sig.fwArb - 1
      else if 18 ≤ w ∧ w < 21 ∧ arbImage s < s.sig.imgArb then 2 ^ s.sig.imgArb - 1 else 0) := by
  have hasked : bogRaw (commitAsked s) w = bogRaw s w := rfl
  have hl : thermCount (thermWord (commitAsked s) 12) = arbLoader s := rfl
  have hf : thermCount (thermWord (commitAsked s) 15) = arbFirmware s := rfl
  have hi : thermCount (thermWord (commitAsked s) 18) = arbImage s := rfl
  simp only [thermosCommitted, bogRaw_commitThermo, programmedBits, thermWord_commitThermo _ (g := 12) (h := 15) (by decide),
    thermWord_commitThermo _ (g := 15) (h := 18) (by decide), thermWord_commitThermo _ (g := 12) (h := 18) (by decide), hasked, hl, hf, hi]
  rcases Nat.lt_or_ge w 15 with h15 | h15
  · simp [h15, Nat.not_le.2 h15, show ¬ 18 ≤ w by omega]
  rcases Nat.lt_or_ge w 18 with h18 | h18
  · simp [h15, h18, Nat.not_le.2 h18, Nat.not_lt.2 h15]
  · simp [h18, Nat.not_lt.2 h18, Nat.not_lt.2 h15]

theorem thermosCommitted_raised (s : State) : (thermosCommitted s).raised = s.raised ++
    ((if arbLoader s < s.sig.ldrArb then [⟨0x0D08, 0x0A, [(1, 12)]⟩] else []) ++
      (if arbFirmware s < s.sig.fwArb then [⟨0x0D08, 0x0A, [(1, 15)]⟩] else []) ++
      (if arbImage s < s.sig.imgArb then [⟨0x0D08, 0x0A, [(1, 18)]⟩] else [])) := by
  rw [thermosCommitted, commitThermo_raised, commitThermo_raised, commitThermo_raised, thermWord_commitThermo _ (by decide),
    thermWord_commitThermo _ (by decide), thermWord_commitThermo _ (by decide)]
  simp only [List.append_assoc]
  rfl

end Commit

/-! ### The statement -/

/-- The stage after each of the three, in every case. -/
theorem stage_not_lowered {s : State} {path : Path} {reg : Nat} {certOk : Bool} {c : Instr}
    (hc : c = .extend path reg ∨ c = .advance path certOk ∨ c = .commit path) :
    ∃ t, exec c s = .next t ∧ (s.sig.stage ≤ 2 → s.sig.stage ≤ t.sig.stage ∧ t.sig.stage ≤ 2) := by
  have hsame : ∀ t : State, t.sig.stage = s.sig.stage → (s.sig.stage ≤ 2 → s.sig.stage ≤ t.sig.stage ∧ t.sig.stage ≤ 2) :=
    fun t ht h => by omega
  rcases hc with rfl | rfl | rfl
  · by_cases hwrites : path ≠ .firmware ∨ stageWrites s.sig.stage (reg % 8) = false
    · exact ⟨_, extend_refused hwrites, hsame _ (by rw [dropHalf_sig])⟩
    · obtain ⟨rfl, hstage⟩ : path = .firmware ∧ stageWrites s.sig.stage (reg % 8) = true := by simpa using hwrites
      refine ⟨_, extend_accepted hstage, hsame _ ?_⟩
      rw [dropHalf_sig]
      show (extended (reg % 8) s).sig.stage = _
      rw [extended, noteDigest_sig]
      rfl
  · by_cases hpath : path ≠ .firmware ∨ 2 ≤ s.sig.stage
    · exact ⟨_, advance_ignored certOk hpath, hsame _ (by rw [dropHalf_sig])⟩
    · obtain ⟨rfl, hstage⟩ : path = .firmware ∧ s.sig.stage < 2 := by simpa using hpath
      obtain hrom | hloader : s.sig.stage = 0 ∨ s.sig.stage = 1 := by omega
      · refine ⟨_, advance_fromRom certOk hrom, fun _ => ?_⟩
        rw [dropHalf_sig, hrom]
        exact ⟨Nat.zero_le _, (Nat.le_succ 1 : 1 ≤ 2)⟩
      · refine ⟨_, advance_fromLoader certOk hloader, fun _ => ?_⟩
        rw [dropHalf_sig, hloader]
        exact ⟨(Nat.le_succ 1 : 1 ≤ 2), Nat.le_refl 2⟩
  · by_cases hpath : path = .firmware ∨ path = .array
    · have hignored : exec (.commit path) s = .next (dropHalf path s) :=
        congrArg (fun t => Host.Outcome.next (dropHalf path t)) (if_pos hpath)
      exact ⟨_, hignored, hsame _ (by rw [dropHalf_sig])⟩
    · obtain ⟨hfirmware, harray⟩ := not_or.1 hpath
      by_cases hmode : s.spn.mode = .service ∧ s.nrg.quagOk = true
      · refine ⟨_, commit_granted hfirmware harray hmode.1 hmode.2, hsame _ ?_⟩
        rw [dropHalf_sig]
        show (thermosCommitted s).sig.stage = _
        rw [thermosCommitted_sig]
      · have hnot : s.spn.mode ≠ .service ∨ s.nrg.quagOk = false := by simpa [or_iff_not_imp_left] using hmode
        exact ⟨_, commit_refused hfirmware harray hnot, hsame _ (by rw [dropHalf_sig])⟩

/-- Settles O26: the extends, the stages and the commit, granted and refused (R541, R542, R544, R546, R548, R549; log 139). -/
theorem signetsStagesAndCommit : Obligations.SignetsStagesAndCommit := by
  refine ⟨?extend, fun s path reg h => extend_refused h, ?fromRom, fun s certOk h => advance_fromLoader certOk h,
    fun s path certOk h => advance_ignored certOk h, fun s path reg certOk c hc => stage_not_lowered hc, ?granted, ?refused⟩
  case extend =>
    intro s reg hlength hstage
    have hreg : reg % 8 < s.sig.signets.length := by omega
    have hsignet : ∀ i, signetOf (dropHalf .firmware { extended (reg % 8) s with raised := (extended (reg % 8) s).raised ++
        [extendEvent (reg % 8) (extValue s) (extended (reg % 8) s)] }) i = signetOf (extended (reg % 8) s) i :=
      fun i => by rw [signetOf, dropHalf_sig]; rfl
    have hsig : (extended (reg % 8) s).sig.stage = s.sig.stage ∧ (extended (reg % 8) s).sig.extRefused = s.sig.extRefused := by
      rw [extended, noteDigest_sig]
      exact ⟨rfl, rfl⟩
    have hraised : (extended (reg % 8) s).raised = s.raised := noteDigest_raised _ _ _
    refine ⟨_, extend_accepted hstage, ?_, fun i hi => ?_, ?_, ?_, ?_, ?_⟩
    · rw [hsignet, signetOf_extended hreg, if_pos rfl]
    · rw [hsignet, signetOf_extended hreg, if_neg hi]
    · rw [dropHalf_sig]
      exact hsig.1
    · rw [dropHalf_sig]
      exact hsig.2
    · rw [dropHalf_raised, hraised, List.drop_left]
      unfold extendEvent
      split_ifs <;> rfl
    · exact fr (keeps_of_run (extend_accepted hstage) (execExtend_keeps .firmware reg (m := 0x110201) (by decide) (Keeps.refl _ s))) (by decide)
  case fromRom =>
    intro s certOk hstage
    refine ⟨_, advance_fromRom certOk hstage, ?_, ?_, ?_⟩
    · rw [dropHalf_sig]
      show ({ (sealDevId certOk s).sig with stage := 1 } : Sig) = _
      rw [sealDevId_sig]
    · rw [dropHalf_raised]
      exact sealDevId_raised certOk
    · exact fr (keeps_of_run (advance_fromRom certOk hstage) (execAdvance_keeps .firmware certOk (m := 0x110201) (by decide) (Keeps.refl _ s))) (by decide)
  case granted =>
    intro s path hfirmware harray hmode hquag
    have hbog : ∀ w, bogRaw (dropHalf path { thermosCommitted s with
        raised := (thermosCommitted s).raised ++ [commitEvent (thermosCommitted s)] }) w = bogRaw (thermosCommitted s) w :=
      fun w => by rw [bogRaw, dropHalf_ifc]; rfl
    refine ⟨_, commit_granted hfirmware harray hmode hquag, fun w => ?_, ?_, ?_, ?_⟩
    · rw [hbog, bogRaw_thermosCommitted]
    · rw [dropHalf_sig]
      show (thermosCommitted s).sig.commitRefused = false
      rw [thermosCommitted_sig]
    · have hcounts : ∀ t : State, t.ifc = (thermosCommitted s).ifc →
          commitEvent (thermosCommitted s) = ⟨0x0F04, 0x0B, [(1, arbLoader t), (1, arbFirmware t), (1, arbImage t)]⟩ := by
        intro t ht
        simp only [commitEvent, arbLoader, arbFirmware, arbImage, thermWord, bogRaw, ht]
      rw [dropHalf_raised, thermosCommitted_raised, List.append_assoc s.raised, List.drop_left]
      exact congrArg (_ ++ [·]) (hcounts _ (dropHalf_ifc path _))
    · exact fr (keeps_of_run (commit_granted hfirmware harray hmode hquag) (execCommit_keeps path (m := 0x2110201) (by decide) (Keeps.refl _ s))) (by decide)
  case refused =>
    intro s path hfirmware harray h
    refine ⟨_, commit_refused hfirmware harray h, ?_, ?_, ?_, ?_⟩
    · rw [dropHalf_sig]
    · rw [dropHalf_ifc]
    · rw [dropHalf_raised, List.drop_left]
      rfl
    · have hevent : Keeps 0x110201 s { s with
          sig := { s.sig with commitRefused := true }, raised := s.raised ++ [commitEvent (commitAsked s)] } :=
        raise_keeps 0x0F04 0x0B (commitEvent (commitAsked s)).detail (m := 0x110201) (by decide) ((keeps_sig { s.sig with commitRefused := true }).mono (by decide))
      exact fr (dropHalf_keeps path (m := 0x110201) (by decide) hevent) (by decide)

end Sys2Proof.Machine
end

section
/-!
PROOFS. Rails, straps, clocks and resets (R37, R44, R560, R580 to R585, R607, R614, R617): what a loss of the core domains and their start
leave, the power registers of a wake replay, and the statements about them.
-/

namespace Sys2Proof.Machine

/-! ### The power registers of a replay and of a P2 rollback (R568, R576) -/

theorem setPstate_pwr (p cause : Nat) (s : State) : (setPstate p cause s).pwr = { s.pwr with pstate := p } := by
  rw [setPstate]
  split_ifs with h
  · rw [← h]
  · rfl

theorem wakeDomain_pwr (d : Nat) (s : State) : (wakeDomain d s).pwr = { s.pwr with
    down := (wakeDomain d s).pwr.down, waking := (wakeDomain d s).pwr.waking, wakes := (wakeDomain d s).pwr.wakes } := by
  rw [wakeDomain]
  split_ifs <;> rfl

theorem wakeDomains_pwr (l : List Nat) : ∀ s : State, (l.foldl (fun t d => wakeDomain d t) s).pwr = { s.pwr with
    down := (l.foldl (fun t d => wakeDomain d t) s).pwr.down, waking := (l.foldl (fun t d => wakeDomain d t) s).pwr.waking
    wakes := (l.foldl (fun t d => wakeDomain d t) s).pwr.wakes } := by
  induction l with
  | nil => exact fun s => rfl
  | cons d l ih =>
    intro s
    rw [List.foldl_cons, ih, wakeDomain_pwr]

theorem replayWake_pwr (s : State) : (replayWake s).pwr = { s.pwr with
    down := (replayWake s).pwr.down, waking := (replayWake s).pwr.waking, wakes := (replayWake s).pwr.wakes
    replayed := (replayWake s).pwr.replayed } := by
  rw [replayWake]
  dsimp only
  split_ifs
  · rfl
  · show ({ (List.foldl (fun t d => wakeDomain d t) s _).pwr with replayed := _ } : Pwr) = _
    rw [wakeDomains_pwr]
    rfl

/-- Two sets of power registers differ at most in the sequence of power states and in the state of the domains. -/
def DomainsOnly (p q : Pwr) : Prop := q = { p with
  entry := q.entry, entryStep := q.entryStep, target := q.target, pstate := q.pstate, down := q.down, on := q.on, waking := q.waking
  wakes := q.wakes, replayed := q.replayed }

/-- A withdrawn P2 entry counts no reset and halts nothing. -/
theorem p2Withdraw_pwr (s : State) : DomainsOnly s.pwr (p2Withdraw s).pwr := by
  rw [DomainsOnly, p2Withdraw]
  split_ifs
  · rw [replayWake_pwr, p2Back, setPstate_pwr]
  · rfl

/-! ### The core domains lost and started (R298, R583, R617) -/

section Core

variable (s : State)

/-- A cut of the flash and the entries that wait leave AOS but for the reservation marks. -/
theorem deferNonce_aos (o : AgentOp) :
    (deferNonce s o).aos = { s.aos with marks := (deferNonce s o).aos.marks, armPending := (deferNonce s o).aos.armPending } := by
  unfold deferNonce
  dsimp only
  split
  · split_ifs <;> rfl
  · rfl

theorem deferNonces_aos : (deferNonces s).aos =
    { s.aos with marks := (deferNonces s).aos.marks, armPending := (deferNonces s).aos.armPending } := by
  have hfold : ∀ (l : List AgentOp) (t : State), (l.foldl deferNonce t).aos =
      { t.aos with marks := (l.foldl deferNonce t).aos.marks, armPending := (l.foldl deferNonce t).aos.armPending } := by
    intro l
    induction l with
    | nil => exact fun t => rfl
    | cons o l ih =>
      intro t
      rw [List.foldl_cons, ih, deferNonce_aos]
  exact hfold _ s

/-- AOS as a power loss leaves it: whole, but for the reservation marks that it takes. -/
theorem coreLost_aos : { (coreLost s).aos with marks := s.aos.marks, armPending := s.aos.armPending } = s.aos := by
  have hflash : Keeps 0xc s (cutFlash 1 (cutFlash 0 s)) := cutFlash_keeps 1 (by decide) (cutFlash_keeps 0 (by decide) (Keeps.refl _ s))
  have haos : (cutFlash 1 (cutFlash 0 s)).aos = s.aos := hflash.aosEq (by decide)
  show ({ (deferNonces (cutFlash 1 (cutFlash 0 s))).aos with marks := _, armPending := _ } : Aos) = _
  rw [deferNonces_aos, haos]

/-- What the flash's cut and the waiting entries change is not of the vault or of the power registers. -/
theorem coreLost_keepsBefore : Keeps 0x10010c s (deferNonces (cutFlash 1 (cutFlash 0 s))) :=
  deferNonces_keeps (by decide) (cutFlash_keeps 1 (by decide) (cutFlash_keeps 0 (by decide) (Keeps.refl _ s)))

theorem coreLost_manifest : (coreLost s).vlt.manifest = s.vlt.manifest := by
  have hvlt := (coreLost_keepsBefore s).vltEq (by decide)
  exact (congrArg Vlt.manifest hvlt :)

theorem coreLost_structCnt : (coreLost s).pwr.structCnt = s.pwr.structCnt := by
  have hpwr := (coreLost_keepsBefore s).pwrEq (by decide)
  exact (congrArg Pwr.structCnt hpwr :)

theorem cutDump_aos : (cutDump s).aos = s.aos := (cutDump_keeps (m := 0x800) (by decide) (Keeps.refl _ s)).aosEq (by decide)

/-- The core domain starts: isolation lifted, the always-on domain and the spine on, and no event of the crystal due. -/
theorem coreStart_pwr : (coreStart s).pwr = { s.pwr with
    coreEn := true, corePg := true, isolated := false, on := 3, retryWait := false, railReset := false, rtcDue := false } := by
  have hnote : ∀ t : State, t.pwr.corePg = true → (noteRtc t).pwr = { t.pwr with rtcDue := false } := by
    intro t ht
    rw [noteRtc, ht]
    cases hdue : t.pwr.rtcDue
    · rw [if_neg (by simp), ← hdue]
    · rfl
  have hload : ∀ t : State, (gaugeLoad t).pwr = t.pwr := fun t =>
    (gaugeLoad_keeps (m := 0x100080) (by decide) (Keeps.refl _ t)).pwrEq (by decide)
  have hbegins : ∀ t : State, (romBegins (gaugeLoad t)).pwr = t.pwr := hload
  rw [coreStart, hnote _ (by rw [hbegins]), hbegins]

theorem coreStart_unchanged : Keeps 0x100680 s (coreStart s) := coreStart_keeps (by decide) (Keeps.refl _ s)

/-- A new ROM stage keeps the Signets as the reset left them. -/
theorem coreStart_signets : (coreStart s).sig.signets = s.sig.signets := by
  have hnote : ∀ t : State, (noteRtc t).sig = t.sig := fun t =>
    (noteRtc_keeps (m := 0x100400) (by decide) (Keeps.refl _ t)).sigEq (by decide)
  have hload : ∀ t : State, (gaugeLoad t).sig = t.sig := fun t =>
    (gaugeLoad_keeps (m := 0x100080) (by decide) (Keeps.refl _ t)).sigEq (by decide)
  have hbegins : ∀ t : State, (romBegins (gaugeLoad t)).sig.signets = t.sig.signets := fun t => (congrArg Sig.signets (hload t) :)
  rw [coreStart, hnote, hbegins]

end Core

/-! ### A STRUCTURAL reset (R583) -/

section Structural

variable (s : State)

theorem structReset_pwr : (structReset s).pwr = { (coreLost (cutDump s)).pwr with
    coreEn := true, corePg := true, isolated := false, on := 3, retryWait := false, railReset := false, rtcDue := false
    structCnt := satAdd 16 s.pwr.structCnt 1, strapped := false, lastKind := 2 } := by
  have hcut : (cutDump s).pwr = s.pwr := (cutDump_keeps (m := 0x800) (by decide) (Keeps.refl _ s)).pwrEq (by decide)
  show ({ (coreStart (coreLost (cutDump s))).pwr with
    structCnt := satAdd 16 (coreStart (coreLost (cutDump s))).pwr.structCnt 1, strapped := false, lastKind := 2 } : Pwr) = _
  rw [coreStart_pwr]
  dsimp only
  rw [coreLost_structCnt, hcut]

/-- The units of the core domains are as a reset leaves them. -/
theorem structReset_unchanged : Keeps 0x100680 (coreLost (cutDump s)) (structReset s) :=
  noteReset_keeps 2 (by decide) (Keeps.direct (coreStart_unchanged _) (fun p hp => by cases p <;> simp_all [Part.bit, Part.same]))

theorem structReset_mode : (structReset s).spn.mode = .boot := (structReset_unchanged s).modeEq (by decide)

theorem structReset_signets : (structReset s).sig.signets = List.replicate 8 {} := coreStart_signets (coreLost (cutDump s))

end Structural

/-! ### The core rails, the straps and the clocks (R37, R580, R581, R614, R617) -/

section Rails

variable {s : State} (hen : s.pwr.coreEn = true) (hpg : s.pwr.corePg = false)
include hen hpg

theorem corePgRise_starts (hrail : s.pwr.railReset = false) : exec .corePgRise s = .next (coreStart s) :=
  congrArg Host.Outcome.next ((if_neg (by simp [hen, hpg])).trans (if_neg (by simp [hrail])))

theorem corePgRise_resets (hrail : s.pwr.railReset = true) : exec .corePgRise s = .next (structReset s) :=
  congrArg Host.Outcome.next ((if_neg (by simp [hen, hpg])).trans (if_pos hrail))

theorem exec_corePgTimeout (hrail : s.pwr.railReset = false) :
    exec .corePgTimeout s = .next (raise 0x100B 0x04 [(1, s.pwr.railTries)] { s with pwr := { s.pwr with
      coreEn := false, retryWait := decide (s.pwr.railTries < 3), faultN := s.pwr.faultN || decide (3 ≤ s.pwr.railTries) } }) :=
  congrArg Host.Outcome.next (if_neg (by simp [hen, hpg, hrail]))

end Rails

section Straps

variable {s : State}

theorem strapSample_latched (id : Nat) (headcap test : Bool) (h : s.pwr.strapped = true) :
    exec (.strapSample id headcap test) s = .next s :=
  congrArg Host.Outcome.next (if_pos (by simp [h]))

theorem exec_strapSample (id : Nat) (headcap test : Bool) (hpg : s.pwr.corePg = true) (hfirst : s.pwr.strapped = false) :
    exec (.strapSample id headcap test) s = .next { s with
      pwr := { s.pwr with strapped := true, testStrap := test }
      cwy := { s.cwy with strapId := id % 64, strapHeadcap := headcap, myId := id % 64, headCapable := headcap } } :=
  congrArg Host.Outcome.next (if_neg (by simp [hpg, hfirst]))

/-- A write of the power registers alone. -/
theorem keeps_pwr (x : Pwr) : Keeps 0x400 s { s with pwr := x } :=
  (Keeps.refl _ s).direct (fun p hp => by cases p <;> simp_all [Part.bit, Part.same])

theorem exec_rtcDegraded (haon : s.pwr.aonUp = true) (hfirst : s.pwr.rtcDegraded = false) :
    exec .rtcDegraded s = .next (noteRtc { s with pwr := { s.pwr with rtcDegraded := true, rtcDue := true } }) :=
  congrArg Host.Outcome.next (if_neg (by simp [haon, hfirst]))

end Straps

/-- Settles O7: an equation for each event, and the frame of the core's start (R37, R580, R581, R614, R617, R618; log 15, 37, 103). -/
theorem railsStrapsAndClocks : Obligations.RailsStrapsAndClocks := by
  refine ⟨?start, ?railFault, ?retry, ?lastTry, ?retried, ?straps, ?clock, ?crystal, ?crystalLater⟩
  case start =>
    intro s hen hpg hrail
    refine ⟨_, corePgRise_starts hen hpg hrail, ?_, ?_, ?_, ?_, fr (coreStart_unchanged s) (by decide)⟩
    all_goals rw [coreStart_pwr]
  case railFault =>
    intro s hen hpg hrail
    refine ⟨_, corePgRise_resets hen hpg hrail, ?_, ?_, structReset_mode s, ?_, ?_⟩
    all_goals rw [structReset_pwr]
  case retry =>
    intro s hen hpg hrail htries
    rw [exec_corePgTimeout hen hpg hrail, decide_eq_true htries, decide_eq_false (Nat.not_le.2 htries), Bool.or_false]
  case lastTry =>
    intro s hen hpg hrail htries
    rw [exec_corePgTimeout hen hpg hrail, decide_eq_false (Nat.not_lt.2 htries), decide_eq_true htries, Bool.or_true]
  case retried => exact fun s hwait => congrArg Host.Outcome.next (if_pos hwait)
  case straps =>
    intro s id headcap test hpg hfirst hid
    refine ⟨_, exec_strapSample id headcap test hpg hfirst, Nat.mod_eq_of_lt hid, rfl, rfl, ?_, fun id2 h2 t2 => strapSample_latched id2 h2 t2 rfl⟩
    have hkeeps : Keeps 0x10400 s { s with
        pwr := { s.pwr with strapped := true, testStrap := test }
        cwy := { s.cwy with strapId := id % 64, strapHeadcap := headcap, myId := id % 64, headCapable := headcap } } :=
      (Keeps.refl _ s).direct (fun p hp => by cases p <;> simp_all [Part.bit, Part.same])
    exact fr hkeeps (by decide)
  case clock =>
    exact fun s hpg hfirst hkind hmode hstep => congrArg Host.Outcome.next (if_neg (by simp [hpg, hfirst, hkind, hmode, hstep]))
  case crystal =>
    intro s haon hfirst hpg
    rw [exec_rtcDegraded haon hfirst]
    exact congrArg Host.Outcome.next (if_pos (by simp [hpg]))
  case crystalLater =>
    intro s haon hfirst hpg
    rw [exec_rtcDegraded haon hfirst]
    exact congrArg Host.Outcome.next (if_neg (by simp [hpg]))

end Sys2Proof.Machine
end

section
/-!
PROOFS. The kinds of reset by their commands (R26, R44, R560, R583, R585, R607): the FIRMWARE, the STRUCTURAL and the COLD reset, the loss of
the always-on supply, and the statement.
-/

namespace Sys2Proof.Machine

/-! ### The FIRMWARE reset (R583, R585) -/

section Firmware

variable {s : State}

theorem resetBg_pwr (s : State) : DomainsOnly s.pwr (resetBg s).pwr := by
  have hend : ∀ (op : Nat) (ret : Ret) (ext : Nat) (payload : Fields), (bgEnd op ret ext payload s).pwr = s.pwr := fun op ret ext payload =>
    (bgEnd_keeps op ret ext payload (m := 0x300010) (by decide) (Keeps.refl _ s)).pwrEq (by decide)
  have hpackage : ∀ t : State, (abortPackage t).pwr = t.pwr := fun t =>
    (abortPackage_keeps (m := 0x10000c) (by decide) (Keeps.refl _ t)).pwrEq (by decide)
  unfold resetBg
  split
  · exact rfl
  · split_ifs
    · exact rfl
    · dsimp only
      rw [hpackage, ← hend]
      exact p2Withdraw_pwr _

/-- The units that a FIRMWARE reset ends: the background command, the firmware's Clasp, its buffers and a learning cycle. -/
def firmwareEnds (s : State) : State :=
  learnDisqualify 0x05 (tskReleaseAll 11 (if (resetBg s).cip.owner = 1 then claspRelease (resetBg s) else resetBg s))

theorem firmwareEnds_keeps (s : State) : Keeps 0x77e5bc s (firmwareEnds s) := by
  have hbg : Keeps 0x77e5bc s (resetBg s) := resetBg_keeps (by decide) (Keeps.refl _ s)
  refine learnDisqualify_keeps 0x05 (by decide) (tskReleaseAll_keeps 11 (by decide) ?_)
  split_ifs
  · exact claspRelease_keeps (by decide) hbg
  · exact hbg

theorem firmwareEnds_pwr (s : State) : DomainsOnly s.pwr (firmwareEnds s).pwr := by
  have hlearn : ∀ t : State, (learnDisqualify 0x05 t).pwr = t.pwr := fun t =>
    (learnDisqualify_keeps 0x05 (m := 0x7041bc) (by decide) (Keeps.refl _ t)).pwrEq (by decide)
  have htsk : ∀ t : State, (tskReleaseAll 11 t).pwr = t.pwr := fun t =>
    (tskReleaseAll_keeps 11 (m := 0x40000) (by decide) (Keeps.refl _ t)).pwrEq (by decide)
  have hclasp : ∀ t : State, (claspRelease t).pwr = t.pwr := fun t =>
    (claspRelease_keeps (m := 0x120000) (by decide) (Keeps.refl _ t)).pwrEq (by decide)
  rw [firmwareEnds, hlearn, htsk]
  split_ifs
  · rw [hclasp]
    exact resetBg_pwr s
  · exact resetBg_pwr s

/-- The restarts within 10 s, this one first. -/
def recentRestarts (s : State) : List Nat := s.evr.opSec :: s.pwr.restarts.filter (fun t => s.evr.opSec ≤ t + 10)

/-- A FIRMWARE reset with its registers written, before the data path goes on. -/
def firmwareDown (trigger : Nat) (s : State) : State :=
  let t : State := { noteReset 5 (firmwareEnds s) with pwr := { (noteReset 5 (firmwareEnds s)).pwr with
    fwCnt := satAdd 16 (firmwareEnds s).pwr.fwCnt 1, fwBusy := true, restarts := recentRestarts s
    halted := (firmwareEnds s).pwr.halted || decide (3 ≤ (recentRestarts s).length) } }
  if 3 ≤ (recentRestarts s).length then raise 0x100D 0x04 [(1, trigger), (1, (recentRestarts s).length)] t else t

theorem firmwareDown_keeps (trigger : Nat) (s : State) : Keeps 0x77e5bc s (firmwareDown trigger s) := by
  have hnote : Keeps 0x77e5bc s (noteReset 5 (firmwareEnds s)) := noteReset_keeps 5 (by decide) (firmwareEnds_keeps s)
  have hregs := hnote.trans ((keeps_pwr { (noteReset 5 (firmwareEnds s)).pwr with
    fwCnt := satAdd 16 (firmwareEnds s).pwr.fwCnt 1, fwBusy := true, restarts := recentRestarts s
    halted := (firmwareEnds s).pwr.halted || decide (3 ≤ (recentRestarts s).length) }).mono (by decide))
  unfold firmwareDown
  dsimp only
  split_ifs
  · exact raise_keeps _ _ _ (by decide) hregs
  · exact hregs

theorem firmwareDown_pwr (trigger : Nat) (s : State) : (firmwareDown trigger s).pwr = { (firmwareEnds s).pwr with
    lastKind := 5, fwCnt := satAdd 16 s.pwr.fwCnt 1, fwBusy := true, restarts := recentRestarts s
    halted := s.pwr.halted || decide (3 ≤ (recentRestarts s).length) } := by
  unfold firmwareDown
  have hfwCnt : (firmwareEnds s).pwr.fwCnt = s.pwr.fwCnt := by rw [firmwareEnds_pwr s]
  have hhalted : (firmwareEnds s).pwr.halted = s.pwr.halted := by rw [firmwareEnds_pwr s]
  dsimp only
  rw [hfwCnt, hhalted]
  split_ifs <;> rfl

/-- Outside DUMP the data path goes on (R585). -/
theorem firmwareReset_settles (trigger : Nat) (hmode : s.spn.mode ≠ .dump) : firmwareReset trigger s = settle (firmwareDown trigger s) := by
  have hmode' : (firmwareDown trigger s).spn.mode ≠ .dump := by
    rw [(firmwareDown_keeps trigger s).modeEq (by decide)]
    exact hmode
  exact if_neg hmode'

/-- The commands of a FIRMWARE reset, as they reach it: a lockstep mismatch is logged first (R607). -/
theorem exec_firmwareReset {c : Instr} (hcore : s.pwr.corePg = true) (hruns : s.pwr.halted = false) (hmode : s.spn.mode ≠ .dump)
    (hc : c = .fwRestart ∨ (c = .watchdogExpiry ∧ s.pwr.wdtMs ≠ 0) ∨ c = .lockstepMismatch) :
    ∃ (trigger : Nat) (t : State), (t = s ∨ t = raise 0x110A 0x00 [] s) ∧ exec c s = .next (settle (firmwareDown trigger t)) := by
  have hfw : ¬ (!fwRuns s) = true := by simp [fwRuns, hcore, hruns]
  rcases hc with rfl | ⟨rfl, hwdt⟩ | rfl
  · refine ⟨0, s, .inl rfl, ?_⟩
    rw [← firmwareReset_settles 0 hmode]
    exact congrArg Host.Outcome.next ((if_neg hfw).trans (if_neg hmode))
  · refine ⟨1, s, .inl rfl, ?_⟩
    rw [← firmwareReset_settles 1 hmode]
    exact congrArg Host.Outcome.next (if_neg (not_or.2 ⟨hfw, hwdt⟩))
  · refine ⟨2, raise 0x110A 0x00 [] s, .inr rfl, ?_⟩
    rw [← firmwareReset_settles 2 (s := raise 0x110A 0x00 [] s) hmode]
    exact congrArg Host.Outcome.next (if_neg hfw)

/-- A write of a reset register in DUMP is rejected (R44). -/
theorem resetWrite_rejected {c : Instr} (hcore : s.pwr.corePg = true) (hruns : s.pwr.halted = false) (hmode : s.spn.mode = .dump)
    (hc : c = .fwRestart ∨ c = .structReset) : exec c s = .next (raise 0x1006 0x00 [] s) := by
  rcases hc with rfl | rfl
  · exact congrArg Host.Outcome.next ((if_neg (by simp [fwRuns, hcore, hruns])).trans (if_pos hmode))
  · exact congrArg Host.Outcome.next ((if_neg (by simp [hcore])).trans (if_pos hmode))

end Firmware

/-! ### The STRUCTURAL reset by REBOOT and by STRUCT_RESET (R560, R583) -/

theorem exec_structReset {s : State} {c : Instr} (hcore : s.pwr.corePg = true)
    (hc : c = .reboot ∧ s.spn.mode = .parked ∨ c = .structReset ∧ s.spn.mode = .recovery) :
    exec c s = .next (structReset s) ∧ s.spn.mode ≠ .dump := by
  have hpg : ¬ (!s.pwr.corePg) = true := by simp [hcore]
  rcases hc with ⟨rfl, hmode⟩ | ⟨rfl, hmode⟩
  · exact ⟨congrArg Host.Outcome.next ((if_neg hpg).trans (if_pos hmode)), by simp [hmode]⟩
  · exact ⟨congrArg Host.Outcome.next ((if_neg hpg).trans ((if_neg (by simp [hmode])).trans (if_pos hmode))), by simp [hmode]⟩

/-- Outside DUMP no dump is cut. -/
theorem cutDump_outside {s : State} (hmode : s.spn.mode ≠ .dump) : cutDump s = s := if_neg fun h => hmode h.1

/-! ### The COLD reset (R26, R583, R618) -/

section Cold

variable (headerOk : Bool) (s : State)

/-- The power registers as the COLD sequence drives them. -/
def coldPwr (p : Pwr) : Pwr := { p with
  aonUp := true, coreEn := true, railTries := 1, rtcDegraded := false, rtcDue := false, on := 1, structCnt := 0, warmCnt := 0, fwCnt := 0
  warnFilter := {}, tamperFilter := {}, storeFilter := { st := .asserted }, odFilter := {}, lastKind := 1 }

/-- AOS after its check, where no area is bad (R26). -/
def checkedAos (a : Aos) : Aos :=
  if headerOk then { a with valid := true, seq := wrapAdd 32 a.seq 1, powerCycles := wrapAdd 32 a.powerCycles 1 }
  else { valid := true, cyclesLost := true, countersLost := true }

theorem coldStart_aos : (coldStart headerOk [] s).aos = checkedAos headerOk (powerGone s).aos := by
  cases headerOk <;> rfl

theorem coldStart_pwr : (coldStart headerOk [] s).pwr = coldPwr (powerGone s).pwr := by
  cases headerOk <;> rfl

theorem coldStart_raised : (coldStart headerOk [] s).raised =
    (if headerOk then [] else [⟨0x1002, 0x04, []⟩]) ++ [⟨0x100C, 0x04, [(1, 1)]⟩] := by
  cases headerOk <;> rfl

theorem coldStart_units : (coldStart headerOk [] s).spn.mode = .boot ∧ (coldStart headerOk [] s).gst = {} ∧
    (coldStart headerOk [] s).sig.signets = List.replicate 8 {} := by
  cases headerOk <;> exact ⟨rfl, rfl, rfl⟩

end Cold

/-! ### The statement -/

/-- Settles O8: the FIRMWARE, the STRUCTURAL and the COLD reset by their commands, and the loss of the always-on supply (R26, R44, R560, R583,
R585, R607; log 28, 37, 75, 76, 113, 120, 123). -/
theorem resetKindsByTheirCommands : Obligations.ResetKindsByTheirCommands := by
  refine ⟨?firmware, fun s c hcore hruns hmode hc => resetWrite_rejected hcore hruns hmode hc, ?structural, ?elsewhere, ?kick, ?cold,
    ?inputReturn, ?lost⟩
  case firmware =>
    intro s c hcore hruns hmode hc
    obtain ⟨trigger, t, ht, hexec⟩ := exec_firmwareReset hcore hruns hmode hc
    have hpwr : t.pwr = s.pwr ∧ t.evr = s.evr := by rcases ht with rfl | rfl <;> exact ⟨rfl, rfl⟩
    have hkeeps : Keeps 0x100000 s t := by
      rcases ht with rfl | rfl
      · exact Keeps.refl _ _
      · exact raise_keeps _ _ _ (by decide) (Keeps.refl _ s)
    refine ⟨_, hexec, ?_, ?_, ?_, ?_, fr ((hkeeps.mono (by decide)).trans (firmwareDown_keeps trigger t)) (by decide)⟩
    all_goals rw [firmwareDown_pwr]
    · rw [hpwr.1]
    · dsimp only
      rw [hpwr.1, hruns, recentRestarts, List.length_cons, hpwr.1, hpwr.2, Nat.add_comm, Bool.false_or]
  case structural =>
    intro s c hcore hc
    obtain ⟨hexec, hmode⟩ := exec_structReset hcore hc
    have hfresh := structReset_unchanged s
    have haos : (structReset s).aos = (coreLost s).aos := by rw [hfresh.aosEq (by decide), cutDump_outside hmode]
    refine ⟨_, hexec, ?_, ?_, structReset_mode s, hfresh.gstEq (by decide) (by decide), structReset_signets s, ?_, ?_, ?_, ?_⟩
    · rw [structReset_pwr]
    · rw [structReset_pwr]
    · exact (congrArg Cip.slots (hfresh.cipEq (by decide)) :)
    · rw [haos, coreLost_aos]
    · rw [structReset_pwr]
    · rw [hfresh.vltEq (by decide), cutDump_outside hmode, coreLost_manifest]
  case elsewhere => exact fun s hcore hmode => congrArg Host.Outcome.next ((if_neg (by simp [hcore])).trans (if_neg hmode))
  case kick => exact fun s hcore hruns => congrArg Host.Outcome.next (if_neg (by simp [fwRuns, hcore, hruns]))
  case cold =>
    intro s haon
    have hexec : exec .powerOn s = .next (coldStart false [] s) := congrArg Host.Outcome.next (if_neg (by simp [haon]))
    obtain ⟨hmode, hgst, hsig⟩ := coldStart_units false s
    refine ⟨_, hexec, coldStart_aos false s, ?_, ?_, ?_, ?_, hmode, hgst, hsig, coldStart_raised false s⟩
    all_goals rw [coldStart_pwr]; rfl
  case inputReturn =>
    intro s haon hdown hvalid
    have hexec : exec (.inputReturn true []) s = .next (coldStart true [] s) := by
      show Host.Outcome.next (if (s.pwr.aonUp && s.pwr.poweredDown) = true then coldStart (true && s.aos.valid) [] s else s) = _
      rw [if_pos (by simp [haon, hdown]), hvalid]
      rfl
    obtain ⟨hmode, hgst, _⟩ := coldStart_units true s
    refine ⟨_, hexec, ?_, ?_, ?_, hmode, hgst, coldStart_raised true s⟩
    · have hgone : { (powerGone s).aos with marks := s.aos.marks, armPending := s.aos.armPending } = s.aos := by
        rw [← cutDump_aos s]
        exact coreLost_aos (cutDump s)
      rw [coldStart_aos, ← hgone]
      rfl
    · rw [coldStart_pwr]
      rfl
    · rw [coldStart_pwr]
      rfl
  case lost =>
    exact fun s haon => ⟨_, congrArg Host.Outcome.next (if_neg (by simp [haon])), rfl, rfl, rfl, rfl, rfl⟩

end Sys2Proof.Machine
end

section
/-!
PROOFS. Power states and domains (R302, R564 to R569, R572, R576 to R579): the entry into P2 and its rollback, the domains that are gated, wake
and fail, and the statement.
-/

namespace Sys2Proof.Machine

/-! ### The commands of the power states (R302, R564, R569, R572) -/

section Commands

variable {s : State} {via : Via}

/-- What a command that ends a learning cycle has started keeps of the power registers. -/
theorem dumpAsked_pwr (via : Via) (op : Nat) (s : State) : (dumpAsked via op s).pwr = s.pwr :=
  (learnDisqualify_keeps 0x06 (m := 0x7041bc) (by decide) ((bgStart_keeps via op (m := 0x200010) (by decide) (Keeps.refl _ s)).mono
    (by decide))).pwrEq (by decide)

theorem setPowerStateP0_reached (hserves : VendorServes via [.service] true true s) (hstate : s.pwr.pstate = 0) :
    exec (.setPowerStateP0 via) s = .next (powerDone 0 (dumpAsked via 0xC008 s)) := by
  have hstate' : (dumpAsked via 0xC008 s).pwr.pstate ≠ 2 := by rw [dumpAsked_pwr, hstate]; decide
  exact (exec_setPowerStateP0 hserves).trans (congrArg Host.Outcome.next (if_pos hstate'))

/-- The registers of a P2 entry at its first step. -/
def p2Begun (via : Via) (p : Pwr) : Pwr :=
  { p with entry := 1, target := 2, entryStep := 1, entryVia := via, refuser := 0xFF, refuseCause := 0 }

theorem setPowerStateP2_begins (hserves : VendorServes via [.service] true true s) (hstate : s.pwr.pstate ≠ 2) :
    ∃ t, exec (.setPowerStateP2 via) s = .next t ∧ t.pwr = p2Begun via s.pwr ∧ t.spn.mode = s.spn.mode := by
  have hlearn : ∀ t : State, Keeps 0x7041bc t (learnDisqualify 0x06 t) := fun t => learnDisqualify_keeps 0x06 (by decide) (Keeps.refl _ t)
  exact ⟨_, (exec_setPowerStateP2 hserves).trans (congrArg Host.Outcome.next (if_neg hstate)), (hlearn _).pwrEq (by decide),
    (hlearn _).modeEq (by decide)⟩

/-- The DRAM powered, and the quadrants that have not failed marked for training. -/
def unparkPowered (via : Via) (s : State) : State :=
  quadRoles [0, 1] .active (domainsOn (coreDomains (bgStart via 0xC005 s) ||| memDomains (bgStart via 0xC005 s)) { bgStart via 0xC005 s with
    pwr := { s.pwr with memEn := true }
    qdc := s.qdc.zipIdx.map (fun e => if s.spn.quadEn.testBit e.2 ∧ e.1.state ≠ 3 then { e.1 with state := 1 } else e.1) })

/-- A device without a pair partner has no link unit to train. -/
theorem unpark_unpaired (hserves : VendorServes via [.parked] true true s) (hpair : s.kor.state = .unpaired) :
    exec (.unpark via) s = .next (unparkPowered via s) := by
  have hkor : (unparkPowered via s).kor = s.kor :=
    (quadRoles_keeps [0, 1] .active (m := 0x100001) (by decide) (Keeps.refl _ _)).korEq (by decide)
  have hpair' : (unparkPowered via s).kor.state = .unpaired := by rw [hkor, hpair]
  exact congrArg Host.Outcome.next ((vendor_serves hserves).trans (if_pos (.inl hpair')))

end Commands

/-! ### The steps of the P2 entry (R564, R567, R568) -/

section Entry

variable {s : State} (hentry : s.pwr.entry = 1)
include hentry

theorem p2StepDone_refused {l : List (Nat × Nat)} {r : Nat × Nat}
    (hrefuses : lowestRefusal (p2Refusals s s.pwr.entryStep ++ l.filter (blockRefusal s s.pwr.entryStep)) = some r) :
    exec (.p2StepDone l) s = .next (settle (p2Refuse r.1 r.2 s)) := by
  show Host.Outcome.next (if s.pwr.entry ≠ 1 then s else _) = _
  rw [if_neg (not_not.2 hentry), hrefuses]

/-- A step that no block refuses and whose blocks are at rest. -/
theorem p2StepDone_advances (hfree : p2Refusals s s.pwr.entryStep = []) (hrest : stepBusy s s.pwr.entryStep = false) :
    exec (.p2StepDone []) s = .next (p2Advance s) := by
  show Host.Outcome.next (if s.pwr.entry ≠ 1 then s else _) = _
  rw [if_neg (not_not.2 hentry), hfree]
  exact congrArg Host.Outcome.next (if_neg (by simp [hrest]))

theorem p2StopTimeout_refuses {u : Nat} (hblock : blockOf s s.pwr.entryStep u = true) :
    exec (.p2StopTimeout u) s = .next (settle (p2Refuse u 4 s)) :=
  congrArg Host.Outcome.next (if_pos ⟨hentry, hblock⟩)

/-- A refused entry is over: P0, with the unit and the cause kept (R568). -/
theorem p2Refuse_pwr (u c : Nat) : (p2Refuse u c s).pwr.entry = 0 ∧ (p2Refuse u c s).pwr.pstate = 0 ∧ (p2Refuse u c s).pwr.refuser = u ∧
    (p2Refuse u c s).pwr.refuseCause = c := by
  have hend : ∀ (ret : Ret) (ext : Nat) (payload : Fields) (t : State), (bgEnd 0xC008 ret ext payload t).pwr = t.pwr :=
    fun ret ext payload t => (bgEnd_keeps 0xC008 ret ext payload (m := 0x300010) (by decide) (Keeps.refl _ t)).pwrEq (by decide)
  have hraise : ∀ (id source : Nat) (detail : Fields) (t : State), (raise id source detail t).pwr = t.pwr := fun _ _ _ _ => rfl
  rw [p2Refuse, if_neg (not_not.2 hentry), replayWake_pwr, hend, hraise, p2Back, setPstate_pwr]
  exact ⟨rfl, rfl, rfl, rfl⟩

end Entry

/-- The last step stops the DRAM and reaches P2; the command's end and the replay change no domain where none waits. -/
theorem p2Advance_last {s : State} (hstep : s.pwr.entryStep = 6) (hwake : s.aos.wake = []) :
    (p2Advance s).pwr = { s.pwr with entry := 0, entryStep := 0, target := 0, pstate := 2, down := s.pwr.down ||| memDomains s
                                     on := without s.pwr.on (memDomains s) } := by
  have hroles : ∀ t : State, Keeps 0x100001 t (quadRoles [2, 3, 4, 5, 6, 7] .off t) := fun t =>
    quadRoles_keeps _ _ (by decide) (Keeps.refl _ t)
  have hdone : ∀ t : State, Keeps 0x300010 t (powerDone 2 t) := fun t => powerDone_keeps 2 (by decide) (Keeps.refl _ t)
  have hstate : ∀ t : State, Keeps 0x100400 t (setPstate 2 6 t) := fun t => setPstate_keeps 2 6 (by decide) (Keeps.refl _ t)
  have hreplay : ∀ t : State, t.aos.wake = [] → replayWake t = t := fun t ht => if_pos ht
  rw [p2Advance, hstep]
  dsimp only
  rw [if_neg (by decide), if_neg (by decide), if_pos rfl, hreplay, (hdone _).pwrEq (by decide), setPstate_pwr, (hroles _).pwrEq (by decide)]
  · rfl
  · rw [(hdone _).aosEq (by decide), (hstate _).aosEq (by decide), (hroles _).aosEq (by decide), hwake]

/-! ### Domains that are gated, wake and fail (R565, R566, R569, R576 to R579) -/

section Domains

variable {s : State} {d : Nat}

/-- An idle memory domain that had woken in P2 goes back. -/
theorem idleTimer_memory (hentry : s.pwr.entry = 0) (hidle : domainIdle s d = true) (h6 : 6 ≤ d) (h10 : d < 10)
    (hquad : s.spn.quadEn.testBit (d - 6) = true) (hstate : s.pwr.pstate = 2) (hrest : memBusy s (d - 6) = false) :
    exec (.idleTimer d) s = .next (gateDomain d s) :=
  congrArg Host.Outcome.next ((if_neg (by simp [hentry, hidle])).trans ((if_neg (by omega)).trans
    (if_pos ⟨h6, h10, hquad, hstate, by simp [hrest]⟩)))

/-- An idle engine domain is gated where P1 is permitted. -/
theorem idleTimer_engine (hentry : s.pwr.entry = 0) (hidle : domainIdle s d = true) (h10 : 10 ≤ d)
    (hquad : s.spn.quadEn.testBit (d - 10) = true) (hrest : sdeBusy s (d - 10) = false) (hstate : s.pwr.pstate = 0)
    (hp1 : s.pwr.p1En = true) (hserving : serving s = true) : exec (.idleTimer d) s = .next (
      if (quadList (gateDomain d s)).all (fun p => (gateDomain d s).pwr.down.testBit (dQeng p)) then setPstate 1 0 (gateDomain d s)
      else gateDomain d s) :=
  congrArg Host.Outcome.next ((if_neg (by simp [hentry, hidle])).trans ((if_pos ⟨h10, hquad, by simp [hrest]⟩).trans
    ((if_neg (by omega)).trans (if_pos ⟨by omega, hp1, hserving⟩))))

/-- The mask of a memory or engine domain names that domain. -/
theorem maskDomains_wakeMask (h6 : 6 ≤ d) (h14 : d < 14) : maskDomains (wakeMask d) = [d] := by
  interval_cases d <;> rfl

theorem domainWake_wakes {kind : Nat} (hserving : serving s = true) (hentry : s.pwr.entry = 0) (hstate : s.pwr.pstate = 2)
    (hdown : s.pwr.down.testBit d = true) (h6 : 6 ≤ d) (h14 : d < 14) (hk1 : 1 ≤ kind) (hk10 : kind ≤ 10) :
    exec (.domainWake kind d) s = .next (wakeDomain d s) := by
  have hneeded : ¬ (!serving s ∨ !domainStopped s d ∨ kind = 0 ∨ 10 < kind) := by
    simp [hserving, domainStopped, hdown]
    omega
  have hidle : entering s = false := by simp [entering, hentry]
  have hstate' : (wakeDomain d s).pwr.pstate = 2 := by rw [wakeDomain_pwr, ← hstate]
  refine congrArg Host.Outcome.next ((if_neg hneeded).trans ?_)
  rw [needDomains, maskDomains_wakeMask h6 h14, hidle, Bool.false_and, if_neg (by decide)]
  exact if_neg (by simp [hstate'])

/-- A domain below the engines is on within the stall timer, and the waiting work goes on. -/
theorem domainReady_on {us : Nat} (hwaking : s.pwr.waking.testBit d = true) (h10 : d < 10) (hus : us ≤ s.pwr.stallUs) :
    exec (.domainReady d us) s = .next (exitDone (streamFollow s (cmdKick { s with pwr := { s.pwr with
      waking := clearBit s.pwr.waking d, on := setBit s.pwr.on d, stallMaxUs := max s.pwr.stallMaxUs (min us 0xFFFF) } }))) := by
  refine congrArg Host.Outcome.next ((if_neg ?_).trans ?_)
  · simp [hwaking]
    omega
  · exact congrArg (fun t => exitDone (streamFollow s (cmdKick t))) (if_neg (by omega))

end Domains

/-! ### The statement -/

/-- Settles O20: the commands, the steps of the entry, its rollback and the domains, one lemma each (R302, R564 to R569, R572, R578, R579;
log 43, 86, 87, 146). -/
theorem powerStatesAndDomains : Obligations.PowerStatesAndDomains := by
  refine ⟨fun s via hserves => ⟨fun hstate => setPowerStateP0_reached hserves hstate, fun hstate => setPowerStateP2_begins hserves hstate,
    exec_setPowerStateP3 hserves⟩, ?unpark, ?firstStep, ?lastStep, fun s l u c hentry h => p2StepDone_refused (r := (u, c)) hentry h,
    fun s u hentry hblock => p2StopTimeout_refuses hentry hblock, fun s u c hentry => p2Refuse_pwr hentry u c,
    fun s d hentry hidle h6 h10 hquad hstate hrest => idleTimer_memory hentry hidle h6 h10 hquad hstate hrest, ?engine, ?wake,
    fun s d us hwaking h10 hus => domainReady_on hwaking h10 hus, ?failed⟩
  case unpark =>
    intro s via hserves hpair
    have hroles : ∀ t : State, Keeps 0x100001 t (quadRoles [0, 1] .active t) := fun t => quadRoles_keeps _ _ (by decide) (Keeps.refl _ t)
    refine ⟨_, unpark_unpaired hserves hpair, ?_, ?_, ?_, ?_⟩
    · rw [unparkPowered, (hroles _).pwrEq (by decide)]
      rfl
    · rw [unparkPowered, (hroles _).hlkEq (by decide)]
      rfl
    · rw [unparkPowered, (hroles _).outEq (by decide)]
      rfl
    · rw [unparkPowered, (hroles _).qdcEq (by decide)]
      rfl
  case firstStep =>
    intro s hentry hstep hfree
    rw [p2StepDone_advances hentry (by rw [hstep, hfree]) (by rw [hstep]; rfl), p2Advance, hstep]
    rfl
  case lastStep =>
    intro s hentry hstep hwake hbg
    refine ⟨_, p2StepDone_advances hentry (by rw [hstep]; rfl) (by rw [hstep]; rfl), ?_, ?_, ?_, ?_⟩
    all_goals rw [p2Advance_last hstep hwake]
  case engine =>
    intro s d hentry hidle h10 hquad hrest hstate hp1 hserving
    refine ⟨gateDomain d s, rfl, ?_⟩
    have hset : setPstate 1 0 (gateDomain d s) = raise 0x1007 0x04 [(1, 0), (1, 1), (1, 0)] { gateDomain d s with
        pwr := { (gateDomain d s).pwr with pstate := 1 } } := by
      have hgated : (gateDomain d s).pwr.pstate = 0 := hstate
      rw [setPstate, hgated, if_neg (by decide)]
    rw [idleTimer_engine hentry hidle h10 hquad hrest hstate hp1 hserving, hset]
    rfl
  case wake =>
    intro s kind d hserving hentry hstate hdown h6 h14 hk1 hk10
    rw [domainWake_wakes hserving hentry hstate hdown h6 h14 hk1 hk10, wakeDomain, if_pos hdown]
  case failed =>
    exact fun s d hwaking => ⟨_, rfl, congrArg Host.Outcome.next (if_neg (by simp [hwaking]))⟩

end Sys2Proof.Machine
end

section
/-!
PROOFS. Input filters, rails, sensors and VAULT_OFF (R586, R587, R590, R617, R619, R627): a filter read after a write, an equation for each
event, and the statement.
-/

namespace Sys2Proof.Machine

/-! ### The filters (R586) -/

section Filters

variable {s : State} {p : FilterPin}

theorem filterOf_setFilter (p o : FilterPin) (f : Filter) (s : State) : filterOf o (setFilter p f s) = if o = p then f else filterOf o s := by
  cases p <;> cases o <;> rfl

theorem filterOf_setFilter_same (p : FilterPin) (f : Filter) (s : State) : filterOf p (setFilter p f s) = f :=
  (filterOf_setFilter p p f s).trans (if_pos rfl)

/-- An event changes no filter. -/
theorem filterOf_raise (o p : FilterPin) (f : Filter) (id source : Nat) (detail : Fields) (s : State) :
    filterOf o (raise id source detail (setFilter p f s)) = if o = p then f else filterOf o s := by
  rw [← filterOf_setFilter]
  cases o <;> rfl

theorem keeps_setFilter (p : FilterPin) (f : Filter) (s : State) : Keeps 0x400 s (setFilter p f s) :=
  setFilter_keeps p f (by decide) (Keeps.refl _ s)

theorem setFilter_raised (p : FilterPin) (f : Filter) (s : State) : (setFilter p f s).raised = s.raised :=
  (keeps_setFilter p f s).raisedEq (by decide)

theorem setFilter_corePg (p : FilterPin) (f : Filter) (s : State) : (setFilter p f s).pwr.corePg = s.pwr.corePg := by
  cases p <;> rfl

/-- The asserted level of a pin, and the other. -/
theorem assertedLevel_asserted (p : FilterPin) : assertedLevel p (decide (p = .storePres)) = true := by cases p <;> rfl

theorem assertedLevel_released (p : FilterPin) : assertedLevel p (decide (p ≠ .storePres)) = false := by cases p <;> rfl

/-- A filter with the level it takes. -/
def filterLevel (p : FilterPin) (level : Bool) (f : Filter) : Filter := { f with level := level, seen := f.seen || assertedLevel p level }

theorem filterInputEdge_qualifies (short : Bool) (haon : s.pwr.aonUp = true) (hidle : (filterOf p s).st = .idle) (hused : pinUsed p s = true) :
    exec (.filterInputEdge p (decide (p = .storePres)) short) s = .next (setFilter p
      { filterLevel p (decide (p = .storePres)) (filterOf p s) with st := .qualify } s) :=
  congrArg Host.Outcome.next ((if_neg (by simp [haon])).trans (if_pos ⟨hidle, assertedLevel_asserted p, hused⟩))

/-- The filter that a pulse returns to IDLE: it counts where it is not short. -/
def pulseOver (p : FilterPin) (short : Bool) (f : Filter) : Filter :=
  { filterLevel p (decide (p ≠ .storePres)) f with st := .idle, pulses := if short then f.pulses else satAdd 16 f.pulses 1 }

/-- A counted pulse, logged. -/
def pulseCounted (p : FilterPin) (s : State) : State :=
  raise 0x100F 0x04 [(1, pinCode p)] (setFilter p (pulseOver p false (filterOf p s)) s)

theorem filterInputEdge_pulse (short : Bool) (haon : s.pwr.aonUp = true) (hqualify : (filterOf p s).st = .qualify) :
    exec (.filterInputEdge p (decide (p ≠ .storePres)) short) s = .next (if short then setFilter p (pulseOver p true (filterOf p s)) s
      else if (p = .pfailWarn ∨ p = .pfailOd) ∧ s.pwr.corePg = true then settle (setPreflush (pulseCounted p s)) else pulseCounted p s) := by
  have hcore : (pulseCounted p s).pwr.corePg = s.pwr.corePg := setFilter_corePg _ _ _
  refine congrArg Host.Outcome.next ((if_neg (by simp [haon])).trans ((if_neg (by simp [hqualify])).trans
    ((if_pos ⟨hqualify, by rw [assertedLevel_released]; rfl⟩).trans ?_)))
  cases short
  · rw [← hcore]
    rfl
  · rfl

theorem filterTimer_asserts (haon : s.pwr.aonUp = true) (hlevel : (filterOf p s).level = decide (p = .storePres))
    (hqualify : (filterOf p s).st = .qualify) :
    exec (.filterTimer p) s = .next (pinAsserted p (setFilter p { filterOf p s with st := .asserted } s)) := by
  refine congrArg Host.Outcome.next ((if_neg (by simp [haon])).trans ?_)
  simp only [hqualify, hlevel, assertedLevel_asserted, if_true]

theorem filterTimer_releases (haon : s.pwr.aonUp = true) (hlevel : (filterOf p s).level = decide (p ≠ .storePres))
    (hasserted : (filterOf p s).st = .asserted) :
    exec (.filterTimer p) s = .next (pinReleased p (setFilter p { filterOf p s with st := .idle } s)) := by
  refine congrArg Host.Outcome.next ((if_neg (by simp [haon])).trans ?_)
  simp only [hasserted, hlevel, assertedLevel_released]
  rfl

/-- The power-fail line of the array sticks low. -/
theorem filterTimer_sticks (haon : s.pwr.aonUp = true) (hlevel : s.pwr.odFilter.level = false) (hasserted : s.pwr.odFilter.st = .asserted) :
    exec (.filterTimer .pfailOd) s =
      .next (raise 0x100E 0x04 [(1, 3)] (setFilter .pfailOd { s.pwr.odFilter with st := .stuck } s)) := by
  refine congrArg Host.Outcome.next ((if_neg (by simp [haon])).trans ?_)
  simp only [filterOf, hasserted, hlevel]
  rfl

theorem filterTimer_recovers (haon : s.pwr.aonUp = true) (hlevel : (filterOf p s).level = decide (p ≠ .storePres))
    (hstuck : (filterOf p s).st = .stuck) : exec (.filterTimer p) s =
      .next (raise 0x100E 0x04 [(1, pinCode p)] (setFilter p { filterOf p s with st := .idle } s)) := by
  refine congrArg Host.Outcome.next ((if_neg (by simp [haon])).trans ?_)
  simp only [hstuck, hlevel, assertedLevel_released]
  rfl

/-- A filter's event is logged behind what stands. -/
theorem filterEvent_frame {f : Filter} {id source : Nat} {detail : Fields} :
    (raise id source detail (setFilter p f s)).raised = s.raised ++ [⟨id, source, detail⟩] ∧
      OnlyIn [.pwr, .raised] s (raise id source detail (setFilter p f s)) :=
  ⟨congrArg (· ++ [_]) (setFilter_raised p f s),
    fr (raise_keeps id source detail (m := 0x100400) (by decide) ((keeps_setFilter p f s).mono (by decide))) (by decide)⟩

end Filters

/-! ### Rails, sensors and the vault's supply (R590, R617, R619, R627) -/

section Supplies

variable {s : State}

theorem railFault_core {rail : Rail} (mv : Nat) (haon : s.pwr.aonUp = true) (hpg : s.pwr.corePg = true) (hrail : coreRail rail = true) :
    exec (.railFault rail mv) s = .next (raise 0x1013 0x04 [(1, railCode rail), (2, mv)] { powerGone s with
      pwr := { (powerGone s).pwr with coreEn := true, corePg := false, railReset := true } }) :=
  congrArg Host.Outcome.next ((if_neg (by simp [haon])).trans ((if_pos hrail).trans (if_neg (by simp [hpg]))))

theorem railFault_other {rail : Rail} (mv : Nat) (haon : s.pwr.aonUp = true) (hpg : s.pwr.corePg = true) (hrail : coreRail rail = false) :
    exec (.railFault rail mv) s = .next (raise 0x1013 0x04 [(1, railCode rail), (2, mv)] s) :=
  congrArg Host.Outcome.next ((if_neg (by simp [haon])).trans ((if_neg (by simp [hrail])).trans (if_neg (by simp [hpg]))))

theorem exec_tempRange {k : Nat} {out : Bool} (temp : Int) (hpg : s.pwr.corePg = true) (hk : k < 9) (hchange : s.pwr.tempOut.testBit k ≠ out) :
    exec (.tempRange k out temp) s = .next (raise 0x1012 0x04 [(1, k), (2, twos 16 temp)]
      { s with pwr := { s.pwr with tempOut := putBit s.pwr.tempOut k out } }) :=
  congrArg Host.Outcome.next (if_neg (not_or.2 ⟨by simp [hpg], not_or.2 ⟨Nat.not_le.2 hk, hchange⟩⟩))

theorem vaultOff_parked (hpg : s.pwr.corePg = true) (hmode : s.spn.mode = .parked) (hempty : s.pwr.vaultEmpty = true) :
    exec .vaultOff s = .next (raise 0x1011 0x04 [(1, 1)] { s with pwr := { s.pwr with vltEn := false, vaultOff := true } }) :=
  congrArg Host.Outcome.next ((if_neg (by simp [hpg])).trans ((if_neg (by simp [hmode])).trans (if_pos ⟨hmode, hempty⟩)))

theorem vaultOff_ignored (hpg : s.pwr.corePg = true) (hmode : s.spn.mode ≠ .dump) (h : s.spn.mode ≠ .parked ∨ s.pwr.vaultEmpty = false) :
    exec .vaultOff s = .next (raise 0x1011 0x04 [(1, 0)] s) := by
  have hnot : ¬ (s.spn.mode = .parked ∧ s.pwr.vaultEmpty = true) := fun ⟨hp, he⟩ => h.elim (fun g => g hp) (fun g => by simp [he] at g)
  exact congrArg Host.Outcome.next ((if_neg (by simp [hpg])).trans ((if_neg hmode).trans (if_neg hnot)))

/-- The event of a write of the power registers. -/
theorem pwrEvent_frame (x : Pwr) (id source : Nat) (detail : Fields) : OnlyIn [.pwr, .raised] s (raise id source detail { s with pwr := x }) :=
  fr (raise_keeps id source detail (m := 0x100400) (by decide) ((keeps_pwr x).mono (by decide))) (by decide)

end Supplies

/-! ### The statement -/

/-- Settles O21: a clause for each transition of a filter and for each event of a rail, a sensor and VAULT_OFF (R586, R587, R590, R617, R619,
R627; log 2, 103, 104). -/
theorem filtersRailsAndSensors : Obligations.FiltersRailsAndSensors := by
  refine ⟨?qualifies, ?pulse, ?asserts, ?releases, ?sticks, ?recovers, ?coreFault, fun s rail mv haon hpg h => railFault_other mv haon hpg h,
    ?sensor, ?vaultOff, fun s hpg hmode h => vaultOff_ignored hpg hmode h⟩
  case qualifies =>
    intro s p short haon hidle hused
    refine ⟨_, filterInputEdge_qualifies short haon hidle hused, ?_, ?_, ?_, fun o ho => ?_, fr (keeps_setFilter _ _ _) (by decide)⟩
    · rw [filterOf_setFilter_same]
    · rw [filterOf_setFilter_same]
      rfl
    · rw [filterOf_setFilter_same]
      rfl
    · rw [filterOf_setFilter, if_neg ho]
  case pulse =>
    intro s p haon hqualify
    refine ⟨⟨_, filterInputEdge_pulse true haon hqualify, ?_, ?_, fr (keeps_setFilter _ _ _) (by decide)⟩,
      pulseCounted p s, ?_, ?_, filterEvent_frame.1, filterEvent_frame.2, filterInputEdge_pulse false haon hqualify⟩
    · exact congrArg Filter.st (filterOf_setFilter_same p (pulseOver p true (filterOf p s)) s)
    · exact (congrArg Filter.pulses (filterOf_setFilter_same p (pulseOver p true (filterOf p s)) s) :)
    · rw [pulseCounted, filterOf_raise, if_pos rfl, pulseOver]
    · rw [pulseCounted, filterOf_raise, if_pos rfl]
      rfl
  case asserts =>
    intro s p haon hlevel hqualify
    exact ⟨_, by rw [filterOf_setFilter_same], fr (keeps_setFilter _ _ _) (by decide), filterTimer_asserts haon hlevel hqualify⟩
  case releases =>
    intro s p haon hlevel hasserted
    exact ⟨_, by rw [filterOf_setFilter_same], fr (keeps_setFilter _ _ _) (by decide), filterTimer_releases haon hlevel hasserted⟩
  case sticks =>
    intro s haon hlevel hasserted
    exact ⟨_, filterTimer_sticks haon hlevel hasserted, rfl, filterEvent_frame.1, filterEvent_frame.2⟩
  case recovers =>
    intro s p haon hlevel hstuck
    refine ⟨_, filterTimer_recovers haon hlevel hstuck, ?_, filterEvent_frame.1, filterEvent_frame.2⟩
    rw [filterOf_raise, if_pos rfl]
  case coreFault =>
    exact fun s rail mv haon hpg hrail => ⟨_, railFault_core mv haon hpg hrail, rfl, rfl, rfl, _, rfl⟩
  case sensor =>
    exact fun s k out temp hpg hk hchange => ⟨_, exec_tempRange temp hpg hk hchange, rfl, rfl, pwrEvent_frame _ _ _ _⟩
  case vaultOff =>
    exact fun s hpg hmode hempty => ⟨_, vaultOff_parked hpg hmode hempty, rfl, rfl, rfl, pwrEvent_frame _ _ _ _⟩

end Sys2Proof.Machine
end

section
/-!
PROOFS. Integrity (R26, R177, R596 to R609): the scrub and the owners of its findings, a lost state word of a GST, the patrol, failing SDEs,
chip marks and armed faults, and the statement.
-/

namespace Sys2Proof.Machine

/-- A write of the QDCs alone. -/
theorem keeps_qdc {s : State} (x : List Qdc) : Keeps 0x80000 s { s with qdc := x } :=
  (Keeps.refl _ s).direct (fun p hp => by cases p <;> simp_all [Part.bit, Part.same])

theorem qdcOf_modQdc {s : State} {q : Nat} (hq : q < s.qdc.length) (f : Qdc → Qdc) : qdcOf (modQdc q f s) q = f (qdcOf s q) := by
  simp [qdcOf, modQdc, List.getD_eq_getElem?_getD, List.getElem?_eq_getElem hq]

/-! ### The scrub's findings (R601) -/

section Scrub

variable {s : State} {w : SramWord}

theorem sramCount_other (h1 : w.array ≠ .gst) (h2 : w.array ≠ .staging) : sramCount w s = s := if_neg (not_or.2 ⟨h1, h2⟩)

/-- A finding in a quadrant's slice is counted there, and changes nothing else. -/
theorem sramCount_slice (h : w.array = .gst ∨ w.array = .staging) (hq : w.quad < s.qdc.length) : qdcOf (sramCount w s) w.quad =
    (if w.bad = true then { qdcOf s w.quad with sramUe := satAdd 16 (qdcOf s w.quad).sramUe 1 }
      else { qdcOf s w.quad with sramCe := satAdd 32 (qdcOf s w.quad).sramCe 1 }) ∧ OnlyIn [.qdc] s (sramCount w s) := by
  rw [sramCount, if_pos h]
  exact ⟨qdcOf_modQdc hq _, fr (modQdc_keeps w.quad _ (m := 0x80000) (by decide) (Keeps.refl _ s)) (by decide)⟩

/-- A copy that its owner makes anew: nothing is lost with it. -/
theorem sramOwner_copy (h : w.array = .staging ∨ w.array = .cipher ∨ w.array = .manifest ∨ w.array = .regions ∨ w.array = .mapCache) :
    sramOwner w s = s := by
  obtain ⟨array, quad, addr, bad⟩ := w
  obtain rfl | rfl | rfl | rfl | rfl : array = .staging ∨ array = .cipher ∨ array = .manifest ∨ array = .regions ∨ array = .mapCache := h
  all_goals rfl

/-- A replay word is a retrain that failed, where a decision waits for one. -/
theorem sramOwner_replay (h : w.array = .replay) : sramOwner w s = if s.kor.state = .deciding ∧ !s.kor.asking then
    takeoverResume (askWitness .decision { s with
      kor := { s.kor with retrain := 2, asking := true, trained := false, up := false, width := 0 } }) else s := by
  rw [sramOwner, h]

theorem sramOwner_management (h : w.array = .management) : sramOwner w s = lockstepReset s := by rw [sramOwner, h]

theorem sramOwner_aos (h : w.array = .aos) : sramOwner w s = aosWordLost w.addr s := by rw [sramOwner, h]

/-- A descriptor in use quarantines its buffer. -/
theorem sramOwner_descriptor (h : w.array = .descriptor) (hptr : ptrPool s w.addr ≠ none) (hstate : (descOf s w.addr).dstate ≠ 2) :
    sramOwner w s = quarantine w.addr { descOf s w.addr with refcnt := 16, holders := 0xFFFF } 0 s := by
  rw [sramOwner, h]
  exact if_pos ⟨Option.isSome_iff_ne_none.2 hptr, hstate⟩

end Scrub

/-! ### A lost state word of a GST (R177) -/

section LostWord

variable {s : State}

/-- The granule DIRTY with a reservation; no other state word changes, and no reservation goes. -/
theorem unknownGranule_effect {g : Nat} (hg : g < hdmGranules s) :
    gstate (unknownGranule g s) g = .dirty ∧ (∀ h, h ≠ g → gword (unknownGranule g s) h = gword s h) ∧
      (∀ h, h ∈ (unknownGranule g s).gst.rsv ↔ h = g ∨ h ∈ s.gst.rsv) := by
  obtain ⟨x, hx⟩ : ∃ x, (setGState g .dirty s).gst = x := ⟨_, rfl⟩
  obtain ⟨y, hy⟩ : ∃ y, (takeRsv g (setGState g .dirty s)).gst = y := ⟨_, rfl⟩
  have hgst : (unknownGranule g s).gst = { y with twin := sdel y.twin g, rebuilt := sins g y.rebuilt } := by
    rw [← hy]
    unfold unknownGranule
    exact (joinRing_keeps g (m := 0x2000) (by decide) (Keeps.refl _ _)).gstEq (by decide) (by decide)
  have htaken : y = if x.rsv.contains g then x else { x with rsv := sins g x.rsv, twin := sdel x.twin g } := by
    rw [← hy, takeRsv_gst, hx]
  have hkept : x.rsv = s.gst.rsv := hx ▸ setGState_rsv g .dirty s
  have hstates : (unknownGranule g s).gst.states = (setGState g .dirty s).gst.states := by
    rw [hgst, htaken, hx]
    split_ifs <;> rfl
  have hrsv : (unknownGranule g s).gst.rsv = if s.gst.rsv.contains g then s.gst.rsv else sins g s.gst.rsv := by
    rw [hgst, htaken, ← hkept]
    split_ifs <;> rfl
  refine ⟨?_, fun h hh => ?_, fun h => ?_⟩
  · rw [gstate, gword_of_states hstates, gword_setGState hg, if_pos rfl]
  · rw [gword_of_states hstates, gword_setGState hg, if_neg hh]
  · rw [hrsv]
    split_ifs with hmem
    · have hin : g ∈ s.gst.rsv := by simpa using hmem
      exact ⟨.inr, fun h' => h'.elim (fun h' => h' ▸ hin) id⟩
    · exact mem_sins g h _

theorem unknownGranule_hdm (g : Nat) (s : State) : hdmGranules (unknownGranule g s) = hdmGranules s :=
  hdmGranules_of_spn ((unknownGranule_keeps g (m := 0x382060) (by decide) (Keeps.refl _ s)).spnEq (by decide) (by decide))

theorem gstate_of_gword {s t : State} {g : Nat} (h : gword t g = gword s g) : gstate t g = gstate s g := by rw [gstate, h, gstate]

/-- Unknown granules one after another: each is DIRTY with a reservation, and no other state word changes. -/
theorem unknownGranules_effect (l : List Nat) : ∀ s : State, (∀ g ∈ l, g < hdmGranules s) →
    (∀ g ∈ l, gstate (l.foldl (fun t g => unknownGranule g t) s) g = .dirty) ∧
      (∀ g, g ∈ (l.foldl (fun t g => unknownGranule g t) s).gst.rsv ↔ g ∈ l ∨ g ∈ s.gst.rsv) ∧
      (∀ g, g ∉ l → gword (l.foldl (fun t g => unknownGranule g t) s) g = gword s g) := by
  induction l with
  | nil => exact fun s _ => ⟨fun g hg => absurd hg List.not_mem_nil, fun g => by simp, fun g _ => rfl⟩
  | cons a l ih =>
    intro s hl
    obtain ⟨hdirty, hother, hrsv⟩ := unknownGranule_effect (hl a List.mem_cons_self)
    obtain ⟨hdirty', hrsv', hother'⟩ := ih (unknownGranule a s) fun g hg => by
      rw [unknownGranule_hdm]
      exact hl g (List.mem_cons_of_mem a hg)
    refine ⟨fun g hg => ?_, fun g => ?_, fun g hg => ?_⟩
    · rw [List.foldl_cons]
      by_cases hgl : g ∈ l
      · exact hdirty' g hgl
      · obtain rfl := (List.mem_cons.1 hg).resolve_right hgl
        exact (gstate_of_gword (hother' g hgl)).trans hdirty
    · rw [List.foldl_cons, hrsv', hrsv, List.mem_cons]
      exact or_left_comm.trans or_assoc.symm
    · obtain ⟨hga, hgl⟩ := not_or.1 (mt List.mem_cons.2 hg)
      rw [List.foldl_cons, hother' g hgl, hother g hga]

/-- The granules that a state word of a GST holds. -/
def wordGranules (s : State) (q a : Nat) : List Nat := (List.range 16).map (fun k => granuleAt s q (16 * a + k))

theorem gstWordLost_dirties {q a : Nat} (hmode : s.spn.mode ≠ .dump) (hquad : s.spn.quadEn.testBit q = true)
    (hlast : granuleAt s q (16 * a + 15) < hdmGranules s) : gstWordLost q a s = settle (refreshConditions false
      (raise 0x030C (quadUnit q 1) [(4, granuleAt s q (16 * a))] ((wordGranules s q a).foldl (fun t g => unknownGranule g t) s))) ∧
      ∀ g ∈ wordGranules s q a, g < hdmGranules s := by
  have hall : ∀ g ∈ wordGranules s q a, g < hdmGranules s := by
    intro g hg
    obtain ⟨k, hk, rfl⟩ := List.mem_map.1 hg
    have hle : (16 * a + k) * nQuads s ≤ (16 * a + 15) * nQuads s := Nat.mul_le_mul_right _ (by simp at hk; omega)
    exact Nat.lt_of_le_of_lt (Nat.add_le_add_right hle _) hlast
  have hfilter : (wordGranules s q a).filter (fun g => decide (g < hdmGranules s)) = wordGranules s q a :=
    List.filter_eq_self.2 fun g hg => decide_eq_true (hall g hg)
  refine ⟨?_, hall⟩
  rw [gstWordLost, ← wordGranules, hfilter]
  exact if_neg (by simp [wordGranules, hmode, hquad])

end LostWord

/-! ### The patrol (R596, R597, R604) -/

/-- A line read without a correction and without poison has no effect. -/
theorem readEffects_clean {line : Nat} {host : Bool} {again : List SymErr} {r : LineRead} {s : State} (hfixed : r.fixed = [])
    (hpoison : r.poisoned = false) : readEffects line host again r s = s := by
  rw [readEffects, hfixed, hpoison]
  rfl

theorem patrolRead_runs {s : State} {q : Nat} {e again : List SymErr} {r : ReservedWord} (hruns : patrolRuns s q = true) :
    exec (.patrolRead q e again r) s = .next (
      let cl := (qdcOf s q).patrolLine
      let g := granuleAt s q (cl / 256)
      let u := patrolNext q (if armedFor s q 2 then planted q 2 s else s)
      let t := readEffects (g * 256 + cl % 256) false again (readLine u (g * 256 + cl % 256) (patrolErrs s q e)) u
      if g < hdmGranules s then (if (qdcOf t q).state = 3 then lifeFollow t else settle t)
      else patrolReserved q cl (patrolErrs s q e) again r u) :=
  congrArg Host.Outcome.next (if_neg (by simp [hruns]))

/-! ### A failing SDE (R31, R32, R607) -/

/-- The coverage of a failed SDE taken by another that is ACTIVE, if there is one. -/
def sdeCovering (q : Nat) (s : State) : State :=
  match coverFor (setUnitState (quadUnit q 2) .failed s) q with
  | none => setUnitState (quadUnit q 2) .failed s
  | some p => changeRole (quadUnit p 2) (roleOf (setUnitState (quadUnit q 2) .failed s) (quadUnit p 2)).func
      ((roleOf (setUnitState (quadUnit q 2) .failed s) (quadUnit p 2)).cover ||| (roleOf s (quadUnit q 2)).cover) .active
      (setUnitState (quadUnit q 2) .failed s)

/-- The programs that run on a quadrant's vault channels. -/
def quadRunning (s : State) (q : Nat) : List Nat :=
  (List.range 4).flatMap (fun k => (List.range 8).flatMap (fun d => runningOn s (4 * q + k) d))

theorem sdeFail_fails {s : State} {q : Nat} (h : (roleOf s (quadUnit q 2)).state ≠ .failed) : sdeFail q s =
    if s.spn.mode = .dump then dumpKick (dumpResume q (sdeCovering q s))
    else streamFollow s (dieProgramsFail (quadRunning s q) (sdeCovering q s)) := if_neg h

/-! ### Chip marks (R600) -/

theorem markSet_marks {s : State} {q : Nat} (hmode : s.spn.mode = .boot ∨ s.spn.mode = .test) (hcore : s.pwr.corePg = true) (hq : q < 4)
    (hchip : (qdcOf s q).setChip ≤ 9) (hfree : ∀ e ∈ (qdcOf s q).marks, e.1 ≠ (qdcOf s q).setSlot) : exec (.markSet q) s = .next
      (raise 0x1104 (quadUnit q 0) [(1, q), (1, (qdcOf s q).setSlot), (1, (qdcOf s q).setChip)]
        (modQdc q (fun d => { d with marks := tins (qdcOf s q).setSlot (qdcOf s q).setChip d.marks }) s)) := by
  have hmodes : modeIn [.boot, .test] s = true := by rcases hmode with h | h <;> simp [modeIn, h]
  have hmark : (qdcOf s q).marks.find? (fun e => e.1 = (qdcOf s q).setSlot) = none :=
    List.find?_eq_none.2 fun e he => by simpa using hfree e he
  have hany : (qdcOf s q).marks.any (fun e => e.1 = (qdcOf s q).setSlot) = false := by
    rw [List.any_eq_false]
    exact fun e he => by simpa using hfree e he
  refine congrArg Host.Outcome.next ((if_neg ?_).trans ?_)
  · simp only [hmodes, hcore, hany]
    simp
    omega
  · rw [chipMark, hmark]

theorem markSet_ignored {s : State} {q : Nat} (h : s.spn.mode ≠ .boot ∧ s.spn.mode ≠ .test ∨ s.pwr.corePg = false ∨ 4 ≤ q ∨
    9 < (qdcOf s q).setChip ∨ ∃ e ∈ (qdcOf s q).marks, e.1 = (qdcOf s q).setSlot) : exec (.markSet q) s = .next s := by
  refine congrArg Host.Outcome.next (if_pos ?_)
  rcases h with ⟨h1, h2⟩ | h | h | h | ⟨e, he, hslot⟩
  · exact .inl (by simp [modeIn, h1, h2])
  · exact .inr (.inl (by simp [h]))
  · exact .inr (.inr (.inl h))
  · exact .inr (.inr (.inr (.inl h)))
  · exact .inr (.inr (.inr (.inr (List.any_eq_true.2 ⟨e, he, decide_eq_true hslot⟩))))

/-! ### Armed faults (R609) -/

section Injection

variable {s : State} {q : Nat}

theorem injectArm_ignored (h : s.spn.mode ≠ .test ∨ s.spn.quadEn.testBit q = false ∨ (qdcOf s q).target = 0 ∨ 8 < (qdcOf s q).target) :
    exec (.injectArm q) s = .next s := by
  refine congrArg Host.Outcome.next (if_pos ?_)
  rcases h with h | h | h | h
  · exact .inl h
  · exact .inr (.inl (by simp [h]))
  · exact .inr (.inr (.inl h))
  · exact .inr (.inr (.inr h))

theorem exec_injectArm (hmode : s.spn.mode = .test) (hquad : s.spn.quadEn.testBit q = true) (h1 : 1 ≤ (qdcOf s q).target)
    (h8 : (qdcOf s q).target ≤ 8) : exec (.injectArm q) s = .next (
      if (qdcOf s q).target = 6 then lifeFollow (fenceQuad q 3 (planted q 6 s))
      else if (qdcOf s q).target = 7 then sdeFail q (planted q 7 s)
      else if (qdcOf s q).target = 8 then coreFail (2 * q) (planted q 8 s)
      else modQdc q (fun d => { d with armed := true }) s) :=
  congrArg Host.Outcome.next (if_neg (by simp [hmode, hquad]; omega))

end Injection

/-! ### The statement -/

/-- Settles O52: the scrub and its owners, the lost state word, the patrol, the SDEs, the marks and the armed faults (R26, R177, R596 to R601,
R604, R607, R609; log 99, 101, 102, 106, 122, 130, 146). -/
theorem integrityCommands : Obligations.IntegrityCommands := by
  refine ⟨?scrub, ?finding, ?lostWord, ?patrol, ?nextLine, ?sde, ?sdeFailure, ?mark, ?inject⟩
  case scrub =>
    exact fun s l => ⟨fun hcore => congrArg Host.Outcome.next (if_pos (by simp [hcore])),
      fun hcore => congrArg Host.Outcome.next (if_neg (by simp [hcore]))⟩
  case finding =>
    intro s w
    refine ⟨fun hbad => if_neg (by simp [hbad]), fun hbad => if_pos hbad, sramCount_other, sramCount_slice, sramOwner_copy,
      fun harray h => ?_, fun harray hdeciding hasking => ?_, sramOwner_management, sramOwner_aos, fun harray hptr hstate => ?_⟩
    · rw [sramOwner_replay harray, if_neg]
      rintro ⟨hdeciding, hasking⟩
      exact h.elim (fun h => h hdeciding) (fun h => by simp [h] at hasking)
    · rw [sramOwner_replay harray, if_pos ⟨hdeciding, by simp [hasking]⟩]
    · rw [sramOwner_descriptor harray hptr hstate, descOf_quarantine]
      exact ⟨rfl, rfl⟩
  case lostWord =>
    intro s q a hmode hquad hlast
    obtain ⟨heq, hall⟩ := gstWordLost_dirties hmode hquad hlast
    obtain ⟨hdirty, hrsv, hother⟩ := unknownGranules_effect (wordGranules s q a) s hall
    have hmem : ∀ k, k < 16 → granuleAt s q (16 * a + k) ∈ wordGranules s q a :=
      fun k hk => List.mem_map.2 ⟨k, List.mem_range.2 hk, rfl⟩
    refine ⟨_, heq, fun k hk => ⟨hdirty _ (hmem k hk), (hrsv _).2 (.inl (hmem k hk))⟩, fun g hg => hother g fun hin => ?_⟩
    obtain ⟨k, hk, rfl⟩ := List.mem_map.1 hin
    exact hg k (List.mem_range.1 hk) rfl
  case patrol =>
    intro s q e again r
    refine ⟨fun hruns => congrArg Host.Outcome.next (if_pos (by simp [hruns])),
      fun hruns => ⟨_, _, _, _, rfl, rfl, rfl, rfl, fun hg => ?_, fun hg => ⟨_, rfl, fun h3 => ?_, fun h3 => ?_, readEffects_clean⟩⟩⟩
    · exact (patrolRead_runs hruns).trans (congrArg Host.Outcome.next (if_neg (Nat.not_lt.2 hg)))
    · exact (patrolRead_runs hruns).trans (congrArg Host.Outcome.next ((if_pos hg).trans (if_pos h3)))
    · exact (patrolRead_runs hruns).trans (congrArg Host.Outcome.next ((if_pos hg).trans (if_neg h3)))
  case nextLine =>
    intro s q hq
    refine ⟨fr (patrolNext_keeps q (m := 0x80000) (by decide) (Keeps.refl _ s)) (by decide), fun hline => ?_, fun hline => ?_⟩
    · exact (qdcOf_modQdc hq _).trans (if_pos hline)
    · exact (qdcOf_modQdc hq _).trans (if_neg (Nat.not_lt.2 hline))
  case sde =>
    intro s q
    refine ⟨fun h => ⟨?_, ?_⟩, fun h => congrArg Host.Outcome.next (if_pos (.inr (.inr h))), fun hcore hquad => ⟨?_, fun hdomain => ?_⟩⟩
    · exact congrArg Host.Outcome.next (if_pos (h.elim (fun h => .inl (by simp [h])) (fun h => .inr (.inl (by simp [h])))))
    · exact congrArg Host.Outcome.next (if_pos (h.elim (fun h => .inl (by simp [h])) (fun h => .inr (by simp [h]))))
    · exact congrArg Host.Outcome.next (if_neg (by simp [hcore, hquad]))
    · exact congrArg Host.Outcome.next (if_neg (by simp [hcore, hquad, hdomain]))
  case sdeFailure =>
    intro s q
    refine ⟨fun h => if_pos h, fun h => ⟨_, sdeCovering q s, _, rfl, rfl, fun hnone => ?_, fun p hp => ?_, fun hmode => ?_, fun hmode => ?_⟩⟩
    · rw [sdeCovering, hnone]
    · rw [sdeCovering, hp]
    · rw [sdeFail_fails h, if_pos hmode]
    · rw [sdeFail_fails h, if_neg hmode]
      rfl
  case mark =>
    rintro s q _ rfl
    refine ⟨markSet_ignored, fun hmode hcore hq hchip hfree hlength => ⟨_, markSet_marks hmode hcore hq hchip hfree, ?_, rfl, ?_⟩⟩
    · exact qdcOf_modQdc hlength _
    · exact fr (raise_keeps _ _ _ (m := 0x180000) (by decide) (modQdc_keeps q _ (by decide) (Keeps.refl _ s))) (by decide)
  case inject =>
    rintro s q _ rfl
    refine ⟨injectArm_ignored, fun hmode hquad => ⟨fun h1 h5 => ?_, fun h => ?_, fun h => ?_, fun h => ?_⟩, rfl⟩
    · rw [exec_injectArm hmode hquad h1 (by omega), if_neg (by omega), if_neg (by omega), if_neg (by omega)]
    · rw [exec_injectArm hmode hquad (by omega) (by omega), if_pos h]
    · rw [exec_injectArm hmode hquad (by omega) (by omega), if_neg (by omega), if_pos h]
    · rw [exec_injectArm hmode hquad (by omega) (by omega), if_neg (by omega), if_neg (by omega), if_pos h]

end Sys2Proof.Machine
end

section
/-!
PROOFS. The window, the Clasp and keys, the allocator, the flash, events, stages and power commands complete with their own effect: the
equations that were still missing, and the statement.
-/

namespace Sys2Proof.Machine

/-! ### The window (R419, R420) -/

section Window

variable {s : State} (path : Path) {addr width : Nat} (hcore : s.pwr.corePg = true) (hlow : 0x300000 ≤ addr) (hhigh : addr < 0x400000)
  (hok : accessOk addr width = true)
include hcore hlow hhigh hok

theorem windowRead_inRange : exec (.windowRead path addr width) s = .next (windowRead path addr width s) :=
  congrArg Host.Outcome.next ((if_neg (by simp [hcore]; omega)).trans (if_neg (by simp [hok])))

theorem windowWrite_inRange (value : Nat) (fact : Bool) :
    exec (.windowWrite path addr width value fact) s = .next (windowWrite path addr width value fact (dropHalf path s)) :=
  congrArg Host.Outcome.next ((if_neg (by simp [hcore]; omega)).trans (if_neg (by simp [hok])))

end Window

/-! ### The cipher engine (R438, R446) -/

section Cipher

variable {s : State} {path : Path}

theorem mode_of_thawed (h : cipFrozen s = false) : s.spn.mode ≠ .dump := by simpa [cipFrozen] using h

/-- UNLOAD where no earlier refusal holds: of a root, or of a region slot whose region is not served. -/
theorem exec_unload (hnone : commonRefusal s path s.cip.slotSel false = none)
    (hoff : 256 ≤ s.cip.slotSel ∨ slotRegionOff s s.cip.slotSel = true) :
    exec (.unload path) s = .next (dropHalf path (slotUnloaded s.cip.slotSel s)) := by
  have hregion : ¬ (s.cip.slotSel < 256 ∧ (!slotRegionOff s s.cip.slotSel) = true) := by
    rintro ⟨hlt, hnot⟩
    rcases hoff with h | h
    · omega
    · simp [h] at hnot
  show execUnload path s = _
  simp only [execUnload, hnone, if_neg hregion]
  unfold slotUnloaded
  cases (slotOf s s.cip.slotSel).st <;> rfl

/-- An operation on data that ends frees its core; a decryption whose tag fails is counted first. -/
theorem exec_dataOp_ends {c v : Nat} {ok : Bool} {o : CipOp} (ho : s.cip.cores.getD c none = some o)
    (hkind : o.kind = .decrypt ∨ o.kind = .encrypt) : exec (.cipherOpComplete c ok v) s = .next (cipFinish c (
      if o.kind = .decrypt ∧ (ok && ((pageAt s v).map (tagMatches s v)).getD true) = false then tagFailed v s else s)) := by
  rcases hkind with hkind | hkind
  · rw [exec_decrypt_ends ok v ho hkind, hkind]
    cases ok && ((pageAt s v).map (tagMatches s v)).getD true <;> rfl
  · rw [exec_encrypt_ends ok v ho hkind, if_neg (by simp [hkind])]

end Cipher

/-! ### A drained slice (R481, R483) -/

/-- A slice carved again and ON, noted as carved. -/
def sliceRecarved (q : Nat) (c : Carving) (s : State) : State :=
  { setSlice q .on (setSlice q .starting (recarve q c s)) with tsk := { (setSlice q .on (setSlice q .starting (recarve q c s))).tsk with
    recarved := setBit (setSlice q .on (setSlice q .starting (recarve q c s))).tsk.recarved q } }

theorem exec_sliceDrained {s : State} {q : Nat} {c : Carving} (hnext : s.tsk.next = some c) (hslice : s.tsk.slices.getD q .off = .stopping)
    (hempty : s.tsk.descs.any (fun e => e.1 / 2 ^ 22 = q && e.2.dstate = 1) = false) : exec (.sliceDrained q) s = .next (
      if (sliceRecarved q c s).img.livePools then liveLoop 1100 (carveNext c (sliceRecarved q c s))
      else { sliceRecarved q c s with tsk := { (sliceRecarved q c s).tsk with
        unit := .on, next := none, saveRsv := min (sliceRecarved q c s).tsk.saveRsv (saveRsvMax (sliceRecarved q c s)) } }) := by
  show execSliceDrained q s = _
  unfold execSliceDrained
  rw [hnext]
  exact congrArg Host.Outcome.next (if_neg (not_or.2 ⟨not_not.2 hslice, by rw [hempty]; decide⟩))

/-! ### The flash controller (R490 to R496, R503) -/

section Flash

variable {s : State}

theorem exec_programWord {off : Nat} (data : Nat) (halign : off % 8 = 0) (hoff : off < 0x800000) :
    exec (.programWord .firmware off data) s = .next (dropHalf .firmware (programWord off (data % 2 ^ 64) s)) :=
  congrArg (fun t => Host.Outcome.next (dropHalf .firmware t)) ((if_neg (not_not.2 rfl)).trans (if_neg (by omega)))

theorem exec_eraseSector {off : Nat} (halign : off % 8 = 0) (hoff : off < 0x800000) :
    exec (.eraseSector .firmware off) s = .next (dropHalf .firmware (eraseSector off s)) :=
  congrArg (fun t => Host.Outcome.next (dropHalf .firmware t)) ((if_neg (not_not.2 rfl)).trans (if_neg (by omega)))

theorem exec_enterBogOakRow {bank : Nat} (hbank : bank % 2 = 0) :
    exec (.enterBogOakRow .firmware bank) s = .next (dropHalf .firmware (enterMode 0 .row s)) :=
  congrArg (fun t => Host.Outcome.next (dropHalf .firmware t)) ((if_neg (not_not.2 rfl)).trans (if_neg (by omega)))

theorem exec_flashOpComplete {bank : Nat} {o : FlashOp} (ok readBack : Bool) (pulses : Nat) (hrunning : (bankOf s (bank % 2)).running = some o) :
    exec (.flashOpComplete bank ok readBack pulses) s = .next (flashDone (bank % 2) o ok readBack pulses s) := by
  show execFlashOpComplete bank ok readBack pulses s = _
  unfold execFlashOpComplete
  rw [hrunning]

/-- The journal's command registers written. -/
def journalAsked (type bank sector aux : Nat) (s : State) : State :=
  { s with ifc := { s.ifc with jType := type % 4, jBank := bank % 2, jSector := sector % 1024, jAux := aux % 1024 } }

/-- An entry that is no DONE of an erase refreshes nothing. -/
theorem exec_journalAppend {type : Nat} (bank sector aux : Nat) (hquag : s.nrg.quagOk = true) (htype : type % 4 = 1 ∨ type % 4 = 3) :
    exec (.journalAppend .firmware type bank sector aux true) s = .next (dropHalf .firmware
      (let u := journalAppend (type % 4) (bank % 2) (sector % 1024) (if type % 4 = 3 then aux % 1024 else 0)
        (journalAsked type bank sector aux s)
      { u with ifc := { u.ifc with jFailed := false } })) := by
  refine congrArg (fun t => Host.Outcome.next (dropHalf .firmware t)) ((if_neg (not_not.2 rfl)).trans ((if_neg (by omega)).trans
    ((if_neg (by simp [hquag])).trans ?_)))
  have hrefresh : ¬ (type % 4 = 2 ∧ (rewriteStaging (bank % 2 * 1024 + sector % 1024) (journalAsked type bank sector aux s)).isSome) :=
    fun h => by omega
  dsimp only
  rw [← journalAsked, if_neg hrefresh]

end Flash

/-! ### Events and the boot stages (R522, R542) -/

theorem exec_foldExpiry {s : State} {id : Nat} {f : FoldEntry} (hf : s.evr.folds.find? (fun f => f.id = id) = some f) :
    exec (.foldExpiry id) s = .next (evrKick (closeFold f s)) := by
  show execFoldExpiry id s = _
  unfold execFoldExpiry
  rw [hf]

theorem extend_ofBootStage {s : State} {reg i : Nat} (hi : reg % 8 = i) (h7 : i ≠ 7) (hstage : stageWrites s.sig.stage i = true) :
    exec (.extend .firmware reg) s =
      .next (dropHalf .firmware (raise 0x0F02 0x0B [(1, i), (8, leValue ((extValue s).take 8))] (extended i s))) := by
  subst hi
  rw [extend_accepted hstage, extendEvent, if_neg h7]
  rfl

/-! ### Power states and filters (R567, R576, R578, R586) -/

section Power

variable {s : State}

theorem exec_domainWake {kind d : Nat} (hserving : serving s = true) (hstopped : domainStopped s d = true) (h1 : 1 ≤ kind) (h10 : kind ≤ 10) :
    exec (.domainWake kind d) s = .next (needDomains kind (wakeMask d) s) :=
  congrArg Host.Outcome.next (if_neg (by simp [hserving, hstopped]; omega))

theorem exec_domainReady {d us : Nat} (hwaking : s.pwr.waking.testBit d = true) (hus : us ≤ s.pwr.stallUs) :
    exec (.domainReady d us) s = .next (
      let u : State := { s with pwr := { s.pwr with
        waking := clearBit s.pwr.waking d, on := setBit s.pwr.on d, stallMaxUs := max s.pwr.stallMaxUs (min us 0xFFFF) } }
      exitDone (streamFollow s (cmdKick (if 10 ≤ d ∧ (roleOf u (quadUnit (d - 10) 2)).state = .off then engRoles (d - 10) .active u
        else u)))) :=
  congrArg Host.Outcome.next (if_neg (by simp [hwaking]; omega))

/-- No block refuses the step, and its blocks are at rest. -/
theorem p2StepDone_free {l : List (Nat × Nat)} (hentry : s.pwr.entry = 1)
    (hfree : lowestRefusal (p2Refusals s s.pwr.entryStep ++ l.filter (blockRefusal s s.pwr.entryStep)) = none)
    (hrest : stepBusy s s.pwr.entryStep = false) : exec (.p2StepDone l) s = .next (p2Advance s) := by
  show Host.Outcome.next (if s.pwr.entry ≠ 1 then s else _) = _
  rw [if_neg (not_not.2 hentry), hfree]
  exact congrArg Host.Outcome.next (if_neg (by simp [hrest]))

section Filters

variable {p : FilterPin} (haon : s.pwr.aonUp = true)
include haon

theorem filterInputEdge_asserted {level : Bool} (short : Bool) (hidle : (filterOf p s).st = .idle) (hlevel : assertedLevel p level = true)
    (hused : pinUsed p s = true) : exec (.filterInputEdge p level short) s =
      .next (setFilter p { filterOf p s with level := level, seen := true, st := .qualify } s) := by
  refine congrArg Host.Outcome.next ((if_neg (by simp [haon])).trans ((if_pos ⟨hidle, hlevel, hused⟩).trans ?_))
  rw [hlevel, Bool.or_true]

theorem filterTimer_qualified (hqualify : (filterOf p s).st = .qualify) (hlevel : assertedLevel p (filterOf p s).level = true) :
    exec (.filterTimer p) s = .next (pinAsserted p (setFilter p { filterOf p s with st := .asserted } s)) := by
  refine congrArg Host.Outcome.next ((if_neg (by simp [haon])).trans ?_)
  simp only [hqualify, hlevel, if_true]

theorem filterTimer_released (hasserted : (filterOf p s).st = .asserted) (hlevel : assertedLevel p (filterOf p s).level = false) :
    exec (.filterTimer p) s = .next (pinReleased p (setFilter p { filterOf p s with st := .idle } s)) := by
  refine congrArg Host.Outcome.next ((if_neg (by simp [haon])).trans ?_)
  simp only [hasserted, hlevel]
  rfl

end Filters

end Power

/-! ### The statement -/

/-- Settles O57: one equation for each command, cited by name (R438 to R448, R468 to R483, R487 to R503, R522, R541 to R546, R566 to R587, R617;
log 46, 64, 75, 104, 123, 144). -/
theorem completeCipherFlashTrustAndPower : Obligations.CompleteCipherFlashTrustAndPower := by
  unfold Obligations.CompleteCipherFlashTrustAndPower
  refine ⟨?windowRead, ?windowWrite, ?windowTimeout, ?clasp, ?claspFree, ?keyData, ?load, ?derive, ?unload, ?clearStaging, ?rekey, ?dataOp,
    ?coreFault, ?alarm, ?alarmAck, ?alloc, ?share, ?release, ?slice, ?program, ?erase, ?counter, ?status, ?row, ?toRead, ?sequence, ?flashRead,
    ?flashDone, ?journal, ?fold, ?cursorLoad, ?cursorNext, ?cursorDone, ?extend, ?fromRom, ?fromLoader, ?commit, ?kick, ?idle, ?wake, ?ready,
    ?stall, ?stepDone, ?stopTimeout, ?edge, ?asserted, ?released, ?otherRail, ?coreRail⟩
  case windowRead => exact fun s path addr width hcore hlow hhigh hok => windowRead_inRange path hcore hlow hhigh hok
  case windowWrite => exact fun s path addr width v fact hcore hlow hhigh hok => windowWrite_inRange path hcore hlow hhigh hok v fact
  case windowTimeout => exact fun s tag a ha => windowReadTimeout_ends ha
  case clasp =>
    rintro s path _ hthaw howner hfree rfl
    rw [exec_claspWrite path _ (mode_of_thawed hthaw), if_pos ⟨howner, hfree, rfl⟩]
  case claspFree =>
    intro s path hthaw howner hheld
    rw [exec_claspWrite path 0 (mode_of_thawed hthaw), if_neg (by simp [hheld, howner]), if_pos ⟨howner, hheld, rfl⟩]
  case keyData =>
    intro s path k v hthaw hk hclasp
    rw [exec_keyDataWrite path 8 v (mode_of_thawed hthaw) hk, if_neg (by simp [hclasp]), if_neg (not_not.2 rfl)]
  case load => exact fun s path hcommon hload => load_accepts hcommon hload
  case derive =>
    rintro s path root _ hclasp hthaw rfl hcommon hderive
    exact derive_accepts hclasp (mode_of_thawed hthaw) hcommon hderive
  case unload =>
    rintro s path _ hnone hoff rfl
    rw [exec_unload hnone hoff, slotUnloaded]
    cases (slotOf s s.cip.slotSel).st <;> rfl
  case clearStaging => exact fun s path hclasp hdump => exec_clearStaging hclasp hdump
  case rekey =>
    exact fun s i c hcore h1 h2 h3 => (exec_rekeyDone hcore).1 ⟨h1, h2, Option.isSome_iff_ne_none.1 h3⟩
  case dataOp => exact fun s c v ok o ho hkind => exec_dataOp_ends ho hkind
  case coreFault => exact fun s c hc hok hidle => congrArg Host.Outcome.next (coreFail_idle hc hok hidle)
  case alarm => exact fun s src hcore hen => (exec_alarm src hcore).trans (congrArg Host.Outcome.next (if_pos hen))
  case alarmAck =>
    exact fun s cool hcore hlatch hholds => (exec_alarmAck cool s).trans (congrArg Host.Outcome.next (if_pos ⟨hcore, hlatch, hholds⟩))
  case alloc =>
    rintro s l _ hon rfl
    exact exec_alloc l hon
  case share =>
    rintro s a dest p _ rfl hcause hdest hholder
    exact (exec_share dest hcause).trans (congrArg Host.Outcome.next (if_neg (by simp [descMet, hdest, hholder])))
  case release =>
    rintro s r p _ rfl hcause
    exact exec_release hcause
  case slice =>
    rintro s q c _ hnext hslice hempty rfl
    exact exec_sliceDrained hnext hslice hempty
  case program => exact fun s off data halign hoff => exec_programWord data halign hoff
  case erase => exact fun s off halign hoff => exec_eraseSector halign hoff
  case counter => exact fun s bank => rfl
  case status => exact fun s bank => rfl
  case row => exact fun s bank hbank => exec_enterBogOakRow hbank
  case toRead => exact fun s bank => rfl
  case sequence => exact fun s bank hstep => congrArg Host.Outcome.next (if_neg hstep)
  case flashRead => exact fun s path off width bad => rfl
  case flashDone => exact fun s bank pulses ok readBack o ho => exec_flashOpComplete ok readBack pulses ho
  case journal =>
    rintro s type bank sector aux _ hquag htype rfl
    exact exec_journalAppend bank sector aux hquag htype
  case fold => exact fun s id f hf => exec_foldExpiry hf
  case cursorLoad => exact fun s path seq => rfl
  case cursorNext => exact fun s path => rfl
  case cursorDone => exact fun s path => rfl
  case extend =>
    rintro s reg i _ _ hi h7 hstage rfl rfl
    exact extend_ofBootStage hi h7 hstage
  case fromRom => exact fun s certOk h => advance_fromRom certOk h
  case fromLoader => exact fun s certOk h => advance_fromLoader certOk h
  case commit =>
    rintro s path _ hfirmware harray hmode hquag rfl
    exact commit_granted hfirmware harray hmode hquag
  case kick => exact fun s hruns => congrArg Host.Outcome.next (if_neg (by simp [hruns]))
  case idle => exact fun s d hentry hidle h6 h10 hquad hstate hrest => idleTimer_memory hentry hidle h6 h10 hquad hstate hrest
  case wake => exact fun s kind d hserving hstopped h1 h10 => exec_domainWake hserving hstopped h1 h10
  case ready =>
    rintro s d us _ hwaking hus rfl
    exact exec_domainReady hwaking hus
  case stall =>
    rintro s d _ hwaking rfl
    exact congrArg Host.Outcome.next (if_neg (by simp [hwaking]))
  case stepDone => exact fun s l hentry hfree hrest => p2StepDone_free hentry hfree hrest
  case stopTimeout => exact fun s u hentry hblock => p2StopTimeout_refuses hentry hblock
  case edge => exact fun s p level short haon hidle hlevel hused => filterInputEdge_asserted haon short hidle hlevel hused
  case asserted => exact fun s p haon hqualify hlevel => filterTimer_qualified haon hqualify hlevel
  case released => exact fun s p haon hasserted hlevel => filterTimer_released haon hasserted hlevel
  case otherRail => exact fun s rail mv haon hpg hrail => railFault_other mv haon hpg hrail
  case coreRail => exact fun s rail mv haon hpg hrail => railFault_core mv haon hpg hrail

end Sys2Proof.Machine
end

section PowerOnDumpAndGauge

/-! PROOFS. Power-on, the resets of the link, region requests, the input watch, the dump and the gauge complete (18 R580; 19 R609; 03 R109;
03 R107; 05 R164; 05 R190; 06 R212; 08 R275; 08 R277; 06 R231; 06 R236; 02 R93). The equations of these commands are those of the
sections before; what is added here is the mode a reset of the host finds and the commands no section has had to run. -/

namespace Sys2Proof.Machine

/-! ### Power and the core's rails -/

theorem inputReturn_coldStarts {s : State} (headerOk : Bool) (bad : List Nat) (haon : s.pwr.aonUp = true) (hdown : s.pwr.poweredDown = true) :
    exec (.inputReturn headerOk bad) s = .next (coldStart (headerOk && s.aos.valid) bad s) :=
  congrArg Host.Outcome.next (if_pos (by simp [haon, hdown]))

theorem powerOn_coldStarts {s : State} (haon : s.pwr.aonUp = false) : exec .powerOn s = .next (coldStart false [] s) :=
  congrArg Host.Outcome.next (if_neg (by simp [haon]))

theorem exec_coreEnRetry {s : State} (h : s.pwr.retryWait = true) : exec .coreEnRetry s =
    .next { s with pwr := { s.pwr with coreEn := true, retryWait := false, railTries := s.pwr.railTries + 1 } } :=
  congrArg Host.Outcome.next (if_pos h)

theorem exec_clockDegraded {s : State} (hpg : s.pwr.corePg = true) (hfirst : s.spn.clockDegraded = false) (hcold : s.pwr.lastKind = 1)
    (hboot : s.spn.mode = .boot) (hstep : s.img.bootStep = 0) :
    exec .clockDegraded s = .next (raise 0x1001 0x04 [] { s with spn := { s.spn with clockDegraded := true } }) :=
  congrArg Host.Outcome.next (if_neg (by simp [hpg, hfirst, hcold, hboot, hstep]))

/-! ### Scrub, parity and marks -/

theorem exec_sramScrub {s : State} (found : List SramWord) (hpg : s.pwr.corePg = true) : exec (.sramScrub found) s = .next
    (((found ++ (quadList s).flatMap (plantedWords s)).filter
      (fun w => decide (w.quad < 4) && decide (w.addr < sramWords w.array))).foldl (fun t w => sramFinding w t)
      { s with qdc := s.qdc.map (fun d => { d with sramPlanted := [] }) }) :=
  congrArg Host.Outcome.next (if_neg (by simp [hpg]))

section Sde

variable {s : State} {q : Nat} (hpg : s.pwr.corePg = true) (hquad : s.spn.quadEn.testBit q = true)
include hpg hquad

theorem sdeStallTimeout_fails (hrun : domainStopped s (dQeng q) = false) : exec (.sdeStallTimeout q) s = .next (sdeFail q s) :=
  congrArg Host.Outcome.next (if_neg (by simp [hpg, hquad, hrun]))

theorem sdeParityError_fails : exec (.sdeParityError q) s = .next (sdeFail q s) :=
  congrArg Host.Outcome.next (if_neg (by simp [hpg, hquad]))

end Sde

theorem exec_markSet {s : State} {q : Nat} (hmode : modeIn [.boot, .test] s = true) (hpg : s.pwr.corePg = true) (hq : q < 4)
    (hchip : (qdcOf s q).setChip ≤ 9) (hfree : (qdcOf s q).marks.any (fun e => e.1 = (qdcOf s q).setSlot) = false) :
    exec (.markSet q) s = .next (chipMark q (qdcOf s q).setSlot (qdcOf s q).setChip s) := by
  refine congrArg Host.Outcome.next (if_neg ?_)
  simp only [hmode, hpg, hfree]
  simp
  omega

/-! ### Failed erases and decoded reads of the vault -/

theorem exec_vaultEraseComplete {s : State} {n : Nat} {failed bad : List Nat} (slow : List Nat) (h : s.vlt.erasing.contains n = true)
    (hbad : (failed.filter (fun v => vpaSeg v = n)).map blockVpa = bad) (hsome : bad ≠ []) :
    exec (.vaultEraseComplete n failed slow) s = .next (streamFollow s
      ((slow.filter (fun v => vpaSeg v = n && !(bad.contains (blockVpa v)))).foldl (fun t v => markWorn v 1 t)
        (bad.foldl (fun t v => raise 0x0805 (quadUnit (vpaCh v / 4) (4 + vpaCh v % 4)) [(5, v)]
          (retireBlock v (modVch (vpaCh v) (fun c => { c with eraseFail := satAdd 16 c.eraseFail 1 }) t))) s))) := by
  subst hbad
  show execVaultEraseComplete n failed slow s = _
  simp only [execVaultEraseComplete, h, Bool.not_true, Bool.false_eq_true, if_false, if_neg hsome]

theorem scrubCalled_decoded {v load : Nat} (s : State) (h : load < 6000) : scrubCalled v load true s = s :=
  if_neg (by simp; omega)

theorem pageRead_decoded (v : Nat) (words : List Nat) (load : Nat) (hard again : Bool) (s : State) :
    pageRead v words load hard true again s = modVch (vpaCh v) (readCounted words load hard false) s := rfl

/-! ### The link and its resets -/

theorem exec_linkDown {s : State} (hup : s.hlk.linkUp = true) :
    exec .linkDown s = .next (settle (raise 0x0202 0x01 [] (linkDrops (linkDown s)))) :=
  congrArg Host.Outcome.next (if_neg (by simp [hup]))

theorem exec_functionReset {s : State} (hpresented : s.hlk.presented = true) :
    exec .functionReset s = .next (settle (hostReset 4 (raise 0x0205 0x01 [] s))) :=
  congrArg Host.Outcome.next (if_neg (by simp [hpresented]))

/-- The state that the assertion of PERST_N leaves before the mode decides what follows. -/
def perstReset (s : State) : State :=
  hostReset 3 (raise 0x0204 0x01 [] (uncommitAll (linkDown { s with hlk := { s.hlk with perst := true } })))

theorem perstReset_mode (s : State) : (perstReset s).spn.mode = s.spn.mode := by
  have hasserted : Keeps 0x73e7bc s { s with hlk := { s.hlk with perst := true } } :=
    (Keeps.refl _ s).direct (fun p hp => by cases p <;> simp_all [Part.bit, Part.same])
  have hkeeps : Keeps 0x73e7bc s (perstReset s) :=
    hostReset_keeps 3 (by decide) (raise_keeps _ _ _ (by decide) (uncommitAll_keeps (by decide) (linkDown_keeps (by decide) hasserted)))
  exact hkeeps.modeEq (by decide)

section Perst

variable {s : State} (hreleased : s.hlk.perst = false) (hpg : s.pwr.corePg = true)
include hreleased hpg

theorem exec_perstNAssert : exec .perstNAssert s =
    .next (if modeIn [.boot, .recovery, .test] (perstReset s) then warmBoot (perstReset s) else settle (perstReset s)) :=
  congrArg Host.Outcome.next ((if_neg (by simp [hreleased])).trans (if_neg (by simp [hpg])))

theorem perstNAssert_restartsBoot (hmode : modeIn [.boot, .recovery, .test] s = true) :
    exec .perstNAssert s = .next (warmBoot (perstReset s)) := by
  have hafter : modeIn [.boot, .recovery, .test] (perstReset s) = true := by rw [modeIn, perstReset_mode]; exact hmode
  rw [exec_perstNAssert hreleased hpg, if_pos hafter]

theorem perstNAssert_keepsDataPath (hmode : modeIn [.restore, .service, .dump, .parked] s = true) :
    exec .perstNAssert s = .next (settle (perstReset s)) := by
  have hafter : ¬ modeIn [.boot, .recovery, .test] (perstReset s) = true := by
    rw [modeIn, perstReset_mode]
    simp only [modeIn, List.contains_cons, List.contains_nil, Bool.or_false, Bool.or_eq_true, beq_iff_eq] at hmode ⊢
    rcases hmode with h | h | h | h <;> simp [h]
  rw [exec_perstNAssert hreleased hpg, if_neg hafter]

end Perst

/-! ### The FULL anchor -/

theorem anchorTaken_eq (n : Nrg) : anchorTaken n = { n with
    q := n.qFull, anchor := .full, countDrift := false, qHigh := n.qFull, qLow := n.qFull
    cycles := if n.qFull < 10 * (n.qHigh - n.qLow) then n.cycles + 1 else n.cycles } := by
  simp [anchorTaken]

/-- The anchor taken from the refreshed estimates `u`, whose fields of the store are those of the state before. -/
theorem fullAnchor_anchorsFrom {s u v : State} (hu : refreshEstimates s = u) (hpresent : u.nrg.storePresent = true)
    (hcells : u.nrg.cells ≠ 0) (hv : raise 0x0405 0x03 [] (refreshEstimates { u with nrg := anchorTaken u.nrg }) = v) :
    exec .fullAnchor s = .next (gaugeAfter s.nrg (sendInput (anchorFollowed v))) := by
  obtain ⟨hpresent', hcells'⟩ := storeFields_refreshEstimates s
  subst hu
  rw [fullAnchor_anchors (hpresent'.symm.trans hpresent) (fun h => hcells (hcells'.trans h)), ← hv, anchoredFull]

/-! ### Quagmire, and the checks of a live image -/

theorem exec_pendingWriteback {s : State} (h : quagConditions s = true) {u v : State}
    (hu : pairIssue (gaugeIssue (appendDone { s with nrg := { s.nrg with quagOk := true } })) = u)
    (hv : u.aos.marks.foldl (fun t i => topUp i t) { u with aos := { u.aos with marks := [] } } = v) :
    exec .pendingWriteback s = .next (ifcKickAll (evrKick
      (if v.aos.armPending then nonceAsk 3 0 0 0 0 { v with aos := { v.aos with armPending := false } } else v))) := by
  subst hu hv
  exact congrArg Host.Outcome.next (if_neg (by simp [h]))

theorem imageChecksDone_checked {s : State} {x : SlotCheck} {cause bad i : Nat} {rs : List RawRecord} {u v : State}
    (hstate : s.img.liveState = 1) (hop : s.img.liveOp = 1) (hx : checkSlot s.img.liveSlot s = x)
    (hrecords : checkRecords x.bytes = (bad, i, rs)) (hcause : (if x.cause ≠ 0 then x.cause else bad) = cause)
    (hu : { s with img := { s.img with liveGo := false
                                       slotA := if s.img.liveSlot = 0 then slotRegOf { x with cause := cause } else s.img.slotA
                                       slotB := if s.img.liveSlot = 1 then slotRegOf { x with cause := cause } else s.img.slotB } } = u)
    (hv : (if cause = 0 then (skippedTypes rs).foldl (fun t ty => raise 0x0105 0x0C [(1, ty)] t) u else u) = v) :
    exec .imageChecksDone s =
      .next { v with img := { v.img with liveState := if cause = 0 then 3 else 4, liveCause := cause } } := by
  subst hx hcause hu hv
  show execImageChecksDone s = _
  unfold execImageChecksDone
  simp only [hstate, hrecords, ne_eq, not_true_eq_false, if_false]
  exact congrArg Host.Outcome.next (if_pos hop)

/-! ### The statement -/

/-- Settles O58: a clause for each event, each by the equation of its command in the state it is defined for (18 R580; 19 R609; 03 R107,
R109; 04 R164; 05 R190; 06 R212, R231, R236; 08 R275, R277; 02 R93; log 15, 37, 62). -/
theorem completePowerOnDumpAndGauge : Obligations.CompletePowerOnDumpAndGauge := by
  unfold Obligations.CompletePowerOnDumpAndGauge
  refine ⟨?inputReturn, ?tempRange, ?sramScrub, ?patrolRead, ?sdeStall, ?markSet, ?arm, ?plant, ?erased, ?eraseFailed, ?read, ?parity,
    ?powerOn, ?coreRise, ?railRise, ?pgTimeout, ?retry, ?clock, ?rtc, ?armed, ?linkDown, ?perstKept, ?perstBoot, ?perstReleased,
    ?functionReset, ?gpf1, ?gpf2, ?array, ?doe, ?start, ?stop, ?input, ?recompute, ?below, ?above, ?qualified, ?recovered, ?settleLimit,
    ?survived, ?rideExpiry, ?early, ?testDump, ?coastEnd, ?preflush, ?offset, ?anchor, ?report, ?hibernate, ?wake, ?writeback, ?learning,
    ?checked⟩
  case inputReturn => exact fun s headerOk bad haon hdown => inputReturn_coldStarts headerOk bad haon hdown
  case tempRange => exact fun s k out temp hpg hk hchange => exec_tempRange temp hpg hk hchange
  case sramScrub => exact fun s found hpg => exec_sramScrub found hpg
  case patrolRead =>
    rintro s q g cl errs again r u t hruns rfl rfl rfl hline rfl
    exact (patrolRead_runs hruns).trans (congrArg Host.Outcome.next (if_pos hline))
  case sdeStall => exact fun s q hpg hquad hrun => sdeStallTimeout_fails hpg hquad hrun
  case markSet => exact fun s q hmode hpg hq hchip hfree => exec_markSet hmode hpg hq hchip hfree
  case arm =>
    intro s q hmode hquad h1 h5
    rw [exec_injectArm hmode hquad h1 (by omega), if_neg (by omega), if_neg (by omega), if_neg (by omega)]
  case plant =>
    intro s q hmode hquad h6 h8
    rw [exec_injectArm hmode hquad (by omega) h8]
    by_cases htarget : (qdcOf s q).target = 8
    · simp [htarget]
    · have h67 : (qdcOf s q).target = 6 ∨ (qdcOf s q).target = 7 := by omega
      rcases h67 with h | h <;> simp [h]
  case erased => exact fun s n slow h => vaultEraseComplete_passes (by simpa using h) slow
  case eraseFailed =>
    rintro s n failed slow bad u h hbad hsome rfl
    exact exec_vaultEraseComplete slow h hbad hsome
  case read =>
    intro s v ones words hard rebuilt last hpage hserving herased hload
    have hthere : pageAt s v ≠ none := Option.isSome_iff_ne_none.1 hpage
    rw [exec_vaultReadComplete hthere hserving herased rfl rfl, pageRead_decoded, scrubCalled_decoded _ hload]
    rfl
  case parity => exact fun s q hpg hquad => sdeParityError_fails hpg hquad
  case powerOn => exact fun s haon => powerOn_coldStarts haon
  case coreRise => exact fun s hen hpg hrail => corePgRise_starts hen hpg hrail
  case railRise => exact fun s hen hpg hrail => corePgRise_resets hen hpg hrail
  case pgTimeout => exact fun s hen hpg hrail => exec_corePgTimeout hen hpg hrail
  case retry => exact fun s h => exec_coreEnRetry h
  case clock => exact fun s hpg hfirst hcold hboot hstep => exec_clockDegraded hpg hfirst hcold hboot hstep
  case rtc => exact fun s haon hfirst => exec_rtcDegraded haon hfirst
  case armed =>
    intro s hboot hstep harmed
    exact congrArg Host.Outcome.next ((if_neg (by simp [hboot, hstep])).trans (if_pos harmed))
  case linkDown => exact fun s hup => exec_linkDown hup
  case perstKept => exact fun s hreleased hpg hmode => perstNAssert_keepsDataPath hreleased hpg hmode
  case perstBoot => exact fun s hreleased hpg hmode => perstNAssert_restartsBoot hreleased hpg hmode
  case perstReleased => exact fun s => rfl
  case functionReset => exact fun s hpresented => exec_functionReset hpresented
  case gpf1 => exact fun s hup => congrArg Host.Outcome.next (if_pos hup)
  case gpf2 => exact fun s hup => congrArg Host.Outcome.next (if_pos hup)
  case array => exact fun s hsub => congrArg Host.Outcome.next (if_pos hsub)
  case doe => exact fun s => rfl
  case start => exact fun s hserving _ => exec_regionStart hserving
  case stop => exact fun s hserving _ => exec_regionStop hserving
  case input => exact fun s i h => exec_inputSet h
  case recompute => exact fun s hdump => exec_recompute hdump
  case below => exact fun s h => inputBelowPfail_good h
  case above => exact fun s h => congrArg Host.Outcome.next (if_pos h)
  case qualified => exact fun s h => congrArg Host.Outcome.next (if_pos h)
  case recovered => exact fun s h => settleRecovered_recovers h
  case settleLimit => exact fun s h => congrArg Host.Outcome.next (if_pos h)
  case survived => exact fun s h => rideThroughSurvived_recovers h
  case rideExpiry => exact fun s h => exec_rideThroughExpiry h
  case early => exact fun s h hneed => exec_earlyCommit h hneed
  case testDump => exact fun s htest hmet => testDump_commits htest hmet
  case coastEnd =>
    rintro s u v w hdump hphase rfl rfl rfl
    exact exec_coastEnd hdump hphase
  case preflush => exact fun s hset hwarn hod => preflushClear_ends hset hwarn hod
  case offset => exact fun s hawake => congrArg Host.Outcome.next (if_neg (by simp [hawake]))
  case anchor =>
    intro s u v hu hpresent hcells hv
    exact fullAnchor_anchorsFrom hu hpresent hcells (by rw [anchorTaken_eq]; exact hv)
  case report =>
    rintro s u rfl
    exact exec_reportUpdate s
  case hibernate => exact fun s hawake hdown => hibernateEnter_enters hawake hdown
  case wake => exact fun s => rfl
  case writeback => exact fun s u v h hu hv => exec_pendingWriteback h hu hv
  case learning => exact fun s hdue hretry hidle hready => learningAutoStart_starts hidle hready hdue hretry
  case checked => exact fun s x cause bad i rs u v hstate hop hx hrecords hcause hu hv =>
    imageChecksDone_checked hstate hop hx hrecords hcause hu hv

end Sys2Proof.Machine

end PowerOnDumpAndGauge

section BootLinkAndMemory

/-! PROOFS. The boot's commands, the role table, registers, the link, the host's accesses and the standard mailbox commands complete (20
R614; 02 R85; 09 R305; 01 R29, R30; 00 R11; 03 R105, R114, R115, R122, R124; 04 R134). Most equations are those of the sections before;
here stand the forms that those state for a narrower case: a boot after failures, an access of any width, a burst of a poisoned write,
a commit of any decoder. -/

namespace Sys2Proof.Machine

/-! ### The boot -/

theorem imageApply_loads {s : State} (cert : Bool) (hboot : s.spn.mode = .boot) (hpg : s.pwr.corePg = true) (hstep : s.img.bootStep = 0)
    (hstage : s.sig.stage = 1) (hready : openStarts s = [] ∨ s.nrg.quagOk = true) :
    exec (.imageApply cert) s = .next (loaderStage s) := by
  have hrom : s.sig.stage ≠ 0 := by omega
  rw [imageApply_inBoot cert hboot hpg hstep]
  exact congrArg Host.Outcome.next ((if_pos (by rw [if_neg hrom]; exact ⟨hboot, hstage, hready⟩)).trans (by rw [if_neg hrom]))

/-- The cache is empty, the epoch of the memory is new, and the vault's rails follow, where training is done. -/
def trainedCache (okMask : Nat) (s : State) : State :=
  useFree { channelsTrained okMask s with
    gst := { (channelsTrained okMask s).gst with dram := [], poison := [], deliberate := [] }
    kor := { (channelsTrained okMask s).kor with mepoch := Config.random (channelsTrained okMask s).free % 2 ^ 32 }
    pwr := { (channelsTrained okMask s).pwr with vltEn := !(channelsTrained okMask s).pwr.vaultOff } }

theorem dramTrainingDone_inBoot {s : State} (okMask : Nat) (hboot : s.spn.mode = .boot) (hstep : s.img.bootStep = 5) :
    exec (.dramTrainingDone okMask) s = .next (domainsOn (engDomains (trainedCache okMask s)) { trainedCache okMask s with
      vch := (trainedCache okMask s).vch.zipIdx.map
        (fun (e : Vch × Nat) => if populated (trainedCache okMask s) e.2 then { e.1 with state := 1 } else e.1)
      img := { (trainedCache okMask s).img with bootStep := 6 } }) := by
  have hat : decide (s.spn.mode = .boot ∧ s.img.bootStep = 5) = true := by simp [hboot, hstep]
  have hrun : ¬ (!decide (s.spn.mode = .boot ∧ s.img.bootStep = 5) &&
      !(decide (s.spn.mode = .parked) && bgRuns s 0xC005 && s.qdc.any (fun d => d.state = 1))) = true := by simp [hat]
  exact congrArg Host.Outcome.next ((if_neg hrun).trans (if_pos hat))

theorem exec_vaultInitDone {s : State} (badDies : List (Nat × Nat)) (badCh factory : List Nat) (readable fresh : Bool)
    (hboot : s.spn.mode = .boot) (hstep : s.img.bootStep = 6) : exec (.vaultInitDone badDies badCh factory readable fresh) s =
    .next (compareVault readable factory (channelsUp (initFailures badDies badCh (manifestFailures
      (if fresh then { s with vlt := {}, vch := s.vch.map (fun v => { v with factoryBad := List.replicate 8 0 }) } else s))))) :=
  congrArg Host.Outcome.next (if_neg (by simp [hboot, hstep]))

/-- A boot with live data in the vault restores from the map of its checkpoint. -/
theorem mapLoaded_fromCheckpoint {s : State} (scan : Bool) (noMark noHeader : List (Nat × Nat)) (unread : List Nat)
    (hboot : s.spn.mode = .boot) (hstep : s.img.bootStep = 15) (hlive : vaultLive s = true)
    (hckpt : (readopt (dumpRegsLoad s)).vlt.ckpt.isSome = true) : exec (.mapLoaded true scan noMark noHeader unread) s =
    .next (settle (bulkFollow (pairFollows (finishBoot .restore 0x0703 (restoreBegins 1 false ⟨noMark, noHeader, unread⟩
      (mergeFrom (readopt (dumpRegsLoad s)) ⟨noMark, noHeader, unread⟩ (((readopt (dumpRegsLoad s)).vlt.ckpt.map Ckpt.seq).getD 0)
        (((readopt (dumpRegsLoad s)).vlt.ckpt.map Ckpt.map).getD [])) (readopt (dumpRegsLoad s))))))) := by
  show execMapLoaded true scan noMark noHeader unread s = _
  simp [execMapLoaded, hboot, hstep, hlive, hckpt]

/-! ### Registers -/

section Local

variable {s : State} {addr width : Nat} (path : Path) (hpg : s.pwr.corePg = true) (hok : accessOk addr width = true)
  (hlocal : addr < 0x300000 ∨ 0x400000 ≤ addr)
include hpg hok hlocal

theorem registerWrite_local (value : Nat) (fact : Bool) :
    exec (.registerWrite path addr width value fact) s = .next (localWrite path addr width value fact (dropHalf path s)) :=
  congrArg Host.Outcome.next ((if_neg (by simp [hpg])).trans ((if_neg (by simp [hok])).trans (if_neg (by omega))))

theorem rcRead_local : exec (.rcRead path addr width) s = .next (localRead path addr width s) :=
  congrArg Host.Outcome.next ((if_neg (by simp [hpg])).trans ((if_neg (by simp [hok])).trans (if_neg (by omega))))

end Local

/-! ### The link and its decoders -/

/-- The link's registers where it has trained at a speed and a width. -/
def linkTrained (speed width : Nat) (s : State) : State := { s with hlk := { s.hlk with
  linkUp := true, speed := speed, width := width, degraded := decide (speed < 5) || decide (width < 8)
  retrains := satAdd 16 s.hlk.retrains (if s.hlk.linkUp then 1 else 0), sris := s.img.active.clocks.hostRef == 1 } }

theorem exec_linkUp {s : State} (speed width : Nat) (hpresented : s.hlk.presented = true) (hperst : s.hlk.perst = false) :
    exec (.linkUp speed width) s = .next (if speed < 5 ∨ width < 8
      then raise 0x020A 0x01 [] (raise 0x0201 0x01 [(1, speed), (1, width)] (linkTrained speed width s))
      else raise 0x0201 0x01 [(1, speed), (1, width)] (linkTrained speed width s)) := by
  refine congrArg Host.Outcome.next ((if_neg (by simp [hpresented, hperst])).trans ?_)
  by_cases hslow : speed < 5 ∨ width < 8
  · rw [if_pos hslow]
    exact if_pos (by simpa using hslow)
  · rw [if_neg hslow]
    exact if_neg (by simpa using hslow)

theorem hdmDecoderCommit_commits {s : State} {n base size ways skip : Nat} {d : Decoder} (hd : (decoders s)[n]? = some d)
    (hpresented : s.hlk.presented = true) (hfree : d.committed = false) (hok : commitOk n base size ways skip s = true) :
    exec (.hdmDecoderCommit n base size ways skip) s = .next (putDecoder n ⟨base, size, ways, skip, true, false⟩ s) := by
  show execHdmDecoderCommit n base size ways skip s = _
  simp only [execHdmDecoderCommit, hd]
  rw [if_neg (by simp [hpresented, hfree]), if_pos hok]

theorem hdmDecoderUncommit_uncommits {s : State} {n : Nat} {d : Decoder} (hd : (decoders s)[n]? = some d) (hset : d.committed = true)
    (hlast : ((decoders s)[n + 1]?).any Decoder.committed = false) :
    exec (.hdmDecoderUncommit n) s = .next (putDecoder n { d with committed := false, errNotCommitted := false } s) := by
  show execHdmDecoderUncommit n s = _
  simp only [execHdmDecoderUncommit, hd]
  rw [if_neg (by simp [hset]), if_neg (by simp [hlast])]

theorem exec_ecrcError {s : State} (correctable : Bool) (hup : s.hlk.linkUp = true) : exec (.ecrcError correctable) s = .next
    (raise 0x0209 0x01 [] (send (.aer correctable) { s with hlk := { s.hlk with
      ecrc := satAdd 16 s.hlk.ecrc 1
      pci := { s.hlk.pci with
        ecrcSeverity := !correctable
        aerCorrectable := if correctable then setBit s.hlk.pci.aerCorrectable 19 else s.hlk.pci.aerCorrectable
        aerUncorrectable := if correctable then s.hlk.pci.aerUncorrectable else setBit s.hlk.pci.aerUncorrectable 19 } } })) :=
  congrArg Host.Outcome.next (if_neg (by simp [hup]))

/-! ### The host's accesses -/

theorem all_ne_of_any_eq_false {α : Type} {f : α → Nat} {tag : Nat} {l : List α} (h : l.any (fun x => f x = tag) = false) :
    l.all (fun x => f x ≠ tag) = true := by simpa using h

/-- A burst's line in the cache, poisoned where the write is. -/
def burstStored (w : WriteRec) (s : State) : State :=
  if w.poisoned then poisonLine w.line true (storeLine w.line w.data w.mask s) else storeLine w.line w.data w.mask s

/-- The quadrant has no line of this address asked for any more, and a fault armed for the next write is planted. -/
def burstPlanted (line : Nat) (s u : State) : State :=
  plantOnWrite (quadOf s (granuleOf line)) line (modQdc (quadOf s (granuleOf line)) (fun d => { d with asked := sdel d.asked line }) u)

theorem lineWritten_lands {s : State} {tag : Nat} {w : WriteRec} (hfind : s.hlk.writes.find? (fun x => x.tag = tag) = some w)
    (hburst : w.inDram = false) (hhold : w.hold = .none) (hreleased : w.released = false)
    (holder : (s.hlk.writes.takeWhile (fun x => x.tag ≠ tag)).any (fun x => x.line = w.line && !x.inDram) = false) :
    exec (.lineWritten tag) s = .next (settle (lineLands (granuleOf w.line) (modWrite tag (fun x => { x with inDram := true })
      (noteRepairs w.line (burstPlanted w.line s (burstStored w s)))))) := by
  have hfirst : ¬ (w.inDram = true ∨ w.hold ≠ .none ∨ w.released = true ∨
      (s.hlk.writes.takeWhile (fun x => x.tag ≠ tag)).any (fun x => x.line = w.line && !x.inDram) = true) := by
    rw [holder]
    simp [hburst, hhold, hreleased]
  show execLineWritten tag s = _
  simp only [execLineWritten, hfind]
  rw [if_neg hfirst]
  rfl

/-! ### Poison and logs by the mailbox -/

section Mailbox

variable {s : State} (via : Via) (hserves : Serves s)
include hserves

/-- The effect of a command that is a standard one by its definition, outside DUMP. -/
theorem exec_standard {op : Nat} {k : State → State} (hdump : s.spn.mode ≠ .dump) :
    (.next (standard via op false k s) : Result) = .next (k s) :=
  congrArg Host.Outcome.next (standard_outsideDump via hserves hdump)

theorem injectPoison_marks {dpa : Nat} (htest : s.spn.mode = .test) (hline : lineOk s dpa = true) (hlimit : s.hlk.injected.length < 16) :
    exec (.injectPoison via dpa) s = .next (reply via 0x4301 .success 0 [] (msix 10 (poisonInjected dpa s))) := by
  show Host.Outcome.next (standard via 0x4301 false _ s) = _
  rw [standard_serves hserves fun h => by simp [htest] at h, if_neg (not_not.2 htest), if_neg (by simp [hline, hlimit])]
  rfl

/-- CLEAR_POISON stores its data where the line is poisoned, and signals where it leaves an injected granule without poison. -/
theorem clearPoison_clears {dpa : Nat} {u : State} (data : BitVec 512) (htest : s.spn.mode = .test) (hline : lineOk s dpa = true)
    (hu : u = if linePoisoned s (dpa / 64) then storeLine (dpa / 64) data (2 ^ 64 - 1) s else s) :
    exec (.clearPoison via dpa data) s = .next (reply via 0x4302 .success 0 [] (if s.hlk.injected.contains (dpa / 16384) ∧
      !((List.range 256).any (fun k => linePoisoned u (dpa / 16384 * 256 + k)))
        then msix 10 { u with hlk := { u.hlk with injected := sdel u.hlk.injected (dpa / 16384) } } else u)) := by
  show Host.Outcome.next (standard via 0x4302 false _ s) = _
  rw [standard_serves hserves fun h => by simp [htest] at h, if_neg (not_not.2 htest), if_neg (by simp [hline]), hu]

theorem getLog_answers {uuid len : Nat} (off : Nat) (hlen : len ≤ 4096) (hlog : uuid = celUuid ∨ uuid = vendorLogUuid) :
    exec (.getLog via uuid off len) s = .next (reply via 0x0401 .success 0
      ((((if uuid = celUuid then celBytes s else sedgeLogBytes s).drop off).take len).map (fun x => (1, x)))
      (if uuid = celUuid then { s with free := s.free + listedOpcodes.length } else s)) := by
  have hasked : ¬ (4096 < len ∨ uuid ≠ celUuid ∧ uuid ≠ vendorLogUuid) := by
    rintro (h | ⟨hcel, hvendor⟩)
    · omega
    · exact hlog.elim hcel hvendor
  show Host.Outcome.next (standard via 0x0401 true _ s) = _
  rw [standard_serves hserves fun _ => rfl, if_neg hasked]

end Mailbox

/-! ### The statement -/

/-- Settles O53: a clause for each command, by its equation in the state where it executes normally (00 R11; 01 R29, R30; 02 R85; 03 R105,
R114, R115, R122, R124; 04 R134; 09 R305; 20 R614; log 4, 11, 27, 129). -/
theorem completeBootLinkAndMemory : Obligations.CompleteBootLinkAndMemory := by
  unfold Obligations.CompleteBootLinkAndMemory
  refine ⟨?straps, ?image, ?training, ?vault, ?map, ?message, ?stale, ?role, ?write, ?read, ?linkUp, ?commit, ?uncommit, ?memWrite,
    ?memRead, ?lineWritten, ?ecrc, ?identify, ?health, ?getAlert, ?setAlert, ?getShutdown, ?setShutdown, ?poisonList, ?inject, ?clear,
    ?logs, ?log, ?records, ?clearRecords, ?getPolicy, ?setPolicy, ?fwInfo, ?transfer⟩
  case straps => exact fun s id headcap test hpg hfirst => exec_strapSample id headcap test hpg hfirst
  case image => exact fun s cert hboot hpg hstep hstage hready => imageApply_loads cert hboot hpg hstep hstage hready
  case training =>
    rintro s okMask u v hboot hstep rfl rfl
    exact dramTrainingDone_inBoot okMask hboot hstep
  case vault =>
    exact fun s badDies badCh factory readable fresh hboot hstep =>
      exec_vaultInitDone badDies badCh factory readable fresh hboot hstep
  case map =>
    rintro s ck scan noMark noHeader unread hboot hstep hlive hckpt rfl
    exact mapLoaded_fromCheckpoint scan noMark noHeader unread hboot hstep hlive hckpt
  case message =>
    rintro s m bad hpg htarget hsource hmatch rfl
    exact messageArrival_accepts 0 hpg htarget hsource hmatch
  case stale => exact fun s m hbounced => staleRole_resends (by omega) (by omega)
  case role => exact fun s func cover hpg htest hidx => roleDataWrite_inTest func cover hpg htest (by omega)
  case write => exact fun s path addr width value fact hpg hok hlocal => registerWrite_local path hpg hok hlocal value fact
  case read => exact fun s path addr width hpg hok hlocal => rcRead_local path hpg hok hlocal
  case linkUp =>
    rintro s speed width u hpresented hperst rfl
    exact exec_linkUp speed width hpresented hperst
  case commit => exact fun s n base size ways skip d hd hpresented hfree hok => hdmDecoderCommit_commits hd hpresented hfree hok
  case uncommit => exact fun s n d hd hset hlast => hdmDecoderUncommit_uncommits hd hset hlast
  case memWrite =>
    rintro s tag hpa line mask r data bad hup hline hcredit hfresh hopen hserved hregion rfl
    exact memWrite_served mask data hup hline hcredit (all_ne_of_any_eq_false hfresh) hopen hserved hregion
  case memRead =>
    intro s tag hpa line errs again hup hline hcredit hfresh hopen hserved hstate hready
    exact memRead_waits errs again hup hline hcredit (all_ne_of_any_eq_false hfresh) hopen hserved hstate hready
  case lineWritten =>
    intro s tag w hfind hburst hhold hreleased holder
    exact ⟨_, _, rfl, rfl, lineWritten_lands hfind hburst hhold hreleased holder⟩
  case ecrc => exact fun s correctable hup => exec_ecrcError correctable hup
  case identify => exact fun s via hserves => congrArg Host.Outcome.next (answer_serves hserves fun _ => rfl)
  case health => exact fun s via temp hserves => exec_getHealthInfo via hserves temp
  case getAlert => exact fun s via hserves hdump => congrArg Host.Outcome.next (answer_serves hserves fun h => absurd h hdump)
  case setAlert =>
    exact fun s via life hot cold corrected hserves hdump =>
      exec_standard via hserves hdump
  case getShutdown => exact fun s via hserves hdump => congrArg Host.Outcome.next (answer_serves hserves fun h => absurd h hdump)
  case setShutdown => exact fun s via v hserves hdump => exec_standard via hserves hdump
  case poisonList =>
    exact fun s via dpa len hserves hdump =>
      congrArg Host.Outcome.next (answer_serves hserves fun h => absurd h hdump)
  case inject => exact fun s via dpa hserves htest hline hlimit => ⟨_, rfl, injectPoison_marks via hserves htest hline hlimit⟩
  case clear => exact fun s via dpa data hserves htest hline => ⟨_, rfl, clearPoison_clears via hserves data htest hline rfl⟩
  case logs => exact fun s via hserves hdump => congrArg Host.Outcome.next (answer_serves hserves fun h => absurd h hdump)
  case log => exact fun s via uuid off len hserves hlen hlog => getLog_answers via hserves off hlen hlog
  case records => exact fun s via log hserves hlog => exec_getEventRecords via hserves hlog
  case clearRecords => exact fun s via log count all hserves hdump hlog => exec_clearEventRecords via hserves hdump hlog count all
  case getPolicy => exact fun s via hserves hdump => congrArg Host.Outcome.next (answer_serves hserves fun h => absurd h hdump)
  case setPolicy =>
    exact fun s via info warn fail fatal hserves hdump =>
      exec_standard via hserves hdump
  case fwInfo => exact fun s via hserves => congrArg Host.Outcome.next (answer_serves hserves fun _ => rfl)
  case transfer =>
    exact fun s via slot l hserves hdump hbg hslot hpackage hcomps hquag =>
      transferFw_starts via hserves hdump hbg hslot hpackage (List.all_eq_true.1 hcomps) hquag

end Sys2Proof.Machine

end BootLinkAndMemory
